-- ==== Sys2Proof/Word.lean ====
section
/-! DEFINITION. The word types of the block: what the manual adds, shifts or masks is a bit vector (R9, R12). -/

namespace Sys2Proof

/-- A byte of a memory or a local store. -/
abbrev Byte := BitVec 8
/-- A control-space register (R12). -/
abbrev W32 := BitVec 32
/-- A scalar register, a seat control register, ring time, a web position (R9, R40). -/
abbrev W64 := BitVec 64
/-- A window descriptor (R54). -/
abbrev Desc := BitVec 128
/-- A vector register (R40). -/
abbrev VReg := BitVec 2048
/-- A predicate register (R40). -/
abbrev PReg := BitVec 256
/-- A pc or an offset in a code window (R40). -/
abbrev Pc := BitVec 40

end Sys2Proof
end

