-- ==== Sys2Proof/Syntax.lean ====
section
/-! DEFINITION. The commands of the block: every row of the table of operations and events is a
constructor of `Instr`. Operands name registers, units, seats and domains by number; what an outside
party supplies (a frame, a sample, a level, a measured value) is an operand too. -/

namespace Sys2Proof

/-- A seat ID of R45 and R67: `e * 128 + c * 8 + n`, or 0x3FF for the plant thread. -/
abbrev SeatIx := Nat
/-- A scalar register s0 to s31 (R77). -/
abbrev SReg := Nat
/-- A vector register v0 to v31 (R77). -/
abbrev VIx := Nat
/-- A predicate register p0 to p7 (R77). -/
abbrev PIx := Nat
/-- A window handle w0 to w15 (R77). -/
abbrev WReg := Nat
/-- A swath engine SE0 to SE4. -/
abbrev SeIx := Nat
/-- A core C0 to C11 of an engine. -/
abbrev CoreIx := Nat

/-- A lane L0 to L95. -/
abbrev LaneIx := Nat
/-- A link: port 0 to 23, or 24 + l for the drop-stream link of lane l. -/
abbrev LinkIx := Nat
/-- A message class, 0 RSP to 5 BLK. -/
abbrev ClassIx := Nat
/-- An Ethernet lane group. -/
abbrev EthIx := Nat

/-- A web 0 to 3, and an encoder or top-of-form input of the same range. -/
abbrev WebIx := Nat
/-- A mark slot. -/
abbrev MarkIx := Nat

/-- A host domain H0 to H7. -/
abbrev DomIx := Nat

/-- The second source of a vector operation: a vector register (VOP) or a scalar register (VOPS, R90). -/
inductive VSrc
  | v (n : Nat)
  | s (n : Nat)
  deriving DecidableEq, Repr

/-- Who makes a request: a seat (or the plant thread), a host on an Umrak port, or the debug access path.
    Mode and domain are never named by the requester: they are those of the seat or of the port (R116). -/
inductive Requester
  | seat (id : SeatIx)
  | host (port : Nat)
  | debug
  deriving DecidableEq, Repr

/-- The six message classes, in drain order (R152). -/
inductive MsgClass
  | rsp | tim | prn | mgt | req | blk
  deriving DecidableEq, Repr

/-- A frame the block sends: its header fields of R337 that name the sender's intent, and its payload. -/
structure Frame where
  /-- TYPE of R338 -/
  ftype : Nat
  /-- CLASS, 0 RSP to 5 BLK -/
  cls : Nat
  dnode : Nat
  snode : Nat
  payload : List Byte
  deriving DecidableEq, Repr

/-- The header of a received sequenced frame whose HCRC is good (R337). Links are the ports 0 to 23 and, at 24 + l,
    the drop-stream link of lane l. -/
structure RxHdr where
  link : Nat
  cls : Nat
  seq : W32
  retx : Bool
  posted : Bool
  dnode : Nat
  dport : Nat
  snode : Nat
  /-- credit return: class (7 none) and cumulative count -/
  crcls : Nat
  crcount : Nat
  deriving DecidableEq, Repr

/-- What is wrong with a received frame (R339). -/
inductive Corruption
  /-- HCRC fails -/
  | header
  /-- HCRC holds, and the frame is malformed or of a type the profile does not take -/
  | malformed (crcls crcount : Nat)
  /-- HCRC holds and the trailer fails -/
  | trailer (cls : Nat) (seq : W32) (crcls crcount : Nat)
  deriving DecidableEq, Repr

/-- Why a lane fails (R332). -/
inductive LaneFailure
  | signal | lock | mcrc | fec
  deriving DecidableEq, Repr

/-- A lane marker (R327). -/
structure Marker where
  blane : Nat
  width : Nat
  want : Nat
  txmask : Nat
  uidlo : W32
  deriving DecidableEq, Repr

/-- The payload of a TRAIN frame (R340). -/
structure Train where
  sub : Nat
  prof : Nat
  ver : Nat
  uid : W64
  node : Nat
  credits : List Nat
  expects : List W32
  deriving DecidableEq, Repr

/-- An Ethernet frame as the MAC sees it (R361, R362). -/
structure EthFrame where
  dst : BitVec 48
  src : BitVec 48
  /-- VID of its tag -/
  tag : Option Nat
  otherTag : Bool
  etherType : Nat
  len : Nat
  fcsOk : Bool
  deriving DecidableEq, Repr

/-- An island by its bit in SYS_ISLAND_ON (R15). -/
abbrev IslandIx := Nat
/-- Router (x, y) of the fabric, as 8y + x (R148). -/
abbrev RouterIx := Nat
/-- Output link 4 (8y + x) + d of a router (R178). -/
abbrev FabLinkIx := Nat
/-- A holder of page locks: 8 × island + unit (R162). -/
abbrev HolderIx := Nat
/-- A memory stack. -/
abbrev StackIx := Nat
/-- A memory region (R172). -/
abbrev RegionIx := Nat
/-- A node ID of a ring (R384). -/
abbrev NodeIx := Nat
/-- Symbol errors a read finds: page number, errors in the page, errors in its mirror copy; other pages have none (R165). -/
abbrev PageErrs := List (Nat × Nat × Nat)

/-- What a GVSP packet carries (R265, R267). -/
inductive GvspBody
  | leader (payloadType pixelFormat sizeX sizeY paddingX : Nat)
  | payload (bytes : List Byte)
  | trailer (sizeY : Nat)
  /-- a format the ICU does not support -/
  | other
  deriving DecidableEq, Repr

/-- A UDP datagram that carries a GVSP packet, as it reaches the device (R265). -/
structure GvspDatagram where
  /-- IPv4 with a good header checksum, no fragment, and a good UDP checksum where there is one -/
  sound : Bool
  srcIp : W32
  port : Nat
  /-- extended IDs -/
  ext : Bool
  status : Nat
  block : Nat
  packet : Nat
  body : GvspBody
  deriving DecidableEq, Repr

/-- One of the first eight stream entries or boards. -/
abbrev StreamIx := Nat

/-- A loop engine, 0 to 31. -/
abbrev LeIx := Nat
/-- A solenoid channel, 0 to 15. -/
abbrev VIxCh := Nat
/-- A thermal unit, 0 to 7. -/
abbrev TuIx := Nat
/-- A colour pipeline, 0 to 3. -/
abbrev CpIx := Nat
/-- A sensor port, 0 to 7. -/
abbrev SpIx := Nat
/-- A fan, 0 to 11. -/
abbrev FanIx := Nat
/-- An SPI port, 0 to 3. -/
abbrev SpiIx := Nat
/-- A building-bus port, 0 to 1. -/
abbrev BbIx := Nat
/-- A switched output, 0 to 31. -/
abbrev SoIx := Nat
/-- A climate zone or modulating output, 0 to 7. -/
abbrev ZoneIx := Nat
/-- A fault source, 0 to 63. -/
abbrev SrcIx := Nat
/-- A temperature group, 0 to 15. -/
abbrev GroupIx := Nat

/-- A building-bus frame as the port received it: its type, addresses and data octets, and whether its header and data
    CRCs verified (R461, R464). -/
structure BusFrame where
  ftype : Nat
  da : Nat
  sa : Nat
  data : List Byte
  hdrOk : Bool
  dataOk : Bool
  deriving DecidableEq, Repr

/-- The commands of the block, one constructor per row of the table of operations and events. -/
inductive Instr
  /-- REGISTER_WRITE (R13): A write to a control-space register that has no row of its own takes effect according to its register type. -/
  | registerWrite (who : Requester) (addr : Nat) (value : W32)
  /-- REG64_LOW_READ (R12): A read of the low word of a 64-bit register latches the high word for the next high-word read. -/
  | reg64LowRead (who : Requester) (addr : Nat)
  /-- PAIR_FIRST_WRITE (R293): A write to the first member of a paired field is held pending while the block keeps acting on the old pair. -/
  | pairFirstWrite (who : Requester) (addr : Nat) (value : W32)
  /-- PAIR_SECOND_WRITE (R293): A write to the second member of a pair takes effect together with any pending first member. -/
  | pairSecondWrite (who : Requester) (addr : Nat) (value : W32)
  /-- CHANNEL_WORD_SEND (R18): A word sent into an asynchronous handshake channel is delivered in order to the receiving island. -/
  | channelWordSend (near far : IslandIx) (word : W64)
  /-- CHANNEL_TIMEOUT (R19): A channel whose far island accepts no word for 1 us returns error completions and discards posted words. -/
  | channelTimeout (near far : IslandIx) (expecting posted : Nat) (allPorts : Bool)
  /-- ADD (R81): Scalar add of RA and RB into RD. -/
  | add (seat : SeatIx) (rd ra rb : SReg)
  /-- SUB (R81): Scalar subtract of RB from RA into RD. -/
  | sub (seat : SeatIx) (rd ra rb : SReg)
  /-- AND (R81): Scalar bitwise AND. -/
  | and (seat : SeatIx) (rd ra rb : SReg)
  /-- OR (R81): Scalar bitwise OR. -/
  | or (seat : SeatIx) (rd ra rb : SReg)
  /-- XOR (R81): Scalar bitwise XOR. -/
  | xor (seat : SeatIx) (rd ra rb : SReg)
  /-- SLL (R81): Scalar shift left by RB and 63. -/
  | sll (seat : SeatIx) (rd ra rb : SReg)
  /-- SRL (R81): Scalar logical shift right. -/
  | srl (seat : SeatIx) (rd ra rb : SReg)
  /-- SRA (R81): Scalar arithmetic shift right. -/
  | sra (seat : SeatIx) (rd ra rb : SReg)
  /-- SLT (R81): Set RD to 1 when RA is less than RB, signed. -/
  | slt (seat : SeatIx) (rd ra rb : SReg)
  /-- SLTU (R81): Set RD to 1 when RA is less than RB, unsigned. -/
  | sltu (seat : SeatIx) (rd ra rb : SReg)
  /-- MUL (R81): Low 64 bits of the product. -/
  | mul (seat : SeatIx) (rd ra rb : SReg)
  /-- MULHS (R81): High 64 bits of the signed product. -/
  | mulhs (seat : SeatIx) (rd ra rb : SReg)
  /-- MULHU (R81): High 64 bits of the unsigned product. -/
  | mulhu (seat : SeatIx) (rd ra rb : SReg)
  /-- DIV (R82): Signed division, truncated, saturating at the edges without a trap. -/
  | div (seat : SeatIx) (rd ra rb : SReg)
  /-- DIVU (R82): Unsigned division, saturating on a zero divisor. -/
  | divu (seat : SeatIx) (rd ra rb : SReg)
  /-- REM (R82): Signed remainder, 0 at the division edges. -/
  | rem (seat : SeatIx) (rd ra rb : SReg)
  /-- REMU (R82): Unsigned remainder, 0 on a zero divisor. -/
  | remu (seat : SeatIx) (rd ra rb : SReg)
  /-- MIN (R81): Signed minimum of RA and RB. -/
  | min (seat : SeatIx) (rd ra rb : SReg)
  /-- MAX (R81): Signed maximum of RA and RB. -/
  | max (seat : SeatIx) (rd ra rb : SReg)
  /-- MINU (R81): Unsigned minimum of RA and RB. -/
  | minu (seat : SeatIx) (rd ra rb : SReg)
  /-- MAXU (R81): Unsigned maximum of RA and RB. -/
  | maxu (seat : SeatIx) (rd ra rb : SReg)
  /-- CLZ (R81): Count of the leading zero bits of RA. -/
  | clz (seat : SeatIx) (rd ra : SReg)
  /-- POPC (R81): Count of the 1 bits of RA. -/
  | popc (seat : SeatIx) (rd ra : SReg)
  /-- ADDI (R83): Add a sign-extended immediate. -/
  | addi (seat : SeatIx) (rd ra : SReg) (imm : BitVec 16)
  /-- ANDI (R83): AND with a zero-extended immediate. -/
  | andi (seat : SeatIx) (rd ra : SReg) (imm : BitVec 16)
  /-- ORI (R83): OR with a zero-extended immediate. -/
  | ori (seat : SeatIx) (rd ra : SReg) (imm : BitVec 16)
  /-- XORI (R83): XOR with a zero-extended immediate. -/
  | xori (seat : SeatIx) (rd ra : SReg) (imm : BitVec 16)
  /-- SLLI (R83): Shift left by an immediate amount. -/
  | slli (seat : SeatIx) (rd ra : SReg) (amount : BitVec 6)
  /-- SRLI (R83): Logical shift right by an immediate amount. -/
  | srli (seat : SeatIx) (rd ra : SReg) (amount : BitVec 6)
  /-- SRAI (R83): Arithmetic shift right by an immediate amount. -/
  | srai (seat : SeatIx) (rd ra : SReg) (amount : BitVec 6)
  /-- SLTI (R83): Signed compare with a sign-extended immediate. -/
  | slti (seat : SeatIx) (rd ra : SReg) (imm : BitVec 16)
  /-- SLTIU (R83): Unsigned compare with a sign-extended immediate. -/
  | sltiu (seat : SeatIx) (rd ra : SReg) (imm : BitVec 16)
  /-- LUI (R83): Sets RD to the sign-extended immediate shifted left by 16. -/
  | lui (seat : SeatIx) (rd : SReg) (imm : BitVec 16)
  /-- LI_L (R83): Long form that sets RD to a sign-extended imm32. -/
  | liL (seat : SeatIx) (rd : SReg) (imm : BitVec 32)
  /-- LIH_L (R83): Long form that replaces bits 63:32 of RD with imm32. -/
  | lihL (seat : SeatIx) (rd : SReg) (imm : BitVec 32)
  /-- ADDI_L (R83): Long form that adds a sign-extended imm32. -/
  | addiL (seat : SeatIx) (rd ra : SReg) (imm : BitVec 32)
  /-- BEQ (R84): Branch when RA equals RB. -/
  | beq (seat : SeatIx) (ra rb : SReg) (off : BitVec 16)
  /-- BNE (R84): Branch when RA differs from RB. -/
  | bne (seat : SeatIx) (ra rb : SReg) (off : BitVec 16)
  /-- BLT (R84): Branch when RA is less than RB, signed. -/
  | blt (seat : SeatIx) (ra rb : SReg) (off : BitVec 16)
  /-- BGE (R84): Branch when RA is at least RB, signed. -/
  | bge (seat : SeatIx) (ra rb : SReg) (off : BitVec 16)
  /-- BLTU (R84): Branch when RA is less than RB, unsigned. -/
  | bltu (seat : SeatIx) (ra rb : SReg) (off : BitVec 16)
  /-- BGEU (R84): Branch when RA is at least RB, unsigned. -/
  | bgeu (seat : SeatIx) (ra rb : SReg) (off : BitVec 16)
  /-- JAL (R84): Jump relative to pc and link to pc + 4. -/
  | jal (seat : SeatIx) (rd : SReg) (off : BitVec 21)
  /-- JALR (R85): Jump to RA plus an immediate and link, trapping on a misaligned target. -/
  | jalr (seat : SeatIx) (rd ra : SReg) (imm : BitVec 16)
  /-- LDB (R86): Load a byte through a window, zero-extended. -/
  | ldb (seat : SeatIx) (rd : SReg) (w : WReg) (ra : SReg) (imm : BitVec 12)
  /-- LDH (R86): Load 2 bytes, zero-extended. -/
  | ldh (seat : SeatIx) (rd : SReg) (w : WReg) (ra : SReg) (imm : BitVec 12)
  /-- LDW (R86): Load 4 bytes, zero-extended. -/
  | ldw (seat : SeatIx) (rd : SReg) (w : WReg) (ra : SReg) (imm : BitVec 12)
  /-- LDD (R86): Load 8 bytes. -/
  | ldd (seat : SeatIx) (rd : SReg) (w : WReg) (ra : SReg) (imm : BitVec 12)
  /-- LDBS (R86): Load a byte, sign-extended. -/
  | ldbs (seat : SeatIx) (rd : SReg) (w : WReg) (ra : SReg) (imm : BitVec 12)
  /-- LDHS (R86): Load 2 bytes, sign-extended. -/
  | ldhs (seat : SeatIx) (rd : SReg) (w : WReg) (ra : SReg) (imm : BitVec 12)
  /-- LDWS (R86): Load 4 bytes, sign-extended. -/
  | ldws (seat : SeatIx) (rd : SReg) (w : WReg) (ra : SReg) (imm : BitVec 12)
  /-- STB (R86): Store a byte through a window. -/
  | stb (seat : SeatIx) (rs : SReg) (w : WReg) (ra : SReg) (imm : BitVec 12)
  /-- STH (R86): Store 2 bytes. -/
  | sth (seat : SeatIx) (rs : SReg) (w : WReg) (ra : SReg) (imm : BitVec 12)
  /-- STW (R86): Store 4 bytes. -/
  | stw (seat : SeatIx) (rs : SReg) (w : WReg) (ra : SReg) (imm : BitVec 12)
  /-- STD (R86): Store 8 bytes. -/
  | std (seat : SeatIx) (rs : SReg) (w : WReg) (ra : SReg) (imm : BitVec 12)
  /-- ATOM_SWAP (R88): Atomic swap that returns the old value. -/
  | atomSwap (seat : SeatIx) (wide : Bool) (ord : BitVec 2) (rd : SReg) (w : WReg) (ra rb : SReg)
  /-- ATOM_ADD (R88): Atomic add that returns the old value. -/
  | atomAdd (seat : SeatIx) (wide : Bool) (ord : BitVec 2) (rd : SReg) (w : WReg) (ra rb : SReg)
  /-- ATOM_AND (R88): Atomic AND. -/
  | atomAnd (seat : SeatIx) (wide : Bool) (ord : BitVec 2) (rd : SReg) (w : WReg) (ra rb : SReg)
  /-- ATOM_OR (R88): Atomic OR. -/
  | atomOr (seat : SeatIx) (wide : Bool) (ord : BitVec 2) (rd : SReg) (w : WReg) (ra rb : SReg)
  /-- ATOM_XOR (R88): Atomic XOR. -/
  | atomXor (seat : SeatIx) (wide : Bool) (ord : BitVec 2) (rd : SReg) (w : WReg) (ra rb : SReg)
  /-- ATOM_MIN (R88): Atomic signed minimum. -/
  | atomMin (seat : SeatIx) (wide : Bool) (ord : BitVec 2) (rd : SReg) (w : WReg) (ra rb : SReg)
  /-- ATOM_MAX (R88): Atomic signed maximum. -/
  | atomMax (seat : SeatIx) (wide : Bool) (ord : BitVec 2) (rd : SReg) (w : WReg) (ra rb : SReg)
  /-- ATOM_MINU (R88): Atomic unsigned minimum. -/
  | atomMinu (seat : SeatIx) (wide : Bool) (ord : BitVec 2) (rd : SReg) (w : WReg) (ra rb : SReg)
  /-- ATOM_MAXU (R88): Atomic unsigned maximum. -/
  | atomMaxu (seat : SeatIx) (wide : Bool) (ord : BitVec 2) (rd : SReg) (w : WReg) (ra rb : SReg)
  /-- ATOM_CAS (R88): Atomic compare-and-swap that returns the old value. -/
  | atomCas (seat : SeatIx) (wide : Bool) (ord : BitVec 2) (rd : SReg) (w : WReg) (ra rb : SReg)
  /-- LD_AQ (R88): Acquire load. -/
  | ldAq (seat : SeatIx) (wide : Bool) (rd : SReg) (w : WReg) (ra : SReg)
  /-- ST_RL (R88): Release store. -/
  | stRl (seat : SeatIx) (wide : Bool) (w : WReg) (ra rb : SReg)
  /-- VADD (R90): Vector add under VOP, or VOPS with a scalar operand. -/
  | vadd (seat : SeatIx) (vd va : VIx) (vb : VSrc) (p : PIx) (ew : BitVec 2)
  /-- VSUB (R90): Vector subtract. -/
  | vsub (seat : SeatIx) (vd va : VIx) (vb : VSrc) (p : PIx) (ew : BitVec 2)
  /-- VMUL (R90): Vector multiply, low bytes of the product. -/
  | vmul (seat : SeatIx) (vd va : VIx) (vb : VSrc) (p : PIx) (ew : BitVec 2)
  /-- VMULH (R90): Vector multiply, high bytes, signed. -/
  | vmulh (seat : SeatIx) (vd va : VIx) (vb : VSrc) (p : PIx) (ew : BitVec 2)
  /-- VMULHU (R90): Vector multiply, high bytes, unsigned. -/
  | vmulhu (seat : SeatIx) (vd va : VIx) (vb : VSrc) (p : PIx) (ew : BitVec 2)
  /-- VAND (R90): Vector AND. -/
  | vand (seat : SeatIx) (vd va : VIx) (vb : VSrc) (p : PIx) (ew : BitVec 2)
  /-- VOR (R90): Vector OR. -/
  | vor (seat : SeatIx) (vd va : VIx) (vb : VSrc) (p : PIx) (ew : BitVec 2)
  /-- VXOR (R90): Vector XOR. -/
  | vxor (seat : SeatIx) (vd va : VIx) (vb : VSrc) (p : PIx) (ew : BitVec 2)
  /-- VSLL (R90): Vector shift left. -/
  | vsll (seat : SeatIx) (vd va : VIx) (vb : VSrc) (p : PIx) (ew : BitVec 2)
  /-- VSRL (R90): Vector logical shift right. -/
  | vsrl (seat : SeatIx) (vd va : VIx) (vb : VSrc) (p : PIx) (ew : BitVec 2)
  /-- VSRA (R90): Vector arithmetic shift right. -/
  | vsra (seat : SeatIx) (vd va : VIx) (vb : VSrc) (p : PIx) (ew : BitVec 2)
  /-- VMIN (R90): Vector signed minimum. -/
  | vmin (seat : SeatIx) (vd va : VIx) (vb : VSrc) (p : PIx) (ew : BitVec 2)
  /-- VMAX (R90): Vector signed maximum. -/
  | vmax (seat : SeatIx) (vd va : VIx) (vb : VSrc) (p : PIx) (ew : BitVec 2)
  /-- VMINU (R90): Vector unsigned minimum. -/
  | vminu (seat : SeatIx) (vd va : VIx) (vb : VSrc) (p : PIx) (ew : BitVec 2)
  /-- VMAXU (R90): Vector unsigned maximum. -/
  | vmaxu (seat : SeatIx) (vd va : VIx) (vb : VSrc) (p : PIx) (ew : BitVec 2)
  /-- VADDSS (R90): Vector add, saturated to the signed range. -/
  | vaddss (seat : SeatIx) (vd va : VIx) (vb : VSrc) (p : PIx) (ew : BitVec 2)
  /-- VADDSU (R90): Vector add, saturated to the unsigned range. -/
  | vaddsu (seat : SeatIx) (vd va : VIx) (vb : VSrc) (p : PIx) (ew : BitVec 2)
  /-- VSUBSS (R90): Vector subtract, saturated to the signed range. -/
  | vsubss (seat : SeatIx) (vd va : VIx) (vb : VSrc) (p : PIx) (ew : BitVec 2)
  /-- VSUBSU (R90): Vector subtract, saturated to the unsigned range. -/
  | vsubsu (seat : SeatIx) (vd va : VIx) (vb : VSrc) (p : PIx) (ew : BitVec 2)
  /-- VAVGU (R90): Vector unsigned rounding average. -/
  | vavgu (seat : SeatIx) (vd va : VIx) (vb : VSrc) (p : PIx) (ew : BitVec 2)
  /-- VABSDU (R90): Vector unsigned absolute difference. -/
  | vabsdu (seat : SeatIx) (vd va : VIx) (vb : VSrc) (p : PIx) (ew : BitVec 2)
  /-- VCMP_EQ (R91): Vector compare for equality into a predicate. -/
  | vcmpEq (seat : SeatIx) (pd : PIx) (va vb : VIx) (p : PIx) (ew : BitVec 2)
  /-- VCMP_NE (R91): Vector compare for inequality into a predicate. -/
  | vcmpNe (seat : SeatIx) (pd : PIx) (va vb : VIx) (p : PIx) (ew : BitVec 2)
  /-- VCMP_LT (R91): Vector signed less-than into a predicate. -/
  | vcmpLt (seat : SeatIx) (pd : PIx) (va vb : VIx) (p : PIx) (ew : BitVec 2)
  /-- VCMP_GE (R91): Vector signed greater-or-equal into a predicate. -/
  | vcmpGe (seat : SeatIx) (pd : PIx) (va vb : VIx) (p : PIx) (ew : BitVec 2)
  /-- VCMP_LTU (R91): Vector unsigned less-than into a predicate. -/
  | vcmpLtu (seat : SeatIx) (pd : PIx) (va vb : VIx) (p : PIx) (ew : BitVec 2)
  /-- VCMP_GEU (R91): Vector unsigned greater-or-equal into a predicate. -/
  | vcmpGeu (seat : SeatIx) (pd : PIx) (va vb : VIx) (p : PIx) (ew : BitVec 2)
  /-- VMV (R92): Copy the active vector elements. -/
  | vmv (seat : SeatIx) (vd va : VIx) (p : PIx) (ew : BitVec 2)
  /-- VBCAST (R92): Broadcast a scalar into the active elements. -/
  | vbcast (seat : SeatIx) (vd : VIx) (sa : SReg) (p : PIx) (ew : BitVec 2)
  /-- VEXT (R92): Extract one element into a scalar. -/
  | vext (seat : SeatIx) (sd : SReg) (va : VIx) (sb : SReg) (p : PIx) (ew : BitVec 2)
  /-- VINS (R92): Insert a scalar into one element. -/
  | vins (seat : SeatIx) (vd : VIx) (sa sb : SReg) (p : PIx) (ew : BitVec 2)
  /-- VSLIDEUP (R92): Slide the elements up by a scalar amount. -/
  | vslideup (seat : SeatIx) (vd va : VIx) (sb : SReg) (p : PIx) (ew : BitVec 2)
  /-- VSLIDEDN (R92): Slide the elements down by a scalar amount. -/
  | vslidedn (seat : SeatIx) (vd va : VIx) (sb : SReg) (p : PIx) (ew : BitVec 2)
  /-- VPERM (R92): Permute the elements by index. -/
  | vperm (seat : SeatIx) (vd va vb : VIx) (p : PIx) (ew : BitVec 2)
  /-- VREDSUM (R92): Signed sum reduction into a scalar. -/
  | vredsum (seat : SeatIx) (sd : SReg) (va : VIx) (p : PIx) (ew : BitVec 2)
  /-- VREDSUMU (R92): Unsigned sum reduction. -/
  | vredsumu (seat : SeatIx) (sd : SReg) (va : VIx) (p : PIx) (ew : BitVec 2)
  /-- VREDMIN (R92): Signed minimum reduction. -/
  | vredmin (seat : SeatIx) (sd : SReg) (va : VIx) (p : PIx) (ew : BitVec 2)
  /-- VREDMAX (R92): Signed maximum reduction. -/
  | vredmax (seat : SeatIx) (sd : SReg) (va : VIx) (p : PIx) (ew : BitVec 2)
  /-- VREDMINU (R92): Unsigned minimum reduction. -/
  | vredminu (seat : SeatIx) (sd : SReg) (va : VIx) (p : PIx) (ew : BitVec 2)
  /-- VREDMAXU (R92): Unsigned maximum reduction. -/
  | vredmaxu (seat : SeatIx) (sd : SReg) (va : VIx) (p : PIx) (ew : BitVec 2)
  /-- VMULSR_L (R93): Fixed-point vector multiply with rounding shift and optional saturation. -/
  | vmulsrL (seat : SeatIx) (vd va vb : VIx) (p : PIx) (ew : BitVec 2) (sh : BitVec 6) (uns sat : Bool)
  /-- VLD (R94): Unit-stride vector load. -/
  | vld (seat : SeatIx) (vd : VIx) (w : WReg) (ra : SReg) (p : PIx) (ew : BitVec 2)
  /-- VST (R94): Unit-stride vector store, performed in ascending element order. -/
  | vst (seat : SeatIx) (vd : VIx) (w : WReg) (ra : SReg) (p : PIx) (ew : BitVec 2)
  /-- VLDS (R94): Strided vector load. -/
  | vlds (seat : SeatIx) (vd : VIx) (w : WReg) (ra rb : SReg) (p : PIx) (ew : BitVec 2)
  /-- VSTS (R94): Strided vector store. -/
  | vsts (seat : SeatIx) (vd : VIx) (w : WReg) (ra rb : SReg) (p : PIx) (ew : BitVec 2)
  /-- VLDX (R94): Indexed vector load. -/
  | vldx (seat : SeatIx) (vd : VIx) (w : WReg) (ra : SReg) (vb : VIx) (p : PIx) (ew : BitVec 2)
  /-- VSTX (R94): Indexed vector store. -/
  | vstx (seat : SeatIx) (vd : VIx) (w : WReg) (ra : SReg) (vb : VIx) (p : PIx) (ew : BitVec 2)
  /-- PAND (R95): Predicate AND. -/
  | pand (seat : SeatIx) (pd pa pb : PIx)
  /-- POR (R95): Predicate OR. -/
  | por (seat : SeatIx) (pd pa pb : PIx)
  /-- PXOR (R95): Predicate XOR. -/
  | pxor (seat : SeatIx) (pd pa pb : PIx)
  /-- PANDN (R95): Predicate AND NOT. -/
  | pandn (seat : SeatIx) (pd pa pb : PIx)
  /-- PNOT (R95): Predicate NOT. -/
  | pnot (seat : SeatIx) (pd pa : PIx)
  /-- PSET (R95): Set a predicate to all ones. -/
  | pset (seat : SeatIx) (pd : PIx)
  /-- PCLR (R95): Clear a predicate. -/
  | pclr (seat : SeatIx) (pd : PIx)
  /-- PCNT (R95): Count the set predicate bits below VL. -/
  | pcnt (seat : SeatIx) (sd : SReg) (pa : PIx) (ew : BitVec 2)
  /-- PFIRST (R95): Index of the first set predicate element. -/
  | pfirst (seat : SeatIx) (sd : SReg) (pa : PIx) (ew : BitVec 2)
  /-- SETVL (R96): Sets VL to the clamped requested count. -/
  | setvl (seat : SeatIx) (rd ra : SReg) (ew : BitVec 2)
  /-- WSUB (R97): Derives a narrower window, trapping WIN_WIDEN on widening. -/
  | wsub (seat : SeatIx) (wd ws : WReg) (rb rc : SReg) (mask : BitVec 5)
  /-- WLOAD (R98): Loads a window register from two scalars, with the checks of R55. -/
  | wload (seat : SeatIx) (wd : WReg) (sa sb : SReg)
  /-- WRDLO (R98): Reads the low half of a window descriptor. -/
  | wrdlo (seat : SeatIx) (sd : SReg) (wa : WReg)
  /-- WRDHI (R98): Reads the high half of a window descriptor. -/
  | wrdhi (seat : SeatIx) (sd : SReg) (wa : WReg)
  /-- WGET (R98): Reads one window field, hiding BASE and KTAG where required. -/
  | wget (seat : SeatIx) (sd : SReg) (wa : WReg) (field : BitVec 3)
  /-- WMOV (R98): Copies a window register. -/
  | wmov (seat : SeatIx) (wd wa : WReg)
  /-- WCLR (R98): Clears a window register. -/
  | wclr (seat : SeatIx) (wd : WReg)
  /-- WLDM (R98): Loads a window descriptor from memory. -/
  | wldm (seat : SeatIx) (wd wa : WReg) (sb : SReg)
  /-- WSTM (R98): Stores a window descriptor to memory. -/
  | wstm (seat : SeatIx) (wd wa : WReg) (sb : SReg)
  /-- CWLOAD (R99): Loads a code window of a mode. -/
  | cwload (seat : SeatIx) (wa : WReg) (which : BitVec 2)
  /-- KTSET (R100): Sets the key tag of a granule; the seat waits until it retires. -/
  | ktset (seat : SeatIx) (ra rb : SReg)
  /-- KTSET_RETIRE (R59): KTSET retires once no access with the old tag can complete. -/
  | ktsetRetire (seat : SeatIx)
  /-- BCOPY_L (R101): Copies up to 4,096 bytes byte by byte between windows. -/
  | bcopyL (seat : SeatIx) (rd : SReg) (wd ws : WReg) (rdo rso rn : SReg) (errs : PageErrs)
  /-- BFILL_L (R101): Fills up to 4,096 bytes of a window. -/
  | bfillL (seat : SeatIx) (rd : SReg) (wd : WReg) (rdo rv rn : SReg)
  /-- CALL (R102): Traps CALL_T in T mode or CALL_H in H mode. -/
  | call (seat : SeatIx) (imm : BitVec 12)
  /-- BREAK (R102): Takes the trap BREAK. -/
  | brk (seat : SeatIx) (imm : BitVec 12)
  /-- TRET (R71): Returns from a trap, restoring the mode and IE. -/
  | tret (seat : SeatIx)
  /-- SEATSTOP (R103): Moves a Z-V seat to IDLE, or stops plant issue until an enabled event. -/
  | seatstop (seat : SeatIx)
  /-- PLANT_SEATSTOP_WAKE (R103): The stopped plant thread continues once an enabled event is pending. -/
  | plantSeatstopWake
  /-- YIELD (R103): Gives up issue for the rest of the issue frame. -/
  | yield (seat : SeatIx)
  /-- RDTIME (R104): Reads the ring-time counter. -/
  | rdtime (seat : SeatIx) (rd : SReg)
  /-- SNAP (R104): Issues the software snapshot trigger and reports whether the block was armed. -/
  | snap (seat : SeatIx) (rd : SReg)
  /-- SCRD (R67): Reads a seat control register. -/
  | scrd (seat : SeatIx) (rd : SReg) (num : BitVec 12)
  /-- SCWR (R67): Writes a seat control register. -/
  | scwr (seat : SeatIx) (num : BitVec 12) (ra : SReg)
  /-- SCSET (R102): Sets bits of a seat control register. -/
  | scset (seat : SeatIx) (num : BitVec 12) (ra : SReg)
  /-- SCCLR (R102): Clears bits of a seat control register. -/
  | scclr (seat : SeatIx) (num : BitVec 12) (ra : SReg)
  /-- FENCE_RW (R62): Orders all memory loads and stores. -/
  | fenceRw (seat : SeatIx)
  /-- FENCE_R (R62): Orders loads before later accesses. -/
  | fenceR (seat : SeatIx)
  /-- FENCE_W (R62): Orders stores before later stores. -/
  | fenceW (seat : SeatIx)
  /-- FENCE_IO (R62): Orders control-space and memory accesses. -/
  | fenceIo (seat : SeatIx)
  /-- FENCE_STG (R62): Orders memory accesses before stage issue. -/
  | fenceStg (seat : SeatIx)
  /-- FENCE_I (R65): Makes the seat's stores visible to its own instruction fetch. -/
  | fenceI (seat : SeatIx)
  /-- FENCE_COMPLETE (R62): A fence completes once every access it orders is performed, and the seat leaves WAIT. -/
  | fenceComplete (seat : SeatIx)
  /-- STG_L (R108): Checks a stage descriptor and its slots and requests acceptance by a stage unit. -/
  | stgL (seat : SeatIx) (rd ra rc : SReg) (unit : BitVec 3) (notify : Bool) (wd w0 w1 w2 w3 : WReg)
  /-- STG_ACCEPT (R109): Stage work is accepted once there is room, takes its sequence number and copies its descriptor. -/
  | stgAccept (seat : SeatIx)
  /-- WPOS (R113): Stalls the seat until a web's broadcast position reaches the target. -/
  | wpos (seat : SeatIx) (rd ra : SReg) (web : BitVec 2)
  /-- WPOS_COMPLETE (R113): A stalled WPOS completes with the broadcast, last trusted or last position. -/
  | wposComplete (seat : SeatIx)
  /-- TENANT_ACCESS_RETURN (R144): The regulator returns a T-mode load result or store completion at TLAT or a later multiple of it. -/
  | tenantAccessReturn (seat : SeatIx) (late : Bool) (errs : PageErrs)
  /-- TAKE_ASYNC_EVENT (R73): At an instruction boundary the lowest pending enabled asynchronous event is taken. -/
  | takeAsyncEvent (seat : SeatIx)
  /-- QUANTUM_EXPIRY (R68): QUANTUM reaching 0 in T mode makes the trap QUANTUM pending. -/
  | quantumExpiry (seat : SeatIx)
  /-- TIMER_EXPIRY (R656): Ring time reaching TCMP raises the event TIMER once. -/
  | timerExpiry (seat : SeatIx)
  /-- ISSUE_FRAME_BOUNDARY (R53): At each 256-cycle frame boundary a new SHARE or CAP takes effect and the slots are dealt anew. -/
  | issueFrameBoundary (e : SeIx) (c : CoreIx)
  /-- HALT_RELEASE (R48): A write of SEn_HALTCTL with RELEASE moves a halted seat to IDLE. -/
  | haltRelease (who : Requester) (e : SeIx) (pos : BitVec 7)
  /-- SUPPLY_GOOD_BOOT (R624): Supply good starts the boot order in the boot ROM, with the device in SAFE. -/
  | supplyGoodBoot (ref0 ref1 : Bool)
  /-- RUNPG_RISE (R624): Group M power good powers the large islands and starts training, self-test and the ENGINE image load. -/
  | runpgRise (trained : BitVec 8) (pass : BitVec 5)
  /-- HOSTS_ATTACH (R624): Once training and self-test are complete, ports accept requests and seats and stage units start. -/
  | hostsAttach
  /-- RUNPG_TIMEOUT (R618): With no RUNPG 100 ms after RUNEN, RUNEN drops and the device stays in WATCH. -/
  | runpgTimeout
  /-- BURN_KEY (R123): Burns the owner key hash into the fuses, closing trust. -/
  | burnKey (who : Requester)
  /-- BURN_ROLLBACK (R123): Raises the fused rollback count to the record's ROLLBACK. -/
  | burnRollback (who : Requester)
  /-- FUSE_BURN_END (R123): A burn ends, setting FUSE_ERR and source 35 on a failed read-back. -/
  | fuseBurnEnd (ok : Bool)
  /-- OWNER_INSTALL (R127): A write of SYS_OWN_INSTALL_HI reads and verifies a new owner record. -/
  | ownerInstall (who : Requester) (lo hi : W32) (errs : PageErrs)
  /-- OWNER_INSTALL_APPLY (R128): A verified record is applied: seats, ports and granules leave, then the new grants take effect. -/
  | ownerInstallApply
  /-- HOST_RD (R353): A host RD request is checked, performed in cells and completed. -/
  | hostRd (h : RxHdr) (payload : List Byte) (errs : PageErrs)
  /-- HOST_WR (R353): A host WR request is checked, performed in cells and completed unless posted. -/
  | hostWr (h : RxHdr) (payload : List Byte)
  /-- DOORBELL_WRITE (R134): A doorbell write stores the value and marks the doorbell pending, or is counted as dropped. -/
  | doorbellWrite (who : Requester) (d : DomIx) (n : BitVec 6) (value : W32)
  /-- DBROUTE_WRITE (R135): A write of a doorbell route takes effect only for a seat of the domain, or always with EN = 0. -/
  | dbrouteWrite (who : Requester) (d : DomIx) (n : BitVec 6) (value : W32)
  /-- SEATCMD_START (R136): START clears an IDLE seat, loads the entry window and enters RUN in H mode. -/
  | seatcmdStart (who : Requester) (d : DomIx) (seat : BitVec 10) (tag : BitVec 11) (entry : BitVec 40)
  /-- SEATCMD_STOP (R136): STOP asks a running seat to go to IDLE. -/
  | seatcmdStop (who : Requester) (d : DomIx) (seat : BitVec 10) (tag : BitVec 11)
  /-- SEAT_STOP_BOUNDARY (R136): A stopped seat reaches an instruction boundary and goes to IDLE. -/
  | seatStopBoundary (seat : SeatIx)
  /-- SEATCMD_PREEMPT (R136): PREEMPT makes the event PREEMPT pending with the command's tag. -/
  | seatcmdPreempt (who : Requester) (d : DomIx) (seat : BitVec 10) (tag : BitVec 11)
  /-- SEATCMD_UNASSIGNED (R136): A seat command with CMD 3 to 7 ends as BAD_CMD. -/
  | seatcmdUnassigned (who : Requester) (d : DomIx) (cmd : BitVec 3) (seat : BitVec 10) (tag : BitVec 11)
  /-- NQ_CTL_WRITE (R133): A notification queue control write; enabling sets NQ_TAIL to NQ_HEAD. -/
  | nqCtlWrite (who : Requester) (d : DomIx) (value : W32)
  /-- THROTTLE_GRACE_END (R147): At the end of GRACE, tenant slot use is measured and CAP is lowered on offending cores. -/
  | throttleGraceEnd (g : GroupIx) (means : List (Nat × Nat))
  /-- THROTTLE_REMEASURE (R577): Every 100 ms while ALERT holds, a core within TARGET is measured again. -/
  | throttleRemeasure (g : GroupIx) (means : List (Nat × Nat))
  /-- FABRIC_MESSAGE (R150): A message is routed x then y on the fabric under the credit and drain-order rules. -/
  | fabricMessage (cls : ClassIx) (src dst : RouterIx) (cells : Nat) (expects : Bool)
  /-- LINK_CELL_FAIL (R149): A cell that fails its CRC is resent and counted. -/
  | linkCellFail (link : FabLinkIx)
  /-- FAB_FENCE_SET (R160): Fences an island: its ports are closed, queued cells discarded and credits reclaimed. -/
  | fabFenceSet (who : Requester) (islands : W32)
  /-- FAB_FENCE_CLR (R161): Removes a fence once reclaim is complete and the island has been reset. -/
  | fabFenceClr (who : Requester) (islands : W32)
  /-- PAGE_LOCK_REQUEST (R162): A page lock is granted as a 50 us lease, or the request waits. -/
  | pageLockRequest (page : Nat) (holder : HolderIx)
  /-- PAGE_UNLOCK (R162): The holder releases a page lock. -/
  | pageUnlock (page : Nat) (holder : HolderIx)
  /-- PAGE_LOCK_EXPIRY (R162): A page lock ends at the expiry of its lease, and later writes under it are refused. -/
  | pageLockExpiry (page : Nat)
  /-- SCRUB_PAGE (R168): The scrubber reads one page in an idle stack cycle and writes it back, retires or poisons it. -/
  | scrubPage (stack : StackIx) (errs copyErrs : Nat)
  /-- MEM_PASS_START (R169): START begins a range pass, or refuses it. -/
  | memPassStart (who : Requester)
  /-- MEM_PASS_ABORT (R169): ABORT ends the running range pass. -/
  | memPassAbort (who : Requester) (visited : Nat) (errs : PageErrs)
  /-- MEM_PASS_DONE (R169): A range pass has visited every page and sets DONE. -/
  | memPassDone (errs : PageErrs)
  /-- MIRROR_ENABLE (R174): A write of MIRROR = 1 starts RESILVER, or is refused with ERR. -/
  | mirrorEnable (who : Requester) (k : RegionIx)
  /-- MIRROR_DISABLE (R174): A write of MIRROR = 0 ends mirroring at once. -/
  | mirrorDisable (who : Requester) (k : RegionIx)
  /-- RESILVER_DONE (R174): The mirror copy is complete and MSTATE becomes MIRRORED. -/
  | resilverDone (k : RegionIx)
  /-- REGION_STRENGTH_WRITE (R173): A change of region STRENGTH sets RENC and starts re-encoding. -/
  | regionStrengthWrite (who : Requester) (k : RegionIx) (strength : BitVec 2)
  /-- REENCODE_DONE (R173): Re-encoding of a region finishes and RENC clears. -/
  | reencodeDone (k : RegionIx)
  /-- ENC_EDGE (R189): A counted encoder level change is judged as noise, accepted, or applied in SLOW. -/
  | encEdge (web : WebIx) (a b : Bool) (t : W64)
  /-- ENC_INDEX_EDGE (R657): An index edge ends a revolution, stores its net count and checks it against EDGES. -/
  | encIndexEdge (web : WebIx) (t : W64)
  /-- EDGE_SYNTHESIS (R190): A missing edge in RUN is synthesised at its predicted time. -/
  | edgeSynthesis (web : WebIx)
  /-- POSITION_BROADCAST (R195): Every 16 POS cycles the positions, states and mark tags of all webs are broadcast. -/
  | positionBroadcast (t : W64)
  /-- WEB_ENABLE (R186): A write of POSn_CTL.EN = 1 moves the web from IDLE to SLOW. -/
  | webEnable (web : WebIx)
  /-- WEB_DISABLE (R186): A write of POSn_CTL.EN = 0 puts the web in IDLE. -/
  | webDisable (web : WebIx)
  /-- POS_SET (R194): SET loads the web position from POSn_SET. -/
  | posSet (web : WebIx)
  /-- POS_RESUME (R194): RESUME continues from the trusted position plus the edges counted while LOST. -/
  | posResume (web : WebIx)
  /-- POS_CLRCNT (R205): CLRCNT clears the noise, synthesis, quadrature and index counters. -/
  | posClrcnt (web : WebIx)
  /-- TOF_EDGE (R196): An active top-of-form edge captures position into the FIFO and arms the TOF marks. -/
  | tofEdge (tof : WebIx) (t : W64)
  /-- TOF_POP (R205): Removes the oldest top-of-form capture. -/
  | tofPop (tof : WebIx)
  /-- MARK_CTL_WRITE (R199): A write of a mark slot's control register arms or cancels it, with the TREL restrictions. -/
  | markCtlWrite (slot : MarkIx) (value : W32)
  /-- PSAMPLE_PUBLISH (R203): Every PUBINT us a web publishes a position sample on the ring. -/
  | psamplePublish (web : WebIx)
  /-- RING_SAMPLE_TIMEOUT (R203): With no sample for 3 x PUBINT, a RING-following web enters LOST with LCAUSE 3. -/
  | ringSampleTimeout (web : WebIx)
  /-- LCU_WORK_START (R213): An accepted LCU work checks its slot bounds and begins compositing. -/
  | lcuWorkStart (e : SeIx)
  /-- LCU_READY_POLL (R215): While waiting, the LCU re-reads the ready words of layers not yet ready. -/
  | lcuReadyPoll (e : SeIx)
  /-- LCU_BOUNDARY_DECISION (R215): The LCU decides once per pitch which layers take part and writes the decision record. -/
  | lcuBoundaryDecision (e : SeIx)
  /-- LCU_LINE (R222): The LCU composites one working line from its layers. -/
  | lcuLine (e : SeIx)
  /-- CCU_WORK_START (R231): An accepted CCU work checks its descriptor and begins conversion. -/
  | ccuWorkStart (e : SeIx)
  /-- CCU_LINE (R225): The CCU converts one working line to an ink line. -/
  | ccuLine (e : SeIx)
  /-- SCU_WORK_START (R237): An accepted SCU work checks the ED state and begins screening. -/
  | scuWorkStart (e : SeIx)
  /-- SCU_LINE (R236): The SCU screens one ink line and writes its carry state. -/
  | scuLine (e : SeIx)
  /-- NMU_WORK_START (R249): An accepted NMU work reads DEPTH and begins mapping. -/
  | nmuWorkStart (e : SeIx)
  /-- NMU_LINE (R250): Once the web allows, the NMU writes one emitter line and advances WLINE. -/
  | nmuLine (e : SeIx)
  /-- EMU_WORK_START (R256): An accepted EMU work checks its descriptor and begins emission. -/
  | emuWorkStart (e : SeIx)
  /-- EMU_LINE_DUE (R252): A due line is sent as DATA frames, or as BLANK on underrun. -/
  | emuLineDue (e : SeIx)
  /-- EMU_FIRE (R253): A FIRE frame for a line goes to a board when the web reaches the line plus FPHASE. -/
  | emuFire (e : SeIx) (board : Nat)
  /-- EMU_WEB_HALT (R254): When the web enters LOST or IDLE the EMU sends one HALT frame per board. -/
  | emuWebHalt (e : SeIx)
  /-- EMU_CANCEL (R257): CANCEL ends the EMU work in progress and every queued one. -/
  | emuCancel (e : SeIx)
  /-- ICU_WORK_START (R287): An accepted ICU work checks its descriptor and claims its streams. -/
  | icuWorkStart (e : SeIx)
  /-- GVSP_PACKET (R266): A camera datagram is checked and placed into a block and row buffer, or discarded. -/
  | gvspPacket (group : EthIx) (d : GvspDatagram)
  /-- ICU_LINE_COMPARE (R269): A complete screened line is compared and evidence accumulated. -/
  | icuLineCompare (e : SeIx)
  /-- ICU_LINE_TIMEOUT (R269): 2 ms after the first part arrives, a line is compared with its missing parts lost. -/
  | icuLineTimeout (e : SeIx)
  /-- ICU_EVALUATE (R279): The bank of an ended window is evaluated per nozzle to form changes. -/
  | icuEvaluate (e : SeIx) (stores : List (Nat × Nat × W64))
  /-- ICU_LOCK (R273): LOCK starts a line-lock search over the next 256 lines. -/
  | icuLock (e : SeIx)
  /-- ICU_LOCK_DONE (R273): A lock search ends and reports its best offset and score. -/
  | icuLockDone (e : SeIx)
  /-- ICU_ADJ_WRITE (R271): A new line adjustment takes effect at the next window boundary. -/
  | icuAdjWrite (e : SeIx) (value : W32)
  /-- ICU_CANCEL (R288): CANCEL ends the ICU works after any running evaluation. -/
  | icuCancel (e : SeIx)
  /-- ICU_STREAM_STALE (R289): A stream with no complete row for 50 ms sets STALE. -/
  | icuStreamStale (e : SeIx) (stream : StreamIx)
  /-- STAGED_REGISTER_WRITE (R294): A write to a staged register enters the writer's open set, or is refused on conflict or overflow. -/
  | stagedRegisterWrite (who : Requester) (addr : Nat) (value : W32)
  /-- STAGE_COMMIT (R298): COMMIT applies the open set through the commit strobe. -/
  | stageCommit (who : Requester) (d : DomIx)
  /-- STAGE_ARM (R299): ARM turns the open set and load list into the armed set for a seam. -/
  | stageArm (who : Requester) (d : DomIx)
  /-- LOAD_LIST_DONE (R299): Loading of a load list completes, or fails with BADENTRY or READ. -/
  | loadListDone (d : DomIx)
  /-- STAGE_CANCEL (R301): CANCEL ends the armed set and any loading. -/
  | stageCancel (who : Requester) (d : DomIx)
  /-- STAGE_DISCARD (R301): DISCARD empties the open set and clears OVF and PEND. -/
  | stageDiscard (who : Requester) (d : DomIx)
  /-- SPR_ROTATE (R307): ROTATE requests a planned rotation. -/
  | sprRotate (who : Requester)
  /-- ROTATION_DUE (R307): PERIOD hours after the last hand-off, a rotation starts unless deferred. -/
  | rotationDue
  /-- SPR_ABORT (R305): ABORT returns a shadowing engine to SPARE. -/
  | sprAbort (who : Requester)
  /-- SPR_RETEST (R314): RETEST runs the self-test again on a FAILED engine. -/
  | sprRetest (who : Requester) (e : SeIx)
  /-- SPR_FAIL (R316): FAIL declares an ACTIVE engine failed. -/
  | sprFail (who : Requester) (e : SeIx)
  /-- SHADOW_TIMEOUT (R310): A shadow run not successful within 30 s ends with TIMEOUT. -/
  | shadowTimeout
  /-- HANDOFF (R311): At line H the swath passes from the target to the shadow, and the target enters BIST. -/
  | handoff
  /-- SELF_TEST_END (R313): A self-test ends, and the engine becomes SPARE, FAILED or RECOVER. -/
  | selfTestEnd (e : SeIx) (pass : Bool)
  /-- EMISSION_WATCHDOG (R316): A FIRE overdue by 1 us marks the active engine failed. -/
  | emissionWatchdog (e : SeIx)
  /-- ENGINE_FATAL_ERROR (R316): An internal fatal error in an engine's logic or clock marks it failed. -/
  | engineFatalError (e : SeIx)
  /-- RECOVER_COMPLETE (R320): When the ring depth is restored the spare becomes ACTIVE and RECOVERED is notified. -/
  | recoverComplete (e : SeIx)
  /-- SPR_REC_WRITE (R315): A write of a takeover record's high word makes the spare reload it. -/
  | sprRecWrite (who : Requester) (swath : WebIx) (lo hi : W32)
  /-- LANE_SIGNAL_DETECT (R330): Signal on a lane of a DOWN port starts detection. -/
  | laneSignalDetect (lane : LaneIx)
  /-- LANE_LOCK (R330): A lane achieves block, FEC and marker lock and moves to EQUALISE. -/
  | laneLock (lane : LaneIx) (blane : Nat)
  /-- LANE_ADAPT_DONE (R335): Equalisation completes on a lane and the port moves to BOND. -/
  | laneAdaptDone (lane : LaneIx)
  /-- MARKER_SEND (R327): Each lane sends an Umrak marker every 4,096 transcoded blocks. -/
  | markerSend (lane : LaneIx)
  /-- RX_MARKER (R328): A received marker places, deskews and inverts the lane and sets the stripe mask. -/
  | rxMarker (lane : LaneIx) (m : Marker) (inv mcrcOk : Bool)
  /-- LANE_FAIL (R332): A lane failure drops it from the bundle through WANT and TXMASK. -/
  | laneFail (lane : LaneIx) (why : LaneFailure)
  /-- LANE_REJOIN (R333): After REJOIN x 10 ms of clean lock a dropped lane is set in WANT again. -/
  | laneRejoin (lane : LaneIx)
  /-- PORT_HOLD_EXPIRY (R334): A port down longer than HOLD can no longer resume and raises source 14. -/
  | portHoldExpiry (link : LinkIx)
  /-- TRAIN_SEND_TICK (R340): In BOND a TRAIN frame is sent every 10 us. -/
  | trainSendTick (link : LinkIx)
  /-- RX_TRAIN (R340): A received TRAIN frame advances bonding or sets PROFERR. -/
  | rxTrain (link : LinkIx) (t : Train)
  /-- RX_CORRUPT_FRAME (R339): A frame failing HCRC or its trailer, or malformed, is discarded and counted. -/
  | rxCorruptFrame (link : LinkIx) (what : Corruption)
  /-- RX_CRED (R342): A credit report adds freed cells to the sender's credits. -/
  | rxCred (link : LinkIx) (crcls crcount : Nat)
  /-- RX_ACK (R348): An ACK releases acknowledged frames from the replay buffer. -/
  | rxAck (link : LinkIx) (cls : ClassIx) (seq : W32) (crcls crcount : Nat)
  /-- RX_NAK (R349): A NAK retransmits the named frame and all later unacknowledged frames. -/
  | rxNak (link : LinkIx) (cls : ClassIx) (seq : W32) (crcls crcount : Nat)
  /-- ACK_SEND (R348): An ACK is sent within 1 us or 16 frames of acceptance. -/
  | ackSend (link : LinkIx) (cls : ClassIx)
  /-- CREDIT_REPORT (R342): Freed cells are reported at least every 1 us, by CRED if needed. -/
  | creditReport (link : LinkIx) (cls : ClassIx)
  /-- RTO_EXPIRY (R350): The oldest unacknowledged frame waiting RTO is retransmitted. -/
  | rtoExpiry (link : LinkIx) (cls : ClassIx)
  /-- FRAME_SEND (R344): A queued frame is transmitted by priority once it has credit. -/
  | frameSend (link : LinkIx)
  /-- ETH_FRAME_RX (R362): A received Ethernet frame is checked and delivered or discarded. -/
  | ethFrameRx (group : EthIx) (f : EthFrame)
  /-- ETH_ARP_REQUEST (R363): An ARP request for the group's address is answered. -/
  | ethArpRequest (group : EthIx) (targetIp senderIp : W32) (senderMac : BitVec 48)
  /-- ETH_LINK_UP (R330): MAC link up moves an Ethernet-carried port to BOND. -/
  | ethLinkUp (group : EthIx)
  /-- ETH_LINK_DOWN (R365): MAC link down takes the port DOWN and raises source 16 if in use. -/
  | ethLinkDown (group : EthIx)
  /-- LANE_REFCLK_LOSS (R336): Loss of a complex's selected reference fails over to the other input. -/
  | laneRefclkLoss (complex : Nat)
  /-- RNG_ENABLE (R374): Writing RNG_CTL.EN = 1 puts the device in ELECT. -/
  | rngEnable
  /-- RNG_DISABLE (R374): Writing EN = 0 puts the ring layer OFF. -/
  | rngDisable
  /-- LINK_SEND_TICK (R372): Every 1 ms a LINK frame is sent on each ring port. -/
  | linkSendTick
  /-- RX_LINK (R378): A LINK frame updates the peer's state and the tree-port set. -/
  | rxLink (h : RxHdr) (payload : List Byte)
  /-- ANNOUNCE_SEND_TICK (R376): ANNOUNCE is sent every ANNINT, or every SYNCINT in ELECT. -/
  | announceSendTick
  /-- RX_ANNOUNCE (R377): An ANNOUNCE updates the candidate and route and is forwarded on every other port. -/
  | rxAnnounce (h : RxHdr) (payload : List Byte)
  /-- HEARTBEAT_SEND_TICK (R393): A follower sends HEARTBEAT to the keeper every HBINT. -/
  | heartbeatSendTick
  /-- RX_HEARTBEAT (R393): The keeper records a HEARTBEAT in the membership table. -/
  | rxHeartbeat (h : RxHdr) (payload : List Byte)
  /-- RX_ASSIGN (R384): An ASSIGN naming the device's UID gives it a node ID. -/
  | rxAssign (h : RxHdr) (payload : List Byte)
  /-- RX_EPOCH_DATA (R391): An epoch segment is written into the inactive bank, and gaps are requested. -/
  | rxEpochData (h : RxHdr) (payload : List Byte)
  /-- RX_EPOCH_COMMIT (R391): An epoch commit schedules or performs the epoch switch. -/
  | rxEpochCommit (h : RxHdr) (payload : List Byte)
  /-- RX_EPOCH_REQ (R390): The keeper resends a missing epoch range by unicast. -/
  | rxEpochReq (h : RxHdr) (payload : List Byte)
  /-- TSYNC_SEND_TICK (R378): The keeper originates TSYNC every SYNCINT. -/
  | tsyncSendTick
  /-- RX_TSYNC (R387): A TSYNC corrects the ring-time counter and updates the root port and admission. -/
  | rxTsync (h : RxHdr) (payload : List Byte) (t : W64)
  /-- DLYREQ_SEND_TICK (R386): Every 1 ms each end of a ring port sends DLYREQ. -/
  | dlyreqSendTick
  /-- RX_DLYREQ (R386): A DLYREQ is answered with DLYRSP. -/
  | rxDlyreq (h : RxHdr) (payload : List Byte) (t : W64)
  /-- RX_DLYRSP (R386): A DLYRSP updates the link delay. -/
  | rxDlyrsp (h : RxHdr) (payload : List Byte) (t : W64)
  /-- RX_RING_SNAP (R394): A SNAP broadcast schedules a snapshot at STIME, or counts as late. -/
  | rxRingSnap (h : RxHdr) (payload : List Byte)
  /-- RX_RMARK (R395): An RMARK is matched against the ring-mark filters. -/
  | rxRmark (h : RxHdr) (payload : List Byte)
  /-- RX_PSAMPLE (R396): A position sample updates webs following that node. -/
  | rxPsample (h : RxHdr) (payload : List Byte)
  /-- RX_MBX (R397): A mailbox segment is reassembled and the message delivered. -/
  | rxMbx (h : RxHdr) (payload : List Byte)
  /-- KLOSS_EXPIRY (R374): No TSYNC for KLOSS returns a follower to ELECT and HOLD. -/
  | klossExpiry
  /-- ELECTT_EXPIRY (R376): An unbeaten candidate becomes KEEPER. -/
  | electtExpiry
  /-- HOLDOVER_EXPIRY (R389): HOLD longer than HOLDOVER excludes the device. -/
  | holdoverExpiry
  /-- ROUTE_EXPIRY (R380): A route entry not refreshed for 3 x ANNINT is removed. -/
  | routeExpiry (node : NodeIx)
  /-- EPOCH_DISTRIBUTE (R390): DISTRIBUTE at the keeper broadcasts the next epoch. -/
  | epochDistribute
  /-- EPOCH_ABORT (R399): ABORT at the keeper abandons a distribution. -/
  | epochAbort
  /-- EPOCH_COMMIT_TIMEOUT (R390): The keeper sends EPOCH_COMMIT after CMARGIN ms if not all members have it. -/
  | epochCommitTimeout
  /-- EPOCH_APPLY (R391): At ring time APPLY a device holding the content switches its epoch. -/
  | epochApply
  /-- RING_SNAP_SEND (R394): RNG_SNAP_CMD.SEND broadcasts a ring snapshot. -/
  | ringSnapSend
  /-- RING_SNAP_TIME (R394): At STIME an admitted device gives the snapshot trigger. -/
  | ringSnapTime
  /-- RMARK_ACTION (R395): At FTIME plus DELAY a matched filter logs, snaps or broadcasts a tag. -/
  | rmarkAction
  /-- MAILBOX_SEND (R397): SEND reads a message and sends it in segments. -/
  | mailboxSend (who : Requester) (d : DomIx)
  /-- MAILBOX_TIMEOUT (R397): A message incomplete 10 ms after its first segment is dropped. -/
  | mailboxTimeout (snode sdom : Nat) (ddom : DomIx) (msgid : W32)
  /-- TU_FRAME (R409): A thermal frame is corrected per pixel, written out and used for statistics. -/
  | tuFrame (n : TuIx) (pages : List Nat) (late : Bool)
  /-- TU_CAL (R416): The CAL command starts a shutter calibration from RUN. -/
  | tuCal (n : TuIx)
  /-- TU_ABORT (R417): ABORT ends a calibration in CLOSING, SETTLE_C or AVERAGE. -/
  | tuAbort (n : TuIx)
  /-- TU_LOAD (R407): LOAD reads a coefficient table image. -/
  | tuLoad (n : TuIx)
  /-- TU_SAVE (R407): SAVE writes the coefficient store out as an image. -/
  | tuSave (n : TuIx)
  /-- TU_LOAD_DONE (R407): A table load succeeds or fails with TBLERR. -/
  | tuLoadDone (n : TuIx) (errs : PageErrs)
  /-- TU_SAVE_DONE (R407): A table save completes. -/
  | tuSaveDone (n : TuIx)
  /-- TU_MOVE_RESULT (R415): The shutter channel's movement result advances or fails the calibration. -/
  | tuMoveResult (n : TuIx)
  /-- TU_MOVE_TIMEOUT (R415): No movement result 500 ms after the closing request counts as NO_MOVE. -/
  | tuMoveTimeout (n : TuIx)
  /-- TU_HOLDOFF_EXPIRY (R417): HOLDOFF clears HOLDOFF seconds after a failed calibration. -/
  | tuHoldoffExpiry (n : TuIx)
  /-- TU_DOM_WRITE (R422): A write of TUn_DOM sets the writer's domain, or the value written from M mode. -/
  | tuDomWrite (who : Requester) (n : TuIx) (value : W32)
  /-- SP_ENABLE (R427): Enabling a sensor port puts it in WAIT. -/
  | spEnable (port : SpIx) (value : W32)
  /-- SP_VSYNC_START (R427): A VSYNC start opens and numbers a frame and timestamps it. -/
  | spVsyncStart (port : SpIx) (t : W64)
  /-- SP_ROW (R424): A row of pixel words is taken, or discarded as orphan or long. -/
  | spRow (port : SpIx) (words : List (BitVec 16))
  /-- SP_FRAME_CLOSE (R426): A frame closes whole or broken and goes to its bound unit. -/
  | spFrameClose (port : SpIx)
  /-- SP_FRAME_TIMEOUT (R428): A frame open longer than FTMO closes broken. -/
  | spFrameTimeout (port : SpIx)
  /-- SP_PCLK_LOSS (R428): No PCLK edge for 10 us sets CLKLOSS and breaks an open frame. -/
  | spPclkLoss (port : SpIx)
  /-- CP_FRAME (R430): A colour pipeline processes a whole frame through its steps and writes frames and statistics. -/
  | cpFrame (n : CpIx) (lateF lateS : Bool)
  /-- CP_LOAD (R434): LOAD reads a table image into the inactive bank. -/
  | cpLoad (n : CpIx)
  /-- CP_LOAD_DONE (R434): A load completes and swaps banks at the next VSYNC, or fails. -/
  | cpLoadDone (n : CpIx) (errs : PageErrs)
  /-- CP_DOM_WRITE (R434): A write of CPn_DOM follows the TUn_DOM writing rule. -/
  | cpDomWrite (who : Requester) (n : CpIx) (value : W32)
  /-- LOCKSTEP_MISMATCH (R443): A plant core disagreement suppresses the access, raises source 21 and restarts the plant thread. -/
  | lockstepMismatch
  /-- PLANT_RESTART_DONE (R443): The plant thread restart completes and firmware starts again. -/
  | plantRestartDone
  /-- SO_DEMAND_CHANGE (R446): A switched output's source changes demand, subject to its minimum times. -/
  | soDemandChange (so : SoIx)
  /-- SO_MIN_TIME_EXPIRY (R446): A held demand takes effect when MINON or MINOFF has passed. -/
  | soMinTimeExpiry (so : SoIx)
  /-- MO_SLEW_TICK (R447): Each ms a modulating output's duty moves towards its target by at most SLEW. -/
  | moSlewTick (mo : ZoneIx)
  /-- PRES_SAMPLE (R449): Each ms the presence inputs are sampled and debounced. -/
  | presSample (levels : BitVec 4)
  /-- RTC_SECOND (R450): The real-time clock advances a second. -/
  | rtcSecond
  /-- RTC_SEC_WRITE (R450): A write of the seconds count takes effect at the next tick and resets the last evaluated minute. -/
  | rtcSecWrite (value : BitVec 40)
  /-- AON_TZ_WRITE (R455): A change of local offset replays skipped minutes or waits on a backward step. -/
  | aonTzWrite (value : BitVec 16)
  /-- CAL_DATE_READ (R451): A read of AON_CAL_DATE latches date and time together. -/
  | calDateRead (who : Requester)
  /-- SCHEDULE_MINUTE (R454): At second 0 of each local minute the matching schedule entries set zone modes. -/
  | scheduleMinute
  /-- OCCHOLD_EXPIRY (R456): A zone stops being occupied OCCHOLD minutes after its presence ends. -/
  | occholdExpiry (zone : ZoneIx)
  /-- PLT_CZ_OVR_WRITE (R456): A write of a zone override starts or ends it. -/
  | pltCzOvrWrite (zone : ZoneIx) (value : W32)
  /-- VAON_LOSS (R453): VAON below range resets AON and loses all its state. -/
  | vaonLoss
  /-- VAON_RETURN (R620): VAON returning powers AON on with cause POR. -/
  | vaonReturn
  /-- OSC_STOP (R453): The 32.768 kHz oscillator stopped for 4 ms sets OSCSTOP. -/
  | oscStop
  /-- PLT_HB_WRITE (R459): A heartbeat write ends any lapse and restores setpoints and outputs. -/
  | pltHbWrite (who : Requester)
  /-- HEARTBEAT_LAPSE (R460): TIMEOUT ms without a heartbeat makes the plant island LAPSED. -/
  | heartbeatLapse
  /-- BB_ENABLE (R462): Enabling a building-bus port starts its master-node state machine. -/
  | bbEnable (port : BbIx)
  /-- BB_FRAME_RX (R464): A received MS/TP frame is handled in hardware or written to the receive ring. -/
  | bbFrameRx (port : BbIx) (f : BusFrame)
  /-- BB_TOKEN_RX (R462): A received token lets the port send its queued frames. -/
  | bbTokenRx (port : BbIx)
  /-- BB_FRAME_TX (R465): The port sends a queued or reply frame. -/
  | bbFrameTx (port : BbIx) (collide : Bool)
  /-- BB_REPLY_DELAY_EXPIRY (R465): No REPLY slot within RDLY sends Reply Postponed. -/
  | bbReplyDelayExpiry (port : BbIx)
  /-- BB_NO_TOKEN_EXPIRY (R462): Tno_token expiry lets the port claim the token. -/
  | bbNoTokenExpiry (port : BbIx)
  /-- BB_REPLY_TIMEOUT (R462): Treply_timeout expires while waiting for a reply. -/
  | bbReplyTimeout (port : BbIx)
  /-- BB_USAGE_TIMEOUT (R462): Tusage_timeout expires after passing the token. -/
  | bbUsageTimeout (port : BbIx)
  /-- BB_FRAME_ABORT (R464): An octet gap over Tframe_abort discards the frame being received. -/
  | bbFrameAbort (port : BbIx)
  /-- BB_STUCK (R466): RX at space for 64 bit times sets BUS_STUCK and releases DE. -/
  | bbStuck (port : BbIx)
  /-- BB_STUCK_CLEAR (R466): RX at mark for 40 bit times clears BUS_STUCK. -/
  | bbStuckClear (port : BbIx)
  /-- LE_TIMED_EVALUATE (R480): Every PER us a timed loop engine evaluates fresh or missed. -/
  | leTimedEvaluate (le : LeIx)
  /-- LE_FEEDBACK_ARRIVAL (R479): A feedback arrival is stored and starts a fresh evaluation of an event-driven engine. -/
  | leFeedbackArrival (le : LeIx) (x : W32)
  /-- LE_MISSED_EVALUATION (R481): A deadline with no arrival gives a missed evaluation, leading to the MISSLIM override. -/
  | leMissedEvaluation (le : LeIx)
  /-- LE_PUBLISH (R482): A timed engine publishes its level at the PHASE point of the period. -/
  | lePublish (le : LeIx)
  /-- LE_FBIN_WRITE (R479): A write of LEn_FBIN is a firmware feedback arrival. -/
  | leFbinWrite (le : LeIx) (x : W32)
  /-- LE_CMD_RESET (R476): RESET clears the integral and re-initialises the states. -/
  | leCmdReset (le : LeIx)
  /-- LE_CLRPL (R484): CLRPL clears PLFAIL when PLLIVE is 0. -/
  | leClrpl (le : LeIx)
  /-- LE_TSTART (R485): TSTART starts test-signal injection. -/
  | leTstart (le : LeIx)
  /-- LE_TSTOP (R485): TSTOP ends injection. -/
  | leTstop (le : LeIx)
  /-- LE_CAP_START (R486): START begins or arms capture on an engine. -/
  | leCapStart
  /-- LE_CAP_STOP (R486): STOP ends capture. -/
  | leCapStop
  /-- V_SENSE_SAMPLE (R494): Every 500 ns a solenoid channel samples current and runs its regulator. -/
  | vSenseSample (ch : VIxCh) (raw : BitVec 14)
  /-- V_MOVE_WINDOW_END (R496): A movement window ending without a dip reports NOMOVE. -/
  | vMoveWindowEnd (ch : VIxCh)
  /-- V_THERMAL_TICK (R501): Each ms a gang leader updates its coil thermal model and limit. -/
  | vThermalTick (ch : VIxCh)
  /-- V_CLRTRIP (R498): CLRTRIP clears TRIPPED once the live line has cleared. -/
  | vClrtrip (ch : VIxCh)
  /-- V_SHUTTER_CLOSE (R497): A thermal unit's closing request is accepted or answered NO_MOVE. -/
  | vShutterClose (ch : VIxCh) (unit : TuIx)
  /-- V_SHUTTER_OPEN (R497): An opening request de-energises the channel and reports the detection outcome. -/
  | vShutterOpen (ch : VIxCh) (unit : TuIx)
  /-- ADC_CTL_WRITE (R507): A write of ADC_CTL starts, idles or abandons the sequence. -/
  | adcCtlWrite (value : W32)
  /-- ADC_ENTRY_COMPLETE (R510): An entry's result is written and the next entry starts. -/
  | adcEntryComplete (raw : List (BitVec 24))
  /-- ADC_CAL (R512): CAL starts a self-calibration at the end of the current entry. -/
  | adcCal
  /-- ADC_CAL_DONE (R512): A calibration writes the trims with CALDONE, or refuses them with CALERR. -/
  | adcCalDone (ofs gain : List (BitVec 24))
  /-- FAN_TACH_EDGE (R514): A counted tach edge updates the measured speed. -/
  | fanTachEdge (fan : FanIx) (t : W64)
  /-- FAN_TACH_TIMEOUT (R514): No tach edge for 1 s sets the measured speed to 0. -/
  | fanTachTimeout (fan : FanIx)
  /-- FAN_UPDATE (R515): Every 10 ms a fan takes its mode and computes its duty. -/
  | fanUpdate (fan : FanIx)
  /-- FAN_CLRFAIL (R518): CLRFAIL clears FAILED. -/
  | fanClrfail (fan : FanIx)
  /-- SPI_GO (R528): GO starts a master transfer, or ends at once on a refusal. -/
  | spiGo (port : SpiIx)
  /-- SPI_TRANSFER_END (R528): A master transfer ends and sets DONE and XSTAT. -/
  | spiTransferEnd (port : SpiIx) (words : List W32) (bits : Nat) (conflict : Bool)
  /-- SPI_RWAIT_EXPIRY (R529): After a busy reply and RWAIT the transfer is repeated. -/
  | spiRwaitExpiry (port : SpiIx)
  /-- SPI_LEASE_EXPIRY (R530): LEASE expiry cuts off the transfer and disables the select. -/
  | spiLeaseExpiry (port : SpiIx) (words : List W32) (bits : Nat)
  /-- SPI_ABORT (R541): ABORT stops the frame at the next bit boundary. -/
  | spiAbort (port : SpiIx) (words : List W32) (bits : Nat)
  /-- SPI_REPLY (R533): REPLY stages a slave reply for the next frame. -/
  | spiReply (port : SpiIx)
  /-- SPI_SLAVE_FRAME (R532): A slave frame is written to the receive ring and the staged reply consumed. -/
  | spiSlaveFrame (port : SpiIx) (words : List W32) (bits : Nat)
  /-- SPI_CASTLE (R534): CASTLE requests a role swap and pulls CREQ. -/
  | spiCastle (port : SpiIx)
  /-- SPI_CREQ_PULLED (R534): The other end pulling CREQ makes the port hold it low. -/
  | spiCreqPulled (port : SpiIx)
  /-- SPI_CASTLE_FRAME (R535): A castle frame exchanges castle words and resolves the swap or stalemate. -/
  | spiCastleFrame (port : SpiIx) (other : Byte) (conflict : Bool)
  /-- SPI_BACKOFF_END (R537): The back-off after a lost stalemate ends. -/
  | spiBackoffEnd (port : SpiIx)
  /-- SPI_DX_MISS (R538): A direct-execution miss reads two lines from flash into the prefetch buffer. -/
  | spiDxMiss (off : Nat)
  /-- SPI_DX_DISABLE (R540): Clearing DXEN exits continuous read and empties the buffer. -/
  | spiDxDisable
  /-- FAULT_RAISE (R544): A fault source raises an event that is counted, latched, notified and timed. -/
  | faultRaise (src : SrcIx) (cls : Nat) (live : Bool)
  /-- LIVE_LINE_CLEAR (R550): A source's live line clears and its grace timer stops. -/
  | liveLineClear (src : SrcIx)
  /-- SAFETY_CLEAR_HOLD (R551): A safety-relevant source's timer resets after 10 ms of inactive live line. -/
  | safetyClearHold (src : SrcIx)
  /-- UGRACE_EXPIRY (R550): A U event still live after UGRACE escalates to F. -/
  | ugraceExpiry (src : SrcIx)
  /-- FGRACE_EXPIRY (R550): The end of the F grace orders the safe state. -/
  | fgraceExpiry (src : SrcIx)
  /-- FC_FIRST_CLR (R547): CLR clears the first-source record and OVERFLOW. -/
  | fcFirstClr (who : Requester)
  /-- FC_HANDLING_WRITE (R553): H = 1 records the handling owner, whose own errors are then dropped. -/
  | fcHandlingWrite (who : Requester) (h : Bool)
  /-- FC_SWRAISE (R552): A software write raises or clears a software source. -/
  | fcSwraise (who : Requester) (src : BitVec 4) (cls : BitVec 2) (live : Bool)
  /-- IET_FIRE (R555): The independent escalation timer fires and drives the safety balls safe. -/
  | ietFire (cause : Nat)
  /-- FC_IET_CLEAR (R555): Writing FIRED = 1 clears it when no IET condition holds. -/
  | fcIetClear (who : Requester) (holds : Bool)
  /-- SAFE_IN_ACTIVE (R556): SAFE_IN becoming active raises source 41 and orders the safe state. -/
  | safeInActive
  /-- SAFE_ENTER (R556): ENTER orders the safe state with CAUSE COMMAND. -/
  | safeEnter (who : Requester)
  /-- SAFE_RELEASE (R559): RELEASE leaves SAFE, restarting the plant thread unless the cause was BOOT. -/
  | safeRelease (who : Requester)
  /-- SAFE_RESTART_DONE (R558): The release restart completes and the state becomes READY. -/
  | safeRestartDone
  /-- SAFE_RESUME (R559): RESUME returns from READY to RUN and PIP starts. -/
  | safeResume (who : Requester)
  /-- PIP_HALF_PERIOD (R560): PIP toggles every HALF us in RUN. -/
  | pipHalfPeriod
  /-- TMP_SAMPLE (R571): A temperature group samples and evaluates slope, alerts and plausibility. -/
  | tmpSample (g : GroupIx) (raw : List (BitVec 16))
  /-- TMP_SAMPLE_CMD (R571): SAMPLE takes an extra sample of a group. -/
  | tmpSampleCmd (g : GroupIx) (raw : List (BitVec 16))
  /-- TMP_HISTORY_BOUNDARY (R573): Each 100 ms of ring time stores a history entry. -/
  | tmpHistoryBoundary
  /-- FIXED_TRIP (R576): The fixed junction trip raises class F and shuts down to WATCH. -/
  | fixedTrip (tripped : W64)
  /-- CAP_UPDATE (R578): A core's CAP changes, at most once per 100 ms. -/
  | capUpdate (e : SeIx) (c : CoreIx)
  /-- DROOP_SAG (R581): A rail below the droop level stretches its island's clock. -/
  | droopSag (island : IslandIx)
  /-- STRETCH_RECOVER_STEP (R581): After 64 cycles above the level the period steps back by 1/16. -/
  | stretchRecoverStep (island : IslandIx)
  /-- STRETCH_WINDOW_OVER (R582): More than 5 ms stretched in 10 ms raises source 32. -/
  | stretchWindowOver (island : IslandIx)
  /-- RAIL_OUT_OF_BAND (R583): A rail outside 90 % to 110 % for 2 us raises class F. -/
  | railOutOfBand (rail : Nat) (high : Bool)
  /-- SYSREF_LOSS (R584): Loss of the system reference fails over, or leads to holdover and class F. -/
  | sysrefLoss (input : BitVec 1)
  /-- CLOCK_MONITOR_WINDOW (R586): Each 100 us window checks every generator's frequency. -/
  | clockMonitorWindow (island : IslandIx) (off : Bool)
  /-- SEFREQ_WRITE (R587): A new engine clock setting slews each engine to it. -/
  | sefreqWrite (value : W32)
  /-- CAL_EXPORT (R596): EXPORT writes a trim image. -/
  | calExport (who : Requester)
  /-- CAL_IMPORT (R597): IMPORT reads and checks a trim image. -/
  | calImport (who : Requester)
  /-- CAL_COMMAND_DONE (R597): An export or import ends and applies trims or reports its result. -/
  | calCommandDone (errs : PageErrs)
  /-- SNP_ARM (R606): ARM sets ARMED for the next trigger. -/
  | snpArm
  /-- SNP_TRIG (R605): A software trigger takes a snapshot if armed, or is counted as missed. -/
  | snpTrig
  /-- SNAPIN_EDGE (R605): An active SNAPIN edge triggers a snapshot. -/
  | snapinEdge (t : W64)
  /-- SNAPSHOT_DONE (R606): LATCHING clears and DONE is set. -/
  | snapshotDone
  /-- SNP_DBG_WRITE (R615): A keyed write enables or disables debug. -/
  | snpDbgWrite (who : Requester) (value : W32)
  /-- TAP_RESET (R608): TRST_N or five TMS-high edges reset the TAP to IDCODE. -/
  | tapReset
  /-- TAP_IDCODE (R609): Selects the identification register. -/
  | tapIdcode
  /-- TAP_SAMPLE_PRELOAD (R608): Selects the boundary register for sampling. -/
  | tapSamplePreload
  /-- TAP_EXTEST (R610): Drives the boundary, ordering the safe state when debug is enabled. -/
  | tapExtest
  /-- TAP_HIGHZ (R610): Puts outputs high-impedance, ordering the safe state. -/
  | tapHighz
  /-- TAP_CLAMP (R610): Clamps outputs, ordering the safe state. -/
  | tapClamp
  /-- TAP_DBGACC (R608): Selects the debug access register when debug is enabled. -/
  | tapDbgacc
  /-- TAP_BYPASS (R608): Selects the bypass register. -/
  | tapBypass
  /-- DBG_NOP (R611): Does nothing and keeps the captured result. -/
  | dbgNop
  /-- DBG_READ (R611): One 4-byte read as M mode. -/
  | dbgRead (addr : BitVec 48) (errs : PageErrs)
  /-- DBG_WRITE (R611): One 4-byte write as M mode. -/
  | dbgWrite (addr : BitVec 48) (data : W32)
  /-- DBG_HALT (R612): Halts a seat, or the plant thread in SAFE or READY. -/
  | dbgHalt (addr : BitVec 48)
  /-- DBG_RELEASE (R612): Releases a halted seat or the plant thread. -/
  | dbgRelease (addr : BitVec 48)
  /-- DBG_COMMAND_DONE (R611): A debug command completes and its result becomes capturable. -/
  | dbgCommandDone
  /-- POR_N_LOW (R619): POR_N low for 10 us resets the whole device. -/
  | porNLow
  /-- VPLT_UNDERVOLTAGE (R619): VPLT below 85 % for 2 us resets the whole device. -/
  | vpltUndervoltage
  /-- PLTPG_FALL (R619): PLTPG falling outside HIBERNATE entry resets the whole device. -/
  | pltpgFall
  /-- SYS_RST_CMD (R619): A keyed reset command resets the device, after any fuse burn. -/
  | sysRstCmd (who : Requester)
  /-- WATCH_CMD (R626): The WATCH command enters WATCH, cancelling emission and powering down the large islands. -/
  | watchCmd (who : Requester) (force : Bool)
  /-- RUN_CMD (R628): The RUN command leaves WATCH through the boot steps 7 to 10. -/
  | runCmd (who : Requester)
  /-- HIB_ENTER (R629): ENTER in WATCH orders the safe state and drops PLTEN. -/
  | hibEnter (who : Requester)
  /-- WAKE_SOURCE (R630): A wake source is latched and may wake from HIBERNATE or leave WATCH. -/
  | wakeSource (src : BitVec 3) (active : Bool)
  /-- SEAT_ACCESS_COMPLETE (R164): A memory or control-space access by a seat in H or M mode, or by the plant thread, returns its result or completion, and the seat leaves WAIT. -/
  | seatAccessComplete (seat : SeatIx) (errs : PageErrs)
  /-- ICU_EVALUATION_DONE (R283): An ICU evaluation finishes its table writes and proposal records, and EVAL clears. -/
  | icuEvaluationDone (e : SeIx)
  /-- MTAB_ENTRY_MISSING (R393): The keeper marks a membership-table entry MISSING after 3 x HBINT without a HEARTBEAT from that node. -/
  | mtabEntryMissing (node : NodeIx)
  /-- SYSREF_LOCK (R625): A reference input appears and the system reference locks, so the plant island leaves the internal oscillator and RUNEN may rise. -/
  | sysrefLock (input : BitVec 1)
  /-- GENERATOR_HOLDOVER_END (R585): Ten ms after both references are lost, every non-plant generator stops and its island follows R19. -/
  | generatorHoldoverEnd
  deriving DecidableEq, Repr

end Sys2Proof
end

