-- ==== Sys2Proof/Decode.lean ====
section
/-! DEFINITION. The words of the table's rows. The table of operations and events gives no row any bits: a
command is an event at the block's boundary, not a coded word. So no word spells a command. -/

namespace Sys2Proof

/-- The command a word of `nbits` bits spells by the table: none, since no row gives bits. -/
def decodeTableWord (_nbits _w : Nat) : Option Instr := none

end Sys2Proof
end

