-- ==== Sys2Proof/Machine/RegMap.lean ====
section
/-! DEFINITION. The control-space map (R35) and every register of the block, taken row by row from the
summary and field tables of spec/01 to spec/23: the address of each register under its own name, its type
(R13), the bits a write stores, the bits a write of 1 clears, and its reset value. -/

namespace Sys2Proof.Machine

/-- The register types of R13. A register whose fields differ is filed under the type its writes act by;
    the two masks of its row say which of its bits a write reaches. -/
inductive RegType
  | ro | rw | rws | w1c | w1p | wo
  deriving DecidableEq, Repr

/-- One row of the register tables: `count1 × count2` registers of one layout. -/
structure RegRow where
  base : Nat
  stride1 : Nat
  count1 : Nat
  stride2 : Nat
  count2 : Nat
  type : RegType
  writable : Nat
  clearable : Nat
  reset : Nat
  deriving DecidableEq, Repr

/-- The address `a` is one of the row's registers. -/
def RegRow.covers (r : RegRow) (a : Nat) : Bool :=
  if a < r.base then false else
  let d := a - r.base
  let i := if r.stride1 = 0 then 0 else min (d / r.stride1) (r.count1 - 1)
  let e := d - i * r.stride1
  let j := if r.stride2 = 0 then 0 else min (e / r.stride2) (r.count2 - 1)
  e == j * r.stride2

namespace Reg

/-- SYS_ID: Vendor, part and stepping -/
def SYS_ID : Nat := 0xFFFF00000000
/-- SYS_CAP0: Engines, ICUs, memory stacks -/
def SYS_CAP0 : Nat := 0xFFFF00000004
/-- SYS_CAP1: Lanes, Ethernet groups, sensing units -/
def SYS_CAP1 : Nat := 0xFFFF00000008
/-- SYS_CAP2: Plant units -/
def SYS_CAP2 : Nat := 0xFFFF0000000C
/-- SYS_MEMTOP_LO: Highest memory address, low word -/
def SYS_MEMTOP_LO : Nat := 0xFFFF00000010
/-- SYS_MEMTOP_HI: Highest memory address, high word -/
def SYS_MEMTOP_HI : Nat := 0xFFFF00000014
/-- SYS_ISLAND_ON: Islands powered with clock running -/
def SYS_ISLAND_ON : Nat := 0xFFFF00000018
/-- SYS_ISLAND_FENCE: Islands fenced from the fabric -/
def SYS_ISLAND_FENCE : Nat := 0xFFFF0000001C
/-- SYS_UID_LO: Unique die identifier, low word -/
def SYS_UID_LO : Nat := 0xFFFF00000020
/-- SYS_UID_HI: Unique die identifier, high word -/
def SYS_UID_HI : Nat := 0xFFFF00000024
/-- SYS_TRUST: Trust state, recovery, copy in force, fuse status -/
def SYS_TRUST : Nat := 0xFFFF00000100
/-- SYS_OWN_STATUS: Result of the last verification -/
def SYS_OWN_STATUS : Nat := 0xFFFF00000104
/-- SYS_OWN_VERSION: VERSION of the record in force; 0 in RECOVERY -/
def SYS_OWN_VERSION : Nat := 0xFFFF00000108
/-- SYS_FUSE_ROLLBACK: Fused rollback count in [6:0], 0 to 64 -/
def SYS_FUSE_ROLLBACK : Nat := 0xFFFF0000010C
/-- SYS_FUSE_KEYHASHn: Fused key hash; word n holds bytes 4n to 4n + 3, little-endian -/
def SYS_FUSE_KEYHASHn (a : Nat) : Nat := 0xFFFF00000110 + 0x4 * a
/-- SYS_OWN_INSTALL_LO: Record address, bits [31:0] -/
def SYS_OWN_INSTALL_LO : Nat := 0xFFFF00000130
/-- SYS_OWN_INSTALL_HI: Record address, bits [47:32], and key tag -/
def SYS_OWN_INSTALL_HI : Nat := 0xFFFF00000134
/-- SYS_FUSE_CMD: Fuse burn command -/
def SYS_FUSE_CMD : Nat := 0xFFFF00000138
/-- SYS_RSTCAUSE: Cause of the last reset -/
def SYS_RSTCAUSE : Nat := 0xFFFF00000200
/-- SYS_BOOT: Boot progress and failures -/
def SYS_BOOT : Nat := 0xFFFF00000204
/-- SYS_PWR_STATUS: Mode and command result -/
def SYS_PWR_STATUS : Nat := 0xFFFF00000208
/-- SYS_PWR_CMD: Mode command -/
def SYS_PWR_CMD : Nat := 0xFFFF0000020C
/-- SYS_RST_CMD: [7:0] KEY; [8] RESET; [31:9] RSV -/
def SYS_RST_CMD : Nat := 0xFFFF00000210
/-- SYS_Dd_DBn: Doorbell n: the written value goes to DBVALn, and the doorbell is raised -/
def SYS_Dd_DBn (a b : Nat) : Nat := 0xFFFF00010000 + 0x1000 * a + 0x4 * b
/-- SYS_Dd_DBROUTEn: Target seat of doorbell n -/
def SYS_Dd_DBROUTEn (a b : Nat) : Nat := 0xFFFF00010100 + 0x1000 * a + 0x4 * b
/-- SYS_Dd_DBVALn: Last value written to doorbell n -/
def SYS_Dd_DBVALn (a b : Nat) : Nat := 0xFFFF00010200 + 0x1000 * a + 0x4 * b
/-- SYS_Dd_SEATCMD_LO: Entry offset, bits [31:0] -/
def SYS_Dd_SEATCMD_LO (a : Nat) : Nat := 0xFFFF00010300 + 0x1000 * a
/-- SYS_Dd_SEATCMD_HI: Entry offset high bits, seat, command, tag -/
def SYS_Dd_SEATCMD_HI (a : Nat) : Nat := 0xFFFF00010304 + 0x1000 * a
/-- SYS_Dd_SEATCMD_STATUS: Result of the last seat command -/
def SYS_Dd_SEATCMD_STATUS (a : Nat) : Nat := 0xFFFF00010308 + 0x1000 * a
/-- SYS_Dd_NQ_BASE_LO: Notification queue address, bits [31:0] -/
def SYS_Dd_NQ_BASE_LO (a : Nat) : Nat := 0xFFFF00010310 + 0x1000 * a
/-- SYS_Dd_NQ_BASE_HI: Notification queue address, bits [47:32] -/
def SYS_Dd_NQ_BASE_HI (a : Nat) : Nat := 0xFFFF00010314 + 0x1000 * a
/-- SYS_Dd_NQ_CTL: Enable, size and key tag of the notification queue -/
def SYS_Dd_NQ_CTL (a : Nat) : Nat := 0xFFFF00010318 + 0x1000 * a
/-- SYS_Dd_NQ_HEAD: [14:0] index of the next record the host will consume; [31:15] RSV -/
def SYS_Dd_NQ_HEAD (a : Nat) : Nat := 0xFFFF0001031C + 0x1000 * a
/-- SYS_Dd_NQ_TAIL: [14:0] index of the next record the device will write; [31:15] RSV -/
def SYS_Dd_NQ_TAIL (a : Nat) : Nat := 0xFFFF00010320 + 0x1000 * a
/-- SYS_Dd_NQ_STATUS: Queue overflow and error flags -/
def SYS_Dd_NQ_STATUS (a : Nat) : Nat := 0xFFFF00010324 + 0x1000 * a
/-- SYS_Dd_NQ_LOST: Records dropped on overflow, u32, saturating -/
def SYS_Dd_NQ_LOST (a : Nat) : Nat := 0xFFFF00010328 + 0x1000 * a
/-- SYS_Dd_DB_DROP: Doorbell writes dropped, u32, saturating -/
def SYS_Dd_DB_DROP (a : Nat) : Nat := 0xFFFF0001032C + 0x1000 * a
/-- SYS_Dd_TLAT_OVR: Tenant accesses that exceeded TLAT, u32, saturating -/
def SYS_Dd_TLAT_OVR (a : Nat) : Nat := 0xFFFF00010330 + 0x1000 * a
/-- FC_STATUS_LO: Sticky bits of sources 0 to 31 -/
def FC_STATUS_LO : Nat := 0xFFFF01000000
/-- FC_STATUS_HI: Sticky bits of sources 32 to 63 -/
def FC_STATUS_HI : Nat := 0xFFFF01000004
/-- FC_LIVE_LO: Live lines of sources 0 to 31 -/
def FC_LIVE_LO : Nat := 0xFFFF01000008
/-- FC_LIVE_HI: Live lines of sources 32 to 63 -/
def FC_LIVE_HI : Nat := 0xFFFF0100000C
/-- FC_FIRST: First-source record -/
def FC_FIRST : Nat := 0xFFFF01000010
/-- FC_FIRST_TIME_LO: Ring time of the raise, bits [31:0] -/
def FC_FIRST_TIME_LO : Nat := 0xFFFF01000014
/-- FC_FIRST_TIME_HI: Bits [63:32] -/
def FC_FIRST_TIME_HI : Nat := 0xFFFF01000018
/-- FC_FIRST_ISL: SYS_ISLAND_ON at the raise -/
def FC_FIRST_ISL : Nat := 0xFFFF0100001C
/-- FC_FIRST_FENCE: SYS_ISLAND_FENCE at the raise -/
def FC_FIRST_FENCE : Nat := 0xFFFF01000020
/-- FC_FIRST_CLR: [0] CLR; [31:1] RSV -/
def FC_FIRST_CLR : Nat := 0xFFFF01000024
/-- FC_HANDLING: Handling flag and owner -/
def FC_HANDLING : Nat := 0xFFFF01000028
/-- FC_SAFE: Safe-state state and cause -/
def FC_SAFE : Nat := 0xFFFF0100002C
/-- FC_SAFE_CMD: ENTER, RELEASE, RESUME -/
def FC_SAFE_CMD : Nat := 0xFFFF01000030
/-- FC_SAFEOUT: Safety output levels -/
def FC_SAFEOUT : Nat := 0xFFFF01000034
/-- FC_PIP: Alive signal -/
def FC_PIP : Nat := 0xFFFF01000038
/-- FC_IET: Independent escalation timer -/
def FC_IET : Nat := 0xFFFF0100003C
/-- FC_SWRAISE: Software-raised events -/
def FC_SWRAISE : Nat := 0xFFFF01000040
/-- FC_NSEAT: FAULT_NOTIFY target -/
def FC_NSEAT : Nat := 0xFFFF01000044
/-- FC_SRCn_CFG: Grace, class cap, notification -/
def FC_SRCn_CFG (a : Nat) : Nat := 0xFFFF01000100 + 0x4 * a
/-- FC_SRCn_CNT: Events of source n, saturating -/
def FC_SRCn_CNT (a : Nat) : Nat := 0xFFFF01000200 + 0x4 * a
/-- TMP_STATUS: [15:0] ALERT of group g in bit g; [31:16] NEAR in bit 16 + g -/
def TMP_STATUS : Nat := 0xFFFF02000000
/-- TMP_CMD: [15:0] SAMPLE for group g in bit g; [31:16] RSV -/
def TMP_CMD : Nat := 0xFFFF02000004
/-- TMP_HOT: [15:0] highest reading; [21:16] its sensor; [31:22] RSV -/
def TMP_HOT : Nat := 0xFFFF02000008
/-- TMP_CLKCFG: System reference selection -/
def TMP_CLKCFG : Nat := 0xFFFF0200000C
/-- TMP_CLKSTAT: Reference and oscillator state -/
def TMP_CLKSTAT : Nat := 0xFFFF02000010
/-- TMP_SEFREQ: Set clock of each engine -/
def TMP_SEFREQ : Nat := 0xFFFF02000014
/-- TMP_RAIL: Supply monitor flags -/
def TMP_RAIL : Nat := 0xFFFF02000018
/-- TMP_BFACT: [4:0] F16, 1 to 16; [31:5] RSV -/
def TMP_BFACT : Nat := 0xFFFF0200001C
/-- TMP_SAG_CNT: Stretch entries, saturating -/
def TMP_SAG_CNT : Nat := 0xFFFF02000020
/-- TMP_STRX_CNT: Windows over 5 ms stretched, saturating -/
def TMP_STRX_CNT : Nat := 0xFFFF02000024
/-- TMP_DROOPi: Droop of island i, i = 0 to 24 -/
def TMP_DROOPi (a : Nat) : Nat := 0xFFFF02000100 + 0x4 * a
/-- TMP_GRPg_CFG: Mode, window, dwell, actions -/
def TMP_GRPg_CFG (a : Nat) : Nat := 0xFFFF02000200 + 0x10 * a
/-- TMP_GRPg_RATE: [15:0] LIMIT; [31:16] HYST; 1/64 K per s -/
def TMP_GRPg_RATE (a : Nat) : Nat := 0xFFFF02000204 + 0x10 * a
/-- TMP_GRPg_THR: Class A target and grace -/
def TMP_GRPg_THR (a : Nat) : Nat := 0xFFFF02000208 + 0x10 * a
/-- TMP_GRPg_STAT: [15:0] G, s16; [31:16] S, saturated to s16 -/
def TMP_GRPg_STAT (a : Nat) : Nat := 0xFFFF0200020C + 0x10 * a
/-- TMP_SENSs: Sensor s -/
def TMP_SENSs (a : Nat) : Nat := 0xFFFF02000400 + 0x4 * a
/-- CAL_CMD: [0] EXPORT; [1] IMPORT; [31:2] RSV -/
def CAL_CMD : Nat := 0xFFFF03000000
/-- CAL_STATUS: Result of the last command -/
def CAL_STATUS : Nat := 0xFFFF03000004
/-- CAL_IMG_LO: Image address bits [31:0], a multiple of 16 -/
def CAL_IMG_LO : Nat := 0xFFFF03000008
/-- CAL_IMG_HI: [15:0] bits [47:32]; [29:16] KTAG; [30] RSV; [31] SPACE -/
def CAL_IMG_HI : Nat := 0xFFFF0300000C
/-- CAL_IMGMAX: [13:0] export limit, bytes; 0 refuses every export -/
def CAL_IMGMAX : Nat := 0xFFFF03000010
/-- CAL_TCAL: [15:0] s16, 1/64 °C -/
def CAL_TCAL : Nat := 0xFFFF03000014
/-- CAL_ADC_TCAL: [15:0] s16, 1/64 °C -/
def CAL_ADC_TCAL : Nat := 0xFFFF03000018
/-- CAL_ADC_DELTA: [15:0] u16, 1/64 K; 0 none -/
def CAL_ADC_DELTA : Nat := 0xFFFF0300001C
/-- CAL_TUn_DELTA: [15:0] u16, 1/256 K; 0 none -/
def CAL_TUn_DELTA (a : Nat) : Nat := 0xFFFF03000020 + 0x4 * a
/-- CAL_ADC_OFSg: [23:0] s24 -/
def CAL_ADC_OFSg (a : Nat) : Nat := 0xFFFF03000040 + 0x4 * a
/-- CAL_ADC_GAINg: [23:0] u2.22 -/
def CAL_ADC_GAINg (a : Nat) : Nat := 0xFFFF03000060 + 0x4 * a
/-- CAL_Vn_SENSE: [15:0] OFS; [31:16] GAIN -/
def CAL_Vn_SENSE (a : Nat) : Nat := 0xFFFF03000080 + 0x4 * a
/-- CAL_TSs: [15:0] s16, 1/64 °C -/
def CAL_TSs (a : Nat) : Nat := 0xFFFF03000100 + 0x4 * a
/-- CAL_DROOPi: [7:0] s8, mV -/
def CAL_DROOPi (a : Nat) : Nat := 0xFFFF03000200 + 0x4 * a
/-- SNP_CTL: [3:0] SRCEN; [11:4] SNAPDG, ns; [12] SNAPPOL, 1 falling; [31:13] RSV -/
def SNP_CTL : Nat := 0xFFFF04000000
/-- SNP_CMD: [0] ARM; [31:1] RSV -/
def SNP_CMD : Nat := 0xFFFF04000004
/-- SNP_TRIG: [0] TRIG; [31:1] RSV -/
def SNP_TRIG : Nat := 0xFFFF04000008
/-- SNP_STATUS: [0] ARMED; [1] DONE; [2] LATCHING; [4:3] SRC; [8:5] SRCMASK; [31:9] RSV -/
def SNP_STATUS : Nat := 0xFFFF0400000C
/-- SNP_MISS: Triggers ignored, saturating -/
def SNP_MISS : Nat := 0xFFFF04000010
/-- SNP_DBG: [7:0] KEY, WO, must be 0xD5, reads 0; [8] EN, RW; [31:9] RSV -/
def SNP_DBG : Nat := 0xFFFF04000014
/-- SNP_TIME_LO: Snapshot instant, bits [31:0] -/
def SNP_TIME_LO : Nat := 0xFFFF04000020
/-- SNP_TIME_HI: Bits [63:32] -/
def SNP_TIME_HI : Nat := 0xFFFF04000024
/-- SNP_ISLAND: SYS_ISLAND_ON -/
def SNP_ISLAND : Nat := 0xFFFF04000028
/-- SNP_WSTATE: Layout of POS_STATUS -/
def SNP_WSTATE : Nat := 0xFFFF0400002C
/-- SNP_WPOSw_LO: Broadcast position of web w, bits [31:0] -/
def SNP_WPOSw_LO (a : Nat) : Nat := 0xFFFF04000030 + 0x8 * a
/-- SNP_WPOSw_HI: Bits [63:32] -/
def SNP_WPOSw_HI (a : Nat) : Nat := 0xFFFF04000034 + 0x8 * a
/-- SNP_FCSTAT_LO: FC_STATUS, sources 0 to 31 -/
def SNP_FCSTAT_LO : Nat := 0xFFFF04000050
/-- SNP_FCSTAT_HI: Sources 32 to 63 -/
def SNP_FCSTAT_HI : Nat := 0xFFFF04000054
/-- SNP_FCLIVE_LO: FC_LIVE, sources 0 to 31 -/
def SNP_FCLIVE_LO : Nat := 0xFFFF04000058
/-- SNP_FCLIVE_HI: Sources 32 to 63 -/
def SNP_FCLIVE_HI : Nat := 0xFFFF0400005C
/-- SNP_ELINEe: SEe EMU ELINE, bits [31:0] -/
def SNP_ELINEe (a : Nat) : Nat := 0xFFFF04000060 + 0x4 * a
/-- SNP_SPFRAMEp: SPp_FRAME -/
def SNP_SPFRAMEp (a : Nat) : Nat := 0xFFFF04000080 + 0x4 * a
/-- SNP_LELVL_LO: Bits [2n+1:2n]: level of LEn, n = 0 to 15 -/
def SNP_LELVL_LO : Nat := 0xFFFF040000A0
/-- SNP_LELVL_HI: LE16 to LE31 -/
def SNP_LELVL_HI : Nat := 0xFFFF040000A4
/-- SNP_STGd_CMD: COMMIT, ARM, CANCEL, DISCARD -/
def SNP_STGd_CMD (a : Nat) : Nat := 0xFFFF04001000 + 0x100 * a
/-- SNP_STGd_CFG: Seam web -/
def SNP_STGd_CFG (a : Nat) : Nat := 0xFFFF04001004 + 0x100 * a
/-- SNP_STGd_SEAM_LO: Seam position, bits [31:0] -/
def SNP_STGd_SEAM_LO (a : Nat) : Nat := 0xFFFF04001008 + 0x100 * a
/-- SNP_STGd_SEAM_HI: Seam position, bits [63:32] -/
def SNP_STGd_SEAM_HI (a : Nat) : Nat := 0xFFFF0400100C + 0x100 * a
/-- SNP_STGd_LIST_LO: Load list address, bits [31:0] -/
def SNP_STGd_LIST_LO (a : Nat) : Nat := 0xFFFF04001010 + 0x100 * a
/-- SNP_STGd_LIST_HI: Address bits [47:32] and key tag -/
def SNP_STGd_LIST_HI (a : Nat) : Nat := 0xFFFF04001014 + 0x100 * a
/-- SNP_STGd_LIST_N: Entries, 0 to 65,536 -/
def SNP_STGd_LIST_N (a : Nat) : Nat := 0xFFFF04001018 + 0x100 * a
/-- SNP_STGd_STATUS: Set state and result -/
def SNP_STGd_STATUS (a : Nat) : Nat := 0xFFFF0400101C + 0x100 * a
/-- SNP_STGd_APPLIED_LO: APPLIED_POS, bits [31:0] -/
def SNP_STGd_APPLIED_LO (a : Nat) : Nat := 0xFFFF04001020 + 0x100 * a
/-- SNP_STGd_APPLIED_HI: APPLIED_POS, bits [63:32] -/
def SNP_STGd_APPLIED_HI (a : Nat) : Nat := 0xFFFF04001024 + 0x100 * a
/-- SNP_STGd_COUNT: Sets applied, modulo 2^32 -/
def SNP_STGd_COUNT (a : Nat) : Nat := 0xFFFF04001028 + 0x100 * a
/-- SNP_STGd_BADIDX: Index of the failing list entry -/
def SNP_STGd_BADIDX (a : Nat) : Nat := 0xFFFF0400102C + 0x100 * a
/-- SNP_STGd_SUBi: Seam subscriber i, i = 0 to 3 -/
def SNP_STGd_SUBi (a b : Nat) : Nat := 0xFFFF04001030 + 0x100 * a + 0x4 * b
/-- SNP_SPR_CFG: Rotation period and MINLINES -/
def SNP_SPR_CFG : Nat := 0xFFFF04001800
/-- SNP_SPR_CMD: ROTATE, ABORT, RETEST, FAIL -/
def SNP_SPR_CMD : Nat := 0xFFFF04001804
/-- SNP_SPR_ROLES: Role of each engine -/
def SNP_SPR_ROLES : Nat := 0xFFFF04001808
/-- SNP_SPR_SWATH: Engine of each swath -/
def SNP_SPR_SWATH : Nat := 0xFFFF0400180C
/-- SNP_SPR_STATUS: Controller state and flags -/
def SNP_SPR_STATUS : Nat := 0xFFFF04001810
/-- SNP_SPR_COMPARED: Lines compared in the current or last run -/
def SNP_SPR_COMPARED : Nat := 0xFFFF04001814
/-- SNP_SPR_MISLINE_LO: Last mismatched line, bits [31:0] -/
def SNP_SPR_MISLINE_LO : Nat := 0xFFFF04001818
/-- SNP_SPR_MISLINE_HI: Bits [63:32] -/
def SNP_SPR_MISLINE_HI : Nat := 0xFFFF0400181C
/-- SNP_SPR_HLINE_LO: Last hand-off line H or takeover ELINE, bits [31:0] -/
def SNP_SPR_HLINE_LO : Nat := 0xFFFF04001820
/-- SNP_SPR_HLINE_HI: Bits [63:32] -/
def SNP_SPR_HLINE_HI : Nat := 0xFFFF04001824
/-- SNP_SPR_LOSTF_LO: LOST_FIRST, bits [31:0] -/
def SNP_SPR_LOSTF_LO : Nat := 0xFFFF04001828
/-- SNP_SPR_LOSTF_HI: Bits [63:32] -/
def SNP_SPR_LOSTF_HI : Nat := 0xFFFF0400182C
/-- SNP_SPR_LOSTL_LO: LOST_LAST, bits [31:0] -/
def SNP_SPR_LOSTL_LO : Nat := 0xFFFF04001830
/-- SNP_SPR_LOSTL_HI: Bits [63:32] -/
def SNP_SPR_LOSTL_HI : Nat := 0xFFFF04001834
/-- SNP_SPR_RECs_LO: Takeover record of swath s, address bits [31:0] -/
def SNP_SPR_RECs_LO (a : Nat) : Nat := 0xFFFF04001840 + 0x8 * a
/-- SNP_SPR_RECs_HI: Address bits [47:32] in [15:0], KTAG in [29:16] -/
def SNP_SPR_RECs_HI (a : Nat) : Nat := 0xFFFF04001844 + 0x8 * a
/-- FAB_STATUS: Degraded and partitioned state -/
def FAB_STATUS : Nat := 0xFFFF05000000
/-- FAB_FENCE_SET: Fence islands -/
def FAB_FENCE_SET : Nat := 0xFFFF05000004
/-- FAB_FENCE_CLR: Unfence islands (R161) -/
def FAB_FENCE_CLR : Nat := 0xFFFF05000008
/-- FAB_LINK_SEL: Link selected for FAB_LINK_STAT -/
def FAB_LINK_SEL : Nat := 0xFFFF0500000C
/-- FAB_LINK_STAT: State of the selected link -/
def FAB_LINK_STAT : Nat := 0xFFFF05000010
/-- FAB_CE_CNT: Cells resent -/
def FAB_CE_CNT : Nat := 0xFFFF05000014
/-- FAB_RECLAIM_CNT: Cells reclaimed at fences -/
def FAB_RECLAIM_CNT : Nat := 0xFFFF05000018
/-- FAB_DISCARD_CNT: Messages discarded at fences or partitions -/
def FAB_DISCARD_CNT : Nat := 0xFFFF0500001C
/-- FAB_ERRCOMP_CNT: Error completions generated by the fabric -/
def FAB_ERRCOMP_CNT : Nat := 0xFFFF05000020
/-- MEM_STATUS: Trained and lost stacks -/
def MEM_STATUS : Nat := 0xFFFF06000000
/-- MEM_DEFCFG: Strength outside regions -/
def MEM_DEFCFG : Nat := 0xFFFF06000004
/-- MEM_SCRUB_CTL: Scrub rate and thresholds -/
def MEM_SCRUB_CTL : Nat := 0xFFFF06000008
/-- MEM_SCRUB_LAPMAX: Lap limit -/
def MEM_SCRUB_LAPMAX : Nat := 0xFFFF0600000C
/-- MEM_PASS_BASE_LO: Pass start address, bits [31:0] -/
def MEM_PASS_BASE_LO : Nat := 0xFFFF06000010
/-- MEM_PASS_BASE_HI: Pass start address, bits [47:32], and key tag -/
def MEM_PASS_BASE_HI : Nat := 0xFFFF06000014
/-- MEM_PASS_LEN: Pass length in pages -/
def MEM_PASS_LEN : Nat := 0xFFFF06000018
/-- MEM_PASS_CMD: Start or abort a pass -/
def MEM_PASS_CMD : Nat := 0xFFFF0600001C
/-- MEM_PASS_STATUS: Pass state -/
def MEM_PASS_STATUS : Nat := 0xFFFF06000020
/-- MEM_PASS_READ: Pages read -/
def MEM_PASS_READ : Nat := 0xFFFF06000024
/-- MEM_PASS_CORR: Pages corrected -/
def MEM_PASS_CORR : Nat := 0xFFFF06000028
/-- MEM_PASS_UNCORR: Pages uncorrectable -/
def MEM_PASS_UNCORR : Nat := 0xFFFF0600002C
/-- MEM_PASS_RETIRED: Pages retired -/
def MEM_PASS_RETIRED : Nat := 0xFFFF06000030
/-- MEM_RGNk_BASE: Region k first granule (paired, first) -/
def MEM_RGNk_BASE (a : Nat) : Nat := 0xFFFF06000100 + 0x10 * a
/-- MEM_RGNk_COUNT: Region k granule count (paired, second) -/
def MEM_RGNk_COUNT (a : Nat) : Nat := 0xFFFF06000104 + 0x10 * a
/-- MEM_RGNk_SHADOW: Region k shadow first granule -/
def MEM_RGNk_SHADOW (a : Nat) : Nat := 0xFFFF06000108 + 0x10 * a
/-- MEM_RGNk_CFG: Region k strength, mirror and state -/
def MEM_RGNk_CFG (a : Nat) : Nat := 0xFFFF0600010C + 0x10 * a
/-- MEMn_CE_CNT: Pages corrected, saturating -/
def MEMn_CE_CNT (a : Nat) : Nat := 0xFFFF06001000 + 0x40 * a
/-- MEMn_UE_CNT: Uncorrectable reads, saturating -/
def MEMn_UE_CNT (a : Nat) : Nat := 0xFFFF06001004 + 0x40 * a
/-- MEMn_RETIRED: Pages now retired -/
def MEMn_RETIRED (a : Nat) : Nat := 0xFFFF06001008 + 0x40 * a
/-- MEMn_SPARE_FREE: Free spare pages -/
def MEMn_SPARE_FREE (a : Nat) : Nat := 0xFFFF0600100C + 0x40 * a
/-- MEMn_ROWS_SPARED: Rows moved to spare rows -/
def MEMn_ROWS_SPARED (a : Nat) : Nat := 0xFFFF06001010 + 0x40 * a
/-- MEMn_LAP: Last lap time in ms; 0 before the first lap -/
def MEMn_LAP (a : Nat) : Nat := 0xFFFF06001014 + 0x40 * a
/-- MEMn_LAP_POS: Within-stack page the scrubber has reached -/
def MEMn_LAP_POS (a : Nat) : Nat := 0xFFFF06001018 + 0x40 * a
/-- MEMn_EVT: Sticky event flags -/
def MEMn_EVT (a : Nat) : Nat := 0xFFFF0600101C + 0x40 * a
/-- MEMn_LAST_LO: Address of the last event, bits [31:0] -/
def MEMn_LAST_LO (a : Nat) : Nat := 0xFFFF06001020 + 0x40 * a
/-- MEMn_LAST_HI: Address bits [47:32] and event type -/
def MEMn_LAST_HI (a : Nat) : Nat := 0xFFFF06001024 + 0x40 * a
/-- SEn_SEATCLASSc: Enable and press marking of the seats of core c -/
def SEn_SEATCLASSc (a b : Nat) : Nat := 0xFFFF08000100 + 0x1000000 * a + 0x4 * b
/-- SEn_TSHAREc: Tenant issue share of core c -/
def SEn_TSHAREc (a b : Nat) : Nat := 0xFFFF08000140 + 0x1000000 * a + 0x4 * b
/-- SEn_STORECFG: [0] ESTR; [1] CSTR; [31:2] RSV -/
def SEn_STORECFG (a : Nat) : Nat := 0xFFFF08000180 + 0x1000000 * a
/-- SEn_HALTCTL: Release a halted seat -/
def SEn_HALTCTL (a : Nat) : Nat := 0xFFFF08000184 + 0x1000000 * a
/-- SEn_HALTED0: Bit k: seat position k in HALT, k = 0 to 31 -/
def SEn_HALTED0 (a : Nat) : Nat := 0xFFFF08000188 + 0x1000000 * a
/-- SEn_HALTED1: Bit k: seat position 32 + k in HALT -/
def SEn_HALTED1 (a : Nat) : Nat := 0xFFFF0800018C + 0x1000000 * a
/-- SEn_HALTED2: Bit k: seat position 64 + k in HALT -/
def SEn_HALTED2 (a : Nat) : Nat := 0xFFFF08000190 + 0x1000000 * a
/-- SEn_LCU_STATUS: LCU activity -/
def SEn_LCU_STATUS (a : Nat) : Nat := 0xFFFF08000200 + 0x1000000 * a
/-- SEn_LCU_PITCH_LO: Last decided pitch, bits [31:0] -/
def SEn_LCU_PITCH_LO (a : Nat) : Nat := 0xFFFF08000204 + 0x1000000 * a
/-- SEn_LCU_PITCH_HI: Last decided pitch, bits [63:32] -/
def SEn_LCU_PITCH_HI (a : Nat) : Nat := 0xFFFF08000208 + 0x1000000 * a
/-- SEn_LCU_SPOIL_CNT: Spoil records with SPOILED = 1 -/
def SEn_LCU_SPOIL_CNT (a : Nat) : Nat := 0xFFFF0800020C + 0x1000000 * a
/-- SEn_LCU_LATE_CNT: Layers not ready at a decision -/
def SEn_LCU_LATE_CNT (a : Nat) : Nat := 0xFFFF08000210 + 0x1000000 * a
/-- SEn_LCU_RERR_CNT: Layer errors under R221 -/
def SEn_LCU_RERR_CNT (a : Nat) : Nat := 0xFFFF08000214 + 0x1000000 * a
/-- SEn_CCU_LINES: Lines converted, modulo 2^32 -/
def SEn_CCU_LINES (a : Nat) : Nat := 0xFFFF08000218 + 0x1000000 * a
/-- SEn_SCU_STATUS: SCU activity and checkpoint error -/
def SEn_SCU_STATUS (a : Nat) : Nat := 0xFFFF08000220 + 0x1000000 * a
/-- SEn_SCU_CKLINE_LO: LAST of the last checkpoint, bits [31:0] -/
def SEn_SCU_CKLINE_LO (a : Nat) : Nat := 0xFFFF08000224 + 0x1000000 * a
/-- SEn_SCU_CKLINE_HI: Bits [63:32] -/
def SEn_SCU_CKLINE_HI (a : Nat) : Nat := 0xFFFF08000228 + 0x1000000 * a
/-- SEn_SCU_LINES: Lines screened, modulo 2^32 -/
def SEn_SCU_LINES (a : Nat) : Nat := 0xFFFF0800022C + 0x1000000 * a
/-- SEn_NMU_STATUS: NMU activity -/
def SEn_NMU_STATUS (a : Nat) : Nat := 0xFFFF08000230 + 0x1000000 * a
/-- SEn_NMU_LOSTDROP: Drops of missing nozzles not placed -/
def SEn_NMU_LOSTDROP (a : Nat) : Nat := 0xFFFF08000234 + 0x1000000 * a
/-- SEn_NMU_PCOLERR: Entries read with invalid PCOL -/
def SEn_NMU_PCOLERR (a : Nat) : Nat := 0xFFFF08000238 + 0x1000000 * a
/-- SEn_NMU_LINES: Emitter lines written, modulo 2^32 -/
def SEn_NMU_LINES (a : Nat) : Nat := 0xFFFF0800023C + 0x1000000 * a
/-- SEn_EMU_STATUS: EMU state and depth clamp -/
def SEn_EMU_STATUS (a : Nat) : Nat := 0xFFFF08000240 + 0x1000000 * a
/-- SEn_EMU_ELINE_LO: Next line due, bits [31:0] -/
def SEn_EMU_ELINE_LO (a : Nat) : Nat := 0xFFFF08000244 + 0x1000000 * a
/-- SEn_EMU_ELINE_HI: Bits [63:32] -/
def SEn_EMU_ELINE_HI (a : Nat) : Nat := 0xFFFF08000248 + 0x1000000 * a
/-- SEn_EMU_UCNT: Underrun lines -/
def SEn_EMU_UCNT (a : Nat) : Nat := 0xFFFF0800024C + 0x1000000 * a
/-- SEn_EMU_UFIRST_LO: First line of the last underrun episode, bits [31:0] -/
def SEn_EMU_UFIRST_LO (a : Nat) : Nat := 0xFFFF08000250 + 0x1000000 * a
/-- SEn_EMU_UFIRST_HI: Bits [63:32] -/
def SEn_EMU_UFIRST_HI (a : Nat) : Nat := 0xFFFF08000254 + 0x1000000 * a
/-- SEn_EMU_ULAST_LO: Last line of that episode, bits [31:0] -/
def SEn_EMU_ULAST_LO (a : Nat) : Nat := 0xFFFF08000258 + 0x1000000 * a
/-- SEn_EMU_ULAST_HI: Bits [63:32] -/
def SEn_EMU_ULAST_HI (a : Nat) : Nat := 0xFFFF0800025C + 0x1000000 * a
/-- SEn_EMU_SKCNT: Lines skipped under R254 -/
def SEn_EMU_SKCNT (a : Nat) : Nat := 0xFFFF08000260 + 0x1000000 * a
/-- SEn_EMU_SKFIRST_LO: First line of the last skip, bits [31:0] -/
def SEn_EMU_SKFIRST_LO (a : Nat) : Nat := 0xFFFF08000264 + 0x1000000 * a
/-- SEn_EMU_SKFIRST_HI: Bits [63:32] -/
def SEn_EMU_SKFIRST_HI (a : Nat) : Nat := 0xFFFF08000268 + 0x1000000 * a
/-- SEn_EMU_SKLAST_LO: Last line of the last skip, bits [31:0] -/
def SEn_EMU_SKLAST_LO (a : Nat) : Nat := 0xFFFF0800026C + 0x1000000 * a
/-- SEn_EMU_SKLAST_HI: Bits [63:32] -/
def SEn_EMU_SKLAST_HI (a : Nat) : Nat := 0xFFFF08000270 + 0x1000000 * a
/-- SEn_EMU_EXTRAP_CNT: FIRE frames sent with EXTRAP -/
def SEn_EMU_EXTRAP_CNT (a : Nat) : Nat := 0xFFFF08000274 + 0x1000000 * a
/-- SEn_EMU_CMD: Cancel -/
def SEn_EMU_CMD (a : Nat) : Nat := 0xFFFF08000278 + 0x1000000 * a
/-- SEn_ICU_STATUS: ICU activity and flags -/
def SEn_ICU_STATUS (a : Nat) : Nat := 0xFFFF08000280 + 0x1000000 * a
/-- SEn_ICU_ADJ: Line adjustment (R271) -/
def SEn_ICU_ADJ (a : Nat) : Nat := 0xFFFF08000284 + 0x1000000 * a
/-- SEn_ICU_LOCKCFG: Lock search range -/
def SEn_ICU_LOCKCFG (a : Nat) : Nat := 0xFFFF08000288 + 0x1000000 * a
/-- SEn_ICU_CMD: Lock and cancel -/
def SEn_ICU_CMD (a : Nat) : Nat := 0xFFFF0800028C + 0x1000000 * a
/-- SEn_ICU_LOCKRES: Lock result -/
def SEn_ICU_LOCKRES (a : Nat) : Nat := 0xFFFF08000290 + 0x1000000 * a
/-- SEn_ICU_LOCKSCORE_LO: S of the best offset, bits [31:0] -/
def SEn_ICU_LOCKSCORE_LO (a : Nat) : Nat := 0xFFFF08000294 + 0x1000000 * a
/-- SEn_ICU_LOCKSCORE_HI: Bits [63:32] -/
def SEn_ICU_LOCKSCORE_HI (a : Nat) : Nat := 0xFFFF08000298 + 0x1000000 * a
/-- SEn_ICU_LINE_LO: Last screened line compared, bits [31:0] -/
def SEn_ICU_LINE_LO (a : Nat) : Nat := 0xFFFF0800029C + 0x1000000 * a
/-- SEn_ICU_LINE_HI: Bits [63:32] -/
def SEn_ICU_LINE_HI (a : Nat) : Nat := 0xFFFF080002A0 + 0x1000000 * a
/-- SEn_ICU_LOSTLINE: Lines with a lost part -/
def SEn_ICU_LOSTLINE (a : Nat) : Nat := 0xFFFF080002A4 + 0x1000000 * a
/-- SEn_ICU_PKTDROP: Packets discarded -/
def SEn_ICU_PKTDROP (a : Nat) : Nat := 0xFFFF080002A8 + 0x1000000 * a
/-- SEn_ICU_BLKERR: Blocks discarded -/
def SEn_ICU_BLKERR (a : Nat) : Nat := 0xFFFF080002AC + 0x1000000 * a
/-- SEn_ICU_EVAL: Evaluations completed -/
def SEn_ICU_EVAL (a : Nat) : Nat := 0xFFFF080002B0 + 0x1000000 * a
/-- SEn_ICU_CHG: Entries written -/
def SEn_ICU_CHG (a : Nat) : Nat := 0xFFFF080002B4 + 0x1000000 * a
/-- SEn_ICU_CONFLICT: Compare-and-swap failures -/
def SEn_ICU_CONFLICT (a : Nat) : Nat := 0xFFFF080002B8 + 0x1000000 * a
/-- SEn_ICU_EVSKIP: Windows not evaluated -/
def SEn_ICU_EVSKIP (a : Nat) : Nat := 0xFFFF080002BC + 0x1000000 * a
/-- POS_STATUS: States and UNCERT of all webs -/
def POS_STATUS : Nat := 0xFFFF10000000
/-- POS_MKLOG_HEAD: Next log entry software reads, [4:0] -/
def POS_MKLOG_HEAD : Nat := 0xFFFF10000004
/-- POS_MKLOG_TAIL: Next log entry the device writes, [4:0] -/
def POS_MKLOG_TAIL : Nat := 0xFFFF10000008
/-- POS_MKLOG_LOST: Entries dropped, u32, saturating -/
def POS_MKLOG_LOST : Nat := 0xFFFF1000000C
/-- POSn_CTL: Enable -/
def POSn_CTL (a : Nat) : Nat := 0xFFFF10000100 + 0x80 * a
/-- POSn_CFG: Source, direction, publishing -/
def POSn_CFG (a : Nat) : Nat := 0xFFFF10000104 + 0x80 * a
/-- POSn_RATIO_LO: RATIO bits [31:0], fraction -/
def POSn_RATIO_LO (a : Nat) : Nat := 0xFFFF10000108 + 0x80 * a
/-- POSn_RATIO_HI: RATIO bits [63:32], integer -/
def POSn_RATIO_HI (a : Nat) : Nat := 0xFFFF1000010C + 0x80 * a
/-- POSn_PRUN: Period below which edges count towards RUN, u24.8 ns -/
def POSn_PRUN (a : Nat) : Nat := 0xFFFF10000110 + 0x80 * a
/-- POSn_PSLOW: Period above which RUN is left, u24.8 ns -/
def POSn_PSLOW (a : Nat) : Nat := 0xFFFF10000114 + 0x80 * a
/-- POSn_FILT: Deglitch, filter weight, dwell -/
def POSn_FILT (a : Nat) : Nat := 0xFFFF10000118 + 0x80 * a
/-- POSn_REV: [23:0] EDGES, net edges per index revolution (R657); 0 gives no check; [31:24] RSV -/
def POSn_REV (a : Nat) : Nat := 0xFFFF1000011C + 0x80 * a
/-- POSn_POS_LO: Broadcast position, bits [31:0] -/
def POSn_POS_LO (a : Nat) : Nat := 0xFFFF10000120 + 0x80 * a
/-- POSn_POS_HI: Broadcast position, bits [63:32] -/
def POSn_POS_HI (a : Nat) : Nat := 0xFFFF10000124 + 0x80 * a
/-- POSn_TRUST_LO: Last trusted position, bits [31:0] -/
def POSn_TRUST_LO (a : Nat) : Nat := 0xFFFF10000128 + 0x80 * a
/-- POSn_TRUST_HI: Last trusted position, bits [63:32] -/
def POSn_TRUST_HI (a : Nat) : Nat := 0xFFFF1000012C + 0x80 * a
/-- POSn_PERIOD: Filtered period P, u24.8 ns -/
def POSn_PERIOD (a : Nat) : Nat := 0xFFFF10000130 + 0x80 * a
/-- POSn_SET_LO: Position for SET, bits [31:0] -/
def POSn_SET_LO (a : Nat) : Nat := 0xFFFF10000134 + 0x80 * a
/-- POSn_SET_HI: Position for SET, bits [63:32] -/
def POSn_SET_HI (a : Nat) : Nat := 0xFFFF10000138 + 0x80 * a
/-- POSn_CMD: SET, RESUME, counter clear -/
def POSn_CMD (a : Nat) : Nat := 0xFFFF1000013C + 0x80 * a
/-- POSn_STATE: State, UNCERT, NSYN, errors -/
def POSn_STATE (a : Nat) : Nat := 0xFFFF10000140 + 0x80 * a
/-- POSn_NOISE_CNT: Noise edges rejected -/
def POSn_NOISE_CNT (a : Nat) : Nat := 0xFFFF10000144 + 0x80 * a
/-- POSn_SYNTH_CNT: Edges synthesised -/
def POSn_SYNTH_CNT (a : Nat) : Nat := 0xFFFF10000148 + 0x80 * a
/-- POSn_QERR_CNT: Quadrature errors -/
def POSn_QERR_CNT (a : Nat) : Nat := 0xFFFF1000014C + 0x80 * a
/-- POSn_IDX_CNT: Net count of the last index revolution (R657), s32 -/
def POSn_IDX_CNT (a : Nat) : Nat := 0xFFFF10000150 + 0x80 * a
/-- POSn_IDXERR_CNT: Index mismatches -/
def POSn_IDXERR_CNT (a : Nat) : Nat := 0xFFFF10000154 + 0x80 * a
/-- POSn_OFFSET_LO: Offset for SRC = WEB, s48.16 (R202), bits [31:0] -/
def POSn_OFFSET_LO (a : Nat) : Nat := 0xFFFF10000158 + 0x80 * a
/-- POSn_OFFSET_HI: Offset, bits [63:32] -/
def POSn_OFFSET_HI (a : Nat) : Nat := 0xFFFF1000015C + 0x80 * a
/-- POSn_LOSTEDGE: Net forward edges while LOST, s32 -/
def POSn_LOSTEDGE (a : Nat) : Nat := 0xFFFF10000160 + 0x80 * a
/-- POSn_RATIO_ACT_LO: RATIO in force, bits [31:0] -/
def POSn_RATIO_ACT_LO (a : Nat) : Nat := 0xFFFF10000164 + 0x80 * a
/-- POSn_RATIO_ACT_HI: RATIO in force, bits [63:32] -/
def POSn_RATIO_ACT_HI (a : Nat) : Nat := 0xFFFF10000168 + 0x80 * a
/-- POSn_CFG_ACT: CFG in force -/
def POSn_CFG_ACT (a : Nat) : Nat := 0xFFFF1000016C + 0x80 * a
/-- TOFm_CFG: Enable, polarity, web, deglitch, lockout -/
def TOFm_CFG (a : Nat) : Nat := 0xFFFF10000300 + 0x40 * a
/-- TOFm_STAT: FIFO count and overflow -/
def TOFm_STAT (a : Nat) : Nat := 0xFFFF10000304 + 0x40 * a
/-- TOFm_CAP_LO: Oldest capture position, bits [31:0]; 0 when empty -/
def TOFm_CAP_LO (a : Nat) : Nat := 0xFFFF10000308 + 0x40 * a
/-- TOFm_CAP_HI: Oldest capture position, bits [63:32] -/
def TOFm_CAP_HI (a : Nat) : Nat := 0xFFFF1000030C + 0x40 * a
/-- TOFm_CAP_TIME: Ring time of the oldest capture, bits [31:0] -/
def TOFm_CAP_TIME (a : Nat) : Nat := 0xFFFF10000310 + 0x40 * a
/-- TOFm_POP: [0]: remove the oldest capture -/
def TOFm_POP (a : Nat) : Nat := 0xFFFF10000314 + 0x40 * a
/-- POS_MKLOGi_POS_LO: Position at firing, bits [31:0] -/
def POS_MKLOGi_POS_LO (a : Nat) : Nat := 0xFFFF10000800 + 0x10 * a
/-- POS_MKLOGi_POS_HI: Position at firing, bits [63:32] -/
def POS_MKLOGi_POS_HI (a : Nat) : Nat := 0xFFFF10000804 + 0x10 * a
/-- POS_MKLOGi_TIME: Ring time at firing, bits [31:0] -/
def POS_MKLOGi_TIME (a : Nat) : Nat := 0xFFFF10000808 + 0x10 * a
/-- POS_MKLOGi_INFO: Slot, web, flags -/
def POS_MKLOGi_INFO (a : Nat) : Nat := 0xFFFF1000080C + 0x10 * a
/-- POS_MKk_POS_LO: Mark position or TOF offset, bits [31:0] -/
def POS_MKk_POS_LO (a : Nat) : Nat := 0xFFFF10001000 + 0x20 * a
/-- POS_MKk_POS_HI: Bits [63:32] -/
def POS_MKk_POS_HI (a : Nat) : Nat := 0xFFFF10001004 + 0x20 * a
/-- POS_MKk_PER_LO: Repeat period, bits [31:0]; 0 gives no repeat -/
def POS_MKk_PER_LO (a : Nat) : Nat := 0xFFFF10001008 + 0x20 * a
/-- POS_MKk_PER_HI: Bits [63:32] -/
def POS_MKk_PER_HI (a : Nat) : Nat := 0xFFFF1000100C + 0x20 * a
/-- POS_MKk_CTL: Arm, web, action, tag -/
def POS_MKk_CTL (a : Nat) : Nat := 0xFFFF10001010 + 0x20 * a
/-- POS_MKk_STAT: Firing flags and count -/
def POS_MKk_STAT (a : Nat) : Nat := 0xFFFF10001014 + 0x20 * a
/-- UMK_STATUS: Bit p in [23:0]: port p UP -/
def UMK_STATUS : Nat := 0xFFFF11000000
/-- UMK_CFG: DSRTO in [7:0], µs; DSHOLD in [15:8], ms -/
def UMK_CFG : Nat := 0xFFFF11000004
/-- UMK_REFCFG: Reference selection and failover -/
def UMK_REFCFG : Nat := 0xFFFF11000008
/-- UMK_PORTp_LANES: Lanes and profile -/
def UMK_PORTp_LANES (a : Nat) : Nat := 0xFFFF11000100 + 0x40 * a
/-- UMK_PORTp_LANES_ACT: Value in force -/
def UMK_PORTp_LANES_ACT (a : Nat) : Nat := 0xFFFF11000104 + 0x40 * a
/-- UMK_PORTp_CFG: RTO, HOLD, REJOIN -/
def UMK_PORTp_CFG (a : Nat) : Nat := 0xFFFF11000108 + 0x40 * a
/-- UMK_PORTp_STATE: State and mask -/
def UMK_PORTp_STATE (a : Nat) : Nat := 0xFFFF1100010C + 0x40 * a
/-- UMK_PORTp_PEER_LO: Peer UID, bits [31:0] -/
def UMK_PORTp_PEER_LO (a : Nat) : Nat := 0xFFFF11000110 + 0x40 * a
/-- UMK_PORTp_PEER_HI: Peer UID, bits [63:32] -/
def UMK_PORTp_PEER_HI (a : Nat) : Nat := 0xFFFF11000114 + 0x40 * a
/-- UMK_PORTp_CRCERR: Counters, in this order -/
def UMK_PORTp_CRCERR (a : Nat) : Nat := 0xFFFF11000118 + 0x40 * a
/-- UMK_PORTp_SEQERR: Counters, in this order -/
def UMK_PORTp_SEQERR (a : Nat) : Nat := 0xFFFF1100011C + 0x40 * a
/-- UMK_PORTp_DUP: Counters, in this order -/
def UMK_PORTp_DUP (a : Nat) : Nat := 0xFFFF11000120 + 0x40 * a
/-- UMK_PORTp_RETX: Counters, in this order -/
def UMK_PORTp_RETX (a : Nat) : Nat := 0xFFFF11000124 + 0x40 * a
/-- UMK_PORTp_LANEDROP: Counters, in this order -/
def UMK_PORTp_LANEDROP (a : Nat) : Nat := 0xFFFF11000128 + 0x40 * a
/-- UMK_PORTp_EVTDROP: Counters, in this order -/
def UMK_PORTp_EVTDROP (a : Nat) : Nat := 0xFFFF1100012C + 0x40 * a
/-- UMK_PORTp_BADFRM: Counters, in this order -/
def UMK_PORTp_BADFRM (a : Nat) : Nat := 0xFFFF11000130 + 0x40 * a
/-- UMK_PORTp_PERR: Counters, in this order -/
def UMK_PORTp_PERR (a : Nat) : Nat := 0xFFFF11000134 + 0x40 * a
/-- UMK_PORTp_PEERMAC_LO: Peer MAC bytes 2 to 5 -/
def UMK_PORTp_PEERMAC_LO (a : Nat) : Nat := 0xFFFF11000138 + 0x40 * a
/-- UMK_PORTp_PEERMAC_HI: Peer MAC bytes 0 and 1 in [15:0] -/
def UMK_PORTp_PEERMAC_HI (a : Nat) : Nat := 0xFFFF1100013C + 0x40 * a
/-- UMK_LANEl_CFG: Mode and reach -/
def UMK_LANEl_CFG (a : Nat) : Nat := 0xFFFF11001000 + 0x20 * a
/-- UMK_LANEl_TXEQ: Transmit taps -/
def UMK_LANEl_TXEQ (a : Nat) : Nat := 0xFFFF11001004 + 0x20 * a
/-- UMK_LANEl_STAT: Lane state -/
def UMK_LANEl_STAT (a : Nat) : Nat := 0xFFFF11001008 + 0x20 * a
/-- UMK_LANEl_FECCE: Corrected codewords -/
def UMK_LANEl_FECCE (a : Nat) : Nat := 0xFFFF1100100C + 0x20 * a
/-- UMK_LANEl_FECUE: Uncorrectable codewords -/
def UMK_LANEl_FECUE (a : Nat) : Nat := 0xFFFF11001010 + 0x20 * a
/-- UMK_LANEl_RETX: Drop-stream frames retransmitted -/
def UMK_LANEl_RETX (a : Nat) : Nat := 0xFFFF11001014 + 0x20 * a
/-- RNG_CTL: Enable, ID, keeper priority -/
def RNG_CTL : Nat := 0xFFFF12000000
/-- RNG_STATUS: State, admission, node ID -/
def RNG_STATUS : Nat := 0xFFFF12000004
/-- RNG_KEEPER: Keeper node, hops, root port -/
def RNG_KEEPER : Nat := 0xFFFF12000008
/-- RNG_RINGID: Ring identifier -/
def RNG_RINGID : Nat := 0xFFFF1200000C
/-- RNG_TIMING: SYNCINT, HBINT, ANNINT -/
def RNG_TIMING : Nat := 0xFFFF12000010
/-- RNG_LOSS: KLOSS, ELECTT, HOLDOVER, CMARGIN -/
def RNG_LOSS : Nat := 0xFFFF12000014
/-- RNG_COMPAT: CLASS in [15:0] -/
def RNG_COMPAT : Nat := 0xFFFF12000018
/-- RNG_OFFSET: Offset at the last TSYNC, s32 ns -/
def RNG_OFFSET : Nat := 0xFFFF1200001C
/-- RNG_EPOCH: Epoch in force -/
def RNG_EPOCH : Nat := 0xFFFF12000020
/-- RNG_EPOCH_PEND: Pending epoch; 0 none -/
def RNG_EPOCH_PEND : Nat := 0xFFFF12000024
/-- RNG_EPOCH_STATUS: Bank, content, result -/
def RNG_EPOCH_STATUS : Nat := 0xFFFF12000028
/-- RNG_EPOCH_CMD: [0] DISTRIBUTE, [1] ABORT -/
def RNG_EPOCH_CMD : Nat := 0xFFFF1200002C
/-- RNG_EPOCH_LEN: [16:0] bytes, 0 to 65,536 -/
def RNG_EPOCH_LEN : Nat := 0xFFFF12000030
/-- RNG_EBUF_LO: Bank 0 address, bits [31:0], multiple of 64 KiB -/
def RNG_EBUF_LO : Nat := 0xFFFF12000034
/-- RNG_EBUF_HI: [15:0] bits [47:32], [29:16] KTAG -/
def RNG_EBUF_HI : Nat := 0xFFFF12000038
/-- RNG_MTAB_LO: Membership table address, bits [31:0]; 0 gives no table -/
def RNG_MTAB_LO : Nat := 0xFFFF1200003C
/-- RNG_MTAB_HI: As RNG_EBUF_HI -/
def RNG_MTAB_HI : Nat := 0xFFFF12000040
/-- RNG_SNAP_TIME_LO: STIME, bits [31:0] -/
def RNG_SNAP_TIME_LO : Nat := 0xFFFF12000044
/-- RNG_SNAP_TIME_HI: STIME, bits [63:32] -/
def RNG_SNAP_TIME_HI : Nat := 0xFFFF12000048
/-- RNG_SNAP_CMD: [0] SEND -/
def RNG_SNAP_CMD : Nat := 0xFFFF1200004C
/-- RNG_TSTEP_CNT: Counters, in this order -/
def RNG_TSTEP_CNT : Nat := 0xFFFF12000050
/-- RNG_NOROUTE: Counters, in this order -/
def RNG_NOROUTE : Nat := 0xFFFF12000054
/-- RNG_RDROP: Counters, in this order -/
def RNG_RDROP : Nat := 0xFFFF12000058
/-- RNG_SNAPLATE: Counters, in this order -/
def RNG_SNAPLATE : Nat := 0xFFFF1200005C
/-- RNG_DUPBC: Counters, in this order -/
def RNG_DUPBC : Nat := 0xFFFF12000060
/-- RNG_PORTp_STAT: Ring port p -/
def RNG_PORTp_STAT (a : Nat) : Nat := 0xFFFF12000100 + 0x4 * a
/-- RNG_RMKi: Ring-mark filter i, 0 to 15 -/
def RNG_RMKi (a : Nat) : Nat := 0xFFFF12000200 + 0x4 * a
/-- RNG_MBd_BASE_LO: Mailbox ring address, bits [31:0], multiple of 4 KiB -/
def RNG_MBd_BASE_LO (a : Nat) : Nat := 0xFFFF12000400 + 0x40 * a
/-- RNG_MBd_BASE_HI: As RNG_EBUF_HI -/
def RNG_MBd_BASE_HI (a : Nat) : Nat := 0xFFFF12000404 + 0x40 * a
/-- RNG_MBd_CTL: [0] EN; [4:1] LOG2N, 1 to 15, 0 gives none -/
def RNG_MBd_CTL (a : Nat) : Nat := 0xFFFF12000408 + 0x40 * a
/-- RNG_MBd_HEAD: Next record software reads -/
def RNG_MBd_HEAD (a : Nat) : Nat := 0xFFFF1200040C + 0x40 * a
/-- RNG_MBd_TAIL: Next record the device writes -/
def RNG_MBd_TAIL (a : Nat) : Nat := 0xFFFF12000410 + 0x40 * a
/-- RNG_MBd_LOST: Messages dropped -/
def RNG_MBd_LOST (a : Nat) : Nat := 0xFFFF12000414 + 0x40 * a
/-- RNG_MBd_TX_LO: Message address, bits [31:0] -/
def RNG_MBd_TX_LO (a : Nat) : Nat := 0xFFFF12000418 + 0x40 * a
/-- RNG_MBd_TX_HI: As RNG_EBUF_HI -/
def RNG_MBd_TX_HI (a : Nat) : Nat := 0xFFFF1200041C + 0x40 * a
/-- RNG_MBd_TX_DEST: [11:0] DNODE; [14:12] DDOM; [26:15] LEN, 1 to 3,584 -/
def RNG_MBd_TX_DEST (a : Nat) : Nat := 0xFFFF12000420 + 0x40 * a
/-- RNG_MBd_TX_CMD: [0] SEND -/
def RNG_MBd_TX_CMD (a : Nat) : Nat := 0xFFFF12000424 + 0x40 * a
/-- RNG_MBd_TX_STATUS: [0] BUSY; [2:1] RESULT: 0 SENT, 1 READ, 2 NOROUTE, 3 LEN -/
def RNG_MBd_TX_STATUS (a : Nat) : Nat := 0xFFFF12000428 + 0x40 * a
/-- ETHg_CFG: MAC configuration -/
def ETHg_CFG (a : Nat) : Nat := 0xFFFF13000000 + 0x100 * a
/-- ETHg_MAC_LO: MAC bytes 2 to 5; byte 0 is sent first -/
def ETHg_MAC_LO (a : Nat) : Nat := 0xFFFF13000004 + 0x100 * a
/-- ETHg_MAC_HI: MAC bytes 0 and 1 in [15:0] -/
def ETHg_MAC_HI (a : Nat) : Nat := 0xFFFF13000008 + 0x100 * a
/-- ETHg_IPV4: Address for ARP, as SRCIP (R285) -/
def ETHg_IPV4 (a : Nat) : Nat := 0xFFFF1300000C + 0x100 * a
/-- ETHg_STATUS: [0] LINK; [1] ANDONE; [31:2] RSV -/
def ETHg_STATUS (a : Nat) : Nat := 0xFFFF13000010 + 0x100 * a
/-- ETHg_RXFRM: Counters, saturating, in this order -/
def ETHg_RXFRM (a : Nat) : Nat := 0xFFFF13000014 + 0x100 * a
/-- ETHg_RXERR: Counters, saturating, in this order -/
def ETHg_RXERR (a : Nat) : Nat := 0xFFFF13000018 + 0x100 * a
/-- ETHg_RXLONG: Counters, saturating, in this order -/
def ETHg_RXLONG (a : Nat) : Nat := 0xFFFF1300001C + 0x100 * a
/-- ETHg_NOCLAIM: Counters, saturating, in this order -/
def ETHg_NOCLAIM (a : Nat) : Nat := 0xFFFF13000020 + 0x100 * a
/-- ETHg_RXOTHER: Counters, saturating, in this order -/
def ETHg_RXOTHER (a : Nat) : Nat := 0xFFFF13000024 + 0x100 * a
/-- ETHg_TXFRM: Counters, saturating, in this order -/
def ETHg_TXFRM (a : Nat) : Nat := 0xFFFF13000028 + 0x100 * a
/-- SPn_CFG: Enable and bus format -/
def SPn_CFG (a : Nat) : Nat := 0xFFFF18000000 + 0x100 * a
/-- SPn_ROWS: [13:0] rows per frame in PULSE mode, 0 to 8,192; 0 none -/
def SPn_ROWS (a : Nat) : Nat := 0xFFFF18000004 + 0x100 * a
/-- SPn_FTMO: [15:0] frame timeout in ms; 0 none -/
def SPn_FTMO (a : Nat) : Nat := 0xFFFF18000008 + 0x100 * a
/-- SPn_STATUS: State, binding, flags -/
def SPn_STATUS (a : Nat) : Nat := 0xFFFF1800000C + 0x100 * a
/-- SPn_FRAME: Number of the last frame opened -/
def SPn_FRAME (a : Nat) : Nat := 0xFFFF18000010 + 0x100 * a
/-- SPn_VTIME_LO: Last VSYNC timestamp, bits [31:0] -/
def SPn_VTIME_LO (a : Nat) : Nat := 0xFFFF18000014 + 0x100 * a
/-- SPn_VTIME_HI: Bits [63:32] -/
def SPn_VTIME_HI (a : Nat) : Nat := 0xFFFF18000018 + 0x100 * a
/-- SPn_LAST: [13:0] rows of the last frame; [29:16] words of its last row -/
def SPn_LAST (a : Nat) : Nat := 0xFFFF1800001C + 0x100 * a
/-- SPn_BROKEN: Counters, in this order -/
def SPn_BROKEN (a : Nat) : Nat := 0xFFFF18000020 + 0x100 * a
/-- SPn_ORPHAN: Counters, in this order -/
def SPn_ORPHAN (a : Nat) : Nat := 0xFFFF18000024 + 0x100 * a
/-- SPn_LONGROW: Counters, in this order -/
def SPn_LONGROW (a : Nat) : Nat := 0xFFFF18000028 + 0x100 * a
/-- SPn_TIMEOUT: Counters, in this order -/
def SPn_TIMEOUT (a : Nat) : Nat := 0xFFFF1800002C + 0x100 * a
/-- SPn_CLKLOSS: Counters, in this order -/
def SPn_CLKLOSS (a : Nat) : Nat := 0xFFFF18000030 + 0x100 * a
/-- CPn_CFG: Enable, port, steps, output -/
def CPn_CFG (a : Nat) : Nat := 0xFFFF19000000 + 0x1000 * a
/-- CPn_CFG_ACT: CFG in force -/
def CPn_CFG_ACT (a : Nat) : Nat := 0xFFFF19000004 + 0x1000 * a
/-- CPn_GEOM: [13:0] WIDTH, 16 to 8,192; [27:14] HEIGHT, 1 to 8,192; [31:28] SKIP, 0 to 15 -/
def CPn_GEOM (a : Nat) : Nat := 0xFFFF19000008 + 0x1000 * a
/-- CPn_BL01: [15:0] BL[0]; [31:16] BL[1] -/
def CPn_BL01 (a : Nat) : Nat := 0xFFFF1900000C + 0x1000 * a
/-- CPn_BL23: [15:0] BL[2]; [31:16] BL[3] -/
def CPn_BL23 (a : Nat) : Nat := 0xFFFF19000010 + 0x1000 * a
/-- CPn_WB01: [15:0] WB[0]; [31:16] WB[1]; u4.12 -/
def CPn_WB01 (a : Nat) : Nat := 0xFFFF19000014 + 0x1000 * a
/-- CPn_WB23: [15:0] WB[2]; [31:16] WB[3] -/
def CPn_WB23 (a : Nat) : Nat := 0xFFFF19000018 + 0x1000 * a
/-- CPn_DPTHR: [15:0] threshold; 0 none -/
def CPn_DPTHR (a : Nat) : Nat := 0xFFFF1900001C + 0x1000 * a
/-- CPn_MATRIXk: [15:0] M[k], s4.12; [31:16] RSV -/
def CPn_MATRIXk (a b : Nat) : Nat := 0xFFFF19000020 + 0x1000 * a + 0x4 * b
/-- CPn_MATRIXk_ACT: M[k] in force -/
def CPn_MATRIXk_ACT (a b : Nat) : Nat := 0xFFFF19000060 + 0x1000 * a + 0x4 * b
/-- CPn_TBL_LO: Table image address, bits [31:0], a multiple of 64 -/
def CPn_TBL_LO (a : Nat) : Nat := 0xFFFF19000084 + 0x1000 * a
/-- CPn_TBL_HI: [15:0] bits [47:32]; [29:16] KTAG; [31:30] RSV -/
def CPn_TBL_HI (a : Nat) : Nat := 0xFFFF19000088 + 0x1000 * a
/-- CPn_DOM: [2:0] DOM; [31:3] RSV -/
def CPn_DOM (a : Nat) : Nat := 0xFFFF1900008C + 0x1000 * a
/-- CPn_FRING_LO: Frame ring address, bits [31:0], a multiple of 4,096 -/
def CPn_FRING_LO (a : Nat) : Nat := 0xFFFF19000090 + 0x1000 * a
/-- CPn_FRING_HI: As CPn_TBL_HI -/
def CPn_FRING_HI (a : Nat) : Nat := 0xFFFF19000094 + 0x1000 * a
/-- CPn_FRING_N: [7:0] buffers, 0 to 255 -/
def CPn_FRING_N (a : Nat) : Nat := 0xFFFF19000098 + 0x1000 * a
/-- CPn_SRING_LO: Statistics ring address, bits [31:0], a multiple of 4,096 -/
def CPn_SRING_LO (a : Nat) : Nat := 0xFFFF1900009C + 0x1000 * a
/-- CPn_SRING_HI: As CPn_TBL_HI -/
def CPn_SRING_HI (a : Nat) : Nat := 0xFFFF190000A0 + 0x1000 * a
/-- CPn_SRING_N: [7:0] buffers, 0 to 255 -/
def CPn_SRING_N (a : Nat) : Nat := 0xFFFF190000A4 + 0x1000 * a
/-- CPn_SSTRIDE: Statistics buffer stride in bytes, a multiple of 4,096 -/
def CPn_SSTRIDE (a : Nat) : Nat := 0xFFFF190000A8 + 0x1000 * a
/-- CPn_CMD: [0] LOAD; [31:1] RSV -/
def CPn_CMD (a : Nat) : Nat := 0xFFFF190000AC + 0x1000 * a
/-- CPn_STATUS: Flags; NOTBL reads 1 after reset -/
def CPn_STATUS (a : Nat) : Nat := 0xFFFF190000B0 + 0x1000 * a
/-- CPn_FRAME: Number of the last frame processed -/
def CPn_FRAME (a : Nat) : Nat := 0xFFFF190000B4 + 0x1000 * a
/-- CPn_FRMERR: Counters, in this order -/
def CPn_FRMERR (a : Nat) : Nat := 0xFFFF190000B8 + 0x1000 * a
/-- CPn_FDROP: Counters, in this order -/
def CPn_FDROP (a : Nat) : Nat := 0xFFFF190000BC + 0x1000 * a
/-- CPn_SDROP: Counters, in this order -/
def CPn_SDROP (a : Nat) : Nat := 0xFFFF190000C0 + 0x1000 * a
/-- CPn_DPCNT: Counters, in this order -/
def CPn_DPCNT (a : Nat) : Nat := 0xFFFF190000C4 + 0x1000 * a
/-- CPn_ROIk_XW: [13:0] X0; [27:14] W; [31:28] RSV -/
def CPn_ROIk_XW (a b : Nat) : Nat := 0xFFFF19000100 + 0x1000 * a + 0x10 * b
/-- CPn_ROIk_YH: [13:0] Y0; [27:14] H; [31:28] RSV -/
def CPn_ROIk_YH (a b : Nat) : Nat := 0xFFFF19000104 + 0x1000 * a + 0x10 * b
/-- CPn_ROIk_CFG: ROI channel, profiles, threshold -/
def CPn_ROIk_CFG (a b : Nat) : Nat := 0xFFFF19000108 + 0x1000 * a + 0x10 * b
/-- TUn_CFG: Enable, port, auto-calibration -/
def TUn_CFG (a : Nat) : Nat := 0xFFFF1A000000 + 0x1000 * a
/-- TUn_CFG_ACT: CFG in force -/
def TUn_CFG_ACT (a : Nat) : Nat := 0xFFFF1A000004 + 0x1000 * a
/-- TUn_GEOM: Width, height, telemetry rows -/
def TUn_GEOM (a : Nat) : Nat := 0xFFFF1A000008 + 0x1000 * a
/-- TUn_FPAT: [7:0] TWORD; [8] TSRC; [31:9] RSV -/
def TUn_FPAT (a : Nat) : Nat := 0xFFFF1A00000C + 0x1000 * a
/-- TUn_FPAT_SCALE: TSCALE, s16.16 -/
def TUn_FPAT_SCALE (a : Nat) : Nat := 0xFFFF1A000010 + 0x1000 * a
/-- TUn_FPAT_OFS: TOFS, s32 in 1/256 K -/
def TUn_FPAT_OFS (a : Nat) : Nat := 0xFFFF1A000014 + 0x1000 * a
/-- TUn_FPAT_IN: Tfpa for TSRC = 1, s32 in 1/256 K -/
def TUn_FPAT_IN (a : Nat) : Nat := 0xFFFF1A000018 + 0x1000 * a
/-- TUn_TFPA: Tfpa of the last frame -/
def TUn_TFPA (a : Nat) : Nat := 0xFFFF1A00001C + 0x1000 * a
/-- TUn_TREF: TREF in force -/
def TUn_TREF (a : Nat) : Nat := 0xFFFF1A000020 + 0x1000 * a
/-- TUn_TC: TC of the loaded table -/
def TUn_TC (a : Nat) : Nat := 0xFFFF1A000024 + 0x1000 * a
/-- TUn_SHUT: Shutter channel and timing -/
def TUn_SHUT (a : Nat) : Nat := 0xFFFF1A000028 + 0x1000 * a
/-- TUn_THR: [15:0] BADTHR, counts, 0 none; [31:16] OPENTHR, counts -/
def TUn_THR (a : Nat) : Nat := 0xFFFF1A00002C + 0x1000 * a
/-- TUn_TSH: [15:0] shutter temperature, 1/64 K; [31:16] RSV -/
def TUn_TSH (a : Nat) : Nat := 0xFFFF1A000030 + 0x1000 * a
/-- TUn_SHOFS: [15:0] SHOFS -/
def TUn_SHOFS (a : Nat) : Nat := 0xFFFF1A000034 + 0x1000 * a
/-- TUn_CMD: [0] CAL; [1] ABORT; [2] LOAD; [3] SAVE; [31:4] RSV -/
def TUn_CMD (a : Nat) : Nat := 0xFFFF1A000038 + 0x1000 * a
/-- TUn_STATUS: State and flags -/
def TUn_STATUS (a : Nat) : Nat := 0xFFFF1A00003C + 0x1000 * a
/-- TUn_TBL_LO: Table image address, bits [31:0], a multiple of 64 -/
def TUn_TBL_LO (a : Nat) : Nat := 0xFFFF1A000040 + 0x1000 * a
/-- TUn_TBL_HI: [15:0] bits [47:32]; [29:16] KTAG; [31:30] RSV -/
def TUn_TBL_HI (a : Nat) : Nat := 0xFFFF1A000044 + 0x1000 * a
/-- TUn_DOM: [2:0] DOM; [31:3] RSV -/
def TUn_DOM (a : Nat) : Nat := 0xFFFF1A000048 + 0x1000 * a
/-- TUn_FRING_LO: Frame ring address, bits [31:0], a multiple of 4,096 -/
def TUn_FRING_LO (a : Nat) : Nat := 0xFFFF1A00004C + 0x1000 * a
/-- TUn_FRING_HI: As TUn_TBL_HI -/
def TUn_FRING_HI (a : Nat) : Nat := 0xFFFF1A000050 + 0x1000 * a
/-- TUn_FRING_N: [7:0] buffers, 0 to 255; [31:8] RSV -/
def TUn_FRING_N (a : Nat) : Nat := 0xFFFF1A000054 + 0x1000 * a
/-- TUn_FRAME: Number of the last frame processed -/
def TUn_FRAME (a : Nat) : Nat := 0xFFFF1A000058 + 0x1000 * a
/-- TUn_TMOVE: t_move of the last closing, µs -/
def TUn_TMOVE (a : Nat) : Nat := 0xFFFF1A00005C + 0x1000 * a
/-- TUn_CALCNT: Counters, in this order -/
def TUn_CALCNT (a : Nat) : Nat := 0xFFFF1A000060 + 0x1000 * a
/-- TUn_CALFAIL: Counters, in this order -/
def TUn_CALFAIL (a : Nat) : Nat := 0xFFFF1A000064 + 0x1000 * a
/-- TUn_FRMERR: Counters, in this order -/
def TUn_FRMERR (a : Nat) : Nat := 0xFFFF1A000068 + 0x1000 * a
/-- TUn_FDROP: Counters, in this order -/
def TUn_FDROP (a : Nat) : Nat := 0xFFFF1A00006C + 0x1000 * a
/-- TUn_UNREP: Counters, in this order -/
def TUn_UNREP (a : Nat) : Nat := 0xFFFF1A000070 + 0x1000 * a
/-- TUn_STOREERR: Counters, in this order -/
def TUn_STOREERR (a : Nat) : Nat := 0xFFFF1A000074 + 0x1000 * a
/-- TUn_ZONEz_RECT: Zone rectangle -/
def TUn_ZONEz_RECT (a b : Nat) : Nat := 0xFFFF1A000100 + 0x1000 * a + 0x20 * b
/-- TUn_ZONEz_RECT_ACT: Rectangle in force -/
def TUn_ZONEz_RECT_ACT (a b : Nat) : Nat := 0xFFFF1A000104 + 0x1000 * a + 0x20 * b
/-- TUn_ZONEz_MINMAX: [15:0] MIN; [31:16] MAX -/
def TUn_ZONEz_MINMAX (a b : Nat) : Nat := 0xFFFF1A000108 + 0x1000 * a + 0x20 * b
/-- TUn_ZONEz_MEAN: [15:0] MEAN; [31:16] RSV -/
def TUn_ZONEz_MEAN (a b : Nat) : Nat := 0xFFFF1A00010C + 0x1000 * a + 0x20 * b
/-- TUn_ZONEz_HOT: [15:0] HOTX; [31:16] HOTY -/
def TUn_ZONEz_HOT (a b : Nat) : Nat := 0xFFFF1A000110 + 0x1000 * a + 0x20 * b
/-- TUn_ZONEz_FRAME: Frame number of the last record -/
def TUn_ZONEz_FRAME (a b : Nat) : Nat := 0xFFFF1A000114 + 0x1000 * a + 0x20 * b
/-- TUn_ZONEz_COUNT: [20:0] COUNT; [31:21] RSV -/
def TUn_ZONEz_COUNT (a b : Nat) : Nat := 0xFFFF1A000118 + 0x1000 * a + 0x20 * b
/-- TUn_PZm_RECT: Rectangle, layout of the zone RECT -/
def TUn_PZm_RECT (a b : Nat) : Nat := 0xFFFF1A000300 + 0x1000 * a + 0x10 * b
/-- TUn_PZm_BAND: [15:0] PLO; [31:16] PHI; 1/64 K -/
def TUn_PZm_BAND (a b : Nat) : Nat := 0xFFFF1A000304 + 0x1000 * a + 0x10 * b
/-- TUn_PZm_CFG: [19:0] PMIN, pixels; [27:20] PDWELL, frames; [28] EN; [31:29] RSV -/
def TUn_PZm_CFG (a b : Nat) : Nat := 0xFFFF1A000308 + 0x1000 * a + 0x10 * b
/-- TUn_PZm_STAT: [0] PRESENT; [21:1] last in-band count; [31:22] RSV -/
def TUn_PZm_STAT (a b : Nat) : Nat := 0xFFFF1A00030C + 0x1000 * a + 0x10 * b
/-- PLT_STATUS: Lapse and restart state -/
def PLT_STATUS : Nat := 0xFFFF20000000
/-- PLT_HBCFG: [15:0] TIMEOUT, ms; [31:16] RSV -/
def PLT_HBCFG : Nat := 0xFFFF20000004
/-- PLT_HB: Any write is a heartbeat -/
def PLT_HB : Nat := 0xFFFF20000008
/-- PLT_RESTART_CNT: Plant thread restarts, saturating -/
def PLT_RESTART_CNT : Nat := 0xFFFF2000000C
/-- PLT_SO_OUT: Bit k: FW value of SOk -/
def PLT_SO_OUT : Nat := 0xFFFF20000010
/-- PLT_SO_STATE: Bit k: level of SOk at its pin -/
def PLT_SO_STATE : Nat := 0xFFFF20000014
/-- PLT_PRES: [3:0] live; [7:4] debounced; [31:8] RSV -/
def PLT_PRES : Nat := 0xFFFF20000018
/-- PLT_PRESCFG: [3:0] POL, 1 active low; [11:4] DB, samples; [31:12] RSV -/
def PLT_PRESCFG : Nat := 0xFFFF2000001C
/-- PLT_SOk_CFG: Switched output k -/
def PLT_SOk_CFG (a : Nat) : Nat := 0xFFFF20000100 + 0x4 * a
/-- PLT_MOm_CFG: Modulating output m -/
def PLT_MOm_CFG (a : Nat) : Nat := 0xFFFF20000200 + 0x10 * a
/-- PLT_MOm_VAL: [15:0] FW duty; [31:16] SAFE duty -/
def PLT_MOm_VAL (a : Nat) : Nat := 0xFFFF20000204 + 0x10 * a
/-- PLT_MOm_LVL01: [15:0] LVL[0]; [31:16] LVL[1] -/
def PLT_MOm_LVL01 (a : Nat) : Nat := 0xFFFF20000208 + 0x10 * a
/-- PLT_MOm_LVL23: [15:0] LVL[2]; [31:16] LVL[3] -/
def PLT_MOm_LVL23 (a : Nat) : Nat := 0xFFFF2000020C + 0x10 * a
/-- PLT_CZz_CFG: Zone z enables and bindings -/
def PLT_CZz_CFG (a : Nat) : Nat := 0xFFFF20000400 + 0x80 * a
/-- PLT_CZz_TUPRES: Bit 4n + m: presence zone PZm of TUn -/
def PLT_CZz_TUPRES (a : Nat) : Nat := 0xFFFF20000404 + 0x80 * a
/-- PLT_CZz_STAT: Effective mode and flags -/
def PLT_CZz_STAT (a : Nat) : Nat := 0xFFFF20000408 + 0x80 * a
/-- PLT_CZz_OVR: Override -/
def PLT_CZz_OVR (a : Nat) : Nat := 0xFFFF2000040C + 0x80 * a
/-- PLT_CZz_Mmd_TSP: Setpoints of mode md, at +0x0, +0x4, +0x8, +0xC -/
def PLT_CZz_Mmd_TSP (a b : Nat) : Nat := 0xFFFF20000410 + 0x80 * a + 0x10 * b
/-- PLT_CZz_Mmd_TBAND: Setpoints of mode md, at +0x0, +0x4, +0x8, +0xC -/
def PLT_CZz_Mmd_TBAND (a b : Nat) : Nat := 0xFFFF20000414 + 0x80 * a + 0x10 * b
/-- PLT_CZz_Mmd_HSP: Setpoints of mode md, at +0x0, +0x4, +0x8, +0xC -/
def PLT_CZz_Mmd_HSP (a b : Nat) : Nat := 0xFFFF20000418 + 0x80 * a + 0x10 * b
/-- PLT_CZz_Mmd_HBAND: Setpoints of mode md, at +0x0, +0x4, +0x8, +0xC -/
def PLT_CZz_Mmd_HBAND (a b : Nat) : Nat := 0xFFFF2000041C + 0x80 * a + 0x10 * b
/-- LEn_CFG: Enable, levels, source, phase -/
def LEn_CFG (a : Nat) : Nat := 0xFFFF21000000 + 0x100 * a
/-- LEn_CFG_ACT: CFG in force -/
def LEn_CFG_ACT (a : Nat) : Nat := 0xFFFF21000004 + 0x100 * a
/-- LEn_SP: Setpoint, s32 (paired, first) -/
def LEn_SP (a : Nat) : Nat := 0xFFFF21000008 + 0x100 * a
/-- LEn_BAND: [30:0] band half-width (paired, second); [31] RSV -/
def LEn_BAND (a : Nat) : Nat := 0xFFFF2100000C + 0x100 * a
/-- LEn_PER: [23:0] period or deadline, µs; 0 none -/
def LEn_PER (a : Nat) : Nat := 0xFFFF21000010 + 0x100 * a
/-- LEn_DWELL: [7:0] DWELL; [15:8] MISSLIM, 0 none; [17:16] MISSLVL; [31:18] RSV -/
def LEn_DWELL (a : Nat) : Nat := 0xFFFF21000014 + 0x100 * a
/-- LEn_ILIM: [30:0] integral limit; 0 none -/
def LEn_ILIM (a : Nat) : Nat := 0xFFFF21000018 + 0x100 * a
/-- LEn_FBIN: Firmware feedback, s32 -/
def LEn_FBIN (a : Nat) : Nat := 0xFFFF2100001C + 0x100 * a
/-- LEn_COEFk: Coefficient k (R473) -/
def LEn_COEFk (a b : Nat) : Nat := 0xFFFF21000020 + 0x100 * a + 0x4 * b
/-- LEn_COEFk_ACT: Coefficient k in force -/
def LEn_COEFk_ACT (a b : Nat) : Nat := 0xFFFF21000040 + 0x100 * a + 0x4 * b
/-- LEn_PLAUS: [7:0] MDEAD; [15:8] MDWELL; [31:16] RSV -/
def LEn_PLAUS (a : Nat) : Nat := 0xFFFF21000060 + 0x100 * a
/-- LEn_MTOL: [30:0] tolerance; 0 no check -/
def LEn_MTOL (a : Nat) : Nat := 0xFFFF21000064 + 0x100 * a
/-- LEn_MOFS: Model offset, s32 -/
def LEn_MOFS (a : Nat) : Nat := 0xFFFF21000068 + 0x100 * a
/-- LEn_MU: Bits [8q+7:8q]: MU[q], u8 -/
def LEn_MU (a : Nat) : Nat := 0xFFFF2100006C + 0x100 * a
/-- LEn_TEST: Test signal -/
def LEn_TEST (a : Nat) : Nat := 0xFFFF21000070 + 0x100 * a
/-- LEn_TAMP: [30:0] amplitude; 0 none -/
def LEn_TAMP (a : Nat) : Nat := 0xFFFF21000074 + 0x100 * a
/-- LEn_CMD: [0] RESET; [1] CLRPL; [2] TSTART; [3] TSTOP; [31:4] RSV -/
def LEn_CMD (a : Nat) : Nat := 0xFFFF21000078 + 0x100 * a
/-- LEn_STATUS: Level and flags -/
def LEn_STATUS (a : Nat) : Nat := 0xFFFF2100007C + 0x100 * a
/-- LEn_FB: Last feedback x -/
def LEn_FB (a : Nat) : Nat := 0xFFFF21000080 + 0x100 * a
/-- LEn_YF: Last yf -/
def LEn_YF (a : Nat) : Nat := 0xFFFF21000084 + 0x100 * a
/-- LEn_ISH: IACC >> 16, s32 -/
def LEn_ISH (a : Nat) : Nat := 0xFFFF21000088 + 0x100 * a
/-- LEn_MODEL: m -/
def LEn_MODEL (a : Nat) : Nat := 0xFFFF2100008C + 0x100 * a
/-- LEn_MISSCNT: Counters, in this order -/
def LEn_MISSCNT (a : Nat) : Nat := 0xFFFF21000090 + 0x100 * a
/-- LEn_STEPCNT: Counters, in this order -/
def LEn_STEPCNT (a : Nat) : Nat := 0xFFFF21000094 + 0x100 * a
/-- LEn_PLCNT: Counters, in this order -/
def LEn_PLCNT (a : Nat) : Nat := 0xFFFF21000098 + 0x100 * a
/-- LE_CAP_CTL: Capture setup -/
def LE_CAP_CTL : Nat := 0xFFFF21004000
/-- LE_CAP_CMD: [0] START; [1] STOP; [31:2] RSV -/
def LE_CAP_CMD : Nat := 0xFFFF21004004
/-- LE_CAP_STATUS: Capture state -/
def LE_CAP_STATUS : Nat := 0xFFFF21004008
/-- LE_CAP_Ai: Sample i, word A -/
def LE_CAP_Ai (a : Nat) : Nat := 0xFFFF21008000 + 0x8 * a
/-- LE_CAP_Bi: Sample i, word B -/
def LE_CAP_Bi (a : Nat) : Nat := 0xFFFF21008004 + 0x8 * a
/-- Vn_CFG: Enable, source, gang -/
def Vn_CFG (a : Nat) : Nat := 0xFFFF22000000 + 0x100 * a
/-- Vn_SETPT: [12:0] setpoint, counts (paired, first); [31:13] RSV -/
def Vn_SETPT (a : Nat) : Nat := 0xFFFF22000004 + 0x100 * a
/-- Vn_DITHER: Dither (paired, second) -/
def Vn_DITHER (a : Nat) : Nat := 0xFFFF22000008 + 0x100 * a
/-- Vn_REG: [12:0] HYST, counts; [20:13] MINT, samples, 0 none; [31:21] RSV -/
def Vn_REG (a : Nat) : Nat := 0xFFFF2200000C + 0x100 * a
/-- Vn_KI: Integral gain, format of R473 -/
def Vn_KI (a : Nat) : Nat := 0xFFFF22000010 + 0x100 * a
/-- Vn_ILIM: [12:0] integral limit, counts, 0 none; [31:13] RSV -/
def Vn_ILIM (a : Nat) : Nat := 0xFFFF22000014 + 0x100 * a
/-- Vn_LVL01: [12:0] LVL[0]; [28:16] LVL[1]; others RSV -/
def Vn_LVL01 (a : Nat) : Nat := 0xFFFF22000018 + 0x100 * a
/-- Vn_LVL23: [12:0] LVL[2]; [28:16] LVL[3]; others RSV -/
def Vn_LVL23 (a : Nat) : Nat := 0xFFFF2200001C + 0x100 * a
/-- Vn_SAFE: [12:0] SAFESP, 0 gate off; [31:13] RSV -/
def Vn_SAFE (a : Nat) : Nat := 0xFFFF22000020 + 0x100 * a
/-- Vn_OC: [12:0] OCLIM, 64 to 8,191; [31:13] RSV -/
def Vn_OC (a : Nat) : Nat := 0xFFFF22000024 + 0x100 * a
/-- Vn_MOVECFG: [15:0] MWIN, 10 µs units, 0 none; [28:16] MDIP, counts; [31:29] RSV -/
def Vn_MOVECFG (a : Nat) : Nat := 0xFFFF22000028 + 0x100 * a
/-- Vn_MOVE: [19:0] TMOVE, µs; [20] DONE; [21] NOMOVE; [31:22] RSV -/
def Vn_MOVE (a : Nat) : Nat := 0xFFFF2200002C + 0x100 * a
/-- Vn_DUTY: [13:0] DWIN, ms, 0 none; [21:14] DMAX, 1/256; [31:22] RSV -/
def Vn_DUTY (a : Nat) : Nat := 0xFFFF22000030 + 0x100 * a
/-- Vn_KH: KH, u32; 0 no model -/
def Vn_KH (a : Nat) : Nat := 0xFFFF22000034 + 0x100 * a
/-- Vn_KT: [23:0] KT; 0 no model; [31:24] RSV -/
def Vn_KT (a : Nat) : Nat := 0xFFFF22000038 + 0x100 * a
/-- Vn_TAMB: Ambient, s32 in 1/64 K -/
def Vn_TAMB (a : Nat) : Nat := 0xFFFF2200003C + 0x100 * a
/-- Vn_TLIM: [15:0] TMAX, 1/64 K, 0 none; [31:16] THYS, 1/64 K -/
def Vn_TLIM (a : Nat) : Nat := 0xFFFF22000040 + 0x100 * a
/-- Vn_CMD: [0] CLRTRIP; [31:1] RSV -/
def Vn_CMD (a : Nat) : Nat := 0xFFFF22000044 + 0x100 * a
/-- Vn_STATUS: Gate, protection and configuration flags -/
def Vn_STATUS (a : Nat) : Nat := 0xFFFF22000048 + 0x100 * a
/-- Vn_SENSE: [13:0] last sense result, s14; [31:14] RSV -/
def Vn_SENSE (a : Nat) : Nat := 0xFFFF2200004C + 0x100 * a
/-- Vn_IMEAN: Mean sense result over the last ms, s32 -/
def Vn_IMEAN (a : Nat) : Nat := 0xFFFF22000050 + 0x100 * a
/-- Vn_TCOIL: T of R501, s32 in 1/64 K -/
def Vn_TCOIL (a : Nat) : Nat := 0xFFFF22000054 + 0x100 * a
/-- Vn_TRIPCNT: Counters, in this order -/
def Vn_TRIPCNT (a : Nat) : Nat := 0xFFFF22000058 + 0x100 * a
/-- Vn_LIMCNT: Counters, in this order -/
def Vn_LIMCNT (a : Nat) : Nat := 0xFFFF2200005C + 0x100 * a
/-- Vn_NOMOVECNT: Counters, in this order -/
def Vn_NOMOVECNT (a : Nat) : Nat := 0xFFFF22000060 + 0x100 * a
/-- ADC_CTL: [0] EN; [5:1] LEN, 0 to 16; [6] AUTOCAL; [31:7] RSV -/
def ADC_CTL : Nat := 0xFFFF23000000
/-- ADC_CMD: [0] CAL; [31:1] RSV -/
def ADC_CMD : Nat := 0xFFFF23000004
/-- ADC_STATUS: State and flags -/
def ADC_STATUS : Nat := 0xFFFF23000008
/-- ADC_LAP: [23:0] last lap time, µs; [31:24] RSV -/
def ADC_LAP : Nat := 0xFFFF2300000C
/-- ADC_SEQn_CFG: Inputs, gain, rate -/
def ADC_SEQn_CFG (a : Nat) : Nat := 0xFFFF23000100 + 0x10 * a
/-- ADC_SEQn_TIM: Settling, averaging, open wire -/
def ADC_SEQn_TIM (a : Nat) : Nat := 0xFFFF23000104 + 0x10 * a
/-- ADC_SEQn_RESULT: Result (R510) -/
def ADC_SEQn_RESULT (a : Nat) : Nat := 0xFFFF23000108 + 0x10 * a
/-- ADC_SEQn_TIME: Ring time of the result, bits [31:0], ns -/
def ADC_SEQn_TIME (a : Nat) : Nat := 0xFFFF2300010C + 0x10 * a
/-- FANn_CFG: Enable, source, group, tach -/
def FANn_CFG (a : Nat) : Nat := 0xFFFF24000000 + 0x100 * a
/-- FANn_TARGET: [15:0] target, RPM; 0 off; [31:16] RSV -/
def FANn_TARGET (a : Nat) : Nat := 0xFFFF24000004 + 0x100 * a
/-- FANn_DUTY: [15:0] DUTY for SRC 1; [31:16] SAFEDUTY -/
def FANn_DUTY (a : Nat) : Nat := 0xFFFF24000008 + 0x100 * a
/-- FANn_LVLRPM01: [15:0] LVLRPM[0]; [31:16] LVLRPM[1] -/
def FANn_LVLRPM01 (a : Nat) : Nat := 0xFFFF2400000C + 0x100 * a
/-- FANn_LVLRPM23: [15:0] LVLRPM[2]; [31:16] LVLRPM[3] -/
def FANn_LVLRPM23 (a : Nat) : Nat := 0xFFFF24000010 + 0x100 * a
/-- FANn_RAMP: [15:0] RAMP, RPM/s, 0 none; [31:16] DMIN -/
def FANn_RAMP (a : Nat) : Nat := 0xFFFF24000014 + 0x100 * a
/-- FANn_KP: KP, format of R473 -/
def FANn_KP (a : Nat) : Nat := 0xFFFF24000018 + 0x100 * a
/-- FANn_KI: KI, format of R473 -/
def FANn_KI (a : Nat) : Nat := 0xFFFF2400001C + 0x100 * a
/-- FANn_FAIL: [15:0] STALLRPM; [23:16] FAILT, 100 ms units, 0 none; [31:24] RSV -/
def FANn_FAIL (a : Nat) : Nat := 0xFFFF24000020 + 0x100 * a
/-- FANn_TSCALE: TSCALE, s16.16 -/
def FANn_TSCALE (a : Nat) : Nat := 0xFFFF24000024 + 0x100 * a
/-- FANn_TOFS: TOFS, s32 in 1/64 K -/
def FANn_TOFS (a : Nat) : Nat := 0xFFFF24000028 + 0x100 * a
/-- FANn_CMD: [0] CLRFAIL; [31:1] RSV -/
def FANn_CMD (a : Nat) : Nat := 0xFFFF2400002C + 0x100 * a
/-- FANn_STATUS: Mode and flags -/
def FANn_STATUS (a : Nat) : Nat := 0xFFFF24000030 + 0x100 * a
/-- FANn_RPM: [15:0] measured RPM; [31:16] ramped target, RPM -/
def FANn_RPM (a : Nat) : Nat := 0xFFFF24000034 + 0x100 * a
/-- FANn_DUTYACT: [15:0] duty at the pin; [31:16] RSV -/
def FANn_DUTYACT (a : Nat) : Nat := 0xFFFF24000038 + 0x100 * a
/-- FANn_TIN: [15:0] table input T; [31:16] RSV -/
def FANn_TIN (a : Nat) : Nat := 0xFFFF2400003C + 0x100 * a
/-- FANn_TABLEk: Table point k (R517) -/
def FANn_TABLEk (a b : Nat) : Nat := 0xFFFF24000040 + 0x100 * a + 0x4 * b
/-- FANn_TABLEk_ACT: Point k in force -/
def FANn_TABLEk_ACT (a b : Nat) : Nat := 0xFFFF24000060 + 0x100 * a + 0x4 * b
/-- FANn_FAILCNT: Failures, saturating at 0xFFFF_FFFF -/
def FANn_FAILCNT (a : Nat) : Nat := 0xFFFF24000080 + 0x100 * a
/-- SPIn_CFG: Role, format, clock, castling -/
def SPIn_CFG (a : Nat) : Nat := 0xFFFF25000000 + 0x100 * a
/-- SPIn_TIMING: [3:0] LEAD, Tb; [7:4] GAP, Tb; [15:8] RWAIT, µs; [31:16] LEASE, µs, 0 none -/
def SPIn_TIMING (a : Nat) : Nat := 0xFFFF25000004 + 0x100 * a
/-- SPIn_SELEN: [3:0] select enables; bit cleared by R530; [31:4] RSV -/
def SPIn_SELEN (a : Nat) : Nat := 0xFFFF25000008 + 0x100 * a
/-- SPIn_TXADDR: [18:0] plant store offset; [31:19] RSV -/
def SPIn_TXADDR (a : Nat) : Nat := 0xFFFF2500000C + 0x100 * a
/-- SPIn_RXADDR: As TXADDR -/
def SPIn_RXADDR (a : Nat) : Nat := 0xFFFF25000010 + 0x100 * a
/-- SPIn_XFER: Transfer -/
def SPIn_XFER (a : Nat) : Nat := 0xFFFF25000014 + 0x100 * a
/-- SPIn_CMD: [0] GO; [1] ABORT; [2] CASTLE; [3] REPLY; [31:4] RSV -/
def SPIn_CMD (a : Nat) : Nat := 0xFFFF25000018 + 0x100 * a
/-- SPIn_STATUS: Transfer and role state -/
def SPIn_STATUS (a : Nat) : Nat := 0xFFFF2500001C + 0x100 * a
/-- SPIn_RXCNT: [12:0] bytes received; [18:13] LASTBITS; [31:19] RSV -/
def SPIn_RXCNT (a : Nat) : Nat := 0xFFFF25000020 + 0x100 * a
/-- SPIn_SRXRING: [18:0] offset, multiple of 16; [22:19] LOG2N, 1 to 8, 0 none; [31:23] RSV -/
def SPIn_SRXRING (a : Nat) : Nat := 0xFFFF25000024 + 0x100 * a
/-- SPIn_SRXHEAD: [7:0] next slot firmware reads -/
def SPIn_SRXHEAD (a : Nat) : Nat := 0xFFFF25000028 + 0x100 * a
/-- SPIn_SRXTAIL: [7:0] next slot the port writes -/
def SPIn_SRXTAIL (a : Nat) : Nat := 0xFFFF2500002C + 0x100 * a
/-- SPIn_REPADDR: [18:0] reply offset in plant store -/
def SPIn_REPADDR (a : Nat) : Nat := 0xFFFF25000030 + 0x100 * a
/-- SPIn_REPLEN: [8:0] reply bytes, 0 to 256 -/
def SPIn_REPLEN (a : Nat) : Nat := 0xFFFF25000034 + 0x100 * a
/-- SPIn_CONFLICT: Counters, in this order -/
def SPIn_CONFLICT (a : Nat) : Nat := 0xFFFF25000040 + 0x100 * a
/-- SPIn_CUTOFF: Counters, in this order -/
def SPIn_CUTOFF (a : Nat) : Nat := 0xFFFF25000044 + 0x100 * a
/-- SPIn_CASTLES: Counters, in this order -/
def SPIn_CASTLES (a : Nat) : Nat := 0xFFFF25000048 + 0x100 * a
/-- SPIn_BUSYRPL: Counters, in this order -/
def SPIn_BUSYRPL (a : Nat) : Nat := 0xFFFF2500004C + 0x100 * a
/-- SPIn_LOSTFRM: Counters, in this order -/
def SPIn_LOSTFRM (a : Nat) : Nat := 0xFFFF25000050 + 0x100 * a
/-- SPI0_DXCFG: Direct execution -/
def SPI0_DXCFG : Nat := 0xFFFF25000080
/-- SPI0_DXHIT: Buffer hits -/
def SPI0_DXHIT : Nat := 0xFFFF25000084
/-- SPI0_DXMISS: Buffer misses -/
def SPI0_DXMISS : Nat := 0xFFFF25000088
/-- BBn_CFG: Enable and addresses -/
def BBn_CFG (a : Nat) : Nat := 0xFFFF26000000 + 0x100 * a
/-- BBn_RATE: [2:0] rate code, paired first; [31:3] RSV -/
def BBn_RATE (a : Nat) : Nat := 0xFFFF26000004 + 0x100 * a
/-- BBn_TIMING: Bit-time timers, paired second -/
def BBn_TIMING (a : Nat) : Nat := 0xFFFF26000008 + 0x100 * a
/-- BBn_TIMERS: Millisecond timers -/
def BBn_TIMERS (a : Nat) : Nat := 0xFFFF2600000C + 0x100 * a
/-- BBn_RDLY: [7:0] Treply_delay, ms -/
def BBn_RDLY (a : Nat) : Nat := 0xFFFF26000010 + 0x100 * a
/-- BBn_STATUS: State and flags -/
def BBn_STATUS (a : Nat) : Nat := 0xFFFF26000014 + 0x100 * a
/-- BBn_RXRING: [18:0] plant store offset, multiple of 16; [22:19] LOG2N, 1 to 8; 0 gives no ring -/
def BBn_RXRING (a : Nat) : Nat := 0xFFFF26000018 + 0x100 * a
/-- BBn_RXHEAD: [7:0] next slot firmware reads -/
def BBn_RXHEAD (a : Nat) : Nat := 0xFFFF2600001C + 0x100 * a
/-- BBn_RXTAIL: [7:0] next slot the port writes -/
def BBn_RXTAIL (a : Nat) : Nat := 0xFFFF26000020 + 0x100 * a
/-- BBn_TXRING: As BBn_RXRING -/
def BBn_TXRING (a : Nat) : Nat := 0xFFFF26000024 + 0x100 * a
/-- BBn_TXHEAD: [7:0] next slot the port sends -/
def BBn_TXHEAD (a : Nat) : Nat := 0xFFFF26000028 + 0x100 * a
/-- BBn_TXTAIL: [7:0] next slot firmware fills -/
def BBn_TXTAIL (a : Nat) : Nat := 0xFFFF2600002C + 0x100 * a
/-- BBn_HDRCRC: Counters, in this order -/
def BBn_HDRCRC (a : Nat) : Nat := 0xFFFF26000030 + 0x100 * a
/-- BBn_DATACRC: Counters, in this order -/
def BBn_DATACRC (a : Nat) : Nat := 0xFFFF26000034 + 0x100 * a
/-- BBn_ABORT: Counters, in this order -/
def BBn_ABORT (a : Nat) : Nat := 0xFFFF26000038 + 0x100 * a
/-- BBn_COLLIDE: Counters, in this order -/
def BBn_COLLIDE (a : Nat) : Nat := 0xFFFF2600003C + 0x100 * a
/-- BBn_STUCK: Counters, in this order -/
def BBn_STUCK (a : Nat) : Nat := 0xFFFF26000040 + 0x100 * a
/-- BBn_TOKLOST: Counters, in this order -/
def BBn_TOKLOST (a : Nat) : Nat := 0xFFFF26000044 + 0x100 * a
/-- BBn_RXOVF: Counters, in this order -/
def BBn_RXOVF (a : Nat) : Nat := 0xFFFF26000048 + 0x100 * a
/-- BBn_DISC: Counters, in this order -/
def BBn_DISC (a : Nat) : Nat := 0xFFFF2600004C + 0x100 * a
/-- AON_STATUS: Alarm, switch point, oscillator, VAON -/
def AON_STATUS : Nat := 0xFFFF27000000
/-- AON_RTC_SEC_LO: Seconds, bits [31:0] -/
def AON_RTC_SEC_LO : Nat := 0xFFFF27000004
/-- AON_RTC_SEC_HI: [7:0] seconds, bits [39:32]; [31:8] RSV -/
def AON_RTC_SEC_HI : Nat := 0xFFFF27000008
/-- AON_RTC_SUB: [14:0] 1/32,768 s -/
def AON_RTC_SUB : Nat := 0xFFFF2700000C
/-- AON_RTC_TRIM: [15:0] TRIM, s16 -/
def AON_RTC_TRIM : Nat := 0xFFFF27000010
/-- AON_TZ: [15:0] offset, s16 minutes -/
def AON_TZ : Nat := 0xFFFF27000014
/-- AON_CAL_DATE: [6:0] year − 2000; [10:7] month; [15:11] day; [18:16] weekday -/
def AON_CAL_DATE : Nat := 0xFFFF27000018
/-- AON_CAL_TIME: [5:0] second; [11:6] minute; [16:12] hour -/
def AON_CAL_TIME : Nat := 0xFFFF2700001C
/-- AON_ALARM_LO: Alarm second, bits [31:0] -/
def AON_ALARM_LO : Nat := 0xFFFF27000020
/-- AON_ALARM_HI: [7:0] bits [39:32] -/
def AON_ALARM_HI : Nat := 0xFFFF27000024
/-- AON_ZMODE: Bits [2z+1:2z]: mode of zone z -/
def AON_ZMODE : Nat := 0xFFFF27000028
/-- AON_RETi: Retention word i, 0 to 15 -/
def AON_RETi (a : Nat) : Nat := 0xFFFF27000040 + 0x4 * a
/-- AON_SCHk: Schedule entry k, 0 to 63 -/
def AON_SCHk (a : Nat) : Nat := 0xFFFF27000100 + 0x4 * a
/-- AON_WAKE_EN: Wake enables -/
def AON_WAKE_EN : Nat := 0xFFFF27000200
/-- AON_WAKE_STATUS: Latched wake sources -/
def AON_WAKE_STATUS : Nat := 0xFFFF27000204
/-- AON_WAKECFG: Input polarity and levels -/
def AON_WAKECFG : Nat := 0xFFFF27000208
/-- AON_HIB_CMD: [7:0] KEY; [8] ENTER; [31:9] RSV -/
def AON_HIB_CMD : Nat := 0xFFFF2700020C
/-- AON_HIB_STATUS: [1:0] RESULT: 0 DONE, 1 PENDING, 2 MODE; [31:2] RSV -/
def AON_HIB_STATUS : Nat := 0xFFFF27000210

end Reg

/-- Rows of the SYS block, part 1. -/
def rowsSys : List RegRow := [
  ⟨0xFFFF00000000, 0x0, 1, 0x0, 1, .ro, 0x00000000, 0x00000000, 0x00000000⟩,  -- SYS_ID
  ⟨0xFFFF00000004, 0x0, 1, 0x0, 1, .ro, 0x00000000, 0x00000000, 0x00000000⟩,  -- SYS_CAP0
  ⟨0xFFFF00000008, 0x0, 1, 0x0, 1, .ro, 0x00000000, 0x00000000, 0x00000000⟩,  -- SYS_CAP1
  ⟨0xFFFF0000000C, 0x0, 1, 0x0, 1, .ro, 0x00000000, 0x00000000, 0x00000000⟩,  -- SYS_CAP2
  ⟨0xFFFF00000010, 0x0, 1, 0x0, 1, .ro, 0x00000000, 0x00000000, 0xFFFFFFFF⟩,  -- SYS_MEMTOP_LO
  ⟨0xFFFF00000014, 0x0, 1, 0x0, 1, .ro, 0x00000000, 0x00000000, 0x00000000⟩,  -- SYS_MEMTOP_HI
  ⟨0xFFFF00000018, 0x0, 1, 0x0, 1, .ro, 0x00000000, 0x00000000, 0x03000000⟩,  -- SYS_ISLAND_ON
  ⟨0xFFFF0000001C, 0x0, 1, 0x0, 1, .ro, 0x00000000, 0x00000000, 0x00000000⟩,  -- SYS_ISLAND_FENCE
  ⟨0xFFFF00000020, 0x0, 1, 0x0, 1, .ro, 0x00000000, 0x00000000, 0x00000000⟩,  -- SYS_UID_LO
  ⟨0xFFFF00000024, 0x0, 1, 0x0, 1, .ro, 0x00000000, 0x00000000, 0x00000000⟩,  -- SYS_UID_HI
  ⟨0xFFFF00000100, 0x0, 1, 0x0, 1, .ro, 0x00000000, 0x00000000, 0x00000000⟩,  -- SYS_TRUST
  ⟨0xFFFF00000104, 0x0, 1, 0x0, 1, .ro, 0x00000000, 0x00000000, 0x00000000⟩,  -- SYS_OWN_STATUS
  ⟨0xFFFF00000108, 0x0, 1, 0x0, 1, .ro, 0x00000000, 0x00000000, 0x00000000⟩,  -- SYS_OWN_VERSION
  ⟨0xFFFF0000010C, 0x0, 1, 0x0, 1, .ro, 0x00000000, 0x00000000, 0x00000000⟩,  -- SYS_FUSE_ROLLBACK
  ⟨0xFFFF00000110, 0x4, 8, 0x0, 1, .ro, 0x00000000, 0x00000000, 0x00000000⟩,  -- SYS_FUSE_KEYHASHn
  ⟨0xFFFF00000130, 0x0, 1, 0x0, 1, .wo, 0x00000000, 0x00000000, 0x00000000⟩,  -- SYS_OWN_INSTALL_LO
  ⟨0xFFFF00000134, 0x0, 1, 0x0, 1, .wo, 0x00000000, 0x00000000, 0x00000000⟩,  -- SYS_OWN_INSTALL_HI
  ⟨0xFFFF00000138, 0x0, 1, 0x0, 1, .wo, 0x00000000, 0x00000000, 0x00000000⟩,  -- SYS_FUSE_CMD
  ⟨0xFFFF00010000, 0x1000, 8, 0x4, 64, .wo, 0x00000000, 0x00000000, 0x00000000⟩,  -- SYS_Dd_DBn
  ⟨0xFFFF00010100, 0x1000, 8, 0x4, 64, .rw, 0x00000FFF, 0x00000000, 0x00000000⟩,  -- SYS_Dd_DBROUTEn
  ⟨0xFFFF00010200, 0x1000, 8, 0x4, 64, .ro, 0x00000000, 0x00000000, 0x00000000⟩,  -- SYS_Dd_DBVALn
  ⟨0xFFFF00010300, 0x1000, 8, 0x0, 1, .wo, 0x00000000, 0x00000000, 0x00000000⟩,  -- SYS_Dd_SEATCMD_LO
  ⟨0xFFFF00010304, 0x1000, 8, 0x0, 1, .wo, 0x00000000, 0x00000000, 0x00000000⟩,  -- SYS_Dd_SEATCMD_HI
  ⟨0xFFFF00010308, 0x1000, 8, 0x0, 1, .ro, 0x00000000, 0x00000000, 0x00000000⟩,  -- SYS_Dd_SEATCMD_STATUS
  ⟨0xFFFF00010310, 0x1000, 8, 0x0, 1, .rw, 0xFFFFFFFF, 0x00000000, 0x00000000⟩,  -- SYS_Dd_NQ_BASE_LO
  ⟨0xFFFF00010314, 0x1000, 8, 0x0, 1, .rw, 0x0000FFFF, 0x00000000, 0x00000000⟩,  -- SYS_Dd_NQ_BASE_HI
  ⟨0xFFFF00010318, 0x1000, 8, 0x0, 1, .rw, 0x000FFFDF, 0x00000000, 0x00000000⟩,  -- SYS_Dd_NQ_CTL
  ⟨0xFFFF0001031C, 0x1000, 8, 0x0, 1, .rw, 0x00007FFF, 0x00000000, 0x00000000⟩,  -- SYS_Dd_NQ_HEAD
  ⟨0xFFFF00010320, 0x1000, 8, 0x0, 1, .ro, 0x00000000, 0x00000000, 0x00000000⟩,  -- SYS_Dd_NQ_TAIL
  ⟨0xFFFF00010324, 0x1000, 8, 0x0, 1, .w1c, 0x00000000, 0x00000003, 0x00000000⟩,  -- SYS_Dd_NQ_STATUS
  ⟨0xFFFF00010328, 0x1000, 8, 0x0, 1, .ro, 0x00000000, 0x00000000, 0x00000000⟩,  -- SYS_Dd_NQ_LOST
  ⟨0xFFFF0001032C, 0x1000, 8, 0x0, 1, .ro, 0x00000000, 0x00000000, 0x00000000⟩,  -- SYS_Dd_DB_DROP
  ⟨0xFFFF00010330, 0x1000, 8, 0x0, 1, .ro, 0x00000000, 0x00000000, 0x00000000⟩,  -- SYS_Dd_TLAT_OVR
  ⟨0xFFFF00000200, 0x0, 1, 0x0, 1, .w1c, 0x00000000, 0x0000001F, 0x00000000⟩,  -- SYS_RSTCAUSE
  ⟨0xFFFF00000204, 0x0, 1, 0x0, 1, .ro, 0x00000000, 0x00000000, 0x00000000⟩,  -- SYS_BOOT
  ⟨0xFFFF00000208, 0x0, 1, 0x0, 1, .ro, 0x00000000, 0x00000000, 0x00000000⟩,  -- SYS_PWR_STATUS
  ⟨0xFFFF0000020C, 0x0, 1, 0x0, 1, .wo, 0x00000000, 0x00000000, 0x00000000⟩,  -- SYS_PWR_CMD
  ⟨0xFFFF00000210, 0x0, 1, 0x0, 1, .wo, 0x00000000, 0x00000000, 0x00000000⟩   -- SYS_RST_CMD
  ]

/-- Rows of the FC block, part 1. -/
def rowsFc1 : List RegRow := [
  ⟨0xFFFF01000000, 0x0, 1, 0x0, 1, .w1c, 0x00000000, 0xFFFFFFFF, 0x00000000⟩,  -- FC_STATUS_LO
  ⟨0xFFFF01000004, 0x0, 1, 0x0, 1, .w1c, 0x00000000, 0xFFFF03FF, 0x00000000⟩,  -- FC_STATUS_HI
  ⟨0xFFFF01000008, 0x0, 1, 0x0, 1, .ro, 0x00000000, 0x00000000, 0x00000000⟩,  -- FC_LIVE_LO
  ⟨0xFFFF0100000C, 0x0, 1, 0x0, 1, .ro, 0x00000000, 0x00000000, 0x00000000⟩,  -- FC_LIVE_HI
  ⟨0xFFFF01000010, 0x0, 1, 0x0, 1, .ro, 0x00000000, 0x00000000, 0x00000000⟩,  -- FC_FIRST
  ⟨0xFFFF01000014, 0x0, 1, 0x0, 1, .ro, 0x00000000, 0x00000000, 0x00000000⟩,  -- FC_FIRST_TIME_LO
  ⟨0xFFFF01000018, 0x0, 1, 0x0, 1, .ro, 0x00000000, 0x00000000, 0x00000000⟩,  -- FC_FIRST_TIME_HI
  ⟨0xFFFF0100001C, 0x0, 1, 0x0, 1, .ro, 0x00000000, 0x00000000, 0x00000000⟩,  -- FC_FIRST_ISL
  ⟨0xFFFF01000020, 0x0, 1, 0x0, 1, .ro, 0x00000000, 0x00000000, 0x00000000⟩,  -- FC_FIRST_FENCE
  ⟨0xFFFF01000024, 0x0, 1, 0x0, 1, .w1p, 0x00000000, 0x00000000, 0x00000000⟩,  -- FC_FIRST_CLR
  ⟨0xFFFF01000028, 0x0, 1, 0x0, 1, .rw, 0x00000001, 0x00000000, 0x00000000⟩,  -- FC_HANDLING
  ⟨0xFFFF0100002C, 0x0, 1, 0x0, 1, .w1c, 0x00000000, 0x00000800, 0x00000000⟩,  -- FC_SAFE
  ⟨0xFFFF01000030, 0x0, 1, 0x0, 1, .wo, 0x00000000, 0x00000000, 0x00000000⟩,  -- FC_SAFE_CMD
  ⟨0xFFFF01000034, 0x0, 1, 0x0, 1, .rw, 0x000000FF, 0x00000000, 0x00000000⟩,  -- FC_SAFEOUT
  ⟨0xFFFF01000038, 0x0, 1, 0x0, 1, .rw, 0x00000FFF, 0x00000000, 0x000003E8⟩,  -- FC_PIP
  ⟨0xFFFF0100003C, 0x0, 1, 0x0, 1, .rw, 0x0000007F, 0x00000100, 0x0000000A⟩,  -- FC_IET
  ⟨0xFFFF01000040, 0x0, 1, 0x0, 1, .wo, 0x00000000, 0x00000000, 0x00000000⟩,  -- FC_SWRAISE
  ⟨0xFFFF01000044, 0x0, 1, 0x0, 1, .rw, 0x00000FFF, 0x00000000, 0x00000000⟩,  -- FC_NSEAT
  ⟨0xFFFF01000100, 0x0, 1, 0x0, 1, .rw, 0x00007FFF, 0x00000000, 0x00006864⟩,  -- FC_SRCn_CFG n=0
  ⟨0xFFFF01000104, 0x0, 1, 0x0, 1, .rw, 0x00007FFF, 0x00000000, 0x00006864⟩,  -- FC_SRCn_CFG n=1
  ⟨0xFFFF01000108, 0x0, 1, 0x0, 1, .rw, 0x00007FFF, 0x00000000, 0x00006864⟩,  -- FC_SRCn_CFG n=2
  ⟨0xFFFF0100010C, 0x0, 1, 0x0, 1, .rw, 0x00007FFF, 0x00000000, 0x00006864⟩,  -- FC_SRCn_CFG n=3
  ⟨0xFFFF01000110, 0x0, 1, 0x0, 1, .rw, 0x00007FFF, 0x00000000, 0x00006864⟩,  -- FC_SRCn_CFG n=4
  ⟨0xFFFF01000114, 0x0, 1, 0x0, 1, .rw, 0x00007FFF, 0x00000000, 0x00006864⟩,  -- FC_SRCn_CFG n=5
  ⟨0xFFFF01000118, 0x0, 1, 0x0, 1, .rw, 0x00007FFF, 0x00000000, 0x00006864⟩,  -- FC_SRCn_CFG n=6
  ⟨0xFFFF0100011C, 0x0, 1, 0x0, 1, .rw, 0x00007FFF, 0x00000000, 0x00006864⟩,  -- FC_SRCn_CFG n=7
  ⟨0xFFFF01000120, 0x0, 1, 0x0, 1, .rw, 0x00007FFF, 0x00000000, 0x00006864⟩,  -- FC_SRCn_CFG n=8
  ⟨0xFFFF01000124, 0x0, 1, 0x0, 1, .rw, 0x00007FFF, 0x00000000, 0x00006864⟩,  -- FC_SRCn_CFG n=9
  ⟨0xFFFF01000128, 0x0, 1, 0x0, 1, .rw, 0x00007FFF, 0x00000000, 0x00006864⟩,  -- FC_SRCn_CFG n=10
  ⟨0xFFFF0100012C, 0x0, 1, 0x0, 1, .rw, 0x00007FFF, 0x00000000, 0x00006864⟩,  -- FC_SRCn_CFG n=11
  ⟨0xFFFF01000130, 0x0, 1, 0x0, 1, .rw, 0x00007FFF, 0x00000000, 0x00006864⟩,  -- FC_SRCn_CFG n=12
  ⟨0xFFFF01000134, 0x0, 1, 0x0, 1, .rw, 0x00007FFF, 0x00000000, 0x00006864⟩,  -- FC_SRCn_CFG n=13
  ⟨0xFFFF01000138, 0x0, 1, 0x0, 1, .rw, 0x00007FFF, 0x00000000, 0x00006864⟩,  -- FC_SRCn_CFG n=14
  ⟨0xFFFF0100013C, 0x0, 1, 0x0, 1, .rw, 0x00007FFF, 0x00000000, 0x00006864⟩,  -- FC_SRCn_CFG n=15
  ⟨0xFFFF01000140, 0x0, 1, 0x0, 1, .rw, 0x00007FFF, 0x00000000, 0x00006864⟩,  -- FC_SRCn_CFG n=16
  ⟨0xFFFF01000144, 0x0, 1, 0x0, 1, .rw, 0x00007FFF, 0x00000000, 0x00006864⟩,  -- FC_SRCn_CFG n=17
  ⟨0xFFFF01000148, 0x0, 1, 0x0, 1, .rw, 0x00007FFF, 0x00000000, 0x00006864⟩,  -- FC_SRCn_CFG n=18
  ⟨0xFFFF0100014C, 0x0, 1, 0x0, 1, .rw, 0x00007FFF, 0x00000000, 0x00006864⟩,  -- FC_SRCn_CFG n=19
  ⟨0xFFFF01000150, 0x0, 1, 0x0, 1, .rw, 0x00007FFF, 0x00000000, 0x00006864⟩,  -- FC_SRCn_CFG n=20
  ⟨0xFFFF01000154, 0x0, 1, 0x0, 1, .rw, 0x00007FFF, 0x00000000, 0x0000E805⟩   -- FC_SRCn_CFG n=21
  ]

/-- Rows of the FC block, part 2. -/
def rowsFc2 : List RegRow := [
  ⟨0xFFFF01000158, 0x0, 1, 0x0, 1, .rw, 0x00007FFF, 0x00000000, 0x0000680A⟩,  -- FC_SRCn_CFG n=22
  ⟨0xFFFF0100015C, 0x0, 1, 0x0, 1, .rw, 0x00007FFF, 0x00000000, 0x00006864⟩,  -- FC_SRCn_CFG n=23
  ⟨0xFFFF01000160, 0x0, 1, 0x0, 1, .rw, 0x00007FFF, 0x00000000, 0x0000E805⟩,  -- FC_SRCn_CFG n=24
  ⟨0xFFFF01000164, 0x0, 1, 0x0, 1, .rw, 0x00007FFF, 0x00000000, 0x0000E805⟩,  -- FC_SRCn_CFG n=25
  ⟨0xFFFF01000168, 0x0, 1, 0x0, 1, .rw, 0x00007FFF, 0x00000000, 0x0000E805⟩,  -- FC_SRCn_CFG n=26
  ⟨0xFFFF0100016C, 0x0, 1, 0x0, 1, .rw, 0x00007FFF, 0x00000000, 0x0000E805⟩,  -- FC_SRCn_CFG n=27
  ⟨0xFFFF01000170, 0x0, 1, 0x0, 1, .rw, 0x00007FFF, 0x00000000, 0x00006864⟩,  -- FC_SRCn_CFG n=28
  ⟨0xFFFF01000174, 0x0, 1, 0x0, 1, .rw, 0x00007FFF, 0x00000000, 0x00006864⟩,  -- FC_SRCn_CFG n=29
  ⟨0xFFFF01000178, 0x0, 1, 0x0, 1, .rw, 0x00007FFF, 0x00000000, 0x00006864⟩,  -- FC_SRCn_CFG n=30
  ⟨0xFFFF0100017C, 0x0, 1, 0x0, 1, .rw, 0x00007FFF, 0x00000000, 0x0000E805⟩,  -- FC_SRCn_CFG n=31
  ⟨0xFFFF01000180, 0x0, 1, 0x0, 1, .rw, 0x00007FFF, 0x00000000, 0x00006864⟩,  -- FC_SRCn_CFG n=32
  ⟨0xFFFF01000184, 0x0, 1, 0x0, 1, .rw, 0x00007FFF, 0x00000000, 0x00006864⟩,  -- FC_SRCn_CFG n=33
  ⟨0xFFFF01000188, 0x0, 1, 0x0, 1, .rw, 0x00007FFF, 0x00000000, 0x00006864⟩,  -- FC_SRCn_CFG n=34
  ⟨0xFFFF0100018C, 0x0, 1, 0x0, 1, .rw, 0x00007FFF, 0x00000000, 0x00006864⟩,  -- FC_SRCn_CFG n=35
  ⟨0xFFFF01000190, 0x0, 1, 0x0, 1, .rw, 0x00007FFF, 0x00000000, 0x00006864⟩,  -- FC_SRCn_CFG n=36
  ⟨0xFFFF01000194, 0x0, 1, 0x0, 1, .rw, 0x00007FFF, 0x00000000, 0x00006864⟩,  -- FC_SRCn_CFG n=37
  ⟨0xFFFF01000198, 0x0, 1, 0x0, 1, .rw, 0x00007FFF, 0x00000000, 0x00006864⟩,  -- FC_SRCn_CFG n=38
  ⟨0xFFFF0100019C, 0x0, 1, 0x0, 1, .rw, 0x00007FFF, 0x00000000, 0x00006064⟩,  -- FC_SRCn_CFG n=39
  ⟨0xFFFF010001A0, 0x0, 1, 0x0, 1, .rw, 0x00007FFF, 0x00000000, 0x00006864⟩,  -- FC_SRCn_CFG n=40
  ⟨0xFFFF010001A4, 0x0, 1, 0x0, 1, .rw, 0x00007FFF, 0x00000000, 0x0000E805⟩,  -- FC_SRCn_CFG n=41
  ⟨0xFFFF010001C0, 0x0, 1, 0x0, 1, .rw, 0x00007FFF, 0x00000000, 0x00006864⟩,  -- FC_SRCn_CFG n=48
  ⟨0xFFFF010001C4, 0x0, 1, 0x0, 1, .rw, 0x00007FFF, 0x00000000, 0x00006864⟩,  -- FC_SRCn_CFG n=49
  ⟨0xFFFF010001C8, 0x0, 1, 0x0, 1, .rw, 0x00007FFF, 0x00000000, 0x00006864⟩,  -- FC_SRCn_CFG n=50
  ⟨0xFFFF010001CC, 0x0, 1, 0x0, 1, .rw, 0x00007FFF, 0x00000000, 0x00006864⟩,  -- FC_SRCn_CFG n=51
  ⟨0xFFFF010001D0, 0x0, 1, 0x0, 1, .rw, 0x00007FFF, 0x00000000, 0x00006864⟩,  -- FC_SRCn_CFG n=52
  ⟨0xFFFF010001D4, 0x0, 1, 0x0, 1, .rw, 0x00007FFF, 0x00000000, 0x00006864⟩,  -- FC_SRCn_CFG n=53
  ⟨0xFFFF010001D8, 0x0, 1, 0x0, 1, .rw, 0x00007FFF, 0x00000000, 0x00006864⟩,  -- FC_SRCn_CFG n=54
  ⟨0xFFFF010001DC, 0x0, 1, 0x0, 1, .rw, 0x00007FFF, 0x00000000, 0x00006864⟩,  -- FC_SRCn_CFG n=55
  ⟨0xFFFF010001E0, 0x0, 1, 0x0, 1, .rw, 0x00007FFF, 0x00000000, 0x00006864⟩,  -- FC_SRCn_CFG n=56
  ⟨0xFFFF010001E4, 0x0, 1, 0x0, 1, .rw, 0x00007FFF, 0x00000000, 0x00006864⟩,  -- FC_SRCn_CFG n=57
  ⟨0xFFFF010001E8, 0x0, 1, 0x0, 1, .rw, 0x00007FFF, 0x00000000, 0x00006864⟩,  -- FC_SRCn_CFG n=58
  ⟨0xFFFF010001EC, 0x0, 1, 0x0, 1, .rw, 0x00007FFF, 0x00000000, 0x00006864⟩,  -- FC_SRCn_CFG n=59
  ⟨0xFFFF010001F0, 0x0, 1, 0x0, 1, .rw, 0x00007FFF, 0x00000000, 0x00006864⟩,  -- FC_SRCn_CFG n=60
  ⟨0xFFFF010001F4, 0x0, 1, 0x0, 1, .rw, 0x00007FFF, 0x00000000, 0x00006864⟩,  -- FC_SRCn_CFG n=61
  ⟨0xFFFF010001F8, 0x0, 1, 0x0, 1, .rw, 0x00007FFF, 0x00000000, 0x00006864⟩,  -- FC_SRCn_CFG n=62
  ⟨0xFFFF010001FC, 0x0, 1, 0x0, 1, .rw, 0x00007FFF, 0x00000000, 0x00006864⟩,  -- FC_SRCn_CFG n=63
  ⟨0xFFFF01000200, 0x4, 42, 0x0, 1, .ro, 0x00000000, 0x00000000, 0x00000000⟩,  -- FC_SRCn_CNT
  ⟨0xFFFF010002C0, 0x4, 16, 0x0, 1, .ro, 0x00000000, 0x00000000, 0x00000000⟩   -- FC_SRCn_CNT n=48..63
  ]

/-- Rows of the FC block. -/
def rowsFc : List RegRow := rowsFc1 ++ rowsFc2

/-- Rows of the TMP block, part 1. -/
def rowsTmp : List RegRow := [
  ⟨0xFFFF02000000, 0x0, 1, 0x0, 1, .ro, 0x00000000, 0x00000000, 0x00000000⟩,  -- TMP_STATUS
  ⟨0xFFFF02000004, 0x0, 1, 0x0, 1, .w1p, 0x00000000, 0x00000000, 0x00000000⟩,  -- TMP_CMD
  ⟨0xFFFF02000008, 0x0, 1, 0x0, 1, .ro, 0x00000000, 0x00000000, 0x00000000⟩,  -- TMP_HOT
  ⟨0xFFFF0200000C, 0x0, 1, 0x0, 1, .rw, 0x00000003, 0x00000000, 0x00000002⟩,  -- TMP_CLKCFG
  ⟨0xFFFF02000010, 0x0, 1, 0x0, 1, .ro, 0x00000000, 0x00000000, 0x00000000⟩,  -- TMP_CLKSTAT
  ⟨0xFFFF02000014, 0x0, 1, 0x0, 1, .rw, 0x01FFFFFF, 0x00000000, 0x014A5294⟩,  -- TMP_SEFREQ
  ⟨0xFFFF02000018, 0x0, 1, 0x0, 1, .w1c, 0x00000000, 0x03FF03FF, 0x00000000⟩,  -- TMP_RAIL
  ⟨0xFFFF0200001C, 0x0, 1, 0x0, 1, .ro, 0x00000000, 0x00000000, 0x00000010⟩,  -- TMP_BFACT
  ⟨0xFFFF02000020, 0x0, 1, 0x0, 1, .ro, 0x00000000, 0x00000000, 0x00000000⟩,  -- TMP_SAG_CNT
  ⟨0xFFFF02000024, 0x0, 1, 0x0, 1, .ro, 0x00000000, 0x00000000, 0x00000000⟩,  -- TMP_STRX_CNT
  ⟨0xFFFF02000100, 0x4, 25, 0x0, 1, .rw, 0x0000003F, 0x00000000, 0x0000001E⟩,  -- TMP_DROOPi
  ⟨0xFFFF02000200, 0x10, 16, 0x0, 1, .rw, 0x0003FFFF, 0x00000000, 0x00000001⟩,  -- TMP_GRPg_CFG
  ⟨0xFFFF02000204, 0x10, 16, 0x0, 1, .rw, 0xFFFFFFFF, 0x00000000, 0x00000000⟩,  -- TMP_GRPg_RATE
  ⟨0xFFFF02000208, 0x10, 16, 0x0, 1, .rw, 0x3FFF00FF, 0x00000000, 0x006400C0⟩,  -- TMP_GRPg_THR
  ⟨0xFFFF0200020C, 0x10, 16, 0x0, 1, .ro, 0x00000000, 0x00000000, 0x00000000⟩,  -- TMP_GRPg_STAT
  ⟨0xFFFF02000400, 0x4, 64, 0x0, 1, .ro, 0x00000000, 0x00000000, 0x00008000⟩   -- TMP_SENSs
  ]

/-- Rows of the CAL block, part 1. -/
def rowsCal : List RegRow := [
  ⟨0xFFFF03000000, 0x0, 1, 0x0, 1, .w1p, 0x00000000, 0x00000000, 0x00000000⟩,  -- CAL_CMD
  ⟨0xFFFF03000004, 0x0, 1, 0x0, 1, .w1c, 0x00000000, 0x00000002, 0x00000000⟩,  -- CAL_STATUS
  ⟨0xFFFF03000008, 0x0, 1, 0x0, 1, .rw, 0xFFFFFFFF, 0x00000000, 0x00000000⟩,  -- CAL_IMG_LO
  ⟨0xFFFF0300000C, 0x0, 1, 0x0, 1, .rw, 0xBFFFFFFF, 0x00000000, 0x00000000⟩,  -- CAL_IMG_HI
  ⟨0xFFFF03000010, 0x0, 1, 0x0, 1, .rw, 0x00003FFF, 0x00000000, 0x00000000⟩,  -- CAL_IMGMAX
  ⟨0xFFFF03000014, 0x0, 1, 0x0, 1, .rw, 0x0000FFFF, 0x00000000, 0x00000000⟩,  -- CAL_TCAL
  ⟨0xFFFF03000018, 0x0, 1, 0x0, 1, .rw, 0x0000FFFF, 0x00000000, 0x00008000⟩,  -- CAL_ADC_TCAL
  ⟨0xFFFF0300001C, 0x0, 1, 0x0, 1, .rw, 0x0000FFFF, 0x00000000, 0x00000140⟩,  -- CAL_ADC_DELTA
  ⟨0xFFFF03000020, 0x4, 8, 0x0, 1, .rw, 0x0000FFFF, 0x00000000, 0x00000080⟩,  -- CAL_TUn_DELTA
  ⟨0xFFFF03000040, 0x4, 8, 0x0, 1, .rw, 0x00FFFFFF, 0x00000000, 0x00000000⟩,  -- CAL_ADC_OFSg
  ⟨0xFFFF03000060, 0x4, 8, 0x0, 1, .rw, 0x00FFFFFF, 0x00000000, 0x00400000⟩,  -- CAL_ADC_GAINg
  ⟨0xFFFF03000080, 0x4, 16, 0x0, 1, .rw, 0xFFFFFFFF, 0x00000000, 0x40000000⟩,  -- CAL_Vn_SENSE
  ⟨0xFFFF03000100, 0x4, 64, 0x0, 1, .rw, 0x0000FFFF, 0x00000000, 0x00000000⟩,  -- CAL_TSs
  ⟨0xFFFF03000200, 0x4, 25, 0x0, 1, .rw, 0x000000FF, 0x00000000, 0x00000000⟩   -- CAL_DROOPi
  ]

/-- Rows of the SNP block, part 1. -/
def rowsSnp1 : List RegRow := [
  ⟨0xFFFF04001000, 0x100, 8, 0x0, 1, .w1p, 0x00000000, 0x00000000, 0x00000000⟩,  -- SNP_STGd_CMD
  ⟨0xFFFF04001004, 0x100, 8, 0x0, 1, .rw, 0x00000003, 0x00000000, 0x00000000⟩,  -- SNP_STGd_CFG
  ⟨0xFFFF04001008, 0x100, 8, 0x0, 1, .rw, 0xFFFFFFFF, 0x00000000, 0x00000000⟩,  -- SNP_STGd_SEAM_LO
  ⟨0xFFFF0400100C, 0x100, 8, 0x0, 1, .rw, 0xFFFFFFFF, 0x00000000, 0x00000000⟩,  -- SNP_STGd_SEAM_HI
  ⟨0xFFFF04001010, 0x100, 8, 0x0, 1, .rw, 0xFFFFFFFF, 0x00000000, 0x00000000⟩,  -- SNP_STGd_LIST_LO
  ⟨0xFFFF04001014, 0x100, 8, 0x0, 1, .rw, 0x3FFFFFFF, 0x00000000, 0x00000000⟩,  -- SNP_STGd_LIST_HI
  ⟨0xFFFF04001018, 0x100, 8, 0x0, 1, .rw, 0x0001FFFF, 0x00000000, 0x00000000⟩,  -- SNP_STGd_LIST_N
  ⟨0xFFFF0400101C, 0x100, 8, 0x0, 1, .w1c, 0x00000000, 0x00001000, 0x00000000⟩,  -- SNP_STGd_STATUS
  ⟨0xFFFF04001020, 0x100, 8, 0x0, 1, .ro, 0x00000000, 0x00000000, 0x00000000⟩,  -- SNP_STGd_APPLIED_LO
  ⟨0xFFFF04001024, 0x100, 8, 0x0, 1, .ro, 0x00000000, 0x00000000, 0x00000000⟩,  -- SNP_STGd_APPLIED_HI
  ⟨0xFFFF04001028, 0x100, 8, 0x0, 1, .ro, 0x00000000, 0x00000000, 0x00000000⟩,  -- SNP_STGd_COUNT
  ⟨0xFFFF0400102C, 0x100, 8, 0x0, 1, .ro, 0x00000000, 0x00000000, 0x00000000⟩,  -- SNP_STGd_BADIDX
  ⟨0xFFFF04001030, 0x100, 8, 0x4, 4, .rw, 0x00000FFF, 0x00000000, 0x00000000⟩,  -- SNP_STGd_SUBi
  ⟨0xFFFF04001800, 0x0, 1, 0x0, 1, .rw, 0xFFFF00FF, 0x00000000, 0x01000018⟩,  -- SNP_SPR_CFG
  ⟨0xFFFF04001804, 0x0, 1, 0x0, 1, .w1p, 0x00000000, 0x00000000, 0x00000000⟩,  -- SNP_SPR_CMD
  ⟨0xFFFF04001808, 0x0, 1, 0x0, 1, .ro, 0x00000000, 0x00000000, 0x00000000⟩,  -- SNP_SPR_ROLES
  ⟨0xFFFF0400180C, 0x0, 1, 0x0, 1, .ro, 0x00000000, 0x00000000, 0x00000000⟩,  -- SNP_SPR_SWATH
  ⟨0xFFFF04001810, 0x0, 1, 0x0, 1, .w1c, 0x00000000, 0x00000180, 0x00000000⟩,  -- SNP_SPR_STATUS
  ⟨0xFFFF04001814, 0x0, 1, 0x0, 1, .ro, 0x00000000, 0x00000000, 0x00000000⟩,  -- SNP_SPR_COMPARED
  ⟨0xFFFF04001818, 0x0, 1, 0x0, 1, .ro, 0x00000000, 0x00000000, 0x00000000⟩,  -- SNP_SPR_MISLINE_LO
  ⟨0xFFFF0400181C, 0x0, 1, 0x0, 1, .ro, 0x00000000, 0x00000000, 0x00000000⟩,  -- SNP_SPR_MISLINE_HI
  ⟨0xFFFF04001820, 0x0, 1, 0x0, 1, .ro, 0x00000000, 0x00000000, 0x00000000⟩,  -- SNP_SPR_HLINE_LO
  ⟨0xFFFF04001824, 0x0, 1, 0x0, 1, .ro, 0x00000000, 0x00000000, 0x00000000⟩,  -- SNP_SPR_HLINE_HI
  ⟨0xFFFF04001828, 0x0, 1, 0x0, 1, .ro, 0x00000000, 0x00000000, 0xFFFFFFFF⟩,  -- SNP_SPR_LOSTF_LO
  ⟨0xFFFF0400182C, 0x0, 1, 0x0, 1, .ro, 0x00000000, 0x00000000, 0xFFFFFFFF⟩,  -- SNP_SPR_LOSTF_HI
  ⟨0xFFFF04001830, 0x0, 1, 0x0, 1, .ro, 0x00000000, 0x00000000, 0xFFFFFFFF⟩,  -- SNP_SPR_LOSTL_LO
  ⟨0xFFFF04001834, 0x0, 1, 0x0, 1, .ro, 0x00000000, 0x00000000, 0xFFFFFFFF⟩,  -- SNP_SPR_LOSTL_HI
  ⟨0xFFFF04001840, 0x8, 4, 0x0, 1, .rw, 0xFFFFFFFF, 0x00000000, 0x00000000⟩,  -- SNP_SPR_RECs_LO
  ⟨0xFFFF04001844, 0x8, 4, 0x0, 1, .rw, 0x3FFFFFFF, 0x00000000, 0x00000000⟩,  -- SNP_SPR_RECs_HI
  ⟨0xFFFF04000000, 0x0, 1, 0x0, 1, .rw, 0x00001FFF, 0x00000000, 0x00000002⟩,  -- SNP_CTL
  ⟨0xFFFF04000004, 0x0, 1, 0x0, 1, .w1p, 0x00000000, 0x00000000, 0x00000000⟩,  -- SNP_CMD
  ⟨0xFFFF04000008, 0x0, 1, 0x0, 1, .w1p, 0x00000000, 0x00000000, 0x00000000⟩,  -- SNP_TRIG
  ⟨0xFFFF0400000C, 0x0, 1, 0x0, 1, .ro, 0x00000000, 0x00000000, 0x00000000⟩,  -- SNP_STATUS
  ⟨0xFFFF04000010, 0x0, 1, 0x0, 1, .ro, 0x00000000, 0x00000000, 0x00000000⟩,  -- SNP_MISS
  ⟨0xFFFF04000014, 0x0, 1, 0x0, 1, .rw, 0x00000100, 0x00000000, 0x00000000⟩,  -- SNP_DBG
  ⟨0xFFFF04000020, 0x0, 1, 0x0, 1, .ro, 0x00000000, 0x00000000, 0x00000000⟩,  -- SNP_TIME_LO
  ⟨0xFFFF04000024, 0x0, 1, 0x0, 1, .ro, 0x00000000, 0x00000000, 0x00000000⟩,  -- SNP_TIME_HI
  ⟨0xFFFF04000028, 0x0, 1, 0x0, 1, .ro, 0x00000000, 0x00000000, 0x00000000⟩,  -- SNP_ISLAND
  ⟨0xFFFF0400002C, 0x0, 1, 0x0, 1, .ro, 0x00000000, 0x00000000, 0x00000000⟩,  -- SNP_WSTATE
  ⟨0xFFFF04000030, 0x8, 4, 0x0, 1, .ro, 0x00000000, 0x00000000, 0x00000000⟩   -- SNP_WPOSw_LO
  ]

/-- Rows of the SNP block, part 2. -/
def rowsSnp2 : List RegRow := [
  ⟨0xFFFF04000034, 0x8, 4, 0x0, 1, .ro, 0x00000000, 0x00000000, 0x00000000⟩,  -- SNP_WPOSw_HI
  ⟨0xFFFF04000050, 0x0, 1, 0x0, 1, .ro, 0x00000000, 0x00000000, 0x00000000⟩,  -- SNP_FCSTAT_LO
  ⟨0xFFFF04000054, 0x0, 1, 0x0, 1, .ro, 0x00000000, 0x00000000, 0x00000000⟩,  -- SNP_FCSTAT_HI
  ⟨0xFFFF04000058, 0x0, 1, 0x0, 1, .ro, 0x00000000, 0x00000000, 0x00000000⟩,  -- SNP_FCLIVE_LO
  ⟨0xFFFF0400005C, 0x0, 1, 0x0, 1, .ro, 0x00000000, 0x00000000, 0x00000000⟩,  -- SNP_FCLIVE_HI
  ⟨0xFFFF04000060, 0x4, 5, 0x0, 1, .ro, 0x00000000, 0x00000000, 0x00000000⟩,  -- SNP_ELINEe
  ⟨0xFFFF04000080, 0x4, 8, 0x0, 1, .ro, 0x00000000, 0x00000000, 0x00000000⟩,  -- SNP_SPFRAMEp
  ⟨0xFFFF040000A0, 0x0, 1, 0x0, 1, .ro, 0x00000000, 0x00000000, 0x00000000⟩,  -- SNP_LELVL_LO
  ⟨0xFFFF040000A4, 0x0, 1, 0x0, 1, .ro, 0x00000000, 0x00000000, 0x00000000⟩   -- SNP_LELVL_HI
  ]

/-- Rows of the SNP block. -/
def rowsSnp : List RegRow := rowsSnp1 ++ rowsSnp2

/-- Rows of the FAB block, part 1. -/
def rowsFab : List RegRow := [
  ⟨0xFFFF05000000, 0x0, 1, 0x0, 1, .ro, 0x00000000, 0x00000000, 0x00000000⟩,  -- FAB_STATUS
  ⟨0xFFFF05000004, 0x0, 1, 0x0, 1, .w1p, 0x00000000, 0x00000000, 0x00000000⟩,  -- FAB_FENCE_SET
  ⟨0xFFFF05000008, 0x0, 1, 0x0, 1, .w1p, 0x00000000, 0x00000000, 0x00000000⟩,  -- FAB_FENCE_CLR
  ⟨0xFFFF0500000C, 0x0, 1, 0x0, 1, .rw, 0x000000FF, 0x00000000, 0x00000000⟩,  -- FAB_LINK_SEL
  ⟨0xFFFF05000010, 0x0, 1, 0x0, 1, .ro, 0x00000000, 0x00000000, 0x00000000⟩,  -- FAB_LINK_STAT
  ⟨0xFFFF05000014, 0x0, 1, 0x0, 1, .ro, 0x00000000, 0x00000000, 0x00000000⟩,  -- FAB_CE_CNT
  ⟨0xFFFF05000018, 0x0, 1, 0x0, 1, .ro, 0x00000000, 0x00000000, 0x00000000⟩,  -- FAB_RECLAIM_CNT
  ⟨0xFFFF0500001C, 0x0, 1, 0x0, 1, .ro, 0x00000000, 0x00000000, 0x00000000⟩,  -- FAB_DISCARD_CNT
  ⟨0xFFFF05000020, 0x0, 1, 0x0, 1, .ro, 0x00000000, 0x00000000, 0x00000000⟩   -- FAB_ERRCOMP_CNT
  ]

/-- Rows of the MEM block, part 1. -/
def rowsMem : List RegRow := [
  ⟨0xFFFF06000000, 0x0, 1, 0x0, 1, .ro, 0x00000000, 0x00000000, 0x00000000⟩,  -- MEM_STATUS
  ⟨0xFFFF06000004, 0x0, 1, 0x0, 1, .rw, 0x00000003, 0x00000000, 0x00000001⟩,  -- MEM_DEFCFG
  ⟨0xFFFF06000008, 0x0, 1, 0x0, 1, .rw, 0x003FFFFF, 0x00000000, 0x00048100⟩,  -- MEM_SCRUB_CTL
  ⟨0xFFFF0600000C, 0x0, 1, 0x0, 1, .rw, 0x0000FFFF, 0x00000000, 0x00000000⟩,  -- MEM_SCRUB_LAPMAX
  ⟨0xFFFF06000010, 0x0, 1, 0x0, 1, .rw, 0xFFFFFFFF, 0x00000000, 0x00000000⟩,  -- MEM_PASS_BASE_LO
  ⟨0xFFFF06000014, 0x0, 1, 0x0, 1, .rw, 0x3FFFFFFF, 0x00000000, 0x00000000⟩,  -- MEM_PASS_BASE_HI
  ⟨0xFFFF06000018, 0x0, 1, 0x0, 1, .rw, 0xFFFFFFFF, 0x00000000, 0x00000000⟩,  -- MEM_PASS_LEN
  ⟨0xFFFF0600001C, 0x0, 1, 0x0, 1, .w1p, 0x00000000, 0x00000000, 0x00000000⟩,  -- MEM_PASS_CMD
  ⟨0xFFFF06000020, 0x0, 1, 0x0, 1, .ro, 0x00000000, 0x00000000, 0x00000000⟩,  -- MEM_PASS_STATUS
  ⟨0xFFFF06000024, 0x0, 1, 0x0, 1, .ro, 0x00000000, 0x00000000, 0x00000000⟩,  -- MEM_PASS_READ
  ⟨0xFFFF06000028, 0x0, 1, 0x0, 1, .ro, 0x00000000, 0x00000000, 0x00000000⟩,  -- MEM_PASS_CORR
  ⟨0xFFFF0600002C, 0x0, 1, 0x0, 1, .ro, 0x00000000, 0x00000000, 0x00000000⟩,  -- MEM_PASS_UNCORR
  ⟨0xFFFF06000030, 0x0, 1, 0x0, 1, .ro, 0x00000000, 0x00000000, 0x00000000⟩,  -- MEM_PASS_RETIRED
  ⟨0xFFFF06000100, 0x10, 16, 0x0, 1, .rw, 0x0001FFFF, 0x00000000, 0x00000000⟩,  -- MEM_RGNk_BASE
  ⟨0xFFFF06000104, 0x10, 16, 0x0, 1, .rw, 0x0001FFFF, 0x00000000, 0x00000000⟩,  -- MEM_RGNk_COUNT
  ⟨0xFFFF06000108, 0x10, 16, 0x0, 1, .rw, 0x0001FFFF, 0x00000000, 0x00000000⟩,  -- MEM_RGNk_SHADOW
  ⟨0xFFFF0600010C, 0x10, 16, 0x0, 1, .rw, 0x00000007, 0x00000000, 0x00000001⟩,  -- MEM_RGNk_CFG
  ⟨0xFFFF06001000, 0x40, 8, 0x0, 1, .ro, 0x00000000, 0x00000000, 0x00000000⟩,  -- MEMn_CE_CNT
  ⟨0xFFFF06001004, 0x40, 8, 0x0, 1, .ro, 0x00000000, 0x00000000, 0x00000000⟩,  -- MEMn_UE_CNT
  ⟨0xFFFF06001008, 0x40, 8, 0x0, 1, .ro, 0x00000000, 0x00000000, 0x00000000⟩,  -- MEMn_RETIRED
  ⟨0xFFFF0600100C, 0x40, 8, 0x0, 1, .ro, 0x00000000, 0x00000000, 0x00004000⟩,  -- MEMn_SPARE_FREE
  ⟨0xFFFF06001010, 0x40, 8, 0x0, 1, .ro, 0x00000000, 0x00000000, 0x00000000⟩,  -- MEMn_ROWS_SPARED
  ⟨0xFFFF06001014, 0x40, 8, 0x0, 1, .ro, 0x00000000, 0x00000000, 0x00000000⟩,  -- MEMn_LAP
  ⟨0xFFFF06001018, 0x40, 8, 0x0, 1, .ro, 0x00000000, 0x00000000, 0x00000000⟩,  -- MEMn_LAP_POS
  ⟨0xFFFF0600101C, 0x40, 8, 0x0, 1, .w1c, 0x00000000, 0x000000FF, 0x00000000⟩,  -- MEMn_EVT
  ⟨0xFFFF06001020, 0x40, 8, 0x0, 1, .ro, 0x00000000, 0x00000000, 0x00000000⟩,  -- MEMn_LAST_LO
  ⟨0xFFFF06001024, 0x40, 8, 0x0, 1, .ro, 0x00000000, 0x00000000, 0x00000000⟩   -- MEMn_LAST_HI
  ]

/-- Rows of the SE block, part 1. -/
def rowsSe1 : List RegRow := [
  ⟨0xFFFF08000184, 0x1000000, 5, 0x0, 1, .wo, 0x00000000, 0x00000000, 0x00000000⟩,  -- SEn_HALTCTL
  ⟨0xFFFF08000188, 0x1000000, 5, 0x0, 1, .ro, 0x00000000, 0x00000000, 0x00000000⟩,  -- SEn_HALTED0
  ⟨0xFFFF0800018C, 0x1000000, 5, 0x0, 1, .ro, 0x00000000, 0x00000000, 0x00000000⟩,  -- SEn_HALTED1
  ⟨0xFFFF08000190, 0x1000000, 5, 0x0, 1, .ro, 0x00000000, 0x00000000, 0x00000000⟩,  -- SEn_HALTED2
  ⟨0xFFFF08000100, 0x1000000, 5, 0x4, 12, .rws, 0x0000FFFF, 0x00000000, 0x00000000⟩,  -- SEn_SEATCLASSc
  ⟨0xFFFF08000140, 0x1000000, 5, 0x4, 12, .rw, 0x000000FF, 0x00000000, 0x00C00000⟩,  -- SEn_TSHAREc
  ⟨0xFFFF08000200, 0x1000000, 5, 0x0, 1, .ro, 0x00000000, 0x00000000, 0x00000000⟩,  -- SEn_LCU_STATUS
  ⟨0xFFFF08000204, 0x1000000, 5, 0x0, 1, .ro, 0x00000000, 0x00000000, 0x00000000⟩,  -- SEn_LCU_PITCH_LO
  ⟨0xFFFF08000208, 0x1000000, 5, 0x0, 1, .ro, 0x00000000, 0x00000000, 0x00000000⟩,  -- SEn_LCU_PITCH_HI
  ⟨0xFFFF0800020C, 0x1000000, 5, 0x0, 1, .ro, 0x00000000, 0x00000000, 0x00000000⟩,  -- SEn_LCU_SPOIL_CNT
  ⟨0xFFFF08000210, 0x1000000, 5, 0x0, 1, .ro, 0x00000000, 0x00000000, 0x00000000⟩,  -- SEn_LCU_LATE_CNT
  ⟨0xFFFF08000214, 0x1000000, 5, 0x0, 1, .ro, 0x00000000, 0x00000000, 0x00000000⟩,  -- SEn_LCU_RERR_CNT
  ⟨0xFFFF08000218, 0x1000000, 5, 0x0, 1, .ro, 0x00000000, 0x00000000, 0x00000000⟩,  -- SEn_CCU_LINES
  ⟨0xFFFF08000220, 0x1000000, 5, 0x0, 1, .w1c, 0x00000000, 0x00000002, 0x00000000⟩,  -- SEn_SCU_STATUS
  ⟨0xFFFF08000224, 0x1000000, 5, 0x0, 1, .ro, 0x00000000, 0x00000000, 0x00000000⟩,  -- SEn_SCU_CKLINE_LO
  ⟨0xFFFF08000228, 0x1000000, 5, 0x0, 1, .ro, 0x00000000, 0x00000000, 0x00000000⟩,  -- SEn_SCU_CKLINE_HI
  ⟨0xFFFF0800022C, 0x1000000, 5, 0x0, 1, .ro, 0x00000000, 0x00000000, 0x00000000⟩,  -- SEn_SCU_LINES
  ⟨0xFFFF08000230, 0x1000000, 5, 0x0, 1, .ro, 0x00000000, 0x00000000, 0x00000000⟩,  -- SEn_NMU_STATUS
  ⟨0xFFFF08000234, 0x1000000, 5, 0x0, 1, .ro, 0x00000000, 0x00000000, 0x00000000⟩,  -- SEn_NMU_LOSTDROP
  ⟨0xFFFF08000238, 0x1000000, 5, 0x0, 1, .ro, 0x00000000, 0x00000000, 0x00000000⟩,  -- SEn_NMU_PCOLERR
  ⟨0xFFFF0800023C, 0x1000000, 5, 0x0, 1, .ro, 0x00000000, 0x00000000, 0x00000000⟩,  -- SEn_NMU_LINES
  ⟨0xFFFF08000240, 0x1000000, 5, 0x0, 1, .w1c, 0x00000000, 0x00000004, 0x00000000⟩,  -- SEn_EMU_STATUS
  ⟨0xFFFF08000244, 0x1000000, 5, 0x0, 1, .ro, 0x00000000, 0x00000000, 0x00000000⟩,  -- SEn_EMU_ELINE_LO
  ⟨0xFFFF08000248, 0x1000000, 5, 0x0, 1, .ro, 0x00000000, 0x00000000, 0x00000000⟩,  -- SEn_EMU_ELINE_HI
  ⟨0xFFFF0800024C, 0x1000000, 5, 0x0, 1, .ro, 0x00000000, 0x00000000, 0x00000000⟩,  -- SEn_EMU_UCNT
  ⟨0xFFFF08000250, 0x1000000, 5, 0x0, 1, .ro, 0x00000000, 0x00000000, 0x00000000⟩,  -- SEn_EMU_UFIRST_LO
  ⟨0xFFFF08000254, 0x1000000, 5, 0x0, 1, .ro, 0x00000000, 0x00000000, 0x00000000⟩,  -- SEn_EMU_UFIRST_HI
  ⟨0xFFFF08000258, 0x1000000, 5, 0x0, 1, .ro, 0x00000000, 0x00000000, 0x00000000⟩,  -- SEn_EMU_ULAST_LO
  ⟨0xFFFF0800025C, 0x1000000, 5, 0x0, 1, .ro, 0x00000000, 0x00000000, 0x00000000⟩,  -- SEn_EMU_ULAST_HI
  ⟨0xFFFF08000260, 0x1000000, 5, 0x0, 1, .ro, 0x00000000, 0x00000000, 0x00000000⟩,  -- SEn_EMU_SKCNT
  ⟨0xFFFF08000264, 0x1000000, 5, 0x0, 1, .ro, 0x00000000, 0x00000000, 0x00000000⟩,  -- SEn_EMU_SKFIRST_LO
  ⟨0xFFFF08000268, 0x1000000, 5, 0x0, 1, .ro, 0x00000000, 0x00000000, 0x00000000⟩,  -- SEn_EMU_SKFIRST_HI
  ⟨0xFFFF0800026C, 0x1000000, 5, 0x0, 1, .ro, 0x00000000, 0x00000000, 0x00000000⟩,  -- SEn_EMU_SKLAST_LO
  ⟨0xFFFF08000270, 0x1000000, 5, 0x0, 1, .ro, 0x00000000, 0x00000000, 0x00000000⟩,  -- SEn_EMU_SKLAST_HI
  ⟨0xFFFF08000274, 0x1000000, 5, 0x0, 1, .ro, 0x00000000, 0x00000000, 0x00000000⟩,  -- SEn_EMU_EXTRAP_CNT
  ⟨0xFFFF08000278, 0x1000000, 5, 0x0, 1, .w1p, 0x00000000, 0x00000000, 0x00000000⟩,  -- SEn_EMU_CMD
  ⟨0xFFFF08000280, 0x1000000, 5, 0x0, 1, .w1c, 0x00000000, 0x00000018, 0x00000000⟩,  -- SEn_ICU_STATUS
  ⟨0xFFFF08000284, 0x1000000, 5, 0x0, 1, .rw, 0x0000FFFF, 0x00000000, 0x00000000⟩,  -- SEn_ICU_ADJ
  ⟨0xFFFF08000288, 0x1000000, 5, 0x0, 1, .rw, 0x0000007F, 0x00000000, 0x00000010⟩,  -- SEn_ICU_LOCKCFG
  ⟨0xFFFF0800028C, 0x1000000, 5, 0x0, 1, .w1p, 0x00000000, 0x00000000, 0x00000000⟩   -- SEn_ICU_CMD
  ]

/-- Rows of the SE block, part 2. -/
def rowsSe2 : List RegRow := [
  ⟨0xFFFF08000290, 0x1000000, 5, 0x0, 1, .ro, 0x00000000, 0x00000000, 0x00000000⟩,  -- SEn_ICU_LOCKRES
  ⟨0xFFFF08000294, 0x1000000, 5, 0x0, 1, .ro, 0x00000000, 0x00000000, 0x00000000⟩,  -- SEn_ICU_LOCKSCORE_LO
  ⟨0xFFFF08000298, 0x1000000, 5, 0x0, 1, .ro, 0x00000000, 0x00000000, 0x00000000⟩,  -- SEn_ICU_LOCKSCORE_HI
  ⟨0xFFFF0800029C, 0x1000000, 5, 0x0, 1, .ro, 0x00000000, 0x00000000, 0x00000000⟩,  -- SEn_ICU_LINE_LO
  ⟨0xFFFF080002A0, 0x1000000, 5, 0x0, 1, .ro, 0x00000000, 0x00000000, 0x00000000⟩,  -- SEn_ICU_LINE_HI
  ⟨0xFFFF080002A4, 0x1000000, 5, 0x0, 1, .ro, 0x00000000, 0x00000000, 0x00000000⟩,  -- SEn_ICU_LOSTLINE
  ⟨0xFFFF080002A8, 0x1000000, 5, 0x0, 1, .ro, 0x00000000, 0x00000000, 0x00000000⟩,  -- SEn_ICU_PKTDROP
  ⟨0xFFFF080002AC, 0x1000000, 5, 0x0, 1, .ro, 0x00000000, 0x00000000, 0x00000000⟩,  -- SEn_ICU_BLKERR
  ⟨0xFFFF080002B0, 0x1000000, 5, 0x0, 1, .ro, 0x00000000, 0x00000000, 0x00000000⟩,  -- SEn_ICU_EVAL
  ⟨0xFFFF080002B4, 0x1000000, 5, 0x0, 1, .ro, 0x00000000, 0x00000000, 0x00000000⟩,  -- SEn_ICU_CHG
  ⟨0xFFFF080002B8, 0x1000000, 5, 0x0, 1, .ro, 0x00000000, 0x00000000, 0x00000000⟩,  -- SEn_ICU_CONFLICT
  ⟨0xFFFF080002BC, 0x1000000, 5, 0x0, 1, .ro, 0x00000000, 0x00000000, 0x00000000⟩,  -- SEn_ICU_EVSKIP
  ⟨0xFFFF08000180, 0x1000000, 5, 0x0, 1, .rw, 0x00000003, 0x00000000, 0x00000003⟩   -- SEn_STORECFG
  ]

/-- Rows of the SE block. -/
def rowsSe : List RegRow := rowsSe1 ++ rowsSe2

/-- Rows of the POS block, part 1. -/
def rowsPos1 : List RegRow := [
  ⟨0xFFFF10000000, 0x0, 1, 0x0, 1, .ro, 0x00000000, 0x00000000, 0x00000000⟩,  -- POS_STATUS
  ⟨0xFFFF10000004, 0x0, 1, 0x0, 1, .rw, 0x0000001F, 0x00000000, 0x00000000⟩,  -- POS_MKLOG_HEAD
  ⟨0xFFFF10000008, 0x0, 1, 0x0, 1, .ro, 0x00000000, 0x00000000, 0x00000000⟩,  -- POS_MKLOG_TAIL
  ⟨0xFFFF1000000C, 0x0, 1, 0x0, 1, .ro, 0x00000000, 0x00000000, 0x00000000⟩,  -- POS_MKLOG_LOST
  ⟨0xFFFF10000100, 0x80, 4, 0x0, 1, .rw, 0x00000001, 0x00000000, 0x00000000⟩,  -- POSn_CTL
  ⟨0xFFFF10000104, 0x80, 4, 0x0, 1, .rws, 0x0FFFFFDF, 0x00000000, 0x00000000⟩,  -- POSn_CFG
  ⟨0xFFFF10000108, 0x80, 4, 0x0, 1, .rws, 0xFFFFFFFF, 0x00000000, 0x00000000⟩,  -- POSn_RATIO_LO
  ⟨0xFFFF1000010C, 0x80, 4, 0x0, 1, .rws, 0xFFFFFFFF, 0x00000000, 0x00000000⟩,  -- POSn_RATIO_HI
  ⟨0xFFFF10000110, 0x80, 4, 0x0, 1, .rw, 0xFFFFFFFF, 0x00000000, 0x00000000⟩,  -- POSn_PRUN
  ⟨0xFFFF10000114, 0x80, 4, 0x0, 1, .rw, 0xFFFFFFFF, 0x00000000, 0x00000000⟩,  -- POSn_PSLOW
  ⟨0xFFFF10000118, 0x80, 4, 0x0, 1, .rw, 0x00FF07FF, 0x00000000, 0x00000000⟩,  -- POSn_FILT
  ⟨0xFFFF1000011C, 0x80, 4, 0x0, 1, .rw, 0x00FFFFFF, 0x00000000, 0x00000000⟩,  -- POSn_REV
  ⟨0xFFFF10000120, 0x80, 4, 0x0, 1, .ro, 0x00000000, 0x00000000, 0x00000000⟩,  -- POSn_POS_LO
  ⟨0xFFFF10000124, 0x80, 4, 0x0, 1, .ro, 0x00000000, 0x00000000, 0x00000000⟩,  -- POSn_POS_HI
  ⟨0xFFFF10000128, 0x80, 4, 0x0, 1, .ro, 0x00000000, 0x00000000, 0x00000000⟩,  -- POSn_TRUST_LO
  ⟨0xFFFF1000012C, 0x80, 4, 0x0, 1, .ro, 0x00000000, 0x00000000, 0x00000000⟩,  -- POSn_TRUST_HI
  ⟨0xFFFF10000130, 0x80, 4, 0x0, 1, .ro, 0x00000000, 0x00000000, 0x00000000⟩,  -- POSn_PERIOD
  ⟨0xFFFF10000134, 0x80, 4, 0x0, 1, .rw, 0xFFFFFFFF, 0x00000000, 0x00000000⟩,  -- POSn_SET_LO
  ⟨0xFFFF10000138, 0x80, 4, 0x0, 1, .rw, 0xFFFFFFFF, 0x00000000, 0x00000000⟩,  -- POSn_SET_HI
  ⟨0xFFFF1000013C, 0x80, 4, 0x0, 1, .w1p, 0x00000000, 0x00000000, 0x00000000⟩,  -- POSn_CMD
  ⟨0xFFFF10000140, 0x80, 4, 0x0, 1, .ro, 0x00000000, 0x00000000, 0x00000020⟩,  -- POSn_STATE
  ⟨0xFFFF10000144, 0x80, 4, 0x0, 1, .ro, 0x00000000, 0x00000000, 0x00000000⟩,  -- POSn_NOISE_CNT
  ⟨0xFFFF10000148, 0x80, 4, 0x0, 1, .ro, 0x00000000, 0x00000000, 0x00000000⟩,  -- POSn_SYNTH_CNT
  ⟨0xFFFF1000014C, 0x80, 4, 0x0, 1, .ro, 0x00000000, 0x00000000, 0x00000000⟩,  -- POSn_QERR_CNT
  ⟨0xFFFF10000150, 0x80, 4, 0x0, 1, .ro, 0x00000000, 0x00000000, 0x00000000⟩,  -- POSn_IDX_CNT
  ⟨0xFFFF10000154, 0x80, 4, 0x0, 1, .ro, 0x00000000, 0x00000000, 0x00000000⟩,  -- POSn_IDXERR_CNT
  ⟨0xFFFF10000158, 0x80, 4, 0x0, 1, .rws, 0xFFFFFFFF, 0x00000000, 0x00000000⟩,  -- POSn_OFFSET_LO
  ⟨0xFFFF1000015C, 0x80, 4, 0x0, 1, .rws, 0xFFFFFFFF, 0x00000000, 0x00000000⟩,  -- POSn_OFFSET_HI
  ⟨0xFFFF10000160, 0x80, 4, 0x0, 1, .ro, 0x00000000, 0x00000000, 0x00000000⟩,  -- POSn_LOSTEDGE
  ⟨0xFFFF10000164, 0x80, 4, 0x0, 1, .ro, 0x00000000, 0x00000000, 0x00000000⟩,  -- POSn_RATIO_ACT_LO
  ⟨0xFFFF10000168, 0x80, 4, 0x0, 1, .ro, 0x00000000, 0x00000000, 0x00000000⟩,  -- POSn_RATIO_ACT_HI
  ⟨0xFFFF1000016C, 0x80, 4, 0x0, 1, .ro, 0x0FFFFFDF, 0x00000000, 0x00000000⟩,  -- POSn_CFG_ACT
  ⟨0xFFFF10000300, 0x40, 4, 0x0, 1, .rw, 0x0FFFFFFF, 0x00000000, 0x00000000⟩,  -- TOFm_CFG
  ⟨0xFFFF10000304, 0x40, 4, 0x0, 1, .w1c, 0x00000000, 0x00000010, 0x00000000⟩,  -- TOFm_STAT
  ⟨0xFFFF10000308, 0x40, 4, 0x0, 1, .ro, 0x00000000, 0x00000000, 0x00000000⟩,  -- TOFm_CAP_LO
  ⟨0xFFFF1000030C, 0x40, 4, 0x0, 1, .ro, 0x00000000, 0x00000000, 0x00000000⟩,  -- TOFm_CAP_HI
  ⟨0xFFFF10000310, 0x40, 4, 0x0, 1, .ro, 0x00000000, 0x00000000, 0x00000000⟩,  -- TOFm_CAP_TIME
  ⟨0xFFFF10000314, 0x40, 4, 0x0, 1, .w1p, 0x00000000, 0x00000000, 0x00000000⟩,  -- TOFm_POP
  ⟨0xFFFF10000800, 0x10, 32, 0x0, 1, .ro, 0x00000000, 0x00000000, 0x00000000⟩,  -- POS_MKLOGi_POS_LO
  ⟨0xFFFF10000804, 0x10, 32, 0x0, 1, .ro, 0x00000000, 0x00000000, 0x00000000⟩   -- POS_MKLOGi_POS_HI
  ]

/-- Rows of the POS block, part 2. -/
def rowsPos2 : List RegRow := [
  ⟨0xFFFF10000808, 0x10, 32, 0x0, 1, .ro, 0x00000000, 0x00000000, 0x00000000⟩,  -- POS_MKLOGi_TIME
  ⟨0xFFFF1000080C, 0x10, 32, 0x0, 1, .ro, 0x00000000, 0x00000000, 0x00000000⟩,  -- POS_MKLOGi_INFO
  ⟨0xFFFF10001000, 0x20, 64, 0x0, 1, .rw, 0xFFFFFFFF, 0x00000000, 0x00000000⟩,  -- POS_MKk_POS_LO
  ⟨0xFFFF10001004, 0x20, 64, 0x0, 1, .rw, 0xFFFFFFFF, 0x00000000, 0x00000000⟩,  -- POS_MKk_POS_HI
  ⟨0xFFFF10001008, 0x20, 64, 0x0, 1, .rw, 0xFFFFFFFF, 0x00000000, 0x00000000⟩,  -- POS_MKk_PER_LO
  ⟨0xFFFF1000100C, 0x20, 64, 0x0, 1, .rw, 0xFFFFFFFF, 0x00000000, 0x00000000⟩,  -- POS_MKk_PER_HI
  ⟨0xFFFF10001010, 0x20, 64, 0x0, 1, .rw, 0x00FF01FF, 0x00000000, 0x00000000⟩,  -- POS_MKk_CTL
  ⟨0xFFFF10001014, 0x20, 64, 0x0, 1, .w1c, 0x00000000, 0x0000000F, 0x00000000⟩   -- POS_MKk_STAT
  ]

/-- Rows of the POS block. -/
def rowsPos : List RegRow := rowsPos1 ++ rowsPos2

/-- Rows of the UMK block, part 1. -/
def rowsUmk : List RegRow := [
  ⟨0xFFFF11000000, 0x0, 1, 0x0, 1, .ro, 0x00000000, 0x00000000, 0x00000000⟩,  -- UMK_STATUS
  ⟨0xFFFF11000004, 0x0, 1, 0x0, 1, .rw, 0x0000FFFF, 0x00000000, 0x00000A04⟩,  -- UMK_CFG
  ⟨0xFFFF11000008, 0x0, 1, 0x0, 1, .rw, 0x0000FFFF, 0x00000000, 0x0000FFF0⟩,  -- UMK_REFCFG
  ⟨0xFFFF11000100, 0x0, 1, 0x0, 1, .rws, 0x0000FFFF, 0x00000000, 0x00004022⟩,  -- UMK_PORTp_LANES (own reset)
  ⟨0xFFFF11000100, 0x40, 24, 0x0, 1, .rws, 0x0000FFFF, 0x00000000, 0x00000000⟩,  -- UMK_PORTp_LANES
  ⟨0xFFFF11000104, 0x0, 1, 0x0, 1, .ro, 0x0000FFFF, 0x00000000, 0x00004022⟩,  -- UMK_PORTp_LANES_ACT (own reset)
  ⟨0xFFFF11000104, 0x40, 24, 0x0, 1, .ro, 0x0000FFFF, 0x00000000, 0x00000000⟩,  -- UMK_PORTp_LANES_ACT
  ⟨0xFFFF11000108, 0x40, 24, 0x0, 1, .rw, 0x00FFFFFF, 0x00000000, 0x000A0A04⟩,  -- UMK_PORTp_CFG
  ⟨0xFFFF1100010C, 0x40, 24, 0x0, 1, .ro, 0x00000000, 0x00000000, 0x00000000⟩,  -- UMK_PORTp_STATE
  ⟨0xFFFF11000110, 0x40, 24, 0x0, 1, .ro, 0x00000000, 0x00000000, 0x00000000⟩,  -- UMK_PORTp_PEER_LO
  ⟨0xFFFF11000114, 0x40, 24, 0x0, 1, .ro, 0x00000000, 0x00000000, 0x00000000⟩,  -- UMK_PORTp_PEER_HI
  ⟨0xFFFF11000118, 0x40, 24, 0x0, 1, .ro, 0x00000000, 0x00000000, 0x00000000⟩,  -- UMK_PORTp_CRCERR
  ⟨0xFFFF1100011C, 0x40, 24, 0x0, 1, .ro, 0x00000000, 0x00000000, 0x00000000⟩,  -- UMK_PORTp_SEQERR
  ⟨0xFFFF11000120, 0x40, 24, 0x0, 1, .ro, 0x00000000, 0x00000000, 0x00000000⟩,  -- UMK_PORTp_DUP
  ⟨0xFFFF11000124, 0x40, 24, 0x0, 1, .ro, 0x00000000, 0x00000000, 0x00000000⟩,  -- UMK_PORTp_RETX
  ⟨0xFFFF11000128, 0x40, 24, 0x0, 1, .ro, 0x00000000, 0x00000000, 0x00000000⟩,  -- UMK_PORTp_LANEDROP
  ⟨0xFFFF1100012C, 0x40, 24, 0x0, 1, .ro, 0x00000000, 0x00000000, 0x00000000⟩,  -- UMK_PORTp_EVTDROP
  ⟨0xFFFF11000130, 0x40, 24, 0x0, 1, .ro, 0x00000000, 0x00000000, 0x00000000⟩,  -- UMK_PORTp_BADFRM
  ⟨0xFFFF11000134, 0x40, 24, 0x0, 1, .ro, 0x00000000, 0x00000000, 0x00000000⟩,  -- UMK_PORTp_PERR
  ⟨0xFFFF11000138, 0x40, 24, 0x0, 1, .rw, 0xFFFFFFFF, 0x00000000, 0x00000000⟩,  -- UMK_PORTp_PEERMAC_LO
  ⟨0xFFFF1100013C, 0x40, 24, 0x0, 1, .rw, 0x0000FFFF, 0x00000000, 0x00000000⟩,  -- UMK_PORTp_PEERMAC_HI
  ⟨0xFFFF11001100, 0x0, 1, 0x0, 1, .rw, 0x0000003F, 0x00000000, 0x00000009⟩,  -- UMK_LANEl_CFG (own reset)
  ⟨0xFFFF11001120, 0x0, 1, 0x0, 1, .rw, 0x0000003F, 0x00000000, 0x00000009⟩,  -- UMK_LANEl_CFG (own reset)
  ⟨0xFFFF11001140, 0x0, 1, 0x0, 1, .rw, 0x0000003F, 0x00000000, 0x00000009⟩,  -- UMK_LANEl_CFG (own reset)
  ⟨0xFFFF11001160, 0x0, 1, 0x0, 1, .rw, 0x0000003F, 0x00000000, 0x00000009⟩,  -- UMK_LANEl_CFG (own reset)
  ⟨0xFFFF11001000, 0x20, 96, 0x0, 1, .rw, 0x0000003F, 0x00000000, 0x00000008⟩,  -- UMK_LANEl_CFG
  ⟨0xFFFF11001004, 0x20, 96, 0x0, 1, .rw, 0x0007FFFF, 0x00000000, 0x00000C00⟩,  -- UMK_LANEl_TXEQ
  ⟨0xFFFF11001008, 0x20, 96, 0x0, 1, .ro, 0x00000000, 0x00000000, 0x00000000⟩,  -- UMK_LANEl_STAT
  ⟨0xFFFF1100100C, 0x20, 96, 0x0, 1, .ro, 0x00000000, 0x00000000, 0x00000000⟩,  -- UMK_LANEl_FECCE
  ⟨0xFFFF11001010, 0x20, 96, 0x0, 1, .ro, 0x00000000, 0x00000000, 0x00000000⟩,  -- UMK_LANEl_FECUE
  ⟨0xFFFF11001014, 0x20, 96, 0x0, 1, .ro, 0x00000000, 0x00000000, 0x00000000⟩   -- UMK_LANEl_RETX
  ]

/-- Rows of the RNG block, part 1. -/
def rowsRng : List RegRow := [
  ⟨0xFFFF12000000, 0x0, 1, 0x0, 1, .rw, 0x0FFFFF03, 0x00000000, 0x0000FF00⟩,  -- RNG_CTL
  ⟨0xFFFF12000004, 0x0, 1, 0x0, 1, .ro, 0x00000000, 0x00000000, 0x00000000⟩,  -- RNG_STATUS
  ⟨0xFFFF12000008, 0x0, 1, 0x0, 1, .ro, 0x00000000, 0x00000000, 0x1F000000⟩,  -- RNG_KEEPER
  ⟨0xFFFF1200000C, 0x0, 1, 0x0, 1, .ro, 0x00000000, 0x00000000, 0x00000000⟩,  -- RNG_RINGID
  ⟨0xFFFF12000010, 0x0, 1, 0x0, 1, .rw, 0x03FFFFFF, 0x00000000, 0x00282864⟩,  -- RNG_TIMING
  ⟨0xFFFF12000014, 0x0, 1, 0x0, 1, .rw, 0xFFFFFFFF, 0x00000000, 0x14321E14⟩,  -- RNG_LOSS
  ⟨0xFFFF12000018, 0x0, 1, 0x0, 1, .rw, 0x0000FFFF, 0x00000000, 0x00000000⟩,  -- RNG_COMPAT
  ⟨0xFFFF1200001C, 0x0, 1, 0x0, 1, .ro, 0x00000000, 0x00000000, 0x00000000⟩,  -- RNG_OFFSET
  ⟨0xFFFF12000020, 0x0, 1, 0x0, 1, .ro, 0x00000000, 0x00000000, 0x00000000⟩,  -- RNG_EPOCH
  ⟨0xFFFF12000024, 0x0, 1, 0x0, 1, .ro, 0x00000000, 0x00000000, 0x00000000⟩,  -- RNG_EPOCH_PEND
  ⟨0xFFFF12000028, 0x0, 1, 0x0, 1, .ro, 0x00000000, 0x00000000, 0x00000000⟩,  -- RNG_EPOCH_STATUS
  ⟨0xFFFF1200002C, 0x0, 1, 0x0, 1, .w1p, 0x00000000, 0x00000000, 0x00000000⟩,  -- RNG_EPOCH_CMD
  ⟨0xFFFF12000030, 0x0, 1, 0x0, 1, .rw, 0x0001FFFF, 0x00000000, 0x00000000⟩,  -- RNG_EPOCH_LEN
  ⟨0xFFFF12000034, 0x0, 1, 0x0, 1, .rw, 0xFFFFFFFF, 0x00000000, 0x00000000⟩,  -- RNG_EBUF_LO
  ⟨0xFFFF12000038, 0x0, 1, 0x0, 1, .rw, 0x3FFFFFFF, 0x00000000, 0x00000000⟩,  -- RNG_EBUF_HI
  ⟨0xFFFF1200003C, 0x0, 1, 0x0, 1, .rw, 0xFFFFFFFF, 0x00000000, 0x00000000⟩,  -- RNG_MTAB_LO
  ⟨0xFFFF12000040, 0x0, 1, 0x0, 1, .rw, 0x3FFFFFFF, 0x00000000, 0x00000000⟩,  -- RNG_MTAB_HI
  ⟨0xFFFF12000044, 0x0, 1, 0x0, 1, .rw, 0xFFFFFFFF, 0x00000000, 0x00000000⟩,  -- RNG_SNAP_TIME_LO
  ⟨0xFFFF12000048, 0x0, 1, 0x0, 1, .rw, 0xFFFFFFFF, 0x00000000, 0x00000000⟩,  -- RNG_SNAP_TIME_HI
  ⟨0xFFFF1200004C, 0x0, 1, 0x0, 1, .w1p, 0x00000000, 0x00000000, 0x00000000⟩,  -- RNG_SNAP_CMD
  ⟨0xFFFF12000050, 0x0, 1, 0x0, 1, .ro, 0x00000000, 0x00000000, 0x00000000⟩,  -- RNG_TSTEP_CNT
  ⟨0xFFFF12000054, 0x0, 1, 0x0, 1, .ro, 0x00000000, 0x00000000, 0x00000000⟩,  -- RNG_NOROUTE
  ⟨0xFFFF12000058, 0x0, 1, 0x0, 1, .ro, 0x00000000, 0x00000000, 0x00000000⟩,  -- RNG_RDROP
  ⟨0xFFFF1200005C, 0x0, 1, 0x0, 1, .ro, 0x00000000, 0x00000000, 0x00000000⟩,  -- RNG_SNAPLATE
  ⟨0xFFFF12000060, 0x0, 1, 0x0, 1, .ro, 0x00000000, 0x00000000, 0x00000000⟩,  -- RNG_DUPBC
  ⟨0xFFFF12000100, 0x4, 24, 0x0, 1, .ro, 0x00000000, 0x00000000, 0x00000000⟩,  -- RNG_PORTp_STAT
  ⟨0xFFFF12000200, 0x4, 16, 0x0, 1, .rw, 0xFFFFFFFF, 0x00000000, 0x00000000⟩,  -- RNG_RMKi
  ⟨0xFFFF12000400, 0x40, 8, 0x0, 1, .rw, 0xFFFFFFFF, 0x00000000, 0x00000000⟩,  -- RNG_MBd_BASE_LO
  ⟨0xFFFF12000404, 0x40, 8, 0x0, 1, .rw, 0x3FFFFFFF, 0x00000000, 0x00000000⟩,  -- RNG_MBd_BASE_HI
  ⟨0xFFFF12000408, 0x40, 8, 0x0, 1, .rw, 0x0000001F, 0x00000000, 0x00000000⟩,  -- RNG_MBd_CTL
  ⟨0xFFFF1200040C, 0x40, 8, 0x0, 1, .rw, 0x00007FFF, 0x00000000, 0x00000000⟩,  -- RNG_MBd_HEAD
  ⟨0xFFFF12000410, 0x40, 8, 0x0, 1, .ro, 0x00000000, 0x00000000, 0x00000000⟩,  -- RNG_MBd_TAIL
  ⟨0xFFFF12000414, 0x40, 8, 0x0, 1, .ro, 0x00000000, 0x00000000, 0x00000000⟩,  -- RNG_MBd_LOST
  ⟨0xFFFF12000418, 0x40, 8, 0x0, 1, .rw, 0xFFFFFFFF, 0x00000000, 0x00000000⟩,  -- RNG_MBd_TX_LO
  ⟨0xFFFF1200041C, 0x40, 8, 0x0, 1, .rw, 0x3FFFFFFF, 0x00000000, 0x00000000⟩,  -- RNG_MBd_TX_HI
  ⟨0xFFFF12000420, 0x40, 8, 0x0, 1, .rw, 0x07FFFFFF, 0x00000000, 0x00000000⟩,  -- RNG_MBd_TX_DEST
  ⟨0xFFFF12000424, 0x40, 8, 0x0, 1, .w1p, 0x00000000, 0x00000000, 0x00000000⟩,  -- RNG_MBd_TX_CMD
  ⟨0xFFFF12000428, 0x40, 8, 0x0, 1, .ro, 0x00000000, 0x00000000, 0x00000000⟩   -- RNG_MBd_TX_STATUS
  ]

/-- Rows of the ETH block, part 1. -/
def rowsEth : List RegRow := [
  ⟨0xFFFF13000000, 0x100, 16, 0x0, 1, .rw, 0x001FFFFF, 0x00000000, 0x00000000⟩,  -- ETHg_CFG
  ⟨0xFFFF13000004, 0x100, 16, 0x0, 1, .rw, 0xFFFFFFFF, 0x00000000, 0x00000000⟩,  -- ETHg_MAC_LO
  ⟨0xFFFF13000008, 0x100, 16, 0x0, 1, .rw, 0x0000FFFF, 0x00000000, 0x00000000⟩,  -- ETHg_MAC_HI
  ⟨0xFFFF1300000C, 0x100, 16, 0x0, 1, .rw, 0xFFFFFFFF, 0x00000000, 0x00000000⟩,  -- ETHg_IPV4
  ⟨0xFFFF13000010, 0x100, 16, 0x0, 1, .ro, 0x00000000, 0x00000000, 0x00000000⟩,  -- ETHg_STATUS
  ⟨0xFFFF13000014, 0x100, 16, 0x0, 1, .ro, 0x00000000, 0x00000000, 0x00000000⟩,  -- ETHg_RXFRM
  ⟨0xFFFF13000018, 0x100, 16, 0x0, 1, .ro, 0x00000000, 0x00000000, 0x00000000⟩,  -- ETHg_RXERR
  ⟨0xFFFF1300001C, 0x100, 16, 0x0, 1, .ro, 0x00000000, 0x00000000, 0x00000000⟩,  -- ETHg_RXLONG
  ⟨0xFFFF13000020, 0x100, 16, 0x0, 1, .ro, 0x00000000, 0x00000000, 0x00000000⟩,  -- ETHg_NOCLAIM
  ⟨0xFFFF13000024, 0x100, 16, 0x0, 1, .ro, 0x00000000, 0x00000000, 0x00000000⟩,  -- ETHg_RXOTHER
  ⟨0xFFFF13000028, 0x100, 16, 0x0, 1, .ro, 0x00000000, 0x00000000, 0x00000000⟩   -- ETHg_TXFRM
  ]

/-- Rows of the SP block, part 1. -/
def rowsSp : List RegRow := [
  ⟨0xFFFF18000000, 0x100, 8, 0x0, 1, .rw, 0x00000FFF, 0x00000000, 0x00000000⟩,  -- SPn_CFG
  ⟨0xFFFF18000004, 0x100, 8, 0x0, 1, .rw, 0x00003FFF, 0x00000000, 0x00000000⟩,  -- SPn_ROWS
  ⟨0xFFFF18000008, 0x100, 8, 0x0, 1, .rw, 0x0000FFFF, 0x00000000, 0x00000000⟩,  -- SPn_FTMO
  ⟨0xFFFF1800000C, 0x100, 8, 0x0, 1, .w1c, 0x00000000, 0x00000100, 0x00000000⟩,  -- SPn_STATUS
  ⟨0xFFFF18000010, 0x100, 8, 0x0, 1, .ro, 0x00000000, 0x00000000, 0x00000000⟩,  -- SPn_FRAME
  ⟨0xFFFF18000014, 0x100, 8, 0x0, 1, .ro, 0x00000000, 0x00000000, 0x00000000⟩,  -- SPn_VTIME_LO
  ⟨0xFFFF18000018, 0x100, 8, 0x0, 1, .ro, 0x00000000, 0x00000000, 0x00000000⟩,  -- SPn_VTIME_HI
  ⟨0xFFFF1800001C, 0x100, 8, 0x0, 1, .ro, 0x00000000, 0x00000000, 0x00000000⟩,  -- SPn_LAST
  ⟨0xFFFF18000020, 0x100, 8, 0x0, 1, .ro, 0x00000000, 0x00000000, 0x00000000⟩,  -- SPn_BROKEN
  ⟨0xFFFF18000024, 0x100, 8, 0x0, 1, .ro, 0x00000000, 0x00000000, 0x00000000⟩,  -- SPn_ORPHAN
  ⟨0xFFFF18000028, 0x100, 8, 0x0, 1, .ro, 0x00000000, 0x00000000, 0x00000000⟩,  -- SPn_LONGROW
  ⟨0xFFFF1800002C, 0x100, 8, 0x0, 1, .ro, 0x00000000, 0x00000000, 0x00000000⟩,  -- SPn_TIMEOUT
  ⟨0xFFFF18000030, 0x100, 8, 0x0, 1, .ro, 0x00000000, 0x00000000, 0x00000000⟩   -- SPn_CLKLOSS
  ]

/-- Rows of the CP block, part 1. -/
def rowsCp : List RegRow := [
  ⟨0xFFFF19000000, 0x1000, 4, 0x0, 1, .rws, 0x00003FFF, 0x00000000, 0x00000000⟩,  -- CPn_CFG
  ⟨0xFFFF19000004, 0x1000, 4, 0x0, 1, .ro, 0x00003FFF, 0x00000000, 0x00000000⟩,  -- CPn_CFG_ACT
  ⟨0xFFFF19000008, 0x1000, 4, 0x0, 1, .rw, 0xFFFFFFFF, 0x00000000, 0x00000000⟩,  -- CPn_GEOM
  ⟨0xFFFF1900000C, 0x1000, 4, 0x0, 1, .rw, 0xFFFFFFFF, 0x00000000, 0x00000000⟩,  -- CPn_BL01
  ⟨0xFFFF19000010, 0x1000, 4, 0x0, 1, .rw, 0xFFFFFFFF, 0x00000000, 0x00000000⟩,  -- CPn_BL23
  ⟨0xFFFF19000014, 0x1000, 4, 0x0, 1, .rw, 0xFFFFFFFF, 0x00000000, 0x10001000⟩,  -- CPn_WB01
  ⟨0xFFFF19000018, 0x1000, 4, 0x0, 1, .rw, 0xFFFFFFFF, 0x00000000, 0x10001000⟩,  -- CPn_WB23
  ⟨0xFFFF1900001C, 0x1000, 4, 0x0, 1, .rw, 0x0000FFFF, 0x00000000, 0x00000000⟩,  -- CPn_DPTHR
  ⟨0xFFFF19000020, 0x1000, 4, 0x0, 1, .rws, 0x0000FFFF, 0x00000000, 0x00001000⟩,  -- CPn_MATRIXk k=0
  ⟨0xFFFF19000030, 0x1000, 4, 0x0, 1, .rws, 0x0000FFFF, 0x00000000, 0x00001000⟩,  -- CPn_MATRIXk k=4
  ⟨0xFFFF19000040, 0x1000, 4, 0x0, 1, .rws, 0x0000FFFF, 0x00000000, 0x00001000⟩,  -- CPn_MATRIXk k=8
  ⟨0xFFFF19000020, 0x1000, 4, 0x4, 9, .rws, 0x0000FFFF, 0x00000000, 0x00000000⟩,  -- CPn_MATRIXk
  ⟨0xFFFF19000060, 0x1000, 4, 0x0, 1, .ro, 0x00000000, 0x00000000, 0x00001000⟩,  -- CPn_MATRIXk_ACT k=0
  ⟨0xFFFF19000070, 0x1000, 4, 0x0, 1, .ro, 0x00000000, 0x00000000, 0x00001000⟩,  -- CPn_MATRIXk_ACT k=4
  ⟨0xFFFF19000080, 0x1000, 4, 0x0, 1, .ro, 0x00000000, 0x00000000, 0x00001000⟩,  -- CPn_MATRIXk_ACT k=8
  ⟨0xFFFF19000060, 0x1000, 4, 0x4, 9, .ro, 0x00000000, 0x00000000, 0x00000000⟩,  -- CPn_MATRIXk_ACT
  ⟨0xFFFF19000084, 0x1000, 4, 0x0, 1, .rw, 0xFFFFFFFF, 0x00000000, 0x00000000⟩,  -- CPn_TBL_LO
  ⟨0xFFFF19000088, 0x1000, 4, 0x0, 1, .rw, 0x3FFFFFFF, 0x00000000, 0x00000000⟩,  -- CPn_TBL_HI
  ⟨0xFFFF1900008C, 0x1000, 4, 0x0, 1, .rw, 0x00000007, 0x00000000, 0x00000000⟩,  -- CPn_DOM
  ⟨0xFFFF19000090, 0x1000, 4, 0x0, 1, .rw, 0xFFFFFFFF, 0x00000000, 0x00000000⟩,  -- CPn_FRING_LO
  ⟨0xFFFF19000094, 0x1000, 4, 0x0, 1, .rw, 0x3FFFFFFF, 0x00000000, 0x00000000⟩,  -- CPn_FRING_HI
  ⟨0xFFFF19000098, 0x1000, 4, 0x0, 1, .rw, 0x000000FF, 0x00000000, 0x00000000⟩,  -- CPn_FRING_N
  ⟨0xFFFF1900009C, 0x1000, 4, 0x0, 1, .rw, 0xFFFFFFFF, 0x00000000, 0x00000000⟩,  -- CPn_SRING_LO
  ⟨0xFFFF190000A0, 0x1000, 4, 0x0, 1, .rw, 0x3FFFFFFF, 0x00000000, 0x00000000⟩,  -- CPn_SRING_HI
  ⟨0xFFFF190000A4, 0x1000, 4, 0x0, 1, .rw, 0x000000FF, 0x00000000, 0x00000000⟩,  -- CPn_SRING_N
  ⟨0xFFFF190000A8, 0x1000, 4, 0x0, 1, .rw, 0xFFFFFFFF, 0x00000000, 0x00000000⟩,  -- CPn_SSTRIDE
  ⟨0xFFFF190000AC, 0x1000, 4, 0x0, 1, .w1p, 0x00000000, 0x00000000, 0x00000000⟩,  -- CPn_CMD
  ⟨0xFFFF190000B0, 0x1000, 4, 0x0, 1, .w1c, 0x00000000, 0x00000040, 0x00000004⟩,  -- CPn_STATUS
  ⟨0xFFFF190000B4, 0x1000, 4, 0x0, 1, .ro, 0x00000000, 0x00000000, 0x00000000⟩,  -- CPn_FRAME
  ⟨0xFFFF190000B8, 0x1000, 4, 0x0, 1, .ro, 0x00000000, 0x00000000, 0x00000000⟩,  -- CPn_FRMERR
  ⟨0xFFFF190000BC, 0x1000, 4, 0x0, 1, .ro, 0x00000000, 0x00000000, 0x00000000⟩,  -- CPn_FDROP
  ⟨0xFFFF190000C0, 0x1000, 4, 0x0, 1, .ro, 0x00000000, 0x00000000, 0x00000000⟩,  -- CPn_SDROP
  ⟨0xFFFF190000C4, 0x1000, 4, 0x0, 1, .ro, 0x00000000, 0x00000000, 0x00000000⟩,  -- CPn_DPCNT
  ⟨0xFFFF19000100, 0x1000, 4, 0x10, 4, .rw, 0x0FFFFFFF, 0x00000000, 0x00000000⟩,  -- CPn_ROIk_XW
  ⟨0xFFFF19000104, 0x1000, 4, 0x10, 4, .rw, 0x0FFFFFFF, 0x00000000, 0x00000000⟩,  -- CPn_ROIk_YH
  ⟨0xFFFF19000108, 0x1000, 4, 0x10, 4, .rw, 0xFFFF001F, 0x00000000, 0x00000000⟩   -- CPn_ROIk_CFG
  ]

/-- Rows of the TU block, part 1. -/
def rowsTu1 : List RegRow := [
  ⟨0xFFFF1A000000, 0x1000, 8, 0x0, 1, .rws, 0x0000001F, 0x00000000, 0x00000000⟩,  -- TUn_CFG
  ⟨0xFFFF1A000004, 0x1000, 8, 0x0, 1, .ro, 0x0000001F, 0x00000000, 0x00000000⟩,  -- TUn_CFG_ACT
  ⟨0xFFFF1A000008, 0x1000, 8, 0x0, 1, .rw, 0x03FFFFFF, 0x00000000, 0x00000000⟩,  -- TUn_GEOM
  ⟨0xFFFF1A00000C, 0x1000, 8, 0x0, 1, .rw, 0x000001FF, 0x00000000, 0x00000000⟩,  -- TUn_FPAT
  ⟨0xFFFF1A000010, 0x1000, 8, 0x0, 1, .rw, 0xFFFFFFFF, 0x00000000, 0x00010000⟩,  -- TUn_FPAT_SCALE
  ⟨0xFFFF1A000014, 0x1000, 8, 0x0, 1, .rw, 0xFFFFFFFF, 0x00000000, 0x00000000⟩,  -- TUn_FPAT_OFS
  ⟨0xFFFF1A000018, 0x1000, 8, 0x0, 1, .rw, 0xFFFFFFFF, 0x00000000, 0x00000000⟩,  -- TUn_FPAT_IN
  ⟨0xFFFF1A00001C, 0x1000, 8, 0x0, 1, .ro, 0x00000000, 0x00000000, 0x00000000⟩,  -- TUn_TFPA
  ⟨0xFFFF1A000020, 0x1000, 8, 0x0, 1, .ro, 0x00000000, 0x00000000, 0x00000000⟩,  -- TUn_TREF
  ⟨0xFFFF1A000024, 0x1000, 8, 0x0, 1, .ro, 0x00000000, 0x00000000, 0x00000000⟩,  -- TUn_TC
  ⟨0xFFFF1A000028, 0x1000, 8, 0x0, 1, .rw, 0x00FFF7FF, 0x00000000, 0x000A4320⟩,  -- TUn_SHUT
  ⟨0xFFFF1A00002C, 0x1000, 8, 0x0, 1, .rw, 0xFFFFFFFF, 0x00000000, 0x00000000⟩,  -- TUn_THR
  ⟨0xFFFF1A000030, 0x1000, 8, 0x0, 1, .rw, 0x0000FFFF, 0x00000000, 0x00000000⟩,  -- TUn_TSH
  ⟨0xFFFF1A000034, 0x1000, 8, 0x0, 1, .ro, 0x00000000, 0x00000000, 0x00000000⟩,  -- TUn_SHOFS
  ⟨0xFFFF1A000038, 0x1000, 8, 0x0, 1, .w1p, 0x00000000, 0x00000000, 0x00000000⟩,  -- TUn_CMD
  ⟨0xFFFF1A00003C, 0x1000, 8, 0x0, 1, .w1c, 0x00000000, 0x00001000, 0x00000000⟩,  -- TUn_STATUS
  ⟨0xFFFF1A000040, 0x1000, 8, 0x0, 1, .rw, 0xFFFFFFFF, 0x00000000, 0x00000000⟩,  -- TUn_TBL_LO
  ⟨0xFFFF1A000044, 0x1000, 8, 0x0, 1, .rw, 0x3FFFFFFF, 0x00000000, 0x00000000⟩,  -- TUn_TBL_HI
  ⟨0xFFFF1A000048, 0x1000, 8, 0x0, 1, .rw, 0x00000007, 0x00000000, 0x00000000⟩,  -- TUn_DOM
  ⟨0xFFFF1A00004C, 0x1000, 8, 0x0, 1, .rw, 0xFFFFFFFF, 0x00000000, 0x00000000⟩,  -- TUn_FRING_LO
  ⟨0xFFFF1A000050, 0x1000, 8, 0x0, 1, .rw, 0x3FFFFFFF, 0x00000000, 0x00000000⟩,  -- TUn_FRING_HI
  ⟨0xFFFF1A000054, 0x1000, 8, 0x0, 1, .rw, 0x000000FF, 0x00000000, 0x00000000⟩,  -- TUn_FRING_N
  ⟨0xFFFF1A000058, 0x1000, 8, 0x0, 1, .ro, 0x00000000, 0x00000000, 0x00000000⟩,  -- TUn_FRAME
  ⟨0xFFFF1A00005C, 0x1000, 8, 0x0, 1, .ro, 0x00000000, 0x00000000, 0x00000000⟩,  -- TUn_TMOVE
  ⟨0xFFFF1A000060, 0x1000, 8, 0x0, 1, .ro, 0x00000000, 0x00000000, 0x00000000⟩,  -- TUn_CALCNT
  ⟨0xFFFF1A000064, 0x1000, 8, 0x0, 1, .ro, 0x00000000, 0x00000000, 0x00000000⟩,  -- TUn_CALFAIL
  ⟨0xFFFF1A000068, 0x1000, 8, 0x0, 1, .ro, 0x00000000, 0x00000000, 0x00000000⟩,  -- TUn_FRMERR
  ⟨0xFFFF1A00006C, 0x1000, 8, 0x0, 1, .ro, 0x00000000, 0x00000000, 0x00000000⟩,  -- TUn_FDROP
  ⟨0xFFFF1A000070, 0x1000, 8, 0x0, 1, .ro, 0x00000000, 0x00000000, 0x00000000⟩,  -- TUn_UNREP
  ⟨0xFFFF1A000074, 0x1000, 8, 0x0, 1, .ro, 0x00000000, 0x00000000, 0x00000000⟩,  -- TUn_STOREERR
  ⟨0xFFFF1A000100, 0x1000, 8, 0x20, 16, .rws, 0xFFFFFFFF, 0x00000000, 0x00000000⟩,  -- TUn_ZONEz_RECT
  ⟨0xFFFF1A000104, 0x1000, 8, 0x20, 16, .ro, 0x00000000, 0x00000000, 0x00000000⟩,  -- TUn_ZONEz_RECT_ACT
  ⟨0xFFFF1A000108, 0x1000, 8, 0x20, 16, .ro, 0x00000000, 0x00000000, 0x00000000⟩,  -- TUn_ZONEz_MINMAX
  ⟨0xFFFF1A00010C, 0x1000, 8, 0x20, 16, .ro, 0x00000000, 0x00000000, 0x00000000⟩,  -- TUn_ZONEz_MEAN
  ⟨0xFFFF1A000110, 0x1000, 8, 0x20, 16, .ro, 0x00000000, 0x00000000, 0x00000000⟩,  -- TUn_ZONEz_HOT
  ⟨0xFFFF1A000114, 0x1000, 8, 0x20, 16, .ro, 0x00000000, 0x00000000, 0x00000000⟩,  -- TUn_ZONEz_FRAME
  ⟨0xFFFF1A000118, 0x1000, 8, 0x20, 16, .ro, 0x00000000, 0x00000000, 0x00000000⟩,  -- TUn_ZONEz_COUNT
  ⟨0xFFFF1A000300, 0x1000, 8, 0x10, 4, .rw, 0xFFFFFFFF, 0x00000000, 0x00000000⟩,  -- TUn_PZm_RECT
  ⟨0xFFFF1A000304, 0x1000, 8, 0x10, 4, .rw, 0xFFFFFFFF, 0x00000000, 0x00000000⟩,  -- TUn_PZm_BAND
  ⟨0xFFFF1A000308, 0x1000, 8, 0x10, 4, .rw, 0x1FFFFFFF, 0x00000000, 0x00000000⟩   -- TUn_PZm_CFG
  ]

/-- Rows of the TU block, part 2. -/
def rowsTu2 : List RegRow := [
  ⟨0xFFFF1A00030C, 0x1000, 8, 0x10, 4, .ro, 0x00000000, 0x00000000, 0x00000000⟩   -- TUn_PZm_STAT
  ]

/-- Rows of the TU block. -/
def rowsTu : List RegRow := rowsTu1 ++ rowsTu2

/-- Rows of the PLT block, part 1. -/
def rowsPlt : List RegRow := [
  ⟨0xFFFF20000000, 0x0, 1, 0x0, 1, .ro, 0x00000000, 0x00000000, 0x00000001⟩,  -- PLT_STATUS
  ⟨0xFFFF20000004, 0x0, 1, 0x0, 1, .rw, 0x0000FFFF, 0x00000000, 0x00001388⟩,  -- PLT_HBCFG
  ⟨0xFFFF20000008, 0x0, 1, 0x0, 1, .wo, 0x00000000, 0x00000000, 0x00000000⟩,  -- PLT_HB
  ⟨0xFFFF2000000C, 0x0, 1, 0x0, 1, .ro, 0x00000000, 0x00000000, 0x00000000⟩,  -- PLT_RESTART_CNT
  ⟨0xFFFF20000010, 0x0, 1, 0x0, 1, .rw, 0xFFFFFFFF, 0x00000000, 0x00000000⟩,  -- PLT_SO_OUT
  ⟨0xFFFF20000014, 0x0, 1, 0x0, 1, .ro, 0x00000000, 0x00000000, 0x00000000⟩,  -- PLT_SO_STATE
  ⟨0xFFFF20000018, 0x0, 1, 0x0, 1, .ro, 0x00000000, 0x00000000, 0x00000000⟩,  -- PLT_PRES
  ⟨0xFFFF2000001C, 0x0, 1, 0x0, 1, .rw, 0x00000FFF, 0x00000000, 0x00000000⟩,  -- PLT_PRESCFG
  ⟨0xFFFF20000100, 0x4, 32, 0x0, 1, .rw, 0xFFFF7FFF, 0x00000000, 0x00000000⟩,  -- PLT_SOk_CFG
  ⟨0xFFFF20000200, 0x10, 8, 0x0, 1, .rw, 0xFFFF03FF, 0x00000000, 0x00000000⟩,  -- PLT_MOm_CFG
  ⟨0xFFFF20000204, 0x10, 8, 0x0, 1, .rw, 0xFFFFFFFF, 0x00000000, 0x00000000⟩,  -- PLT_MOm_VAL
  ⟨0xFFFF20000208, 0x10, 8, 0x0, 1, .rw, 0xFFFFFFFF, 0x00000000, 0x00000000⟩,  -- PLT_MOm_LVL01
  ⟨0xFFFF2000020C, 0x10, 8, 0x0, 1, .rw, 0xFFFFFFFF, 0x00000000, 0x00000000⟩,  -- PLT_MOm_LVL23
  ⟨0xFFFF20000400, 0x80, 8, 0x0, 1, .rw, 0x07FBFFFF, 0x00000000, 0x00000000⟩,  -- PLT_CZz_CFG
  ⟨0xFFFF20000404, 0x80, 8, 0x0, 1, .rw, 0xFFFFFFFF, 0x00000000, 0x00000000⟩,  -- PLT_CZz_TUPRES
  ⟨0xFFFF20000408, 0x80, 8, 0x0, 1, .ro, 0x00000000, 0x00000000, 0x00000000⟩,  -- PLT_CZz_STAT
  ⟨0xFFFF2000040C, 0x80, 8, 0x0, 1, .rw, 0x0003FFF3, 0x00000000, 0x00000000⟩,  -- PLT_CZz_OVR
  ⟨0xFFFF20000410, 0x80, 8, 0x10, 4, .rw, 0xFFFFFFFF, 0x00000000, 0x00000000⟩,  -- PLT_CZz_Mmd_TSP
  ⟨0xFFFF20000414, 0x80, 8, 0x10, 4, .rw, 0xFFFFFFFF, 0x00000000, 0x00000000⟩,  -- PLT_CZz_Mmd_TBAND
  ⟨0xFFFF20000418, 0x80, 8, 0x10, 4, .rw, 0xFFFFFFFF, 0x00000000, 0x00000000⟩,  -- PLT_CZz_Mmd_HSP
  ⟨0xFFFF2000041C, 0x80, 8, 0x10, 4, .rw, 0xFFFFFFFF, 0x00000000, 0x00000000⟩   -- PLT_CZz_Mmd_HBAND
  ]

/-- Rows of the LE block, part 1. -/
def rowsLe : List RegRow := [
  ⟨0xFFFF21000000, 0x100, 32, 0x0, 1, .rws, 0x07FFFFFF, 0x00000000, 0x00000002⟩,  -- LEn_CFG
  ⟨0xFFFF21000004, 0x100, 32, 0x0, 1, .ro, 0x07FFFFFF, 0x00000000, 0x00000002⟩,  -- LEn_CFG_ACT
  ⟨0xFFFF21000008, 0x100, 32, 0x0, 1, .rw, 0xFFFFFFFF, 0x00000000, 0x00000000⟩,  -- LEn_SP
  ⟨0xFFFF2100000C, 0x100, 32, 0x0, 1, .rw, 0x7FFFFFFF, 0x00000000, 0x00000000⟩,  -- LEn_BAND
  ⟨0xFFFF21000010, 0x100, 32, 0x0, 1, .rw, 0x00FFFFFF, 0x00000000, 0x00000000⟩,  -- LEn_PER
  ⟨0xFFFF21000014, 0x100, 32, 0x0, 1, .rw, 0x0003FFFF, 0x00000000, 0x00000000⟩,  -- LEn_DWELL
  ⟨0xFFFF21000018, 0x100, 32, 0x0, 1, .rw, 0x7FFFFFFF, 0x00000000, 0x00000000⟩,  -- LEn_ILIM
  ⟨0xFFFF2100001C, 0x100, 32, 0x0, 1, .rw, 0xFFFFFFFF, 0x00000000, 0x00000000⟩,  -- LEn_FBIN
  ⟨0xFFFF21000020, 0x100, 32, 0x0, 1, .rws, 0xFFFFFFFF, 0x00000000, 0x00000001⟩,  -- LEn_COEFk k=0
  ⟨0xFFFF21000020, 0x100, 32, 0x4, 8, .rws, 0xFFFFFFFF, 0x00000000, 0x00000000⟩,  -- LEn_COEFk
  ⟨0xFFFF21000040, 0x100, 32, 0x0, 1, .ro, 0x00000000, 0x00000000, 0x00000001⟩,  -- LEn_COEFk_ACT k=0
  ⟨0xFFFF21000040, 0x100, 32, 0x4, 8, .ro, 0x00000000, 0x00000000, 0x00000000⟩,  -- LEn_COEFk_ACT
  ⟨0xFFFF21000060, 0x100, 32, 0x0, 1, .rw, 0x0000FFFF, 0x00000000, 0x00000000⟩,  -- LEn_PLAUS
  ⟨0xFFFF21000064, 0x100, 32, 0x0, 1, .rw, 0x7FFFFFFF, 0x00000000, 0x00000000⟩,  -- LEn_MTOL
  ⟨0xFFFF21000068, 0x100, 32, 0x0, 1, .rw, 0xFFFFFFFF, 0x00000000, 0x00000000⟩,  -- LEn_MOFS
  ⟨0xFFFF2100006C, 0x100, 32, 0x0, 1, .rw, 0xFFFFFFFF, 0x00000000, 0x00000000⟩,  -- LEn_MU
  ⟨0xFFFF21000070, 0x100, 32, 0x0, 1, .rw, 0x00FFFF7F, 0x00000000, 0x00000000⟩,  -- LEn_TEST
  ⟨0xFFFF21000074, 0x100, 32, 0x0, 1, .rw, 0x7FFFFFFF, 0x00000000, 0x00000000⟩,  -- LEn_TAMP
  ⟨0xFFFF21000078, 0x100, 32, 0x0, 1, .w1p, 0x00000000, 0x00000000, 0x00000000⟩,  -- LEn_CMD
  ⟨0xFFFF2100007C, 0x100, 32, 0x0, 1, .w1c, 0x00000000, 0x00000004, 0x00000000⟩,  -- LEn_STATUS
  ⟨0xFFFF21000080, 0x100, 32, 0x0, 1, .ro, 0x00000000, 0x00000000, 0x00000000⟩,  -- LEn_FB
  ⟨0xFFFF21000084, 0x100, 32, 0x0, 1, .ro, 0x00000000, 0x00000000, 0x00000000⟩,  -- LEn_YF
  ⟨0xFFFF21000088, 0x100, 32, 0x0, 1, .ro, 0x00000000, 0x00000000, 0x00000000⟩,  -- LEn_ISH
  ⟨0xFFFF2100008C, 0x100, 32, 0x0, 1, .ro, 0x00000000, 0x00000000, 0x00000000⟩,  -- LEn_MODEL
  ⟨0xFFFF21000090, 0x100, 32, 0x0, 1, .ro, 0x00000000, 0x00000000, 0x00000000⟩,  -- LEn_MISSCNT
  ⟨0xFFFF21000094, 0x100, 32, 0x0, 1, .ro, 0x00000000, 0x00000000, 0x00000000⟩,  -- LEn_STEPCNT
  ⟨0xFFFF21000098, 0x100, 32, 0x0, 1, .ro, 0x00000000, 0x00000000, 0x00000000⟩,  -- LEn_PLCNT
  ⟨0xFFFF21004000, 0x0, 1, 0x0, 1, .rw, 0x0000FFFF, 0x00000000, 0x00000000⟩,  -- LE_CAP_CTL
  ⟨0xFFFF21004004, 0x0, 1, 0x0, 1, .w1p, 0x00000000, 0x00000000, 0x00000000⟩,  -- LE_CAP_CMD
  ⟨0xFFFF21004008, 0x0, 1, 0x0, 1, .ro, 0x00000000, 0x00000000, 0x00000000⟩,  -- LE_CAP_STATUS
  ⟨0xFFFF21008000, 0x8, 2048, 0x0, 1, .ro, 0x00000000, 0x00000000, 0x00000000⟩,  -- LE_CAP_Ai
  ⟨0xFFFF21008004, 0x8, 2048, 0x0, 1, .ro, 0x00000000, 0x00000000, 0x00000000⟩   -- LE_CAP_Bi
  ]

/-- Rows of the V block, part 1. -/
def rowsV : List RegRow := [
  ⟨0xFFFF22000000, 0x100, 16, 0x0, 1, .rw, 0x000003FF, 0x00000000, 0x00000000⟩,  -- Vn_CFG
  ⟨0xFFFF22000004, 0x100, 16, 0x0, 1, .rw, 0x00001FFF, 0x00000000, 0x00000000⟩,  -- Vn_SETPT
  ⟨0xFFFF22000008, 0x100, 16, 0x0, 1, .rw, 0x00FFFFFF, 0x00000000, 0x00000000⟩,  -- Vn_DITHER
  ⟨0xFFFF2200000C, 0x100, 16, 0x0, 1, .rw, 0x001FFFFF, 0x00000000, 0x00000020⟩,  -- Vn_REG
  ⟨0xFFFF22000010, 0x100, 16, 0x0, 1, .rw, 0xFFFFFFFF, 0x00000000, 0x00000000⟩,  -- Vn_KI
  ⟨0xFFFF22000014, 0x100, 16, 0x0, 1, .rw, 0x00001FFF, 0x00000000, 0x00000000⟩,  -- Vn_ILIM
  ⟨0xFFFF22000018, 0x100, 16, 0x0, 1, .rw, 0x1FFF1FFF, 0x00000000, 0x00000000⟩,  -- Vn_LVL01
  ⟨0xFFFF2200001C, 0x100, 16, 0x0, 1, .rw, 0x1FFF1FFF, 0x00000000, 0x00000000⟩,  -- Vn_LVL23
  ⟨0xFFFF22000020, 0x100, 16, 0x0, 1, .rw, 0x00001FFF, 0x00000000, 0x00000000⟩,  -- Vn_SAFE
  ⟨0xFFFF22000024, 0x100, 16, 0x0, 1, .rw, 0x00001FFF, 0x00000000, 0x00001FFF⟩,  -- Vn_OC
  ⟨0xFFFF22000028, 0x100, 16, 0x0, 1, .rw, 0x1FFFFFFF, 0x00000000, 0x00000000⟩,  -- Vn_MOVECFG
  ⟨0xFFFF2200002C, 0x100, 16, 0x0, 1, .ro, 0x00000000, 0x00000000, 0x00000000⟩,  -- Vn_MOVE
  ⟨0xFFFF22000030, 0x100, 16, 0x0, 1, .rw, 0x003FFFFF, 0x00000000, 0x00000000⟩,  -- Vn_DUTY
  ⟨0xFFFF22000034, 0x100, 16, 0x0, 1, .rw, 0xFFFFFFFF, 0x00000000, 0x00000000⟩,  -- Vn_KH
  ⟨0xFFFF22000038, 0x100, 16, 0x0, 1, .rw, 0x00FFFFFF, 0x00000000, 0x00000000⟩,  -- Vn_KT
  ⟨0xFFFF2200003C, 0x100, 16, 0x0, 1, .rw, 0xFFFFFFFF, 0x00000000, 0x00004A8A⟩,  -- Vn_TAMB
  ⟨0xFFFF22000040, 0x100, 16, 0x0, 1, .rw, 0xFFFFFFFF, 0x00000000, 0x00000000⟩,  -- Vn_TLIM
  ⟨0xFFFF22000044, 0x100, 16, 0x0, 1, .w1p, 0x00000000, 0x00000000, 0x00000000⟩,  -- Vn_CMD
  ⟨0xFFFF22000048, 0x100, 16, 0x0, 1, .w1c, 0x00000000, 0x00000010, 0x00000000⟩,  -- Vn_STATUS
  ⟨0xFFFF2200004C, 0x100, 16, 0x0, 1, .ro, 0x00000000, 0x00000000, 0x00000000⟩,  -- Vn_SENSE
  ⟨0xFFFF22000050, 0x100, 16, 0x0, 1, .ro, 0x00000000, 0x00000000, 0x00000000⟩,  -- Vn_IMEAN
  ⟨0xFFFF22000054, 0x100, 16, 0x0, 1, .ro, 0x00000000, 0x00000000, 0x00000000⟩,  -- Vn_TCOIL
  ⟨0xFFFF22000058, 0x100, 16, 0x0, 1, .ro, 0x00000000, 0x00000000, 0x00000000⟩,  -- Vn_TRIPCNT
  ⟨0xFFFF2200005C, 0x100, 16, 0x0, 1, .ro, 0x00000000, 0x00000000, 0x00000000⟩,  -- Vn_LIMCNT
  ⟨0xFFFF22000060, 0x100, 16, 0x0, 1, .ro, 0x00000000, 0x00000000, 0x00000000⟩   -- Vn_NOMOVECNT
  ]

/-- Rows of the ADC block, part 1. -/
def rowsAdc : List RegRow := [
  ⟨0xFFFF23000000, 0x0, 1, 0x0, 1, .rw, 0x0000007F, 0x00000000, 0x00000000⟩,  -- ADC_CTL
  ⟨0xFFFF23000004, 0x0, 1, 0x0, 1, .w1p, 0x00000000, 0x00000000, 0x00000000⟩,  -- ADC_CMD
  ⟨0xFFFF23000008, 0x0, 1, 0x0, 1, .w1c, 0x00000000, 0x0000001C, 0x00000000⟩,  -- ADC_STATUS
  ⟨0xFFFF2300000C, 0x0, 1, 0x0, 1, .ro, 0x00000000, 0x00000000, 0x00000000⟩,  -- ADC_LAP
  ⟨0xFFFF23000100, 0x10, 16, 0x0, 1, .rw, 0x0001FFFF, 0x00000000, 0x00004200⟩,  -- ADC_SEQn_CFG
  ⟨0xFFFF23000104, 0x10, 16, 0x0, 1, .rw, 0x07FFFFFF, 0x00000000, 0x00000000⟩,  -- ADC_SEQn_TIM
  ⟨0xFFFF23000108, 0x10, 16, 0x0, 1, .ro, 0x00000000, 0x00000000, 0x00000000⟩,  -- ADC_SEQn_RESULT
  ⟨0xFFFF2300010C, 0x10, 16, 0x0, 1, .ro, 0x00000000, 0x00000000, 0x00000000⟩   -- ADC_SEQn_TIME
  ]

/-- Rows of the FAN block, part 1. -/
def rowsFan : List RegRow := [
  ⟨0xFFFF24000000, 0x100, 12, 0x0, 1, .rw, 0x0007FFFF, 0x00000000, 0x00000400⟩,  -- FANn_CFG
  ⟨0xFFFF24000004, 0x100, 12, 0x0, 1, .rw, 0x0000FFFF, 0x00000000, 0x00000000⟩,  -- FANn_TARGET
  ⟨0xFFFF24000008, 0x100, 12, 0x0, 1, .rw, 0xFFFFFFFF, 0x00000000, 0x00000000⟩,  -- FANn_DUTY
  ⟨0xFFFF2400000C, 0x100, 12, 0x0, 1, .rw, 0xFFFFFFFF, 0x00000000, 0x00000000⟩,  -- FANn_LVLRPM01
  ⟨0xFFFF24000010, 0x100, 12, 0x0, 1, .rw, 0xFFFFFFFF, 0x00000000, 0x00000000⟩,  -- FANn_LVLRPM23
  ⟨0xFFFF24000014, 0x100, 12, 0x0, 1, .rw, 0xFFFFFFFF, 0x00000000, 0x00000000⟩,  -- FANn_RAMP
  ⟨0xFFFF24000018, 0x100, 12, 0x0, 1, .rw, 0xFFFFFFFF, 0x00000000, 0x00000000⟩,  -- FANn_KP
  ⟨0xFFFF2400001C, 0x100, 12, 0x0, 1, .rw, 0xFFFFFFFF, 0x00000000, 0x00000000⟩,  -- FANn_KI
  ⟨0xFFFF24000020, 0x100, 12, 0x0, 1, .rw, 0x00FFFFFF, 0x00000000, 0x00000000⟩,  -- FANn_FAIL
  ⟨0xFFFF24000024, 0x100, 12, 0x0, 1, .rw, 0xFFFFFFFF, 0x00000000, 0x00010000⟩,  -- FANn_TSCALE
  ⟨0xFFFF24000028, 0x100, 12, 0x0, 1, .rw, 0xFFFFFFFF, 0x00000000, 0x00000000⟩,  -- FANn_TOFS
  ⟨0xFFFF2400002C, 0x100, 12, 0x0, 1, .w1p, 0x00000000, 0x00000000, 0x00000000⟩,  -- FANn_CMD
  ⟨0xFFFF24000030, 0x100, 12, 0x0, 1, .ro, 0x00000000, 0x00000000, 0x00000000⟩,  -- FANn_STATUS
  ⟨0xFFFF24000034, 0x100, 12, 0x0, 1, .ro, 0x00000000, 0x00000000, 0x00000000⟩,  -- FANn_RPM
  ⟨0xFFFF24000038, 0x100, 12, 0x0, 1, .ro, 0x00000000, 0x00000000, 0x00000000⟩,  -- FANn_DUTYACT
  ⟨0xFFFF2400003C, 0x100, 12, 0x0, 1, .ro, 0x00000000, 0x00000000, 0x00000000⟩,  -- FANn_TIN
  ⟨0xFFFF24000040, 0x100, 12, 0x4, 8, .rws, 0xFFFFFFFF, 0x00000000, 0xFFFF0000⟩,  -- FANn_TABLEk
  ⟨0xFFFF24000060, 0x100, 12, 0x4, 8, .ro, 0x00000000, 0x00000000, 0xFFFF0000⟩,  -- FANn_TABLEk_ACT
  ⟨0xFFFF24000080, 0x100, 12, 0x0, 1, .ro, 0x00000000, 0x00000000, 0x00000000⟩   -- FANn_FAILCNT
  ]

/-- Rows of the SPI block, part 1. -/
def rowsSpi : List RegRow := [
  ⟨0xFFFF25000000, 0x100, 4, 0x0, 1, .rw, 0x01FFFFFF, 0x00000000, 0x00080000⟩,  -- SPIn_CFG
  ⟨0xFFFF25000004, 0x100, 4, 0x0, 1, .rw, 0xFFFFFFFF, 0x00000000, 0x00000011⟩,  -- SPIn_TIMING
  ⟨0xFFFF25000008, 0x100, 4, 0x0, 1, .rw, 0x0000000F, 0x00000000, 0x00000000⟩,  -- SPIn_SELEN
  ⟨0xFFFF2500000C, 0x100, 4, 0x0, 1, .rw, 0x0007FFFF, 0x00000000, 0x00000000⟩,  -- SPIn_TXADDR
  ⟨0xFFFF25000010, 0x100, 4, 0x0, 1, .rw, 0x0007FFFF, 0x00000000, 0x00000000⟩,  -- SPIn_RXADDR
  ⟨0xFFFF25000014, 0x100, 4, 0x0, 1, .rw, 0x000FFFFF, 0x00000000, 0x00000000⟩,  -- SPIn_XFER
  ⟨0xFFFF25000018, 0x100, 4, 0x0, 1, .w1p, 0x00000000, 0x00000000, 0x00000000⟩,  -- SPIn_CMD
  ⟨0xFFFF2500001C, 0x100, 4, 0x0, 1, .w1c, 0x00000000, 0x000000E2, 0x00000100⟩,  -- SPIn_STATUS
  ⟨0xFFFF25000020, 0x100, 4, 0x0, 1, .ro, 0x00000000, 0x00000000, 0x00000000⟩,  -- SPIn_RXCNT
  ⟨0xFFFF25000024, 0x100, 4, 0x0, 1, .rw, 0x007FFFFF, 0x00000000, 0x00000000⟩,  -- SPIn_SRXRING
  ⟨0xFFFF25000028, 0x100, 4, 0x0, 1, .rw, 0x000000FF, 0x00000000, 0x00000000⟩,  -- SPIn_SRXHEAD
  ⟨0xFFFF2500002C, 0x100, 4, 0x0, 1, .ro, 0x00000000, 0x00000000, 0x00000000⟩,  -- SPIn_SRXTAIL
  ⟨0xFFFF25000030, 0x100, 4, 0x0, 1, .rw, 0x0007FFFF, 0x00000000, 0x00000000⟩,  -- SPIn_REPADDR
  ⟨0xFFFF25000034, 0x100, 4, 0x0, 1, .rw, 0x000001FF, 0x00000000, 0x00000000⟩,  -- SPIn_REPLEN
  ⟨0xFFFF25000040, 0x100, 4, 0x0, 1, .ro, 0x00000000, 0x00000000, 0x00000000⟩,  -- SPIn_CONFLICT
  ⟨0xFFFF25000044, 0x100, 4, 0x0, 1, .ro, 0x00000000, 0x00000000, 0x00000000⟩,  -- SPIn_CUTOFF
  ⟨0xFFFF25000048, 0x100, 4, 0x0, 1, .ro, 0x00000000, 0x00000000, 0x00000000⟩,  -- SPIn_CASTLES
  ⟨0xFFFF2500004C, 0x100, 4, 0x0, 1, .ro, 0x00000000, 0x00000000, 0x00000000⟩,  -- SPIn_BUSYRPL
  ⟨0xFFFF25000050, 0x100, 4, 0x0, 1, .ro, 0x00000000, 0x00000000, 0x00000000⟩,  -- SPIn_LOSTFRM
  ⟨0xFFFF25000080, 0x0, 1, 0x0, 1, .rw, 0xFFFFFFFF, 0x00000000, 0x00000000⟩,  -- SPI0_DXCFG
  ⟨0xFFFF25000084, 0x0, 1, 0x0, 1, .ro, 0x00000000, 0x00000000, 0x00000000⟩,  -- SPI0_DXHIT
  ⟨0xFFFF25000088, 0x0, 1, 0x0, 1, .ro, 0x00000000, 0x00000000, 0x00000000⟩   -- SPI0_DXMISS
  ]

/-- Rows of the BB block, part 1. -/
def rowsBb : List RegRow := [
  ⟨0xFFFF26000000, 0x100, 2, 0x0, 1, .rw, 0x00FF7FFF, 0x00000000, 0x00017F00⟩,  -- BBn_CFG
  ⟨0xFFFF26000004, 0x100, 2, 0x0, 1, .rw, 0x00000007, 0x00000000, 0x00000002⟩,  -- BBn_RATE
  ⟨0xFFFF26000008, 0x100, 2, 0x0, 1, .rw, 0x003FFFFF, 0x00000000, 0x0003CF28⟩,  -- BBn_TIMING
  ⟨0xFFFF2600000C, 0x100, 2, 0x0, 1, .rw, 0x03FFFFFF, 0x00000000, 0x00A3FDF4⟩,  -- BBn_TIMERS
  ⟨0xFFFF26000010, 0x100, 2, 0x0, 1, .rw, 0x000000FF, 0x00000000, 0x000000C8⟩,  -- BBn_RDLY
  ⟨0xFFFF26000014, 0x100, 2, 0x0, 1, .w1c, 0x00000000, 0x00000020, 0x00000000⟩,  -- BBn_STATUS
  ⟨0xFFFF26000018, 0x100, 2, 0x0, 1, .rw, 0x007FFFFF, 0x00000000, 0x00000000⟩,  -- BBn_RXRING
  ⟨0xFFFF2600001C, 0x100, 2, 0x0, 1, .rw, 0x000000FF, 0x00000000, 0x00000000⟩,  -- BBn_RXHEAD
  ⟨0xFFFF26000020, 0x100, 2, 0x0, 1, .ro, 0x00000000, 0x00000000, 0x00000000⟩,  -- BBn_RXTAIL
  ⟨0xFFFF26000024, 0x100, 2, 0x0, 1, .rw, 0x007FFFFF, 0x00000000, 0x00000000⟩,  -- BBn_TXRING
  ⟨0xFFFF26000028, 0x100, 2, 0x0, 1, .ro, 0x00000000, 0x00000000, 0x00000000⟩,  -- BBn_TXHEAD
  ⟨0xFFFF2600002C, 0x100, 2, 0x0, 1, .rw, 0x000000FF, 0x00000000, 0x00000000⟩,  -- BBn_TXTAIL
  ⟨0xFFFF26000030, 0x100, 2, 0x0, 1, .ro, 0x00000000, 0x00000000, 0x00000000⟩,  -- BBn_HDRCRC
  ⟨0xFFFF26000034, 0x100, 2, 0x0, 1, .ro, 0x00000000, 0x00000000, 0x00000000⟩,  -- BBn_DATACRC
  ⟨0xFFFF26000038, 0x100, 2, 0x0, 1, .ro, 0x00000000, 0x00000000, 0x00000000⟩,  -- BBn_ABORT
  ⟨0xFFFF2600003C, 0x100, 2, 0x0, 1, .ro, 0x00000000, 0x00000000, 0x00000000⟩,  -- BBn_COLLIDE
  ⟨0xFFFF26000040, 0x100, 2, 0x0, 1, .ro, 0x00000000, 0x00000000, 0x00000000⟩,  -- BBn_STUCK
  ⟨0xFFFF26000044, 0x100, 2, 0x0, 1, .ro, 0x00000000, 0x00000000, 0x00000000⟩,  -- BBn_TOKLOST
  ⟨0xFFFF26000048, 0x100, 2, 0x0, 1, .ro, 0x00000000, 0x00000000, 0x00000000⟩,  -- BBn_RXOVF
  ⟨0xFFFF2600004C, 0x100, 2, 0x0, 1, .ro, 0x00000000, 0x00000000, 0x00000000⟩   -- BBn_DISC
  ]

/-- Rows of the AON block, part 1. -/
def rowsAon : List RegRow := [
  ⟨0xFFFF27000000, 0x0, 1, 0x0, 1, .w1c, 0x00000000, 0x0000000F, 0x00000000⟩,  -- AON_STATUS
  ⟨0xFFFF27000004, 0x0, 1, 0x0, 1, .rw, 0xFFFFFFFF, 0x00000000, 0x00000000⟩,  -- AON_RTC_SEC_LO
  ⟨0xFFFF27000008, 0x0, 1, 0x0, 1, .rw, 0x000000FF, 0x00000000, 0x00000000⟩,  -- AON_RTC_SEC_HI
  ⟨0xFFFF2700000C, 0x0, 1, 0x0, 1, .ro, 0x00000000, 0x00000000, 0x00000000⟩,  -- AON_RTC_SUB
  ⟨0xFFFF27000010, 0x0, 1, 0x0, 1, .rw, 0x0000FFFF, 0x00000000, 0x00000000⟩,  -- AON_RTC_TRIM
  ⟨0xFFFF27000014, 0x0, 1, 0x0, 1, .rw, 0x0000FFFF, 0x00000000, 0x00000000⟩,  -- AON_TZ
  ⟨0xFFFF27000018, 0x0, 1, 0x0, 1, .ro, 0x00000000, 0x00000000, 0x00000000⟩,  -- AON_CAL_DATE
  ⟨0xFFFF2700001C, 0x0, 1, 0x0, 1, .ro, 0x00000000, 0x00000000, 0x00000000⟩,  -- AON_CAL_TIME
  ⟨0xFFFF27000020, 0x0, 1, 0x0, 1, .rw, 0xFFFFFFFF, 0x00000000, 0x00000000⟩,  -- AON_ALARM_LO
  ⟨0xFFFF27000024, 0x0, 1, 0x0, 1, .rw, 0x000000FF, 0x00000000, 0x00000000⟩,  -- AON_ALARM_HI
  ⟨0xFFFF27000028, 0x0, 1, 0x0, 1, .rw, 0x0000FFFF, 0x00000000, 0x00000000⟩,  -- AON_ZMODE
  ⟨0xFFFF27000040, 0x4, 16, 0x0, 1, .rw, 0xFFFFFFFF, 0x00000000, 0x00000000⟩,  -- AON_RETi
  ⟨0xFFFF27000100, 0x4, 64, 0x0, 1, .rw, 0x3FFFFFFF, 0x00000000, 0x00000000⟩,  -- AON_SCHk
  ⟨0xFFFF27000200, 0x0, 1, 0x0, 1, .rw, 0x00007FFF, 0x00000000, 0x00000000⟩,  -- AON_WAKE_EN
  ⟨0xFFFF27000204, 0x0, 1, 0x0, 1, .w1c, 0x00000000, 0x0000007F, 0x00000000⟩,  -- AON_WAKE_STATUS
  ⟨0xFFFF27000208, 0x0, 1, 0x0, 1, .rw, 0x0000001F, 0x00000000, 0x00000000⟩,  -- AON_WAKECFG
  ⟨0xFFFF2700020C, 0x0, 1, 0x0, 1, .wo, 0x00000000, 0x00000000, 0x00000000⟩,  -- AON_HIB_CMD
  ⟨0xFFFF27000210, 0x0, 1, 0x0, 1, .ro, 0x00000000, 0x00000000, 0x00000000⟩   -- AON_HIB_STATUS
  ]

/-- The rows of the block that holds an address (R35): the block is named by address bits [31:24]. -/
def blockRows (a : Nat) : List RegRow :=
  match (a / 0x1000000) % 0x100 with
  | 0x00 => rowsSys
  | 0x01 => rowsFc
  | 0x02 => rowsTmp
  | 0x03 => rowsCal
  | 0x04 => rowsSnp
  | 0x05 => rowsFab
  | 0x06 => rowsMem
  | 0x10 => rowsPos
  | 0x11 => rowsUmk
  | 0x12 => rowsRng
  | 0x13 => rowsEth
  | 0x18 => rowsSp
  | 0x19 => rowsCp
  | 0x1A => rowsTu
  | 0x20 => rowsPlt
  | 0x21 => rowsLe
  | 0x22 => rowsV
  | 0x23 => rowsAdc
  | 0x24 => rowsFan
  | 0x25 => rowsSpi
  | 0x26 => rowsBb
  | 0x27 => rowsAon
  | 0x08 => rowsSe
  | 0x09 => rowsSe
  | 0x0A => rowsSe
  | 0x0B => rowsSe
  | 0x0C => rowsSe
  | _ => []

/-- The row of a register, if the address names one. -/
def regRow (a : Nat) : Option RegRow :=
  if a / 0x100000000 = 0xFFFF then (blockRows a).find? (fun r => r.covers a) else none

/-- The reset value the tables give a register; an address that names none reads 0 (RSV, R13). DESIGN CHOICE (log 5). -/
def regReset (a : Nat) : W32 :=
  match regRow a with
  | some r => BitVec.ofNat 32 r.reset
  | none => 0

/-- The 64-bit registers (R12): address of the low word, stride and count of its copies; the high word is the next. -/
def loRows1 : List (Nat × Nat × Nat) := [
  (0xFFFF00000010, 0x0, 1),  -- SYS_MEMTOP_LO
  (0xFFFF00000020, 0x0, 1),  -- SYS_UID_LO
  (0xFFFF00000130, 0x0, 1),  -- SYS_OWN_INSTALL_LO
  (0xFFFF00010300, 0x1000, 8),  -- SYS_Dd_SEATCMD_LO
  (0xFFFF00010310, 0x1000, 8),  -- SYS_Dd_NQ_BASE_LO
  (0xFFFF01000000, 0x0, 1),  -- FC_STATUS_LO
  (0xFFFF01000008, 0x0, 1),  -- FC_LIVE_LO
  (0xFFFF01000014, 0x0, 1),  -- FC_FIRST_TIME_LO
  (0xFFFF03000008, 0x0, 1),  -- CAL_IMG_LO
  (0xFFFF04001008, 0x100, 8),  -- SNP_STGd_SEAM_LO
  (0xFFFF04001010, 0x100, 8),  -- SNP_STGd_LIST_LO
  (0xFFFF04001020, 0x100, 8),  -- SNP_STGd_APPLIED_LO
  (0xFFFF04001818, 0x0, 1),  -- SNP_SPR_MISLINE_LO
  (0xFFFF04001820, 0x0, 1),  -- SNP_SPR_HLINE_LO
  (0xFFFF04001828, 0x0, 1),  -- SNP_SPR_LOSTF_LO
  (0xFFFF04001830, 0x0, 1),  -- SNP_SPR_LOSTL_LO
  (0xFFFF04001840, 0x8, 4),  -- SNP_SPR_RECs_LO
  (0xFFFF04000020, 0x0, 1),  -- SNP_TIME_LO
  (0xFFFF04000030, 0x8, 4),  -- SNP_WPOSw_LO
  (0xFFFF04000050, 0x0, 1),  -- SNP_FCSTAT_LO
  (0xFFFF04000058, 0x0, 1),  -- SNP_FCLIVE_LO
  (0xFFFF040000A0, 0x0, 1),  -- SNP_LELVL_LO
  (0xFFFF06000010, 0x0, 1),  -- MEM_PASS_BASE_LO
  (0xFFFF06001020, 0x40, 8),  -- MEMn_LAST_LO
  (0xFFFF08000204, 0x1000000, 5),  -- SEn_LCU_PITCH_LO
  (0xFFFF08000224, 0x1000000, 5),  -- SEn_SCU_CKLINE_LO
  (0xFFFF08000244, 0x1000000, 5),  -- SEn_EMU_ELINE_LO
  (0xFFFF08000250, 0x1000000, 5),  -- SEn_EMU_UFIRST_LO
  (0xFFFF08000258, 0x1000000, 5)  -- SEn_EMU_ULAST_LO
  ]

/-- The 64-bit registers of the remaining blocks. -/
def loRows2 : List (Nat × Nat × Nat) := [
  (0xFFFF08000264, 0x1000000, 5),  -- SEn_EMU_SKFIRST_LO
  (0xFFFF0800026C, 0x1000000, 5),  -- SEn_EMU_SKLAST_LO
  (0xFFFF08000294, 0x1000000, 5),  -- SEn_ICU_LOCKSCORE_LO
  (0xFFFF0800029C, 0x1000000, 5),  -- SEn_ICU_LINE_LO
  (0xFFFF10000108, 0x80, 4),  -- POSn_RATIO_LO
  (0xFFFF10000120, 0x80, 4),  -- POSn_POS_LO
  (0xFFFF10000128, 0x80, 4),  -- POSn_TRUST_LO
  (0xFFFF10000134, 0x80, 4),  -- POSn_SET_LO
  (0xFFFF10000158, 0x80, 4),  -- POSn_OFFSET_LO
  (0xFFFF10000164, 0x80, 4),  -- POSn_RATIO_ACT_LO
  (0xFFFF10000308, 0x40, 4),  -- TOFm_CAP_LO
  (0xFFFF10000800, 0x10, 32),  -- POS_MKLOGi_POS_LO
  (0xFFFF10001000, 0x20, 64),  -- POS_MKk_POS_LO
  (0xFFFF10001008, 0x20, 64),  -- POS_MKk_PER_LO
  (0xFFFF11000110, 0x40, 24),  -- UMK_PORTp_PEER_LO
  (0xFFFF11000138, 0x40, 24),  -- UMK_PORTp_PEERMAC_LO
  (0xFFFF12000034, 0x0, 1),  -- RNG_EBUF_LO
  (0xFFFF1200003C, 0x0, 1),  -- RNG_MTAB_LO
  (0xFFFF12000044, 0x0, 1),  -- RNG_SNAP_TIME_LO
  (0xFFFF12000400, 0x40, 8),  -- RNG_MBd_BASE_LO
  (0xFFFF12000418, 0x40, 8),  -- RNG_MBd_TX_LO
  (0xFFFF13000004, 0x100, 16),  -- ETHg_MAC_LO
  (0xFFFF18000014, 0x100, 8),  -- SPn_VTIME_LO
  (0xFFFF19000084, 0x1000, 4),  -- CPn_TBL_LO
  (0xFFFF19000090, 0x1000, 4),  -- CPn_FRING_LO
  (0xFFFF1900009C, 0x1000, 4),  -- CPn_SRING_LO
  (0xFFFF1A000040, 0x1000, 8),  -- TUn_TBL_LO
  (0xFFFF1A00004C, 0x1000, 8),  -- TUn_FRING_LO
  (0xFFFF27000004, 0x0, 1),  -- AON_RTC_SEC_LO
  (0xFFFF27000020, 0x0, 1)  -- AON_ALARM_LO
  ]

/-- The address names the low word of a 64-bit register (R12). -/
def isLow (a : Nat) : Bool :=
  (loRows1 ++ loRows2).any (fun r => r.1 ≤ a && (if r.2.1 = 0 then a == r.1 else (a - r.1) % r.2.1 == 0 && decide ((a - r.1) / r.2.1 < r.2.2)))

end Sys2Proof.Machine
end

