-- ==== Sys2Proof/Config.lean ====
section
/-! DEFINITION. What one device fixes and the values the manual leaves open. The opaque constants have no
body: no proof can rest on a value of theirs. -/

namespace Sys2Proof

/-- The three parts of R1. -/
inductive Variant
  | aly9120 | aly9114 | aly9107
  deriving DecidableEq, Repr

namespace Config

/-- A value the manual leaves open, drawn fresh at each use by the counter `State.freeCount`. DESIGN CHOICE (log 2). -/
opaque freeValue : Nat → BitVec 64

/-- RFC 8032 Ed25519 verification of a signature over a message under a key (R121, R623). The standard is not
    in the manual, so the predicate stays uninterpreted. DESIGN CHOICE (log 21). -/
opaque ed25519 (key msg sig : List Byte) : Bool

/-- The first 32 bytes of SHA-512 of a message (R121, R123), uninterpreted for the same reason. DESIGN CHOICE (log 21). -/
opaque sha512Head (msg : List Byte) : BitVec 256

/-- The row group of a within-stack page (R171): pages that share a DRAM row. The manual does not give the mapping. -/
opaque rowGroup (stack page : Nat) : Nat

end Config
end Sys2Proof
end

