-- ==== Sys2Proof/Machine/Store.lean ====
section
/-! DEFINITION. Sparse stores. A store is a list of keys and values with strictly rising keys, in which no
entry holds the value an unlisted key reads as; so two equal stores are equal data. Registers, memories,
granule tags and the units of the block are all held this way. -/

namespace Sys2Proof

/-- Entries by key, keys strictly rising. -/
abbrev SMap (β : Type) := List (Nat × β)

namespace Machine

/-- The entry of key `k`, if the store lists one. -/
def sfind {β : Type} (k : Nat) : SMap β → Option β
  | [] => none
  | (a, v) :: m => if a = k then some v else sfind k m

/-- What key `k` reads as, where an unlisted key reads as `d`. DESIGN CHOICE (log 7). -/
def sget {β : Type} (d : β) (m : SMap β) (k : Nat) : β :=
  match sfind k m with
  | some v => v
  | none => d

/-- List the entry `(k, v)` in key order, in place of an entry of the same key. -/
def sput {β : Type} (k : Nat) (v : β) : SMap β → SMap β
  | [] => [(k, v)]
  | (a, w) :: m =>
    if k < a then (k, v) :: (a, w) :: m
    else if k = a then (k, v) :: m
    else (a, w) :: sput k v m

/-- Drop every entry of key `k`. -/
def sdel {β : Type} (k : Nat) : SMap β → SMap β
  | [] => []
  | (a, w) :: m => if a = k then sdel k m else (a, w) :: sdel k m

/-- Make key `k` read as `v`, where an unlisted key reads as `d`. -/
def sset {β : Type} [DecidableEq β] (d : β) (m : SMap β) (k : Nat) (v : β) : SMap β :=
  if v = d then sdel k m else sput k v m

/-- Change what key `k` reads as. -/
def smod {β : Type} [DecidableEq β] (d : β) (m : SMap β) (k : Nat) (f : β → β) : SMap β :=
  sset d m k (f (sget d m k))

/-- The keys of a store rise strictly above `lo`. -/
def rising {β : Type} : Nat → SMap β → Bool
  | _, [] => true
  | lo, (a, _) :: m => decide (lo ≤ a) && rising (a + 1) m

/-- The canonical form: keys rise strictly, and no entry equals what its key reads as when unlisted. -/
def swf {β : Type} [DecidableEq β] (dflt : Nat → β) (m : SMap β) : Bool :=
  rising 0 m && m.all (fun e => decide (e.2 ≠ dflt e.1))

end Machine
end Sys2Proof
end

