-- ==== Sys2Proof/Machine/State.lean ====
section
/-! DEFINITION. The state of the block as plain data: the control-space registers by address, the programmable
cores, the memories, the hosts, the fault collector and every unit's own state; and the queue of commands. -/

namespace Sys2Proof.Machine

/-- No command of this block ends in a fault: errors are bus errors, traps, error completions or fault-source
    events, and each of those is a next state. -/
inductive Fault
  deriving DecidableEq, Repr

/-- Refusals. -/
inductive Refusal
  /-- The command of this mnemonic has no meaning yet. Raised by the dispatch only; safe. -/
  | notModelled (mnemonic : String)
  deriving DecidableEq, Repr

/-! ### Zufer (R38 to R74) -/

/-- The modes T, H and M (R42). -/
inductive Mode
  | t | h | m
  deriving DecidableEq, Repr

/-- The seat states of R46. -/
inductive SeatSt
  | off | idle | run | wait | halt
  deriving DecidableEq, Repr

/-- The access kinds of TSTATE.KIND (R67). -/
inductive Kind
  | load | store | atomic | fetch | stageRead | stageEmit
  deriving DecidableEq, Repr

/-- The register results an access delivers when it returns. -/
inductive Result
  | none
  | x (rd : Nat) (val : W64)
  | v (vd : Nat) (val : VReg)
  | w (wd : Nat) (val : Desc)
  deriving DecidableEq, Repr

/-- A memory or control-space access whose result the seat waits for (R47, R59, R144). UNVERIFIED (log 85). -/
structure Flight where
  result : Result
  /-- what pc advances by when the result is delivered -/
  len : Nat
  /-- the granules the access touched and the tag it used -/
  tags : List (Nat × BitVec 14)
  /-- the pages of device memory the access read -/
  pages : List Nat
  win : Nat
  off : W64
  kind : Kind
  size : Nat
  /-- made in T mode: the seat's regulator returns it -/
  tmode : Bool
  deriving DecidableEq, Repr

/-- The fences of R62. -/
inductive FenceKind
  | rw | r | w | io | stg | i
  deriving DecidableEq, Repr

/-- A STG.L that has passed its checks and waits for acceptance (R108, R109). -/
structure StgReq where
  rd : Nat
  unit : Nat
  notify : Bool
  count : Nat
  desc : List Byte
  slots : List Desc
  deriving DecidableEq, Repr

/-- What a seat in WAIT waits for (R46). -/
inductive Wait
  | none
  | access (a : Flight)
  | fence (k : FenceKind)
  | stg (r : StgReq)
  | wpos (rd : Nat) (target : W64) (web : Nat)
  | ktset (granule : Nat) (tag : BitVec 14)
  deriving DecidableEq, Repr

/-- An access performed for its seat and not yet returned: a store, or one to control space, or made in T (R62, R144). -/
structure Outst where
  store : Bool
  io : Bool
  tmode : Bool
  deriving DecidableEq, Repr

/-- One seat, or the plant thread (R40, R46, R67). UNVERIFIED (log 85). -/
structure Seat where
  st : SeatSt
  mode : Mode
  pc : Pc
  x : SMap W64
  v : SMap VReg
  p : SMap PReg
  /-- w0 to w11 at 0 to 11; the banks of w12 to w15 at 12 to 15 (T), 16 to 19 (H) and 20 to 23 (M) -/
  w : SMap Desc
  cw : SMap Desc
  /-- seat control registers by number -/
  scr : SMap W64
  /-- SLOTS as counted in T mode only -/
  slotsT : W64
  /-- tenant slots used since QUANTUM was last entered -/
  quantumUsed : W64
  wait : Wait
  outst : List Outst
  /-- pending asynchronous events other than doorbells and notifications: cause and TVAL -/
  events : SMap (Option W64)
  /-- pending FAULT_NOTIFY source numbers and SEAM positions, oldest first -/
  faultQ : List W64
  seamQ : List W64
  /-- STG_NOTIFY values, oldest first (R112) -/
  notifyQ : List W64
  stgSeq : W32
  stgOut : Nat
  /-- YIELD or the plant SEATSTOP holds issue -/
  yielded : Bool
  /-- a STOP command waits for the instruction boundary (R136) -/
  stopReq : Option (Nat × BitVec 11)
  /-- TID of the previous entry to T (R140) -/
  lastTid : Option (BitVec 16)
  /-- a TCMP value that has not yet raised TIMER (R656) -/
  timerArmed : Bool
  deriving DecidableEq, Repr

/-- A seat as it leaves OFF: every register 0. DESIGN CHOICE (log 5). -/
def Seat.init : Seat :=
  { st := .off, mode := .h, pc := 0, x := [], v := [], p := [], w := [], cw := [], scr := [], slotsT := 0,
    quantumUsed := 0, wait := .none, outst := [], events := [], faultQ := [], seamQ := [], notifyQ := [],
    stgSeq := 0, stgOut := 0, yielded := false, stopReq := none, lastTid := none, timerArmed := false }

/-- The tenant share a core's current issue frame was dealt by (R49, R53). DEDUCED (log 17). -/
structure Core where
  share : Nat
  deriving DecidableEq, Repr

/-! ### Memory and fabric (R148 to R179) -/

/-- What the controllers know of a page of device memory beyond its bytes (R165 to R171). -/
structure Page where
  poisoned : Bool
  /-- cells written since the poisoning, one bit per 64-byte cell -/
  cells : BitVec 32
  retired : Bool
  /-- strength code of the page's header, when it differs from the granule's base strength -/
  strength : Option (BitVec 2)
  deriving DecidableEq, Repr

/-- A page lock, a lease of 50 us (R162). -/
structure PageLock where
  holder : Nat
  waiting : List Nat
  /-- holders whose lease has ended: their later writes are refused -/
  ended : List Nat
  deriving DecidableEq, Repr

/-- An output link of a router (R149, R151). -/
structure FabLink where
  down : Bool
  /-- consecutive failures of the cell in front -/
  fails : Nat
  retries : Nat
  deriving DecidableEq, Repr

/-- The fabric and the channels. UNVERIFIED (log 85). -/
structure Fabric where
  links : SMap FabLink
  /-- fenced islands whose owning procedure has reset them since (R161) -/
  resetDone : SMap Bool
  /-- page locks by page -/
  locks : SMap (Option PageLock)
  /-- messages delivered on each flow: class, source and destination router (R156) -/
  flows : SMap Nat
  /-- links and virtual channels of the last message, in order (R150) -/
  route : List (Nat × Nat)
  /-- words received on the channel from island `n` to island `f`, at `32 n + f`, oldest first (R17, R18) -/
  channels : SMap (List W64)
  /-- posted words each near island has discarded (R19) -/
  discards : SMap Nat
  deriving DecidableEq, Repr

/-- One memory stack: its scrubber, its row groups and its recent uncorrectable pages (R168, R171, R176). -/
structure Stack where
  scrubPos : Nat
  /-- ring time at which the lap began -/
  lapStart : W64
  /-- retired pages of a row group -/
  rowGroups : SMap Nat
  /-- ring times of uncorrectable pages within the last second -/
  recentUe : List W64
  deriving DecidableEq, Repr

/-! ### Hosts and owner record (R115 to R147) -/

/-- One domain entry of the owner record (R119). -/
structure Domain where
  role : Nat
  owner : Bool
  fnotify : Bool
  ports : BitVec 24
  blocks : BitVec 64
  mem : List (Nat × Nat)
  tidFirst : Nat
  tidCount : Nat
  membw : Nat
  fabbw : Nat
  tlat : Nat
  entryBase : BitVec 48
  entryLen : BitVec 40
  entryKtag : BitVec 14
  deriving DecidableEq, Repr

/-- The owner record in force, decoded (R118). -/
structure OwnerRec where
  version : W32
  rollback : Nat
  key : List Byte
  domains : List Domain
  seatmap : List Byte
  tmax : List Nat
  deriving DecidableEq, Repr

/-- A host domain's queue sequence and its pending doorbells by number, with the seat each is pending for. -/
structure HostDom where
  /-- SEQ of the last notification record -/
  seq : W32
  doorbells : SMap (Option Nat)
  deriving DecidableEq, Repr

/-- A verified record waiting for its five steps (R128), or a request in verification (R127). -/
structure Install where
  record : OwnerRec
  deriving DecidableEq, Repr

/-- A fuse burn in progress (R123): the key hash to burn, or the rollback count. -/
inductive Burn
  | none
  | key (hash : BitVec 256)
  | rollback (count : Nat)
  deriving DecidableEq, Repr

/-- A throttle grace running on a group's cores (R147, R577). -/
structure Throttle where
  cores : BitVec 60
  target : Nat
  enforced : Bool
  deriving DecidableEq, Repr

/-! ### Fault collector (R544 to R563) -/

/-- The stages of a source's grace timer (R550): stopped, in the U grace, in the F grace, or past both. -/
inductive Grace
  | idle | u | f | done
  deriving DecidableEq, Repr

/-- A source's grace timer and the class its live line carries. -/
structure FcSource where
  grace : Grace
  /-- class of the event that made the live line active: 0 C, 1 U, 2 F -/
  cls : Nat
  /-- the live line cleared and the 10 ms of R551 run -/
  clearing : Bool
  deriving DecidableEq, Repr

/-- One piece of stage work a unit has accepted: the copies R109 makes, and how far it has come. -/
structure Work where
  seat : Nat
  seq : W32
  notify : Bool
  count : Nat
  desc : List Byte
  slots : List Desc
  /-- the unit has begun it and passed its checks -/
  started : Bool
  /-- lines or items completed -/
  done : Nat
  deriving DecidableEq, Repr

/-! ### Umrak link and ring (R325 to R400) -/

/-- A frame waiting for its first transmission; `fwd` when it is being forwarded for another ring device (R381). -/
structure QFrame where
  f : Frame
  fwd : Bool
  deriving DecidableEq, Repr

/-- One class of one link, both directions (R342 to R349). -/
structure LinkClass where
  /-- number of the next frame to transmit, and of the next to accept -/
  txSeq : W32
  expect : W32
  queue : List QFrame
  /-- transmitted and not acknowledged, oldest first -/
  replay : List (W32 × Frame)
  /-- of those, the ones to retransmit -/
  resend : List (W32 × Frame)
  credits : Nat
  /-- the peer's last cumulative report -/
  lastReport : Nat
  freed : Nat
  reported : Nat
  /-- frames accepted since the last ACK -/
  unacked : Nat
  /-- a NAK has been sent since the last accepted frame -/
  nakSent : Bool
  deriving DecidableEq, Repr

/-- A link: one of 24 ports, or the drop-stream link of a lane. -/
structure Link where
  classes : SMap LinkClass
  helloRx : Bool
  readyRx : Bool
  readyTx : Bool
  peerCredits : List Nat
  peerExpects : List W32
  peerUid : W64
  /-- identity of the peer of the last UP, while that UP may still be resumed (R334) -/
  resumable : Option W64
  want : BitVec 8
  peerWant : BitVec 8
  mask : BitVec 8
  /-- frame starts since one of REQ or BLK (R344) -/
  starve : Nat
  /-- LASTFIRE and LASTDATA, and the segments accepted per line above it (R359) -/
  lastFire : Option Nat
  lastData : Option Nat
  segs : List (Nat × Nat)
  deriving DecidableEq, Repr

/-- What a ring port knows of its peer (R378, R386). -/
structure RingPort where
  peerUid : W64
  peerRoot : Bool
  /-- the last 16 values of (T4 − T1) − (T3 − T2), ns -/
  delays : List Int
  /-- HOPS of the last valid TSYNC -/
  hops : Option Nat
  /-- consecutive TSYNC frames that showed fewer HOPS than the root port -/
  better : Nat
  deriving DecidableEq, Repr

/-- A candidate for keeper (R375). -/
structure Candidate where
  admitted : Bool
  kprio : Nat
  uid : W64
  deriving DecidableEq, Repr

/-- A mailbox message being reassembled (R397). -/
structure MailIn where
  snode : Nat
  sdom : Nat
  ddom : Nat
  msgid : W32
  nseg : Nat
  mlen : Nat
  parts : List (Nat × List Byte)
  deriving DecidableEq, Repr

/-- The ring layer beyond its registers (R369 to R400). UNVERIFIED (log 85). -/
structure Ring where
  bseq : W32
  /-- BSEQ of the last broadcast accepted from a node, and the UID heard for it -/
  lastB : SMap W32
  uids : SMap W64
  /-- route table: node to port + 1 -/
  routes : SMap Nat
  ports : SMap RingPort
  best : Option Candidate
  keeper : Option Candidate
  /-- TSYNC frames accepted since the hold began, since joining, and within R388 in a row -/
  holdSync : Nat
  joinSync : Nat
  timeSync : Nat
  /-- ring time at which HOLD began -/
  holdSince : W64
  timeBad : Bool
  holdover : Bool
  joined : Bool
  /-- the keeper's EPOCH and COMPAT -/
  kEpoch : W32
  kCompat : Nat
  syncSeq : W32
  /-- the offset still to be slewed, 1/65,536 ns (R387) -/
  slew : Int
  distributing : Bool
  /-- received ranges of the pending epoch as first and end offsets, its TOTAL, and the CRC of its commit -/
  pendRanges : List (Nat × Nat)
  pendTotal : Nat
  pendCrc : Option W32
  /-- bytes of the epoch in force -/
  total : Nat
  apply : Option W64
  /-- members' PEND, HAVE and admission as their last HEARTBEATs show them -/
  members : SMap (W32 × Bool × Bool)
  /-- ring time of the last ANNOUNCE or HEARTBEAT of a node (R384) -/
  heard : SMap (Option W64)
  /-- BSEQ of the ANNOUNCE a route was learnt from (R380) -/
  routeSeq : SMap W32
  snapId : W32
  /-- STIME of the ring snapshots taken on, oldest first -/
  snaps : List W64
  /-- matched ring marks that wait for their time: filter, position, source node and due time -/
  rmarks : List (Nat × W64 × Nat × W64)
  mail : List MailIn
  msgId : W32
  /-- SEQ of the last record of each mailbox ring (R397) -/
  mbSeq : SMap W32
  deriving DecidableEq, Repr

/-! ### Web position (R181 to R205) -/

/-- A web beyond its registers: accumulators in u48.32, times in 1/256 ns. -/
structure Web where
  acc : BitVec 80
  trusted : BitVec 80
  bcast : BitVec 80
  tBase : W64
  tReal : Option W64
  nsyn : Nat
  /-- consecutive edges towards RUN, and towards SLOW (R186) -/
  runc : Nat
  slowc : Nat
  levels : Bool × Bool
  lastChange : Option W64
  /-- an index revolution runs; its net count; LOST or IDLE fell in it (R657) -/
  revOn : Bool
  revNet : Int
  revBad : Bool
  /-- the last RING sample: position, P, state, ring time (R203) -/
  sample : Option (W64 × W32 × Nat × W64)
  deriving DecidableEq, Repr

/-- A web at reset. -/
def Web.init : Web :=
  { acc := 0, trusted := 0, bcast := 0, tBase := 0, tReal := none, nsyn := 0, runc := 0, slowc := 0,
    levels := (false, false), lastChange := none, revOn := false, revNet := 0, revBad := false, sample := none }

/-- A top-of-form input: captures oldest first, the last captured position, the last counted change (R196). -/
structure Tof where
  fifo : List (W64 × W32)
  last : Option W64
  lastChange : Option W64
  deriving DecidableEq, Repr

/-- The position unit. -/
structure PosUnit where
  webs : SMap Web
  tofs : SMap Tof
  /-- pending position of a top-of-form mark (R199); LATE noted at arming or SET (R197) -/
  markPos : SMap W64
  markLate : SMap Bool
  /-- tags the next broadcast carries for a web besides those of its marks (R395) -/
  nextTags : SMap (List (BitVec 8))
  /-- tags of the last broadcast of each web -/
  tags : SMap (List (BitVec 8))
  /-- broadcasts of the last 2 µs and the one before them, oldest first: time in 1/256 ns and the position of each web -/
  recent : List (W64 × List Nat)
  deriving DecidableEq, Repr

/-! ### Stage units (R206 to R263) -/

/-- The decision in force for a pitch (R215 to R221): bitmaps over the layers. -/
structure Decision where
  pitch : Nat
  used : Nat
  late : Nat
  err : Nat
  flags : Nat
  /-- layers dropped in mid-pitch (R221) -/
  dropped : Nat
  deriving DecidableEq, Repr

/-- An LCU: its decision, and the layers read ready for the pitch it waits for. -/
structure LcuRun where
  decision : Option Decision
  readyFor : Nat
  ready : Nat
  /-- print lines a shadow run skips, as ranges (R309) -/
  skips : List (Nat × Nat)
  deriving DecidableEq, Repr

/-- An EMU's work in progress (R252 to R257). -/
structure EmuRun where
  desc : List Byte
  slots : List Desc
  seat : Nat
  /-- lines of the work; none for a takeover, which runs until cancelled (R317) -/
  count : Option Nat
  eline0 : Nat
  depth : Nat
  /-- next line whose data is due, and NEXT_b of each board (R254) -/
  due : Nat
  next : List Nat
  halted : Bool
  /-- lines below it are sent with RESEND (R254) -/
  resendBelow : Nat
  /-- of a takeover: the first line whose data each board lacks (R317) -/
  boardData : List Nat
  /-- of a takeover: the web's broadcast position when it began (R317) -/
  tookAt : Option Nat
  deriving DecidableEq, Repr

/-- A camera stream of an ICU work (R267 to R270). -/
structure IcuStream where
  /-- steps from BID0 to the last accepted block; −1 before the first -/
  last : Int
  /-- rows below `row` of block `block` (in steps from BID0) are decided -/
  block : Int
  row : Nat
  /-- a block is open and accepted -/
  isOpen : Bool
  /-- last packet ID of the block, and the size of its payload packets -/
  lastPid : Nat
  psize : Option Nat
  /-- bytes of the current row so far; a byte of it is missing -/
  part : List Byte
  bad : Bool
  /-- STALE's condition holds (R289) -/
  stale : Bool
  deriving DecidableEq, Repr

/-- A line-lock search (R273). -/
structure LockRun where
  left : Nat
  range : Nat
  scores : List Nat
  deriving DecidableEq, Repr

/-- An ICU's work in progress (R266 to R288). -/
structure IcuRun where
  streams : List IcuStream
  /-- complete rows waiting: stream, line and bytes -/
  rows : List (Nat × Nat × List Byte)
  adj : Int
  /-- rows of lines below it are discarded (R271) -/
  floor : Nat
  lock : Option LockRun
  /-- window whose bank waits for its evaluation -/
  due : Option Nat
  evaluating : Bool
  cancel : Bool
  /-- blanked or skipped emitter lines, first and last, oldest first (R275) -/
  ranges : List (Nat × Nat)
  discardTo : Nat
  deriving DecidableEq, Repr

/-- An ICU with no work. -/
def IcuRun.init : IcuRun :=
  { streams := [], rows := [], adj := 0, floor := 0, lock := none, due := none, evaluating := false, cancel := false,
    ranges := [], discardTo := 0 }

/-- A swath engine's stage units. -/
structure EngineRun where
  lcu : LcuRun
  icu : IcuRun
  /-- DEPTH_ACT of the NMU work in progress -/
  nmuDepth : Nat
  emu : Option EmuRun
  /-- web and ADV of the last EMU work (R256) -/
  emuLast : Option (Nat × Nat)
  /-- lines of the underrun episode in progress; its U event is live (R255) -/
  episode : Option Nat
  uLive : Bool
  /-- lines LOST_FIRST to LOST_LAST of a takeover (R320) -/
  lost : Option (Nat × Nat)
  /-- the live line of the last failed checkpoint is active (R241, R263) -/
  ckLive : Bool
  deriving DecidableEq, Repr

/-- An engine whose units are idle. -/
def EngineRun.init : EngineRun :=
  { lcu := { decision := none, readyFor := 0, ready := 0, skips := [] }, icu := IcuRun.init, nmuDepth := 0, emu := none, emuLast := none,
    episode := none, uLive := false, lost := none, ckLive := false }

/-! ### Sparing (R305 to R320) -/

/-- The standby copy of a takeover record and of the EMU descriptor it names (R315). -/
structure Standby where
  ring : Desc
  rcb : Desc
  desc : List Byte
  deriving DecidableEq, Repr

/-- The spare controller beyond its registers. -/
structure Spare where
  /-- ring time of each engine's last hand-off -/
  lastHand : SMap W64
  /-- a rotation is due and deferred, or not yet started -/
  want : Bool
  /-- the last shadow run timed out: the rotation becomes due again (R310) -/
  retry : Bool
  /-- the shadowing engine, and that its run repeats one that mismatched (R312) -/
  shadow : Nat
  again : Bool
  /-- the engine in BIST because its shadow run mismatched -/
  retest : Option Nat
  /-- H of a hand-off under way (R311) -/
  handoff : Option Nat
  /-- a failed engine and its swath that wait for an engine to become RECOVER -/
  waiting : Option (Nat × Nat)
  /-- of the engine in RECOVER: W0 -/
  w0 : Nat
  standby : SMap (Option Standby)
  deriving DecidableEq, Repr

/-! ### Staging (R291 to R303) -/

/-- The staging sets of a domain: changes by register address. -/
structure StgDom where
  openSet : SMap W32
  armed : SMap W32
  /-- an armed set exists; its load list's entries once loaded -/
  armedOn : Bool
  list : List (Nat × W32)
  /-- the seam has fired and waits for loading; LATE of R197 -/
  fired : Bool
  late : Bool
  deriving DecidableEq, Repr

/-- A domain with empty sets. -/
def StgDom.init : StgDom := { openSet := [], armed := [], armedOn := false, list := [], fired := false, late := false }

/-! ### Plant island (R442 to R543) -/

/-- A loop engine beyond its registers (R474 to R486). -/
structure LeRun where
  q : Nat
  up : Nat
  dn : Nat
  iacc : Int
  x1 : Int
  x2 : Int
  y1 : Int
  y2 : Int
  /-- the next fresh evaluation initialises the states, and the model (R476, R478) -/
  initDue : Bool
  modelDue : Bool
  macc : Int
  mis : Nat
  ok : Nat
  /-- levels published by the last 256 fresh evaluations, newest first -/
  hist : List Nat
  /-- an arrival has come since the previous evaluation started; the latest value -/
  arrived : Bool
  latest : Int
  /-- consecutive missed evaluations -/
  missRun : Nat
  /-- an override has held since the law last ran (R475) -/
  forced : Bool
  /-- a level waits for its PHASE point (R482) -/
  due : Bool
  /-- injection: fresh evaluations since TSTART, the PRBS register, the signal and its sign (R485) -/
  tevals : Nat
  prbs : Nat
  sig : Int
  tpos : Bool
  lastE : Int
  /-- ring time of the last fresh evaluation (R517) -/
  freshAt : Option W64
  deriving DecidableEq, Repr

/-- A loop engine with its state cleared (R487). -/
def LeRun.init : LeRun :=
  { q := 0, up := 0, dn := 0, iacc := 0, x1 := 0, x2 := 0, y1 := 0, y2 := 0, initDue := true, modelDue := false, macc := 0,
    mis := 0, ok := 0, hist := [], arrived := false, latest := 0, missRun := 0, forced := false, due := false, tevals := 0,
    prbs := 0x7FF, sig := 0, tpos := false, lastE := 0, freshAt := none }

/-- A movement detection in progress (R496). -/
structure Detection where
  /-- samples since the first with A not 0 -/
  n : Nat
  runMax : Option Int
  dip : Bool
  runMin : Int
  minAt : Nat
  deriving DecidableEq, Repr

/-- A solenoid channel beyond its registers (R493 to R501). -/
structure VRun where
  q : Nat
  up : Nat
  dn : Nat
  iacc : Int
  /-- samples the gate has held its state -/
  held : Nat
  phase : Nat
  /-- A of the previous sample -/
  a : Nat
  /-- duty buckets before the current one, newest first, the current one, and samples in it -/
  buckets : List Nat
  bucket : Nat
  inBucket : Nat
  /-- the last eight sense results, newest first -/
  last8 : List Int
  det : Option Detection
  /-- the thermal unit that holds a closing request -/
  request : Option Nat
  th : Int
  msSum : Int
  msN : Nat
  /-- absolute current at the event whose live line this channel holds: over-current, and limit -/
  tripAt : Option Nat
  limAt : Option Nat
  deriving DecidableEq, Repr

/-- A solenoid channel at reset. -/
def VRun.init : VRun :=
  { q := 0, up := 0, dn := 0, iacc := 0, held := 0, phase := 0, a := 0, buckets := [], bucket := 0, inBucket := 0,
    last8 := [], det := none, request := none, th := 0, msSum := 0, msN := 0, tripAt := none, limAt := none }

/-- The ADC sequence (R507 to R513). -/
structure AdcRun where
  /-- CFG and TIM of the entry in progress -/
  cur : Option (W32 × W32)
  lapStart : W64
  /-- a CAL waits for the end of the entry, or of an import (R512, R593, R598) -/
  calWait : Bool
  /-- ring time of each entry's last arrival -/
  arrivals : SMap (Option W64)
  deriving DecidableEq, Repr

/-- A fan beyond its registers (R514 to R518). -/
structure FanRun where
  /-- ramped target, 1/100 RPM, and the integral in 1/65,536 of duty -/
  tr : Int
  integ : Int
  /-- the last edge intervals in ns, newest first, and the last counted edge -/
  intervals : List Nat
  lastEdge : Option W64
  /-- updates for which the stall condition has held -/
  low : Nat
  deriving DecidableEq, Repr

/-- A fan at reset. -/
def FanRun.init : FanRun := { tr := 0, integ := 0, intervals := [], lastEdge := none, low := 0 }

/-- A master transfer in progress (R528 to R530). -/
structure SpiXfer where
  tx : Nat
  rx : Nat
  len : Nat
  sel : Nat
  wlen : Nat
  retries : Nat
  /-- the port waits RWAIT before the next repeat -/
  waiting : Bool
  deriving DecidableEq, Repr

/-- An SPI port beyond its registers (R528 to R540). -/
structure SpiRun where
  xfer : Option SpiXfer
  /-- a GO held while a castle is pending (R541) -/
  goHeld : Bool
  reply : Option (List Byte)
  /-- this end requests a swap; the other end pulls CREQ -/
  castleReq : Bool
  peerPull : Bool
  /-- prefetch lines by flash address / 32, newest use first -/
  lines : List (Nat × List Byte)
  /-- the flash is in continuous read -/
  cont : Bool
  deriving DecidableEq, Repr

/-- An SPI port at reset. -/
def SpiRun.init : SpiRun :=
  { xfer := none, goHeld := false, reply := none, castleReq := false, peerPull := false, lines := [], cont := false }

/-- A building-bus port's master-node state machine beyond BBn_STATUS (R462). -/
structure BbRun where
  /-- the station polled last -/
  ps : Nat
  tokenCount : Nat
  frameCount : Nat
  retry : Nat
  /-- who waits for this port's answer -/
  asker : Option Nat
  deriving DecidableEq, Repr

/-- A building-bus port at reset. -/
def BbRun.init : BbRun := { ps := 0, tokenCount := 0, frameCount := 0, retry := 0, asker := none }

/-- The plant island beyond its units (R442 to R460). -/
structure Plant where
  /-- LOAD, LENGTH and ENTRY of the MACHINE image in force -/
  machine : Option (Nat × Nat × Nat)
  /-- the minimum time of SOk has passed since its last change (R446) -/
  soDone : SMap Bool
  /-- consecutive samples of PRESn at the level that is not its debounced state -/
  presCount : SMap Nat
  /-- the zone's effective mode when it last wrote (R457), and that it holds its occupancy (R456) -/
  zoneMode : SMap (Option Nat)
  zoneHold : SMap Bool
  /-- last local minute evaluated (R455), in minutes since the epoch -/
  lastMin : Option Int
  /-- the alarm has not fired since it was written (R452) -/
  alarmArmed : Bool
  les : SMap LeRun
  /-- evaluations of the capture engine since its last sample (R486) -/
  capSkip : Nat
  vs : SMap VRun
  adc : AdcRun
  fans : SMap FanRun
  spis : SMap SpiRun
  bbs : SMap BbRun
  deriving DecidableEq, Repr

/-- The plant island at reset. -/
def Plant.init : Plant :=
  { machine := none, soDone := [], presCount := [], zoneMode := [], zoneHold := [], lastMin := none, alarmArmed := false,
    les := [], capSkip := 0, vs := [],
    adc := { cur := none, lapStart := 0, calWait := false, arrivals := [] },
    fans := [], spis := [], bbs := [] }

/-! ### Sensing island (R401 to R441) -/

/-- A frame of a sensor port (R426 to R428). -/
structure SensorFrame where
  number : W32
  time : W64
  rows : List (List (BitVec 16))
  broken : Bool
  /-- the unit it goes to: TUn at n, CPn at 16 + n -/
  unit : Option Nat
  /-- the unit's parameter registers and its state as they stood at the VSYNC start (R404, R429) -/
  params : SMap W32
  st : Nat
  deriving DecidableEq, Repr

/-- The model of one pixel (R406). -/
structure TuPixel where
  ofs : Nat
  gain : Nat
  a1 : Int
  a2 : Int
  bad : Bool
  autobad : Bool
  deriving DecidableEq, Repr

/-- A thermal unit's coefficient store (R406, R408). -/
structure TuTable where
  width : Nat
  height : Nat
  tc : Int
  tref : Int
  calib : Bool
  rt : List Nat
  px : List TuPixel
  deriving DecidableEq, Repr

/-- The averaging sums of a calibration (R418). -/
structure TuSums where
  frames : Nat
  excluded : Nat
  /-- NAVGL as averaging began -/
  navgl : Nat
  sum : List Nat
  tsum : Int
  tsh : Nat
  deriving DecidableEq, Repr

/-- A pending calibration result (R418). -/
structure TuPending where
  ofs : List Nat
  bad : List Bool
  tref : Int
  tsh : Nat
  deriving DecidableEq, Repr

/-- A thermal unit beyond its registers (R403 to R419). -/
structure TuRun where
  table : Option TuTable
  /-- a shutter calibration has been applied since the load -/
  done : Bool
  /-- LOAD and SAVE in progress -/
  loading : Bool
  saving : Bool
  dwell : Nat
  /-- CAL was written; the first frame after a LOAD or an enable is due (R416) -/
  calReq : Bool
  firstDue : Bool
  count : Nat
  sums : Option TuSums
  pending : Option TuPending
  /-- the pending result applies at the next VSYNC start -/
  applyDue : Bool
  /-- in-state frame counts of the presence zones: consecutive frames towards a change -/
  pz : SMap Nat
  /-- a closing request under way to the shutter channel, and the result it returned: none, NO_MOVE or t_move -/
  closing : Option Nat
  result : Option (Option Nat)
  /-- pages of 32 entries of the coefficient store that are uncorrectable until they are rewritten (R408) -/
  storeBad : List Nat
  deriving DecidableEq, Repr

/-- A thermal unit at reset. -/
def TuRun.init : TuRun :=
  { table := none, done := false, loading := false, saving := false, dwell := 0, calReq := false, firstDue := false, count := 0,
    sums := none, pending := none, applyDue := false, pz := [], closing := none, result := none, storeBad := [] }

/-- A table bank of a colour pipeline (R433). -/
structure CpTable where
  grid : List Nat
  curves : List (List Nat)
  deriving DecidableEq, Repr

/-- A colour pipeline's banks: the one in force, the loaded one that swaps at the next VSYNC start (R434). -/
structure CpRun where
  bank : Option CpTable
  next : Option CpTable
  loading : Bool
  deriving DecidableEq, Repr

/-- A colour pipeline at reset. -/
def CpRun.init : CpRun := { bank := none, next := none, loading := false }

/-- The sensing island: open frames of the ports, frames closed and waiting for their unit, and the units. -/
structure Sensing where
  opened : SMap (Option SensorFrame)
  /-- frames handed to unit `u`, oldest first -/
  inbox : SMap (List SensorFrame)
  /-- the unit bound to each port (R402) -/
  bound : SMap (Option Nat)
  tus : SMap TuRun
  cps : SMap CpRun
  deriving DecidableEq, Repr

/-! ### Temperature, supply and clocks (R569 to R588) -/

/-- A temperature group (R571 to R574). -/
structure TmpGroup where
  /-- history entries, newest first: G and ring time -/
  hist : List (Int × W64)
  last : Option (Int × W64)
  slope : Int
  calm : Nat
  hot : Nat
  cool : Nat
  deriving DecidableEq, Repr

/-- A group that has sampled nothing. -/
def TmpGroup.init : TmpGroup := { hist := [], last := none, slope := 0, calm := 0, hot := 0, cool := 0 }

/-- The monitors beyond the TMP registers. -/
structure Tmp where
  groups : SMap TmpGroup
  /-- consecutive samples of a sensor towards setting or clearing FAIL -/
  far : SMap Nat
  near : SMap Nat
  /-- ring time of the last CAP change of a core; its next change waits for 100 ms to pass (R578) -/
  capAt : SMap (Option W64)
  capDue : SMap Bool
  /-- group `g` enforces on core `12 e + c`, at `60 g + 12 e + c` -/
  enforced : SMap Bool
  /-- sixteenths of the nominal period an island's clock is above nominal (R581) -/
  stretch : SMap Nat
  /-- an island's generator is off frequency (R586); the non-plant generators have stopped (R585) -/
  offFreq : SMap Bool
  stopped : Bool
  /-- a fixed trip has occurred since RUN was last entered (R576, R626) -/
  tripped : Bool
  deriving DecidableEq, Repr

/-- The monitors at reset. -/
def Tmp.init : Tmp :=
  { groups := [], far := [], near := [], capAt := [], capDue := [], enforced := [], stretch := [], offFreq := [],
    stopped := false, tripped := false }

/-! ### Calibration, test access port, power (R591 to R633) -/

/-- A CAL command in progress (R596 to R598): the domain that wrote it when it is checked, and the result it will end with. -/
structure CalRun where
  isImport : Bool
  dom : Option Nat
  deriving DecidableEq, Repr

/-- The debug access command in progress and the captured result (R611). -/
structure Dbg where
  addr : BitVec 48
  data : W32
  status : Nat
  /-- the result of the command in progress -/
  pend : Option (W32 × Nat)
  deriving DecidableEq, Repr

/-- The power states beyond SYS_PWR_STATUS.MODE. -/
inductive Power
  /-- VAON is below its range -/
  | dead
  /-- HIBERNATE: only AON is powered -/
  | hibernate
  /-- held in reset or waiting for supply good -/
  | reset
  | on
  deriving DecidableEq, Repr

/-- What has left the block on its lanes and lines, oldest first: the model's own record of its outputs. -/
inductive Out
  /-- a sequenced frame with its number, RETX and credit return -/
  | frame (link : Nat) (seq : W32) (retx : Bool) (crcls crcount : Nat) (f : Frame)
  /-- CRED 0, ACK 1 or NAK 2 -/
  | control (link ftype cls : Nat) (seq : W32) (crcls crcount : Nat)
  | train (link : Nat) (t : Train)
  | marker (lane : Nat) (m : Marker)
  /-- an ARP reply of a lane group: its own address, and the requester's (R363) -/
  | arp (group : Nat) (ip : W32) (mac : BitVec 48) (toIp : W32) (toMac : BitVec 48)
  | irq (n : Nat)
  /-- a building-bus frame with its type, destination, source and data (R461) -/
  | busFrame (port ftype da sa : Nat) (data : List Byte)
  /-- bytes shifted out on an SPI port's data line, and its select (R527) -/
  | spi (port sel : Nat) (data : List Byte)
  /-- the value Capture-DR or a read of the host's returned -/
  | readData (w : Requester) (data : W64)
  /-- a control-space write refused with a bus error, as its requester sees it -/
  | busError (w : Requester)
  deriving DecidableEq, Repr

/-- The whole block. DESIGN CHOICE (log 4). -/
structure State where
  pending : List Instr
  variant : Variant
  uid : W64
  keyFuses : BitVec 256
  rollFuses : BitVec 64
  ringTime : W64
  freeCount : Nat
  regs : SMap W32
  inForce : SMap W32
  loHeld : SMap (Option W32)
  hiLatch : SMap (Option W32)
  seats : SMap Seat
  cores : SMap Core
  mem : SMap Byte
  store : SMap Byte
  /-- poisoned pages of the local stores, with their bytes rewritten since (R166, R444) -/
  storePoison : SMap (BitVec 256)
  flash : SMap Byte
  tags : SMap (BitVec 14)
  pages : SMap Page
  stackRuns : SMap Stack
  /-- strength code a granule's page headers carry unless the page says otherwise (R165, R173) -/
  encBase : SMap (BitVec 2)
  fabric : Fabric
  owner : Option OwnerRec
  install : Option Install
  burn : Burn
  /-- a restart of the plant thread is running, and the RCAUSE it will report (R443, R545, R558) -/
  plantRestart : Option Nat
  doms : SMap HostDom
  throttles : SMap (Option Throttle)
  attached : Bool
  fc : SMap FcSource
  /-- duty in force of each modulating output (R447) -/
  moDuty : SMap (BitVec 16)
  links : SMap Link
  ring : Ring
  pos : PosUnit
  stg : SMap StgDom
  /-- pending first members by address, with the domain that wrote each (R293) -/
  pairHeld : SMap (Option (W32 × Nat))
  /-- lane complexes moved to their other reference input (R336) -/
  refMoved : SMap Bool
  /-- consecutive markers of a lane whose MCRC failed -/
  mcrcBad : SMap Nat
  /-- accepted works of each stage unit, oldest first; unit `u` of engine `e` at `8 e + u` -/
  works : SMap (List Work)
  engines : SMap EngineRun
  spare : Spare
  plant : Plant
  sens : Sensing
  tmp : Tmp
  /-- the CAL command in progress -/
  cal : Option CalRun
  /-- the TAP instruction in force -/
  tapIr : BitVec 8
  dbg : Dbg
  /-- a seat, or the plant thread, halted by the debug access path at its next boundary -/
  haltReq : SMap Bool
  power : Power
  /-- RUNEN is high; RUNPG has risen since -/
  runen : Bool
  runpg : Bool
  /-- a reset command waits for the end of a fuse burn -/
  resetPending : Bool
  out : List Out
  deriving DecidableEq, Repr

/-- A class of a link at a fresh UP. -/
def LinkClass.init : LinkClass :=
  { txSeq := 0, expect := 0, queue := [], replay := [], resend := [], credits := 0, lastReport := 0, freed := 0,
    reported := 0, unacked := 0, nakSent := false }

/-- A link that has never been UP. -/
def Link.init : Link :=
  { classes := [], helloRx := false, readyRx := false, readyTx := false, peerCredits := [], peerExpects := [],
    peerUid := 0, resumable := none, want := 0, peerWant := 0, mask := 0, starve := 0, lastFire := none,
    lastData := none, segs := [] }

/-- A ring port that has heard nothing. -/
def RingPort.init : RingPort :=
  { peerUid := 0, peerRoot := false, delays := [], hops := none, better := 0 }

/-- The ring layer at reset. -/
def Ring.init : Ring :=
  { bseq := 0, lastB := [], uids := [], routes := [], ports := [], best := none, keeper := none,
    holdSync := 0, joinSync := 0, timeSync := 0, holdSince := 0, timeBad := false, holdover := false, joined := false,
    kEpoch := 0, kCompat := 0, syncSeq := 0, slew := 0, distributing := false, pendRanges := [], pendTotal := 0,
    pendCrc := none, total := 0, apply := none, members := [], heard := [], routeSeq := [], snapId := 0, snaps := [],
    rmarks := [], mail := [], msgId := 0, mbSeq := [] }

/-- The block right after a power-on reset: every register at the reset value its table gives (an unlisted key
    reads as that value) but SYS_RSTCAUSE, which tells POR (R620); no command waiting, nothing in any memory.
    DESIGN CHOICE (log 5). DESIGN CHOICE (log 6). -/
def State.reset : State :=
  { pending := [], variant := .aly9120, uid := 0, keyFuses := 0, rollFuses := 0, ringTime := 0, freeCount := 0,
    regs := [(0xFFFF00000200, 1)], inForce := [], loHeld := [], hiLatch := [], seats := [], cores := [], mem := [], store := [],
    storePoison := [],    flash := [], tags := [], pages := [], stackRuns := [], encBase := [],
    fabric := { links := [], resetDone := [], locks := [], flows := [], route := [], channels := [], discards := [] },
    owner := none, install := none, burn := .none, plantRestart := none, doms := [], throttles := [],
    attached := false, fc := [], moDuty := [], links := [], ring := Ring.init,
    pos := { webs := [], tofs := [], markPos := [], markLate := [], nextTags := [], tags := [], recent := [] },
    stg := [], pairHeld := [], refMoved := [],
    mcrcBad := [], works := [], engines := [],
    spare := { lastHand := [], want := false, retry := false, shadow := 0, again := false, retest := none, handoff := none,
               waiting := none, w0 := 0, standby := [] },
    plant := Plant.init, sens := { opened := [], inbox := [], bound := [], tus := [], cps := [] }, tmp := Tmp.init, cal := none,
    tapIr := 1, dbg := { addr := 0, data := 0, status := 0, pend := none }, haltReq := [], power := .reset, runen := false,
    runpg := false, resetPending := false, out := [] }

end Sys2Proof.Machine
end

