-- ==== Sys2Proof/Machine/Ops.lean ====
section
/-! DEFINITION. The named operations over the state: bit fields, registers, requesters and grants, seats and
their registers, device memory and the local stores. Every later meaning is written with these. -/

namespace Sys2Proof

/-! ### Variant (R1, R32) -/

/-- Engines present (R1). -/
def Variant.engines : Variant → Nat
  | .aly9120 => 5 | .aly9114 => 3 | .aly9107 => 2
/-- Swaths: one per engine but the spare (R20). -/
def Variant.swaths (v : Variant) : Nat := v.engines - 1
/-- Memory stacks present (R1). -/
def Variant.stacks : Variant → Nat
  | .aly9120 => 8 | .aly9114 => 4 | .aly9107 => 2
/-- Lanes present (R1). -/
def Variant.lanes : Variant → Nat
  | .aly9120 => 96 | .aly9114 => 48 | .aly9107 => 24
/-- Ethernet lane groups present (R1). -/
def Variant.eth : Variant → Nat
  | .aly9120 => 16 | .aly9114 => 8 | .aly9107 => 0
/-- Umrak ports present (R24). -/
def Variant.ports : Variant → Nat
  | .aly9120 => 24 | .aly9114 => 12 | .aly9107 => 6
/-- Sensor ports present (R1). -/
def Variant.sps : Variant → Nat
  | .aly9107 => 4 | _ => 8
/-- Colour pipelines present (R1). -/
def Variant.cps : Variant → Nat
  | .aly9120 => 4 | .aly9114 => 2 | .aly9107 => 0
/-- Thermal units present (R1). -/
def Variant.tus : Variant → Nat
  | .aly9107 => 4 | _ => 8
/-- Loop engines present (R1). -/
def Variant.les : Variant → Nat
  | .aly9107 => 16 | _ => 32
/-- Solenoid channels present (R1). -/
def Variant.vs : Variant → Nat
  | .aly9107 => 8 | _ => 16
/-- Fan channels present (R1). -/
def Variant.fans : Variant → Nat
  | .aly9107 => 6 | _ => 12
/-- Inspection compare units are present (R1). -/
def Variant.icu : Variant → Bool
  | .aly9107 => false | _ => true
/-- PART (R32). -/
def Variant.part : Variant → Nat
  | .aly9120 => 0x9120 | .aly9114 => 0x9114 | .aly9107 => 0x9107

/-- The device has island number `i` of R15 on this variant. -/
def Variant.island (v : Variant) (i : Nat) : Bool :=
  if i ≤ 4 then decide (i < v.engines)
  else if i = 5 then true
  else if i ≤ 13 then decide (i - 6 < v.stacks)
  else if i ≤ 21 then decide (12 * (i - 14) < v.lanes)
  else decide (i ≤ 25)

end Sys2Proof

namespace Sys2Proof.Machine

/-! ### Bit fields (register tables `[hi:lo]`) -/

/-- Bits `[hi:lo]` of a word, as a number. -/
def fbits {n : Nat} (w : BitVec n) (hi lo : Nat) : Nat := (w.toNat / 2 ^ lo) % 2 ^ (hi + 1 - lo)

/-- Bit `i` of a word. -/
def fbit {n : Nat} (w : BitVec n) (i : Nat) : Bool := w.getLsbD i

/-- The word with bits `[hi:lo]` replaced by `v`. -/
def fset {n : Nat} (w : BitVec n) (hi lo v : Nat) : BitVec n :=
  let m := 2 ^ (hi + 1 - lo) - 1
  BitVec.ofNat n (w.toNat - ((w.toNat / 2 ^ lo) % 2 ^ (hi + 1 - lo)) * 2 ^ lo + (v % (m + 1)) * 2 ^ lo)

/-- The word with bit `i` set or cleared. -/
def fsetb {n : Nat} (w : BitVec n) (i : Nat) (b : Bool) : BitVec n := fset w i i (if b then 1 else 0)

/-- A Bool as a number. -/
def b2n (b : Bool) : Nat := if b then 1 else 0

/-- The two's-complement value of the low `n` bits of a number (R9). -/
def sint (n v : Nat) : Int := if v % 2 ^ n < 2 ^ (n - 1) then (v % 2 ^ n : Nat) else ((v % 2 ^ n : Nat) : Int) - 2 ^ n

/-- An integer as an `n`-bit field, modulo `2^n`. -/
def uint (n : Nat) (v : Int) : Nat := (v % (2 ^ n : Nat)).toNat

/-- `v` clamped to `lo … hi`. -/
def clampInt (lo hi v : Int) : Int := if v < lo then lo else if v > hi then hi else v

/-- The bytes of a number, least significant first. -/
def leBytes : Nat → Nat → List Byte
  | 0, _ => []
  | n + 1, v => BitVec.ofNat 8 v :: leBytes n (v / 256)

/-- The number little-endian bytes hold (R12). -/
def leNat : List Byte → Nat
  | [] => 0
  | b :: bs => b.toNat + 256 * leNat bs

/-- Bytes `off … off + n − 1` of a block of bytes, as a little-endian number. -/
def leAt (bs : List Byte) (off n : Nat) : Nat := leNat ((bs.drop off).take n)

/-! ### Control-space registers by address -/

/-- What register `a` holds; its reset value until something changes it (R12, R13). -/
def State.reg (s : State) (a : Nat) : W32 := sget (regReset a) s.regs a

/-- Register `a` takes the value `v`. -/
def State.setReg (s : State) (a : Nat) (v : W32) : State :=
  { s with regs := sset (regReset a) s.regs a v }

/-- The value of a staged register that is in force (R13, R291). -/
def State.act (s : State) (a : Nat) : W32 := sget (regReset a) s.inForce a

/-- The staged register `a` comes into force with the value `v`. -/
def State.setAct (s : State) (a : Nat) (v : W32) : State :=
  { s with inForce := sset (regReset a) s.inForce a v }

/-- Field `[hi:lo]` of register `a`. -/
def State.fld (s : State) (a hi lo : Nat) : Nat := fbits (s.reg a) hi lo

/-- Bit `i` of register `a`. -/
def State.bit (s : State) (a i : Nat) : Bool := fbit (s.reg a) i

/-- Field `[hi:lo]` of register `a` becomes `v`. -/
def State.setFld (s : State) (a hi lo v : Nat) : State := s.setReg a (fset (s.reg a) hi lo v)

/-- Bit `i` of register `a` becomes `b`. -/
def State.setBit (s : State) (a i : Nat) (b : Bool) : State := s.setReg a (fsetb (s.reg a) i b)

/-- A counter register that saturates at 0xFFFF_FFFF counts `n` more. -/
def State.count (s : State) (a n : Nat) : State :=
  s.setReg a (BitVec.ofNat 32 (min (2 ^ 32 - 1) ((s.reg a).toNat + n)))

/-- A counter register that wraps counts `n` more. -/
def State.countMod (s : State) (a n : Nat) : State := s.setReg a (BitVec.ofNat 32 ((s.reg a).toNat + n))

/-- The 64-bit value of a register pair whose low word is at `a` (R12). -/
def State.reg64 (s : State) (a : Nat) : W64 := BitVec.ofNat 64 ((s.reg a).toNat + 2 ^ 32 * (s.reg (a + 4)).toNat)

/-- A register pair takes a 64-bit value. -/
def State.setReg64 (s : State) (a : Nat) (v : W64) : State :=
  (s.setReg a (BitVec.ofNat 32 v.toNat)).setReg (a + 4) (BitVec.ofNat 32 (v.toNat / 2 ^ 32))

/-- The in-force value of a staged register pair. -/
def State.act64 (s : State) (a : Nat) : W64 := BitVec.ofNat 64 ((s.act a).toNat + 2 ^ 32 * (s.act (a + 4)).toNat)

/-- A value the manual leaves open, and the state that has drawn it. DESIGN CHOICE (log 2). -/
def State.draw (s : State) : BitVec 64 × State :=
  (Config.freeValue s.freeCount, { s with freeCount := s.freeCount + 1 })

/-- A list of state changes made in order. -/
def State.each {α : Type} (s : State) (l : List α) (f : State → α → State) : State := l.foldl f s

/-! ### Variant and islands (R1, R15, R32) -/

/-- Bytes of device memory: the address after the highest memory address (R1). -/
def State.memSize (s : State) : Nat := s.variant.stacks * 24 * 2 ^ 30

/-- Island `i` is powered with its clock running (R32). -/
def State.islandOn (s : State) (i : Nat) : Bool := s.bit Reg.SYS_ISLAND_ON i

/-- Island `i` is fenced from the fabric (R32). -/
def State.fenced (s : State) (i : Nat) : Bool := s.bit Reg.SYS_ISLAND_FENCE i

/-- Island `i` is powered and unfenced. -/
def State.islandUp (s : State) (i : Nat) : Bool := s.islandOn i && !s.fenced i

/-! ### Domains and requesters (R115 to R119, R131) -/

/-- The entry of an absent domain. -/
def Domain.none : Domain :=
  { role := 0, owner := false, fnotify := false, ports := 0, blocks := 0, mem := [], tidFirst := 0, tidCount := 0,
    membw := 0, fabbw := 0, tlat := 0, entryBase := 0, entryLen := 0, entryKtag := 0 }

/-- The grants of domain H7 in RECOVERY (R125). -/
def Domain.recovery : Domain :=
  { Domain.none with role := 4, owner := true, ports := 1, blocks := 3, mem := [(0, 8)] }

/-- The device is in RECOVERY (R125). -/
def State.recovery (s : State) : Bool := s.bit Reg.SYS_TRUST 1

/-- The entry in force of domain `d`: the owner record's, or H7's in RECOVERY. -/
def State.domain (s : State) (d : Nat) : Domain :=
  match s.owner with
  | some r => (r.domains[d]?).getD Domain.none
  | none => if s.recovery && d == 7 then Domain.recovery else Domain.none

/-- The lowest domain of a role, if the record in force has one. -/
def State.roleDomain (s : State) (role : Nat) : Option Nat :=
  (List.range 8).find? (fun d => (s.domain d).role == role)

/-- The domain a port belongs to; none until hosts attach (R116). -/
def State.portDomain (s : State) (p : Nat) : Option Nat :=
  if s.attached then
    (List.range 8).find? (fun d => (s.domain d).role != 0 && (s.domain d).ports.getLsbD p)
  else none

/-- Granule `g` lies in a MEM range of the domain (R119). -/
def Domain.holds (d : Domain) (g : Nat) : Bool :=
  d.mem.any (fun r => decide (r.1 ≤ g) && decide (g < r.1 + r.2))

/-- Every byte of `a … a + n − 1` lies in the domain's MEM ranges. -/
def Domain.holdsRange (d : Domain) (a n : Nat) : Bool :=
  (List.range ((a + n - 1) / 2 ^ 21 + 1 - a / 2 ^ 21)).all (fun i => d.holds (a / 2 ^ 21 + i))

/-- The two BLOCKS bits of block `b` (R119). -/
def Domain.grant (d : Domain) (b : Nat) : Nat := fbits d.blocks (2 * b + 1) (2 * b)

/-- The block number of R119 that a control-space address lies in. -/
def blockNumber (a : Nat) : Option Nat :=
  match (a / 0x1000000) % 0x100 with
  | 0x00 => some 0 | 0x01 => some 1 | 0x02 => some 2 | 0x03 => some 3 | 0x04 => some 4 | 0x05 => some 5
  | 0x06 => some 6 | 0x08 => some 7 | 0x09 => some 8 | 0x0A => some 9 | 0x0B => some 10 | 0x0C => some 11
  | 0x10 => some 12 | 0x11 => some 13 | 0x12 => some 14 | 0x13 => some 15 | 0x18 => some 16 | 0x19 => some 17
  | 0x1A => some 18 | 0x20 => some 19 | 0x21 => some 20 | 0x22 => some 21 | 0x23 => some 22 | 0x24 => some 23
  | 0x25 => some 24 | 0x26 => some 25 | 0x27 => some 26 | _ => none

/-- The address lies in control space (R35). -/
def isControl (a : Nat) : Bool := decide (0xFFFF00000000 ≤ a) && decide (a < 2 ^ 48)

/-! ### Seats (R40, R45, R46, R67) -/

/-- The seat ID of the plant thread (R67). -/
def plantSeat : Nat := 0x3FF

/-- Seat `i`. -/
def State.seat (s : State) (i : Nat) : Seat := sget Seat.init s.seats i

/-- Seat `i` becomes `t`. -/
def State.setSeat (s : State) (i : Nat) (t : Seat) : State := { s with seats := sset Seat.init s.seats i t }

/-- Seat `i` changes by `f`. -/
def State.modSeat (s : State) (i : Nat) (f : Seat → Seat) : State := s.setSeat i (f (s.seat i))

/-- The engine of a seat. -/
def seatEngine (i : Nat) : Nat := i / 128
/-- The core of a seat. -/
def seatCore (i : Nat) : Nat := (i / 8) % 16
/-- The seat position `c × 8 + s` within its engine (R48, R118). -/
def seatPos (i : Nat) : Nat := i % 128

/-- Scalar register `n`; s0 reads 0 (R40). -/
def Seat.sx (t : Seat) (n : Nat) : W64 := if n = 0 then 0 else sget 0 t.x n

/-- Scalar register `n` takes a value; a write of s0 is discarded (R40). -/
def Seat.setX (t : Seat) (n : Nat) (v : W64) : Seat := if n = 0 then t else { t with x := sset 0 t.x n v }

/-- Vector register `n`. -/
def Seat.vx (t : Seat) (n : Nat) : VReg := sget 0 t.v n
/-- Vector register `n` takes a value. -/
def Seat.setV (t : Seat) (n : Nat) (v : VReg) : Seat := { t with v := sset 0 t.v n v }

/-- Predicate register `n`. -/
def Seat.px (t : Seat) (n : Nat) : PReg := sget 0 t.p n
/-- Predicate register `n` takes a value. -/
def Seat.setP (t : Seat) (n : Nat) (v : PReg) : Seat := { t with p := sset 0 t.p n v }

/-- The number of a mode: 0 T, 1 H, 2 M (TSTATE.PM, R67). -/
def Mode.code : Mode → Nat
  | .t => 0 | .h => 1 | .m => 2

/-- Where window handle `n` lies in mode `m`: w12 to w15 are banked (R40). -/
def winSlot (md : Mode) (n : Nat) : Nat := if n < 12 then n else n + 4 * md.code

/-- Window handle `n` in the current mode's bank. -/
def Seat.wx (t : Seat) (n : Nat) : Desc := sget 0 t.w (winSlot t.mode n)
/-- Window handle `n` of the current mode's bank takes a descriptor. -/
def Seat.setW (t : Seat) (n : Nat) (d : Desc) : Seat := { t with w := sset 0 t.w (winSlot t.mode n) d }

/-- Code window of a mode. -/
def Seat.code (t : Seat) (md : Mode) : Desc := sget 0 t.cw md.code
/-- Code window of a mode takes a descriptor. -/
def Seat.setCode (t : Seat) (md : Mode) (d : Desc) : Seat := { t with cw := sset 0 t.cw md.code d }

/-- Reset values of the seat control registers (R67). -/
def scrReset (n : Nat) : W64 := if n = 0x026 then 0xF7FFFF else 0
/-- Seat control register `n` as stored. -/
def Seat.scrGet (t : Seat) (n : Nat) : W64 := sget (scrReset n) t.scr n
/-- Seat control register `n` takes a value. -/
def Seat.scrSet (t : Seat) (n : Nat) (v : W64) : Seat := { t with scr := sset (scrReset n) t.scr n v }

/-- The seat's host domain (R45). -/
def Seat.hdom (t : Seat) : Nat := (t.scrGet 0x001).toNat % 8
/-- The seat's tenant ID. -/
def Seat.tid (t : Seat) : Nat := (t.scrGet 0x002).toNat % 2 ^ 16
/-- VL (R41). -/
def Seat.vl (t : Seat) : Nat := (t.scrGet 0x003).toNat

/-- The base of the seat control bank of traps taken to H or M (R67). -/
def trapBank : Mode → Nat
  | .m => 0x020 | _ => 0x010

/-- The seat moves to state `st`; SEn_HALTED0 to 2 follow (R46, R48). -/
def State.setSeatSt (s : State) (i : Nat) (st : SeatSt) : State :=
  let s := s.modSeat i (fun t => { t with st := st })
  if i = plantSeat then s
  else s.setBit (Reg.SEn_HALTED0 (seatEngine i) + 4 * (seatPos i / 32)) (seatPos i % 32) (st == .halt)

/-- The SEATMAP byte of a seat position in the record in force (R120). -/
def State.seatmap (s : State) (pos : Nat) : Nat :=
  match s.owner with
  | some r => ((r.seatmap[pos]?).getD 0).toNat
  | none => 0

/-- The seat is enabled by the SEATCLASS in force of its core (R53). -/
def State.seatEnabled (s : State) (i : Nat) : Bool :=
  fbit (s.act (Reg.SEn_SEATCLASSc (seatEngine i) (seatCore i))) (8 + i % 8)

/-- The seat is a press seat: PRESS set in force, assigned to the press-control domain with PRESS_OK (R53, R120). -/
def State.isPress (s : State) (i : Nat) : Bool :=
  i != plantSeat && fbit (s.act (Reg.SEn_SEATCLASSc (seatEngine i) (seatCore i))) (i % 8) &&
  (s.seatmap (seatPos i) / 16) % 2 == 1 && (s.seatmap (seatPos i) / 8) % 2 == 1 &&
  (s.domain (s.seatmap (seatPos i) % 8)).role == 1 && (s.seat i).hdom == s.seatmap (seatPos i) % 8

/-- The requester acts as M mode: a seat in M, or the debug access path (R611). -/
def State.whoM (s : State) : Requester → Bool
  | .seat i => (s.seat i).mode == .m
  | .host _ => false
  | .debug => true

/-- The requester's domain: its seat's, or its port's (R116). -/
def State.whoDomain (s : State) : Requester → Option Nat
  | .seat i => some (s.seat i).hdom
  | .host p => s.portDomain p
  | .debug => none

/-- The requester is the domain of role `role`, in H or as a host. -/
def State.whoRole (s : State) (w : Requester) (role : Nat) : Bool :=
  match s.whoDomain w with
  | some d => (s.domain d).role == role
  | none => false

/-- The requester may write block `b` (R129, R131): M mode always, a domain by its BLOCKS grant. -/
def State.mayWrite (s : State) (w : Requester) (b : Nat) : Bool :=
  s.whoM w || match s.whoDomain w with
    | some d => (s.domain d).grant b == 3
    | none => false

/-- The requester is domain `d` itself or M mode. -/
def State.whoIs (s : State) (w : Requester) (d : Nat) : Bool :=
  s.whoM w || s.whoDomain w == some d

/-! ### Device memory (R58, R163 to R176) -/

/-- The granule of an address (R58). -/
def granule (a : Nat) : Nat := a / 2 ^ 21
/-- The page of an address (R163). -/
def pageOf (a : Nat) : Nat := a / 2048
/-- The numbers `a / d … (a + n − 1) / d`: the granules or pages `n` bytes from `a` touch. DEDUCED (log 19). -/
def spanning (d a n : Nat) : List Nat :=
  if n = 0 then [] else (List.range ((a + n - 1) / d + 1 - a / d)).map (fun i => a / d + i)

/-- The stack that holds a page (R163). -/
def State.stackOf (s : State) (page : Nat) : Nat := page % s.variant.stacks

/-- The tag of a granule (R58). -/
def State.tag (s : State) (g : Nat) : BitVec 14 := sget 0 s.tags g
/-- The tag of a granule becomes `t`. -/
def State.setTag (s : State) (g : Nat) (t : BitVec 14) : State := { s with tags := sset 0 s.tags g t }

/-- What a page is until something happens to it. -/
def Page.init : Page := { poisoned := false, cells := 0, retired := false, strength := none }
/-- Page `p`. -/
def State.page (s : State) (p : Nat) : Page := sget Page.init s.pages p
/-- Page `p` becomes `q`. -/
def State.setPage (s : State) (p : Nat) (q : Page) : State := { s with pages := sset Page.init s.pages p q }

/-- The region a granule lies in (R172). -/
def State.region (s : State) (g : Nat) : Option Nat :=
  (List.range 16).find? (fun k =>
    decide (s.fld (Reg.MEM_RGNk_BASE k) 16 0 ≤ g) &&
    decide (g < s.fld (Reg.MEM_RGNk_BASE k) 16 0 + s.fld (Reg.MEM_RGNk_COUNT k) 16 0))

/-- A page has a complete mirror copy: MSTATE is MIRRORED or DEGRADED (R174, R176). -/
def State.mirrored (s : State) (page : Nat) : Bool :=
  match s.region (page / 1024) with
  | some k => decide (2 ≤ s.fld (Reg.MEM_RGNk_CFG k) 5 4)
  | none => false

/-- Stack `n` is lost or untrained (R176). -/
def State.stackLost (s : State) (n : Nat) : Bool := s.bit Reg.MEM_STATUS (8 + n) || !s.bit Reg.MEM_STATUS n

/-- A read of the page returns data: it is not poisoned, and its stack, or its mirror's, is there (R167, R176).
    DEDUCED (log 19). -/
def State.pageReadable (s : State) (p : Nat) : Bool :=
  let n := s.stackOf p
  let partner := if n % 2 = 0 then n + 1 else n - 1
  !(s.page p).poisoned && (!s.stackLost n || (s.mirrored p && !s.stackLost partner))

/-- A write to the page is accepted: poisoned pages take writes, lost stacks do not (R167, R176). -/
def State.pageWritable (s : State) (p : Nat) : Bool :=
  let n := s.stackOf p
  let partner := if n % 2 = 0 then n + 1 else n - 1
  !s.stackLost n || (s.mirrored p && !s.stackLost partner)

/-- `n` bytes of a sparse byte store from address `a`. -/
def bytesAt (m : SMap Byte) (a : Nat) : Nat → List Byte
  | 0 => []
  | n + 1 => sget 0 m a :: bytesAt m (a + 1) n

/-- Bytes written to a sparse byte store from address `a` upwards. -/
def putBytes (m : SMap Byte) (a : Nat) : List Byte → SMap Byte
  | [] => m
  | b :: bs => putBytes (sset 0 m a b) (a + 1) bs

/-- Bytes `a … a + n − 1` lie in device memory (R5). -/
def State.inMemory (s : State) (a n : Nat) : Bool := decide (a + n ≤ s.memSize)

/-- Every granule `n` bytes from `a` touch carries the tag (R58). -/
def State.tagsMatch (s : State) (a n : Nat) (t : BitVec 14) : Bool :=
  (spanning (2 ^ 21) a n).all (fun g => s.tag g == t)

/-- `n` bytes of device memory from `a`; none is a bus error (R5, R167, R176). -/
def State.memRead (s : State) (a n : Nat) : Option (List Byte) :=
  if s.inMemory a n && (spanning 2048 a n).all s.pageReadable then some (bytesAt s.mem a n) else none

/-- The cells of a page a write covers, marked written since the poisoning; the page is whole again once all 32 are (R167). -/
def State.markCells (s : State) (a n : Nat) : State :=
  s.each (spanning 64 a n) (fun s c =>
    let q := s.page (c / 32)
    if q.poisoned then
      let cs := q.cells ||| (1 <<< (c % 32))
      if cs = BitVec.allOnes 32 then s.setPage (c / 32) { q with poisoned := false, cells := 0 }
      else s.setPage (c / 32) { q with cells := cs }
    else s)

/-- The strength code writes to a page are encoded at now (R165, R172, R173). -/
def State.writeStrength (s : State) (page : Nat) : BitVec 2 :=
  match s.region (page / 1024) with
  | some k => BitVec.ofNat 2 (s.fld (Reg.MEM_RGNk_CFG k) 1 0)
  | none => BitVec.ofNat 2 (s.fld Reg.MEM_DEFCFG 1 0)

/-- The strength code a granule's pages carry unless they say otherwise; MEM_DEFCFG's reset value after training (R655). -/
def State.baseStrength (s : State) (page : Nat) : BitVec 2 := sget 1 s.encBase (page / 1024)

/-- A page is encoded afresh at the strength in force. -/
def State.encode (s : State) (page : Nat) : State :=
  let c := s.writeStrength page
  s.setPage page { s.page page with strength := if c = s.baseStrength page then none else some c }

/-- Bytes written to device memory from `a`; none is a bus error, and then nothing is written. -/
def State.memWrite (s : State) (a : Nat) (bs : List Byte) : Option State :=
  if s.inMemory a bs.length && (spanning 2048 a bs.length).all s.pageWritable then
    some (({ s with mem := putBytes s.mem a bs }.markCells a bs.length).each (spanning 2048 a bs.length) State.encode)
  else none

/-! ### Local stores and the flash (R38, R55, R444, R445) -/

/-- Where the engine store of engine `e` lies in `State.store`. -/
def engineStore (e : Nat) : Nat := e * 2 ^ 32
/-- Where the core store of core `c` of engine `e` lies in `State.store`. -/
def coreStore (e c : Nat) : Nat := (16 + 16 * e + c) * 2 ^ 32
/-- Where the plant store lies in `State.store`. -/
def plantStore : Nat := 0x200 * 2 ^ 32

/-- Bytes of a local store. -/
def State.storeRead (s : State) (a n : Nat) : List Byte := bytesAt s.store a n
/-- The page size of the store at `a`: 64 bytes in the plant store, 256 in the others (R166). -/
def storePage (a : Nat) : Nat := if plantStore ≤ a then 64 else 256
/-- None of the pages a read touches is poisoned (R167, R444). -/
def State.storeReadable (s : State) (a n : Nat) : Bool :=
  (spanning (storePage a) a n).all (fun p => (sfind p s.storePoison).isNone)
/-- Byte `a` of a poisoned page is rewritten; the page is whole once all its bytes are (R444). -/
def State.markStore (s : State) (a : Nat) : State :=
  let n := storePage a
  match sfind (a / n) s.storePoison with
  | none => s
  | some m =>
    let m := fsetb m (a % n) true
    if (List.range n).all (fun i => fbit m i) then { s with storePoison := sdel (a / n) s.storePoison }
    else { s with storePoison := sput (a / n) m s.storePoison }
/-- Bytes written to a local store. -/
def State.storeWrite (s : State) (a : Nat) (bs : List Byte) : State :=
  let s := { s with store := putBytes s.store a bs }
  if s.storePoison.isEmpty then s else s.each ((List.range bs.length).map (fun i => a + i)) State.markStore

/-! ### Outputs -/

/-- What a register write answers: the state after it, and false for a bus error to the requester. -/
abbrev Written := State × Bool

/-- The requester of a refused write sees a bus error. DESIGN CHOICE (log 8). -/
def respond (w : Requester) (r : Written) : State :=
  if r.2 then r.1 else { r.1 with out := r.1.out ++ [.busError w] }

end Sys2Proof.Machine
end

