-- ==== Sys2Proof/Machine/LinkQ.lean ====
section
/-! DEFINITION. Frames and their queues: the links of Umrak, CRC-32C (R337), queueing a frame on a link
(R341, R344), the credit return every frame carries (R342), and the marks of drop streams (R359). -/

namespace Sys2Proof.Machine

/-! ### CRC-32C (R337) -/

/-- One bit of the reflected CRC-32C register. -/
def crcBit (c : W32) : W32 := if c.getLsbD 0 then (c >>> 1) ^^^ 0x82F63B78 else c >>> 1

/-- One byte. -/
def crcByte (c : W32) (b : Byte) : W32 :=
  let x := c ^^^ b.setWidth 32
  crcBit (crcBit (crcBit (crcBit (crcBit (crcBit (crcBit (crcBit x)))))))

/-- CRC-32C of a list of bytes. -/
def crc32c (bs : List Byte) : W32 := (bs.foldl crcByte 0xFFFFFFFF) ^^^ 0xFFFFFFFF

/-! ### Links -/

/-- Link `k`: ports 0 to 23, then the drop-stream links of lanes. -/
def State.link (s : State) (k : Nat) : Link := sget Link.init s.links k
/-- Link `k` becomes `l`. -/
def State.setLink (s : State) (k : Nat) (l : Link) : State := { s with links := sset Link.init s.links k l }
/-- Class `c` of a link. -/
def Link.cls (l : Link) (c : Nat) : LinkClass := sget LinkClass.init l.classes c
/-- Class `c` of a link becomes `x`. -/
def Link.setCls (l : Link) (c : Nat) (x : LinkClass) : Link := { l with classes := sset LinkClass.init l.classes c x }
/-- Class `c` of link `k` changes by `f`. -/
def State.modCls (s : State) (k c : Nat) (f : LinkClass → LinkClass) : State :=
  s.setLink k ((s.link k).setCls c (f ((s.link k).cls c)))

/-- The profile of a port in force: 0 OFF, 1 host, 2 ring (R366). -/
def State.portProf (s : State) (p : Nat) : Nat := fbits (s.act (Reg.UMK_PORTp_LANES p)) 15 14
/-- The port is carried over Ethernet (R364). -/
def State.portEth (s : State) (p : Nat) : Bool := fbit (s.act (Reg.UMK_PORTp_LANES p)) 9
/-- Lanes of a LANES value: WIDTH from FIRST. -/
def lanesOf (v : W32) : List Nat :=
  if fbit v 9 then [] else (List.range (2 ^ fbits v 1 0)).map (fun i => fbits v 8 2 + i)
/-- The mode of a lane (R366). -/
def State.laneMode (s : State) (l : Nat) : Nat := s.fld (Reg.UMK_LANEl_CFG l) 1 0
/-- The lanes of link `k`. -/
def State.linkLanes (s : State) (k : Nat) : List Nat :=
  if k < 24 then (if s.portProf k = 0 then [] else lanesOf (s.act (Reg.UMK_PORTp_LANES k))) else [k - 24]
/-- The link a lane belongs to: its port's in mode 1, its drop-stream link in mode 2. -/
def State.laneLink (s : State) (l : Nat) : Option Nat :=
  if s.laneMode l = 1 then (List.range 24).find? (fun p => (s.linkLanes p).contains l)
  else if s.laneMode l = 2 then some (24 + l) else none

/-- State of a link: 0 OFF, 1 DOWN, 2 DETECT, 3 EQUALISE, 4 BOND, 5 UP (R330). -/
def State.linkState (s : State) (k : Nat) : Nat :=
  if k < 24 then s.fld (Reg.UMK_PORTp_STATE k) 2 0 else s.fld (Reg.UMK_LANEl_STAT (k - 24)) 10 8

/-- The link enters state `n`; UMK_STATUS follows for a port. -/
def State.setLinkState (s : State) (k n : Nat) : State :=
  if k < 24 then (s.setFld (Reg.UMK_PORTp_STATE k) 2 0 n).setBit Reg.UMK_STATUS k (n == 5)
  else s.setFld (Reg.UMK_LANEl_STAT (k - 24)) 10 8 n

/-- Cells a frame of LEN `n` occupies (R341). -/
def cells (n : Nat) : Nat := 1 + (n + 63) / 64

/-- A frame is accepted into a link's transmit queue; one of a class the peer takes none of is discarded (R341). -/
def enqueue (s : State) (k : Nat) (f : Frame) (fwd : Bool) : State :=
  if s.linkState k = 5 && ((s.link k).peerCredits[f.cls]?).getD 0 == 0 then
    if k < 24 then s.count (Reg.UMK_PORTp_BADFRM k) 1 else s
  else s.modCls k f.cls (fun c => { c with queue := c.queue ++ [{ f := f, fwd := fwd }] })

/-- The payload's LINE (R258). -/
def dropLine (bs : List Byte) : Nat := leAt bs 16 8

/-- LASTFIRE and LASTDATA after a drop frame has been accepted (R359). -/
def noteDrop (l : Link) (bs : List Byte) : Link :=
  let line := dropLine bs
  let up (o : Option Nat) : Option Nat := some (max line (o.getD 0))
  match leAt bs 0 1 with
  | 3 => { l with lastFire := up l.lastFire }
  | 2 => { l with lastData := up l.lastData }
  | 1 =>
    let segs := if l.segs.contains (line, leAt bs 2 1) then l.segs else l.segs ++ [(line, leAt bs 2 1)]
    if decide (leAt bs 3 1 ≤ (segs.filter (fun e => e.1 == line)).length) then
      { l with lastData := up l.lastData, segs := segs.filter (fun e => decide (line < e.1)) }
    else { l with segs := segs }
  | _ => l

/-- A DROP frame from an engine is accepted into a lane's drop-stream link (R258, R359). -/
def enqueueDrop (s : State) (lane : Nat) (cls : Nat) (bs : List Byte) : State :=
  let k := 24 + lane
  let s := s.setLink k (noteDrop (s.link k) bs)
  enqueue s k { ftype := 4, cls := cls, dnode := 0, snode := s.fld Reg.RNG_STATUS 19 8, payload := bs } false

/-- The report of freed cells the next frame carries: the lowest class with unreported cells (R342). DEDUCED (log 62). -/
def creditReturn (l : Link) : Nat × Nat × Link :=
  match (List.range 6).find? (fun c => (l.cls c).freed != (l.cls c).reported) with
  | some c => (c, (l.cls c).freed, l.setCls c { l.cls c with reported := (l.cls c).freed })
  | none => (7, 0, l)

/-- A frame sent on a port over Ethernet counts in TXFRM (R364, R367). DEDUCED (log 48). -/
def countEth (s : State) (k : Nat) : State :=
  if k < 24 && s.portEth k then s.count (Reg.ETHg_TXFRM (fbits (s.act (Reg.UMK_PORTp_LANES k)) 13 10)) 1 else s

/-- A control-only frame leaves link `k` (R338). -/
def sendControl (s : State) (k ftype cls : Nat) (seq : W32) : State :=
  let (c, n, l) := creditReturn (s.link k)
  let s := s.setLink k l
  countEth { s with out := s.out ++ [.control k ftype cls seq c n] } k

end Sys2Proof.Machine
end

