-- ==== Sys2Proof/Machine/Snap.lean ====
section
/-! DEFINITION. Taking a snapshot (R605, R606): the shared operation behind the software trigger, the SNAP
instruction, SNAPIN, the fault collector, marks and the ring. -/

namespace Sys2Proof.Machine

/-- The snapshot sources of R605, by SRCEN bit. -/
inductive SnapSrc
  | snapin | soft | fc | ring
  deriving DecidableEq, Repr

/-- The SRCEN bit and the SRC code of a source (R605). -/
def SnapSrc.code : SnapSrc → Nat
  | .snapin => 0 | .soft => 1 | .fc => 2 | .ring => 3

/-- Island `i` latches its entries: powered and unfenced (R606). -/
def snapEntry (s : State) (isl : Nat) (dst src : Nat) : State :=
  s.setReg dst (if s.islandUp isl then s.reg src else 0)

/-- The level of loop engines `n … n + 15`, two bits each, as SNP_LELVL holds them (R615). -/
def snapLevels (s : State) (n : Nat) : W32 :=
  BitVec.ofNat 32 ((List.range 16).foldl (fun v i => v + 4 ^ i * s.fld (Reg.LEn_STATUS (n + i)) 1 0) 0)

/-- Every island latches its entries (R606, R615). DEDUCED (log 83). -/
def snapLatch (s : State) : State :=
  let on := s.reg Reg.SYS_ISLAND_ON &&& ~~~(s.reg Reg.SYS_ISLAND_FENCE)
  let s := s.setReg Reg.SNP_ISLAND on
  let s := snapEntry s 22 Reg.SNP_WSTATE Reg.POS_STATUS
  let s := s.each (List.range 4) (fun s w =>
    snapEntry (snapEntry s 22 (Reg.SNP_WPOSw_LO w) (Reg.POSn_POS_LO w)) 22 (Reg.SNP_WPOSw_HI w) (Reg.POSn_POS_HI w))
  let s := s.setReg Reg.SNP_FCSTAT_LO (s.reg Reg.FC_STATUS_LO)
  let s := s.setReg Reg.SNP_FCSTAT_HI (s.reg Reg.FC_STATUS_HI)
  let s := s.setReg Reg.SNP_FCLIVE_LO (s.reg Reg.FC_LIVE_LO)
  let s := s.setReg Reg.SNP_FCLIVE_HI (s.reg Reg.FC_LIVE_HI)
  let s := s.each (List.range 5) (fun s e => snapEntry s e (Reg.SNP_ELINEe e) (Reg.SEn_EMU_ELINE_LO e))
  let s := s.each (List.range 8) (fun s p => snapEntry s 23 (Reg.SNP_SPFRAMEp p) (Reg.SPn_FRAME p))
  let s := s.setReg Reg.SNP_LELVL_LO (snapLevels s 0)
  s.setReg Reg.SNP_LELVL_HI (snapLevels s 16)

/-- A trigger from one source at an instant (R606): taken while ARMED and enabled, otherwise counted as missed. -/
def snapTrigger (s : State) (src : SnapSrc) (t : W64) : State :=
  if !(s.bit Reg.SNP_CTL src.code) then s
  else if !(s.bit Reg.SNP_STATUS 0) then s.count Reg.SNP_MISS 1
  else
    let st := fset (fset (fsetb (fsetb (s.reg Reg.SNP_STATUS) 0 false) 2 true) 4 3 src.code) 8 5 (2 ^ src.code)
    snapLatch ((s.setReg Reg.SNP_STATUS st).setReg64 Reg.SNP_TIME_LO t)

end Sys2Proof.Machine
end

