-- ==== Sys2Proof/Machine/Fc.lean ====
section
/-! DEFINITION. Notifications (R146, R356) and the fault collector's shared operations: raising an event
(R544 to R553, R562), the live line and its grace (R550, R551), and ordering the safe state (R556, R557). -/

namespace Sys2Proof.Machine

/-! ### Notification records (R146) and event frames (R356) -/

/-- Domain `d`'s notification state. -/
def State.dom (s : State) (d : Nat) : HostDom := sget { seq := 0, doorbells := [] } s.doms d
/-- Domain `d`'s notification state becomes `h`. -/
def State.setDom (s : State) (d : Nat) (h : HostDom) : State :=
  { s with doms := sset { seq := 0, doorbells := [] } s.doms d h }

/-- The lowest port of a domain (R356). -/
def Domain.lowPort (d : Domain) : Option Nat := (List.range 24).find? (fun p => d.ports.getLsbD p)

/-- The 16 bytes of an EVT payload (R356). -/
def evtPayload (d rtype : Nat) (seq : W32) (tail : Nat) : List Byte :=
  leBytes 1 d ++ leBytes 1 rtype ++ [0, 0] ++ leBytes 4 seq.toNat ++ leBytes 4 tail ++ [0, 0, 0, 0]

/-- An EVT frame for a record of domain `d` goes to its lowest port in MGT; with 16 waiting, or the port not UP, it is
    dropped and counted (R356). DEDUCED (log 26). -/
def evtFrame (s : State) (d rtype : Nat) (seq : W32) : State :=
  match (s.domain d).lowPort with
  | none => s
  | some p =>
    if s.bit Reg.UMK_STATUS p &&
        decide (((((s.link p).cls 3).queue).filter (fun q => q.f.ftype == 8)).length < 16) then
      enqueue s p { ftype := 8, cls := 3, dnode := 0, snode := s.fld Reg.RNG_STATUS 19 8,
                    payload := evtPayload d rtype seq (s.fld (Reg.SYS_Dd_NQ_TAIL d) 14 0) } false
    else s.count (Reg.UMK_PORTp_EVTDROP p) 1

/-- SEQ after `n`: from 1, wrapping to 1 (R146). -/
def nextSeq (n : W32) : W32 := if n = 0xFFFFFFFF then 1 else n + 1

/-- The 64 bytes of a notification record (R146). -/
def recordBytes (rtype : Nat) (seq : W32) (time : W64) (body : List Byte) : List Byte :=
  leBytes 1 rtype ++ [0, 0, 0] ++ leBytes 4 seq.toNat ++ leBytes 8 time.toNat ++ body ++
    List.replicate (48 - body.length) 0

/-- A notification record for domain `d` is written to its queue, or dropped and counted (R146). DEDUCED (log 26). -/
def notify (s : State) (d rtype : Nat) (body : List Byte) : State :=
  let seq := nextSeq (s.dom d).seq
  let s := s.setDom d { s.dom d with seq := seq }
  let ctl := s.reg (Reg.SYS_Dd_NQ_CTL d)
  let n := fbits ctl 4 1
  if !fbit ctl 0 || n == 0 then s.count (Reg.SYS_Dd_NQ_LOST d) 1
  else
    let tail := s.fld (Reg.SYS_Dd_NQ_TAIL d) 14 0
    let next := (tail + 1) % 2 ^ n
    if next = s.fld (Reg.SYS_Dd_NQ_HEAD d) 14 0 then
      (s.setBit (Reg.SYS_Dd_NQ_STATUS d) 0 true).count (Reg.SYS_Dd_NQ_LOST d) 1
    else
      let a := (s.reg64 (Reg.SYS_Dd_NQ_BASE_LO d)).toNat + 64 * tail
      let bad := (s.setBit (Reg.SYS_Dd_NQ_STATUS d) 1 true).setBit (Reg.SYS_Dd_NQ_CTL d) 0 false
      if (s.domain d).holdsRange a 64 && s.tagsMatch a 64 (BitVec.ofNat 14 (fbits ctl 19 6)) then
        match s.memWrite a (recordBytes rtype seq s.ringTime body) with
        | some s => evtFrame (s.setReg (Reg.SYS_Dd_NQ_TAIL d) (BitVec.ofNat 32 next)) d rtype seq
        | none => bad
      else bad

/-! ### The safe state (R556 to R558) -/

/-- FC_SAFE.STATE (R558): 0 SAFE, 1 RESTART, 2 READY, 3 RUN. -/
def State.safeState (s : State) : Nat := s.fld Reg.FC_SAFE 1 0

/-- Every safety-related output takes its safe level (R448, R487, R557); solenoids and fans follow at their next
    sample and update. -/
def safeOutputs (s : State) : State :=
  let s := s.setFld Reg.FC_SAFEOUT 11 8 (s.fld Reg.FC_SAFEOUT 7 4)
  let s := s.setBit Reg.FC_PIP 12 false
  let s := s.each (List.range 32) (fun s k => s.setBit Reg.PLT_SO_STATE k (s.bit (Reg.PLT_SOk_CFG k) 12))
  let s := s.each (List.range 8) (fun s m =>
    { s with moDuty := sset 0 s.moDuty m (BitVec.ofNat 16 (s.fld (Reg.PLT_MOm_VAL m) 31 16)) })
  s.each (List.range s.variant.les) (fun s n =>
    if fbit (s.act (Reg.LEn_CFG n)) 0 then
      let s := (s.setFld (Reg.LEn_STATUS n) 1 0 (fbits (s.act (Reg.LEn_CFG n)) 26 25)).setBit (Reg.LEn_STATUS n) 8 true
      { s with plant := { s.plant with les := smod LeRun.init s.plant.les n (fun r => { r with forced := true }) } }
    else s)

/-- The causes of R556. -/
inductive SafeCause
  | boot | escalation | iet | safeIn | command
  deriving DecidableEq, Repr

/-- The CAUSE code of FC_SAFE. -/
def SafeCause.code : SafeCause → Nat
  | .boot => 0 | .escalation => 1 | .iet => 2 | .safeIn => 3 | .command => 4

/-- FAULT_NOTIFY with source `n` becomes pending on the seat named in FC_NSEAT (R562). DEDUCED (log 16). -/
def faultNotifySeat (s : State) (n : Nat) : State :=
  let r := s.reg Reg.FC_NSEAT
  if fbit r 11 then
    s.modSeat (if fbit r 10 then plantSeat else fbits r 9 0)
      (fun t => { t with faultQ := t.faultQ ++ [BitVec.ofNat 64 n] })
  else s

/-- A FAULT record to every domain with FNOTIFY, and FAULT_NOTIFY (R562). -/
def faultRecord (s : State) (src cls event cause : Nat) : State :=
  let s := s.each (List.range 8) (fun s d =>
    if (s.domain d).fnotify && (s.domain d).role != 0 then
      notify s d 0x06 (leBytes 1 src ++ leBytes 1 cls ++ leBytes 1 event ++ leBytes 1 cause)
    else s)
  faultNotifySeat s src

/-- The safe state is ordered (R556 to R558). In SAFE already, the first order's CAUSE stands (R563). -/
def safeOrder (s : State) (c : SafeCause) (src : Nat) : State :=
  if s.safeState = 0 then safeOutputs s
  else
    let r := fset (fset (fset (s.reg Reg.FC_SAFE) 1 0 0) 4 2 c.code) 10 5
      (match c with | .escalation => src | .safeIn => src | _ => 0)
    faultRecord (safeOutputs (s.setReg Reg.FC_SAFE r)) src 2 2 c.code

/-! ### Raising an event (R544 to R553) -/

/-- Source `n`'s timer. -/
def State.source (s : State) (n : Nat) : FcSource := sget { grace := .idle, cls := 0, clearing := false } s.fc n
/-- Source `n`'s timer becomes `f`. -/
def State.setSource (s : State) (n : Nat) (f : FcSource) : State :=
  { s with fc := sset { grace := .idle, cls := 0, clearing := false } s.fc n f }

/-- The FC_STATUS or FC_LIVE bit of a source lies in the LO or HI word at `a`. -/
def srcBit (a n : Nat) : Nat × Nat := (a + 4 * (n / 32), n % 32)

/-- The live line of source `n` (R544). -/
def State.live (s : State) (n : Nat) : Bool := s.bit (srcBit Reg.FC_LIVE_LO n).1 (srcBit Reg.FC_LIVE_LO n).2
/-- The live line of source `n` becomes `b`. -/
def State.setLive (s : State) (n : Nat) (b : Bool) : State :=
  s.setBit (srcBit Reg.FC_LIVE_LO n).1 (srcBit Reg.FC_LIVE_LO n).2 b

/-- Source `n` is safety-relevant (R545). -/
def safetySource (n : Nat) : Bool := [21, 24, 25, 26, 27, 31, 41].contains n

/-- The cap on a source's class (R549): F for a safety-relevant source, C for source 39, otherwise CLASSMAX. -/
def State.classMax (s : State) (n : Nat) : Nat :=
  if safetySource n then 2 else if n = 39 then 0 else min 2 (s.fld (Reg.FC_SRCn_CFG n) 11 10)

/-- The effective U grace of a source, ms (R550, R551). -/
def State.uGrace (s : State) (n : Nat) : Nat :=
  if safetySource n then min (s.fld (Reg.FC_SRCn_CFG n) 6 0) 5 else s.fld (Reg.FC_SRCn_CFG n) 6 0
/-- The effective F grace, ms: of an escalated event, or of an event raised as class F (R551). -/
def State.fGrace (s : State) (n : Nat) (escalated : Bool) : Nat :=
  if safetySource n then min (s.fld (Reg.FC_SRCn_CFG n) 9 7) (if escalated then 5 - s.uGrace n else 5)
  else s.fld (Reg.FC_SRCn_CFG n) 9 7

/-- The F grace of source `n` is over: the safe state is ordered (R550, R556). DEDUCED (log 40). -/
def endF (s : State) (n : Nat) : State :=
  safeOrder (s.setSource n { s.source n with grace := .done }) (if n = 41 then .safeIn else .escalation) n

/-- The F grace of source `n` starts; a grace of 0 orders the safe state (R550). DEDUCED (log 40). -/
def startF (s : State) (n : Nat) (escalated : Bool) : State :=
  let s := s.setSource n { s.source n with grace := .f, cls := 2, clearing := false }
  if s.fGrace n escalated = 0 then endF s n else s

/-- A U event still live after its grace escalates to F (R550): ESC when the source is in the record, and a record is sent.
    DEDUCED (log 40). -/
def escalate (s : State) (n : Nat) : State :=
  if s.classMax n < 2 then s else
  let s := if s.bit Reg.FC_FIRST 8 && s.fld Reg.FC_FIRST 5 0 == n then s.setBit Reg.FC_FIRST 10 true else s
  startF (faultRecord s n 2 1 0) n true

/-- The first-source record latches, or OVERFLOW is set (R547); a latching triggers the snapshot block (R605). -/
def latchFirst (s : State) (n cls : Nat) : State :=
  if s.bit Reg.FC_FIRST 8 then s.setBit Reg.FC_FIRST 9 true
  else
    let r := fsetb (fset (fset (s.reg Reg.FC_FIRST) 5 0 n) 7 6 cls) 8 true
    let s := (s.setReg Reg.FC_FIRST r).setReg64 Reg.FC_FIRST_TIME_LO s.ringTime
    let s := s.setReg Reg.FC_FIRST_ISL (s.reg Reg.SYS_ISLAND_ON)
    let s := s.setReg Reg.FC_FIRST_FENCE (s.reg Reg.SYS_ISLAND_FENCE)
    snapTrigger s .fc s.ringTime

/-- The source exists on this variant: never 42 to 47, and not the source of an absent engine, stack or unit (R545).
    DEDUCED (log 42). -/
def State.sourcePresent (s : State) (n : Nat) : Bool :=
  if n ≤ 4 then decide (n < s.variant.engines)
  else if n = 16 then decide (0 < s.variant.eth)
  else if n = 19 then decide (0 < s.variant.cps)
  else if 6 ≤ n ∧ n ≤ 13 then decide (n - 6 < s.variant.stacks)
  else decide (n < 64) && !(decide (42 ≤ n) && decide (n ≤ 47))

/-- The live line becomes active with an event of class `cls` (R550): the grace timer starts, unless it is running.
    DEDUCED (log 40). -/
def liveOn (s : State) (n cls : Nat) : State :=
  let was := s.live n
  let s := s.setLive n true
  let f := s.source n
  let s := s.setSource n { f with clearing := false, cls := if was then max f.cls cls else cls }
  if cls = 0 then s
  else match f.grace with
    | .done => endF s n
    | .f => s
    | .idle =>
      if cls = 2 then startF s n false
      else
        let s := s.setSource n { s.source n with grace := .u }
        if s.uGrace n = 0 then escalate s n else s
    | .u => if cls = 2 then startF s n false else s

/-- Source `n` raises an event of class `cls` (0 C, 1 U, 2 F), with its live line active when `live` (R544 to R551, R562). -/
def raise (s : State) (n cls : Nat) (live : Bool) : State :=
  if !s.sourcePresent n then s
  else
    let c := min cls (s.classMax n)
    let s := s.count (Reg.FC_SRCn_CNT n) 1
    let s := if c = 0 then s
      else latchFirst (s.setBit (srcBit Reg.FC_STATUS_LO n).1 (srcBit Reg.FC_STATUS_LO n).2 true) n c
    let s := if s.bit (Reg.FC_SRCn_CFG n) (12 + c) then faultRecord s n c 0 0 else s
    if live then liveOn s n c else s

/-- The live line of source `n` clears (R550, R551): a safety-relevant source's timer waits 10 ms before it resets. -/
def liveOff (s : State) (n : Nat) : State :=
  let s := s.setLive n false
  if safetySource n then s.setSource n { s.source n with clearing := true }
  else s.setSource n { grace := .idle, cls := 0, clearing := false }

/-- The requester owns FC_HANDLING with H = 1: errors its own accesses cause raise nothing (R553). DEDUCED (log 39). -/
def State.handlingOwner (s : State) (w : Requester) : Bool :=
  let r := s.reg Reg.FC_HANDLING
  fbit r 0 &&
    (if fbit r 5 then s.whoM w
     else if fbit r 4 then w == .seat plantSeat
     else !s.whoM w && w != .seat plantSeat && s.whoDomain w == some (fbits r 3 1))

/-- An event caused by an access of requester `w` (R553). -/
def raiseBy (s : State) (w : Requester) (n cls : Nat) (live : Bool) : State :=
  if s.handlingOwner w then s else raise s n cls live

end Sys2Proof.Machine
end

