-- ==== Sys2Proof/Machine/Bus.lean ====
section
/-! DEFINITION. Building-bus ports (R461 to R466): frames, rings and the master-node state machine of ASHRAE 135
clause 9, which the manual names and does not repeat; its transitions are PRESUMED from that standard. -/

namespace Sys2Proof.Machine

/-- Port `n`'s machine. -/
def State.bb (s : State) (n : Nat) : BbRun := sget BbRun.init s.plant.bbs n
/-- Port `n`'s machine changes by `f`. -/
def State.modBb (s : State) (n : Nat) (f : BbRun → BbRun) : State :=
  { s with plant := { s.plant with bbs := smod BbRun.init s.plant.bbs n f } }

/-- STATE of BBn_STATUS. -/
def bbState (s : State) (n : Nat) : Nat := s.fld (Reg.BBn_STATUS n) 2 0
/-- STATE becomes `x`. -/
def bbGoto (s : State) (n x : Nat) : State := s.setFld (Reg.BBn_STATUS n) 2 0 x
/-- The port runs: enabled, and no stuck line. -/
def bbOn (s : State) (n : Nat) : Bool := s.bit (Reg.BBn_CFG n) 0 && !s.bit (Reg.BBn_STATUS n) 4
/-- MAC, the port's own station. -/
def bbMac (s : State) (n : Nat) : Nat := s.fld (Reg.BBn_CFG n) 7 1
/-- Nmax_info_frames. -/
def bbMaxInfo (s : State) (n : Nat) : Nat := s.fld (Reg.BBn_CFG n) 23 16
/-- NS, the next station. -/
def bbNs (s : State) (n : Nat) : Nat := s.fld (Reg.BBn_STATUS n) 12 6
/-- NS becomes `x`. -/
def bbSetNs (s : State) (n x : Nat) : State := s.setFld (Reg.BBn_STATUS n) 12 6 x
/-- SOLE. -/
def bbSole (s : State) (n : Nat) : Bool := s.bit (Reg.BBn_STATUS n) 3
/-- The station after `x` in polling order. -/
def bbAfter (s : State) (n x : Nat) : Nat := (x + 1) % (s.fld (Reg.BBn_CFG n) 14 8 + 1)

/-- A frame leaves the port. -/
def bbSend (s : State) (n ftype da : Nat) (data : List Byte) : State :=
  { s with out := s.out ++ [.busFrame n ftype da (bbMac s n) data] }

/-- Poll For Master goes to station `p` (clause 9, POLL_FOR_MASTER). PRESUMED (log 77). -/
def bbPoll (s : State) (n p : Nat) : State :=
  let s := s.modBb n (fun b => { b with ps := p, retry := 0 })
  bbGoto (bbSend s n 1 p []) n 6

/-- The token goes to NS (clause 9, PASS_TOKEN). PRESUMED (log 77). -/
def bbPass (s : State) (n : Nat) : State :=
  bbGoto (bbSend (s.modBb n (fun b => { b with retry := 0 })) n 0 (bbNs s n) []) n 5

/-- Clause 9, DONE_WITH_TOKEN: another frame, the next poll, or the token to the next station. PRESUMED (log 77). -/
def bbDone (s : State) (n : Nat) : State :=
  let b := s.bb n
  let ts := bbMac s n
  let ns := bbNs s n
  if b.frameCount < bbMaxInfo s n then bbGoto s n 2
  else if !bbSole s n && ns == ts then bbPoll s n (bbAfter s n ts)
  else if b.tokenCount < 49 then
    let s := s.modBb n (fun b => { b with tokenCount := b.tokenCount + 1 })
    if bbSole s n then bbGoto (s.modBb n (fun b => { b with frameCount := 0 })) n 2 else bbPass s n
  else if bbAfter s n b.ps ≠ ns then bbPoll s n (bbAfter s n b.ps)
  else if bbSole s n then
    bbPoll (bbSetNs (s.modBb n (fun b => { b with tokenCount := 1 })) n ts) n (bbAfter s n ns)
  else bbPass (s.modBb n (fun b => { b with ps := ts, tokenCount := 1 })) n

/-- The port sends no more frames under this token. -/
def bbSpent (s : State) (n : Nat) : State := bbDone (s.modBb n (fun b => { b with frameCount := bbMaxInfo s n })) n

/-! ### Enabling (R462, R470) -/

/-- The machine starts at INITIALIZE and goes to IDLE (clause 9). -/
def bbStart (s : State) (n : Nat) : State :=
  let ts := bbMac s n
  let s := s.modBb n (fun _ => { ps := ts, tokenCount := 50, frameCount := 0, retry := 0, asker := none })
  bbGoto ((bbSetNs s n ts).setBit (Reg.BBn_STATUS n) 3 false) n 1

/-- A write of BBn_CFG (R470): [23:1] take a write only while EN is 0; a MAXINFO of 0 makes the write have no effect. -/
def bbCfgWrite (s : State) (n : Nat) (v : W32) : State :=
  let old := s.reg (Reg.BBn_CFG n)
  if fbit old 0 then
    if fbit v 0 then s else bbGoto (s.setBit (Reg.BBn_CFG n) 0 false) n 0
  else if fbits v 23 16 = 0 then s
  else
    let s := s.setReg (Reg.BBn_CFG n) (v &&& 0xFF7FFF)
    if fbit v 0 then bbStart s n else s

/-- BB_ENABLE (R462): EN is written 1. -/
def execBbEnable (port : Nat) (s : State) : Host.Outcome State Fault Refusal :=
  .next (bbCfgWrite s port (s.reg (Reg.BBn_CFG port) ||| 1))

/-! ### Rings (R464, R465, R470) -/

/-- The 528 bytes of a receive slot, as far as the frame fills them (R464). -/
def bbSlot (s : State) (f : BusFrame) (expect : Bool) : List Byte :=
  leBytes 1 f.ftype ++ leBytes 1 f.da ++ leBytes 1 f.sa ++ leBytes 1 (b2n expect) ++ leBytes 2 f.data.length ++ [0, 0] ++
    leBytes 4 s.ringTime.toNat ++ [0, 0, 0, 0] ++ f.data

/-- A frame is written to the receive ring, or counted in RXOVF; the Bool says it was written (R464). -/
def bbDeliver (s : State) (n : Nat) (f : BusFrame) (expect : Bool) : State × Bool :=
  let ring := s.reg (Reg.BBn_RXRING n)
  let l := fbits ring 22 19
  let tail := s.fld (Reg.BBn_RXTAIL n) 7 0
  let next := (tail + 1) % 2 ^ l
  if l = 0 ∨ next = s.fld (Reg.BBn_RXHEAD n) 7 0 then (s.count (Reg.BBn_RXOVF n) 1, false)
  else
    ((s.storeWrite (plantStore + fbits ring 18 0 + 528 * tail) (bbSlot s f expect)).setFld (Reg.BBn_RXTAIL n) 7 0 next, true)

/-- The next queued slot as type, destination, REPLY and data; slots with a TYPE outside 3 to 7 or a LEN above 501 are
    skipped and counted in DISC first (R465). -/
def bbNext : Nat → State → Nat → State × Option (Nat × Nat × Bool × List Byte)
  | 0, s, _ => (s, none)
  | k + 1, s, n =>
    let ring := s.reg (Reg.BBn_TXRING n)
    let l := fbits ring 22 19
    let head := s.fld (Reg.BBn_TXHEAD n) 7 0
    if l = 0 ∨ head = s.fld (Reg.BBn_TXTAIL n) 7 0 then (s, none)
    else
      let bs := s.storeRead (plantStore + fbits ring 18 0 + 528 * head) 528
      let ty := leAt bs 0 1
      let len := leAt bs 4 2
      if ty < 3 ∨ 7 < ty ∨ 501 < len then
        bbNext k ((s.setFld (Reg.BBn_TXHEAD n) 7 0 ((head + 1) % 2 ^ l)).count (Reg.BBn_DISC n) 1) n
      else (s, some (ty, leAt bs 1 1, leAt bs 3 1 / 2 % 2 == 1, (bs.drop 16).take len))

/-- TXHEAD advances past the slot that was sent (R465). -/
def bbAdvance (s : State) (n : Nat) : State :=
  s.setFld (Reg.BBn_TXHEAD n) 7 0 ((s.fld (Reg.BBn_TXHEAD n) 7 0 + 1) % 2 ^ s.fld (Reg.BBn_TXRING n) 22 19)

/-- BB_FRAME_TX (R463, R465): the port sends its next frame while it holds the token, or the queued reply; a collision
    leaves the frame unsent. -/
def execBbFrameTx (port : Nat) (collide : Bool) (s : State) : Host.Outcome State Fault Refusal :=
  .next (
    if !bbOn s port then s
    else
      let q := bbNext 256 s port
      match bbState s port, q.2 with
      | 2, some (ty, da, _, data) =>
        if collide then q.1.count (Reg.BBn_COLLIDE port) 1
        else
          let s := bbAdvance (bbSend q.1 port ty da data) port
          let s := s.modBb port (fun b => { b with frameCount := b.frameCount + 1 })
          if (ty = 3 ∨ ty = 5) ∧ da ≠ 255 then bbGoto s port 3 else bbDone s port
      | 2, none => bbSpent q.1 port
      | 7, some (ty, da, true, data) =>
        if collide then q.1.count (Reg.BBn_COLLIDE port) 1
        else bbGoto ((bbAdvance (bbSend q.1 port ty da data) port).modBb port (fun b => { b with asker := none })) port 1
      | _, _ => s)

/-! ### Reception (R464, R465) -/

/-- A token for the port arrives (clause 9, ReceivedToken). PRESUMED (log 77). -/
def bbToken (s : State) (n : Nat) : State :=
  bbGoto ((s.modBb n (fun b => { b with frameCount := 0 })).setBit (Reg.BBn_STATUS n) 3 false) n 2

/-- BB_TOKEN_RX (R462). -/
def execBbTokenRx (port : Nat) (s : State) : Host.Outcome State Fault Refusal :=
  .next (if bbOn s port then bbToken s port else s)

/-- A frame that failed a check: a wait for a reply ends with it (clause 9, ReceivedInvalidFrame). -/
def bbInvalid (s : State) (n : Nat) : State := if bbState s n = 3 then bbSpent s n else s

/-- A frame of types 0 to 2 for the port (R461; clause 9). PRESUMED (log 77). -/
def bbHardware (s : State) (n : Nat) (f : BusFrame) : State :=
  match f.ftype with
  | 0 => bbToken s n
  | 1 => bbGoto (bbSend s n 2 f.sa []) n 1
  | _ =>
    if bbState s n = 6 then
      let s := (bbSetNs s n (f.sa % 128)).setBit (Reg.BBn_STATUS n) 3 false
      bbPass (s.modBb n (fun b => { b with ps := bbMac s n, tokenCount := 0 })) n
    else s

/-- A frame of types 3 to 7 for the port (R464, R465; clause 9). PRESUMED (log 77). -/
def bbData (s : State) (n : Nat) (f : BusFrame) : State :=
  let expect := (f.ftype == 3 || f.ftype == 5) && f.da == bbMac s n
  let r := bbDeliver s n f expect
  match bbState s n with
  | 3 => if (f.ftype = 4 ∨ f.ftype = 6 ∨ f.ftype = 7) ∧ f.da = bbMac s n then bbSpent r.1 n else bbGoto r.1 n 1
  | 2 => r.1
  | _ =>
    if expect && r.2 then bbGoto (r.1.modBb n (fun b => { b with asker := some f.sa })) n 7 else bbGoto r.1 n 1

/-- BB_FRAME_RX (R461, R464): a received frame. PRESUMED (log 77). -/
def execBbFrameRx (port : Nat) (f : BusFrame) (s : State) : Host.Outcome State Fault Refusal :=
  .next (
    if !bbOn s port then s
    else if !f.hdrOk then bbInvalid (s.count (Reg.BBn_HDRCRC port) 1) port
    else if !f.dataOk then bbInvalid (s.count (Reg.BBn_DATACRC port) 1) port
    else if 8 ≤ f.ftype ∨ 501 < f.data.length then s.count (Reg.BBn_DISC port) 1
    else if f.da ≠ bbMac s port ∧ (f.da ≠ 255 ∨ f.ftype < 3) then
      (if bbState s port = 5 ∨ bbState s port = 6 then bbGoto s port 1 else s)
    else if f.ftype < 3 then bbHardware s port f
    else bbData s port f)

/-- BB_FRAME_ABORT (R464): a gap of more than Tframe_abort within a frame. -/
def execBbFrameAbort (port : Nat) (s : State) : Host.Outcome State Fault Refusal :=
  .next (if bbOn s port then bbInvalid (s.count (Reg.BBn_ABORT port) 1) port else s)

/-! ### Timers (R462, R465) -/

/-- BB_REPLY_DELAY_EXPIRY (R465): no REPLY slot within RDLY, so Reply Postponed goes out. -/
def execBbReplyDelayExpiry (port : Nat) (s : State) : Host.Outcome State Fault Refusal :=
  .next (
    if bbOn s port && bbState s port == 7 then
      bbGoto ((bbSend s port 7 (((s.bb port).asker).getD 255) []).modBb port (fun b => { b with asker := none })) port 1
    else s)

/-- BB_NO_TOKEN_EXPIRY (R462): silence for Tno_token, and for Tslot × MAC, lets the port claim the token. -/
def execBbNoTokenExpiry (port : Nat) (s : State) : Host.Outcome State Fault Refusal :=
  .next (
    if bbOn s port && (bbState s port == 1 || bbState s port == 6) then
      let ts := bbMac s port
      let s := (bbSetNs s port ts).count (Reg.BBn_TOKLOST port) 1
      bbPoll (s.modBb port (fun b => { b with tokenCount := 0 })) port (bbAfter s port ts)
    else s)

/-- BB_REPLY_TIMEOUT (R462): Treply_timeout while waiting for a reply. -/
def execBbReplyTimeout (port : Nat) (s : State) : Host.Outcome State Fault Refusal :=
  .next (if bbOn s port && bbState s port == 3 then bbSpent s port else s)

/-- BB_USAGE_TIMEOUT (R462): nobody used the token passed, or answered the poll, within Tusage_timeout (clause 9). -/
def execBbUsageTimeout (port : Nat) (s : State) : Host.Outcome State Fault Refusal :=
  .next (
    if !bbOn s port then s
    else
      let b := s.bb port
      let ts := bbMac s port
      if bbState s port = 5 then
        if b.retry < 1 then
          (bbSend s port 0 (bbNs s port) []).modBb port (fun b => { b with retry := b.retry + 1 })
        else
          bbPoll (bbSetNs (s.modBb port (fun b => { b with tokenCount := 0 })) port ts) port (bbAfter s port (bbNs s port))
      else if bbState s port = 6 then
        if bbSole s port then bbGoto (s.modBb port (fun b => { b with frameCount := 0 })) port 2
        else if bbNs s port ≠ ts then bbPass s port
        else if bbAfter s port b.ps ≠ ts then bbPoll s port (bbAfter s port b.ps)
        else bbGoto ((s.modBb port (fun b => { b with frameCount := 0 })).setBit (Reg.BBn_STATUS port) 3 true) port 2
      else s)

/-! ### Stuck line (R466) -/

/-- BB_STUCK (R466): DE is released, one event per episode; its live line clears with DE. -/
def execBbStuck (port : Nat) (s : State) : Host.Outcome State Fault Refusal :=
  .next (
    if !bbOn s port then s
    else liveOff (raise ((s.setBit (Reg.BBn_STATUS port) 4 true).count (Reg.BBn_STUCK port) 1) 30 1 true) 30)

/-- BB_STUCK_CLEAR (R466): 40 bit times of mark; the machine goes on at IDLE without the token. -/
def execBbStuckClear (port : Nat) (s : State) : Host.Outcome State Fault Refusal :=
  .next (
    if s.bit (Reg.BBn_STATUS port) 4 then
      bbGoto (s.setBit (Reg.BBn_STATUS port) 4 false) port (if s.bit (Reg.BBn_CFG port) 0 then 1 else 0)
    else s)

end Sys2Proof.Machine
end

