-- ==== Sys2Proof/Machine/Loop.lean ====
section
/-! DEFINITION. The loop engines: the law (R474 to R476), feedback and deadlines (R479 to R482), the plausibility
model (R483, R484), test signal and capture (R485, R486), and the precedence of overrides (R487). -/

namespace Sys2Proof.Machine

/-! ### Fixed-point arithmetic (R473) -/

/-- A register as an s32. -/
def State.s32 (s : State) (a : Nat) : Int := sint 32 (s.reg a).toNat

/-- `sat32`. -/
def sat32 (v : Int) : Int := clampInt (-(2 ^ 31)) (2 ^ 31 - 1) v

/-- Arithmetic shift right. -/
def sar (v : Int) (k : Nat) : Int := v / 2 ^ k

/-- `rnd(p, k)` for a coefficient register: its shift, rounded (R473). -/
def rnd (coef : W32) (p : Int) : Int :=
  let sh := fbits coef 31 27
  if sh = 0 then p else sar (p + 2 ^ (sh - 1)) sh

/-- A signal times a coefficient register, scaled (R473). -/
def mulCoef (coef : W32) (x : Int) : Int := rnd coef (x * sint 27 (fbits coef 26 0))

/-- The quarter wave of SIN (R485): round(32,767 × sin(2πj / 64)). -/
def sinQuarter : List Int :=
  [0, 3212, 6393, 9512, 12539, 15446, 18204, 20787, 23170, 25329, 27245, 28898, 30273, 31356, 32137, 32609, 32767]

/-- SIN[j] (R485). -/
def sinTable (j : Nat) : Int :=
  let k := j % 64
  let h := k % 32
  let v := (sinQuarter[if h ≤ 16 then h else 32 - h]?).getD 0
  if k < 32 then v else -v

/-! ### Engine state -/

/-- Loop engine `n`. -/
def State.le (s : State) (n : Nat) : LeRun := sget LeRun.init s.plant.les n
/-- Loop engine `n` becomes `r`. -/
def State.setLe (s : State) (n : Nat) (r : LeRun) : State :=
  { s with plant := { s.plant with les := sset LeRun.init s.plant.les n r } }
/-- Loop engine `n` changes by `f`. -/
def State.modLe (s : State) (n : Nat) (f : LeRun → LeRun) : State := s.setLe n (f (s.le n))

/-- LEn_CFG in force. -/
def State.leCfg (s : State) (n : Nat) : W32 := s.act (Reg.LEn_CFG n)
/-- EN in force. -/
def State.leOn (s : State) (n : Nat) : Bool := decide (n < s.variant.les) && fbit (s.leCfg n) 0

/-- The level the overrides and the law give engine `n` (R487). -/
def State.leLevel (s : State) (n : Nat) : Nat :=
  let c := s.leCfg n
  if !s.leOn n then 0
  else if s.safeState != 3 then fbits c 26 25
  else if s.bit (Reg.LEn_STATUS n) 3 then fbits c 26 25
  else if s.bit (Reg.LEn_STATUS n) 7 then s.fld (Reg.LEn_DWELL n) 17 16
  else if s.bit (Reg.LEn_STATUS n) 5 && s.bit (Reg.LEn_TEST n) 2 then
    if (s.le n).tpos then s.fld (Reg.LEn_TEST n) 6 5 else s.fld (Reg.LEn_TEST n) 4 3
  else (s.le n).q

/-- An override of R487 holds on engine `n`. -/
def State.leOverride (s : State) (n : Nat) : Bool :=
  s.safeState != 3 || s.bit (Reg.LEn_STATUS n) 3 || s.bit (Reg.LEn_STATUS n) 7 ||
  (s.bit (Reg.LEn_STATUS n) 5 && s.bit (Reg.LEn_TEST n) 2)

/-- The published level of engine `n`, as LEn_STATUS.LEVEL shows it (R472). -/
def State.lePublished (s : State) (n : Nat) : Nat := s.fld (Reg.LEn_STATUS n) 1 0

/-- The level is published (R472, R482); SAFE shows the safe-state override. -/
def lePublish (s : State) (n : Nat) : State :=
  let s := s.setFld (Reg.LEn_STATUS n) 1 0 (s.leLevel n)
  (s.setBit (Reg.LEn_STATUS n) 8 (s.leOn n && s.safeState != 3)).modLe n (fun r => { r with due := false })

/-- An evaluation's level goes out at once for an event-driven engine, at the PHASE point for a timed one (R482). -/
def leOut (s : State) (n : Nat) : State :=
  if fbit (s.leCfg n) 5 then lePublish s n else s.modLe n (fun r => { r with due := true })

/-! ### Live lines (R467, R489) -/

/-- The live line of source 23 clears when neither LAPSED, a MISSLIM override nor a CFGERR holds it. DEDUCED (log 70). -/
def clear23 (s : State) : State :=
  if s.bit Reg.PLT_STATUS 0 then s
  else if (List.range s.variant.les).any (fun n => s.bit (Reg.LEn_STATUS n) 6 || s.bit (Reg.LEn_STATUS n) 7) then s
  else if s.live 23 then liveOff s 23 else s

/-- PLLIVE of engine `n` clears; source 24's live line clears with the last one (R484, R489). -/
def clearPllive (s : State) (n : Nat) : State :=
  if s.bit (Reg.LEn_STATUS n) 4 then
    let s := s.setBit (Reg.LEn_STATUS n) 4 false
    if (List.range s.variant.les).any (fun m => s.bit (Reg.LEn_STATUS m) 4) then s else liveOff s 24
  else s

/-! ### Test signal and capture (R485, R486) -/

/-- The sign and value of the signal at step `k` of the sine and the square (R485). -/
def testWave (mode : Nat) (k : Nat) (tamp : Int) : Int × Bool :=
  if mode = 2 then (if k % 2 = 0 then (tamp, true) else (-tamp, false))
  else (sar (tamp * sinTable k + 16384) 15, decide (0 < sinTable k))

/-- The test signal of a fresh evaluation: it steps once every TDIV of them (R485). DEDUCED (log 69). -/
def leSignal (s : State) (n : Nat) : State :=
  if !s.bit (Reg.LEn_STATUS n) 5 then s
  else
    let r := s.le n
    let tdiv := s.fld (Reg.LEn_TEST n) 23 8
    let tamp : Int := (s.fld (Reg.LEn_TAMP n) 30 0 : Nat)
    let mode := s.fld (Reg.LEn_TEST n) 1 0
    let k := r.tevals / tdiv
    let r := { r with tevals := r.tevals + 1 }
    if mode = 1 then
      if (r.tevals - 1) % tdiv = 0 ∧ 0 < k then
        let b := (r.prbs / 1024 + r.prbs / 256) % 2
        s.setLe n { r with prbs := (r.prbs * 2 + b) % 2048, tpos := b == 1, sig := if b = 1 then tamp else -tamp }
      else s.setLe n { r with sig := if r.tpos then tamp else -tamp }
    else
      let w := testWave mode k tamp
      s.setLe n { r with sig := w.1, tpos := w.2 }

/-- Every CDIV-th evaluation of the captured engine stores a sample (R486). DEDUCED (log 69). -/
def leCapture (s : State) (n : Nat) (missed : Bool) : State :=
  if s.bit Reg.LE_CAP_STATUS 0 && !s.bit Reg.LE_CAP_STATUS 15 && s.fld Reg.LE_CAP_CTL 4 0 == n then
    let skip := s.plant.capSkip + 1
    if skip < s.fld Reg.LE_CAP_CTL 14 7 then { s with plant := { s.plant with capSkip := skip } }
    else
      let i := s.fld Reg.LE_CAP_STATUS 14 2
      let a : W32 := match s.fld Reg.LE_CAP_CTL 6 5 with
        | 0 => s.reg (Reg.LEn_YF n) | 1 => s.reg (Reg.LEn_FB n) | 2 => BitVec.ofInt 32 (s.le n).lastE | _ => s.reg (Reg.LEn_MODEL n)
      let inj := s.bit (Reg.LEn_STATUS n) 5
      let sg := clampInt (-(2 ^ 23)) (2 ^ 23 - 1) (if inj then (s.le n).sig else 0)
      let b := s.leLevel n + 4 * b2n missed + 8 * b2n inj + 256 * uint 24 sg
      let s := (s.setReg (Reg.LE_CAP_Ai i) a).setReg (Reg.LE_CAP_Bi i) (BitVec.ofNat 32 b)
      let s := { s with plant := { s.plant with capSkip := 0 } }
      let s := s.setFld Reg.LE_CAP_STATUS 14 2 (i + 1)
      if i + 1 = 4096 then (s.setBit Reg.LE_CAP_STATUS 0 false).setBit Reg.LE_CAP_STATUS 1 true else s
  else s

/-! ### The evaluations (R474 to R484) -/

/-- The notch of R474: the new states and yf. -/
def leNotch (s : State) (n : Nat) (r : LeRun) (x : Int) : LeRun × Int :=
  if fbit (s.leCfg n) 4 then
    let c (k : Nat) := s.act (Reg.LEn_COEFk n k)
    let a := mulCoef (c 0) x + mulCoef (c 1) r.x1 + mulCoef (c 2) r.x2 - mulCoef (c 3) r.y1 - mulCoef (c 4) r.y2
    let yf := sat32 a
    ({ r with x2 := r.x1, x1 := x, y2 := r.y1, y1 := yf }, yf)
  else (r, x)

/-- The dwell counts and the step of the level (R474); the Bool says that the level moved. -/
def leStep (r : LeRun) (e band : Int) (dwell nlev : Nat) : LeRun × Bool :=
  let r := if e > band then { r with up := min (r.up + 1) 255, dn := 0 }
    else if e < -band then { r with dn := min (r.dn + 1) 255, up := 0 } else { r with up := 0, dn := 0 }
  if max dwell 1 ≤ r.up ∧ r.q + 1 < nlev then ({ r with q := r.q + 1, up := 0 }, true)
  else if max dwell 1 ≤ r.dn ∧ 0 < r.q then ({ r with q := r.q - 1, dn := 0 }, true)
  else (r, false)

/-- The level is against the end the error drives it to, so integration is held (R474). -/
def leHeld (q nlev : Nat) (e band : Int) : Bool := (decide (q + 1 = nlev) && decide (e > band)) || (q == 0 && decide (e < -band))

/-- The integral's new value (R474). -/
def leInteg (iacc dr : Int) (ilim : Nat) : Int := clampInt (-((ilim : Int) * 65536)) ((ilim : Int) * 65536) (iacc + dr)

/-- The law on one error: dwell counts, step and integral (R474). -/
def leLaw (s : State) (n : Nat) (yf : Int) : State :=
  let r := s.le n
  let c := s.leCfg n
  let nlev := fbits c 2 1 + 1
  let band : Int := (s.fld (Reg.LEn_BAND n) 30 0 : Nat)
  let sp := s.s32 (Reg.LEn_SP n)
  let sp := if s.bit (Reg.LEn_STATUS n) 5 && !s.bit (Reg.LEn_TEST n) 2 then sat32 (sp + r.sig) else sp
  let d := sat32 (sp - yf)
  let d := if fbit c 3 then sat32 (-d) else d
  let e := sat32 (d + sar r.iacc 16)
  let st := leStep r e band (s.fld (Reg.LEn_DWELL n) 7 0) nlev
  let r := { st.1 with lastE := e }
  let ilim := s.fld (Reg.LEn_ILIM n) 30 0
  let held := leHeld r.q nlev e band
  let r := if held then r else { r with iacc := leInteg r.iacc (mulCoef (s.act (Reg.LEn_COEFk n 5)) d) ilim }
  let s := if st.2 then s.count (Reg.LEn_STEPCNT n) 1 else s
  let s := (s.setLe n r).setBit (Reg.LEn_STATUS n) 10 held
  (s.setBit (Reg.LEn_STATUS n) 9 (decide (r.iacc.natAbs = ilim * 65536))).setReg (Reg.LEn_ISH n) (BitVec.ofInt 32 (sar r.iacc 16))

/-- The error an overridden evaluation still forms (R475, R486). -/
def leError (s : State) (n : Nat) (yf : Int) : State :=
  let d := sat32 (s.s32 (Reg.LEn_SP n) - yf)
  let d := if fbit (s.leCfg n) 3 then sat32 (-d) else d
  s.modLe n (fun r => { r with lastE := sat32 (d + sar r.iacc 16) })

/-- The plausibility model and its mismatch dwell (R483, R484). DEDUCED (log 70). -/
def leModel (s : State) (n : Nat) (yf : Int) : State :=
  let r := s.le n
  let mdead := s.fld (Reg.LEn_PLAUS n) 7 0
  let qh := (r.hist[max mdead 1 - 1]?).getD 0
  let u : Int := ((s.fld (Reg.LEn_MU n) (8 * qh + 7) (8 * qh) * 256 : Nat) : Int)
  let tgt := sat32 (s.s32 (Reg.LEn_MOFS n) + mulCoef (s.act (Reg.LEn_COEFk n 6)) u)
  let d := clampInt (-(2 ^ 36)) (2 ^ 36 - 1) (tgt * 65536 - r.macc)
  let macc := r.macc + mulCoef (s.act (Reg.LEn_COEFk n 7)) d
  let m := sat32 (sar macc 16)
  let r := { r with macc := macc }
  let s := (s.setLe n r).setReg (Reg.LEn_MODEL n) (BitVec.ofInt 32 m)
  let mtol := s.fld (Reg.LEn_MTOL n) 30 0
  if mtol = 0 then s
  else
    let r := if mtol < (yf - m).natAbs then { r with mis := min (r.mis + 1) 255, ok := 0 }
      else { r with ok := min (r.ok + 1) 255, mis := 0 }
    let s := s.setLe n r
    let dw := max (s.fld (Reg.LEn_PLAUS n) 15 8) 1
    if dw ≤ r.mis then
      if s.bit (Reg.LEn_STATUS n) 4 then s
      else
        let s := (s.setBit (Reg.LEn_STATUS n) 4 true).setBit (Reg.LEn_STATUS n) 3 true
        raise (s.count (Reg.LEn_PLCNT n) 1) 24 1 true
    else if dw ≤ r.ok then clearPllive s n
    else s

/-- The states are initialised from the evaluation's own feedback when that is due (R476). -/
def leInit (r : LeRun) (x : Int) : LeRun :=
  if r.initDue then { r with initDue := false, modelDue := true, x1 := x, x2 := x, y1 := x, y2 := x, up := 0, dn := 0 } else r

/-- The model is re-initialised from the first fresh yf when that is due (R476, R478). -/
def leModelInit (r : LeRun) (yf : Int) : LeRun :=
  if r.modelDue then { r with modelDue := false, macc := yf * 65536 } else r

/-- An override that has ended leaves q at the level published during it (R475). DEDUCED (log 69). -/
def leResume (s : State) (n : Nat) : State :=
  if s.leOverride n then s.modLe n (fun r => { r with forced := true })
  else if (s.le n).forced then s.modLe n (fun r => { r with q := s.lePublished n, up := 0, dn := 0, forced := false })
  else s

/-- A fresh evaluation of engine `n` on feedback `x` (R474, R475, R483, R484). -/
def leFresh (s : State) (n : Nat) (x : Int) : State :=
  let missed := s.bit (Reg.LEn_STATUS n) 7
  let s := s.setBit (Reg.LEn_STATUS n) 7 false
  let s := if missed then clear23 (s.modLe n (fun r => { r with forced := true })) else s
  let s := leResume s n
  let s := leSignal s n
  let f := leNotch s n (leInit (s.le n) x) x
  let s := s.setLe n { leModelInit f.1 f.2 with arrived := false, missRun := 0, freshAt := some s.ringTime }
  let s := (s.setReg (Reg.LEn_FB n) (BitVec.ofInt 32 x)).setReg (Reg.LEn_YF n) (BitVec.ofInt 32 f.2)
  let s := if s.leOverride n then (leError s n f.2).setBit (Reg.LEn_STATUS n) 10 true else leLaw s n f.2
  let s := leModel s n f.2
  let s := s.modLe n (fun r => { r with hist := (s.leLevel n :: r.hist).take 256 })
  leOut (leCapture s n false) n

/-- A missed evaluation of engine `n` (R481). -/
def leMissed (s : State) (n : Nat) : State :=
  let s := (s.setBit (Reg.LEn_STATUS n) 2 true).count (Reg.LEn_MISSCNT n) 1
  let s := s.modLe n (fun r => { r with missRun := r.missRun + 1 })
  let lim := s.fld (Reg.LEn_DWELL n) 15 8
  let s := if 0 < lim ∧ lim ≤ (s.le n).missRun ∧ !s.bit (Reg.LEn_STATUS n) 7 then
      raise (s.setBit (Reg.LEn_STATUS n) 7 true) 23 0 true
    else s
  leOut (leCapture s n true) n

/-- A feedback arrival: the latest value counts, and an event-driven engine evaluates it (R479, R480). -/
def leArrive (s : State) (n : Nat) (x : Int) : State :=
  if !s.leOn n then s
  else
    let s := s.modLe n (fun r => { r with arrived := true, latest := x })
    if fbit (s.leCfg n) 5 then leFresh s n x else s

/-- FBSRC and FBSEL in force name no source of this variant (R479). DEDUCED (log 70). -/
def State.leCfgErr (s : State) (n : Nat) : Bool :=
  fbits (s.leCfg n) 7 6 == 2 &&
    (decide (s.variant.tus ≤ fbits (s.leCfg n) 10 8) || fbits (s.leCfg n) 16 15 == 3)

/-- A value arrives at every engine whose source in force is the one named (R479). -/
def leSource (s : State) (fbsrc : Nat) (sel : Nat → Bool) (x : Nat → Int) : State :=
  s.each (List.range s.variant.les) (fun s n =>
    if fbits (s.leCfg n) 7 6 == fbsrc && sel (fbits (s.leCfg n) 16 8) && !s.bit (Reg.LEn_STATUS n) 6 then
      leArrive s n (x (fbits (s.leCfg n) 16 8))
    else s)

/-! ### Settings (R476, R478, R487) -/

/-- All state of engine `n` is cleared, as EN = 0 in force does (R487). -/
def leClear (s : State) (n : Nat) : State :=
  let s := clearPllive s n
  let st := s.reg (Reg.LEn_STATUS n)
  let s := s.setReg (Reg.LEn_STATUS n) (st &&& 0x44)
  clear23 ((s.setLe n LeRun.init).setReg (Reg.LEn_ISH n) 0)

/-- LEn_CFG has come into force in place of `old` (R476, R478, R479). -/
def leApplied (s : State) (n : Nat) (old : W32) : State :=
  let c := s.leCfg n
  if !(n < s.variant.les) then s
  else
    let s := if !fbit c 0 then leClear s n
      else if !fbit old 0 then s.setLe n LeRun.init
      else if fbits old 7 6 != fbits c 7 6 || fbits old 16 8 != fbits c 16 8 || fbit old 4 != fbit c 4 then
        s.modLe n (fun r => { r with initDue := true })
      else s
    let s := s.modLe n (fun r => { r with q := min r.q (fbits c 2 1) })
    let err := s.leCfgErr n
    let was := s.bit (Reg.LEn_STATUS n) 6
    let s := s.setBit (Reg.LEn_STATUS n) 6 err
    if err && !was then raise s 23 0 true else if was && !err then clear23 s else s

/-- LEn_PLAUS, LEn_MTOL, LEn_MOFS or LEn_MU was written (R478). -/
def leModelWritten (s : State) (n : Nat) : State := s.modLe n (fun r => { r with modelDue := true, mis := 0, ok := 0 })

/-! ### Commands -/

/-- LE_TIMED_EVALUATE (R480): every PER µs a timed engine evaluates, fresh or missed. -/
def execLeTimedEvaluate (le : Nat) (s : State) : Host.Outcome State Fault Refusal :=
  if s.leOn le && !fbit (s.leCfg le) 5 && decide (0 < s.fld (Reg.LEn_PER le) 23 0) then
    .next (if (s.le le).arrived then leFresh s le (s.le le).latest else leMissed s le)
  else .next s

/-- LE_FEEDBACK_ARRIVAL (R479): a value arrives from the engine's source in force. -/
def execLeFeedbackArrival (le : Nat) (x : W32) (s : State) : Host.Outcome State Fault Refusal :=
  .next (if s.bit (Reg.LEn_STATUS le) 6 then s else leArrive s le (sint 32 x.toNat))

/-- LE_MISSED_EVALUATION (R480, R481): PER µs have passed without an arrival. -/
def execLeMissedEvaluation (le : Nat) (s : State) : Host.Outcome State Fault Refusal :=
  if s.leOn le && decide (0 < s.fld (Reg.LEn_PER le) 23 0) && !(s.le le).arrived then .next (leMissed s le) else .next s

/-- LE_PUBLISH (R482): the PHASE point of a timed engine's period. -/
def execLePublish (le : Nat) (s : State) : Host.Outcome State Fault Refusal :=
  .next (if s.leOn le && (s.le le).due then lePublish s le else s)

/-- LE_FBIN_WRITE (R479). -/
def leFbin (s : State) (le : Nat) (x : W32) : State :=
  if s.variant.les ≤ le then s else
  let s := s.setReg (Reg.LEn_FBIN le) x
  if fbits (s.leCfg le) 7 6 = 0 then leArrive s le (sint 32 x.toNat) else s

/-- LE_FBIN_WRITE (R479): a write of LEn_FBIN is a firmware arrival of an engine with FBSRC = FW. -/
def execLeFbinWrite (le : Nat) (x : W32) (s : State) : Host.Outcome State Fault Refusal := .next (leFbin s le x)

/-- CMD.RESET (R476): IACC clears, q stays, and the next fresh evaluation initialises the states. -/
def leReset (s : State) (n : Nat) : State :=
  if s.variant.les ≤ n then s else
  (s.modLe n (fun r => { r with iacc := 0, initDue := true })).setReg (Reg.LEn_ISH n) 0

/-- LE_CMD_RESET (R476). -/
def execLeCmdReset (le : Nat) (s : State) : Host.Outcome State Fault Refusal := .next (leReset s le)

/-- CMD.CLRPL (R484): PLFAIL clears only while PLLIVE is 0. -/
def leClrpl (s : State) (n : Nat) : State :=
  if s.variant.les ≤ n || s.bit (Reg.LEn_STATUS n) 4 then s
  else (s.modLe n (fun r => { r with forced := true })).setBit (Reg.LEn_STATUS n) 3 false

/-- LE_CLRPL (R484). -/
def execLeClrpl (le : Nat) (s : State) : Host.Outcome State Fault Refusal := .next (leClrpl s le)

/-- CMD.TSTART (R485); a capture armed on the engine begins (R486). The sign of the PRBS before its first step is free.
    DEDUCED (log 69). -/
def leTstart (s : State) (n : Nat) : State :=
  if !s.leOn n || s.fld (Reg.LEn_TEST n) 1 0 == 0 || s.fld (Reg.LEn_TEST n) 23 8 == 0 || s.bit (Reg.LEn_STATUS n) 5 then s
  else
    let f := s.draw
    let s := f.2.modLe n (fun r => { r with tevals := 0, prbs := 0x7FF, sig := 0, tpos := if s.fld (Reg.LEn_TEST n) 1 0 = 1 then f.1.getLsbD 0 else s.fld (Reg.LEn_TEST n) 1 0 == 2 })
    let s := s.setBit (Reg.LEn_STATUS n) 5 true
    if s.bit Reg.LE_CAP_STATUS 15 && s.fld Reg.LE_CAP_CTL 4 0 == n then s.setBit Reg.LE_CAP_STATUS 15 false else s

/-- LE_TSTART (R485). -/
def execLeTstart (le : Nat) (s : State) : Host.Outcome State Fault Refusal := .next (leTstart s le)

/-- CMD.TSTOP (R485). DEDUCED (log 69). -/
def leTstop (s : State) (n : Nat) : State :=
  if s.bit (Reg.LEn_STATUS n) 5 then
    (s.setBit (Reg.LEn_STATUS n) 5 false).modLe n (fun r => { r with sig := 0, forced := r.forced || s.bit (Reg.LEn_TEST n) 2 })
  else s

/-- LE_TSTOP (R485). -/
def execLeTstop (le : Nat) (s : State) : Host.Outcome State Fault Refusal := .next (leTstop s le)

/-- LE_CAP_CMD.START (R486): COUNT clears and capture begins, or is armed for the engine's next TSTART. -/
def leCapStart (s : State) : State :=
  let s := { s with plant := { s.plant with capSkip := 0 } }
  if s.fld Reg.LE_CAP_CTL 14 7 = 0 then s.setReg Reg.LE_CAP_STATUS 2
  else s.setReg Reg.LE_CAP_STATUS (if s.bit Reg.LE_CAP_CTL 15 then 0x8001 else 1)

/-- LE_CAP_START (R486). -/
def execLeCapStart (s : State) : Host.Outcome State Fault Refusal := .next (leCapStart s)

/-- LE_CAP_CMD.STOP (R486). -/
def leCapStop (s : State) : State := (s.setBit Reg.LE_CAP_STATUS 0 false).setBit Reg.LE_CAP_STATUS 15 false

/-- LE_CAP_STOP (R486). -/
def execLeCapStop (s : State) : Host.Outcome State Fault Refusal := .next (leCapStop s)

end Sys2Proof.Machine
end

