-- ==== Sys2Proof/Machine/Flash.lean ====
section
/-! DEFINITION. Direct execution from the SPI0 flash through the prefetch buffer (R445, R538 to R540). -/

namespace Sys2Proof.Machine

/-- SPI port `n` beyond its registers. -/
def State.spi (s : State) (n : Nat) : SpiRun := sget SpiRun.init s.plant.spis n
/-- SPI port `n` changes by `f`. -/
def State.modSpi (s : State) (n : Nat) (f : SpiRun → SpiRun) : State :=
  { s with plant := { s.plant with spis := smod SpiRun.init s.plant.spis n f } }

/-- `n` bytes of the flash from address `a`; an erased byte reads 0xFF (R599). -/
def State.flashAt (s : State) (a n : Nat) : List Byte := (List.range n).map (fun i => sget 0xFF s.flash (a + i))

/-- A read of flash address `off` can be served: direct execution is on, select 0 is enabled, and the address has a length
    the frame can send (R538, R539). -/
def dxReadable (s : State) (off : Nat) : Bool :=
  s.bit Reg.SPI0_DXCFG 0 && s.bit (Reg.SPIn_CFG 0) 24 && s.bit (Reg.SPIn_SELEN 0) 0 &&
  (s.bit Reg.SPI0_DXCFG 2 || decide (off ≤ 0xFFFFFF))

/-- Line `a` of the flash: its 32 bytes. -/
def flashLine (s : State) (a : Nat) : Nat × List Byte := (a, s.flashAt (32 * a) 32)

/-- A miss reads the line and the one that follows it, which replace the two least recently used (R538, R539).
    DEDUCED (log 84). -/
def dxMiss (s : State) (a : Nat) : State :=
  let rest := ((s.spi 0).lines.filter (fun l => l.1 != a && l.1 != a + 1)).take 6
  let s := s.modSpi 0 (fun p => { p with lines := [flashLine s a, flashLine s (a + 1)] ++ rest, cont := s.bit Reg.SPI0_DXCFG 1 })
  s.count Reg.SPI0_DXMISS 1

/-- One access within line `a`: a hit moves the line to the front, a miss reads it. -/
def dxTouchLine (s : State) (a : Nat) : State :=
  match (s.spi 0).lines.find? (fun l => l.1 == a) with
  | some l =>
    (s.modSpi 0 (fun p => { p with lines := l :: p.lines.filter (fun m => m.1 != a) })).count Reg.SPI0_DXHIT 1
  | none => dxMiss s a

/-- `n` bytes at flash address `off` go through the buffer. DEDUCED (log 84). -/
def dxTouch (s : State) (off n : Nat) : State := s.each (spanning 32 off n) dxTouchLine

/-- What the buffer holds of the byte at flash address `off`. -/
def dxByte (s : State) (off : Nat) : Byte :=
  match (s.spi 0).lines.find? (fun l => l.1 == off / 32) with
  | some l => (l.2[off % 32]?).getD 0
  | none => sget 0xFF s.flash off

/-- A load of `n` bytes from the flash: the bytes, and the state after the buffer served them (R445, R538). -/
def dxRead (s : State) (off n : Nat) : Option (List Byte × State) :=
  if dxReadable s (off + n - 1) then
    let s := dxTouch s off n
    some ((List.range n).map (fun i => dxByte s (off + i)), s)
  else none

end Sys2Proof.Machine
end

