-- ==== Sys2Proof/Machine/Operands.lean ====
section
/-! DEFINITION. The operand forms of Zufer: instruction words (R78 to R80), window descriptors (R54) and their
access check (R55, R60), and the elements of vector registers (R41, R89). -/

namespace Sys2Proof.Machine

/-! ### Instruction words (R78), for the TVAL of ILLEGAL_INSN, PRIVILEGED, ABSENT_UNIT and STG_DESC -/

/-- A word from its fields: value and lowest bit. -/
def word (fs : List (Nat × Nat)) : W64 := BitVec.ofNat 64 (fs.foldl (fun w f => w + f.1 * 2 ^ f.2) 0)

/-- Format R. -/
def wordR (op rd ra rb fn : Nat) : W64 := word [(op, 26), (rd, 21), (ra, 16), (rb, 11), (fn, 0)]
/-- Format V. -/
def wordV (op vd va vb p ew fn : Nat) : W64 := word [(op, 26), (vd, 21), (va, 16), (vb, 11), (p, 8), (ew, 6), (fn, 0)]
/-- Format VM. -/
def wordVM (op vd w ra rb p ew : Nat) : W64 := word [(op, 26), (vd, 21), (w, 17), (ra, 12), (rb, 7), (p, 4), (ew, 2)]
/-- Format P. -/
def wordP (rd pa pb ew fn : Nat) : W64 := word [(0x2A, 26), (rd, 21), (pa, 18), (pb, 15), (ew, 13), (fn, 0)]
/-- Format SV. -/
def wordSV (rd ra ew : Nat) : W64 := word [(0x2B, 26), (rd, 21), (ra, 16), (ew, 14)]
/-- Format W. -/
def wordW (d a b fn imm : Nat) : W64 := word [(0x31, 26), (d, 21), (a, 16), (b, 11), (fn, 6), (imm, 0)]
/-- Format S. -/
def wordS (rd ra fn imm : Nat) : W64 := word [(0x2D, 26), (rd, 21), (ra, 16), (fn, 12), (imm, 0)]
/-- Format WP. -/
def wordWP (rd ra web : Nat) : W64 := word [(0x2E, 26), (rd, 21), (ra, 16), (web, 14)]
/-- Word 0 of a long form. -/
def wordL (lop low : Nat) : W64 := word [(0x3F, 26), (lop, 20), (low, 0)]

/-! ### Window descriptors (R54) -/

/-- BASE. -/
def dBase (d : Desc) : Nat := fbits d 47 0
/-- LENGTH. -/
def dLen (d : Desc) : Nat := fbits d 87 48
/-- The five rights R, W, X, S, E in bits 0 to 4. -/
def dRights (d : Desc) : Nat := fbits d 92 88
/-- HDOM. -/
def dHdom (d : Desc) : Nat := fbits d 95 93
/-- TID. -/
def dTid (d : Desc) : Nat := fbits d 111 96
/-- KTAG. -/
def dKtag (d : Desc) : BitVec 14 := BitVec.ofNat 14 (fbits d 125 112)
/-- LOC. -/
def dLoc (d : Desc) : Bool := fbit d 126
/-- V. -/
def dValid (d : Desc) : Bool := fbit d 127

/-- A descriptor from its fields (R54). -/
def mkDesc (base len rights hdom tid ktag : Nat) (loc valid : Bool) : Desc :=
  BitVec.ofNat 128 (base % 2 ^ 48 + (len % 2 ^ 40) * 2 ^ 48 + (rights % 32) * 2 ^ 88 + (hdom % 8) * 2 ^ 93 +
    (tid % 2 ^ 16) * 2 ^ 96 + (ktag % 2 ^ 14) * 2 ^ 112 + b2n loc * 2 ^ 126 + b2n valid * 2 ^ 127)

/-- The rows of LOC = 1 offsets of a profile (R55). -/
def locRows (plant : Bool) : List (Nat × Nat) :=
  if plant then [(0x00000000, 0x0007FFFF), (0x10000000, 0x1FFFFFFF)]
  else [(0x00000000, 0x01FFFFFF), (0x02000000, 0x020FFFFF)]

/-- The range check of WLOAD (R55): true when the descriptor may be loaded. -/
def descInRange (plant : Bool) (d : Desc) : Bool :=
  if dLoc d then
    (locRows plant).any (fun r => decide (r.1 ≤ dBase d) && decide (dBase d ≤ r.2) &&
      (dLen d == 0 || decide (dBase d + dLen d - 1 ≤ r.2)))
  else decide (dBase d + dLen d ≤ 2 ^ 48)

/-- The rights bits a kind of access needs (R54, R88, R107). -/
def Kind.need : Kind → Nat
  | .load => 1 | .store => 2 | .atomic => 3 | .fetch => 4 | .stageRead => 8 | .stageEmit => 16

/-- TSTATE.KIND (R67). -/
def Kind.code : Kind → Nat
  | .load => 0 | .store => 1 | .atomic => 2 | .fetch => 3 | .stageRead => 4 | .stageEmit => 5

/-- Every bit of `need` is set in `have'`. -/
def hasRights (have' need : Nat) : Bool := have' &&& need == need

/-- The owner check of R60 for the mode. -/
def ownerOk (t : Seat) (d : Desc) : Bool :=
  match t.mode with
  | .t => dHdom d == t.hdom && dTid d == t.tid
  | .h => dHdom d == t.hdom
  | .m => true

/-- The access check of R60, without the access: the trap cause of the first failing check. -/
def checkAccess (s : State) (t : Seat) (plant : Bool) (d : Desc) (off size align need : Nat) (atomic : Bool) : Option Nat :=
  if !dValid d then some 0x04
  else if dLen d = 0 then some 0x05
  else if !ownerOk t d then some 0x06
  else if !hasRights (dRights d) need then some 0x07
  else if off + size > dLen d then some 0x08
  else if off % align ≠ 0 then some 0x09
  else if atomic && ((!dLoc d && isControl (dBase d + off)) ||
      (dLoc d && plant && decide (0x10000000 ≤ dBase d))) then some 0x0E
  else if !dLoc d && s.inMemory (dBase d + off) 1 && !s.tagsMatch (dBase d + off) (min size (s.memSize - (dBase d + off))) (dKtag d) then some 0x0A
  else none

/-- Where an access through a window lands. -/
inductive Target
  | memory (addr : Nat)
  | control (addr : Nat)
  | store (key : Nat)
  | flash (off : Nat)
  | nowhere
  deriving DecidableEq, Repr

/-- The place an offset of a window names, for a seat (R54, R55, R35, R5). -/
def target (s : State) (i : Nat) (d : Desc) (off : Nat) : Target :=
  let a := dBase d + off
  if dLoc d then
    if i = plantSeat then
      if a < 0x80000 then .store (plantStore + a)
      else if 0x10000000 ≤ a ∧ a < 0x20000000 then .flash (a - 0x10000000) else .nowhere
    else if a < 0x2000000 then .store (engineStore (seatEngine i) + a)
    else if a < 0x2100000 then .store (coreStore (seatEngine i) (seatCore i) + (a - 0x2000000)) else .nowhere
  else if a < s.memSize then .memory a
  else if isControl a then .control a
  else .nowhere

/-! ### Vector elements (R41, R89) -/

/-- The element size in bytes of an EW field (R77). -/
def esize (ew : BitVec 2) : Nat := 2 ^ ew.toNat

/-- Element `i` of a vector register, as an unsigned number. -/
def velem (v : VReg) (ew : BitVec 2) (i : Nat) : Nat :=
  (v.toNat / 2 ^ (8 * esize ew * i)) % 2 ^ (8 * esize ew)

/-- A vector register with element `i` replaced. -/
def vput (v : VReg) (ew : BitVec 2) (i x : Nat) : VReg :=
  fset v (8 * esize ew * (i + 1) - 1) (8 * esize ew * i) x

/-- The elements a register holds at a width (R40). -/
def vcap (ew : BitVec 2) : Nat := 256 / esize ew

/-- Element `i` is active: below VL, and its predicate bit is 1; P = 0 names no predicate (R41, R77). -/
def vactive (t : Seat) (p : Nat) (ew : BitVec 2) (i : Nat) : Bool :=
  decide (i < t.vl) && (p == 0 || (t.px p).getLsbD (i * esize ew))

/-- The active elements in ascending order. -/
def vactives (t : Seat) (p : Nat) (ew : BitVec 2) : List Nat :=
  (List.range (min t.vl (vcap ew))).filter (vactive t p ew)

end Sys2Proof.Machine
end

