-- ==== Sys2Proof/Machine/Seats.lean ====
section
/-! DEFINITION. Running a seat: traps (R68 to R74), pending events, issue (R49 to R52, R73), instruction fetch
(R75, R84, R99), seat states and the plant thread's restart (R46, R137, R443). -/

namespace Sys2Proof.Machine

/-! ### Traps (R69, R70, R72) -/

/-- The mode a trap is taken to, before R72 (R69). -/
def trapMode (t : Seat) (cause : Nat) : Mode :=
  if t.mode == .m || !(t.scrGet 0x026).getLsbD cause || cause == 0x13 || cause == 0x15 then .m else .h

/-- TSTATE as trap entry writes it (R67, R70): PM, PIE, BUSY and the failing access. -/
def trapState (t : Seat) (x : Mode) (access : Nat) : W64 :=
  BitVec.ofNat 64 (t.mode.code + 4 * b2n (t.scrGet (trapBank x + 5) != 0) + 8 + 16 * (access % 2 ^ 12))

/-- The WIN, KIND and SIZE fields of a failing access, as bits [15:4] of TSTATE (R67). -/
def accessField (win : Nat) (kind : Kind) (size : Nat) : Nat :=
  win % 32 + 32 * kind.code + 256 * Nat.log2 size

/-- Trap entry to mode `x` as one step (R70). DEDUCED (log 15). -/
def trapEntry (t : Seat) (x : Mode) (cause : Nat) (tpc : Pc) (tval : W64) (access : Nat) : Seat :=
  let b := trapBank x
  let ts := trapState t x access
  let t := ((t.scrSet b (BitVec.ofNat 64 cause)).scrSet (b + 1) (BitVec.ofNat 64 tpc.toNat)).scrSet (b + 2) tval
  let t := (t.scrSet (b + 3) ts).scrSet (b + 5) 0
  { t with mode := x, pc := BitVec.ofNat 40 (t.scrGet (b + 4)).toNat }

/-- BUSY of the bank traps to `x` save into. -/
def Seat.busy (t : Seat) (x : Mode) : Bool := (t.scrGet (trapBank x + 3)).getLsbD 3

/-- A trap in M while M is BUSY (R72): the seat halts with its state kept and its engine's source is raised; the
    SEAT_HALT record goes to its domain and the live line clears once it has been handled (R146, R545). The plant
    thread raises source 21 and is restarted. -/
def doubleHalt (s : State) (i : Nat) : State :=
  let s := s.setSeatSt i .halt
  if i = plantSeat then { raise s 21 2 true with plantRestart := some 3 }
  else
    let s := raise s (seatEngine i) 1 true
    liveOff (notify s (s.seat i).hdom 0x04 (leBytes 2 i)) (seatEngine i)

/-- A trap is taken by seat `i`: to H or M by R69, as DOUBLE_TRAP when H is busy, or the seat halts (R72).
    `access` holds TSTATE bits [15:4]; the manual states them only for access traps, so otherwise they are free.
    DEDUCED (log 15). DEDUCED (log 28). -/
def takeTrap (s : State) (i cause : Nat) (tval : W64) (access : Option Nat) : State :=
  let t := s.seat i
  let x := trapMode t cause
  let dbl := x == .h && t.busy .h
  let x := if dbl then .m else x
  let cause' := if dbl then 0x15 else cause
  let tval' := if dbl then BitVec.ofNat 64 cause else tval
  if x == .m && t.busy .m then doubleHalt s i
  else
    match access, dbl with
    | some a, false => s.setSeat i (trapEntry t x cause' t.pc tval' a)
    | _, _ => s.draw.2.setSeat i (trapEntry t x cause' t.pc tval' (s.draw.1.toNat % 2 ^ 12))

/-- A trap whose access TSTATE does not describe. -/
def trap (s : State) (i cause : Nat) (tval : W64) : State := takeTrap s i cause tval none

/-- A trap of an access check or an access (R68). -/
def trapAccess (s : State) (i cause win : Nat) (kind : Kind) (size : Nat) (off : W64) : State :=
  takeTrap s i cause off (some (accessField win kind size))

/-! ### Pending events (R68, R73, R112, R134) -/

/-- The domain and number of the lowest-numbered doorbell pending for seat `i` (R134). -/
def State.doorbellOf (s : State) (i : Nat) : Option (Nat × Nat) :=
  ((List.range 64).flatMap (fun n => (List.range 8).map (fun d => (d, n)))).find?
    (fun e => sget none (s.dom e.1).doorbells e.2 == some i)

/-- The pending asynchronous events of seat `i` with their TVAL, by cause (R68). DEDUCED (log 28). -/
def State.pendingEvents (s : State) (i : Nat) : List (Nat × W64) :=
  let t := s.seat i
  let ev (c : Nat) := match sget none t.events c with | some v => [(c, v)] | none => []
  ev 0x20 ++
  (match s.doorbellOf i with | some e => [(0x21, BitVec.ofNat 64 e.2)] | none => []) ++
  (match t.notifyQ with | v :: _ => [(0x22, v)] | [] => []) ++
  (match t.seamQ with | v :: _ => [(0x23, v)] | [] => []) ++
  ev 0x24 ++ ev 0x25 ++
  (match t.faultQ with | v :: _ => [(0x26, v)] | [] => [])

/-- An event of a cause may be taken in the seat's mode now (R73). -/
def eventEnabled (t : Seat) (cause : Nat) : Bool :=
  t.mode == .t || (t.scrGet (trapBank t.mode + 5)).getLsbD (cause - 0x20)

/-- The event an instruction boundary takes: the lowest enabled cause (R73). -/
def State.takeable (s : State) (i : Nat) : Option (Nat × W64) :=
  (s.pendingEvents i).find? (fun e => eventEnabled (s.seat i) e.1)

/-- Event `cause` becomes pending with its TVAL; a later one replaces the TVAL (R136). DEDUCED (log 16). -/
def postEvent (s : State) (i cause : Nat) (v : W64) : State :=
  s.modSeat i (fun t => { t with events := sset none t.events cause (some v) })

/-- The event that has been taken is no longer pending. -/
def dropEvent (s : State) (i cause : Nat) : State :=
  if cause = 0x21 then
    match s.doorbellOf i with
    | some (d, n) => s.setDom d { s.dom d with doorbells := sset none (s.dom d).doorbells n none }
    | none => s
  else
    s.modSeat i (fun t =>
      if cause = 0x22 then { t with notifyQ := t.notifyQ.drop 1 }
      else if cause = 0x23 then { t with seamQ := t.seamQ.drop 1 }
      else if cause = 0x26 then { t with faultQ := t.faultQ.drop 1 }
      else { t with events := sset none t.events cause none })

/-- Every event pending for the seat is withdrawn (R137). DEDUCED (log 28). -/
def withdrawEvents (s : State) (i : Nat) : State :=
  let s := s.each (List.range 8) (fun s d =>
    s.setDom d { s.dom d with doorbells := (s.dom d).doorbells.filter (fun e => e.2 != some i) })
  s.modSeat i (fun t => { t with events := [], notifyQ := [], seamQ := [], faultQ := [] })

/-- A STOP that waits for the seat's boundary is complete: RESULT DONE with its tag (R136). -/
def stopDone (s : State) (i : Nat) : State :=
  match (s.seat i).stopReq with
  | some (d, tag) =>
    (s.setReg (Reg.SYS_Dd_SEATCMD_STATUS d) (BitVec.ofNat 32 (2 ^ 21 * tag.toNat))).modSeat i
      (fun t => { t with stopReq := none })
  | none => s

/-- The seat goes to OFF (R46, R137): its events are withdrawn; what it has in flight completes without register results (R47). -/
def seatOff (s : State) (i : Nat) : State :=
  let s := stopDone (withdrawEvents s i) i
  let s := match (s.seat i).wait with
    | .ktset g t => s.setTag g t
    | _ => s
  let s := { s with haltReq := sset false s.haltReq i false }
  (s.modSeat i (fun t => { t with wait := .none, outst := [], yielded := false })).setSeatSt i .off

/-- The seat leaves OFF for IDLE: its STG counter is 0 (R46, R109). -/
def seatOn (s : State) (i : Nat) : State :=
  (s.modSeat i (fun t => { t with stgSeq := 0 })).setSeatSt i .idle

/-! ### Restart of the plant thread in place (R443) -/

/-- The plant thread's registers are cleared and its events withdrawn; it restarts with RCAUSE `cause` (R443, R558). -/
def plantRestartBegin (s : State) (cause : Nat) : State :=
  let s := withdrawEvents s plantSeat
  let hd := (s.seat plantSeat).hdom
  let s := s.setSeat plantSeat ({ Seat.init with st := .off }.scrSet 0x001 (BitVec.ofNat 64 hd))
  { s with plantRestart := some cause }

/-! ### Issue (R49 to R52, R73) -/

/-- The seat may issue an instruction: its engine is powered with its clock running, it is in RUN, no event is taken
    first, no STOP or YIELD holds it, a tenant seat has tenant slots (R50, R52), and in T mode its QUANTUM is not spent
    (R66). DEDUCED (log 14). -/
def State.canIssue (s : State) (i : Nat) : Bool :=
  let t := s.seat i
  t.st == .run && !t.yielded && t.stopReq.isNone && (s.takeable i).isNone &&
  (i == plantSeat || s.islandOn (seatEngine i)) &&
  (i == plantSeat || s.isPress i || decide (0 < (sget { share := 0 } s.cores (i / 8)).share)) &&
  (t.mode != .t || decide (0 < (t.scrGet 0x005).toNat))

/-- The issue slot is charged: SLOTS, and in T mode QUANTUM (R67). DEDUCED (log 14). DEDUCED (log 17). -/
def chargeSlot (t : Seat) : Seat :=
  let t := t.scrSet 0x004 (t.scrGet 0x004 + 1)
  if t.mode == .t then
    { (t.scrSet 0x005 (t.scrGet 0x005 - 1)) with slotsT := t.slotsT + 1, quantumUsed := t.quantumUsed + 1 }
  else t

/-- The requester of a seat's control-space access may reach the address (R126, R131). -/
def State.controlAllowed (s : State) (w : Requester) (a : Nat) (write : Bool) : Bool :=
  let off := a % 0x1000000
  match blockNumber a with
  | none => false
  | some b =>
    (match w with | .seat i => (s.seat i).mode != .t | _ => true) &&
    (s.whoM w ||
      match s.whoDomain w with
      | none => false
      | some d =>
        let g := (s.domain d).grant b
        let page := b == 0 && decide (0x10000 ≤ off) && decide (off < 0x18000)
        let own := page && (off - 0x10000) / 0x1000 == d
        if page then own
        else (b == 0 && decide (off < 0x200) && !write) || (if write then g == 3 else g == 1 || g == 3))

/-- A fetch of `n` bytes at the pc passes the checks of R60 and reaches memory, a store or the flash (R75, R84, R99, R445).
    DEDUCED (log 14). -/
def fetchOk (s : State) (i n : Nat) : Bool :=
  let t := s.seat i
  let d := t.code t.mode
  (List.range (n / 4)).all (fun k =>
    let off := (t.pc.toNat + 4 * k) % 2 ^ 40
    (checkAccess s t (i == plantSeat) d off 4 4 4 false).isNone &&
    (match target s i d off with
     | .memory a => (s.memRead a 4).isSome
     | .control a => s.controlAllowed (.seat i) a false && a % 4 == 0
     | .store k => s.storeReadable k 4
     | .flash o => dxReadable s (o + 3)
     | .nowhere => false))

/-- A fetch from the flash goes through the prefetch buffer (R538). -/
def fetchTouch (s : State) (i n : Nat) : State :=
  match target s i ((s.seat i).code (s.seat i).mode) (s.seat i).pc.toNat with
  | .flash o => dxTouch s o n
  | _ => s

/-- One instruction of `n` bytes on seat `i`: if the seat cannot issue, nothing happens; a fetch that fails traps
    (R68, R76); otherwise the slot is charged and `body` is the instruction's effect. -/
def issue (s : State) (i n : Nat) (body : State → State) : State :=
  if !s.canIssue i then s
  else
    let s' := s.modSeat i chargeSlot
    let pc : W64 := BitVec.ofNat 64 (s.seat i).pc.toNat
    if (s.seat i).pc.toNat % 4 ≠ 0 then trap s' i 0x03 pc
    else if !fetchOk s i n then trap s' i 0x0C pc
    else body (fetchTouch s' i n)

/-- pc after an instruction of `n` bytes that transfers no control (R75). -/
def Seat.advance (t : Seat) (n : Nat) : Seat := { t with pc := t.pc + BitVec.ofNat 40 n }

/-- The seat's registers change by `f` and pc moves past the instruction. -/
def retire (s : State) (i n : Nat) (f : Seat → Seat) : State := s.modSeat i (fun t => (f t).advance n)

/-- The seat stalls in WAIT (R46). -/
def stall (s : State) (i : Nat) (w : Wait) : State :=
  (s.modSeat i (fun t => { t with wait := w })).setSeatSt i .wait

/-- The seat's stall is over: it is in RUN again. -/
def unstall (s : State) (i : Nat) (f : Seat → Seat) : State :=
  let s := (s.modSeat i (fun t => f { t with wait := .none })).setSeatSt i .run
  if sget false s.haltReq i then { (s.setSeatSt i .halt) with haltReq := sset false s.haltReq i false } else s

/-- The seat runs the Z-S profile (R38). DEDUCED (log 72). -/
def isPlant (i : Nat) : Bool := i == plantSeat

/-- A Z-V-only instruction: the plant thread takes ILLEGAL_INSN (R39, R79). -/
def zvOnly (s : State) (i : Nat) (w : W64) (body : State → State) : State :=
  if isPlant i then trap s i 0x00 w else body s

/-- An instruction for H and M only: T takes PRIVILEGED (R43, R79). -/
def hmOnly (s : State) (i : Nat) (w : W64) (body : State → State) : State :=
  if (s.seat i).mode == .t then trap s i 0x01 w else body s

end Sys2Proof.Machine
end

