-- ==== Sys2Proof/Machine/Plant.lean ====
section
/-! DEFINITION. The plant island: starting the plant thread (R443, R624), switched and modulating outputs (R446 to
R448), climate zones (R456 to R458), heartbeat and lapse (R459, R460). -/

namespace Sys2Proof.Machine

/-- The requester is the plant domain, as a host or the plant thread in H, or acts in M mode. -/
def State.plantOrM (s : State) (w : Requester) : Bool := s.whoM w || s.whoRole w 3

/-! ### The plant thread (R443, R624) -/

/-- The plant thread enters M mode at the ENTRY of the MACHINE image in force (R443, R624); with none it stays off.
    DEDUCED (log 72). -/
def plantStart (s : State) (rcause : Nat) : State :=
  let s := s.setFld Reg.PLT_STATUS 2 1 rcause
  match s.plant.machine with
  | none => s
  | some (load, len, entry) =>
    let hd := (s.roleDomain 3).getD 0
    let t := (Seat.init.scrSet 0x001 (BitVec.ofNat 64 hd)).setCode .m (mkDesc load len 5 hd 0 0 true true)
    s.setSeat plantSeat { t with st := .run, mode := .m, pc := BitVec.ofNat 40 entry }

/-- A restart of the plant thread completes (R443, R545, R558): its registers have been cleared, RCAUSE tells why, and
    source 21's live line clears; after a release the state becomes READY. DEDUCED (log 72). -/
def plantRestartDone (s : State) : State :=
  match s.plantRestart with
  | none => s
  | some c =>
    let s := plantRestartBegin s c
    let s := plantStart { s with plantRestart := none } c
    let s := s.count Reg.PLT_RESTART_CNT 1
    if c = 2 then (if s.safeState = 1 then s.setFld Reg.FC_SAFE 1 0 2 else s) else liveOff s 21

/-- LOCKSTEP_MISMATCH (R443): the access that disagreed does not happen, source 21 is raised and the thread restarts. -/
def execLockstepMismatch (s : State) : Host.Outcome State Fault Refusal :=
  .next (plantRestartBegin (raise s 21 2 true) 1)

/-- PLANT_RESTART_DONE (R443, R545). -/
def execPlantRestartDone (s : State) : Host.Outcome State Fault Refusal := .next (plantRestartDone s)

/-! ### Switched and modulating outputs (R446 to R448) -/

/-- The plant island is LAPSED (R459). -/
def State.lapsed (s : State) : Bool := s.bit Reg.PLT_STATUS 0

/-- The demand of SOk's source; none where the engine it names is absent and is never read (R442, R446, R460). -/
def soDemand (s : State) (k : Nat) : Option Bool :=
  let c := s.reg (Reg.PLT_SOk_CFG k)
  let le := fbits c 6 2
  match fbits c 1 0 with
  | 0 => some (if fbit c 13 && s.lapsed then fbit c 14 else s.bit Reg.PLT_SO_OUT k)
  | 1 => if s.variant.les ≤ le then none else some ((s.lePublished le / 2 ^ fbits c 8 7) % 2 == 1)
  | 2 => some (s.bit (Reg.PLT_CZz_STAT (fbits c 11 9)) 2)
  | _ => if s.variant.les ≤ le then none else some (decide (fbits c 8 7 ≤ s.lePublished le))

/-- The minimum time of the level SOk stands at: MINON or MINOFF, s (R446). DEDUCED (log 71). -/
def soMin (s : State) (k : Nat) : Nat :=
  if s.bit Reg.PLT_SO_STATE k then s.fld (Reg.PLT_SOk_CFG k) 23 16 else s.fld (Reg.PLT_SOk_CFG k) 31 24

/-- SOk follows its source's demand once the minimum time of its present level has passed (R446); in the safe state it
    keeps its SAFE value (R448). DEDUCED (log 71). -/
def soFollow (s : State) (k : Nat) : State :=
  if s.safeState ≠ 3 then s
  else
    match soDemand s k with
    | none => s
    | some d =>
      if d == s.bit Reg.PLT_SO_STATE k then s
      else if soMin s k ≠ 0 ∧ !sget false s.plant.soDone k then s
      else { (s.setBit Reg.PLT_SO_STATE k d) with plant := { s.plant with soDone := sset false s.plant.soDone k false } }

/-- Every switched output follows its source. -/
def soAll (s : State) : State := s.each (List.range 32) soFollow

/-- SO_DEMAND_CHANGE (R446). -/
def execSoDemandChange (so : Nat) (s : State) : Host.Outcome State Fault Refusal := .next (soFollow s so)

/-- SO_MIN_TIME_EXPIRY (R446): the minimum time of the present level has passed. -/
def execSoMinTimeExpiry (so : Nat) (s : State) : Host.Outcome State Fault Refusal :=
  .next (soFollow { s with plant := { s.plant with soDone := sset false s.plant.soDone so true } } so)

/-- The duty in force of MOm (R447). -/
def State.moDutyOf (s : State) (m : Nat) : Nat := (sget 0 s.moDuty m).toNat

/-- The duty MOm moves towards (R447, R460); none where the engine it names is absent (R442). DEDUCED (log 71). -/
def moTarget (s : State) (m : Nat) : Option Nat :=
  let c := s.reg (Reg.PLT_MOm_CFG m)
  if fbit c 0 then
    if s.variant.les ≤ fbits c 5 1 then none
    else
      match s.lePublished (fbits c 5 1) with
      | 0 => some (s.fld (Reg.PLT_MOm_LVL01 m) 15 0) | 1 => some (s.fld (Reg.PLT_MOm_LVL01 m) 31 16)
      | 2 => some (s.fld (Reg.PLT_MOm_LVL23 m) 15 0) | _ => some (s.fld (Reg.PLT_MOm_LVL23 m) 31 16)
  else some (if fbit c 9 && s.lapsed then s.fld (Reg.PLT_MOm_VAL m) 31 16 else s.fld (Reg.PLT_MOm_VAL m) 15 0)

/-- One millisecond of a duty towards its target: by at most SLEW, or at once with a SLEW of 0 (R447). DEDUCED (log 71). -/
def slewed (duty target slew : Nat) : Nat :=
  if slew = 0 then target else if duty ≤ target then min target (duty + slew) else max target (duty - slew)

/-- MO_SLEW_TICK (R447). In the safe state the output keeps its SAFE duty (R448). -/
def execMoSlewTick (mo : Nat) (s : State) : Host.Outcome State Fault Refusal :=
  .next (
    if s.safeState ≠ 3 then s
    else match moTarget s mo with
      | none => s
      | some t =>
        { s with moDuty := sset 0 s.moDuty mo (BitVec.ofNat 16 (slewed (s.moDutyOf mo) t (s.fld (Reg.PLT_MOm_CFG mo) 31 16))) })

/-- Outputs resume their sources at the release of the safe state; minimum times count from it (R448). -/
def outputsResume (s : State) : State := soAll { s with plant := { s.plant with soDone := [] } }

/-! ### Climate zones (R456 to R458) -/

/-- A presence source of zone `z` is present (R456). -/
def zonePresence (s : State) (z : Nat) : Bool :=
  (List.range 4).any (fun n => s.bit (Reg.PLT_CZz_CFG z) (13 + n) && s.bit Reg.PLT_PRES (4 + n)) ||
  (List.range 32).any (fun b => s.bit (Reg.PLT_CZz_TUPRES z) b && s.bit (Reg.TUn_PZm_STAT (b / 4) (b % 4)) 0)

/-- The effective mode of zone `z` (R456). -/
def zoneEffective (s : State) (z : Nat) : Nat :=
  let m := s.fld Reg.AON_ZMODE (2 * z + 1) (2 * z)
  let o := s.reg (Reg.PLT_CZz_OVR z)
  if fbit o 2 && decide (0 < fbits o 17 4) then fbits o 1 0
  else if s.bit (Reg.PLT_CZz_CFG z) 17 && s.bit (Reg.PLT_CZz_STAT z) 2 && decide (m < 2) then 2
  else m

/-- The loop engines zone `z` has enabled. -/
def zoneEngines (s : State) (z : Nat) : List Nat :=
  let c := s.reg (Reg.PLT_CZz_CFG z)
  (if fbit c 1 then [fbits c 6 2] else []) ++ (if fbit c 7 then [fbits c 12 8] else [])

/-- Another enabled zone names an engine of zone `z` (R458). DEDUCED (log 71). -/
def zoneConflict (s : State) (z : Nat) : Bool :=
  s.bit (Reg.PLT_CZz_CFG z) 0 &&
  (List.range 8).any (fun y => y != z && s.bit (Reg.PLT_CZz_CFG y) 0 &&
    (zoneEngines s z).any (fun e => (zoneEngines s y).contains e))

/-- The setpoint pair of a present engine changes as one, and a pending first member is discarded (R457). -/
def leSetPair (s : State) (n : Nat) (sp band : W32) : State :=
  if s.variant.les ≤ n then s
  else
    let s := { s with pairHeld := sdel (Reg.LEn_SP n) s.pairHeld }
    (s.setReg (Reg.LEn_SP n) sp).setReg (Reg.LEn_BAND n) (fsetb band 31 false)

/-- Zone `z` writes the setpoints of its effective mode to the engines it has enabled (R457, R458, R460). -/
def zoneWrite (s : State) (z : Nat) : State :=
  let c := s.reg (Reg.PLT_CZz_CFG z)
  let m := zoneEffective s z
  if !fbit c 0 || s.lapsed || zoneConflict s z then s
  else
    let s := if fbit c 1 then leSetPair s (fbits c 6 2) (s.reg (Reg.PLT_CZz_Mmd_TSP z m)) (s.reg (Reg.PLT_CZz_Mmd_TBAND z m)) else s
    if fbit c 7 then leSetPair s (fbits c 12 8) (s.reg (Reg.PLT_CZz_Mmd_HSP z m)) (s.reg (Reg.PLT_CZz_Mmd_HBAND z m)) else s

/-- Zone `z` shows its mode, override and binding, and writes its setpoints when its effective mode has changed (R457). -/
def zoneRefresh (s : State) (z : Nat) : State :=
  let en := s.bit (Reg.PLT_CZz_CFG z) 0
  let m := zoneEffective s z
  let o := s.reg (Reg.PLT_CZz_OVR z)
  let s := s.setFld (Reg.PLT_CZz_STAT z) 1 0 (if en then m else 0)
  let s := s.setBit (Reg.PLT_CZz_STAT z) 3 (fbit o 2)
  let s := s.setBit (Reg.PLT_CZz_STAT z) 4 (en && (zoneConflict s z || (zoneEngines s z).any (fun e => decide (s.variant.les ≤ e))))
  let was := sget none s.plant.zoneMode z
  let now := if en then some m else none
  let s := { s with plant := { s.plant with zoneMode := sset none s.plant.zoneMode z now } }
  if now == was then s else zoneWrite s z

/-- Every zone is refreshed. -/
def zonesRefresh (s : State) : State := s.each (List.range 8) zoneRefresh

/-- Occupancy of zone `z` follows its presence sources, held for OCCHOLD minutes after the last (R456). -/
def occUpdate (s : State) (z : Nat) : State :=
  let hold (b : Bool) (s : State) : State := { s with plant := { s.plant with zoneHold := sset false s.plant.zoneHold z b } }
  let s :=
    if zonePresence s z then hold false (s.setBit (Reg.PLT_CZz_STAT z) 2 true)
    else if !s.bit (Reg.PLT_CZz_STAT z) 2 || sget false s.plant.zoneHold z then s
    else if s.fld (Reg.PLT_CZz_CFG z) 26 19 = 0 then s.setBit (Reg.PLT_CZz_STAT z) 2 false
    else hold true s
  zoneRefresh s z

/-- Every zone's occupancy is updated. -/
def occAll (s : State) : State := s.each (List.range 8) occUpdate

/-- OCCHOLD_EXPIRY (R456): OCCHOLD minutes after the zone's last presence source became absent. -/
def execOccholdExpiry (zone : Nat) (s : State) : Host.Outcome State Fault Refusal :=
  .next (
    if sget false s.plant.zoneHold zone && !zonePresence s zone then
      let s := { s with plant := { s.plant with zoneHold := sset false s.plant.zoneHold zone false } }
      zoneRefresh (s.setBit (Reg.PLT_CZz_STAT zone) 2 false) zone
    else s)

/-- A write of PLT_CZz_OVR (R456, R468): MIN > 0 starts the override, MIN = 0 ends it. -/
def ovrWrite (s : State) (z : Nat) (v : W32) : State :=
  let r : W32 := v &&& 0x3FFF3
  zoneRefresh (s.setReg (Reg.PLT_CZz_OVR z) (fsetb r 2 (decide (0 < fbits v 17 4)))) z

/-- PLT_CZ_OVR_WRITE (R456). -/
def execPltCzOvrWrite (zone : Nat) (value : W32) (s : State) : Host.Outcome State Fault Refusal := .next (ovrWrite s zone value)

/-- The zone's configuration has changed; `was` is EN before (R457). -/
def zoneConfigured (s : State) (z : Nat) (was : Bool) : State :=
  let s := zonesRefresh (occUpdate s z)
  if s.bit (Reg.PLT_CZz_CFG z) 0 && !was then zoneWrite s z else s

/-! ### Heartbeat and lapse (R459, R460) -/

/-- A write of PLT_HB (R459, R460): a lapse ends, enabled zones write their setpoints, and outputs resume their FW values.
    With a TIMEOUT of 0 the island stays LAPSED. -/
def hbWrite (s : State) : State :=
  if s.fld Reg.PLT_HBCFG 15 0 = 0 || !s.lapsed then s
  else
    let s := clear23 (s.setBit Reg.PLT_STATUS 0 false)
    soAll (s.each (List.range 8) zoneWrite)

/-- PLT_HB_WRITE (R459): from the plant domain's hosts, the plant thread in H, or M mode; any other is a bus error. -/
def execPltHbWrite (who : Requester) (s : State) : Host.Outcome State Fault Refusal :=
  .next (respond who (if s.controlAllowed who Reg.PLT_HB true && s.plantOrM who then (hbWrite s, true) else (s, false)))

/-- The island becomes LAPSED: one class C event on source 23, live while LAPSED (R459, R460). -/
def lapse (s : State) : State :=
  if s.lapsed then s else soAll (raise (s.setBit Reg.PLT_STATUS 0 true) 23 0 true)

/-- HEARTBEAT_LAPSE (R460): TIMEOUT ms have passed without a write of PLT_HB. -/
def execHeartbeatLapse (s : State) : Host.Outcome State Fault Refusal := .next (lapse s)

end Sys2Proof.Machine
end

