-- ==== Sys2Proof/Machine/Fan.lean ====
section
/-! DEFINITION. Fan channels: tach (R514), mode and demand (R515), the speed loop (R516), table mode (R517), failure and
groups (R518). -/

namespace Sys2Proof.Machine

/-- Fan `n`. -/
def State.fan (s : State) (n : Nat) : FanRun := sget FanRun.init s.plant.fans n
/-- Fan `n` changes by `f`. -/
def State.modFan (s : State) (n : Nat) (f : FanRun → FanRun) : State :=
  { s with plant := { s.plant with fans := smod FanRun.init s.plant.fans n f } }

/-- The measured speed of fan `n`. -/
def State.fanRpm (s : State) (n : Nat) : Nat := s.fld (Reg.FANn_RPM n) 15 0
/-- FAILED of fan `n`. -/
def State.fanFailed (s : State) (n : Nat) : Bool := s.bit (Reg.FANn_STATUS n) 3

/-- FAN_TACH_EDGE (R514): a falling edge at ring time `t`, ns; it counts 20 µs or more after the last counted one.
    DEDUCED (log 75). -/
def execFanTachEdge (fan : Nat) (t : W64) (s : State) : Host.Outcome State Fault Refusal :=
  .next (
    if s.variant.fans ≤ fan then s
    else
      let r := s.fan fan
      match r.lastEdge with
      | none => s.modFan fan (fun r => { r with lastEdge := some t })
      | some u =>
        let dt := t.toNat - u.toNat
        if dt < 20000 then s
        else
          let iv := (dt :: r.intervals).take 4
          let s := s.modFan fan (fun r => { r with lastEdge := some t, intervals := iv })
          let ppr := s.fld (Reg.FANn_CFG fan) 11 10 + 1
          if iv.length < ppr then s
          else s.setFld (Reg.FANn_RPM fan) 15 0 (min (60000000 / ((iv.take ppr).foldl (· + ·) 0 / 1000)) 65535))

/-- FAN_TACH_TIMEOUT (R514): no counted edge for 1 s. -/
def execFanTachTimeout (fan : Nat) (s : State) : Host.Outcome State Fault Refusal :=
  .next (if s.variant.fans ≤ fan then s else s.setFld (Reg.FANn_RPM fan) 15 0 0)

/-! ### Table mode (R517) -/

/-- Point `k` of the table in force: TPT and D. -/
def fanPoint (s : State) (n k : Nat) : Nat × Nat :=
  let r := s.act (Reg.FANn_TABLEk n k)
  (fbits r 15 0, fbits r 31 16)

/-- The table in force is not ordered (R517). -/
def fanTableBad (s : State) (n : Nat) : Bool :=
  (List.range 7).any (fun k => decide ((fanPoint s n (k + 1)).1 < (fanPoint s n k).1))

/-- The table input names an absent unit. -/
def fanInputAbsent (s : State) (n : Nat) : Bool :=
  s.bit (Reg.FANn_CFG n) 13 && decide (s.variant.les ≤ s.fld (Reg.FANn_CFG n) 18 14)

/-- The table input T (R517). -/
def fanInput (s : State) (n : Nat) : Nat :=
  let sel := s.fld (Reg.FANn_CFG n) 18 14
  if s.bit (Reg.FANn_CFG n) 13 then (clampInt 0 65535 (s.s32 (Reg.LEn_YF sel))).toNat
  else
    let v := sint 24 (s.fld (Reg.ADC_SEQn_RESULT (sel % 16)) 23 0)
    (clampInt 0 65535 (sar (v * s.s32 (Reg.FANn_TSCALE n)) 16 + s.s32 (Reg.FANn_TOFS n))).toNat

/-- The table input is stale: no arrival, or no fresh evaluation, for 1 s (R517). DEDUCED (log 75). -/
def fanStale (s : State) (n : Nat) : Bool :=
  let sel := s.fld (Reg.FANn_CFG n) 18 14
  let at0 := if s.bit (Reg.FANn_CFG n) 13 then (s.le sel).freshAt else sget none s.plant.adc.arrivals (sel % 16)
  fanInputAbsent s n || (match at0 with | some t => decide (t.toNat + 10 ^ 9 ≤ s.ringTime.toNat) | none => true)

/-- The duty the table gives at `t` (R517). DEDUCED (log 75). -/
def tableDuty (p : Nat → Nat × Nat) (t : Nat) : Nat :=
  if t ≤ (p 0).1 then (p 0).2
  else if (p 7).1 ≤ t then (p 7).2
  else
    let i := (((List.range 8).filter (fun k => decide ((p k).1 ≤ t))).getLast?).getD 0
    let w : Int := ((p (i + 1)).1 : Int) - (p i).1
    (((p i).2 : Int) + ((((p (i + 1)).2 : Int) - (p i).2) * ((t : Int) - (p i).1) * 2 + w) / (2 * w)).toNat

/-! ### Speed loop (R516) -/

/-- The demanded target of a fan in SPEED, RPM (R515). -/
def fanTarget (s : State) (n : Nat) : Nat :=
  let c := s.reg (Reg.FANn_CFG n)
  if fbits c 2 1 = 0 then s.fld (Reg.FANn_TARGET n) 15 0
  else if s.variant.les ≤ fbits c 7 3 then 0
  else match s.lePublished (fbits c 7 3) with
    | 0 => s.fld (Reg.FANn_LVLRPM01 n) 15 0 | 1 => s.fld (Reg.FANn_LVLRPM01 n) 31 16
    | 2 => s.fld (Reg.FANn_LVLRPM23 n) 15 0 | _ => s.fld (Reg.FANn_LVLRPM23 n) 31 16

/-- The duty at the pin. -/
def State.fanDuty (s : State) (n : Nat) : Nat := s.fld (Reg.FANn_DUTYACT n) 15 0

/-- One update of the speed loop (R516): the ramped target, the integral and the duty. -/
def speedStep (s : State) (n : Nat) (tr integ : Int) (duty : Nat) : Int × Int × Nat :=
  let t := fanTarget s n
  let ramp := s.fld (Reg.FANn_RAMP n) 15 0
  let dmin := s.fld (Reg.FANn_RAMP n) 31 16
  let tr : Int := if ramp = 0 ∨ t = 0 then 100 * (t : Int) else tr + clampInt (-(ramp : Int)) ramp (100 * (t : Int) - tr)
  if tr = 0 then (0, 0, 0)
  else
    let e := tr / 100 - (s.fanRpm n : Int)
    let integ := if (duty = 65535 ∧ e > 0) ∨ (duty = dmin ∧ e < 0) then integ
      else clampInt 0 (65535 * 65536) (integ + mulCoef (s.reg (Reg.FANn_KI n)) e)
    (tr, integ, (clampInt dmin 65535 (mulCoef (s.reg (Reg.FANn_KP n)) e + sar integ 16)).toNat)

/-! ### Mode and update (R515, R518) -/

/-- A fan of the group of fan `n` is FAILED. -/
def groupFailed (s : State) (n : Nat) : Bool :=
  (List.range s.variant.fans).any (fun m => s.fanFailed m && s.fld (Reg.FANn_CFG m) 9 8 == s.fld (Reg.FANn_CFG n) 9 8)

/-- The mode of R515: 0 OFF, 1 SPEED, 2 DUTY, 3 TABLE, 4 GROUPFULL, 5 SAFE. -/
def fanMode (s : State) (n : Nat) : Nat :=
  let c := s.reg (Reg.FANn_CFG n)
  if !fbit c 0 then 0 else if s.safeState != 3 then 5 else if groupFailed s n then 4 else if s.lapsed then 3
  else if fbits c 2 1 = 1 then 2 else 1

/-- The other fans of a failed critical fan's group include an enabled one that is not FAILED and runs at full duty (R518). -/
def fanCovered (s : State) (n : Nat) : Bool :=
  (List.range s.variant.fans).any (fun m => m != n && s.bit (Reg.FANn_CFG m) 0 && !s.fanFailed m &&
    s.fld (Reg.FANn_CFG m) 9 8 == s.fld (Reg.FANn_CFG n) 9 8 && s.fanDuty m == 65535)

/-- Source 27's live line clears once every failed critical fan is covered (R518, R520). -/
def fanLine (s : State) : State :=
  if s.live 27 && !(List.range s.variant.fans).any (fun n => s.fanFailed n && s.bit (Reg.FANn_CFG n) 12 && !fanCovered s n) then
    liveOff s 27
  else s

/-- Fan `n` is judged: slower than STALLRPM for FAILT × 100 ms while driven (R518). DEDUCED (log 75). -/
def fanJudge (s : State) (n : Nat) : State :=
  let failt := s.fld (Reg.FANn_FAIL n) 23 16
  let mode := s.fld (Reg.FANn_STATUS n) 2 0
  if mode = 0 ∨ mode = 5 ∨ failt = 0 ∨ s.fanFailed n then s.modFan n (fun r => { r with low := 0 })
  else if s.fanRpm n < s.fld (Reg.FANn_FAIL n) 15 0 ∧ 0 < s.fanDuty n ∧ s.fld (Reg.FANn_RAMP n) 31 16 ≤ s.fanDuty n then
    let s := s.modFan n (fun r => { r with low := r.low + 1 })
    if failt * 10 ≤ (s.fan n).low then
      let s := (s.setBit (Reg.FANn_STATUS n) 3 true).count (Reg.FANn_FAILCNT n) 1
      let crit := s.bit (Reg.FANn_CFG n) 12
      raise s 27 (b2n crit) crit
    else s
  else s.modFan n (fun r => { r with low := 0 })

/-- The mode of fan `n` is taken and its duty computed (R515 to R517). -/
def fanDrive (s : State) (n : Nat) : State :=
  let was := s.fld (Reg.FANn_STATUS n) 2 0
  let mode := fanMode s n
  let duty := s.fanDuty n
  let s := (s.setBit (Reg.FANn_STATUS n) 4 (fanTableBad s n)).setBit (Reg.FANn_STATUS n) 5 (fanStale s n)
  let s := s.setBit (Reg.FANn_STATUS n) 6
    ((s.fld (Reg.FANn_CFG n) 2 1 == 2 && decide (s.variant.les ≤ s.fld (Reg.FANn_CFG n) 7 3)) || fanInputAbsent s n)
  let s := s.setFld (Reg.FANn_TIN n) 15 0 (if fanInputAbsent s n then 0 else fanInput s n)
  let s := s.setFld (Reg.FANn_STATUS n) 2 0 mode
  let put (s : State) (d : Nat) : State := s.setFld (Reg.FANn_DUTYACT n) 15 0 d
  match mode with
  | 0 => put s 0
  | 1 =>
    let r := s.fan n
    let r := if was = 1 then r else { r with tr := 100 * (s.fanRpm n : Int), integ := (duty : Int) * 65536 }
    let x := speedStep s n r.tr r.integ duty
    let s := s.modFan n (fun r => { r with tr := x.1, integ := x.2.1 })
    let s := s.setBit (Reg.FANn_STATUS n) 7 (decide (x.2.1 = 0) || decide (x.2.1 = 65535 * 65536))
    put (s.setFld (Reg.FANn_RPM n) 31 16 (x.1 / 100).toNat) x.2.2
  | 2 => put s (s.fld (Reg.FANn_DUTY n) 15 0)
  | 3 => put s (if fanTableBad s n || fanStale s n then 65535 else tableDuty (fanPoint s n) (fanInput s n))
  | 4 => put s 65535
  | _ => put s (s.fld (Reg.FANn_DUTY n) 31 16)

/-- FAN_UPDATE (R515): every 10 ms. -/
def execFanUpdate (fan : Nat) (s : State) : Host.Outcome State Fault Refusal :=
  .next (if s.variant.fans ≤ fan then s else fanLine (fanDrive (fanJudge s fan) fan))

/-- CMD.CLRFAIL (R518): FAILED clears and the fan is judged afresh. -/
def fanClrfail (s : State) (n : Nat) : State :=
  if s.variant.fans ≤ n then s
  else fanLine ((s.setBit (Reg.FANn_STATUS n) 3 false).modFan n (fun r => { r with low := 0 }))

/-- FAN_CLRFAIL (R518). -/
def execFanClrfail (fan : Nat) (s : State) : Host.Outcome State Fault Refusal := .next (fanClrfail s fan)

end Sys2Proof.Machine
end

