-- ==== Sys2Proof/Machine/Spi.lean ====
section
/-! DEFINITION. SPI ports: master transfers (R527 to R531), slave frames (R532, R533), castling (R534 to R537, R541). -/

namespace Sys2Proof.Machine

/-- WLEN in bits (R543). -/
def spiWlen (s : State) (n : Nat) : Nat := 8 * 2 ^ s.fld (Reg.SPIn_CFG n) 6 5

/-- The bytes of received words, each in WLEN / 8 bytes, little-endian (R527). -/
def wordBytes (wlen : Nat) (ws : List W32) : List Byte := ws.flatMap (fun w => leBytes (wlen / 8) w.toNat)

/-- The port's SEL3 is CREQ (R534). -/
def spiCastling (s : State) (n : Nat) : Bool := s.bit (Reg.SPIn_CFG n) 7 && s.bit (Reg.SPIn_CFG n) 8

/-- The transfer's bytes go out on the data line (R528). -/
def spiSend (s : State) (n : Nat) (x : SpiXfer) : State :=
  { s with out := s.out ++ [Out.spi n x.sel (s.storeRead (plantStore + x.tx) x.len)] }

/-- The transfer is over: DONE and XSTAT (R528). -/
def spiDone (s : State) (n xstat : Nat) : State :=
  let s := s.modSpi n (fun p => { p with xfer := none })
  ((s.setBit (Reg.SPIn_STATUS n) 0 false).setBit (Reg.SPIn_STATUS n) 1 true).setFld (Reg.SPIn_STATUS n) 4 2 xstat

/-- GO takes effect (R528): refusals end at once, otherwise the transfer starts. DEDUCED (log 76). -/
def spiStart (s : State) (n : Nat) : State :=
  let x := s.reg (Reg.SPIn_XFER n)
  let len := fbits x 12 0
  let sel := fbits x 14 13
  if s.bit (Reg.SPIn_STATUS n) 8 then spiDone s n 4
  else if len = 0 then spiDone s n 0
  else if 4096 < len ∨ len % (spiWlen s n / 8) ≠ 0 then spiDone s n 5
  else if !s.bit (Reg.SPIn_SELEN n) sel then spiDone s n 2
  else if n = 0 ∧ sel = 0 ∧ s.bit Reg.SPI0_DXCFG 0 then spiDone s n 6
  else
    let t : SpiXfer := { tx := s.fld (Reg.SPIn_TXADDR n) 18 0, rx := s.fld (Reg.SPIn_RXADDR n) 18 0, len := len, sel := sel,
                         wlen := spiWlen s n, retries := 0, waiting := false }
    spiSend ((s.modSpi n (fun p => { p with xfer := some t })).setBit (Reg.SPIn_STATUS n) 0 true) n t

/-- A write of GO (R528, R541): nothing while BUSY, held while a castle is pending. A disabled port starts nothing.
    DEDUCED (log 76). -/
def spiGo (s : State) (n : Nat) : State :=
  if s.bit (Reg.SPIn_STATUS n) 0 || !s.bit (Reg.SPIn_CFG n) 0 then s
  else if s.bit (Reg.SPIn_STATUS n) 11 then s.modSpi n (fun p => { p with goHeld := true })
  else spiStart s n

/-- SPI_GO (R528). -/
def execSpiGo (port : Nat) (s : State) : Host.Outcome State Fault Refusal := .next (spiGo s port)

/-- The received words are stored, and RXCNT tells how many bytes and the bits of the last word (R527). -/
def spiStore (s : State) (n : Nat) (x : SpiXfer) (ws : List W32) (bits : Nat) : State :=
  let bs := (wordBytes x.wlen ws).take x.len
  (s.storeWrite (plantStore + x.rx) bs).setReg (Reg.SPIn_RXCNT n) (BitVec.ofNat 32 (bs.length + 2 ^ 13 * (bits % 64)))

/-- SPI_TRANSFER_END (R528, R529, R531): a frame of the transfer ends, whole or by a conflict, with the words received. -/
def execSpiTransferEnd (port : Nat) (words : List W32) (bits : Nat) (conflict : Bool) (s : State) : Host.Outcome State Fault Refusal :=
  .next (
    match (s.spi port).xfer with
    | none => s
    | some x =>
      if x.waiting then s
      else
        let s := spiStore s port x words bits
        if conflict && s.bit (Reg.SPIn_CFG port) 7 then
          let s := (s.setBit (Reg.SPIn_STATUS port) 5 true).count (Reg.SPIn_CONFLICT port) 1
          raise (spiDone s port 3) 29 0 false
        else if s.bit (Reg.SPIn_XFER port) 19 && (wordBytes x.wlen words).head? == some 0xB7 then
          if x.retries < s.fld (Reg.SPIn_XFER port) 18 15 then
            s.modSpi port (fun p => { p with xfer := some { x with waiting := true } })
          else spiDone s port 1
        else spiDone s port 0)

/-- SPI_RWAIT_EXPIRY (R529): the whole transfer is repeated. -/
def execSpiRwaitExpiry (port : Nat) (s : State) : Host.Outcome State Fault Refusal :=
  .next (
    match (s.spi port).xfer with
    | none => s
    | some x =>
      if x.waiting then
        let x := { x with waiting := false, retries := x.retries + 1 }
        spiSend (s.modSpi port (fun p => { p with xfer := some x })) port x
      else s)

/-- SPI_LEASE_EXPIRY (R530, R541): the transfer is cut off, its select disabled, and source 29 raised. -/
def execSpiLeaseExpiry (port : Nat) (words : List W32) (bits : Nat) (s : State) : Host.Outcome State Fault Refusal :=
  .next (
    match (s.spi port).xfer with
    | none => s
    | some x =>
      if s.fld (Reg.SPIn_TIMING port) 31 16 = 0 then s
      else
        let s := if x.waiting then s else spiStore s port x words bits
        let s := (s.setBit (Reg.SPIn_SELEN port) x.sel false).count (Reg.SPIn_CUTOFF port) 1
        raise (spiDone s port 2) 29 0 false)

/-- The frame stops at the next bit boundary with ABORTED (R541). -/
def spiAbort (s : State) (n : Nat) (words : List W32) (bits : Nat) : State :=
  match (s.spi n).xfer with
  | none => s
  | some x => spiDone (if x.waiting then s else spiStore s n x words bits) n 7

/-- SPI_ABORT (R541): ABORT with the words received so far. -/
def execSpiAbort (port : Nat) (words : List W32) (bits : Nat) (s : State) : Host.Outcome State Fault Refusal :=
  .next (spiAbort s port words bits)

/-! ### Slave role (R532, R533) -/

/-- REPLY stages REPLEN bytes, replacing a reply not yet consumed (R533). -/
def spiReply (s : State) (n : Nat) : State :=
  s.modSpi n (fun p => { p with
    reply := some (s.storeRead (plantStore + s.fld (Reg.SPIn_REPADDR n) 18 0) (min 256 (s.fld (Reg.SPIn_REPLEN n) 8 0))) })

/-- SPI_REPLY (R533). -/
def execSpiReply (port : Nat) (s : State) : Host.Outcome State Fault Refusal := .next (spiReply s port)

/-- The 272 bytes of a receive slot, without the data beyond what was received (R532). -/
def spiSlot (s : State) (bs : List Byte) (bits : Nat) (busy : Bool) : List Byte :=
  let kept := bs.take 256
  leBytes 2 kept.length ++ leBytes 1 bits ++ leBytes 1 (b2n (decide (256 < bs.length)) + 2 * b2n busy) ++
    leBytes 4 s.ringTime.toNat ++ List.replicate 8 0 ++ kept

/-- SPI_SLAVE_FRAME (R532, R533): the staged reply, or 0xB7 in every byte, has gone out; the frame goes to the receive ring.
    DEDUCED (log 76). -/
def execSpiSlaveFrame (port : Nat) (words : List W32) (bits : Nat) (s : State) : Host.Outcome State Fault Refusal :=
  .next (
    if !s.bit (Reg.SPIn_CFG port) 0 || !s.bit (Reg.SPIn_STATUS port) 8 then s
    else
      let bs := wordBytes (spiWlen s port) words
      let busy := (s.spi port).reply.isNone
      let sent := match (s.spi port).reply with
        | some r => (r ++ List.replicate bs.length 0).take bs.length
        | none => List.replicate bs.length 0xB7
      let s := { s with out := s.out ++ [Out.spi port 0 sent] }
      let s := s.modSpi port (fun p => { p with reply := none })
      let s := if busy then s.count (Reg.SPIn_BUSYRPL port) 1 else s
      let ring := s.reg (Reg.SPIn_SRXRING port)
      let n := fbits ring 22 19
      let tail := s.fld (Reg.SPIn_SRXTAIL port) 7 0
      let next := (tail + 1) % 2 ^ n
      if n = 0 ∨ next = s.fld (Reg.SPIn_SRXHEAD port) 7 0 then s.count (Reg.SPIn_LOSTFRM port) 1
      else
        let s := s.storeWrite (plantStore + fbits ring 18 0 + 272 * tail) (spiSlot s bs bits busy)
        s.setFld (Reg.SPIn_SRXTAIL port) 7 0 next)

/-! ### Castling (R534 to R537) -/

/-- CREQ is held low when a request can act, or the other end pulls it (R534). DEDUCED (log 76). -/
def spiCreq (s : State) (n : Nat) : State :=
  let p := s.spi n
  let act := spiCastling s n && ((p.castleReq && !s.bit (Reg.SPIn_STATUS n) 9) || p.peerPull)
  (s.setBit (Reg.SPIn_STATUS n) 10 p.castleReq).setBit (Reg.SPIn_STATUS n) 11 act

/-- CASTLE (R534, R537): the request is held until it can act. -/
def spiCastle (s : State) (n : Nat) : State := spiCreq (s.modSpi n (fun p => { p with castleReq := true })) n

/-- SPI_CASTLE (R534). -/
def execSpiCastle (port : Nat) (s : State) : Host.Outcome State Fault Refusal := .next (spiCastle s port)

/-- SPI_CREQ_PULLED (R534): the other end pulls CREQ, and the port holds it low. -/
def execSpiCreqPulled (port : Nat) (s : State) : Host.Outcome State Fault Refusal :=
  .next (if spiCastling s port then spiCreq (s.modSpi port (fun p => { p with peerPull := true })) port else s)

/-- A GO held while a castle was pending runs, or ends with ROLE in an end that has become slave (R536, R541). -/
def spiHeldGo (s : State) (n : Nat) : State :=
  if (s.spi n).goHeld then spiStart (s.modSpi n (fun p => { p with goHeld := false })) n else s

/-- The outcome of a castle frame: this end's word goes out, and the other's decides with it (R535). A request made during
    the back-off waits, so its REQ is 0 (R534, R537). DEDUCED (log 76). -/
def castleOutcome (s : State) (n : Nat) (other : Byte) : State :=
  let waits := s.bit (Reg.SPIn_STATUS n) 9
  let mine := (s.spi n).castleReq && !waits
  let theirs := other.getLsbD 7
  let pm := s.fld (Reg.SPIn_CFG n) 15 9
  let po := other.toNat % 128
  let master := !s.bit (Reg.SPIn_STATUS n) 8
  let win := mine && (!theirs || decide (pm < po) || (pm == po && master))
  let lose := mine && !win
  let s := { s.count (Reg.SPIn_CASTLES n) 1 with out := s.out ++ [Out.spi n 0 [BitVec.ofNat 8 (128 * b2n mine + pm)]] }
  let s := if mine || theirs then s.setBit (Reg.SPIn_STATUS n) 8 master else s
  let s := if win then s.setBit (Reg.SPIn_STATUS n) 7 true else s
  let s := if lose then (s.setBit (Reg.SPIn_STATUS n) 6 true).setBit (Reg.SPIn_STATUS n) 9 true else s
  spiHeldGo (spiCreq (s.modSpi n (fun p => { p with castleReq := p.castleReq && waits, peerPull := false })) n) n

/-- SPI_CASTLE_FRAME (R535, R536, R541): a castle frame with the other end's castle word; a conflict makes it void and
    both requests stay. -/
def execSpiCastleFrame (port : Nat) (other : Byte) (conflict : Bool) (s : State) : Host.Outcome State Fault Refusal :=
  .next (
    if !s.bit (Reg.SPIn_STATUS port) 11 || (s.spi port).xfer.isSome || !s.bit (Reg.SPIn_CFG port) 0 then s
    else if conflict then
      raise ((s.setBit (Reg.SPIn_STATUS port) 5 true).count (Reg.SPIn_CONFLICT port) 1) 29 0 false
    else castleOutcome s port other)

/-- SPI_BACKOFF_END (R537): a request made during the back-off may act now. -/
def execSpiBackoffEnd (port : Nat) (s : State) : Host.Outcome State Fault Refusal :=
  .next (spiCreq (s.setBit (Reg.SPIn_STATUS port) 9 false) port)

/-! ### Direct execution (R538 to R540) -/

/-- SPI_DX_MISS (R538, R539): a miss at flash address `off`. DEDUCED (log 84). -/
def execSpiDxMiss (off : Nat) (s : State) : Host.Outcome State Fault Refusal :=
  .next (if dxReadable s off then dxMiss s (off / 32) else s)

/-- DXEN is cleared (R540): in continuous read, one read of a byte at address 0 with MEXIT first; the buffer empties. -/
def dxDisable (s : State) : State :=
  let s := if (s.spi 0).cont then { s with out := s.out ++ [Out.spi 0 0 (leBytes 1 (s.fld Reg.SPI0_DXCFG 31 24))] } else s
  (s.modSpi 0 (fun p => { p with lines := [], cont := false })).setBit Reg.SPI0_DXCFG 0 false

/-- SPI_DX_DISABLE (R540). -/
def execSpiDxDisable (s : State) : Host.Outcome State Fault Refusal :=
  .next (if s.bit Reg.SPI0_DXCFG 0 then dxDisable s else s)

/-- A write of SPIn_CFG (R525, R543): ROLE takes a write only while EN is 0; a DIV of 0 or 1, or WLEN 3, makes the write
    have no effect; QUAD is SPI0's; enabling puts ROLE in force. -/
def spiCfgWrite (s : State) (n : Nat) (v : W32) : State :=
  let old := s.reg (Reg.SPIn_CFG n)
  if fbits v 23 16 < 2 ∨ fbits v 6 5 = 3 then s
  else
    let v : W32 := v &&& (if n = 0 then 0x1FFFFFF else 0xFFFFFF)
    let v := if fbit old 0 then fsetb v 1 (fbit old 1) else v
    let s := s.setReg (Reg.SPIn_CFG n) v
    let s := if fbit v 0 && !fbit old 0 then s.setBit (Reg.SPIn_STATUS n) 8 (fbit v 1) else s
    spiCreq s n

end Sys2Proof.Machine
end

