-- ==== Sys2Proof/Machine/Adc.lean ====
section
/-! DEFINITION. The ADC: its sequence (R507, R508), results (R509 to R511) and self-calibration (R512, R513, R593). -/

namespace Sys2Proof.Machine

/-- The ADC changes by `f`. -/
def State.modAdc (s : State) (f : AdcRun → AdcRun) : State := { s with plant := { s.plant with adc := f s.plant.adc } }

/-- `sat24` (R509). -/
def sat24 (v : Int) : Int := clampInt (-(2 ^ 23)) (2 ^ 23 - 1) v

/-- An input code that selects nothing (R506). -/
def adcCfgBad (cfg : W32) : Bool := decide (19 ≤ fbits cfg 4 0) || decide (19 ≤ fbits cfg 9 5)

/-- The index after `i`, with LEN as it stands at the entry boundary (R507). DEDUCED (log 74). -/
def adcNext (s : State) (i : Nat) : Nat := if i + 1 < s.fld Reg.ADC_CTL 5 1 then i + 1 else 0

/-- A lap ends: ADC_LAP takes its time in µs, and the next lap begins (R507). -/
def adcLap (s : State) : State :=
  (s.setReg Reg.ADC_LAP (BitVec.ofNat 32 ((s.ringTime.toNat - s.plant.adc.lapStart.toNat) / 1000 % 2 ^ 24))).modAdc
    (fun a => { a with lapStart := s.ringTime })

/-- Entry `i` starts under the registers as they stand; an entry with an invalid input is skipped with CFGERR in its
    result (R506, R507). A sequence of which every entry is skipped has none in progress. -/
def adcStart : Nat → Nat → State → State
  | 0, _, s => s.modAdc (fun a => { a with cur := none })
  | k + 1, i, s =>
    let s := s.setFld Reg.ADC_STATUS 8 5 i
    let cfg := s.reg (Reg.ADC_SEQn_CFG i)
    if adcCfgBad cfg then
      let s := s.setBit (Reg.ADC_SEQn_RESULT i) 26 true
      adcStart k (adcNext s i) (if adcNext s i = 0 then adcLap s else s)
    else s.modAdc (fun a => { a with cur := some (cfg, s.reg (Reg.ADC_SEQn_TIM i)) })

/-- An import of trims is running (R598). -/
def State.importing (s : State) : Bool := s.cal.any (fun c => c.isImport)

/-- The sequence goes on at entry `i`: a waiting calibration runs first, and a LEN of 0 idles the ADC (R507, R512).
    DEDUCED (log 74). -/
def adcGo (s : State) (i : Nat) : State :=
  let s := (s.modAdc (fun a => { a with cur := none })).setFld Reg.ADC_STATUS 8 5 i
  if s.plant.adc.calWait && !s.importing then
    (s.modAdc (fun a => { a with calWait := false })).setBit Reg.ADC_STATUS 1 true
  else if s.fld Reg.ADC_CTL 5 1 = 0 then s.setBit Reg.ADC_STATUS 0 false
  else if s.bit Reg.ADC_STATUS 1 || !s.bit Reg.ADC_STATUS 0 then s
  else adcStart (s.fld Reg.ADC_CTL 5 1) i s

/-- A write of ADC_CTL (R507, R513): EN 0 abandons the entry; a LEN outside 0 to 16 makes the write have no effect. -/
def adcCtl (s : State) (v : W32) : State :=
  if 16 < fbits v 5 1 then s
  else
    let s := s.setReg Reg.ADC_CTL (v &&& 0x7F)
    if !fbit v 0 then (s.modAdc (fun a => { a with cur := none })).setBit Reg.ADC_STATUS 0 false
    else if s.bit Reg.ADC_STATUS 0 || fbits v 5 1 == 0 then s
    else adcGo ((s.setBit Reg.ADC_STATUS 0 true).modAdc (fun a => { a with lapStart := s.ringTime })) 0

/-- ADC_CTL_WRITE (R507). -/
def execAdcCtlWrite (value : W32) (s : State) : Host.Outcome State Fault Refusal := .next (adcCtl s value)

/-- One sample corrected with the trim of gain setting `g` (R509). -/
def adcCorrect (s : State) (g : Nat) (r : Int) : Int :=
  sar ((r - sint 24 (s.fld (Reg.CAL_ADC_OFSg g) 23 0)) * (s.fld (Reg.CAL_ADC_GAINg g) 23 0 : Nat) + 2 ^ 21) 22

/-- A raw sample at a rail of its code range (R509). -/
def atRail (r : Int) : Bool := decide (r = 2 ^ 23 - 1) || decide (r = -(2 ^ 23))

/-- The result of an entry from its raw samples: VALUE, SAT and OPEN (R509, R511). -/
def adcResult (s : State) (cfg tim : W32) (raw : List Int) : Int × Bool × Bool :=
  let g := fbits cfg 12 10
  let cs := raw.map (adcCorrect s g)
  let shift := fbits tim 23 20
  let sum := (cs.map sat24).foldl (· + ·) 0
  let res := sar (sum + (if shift = 0 then 0 else 2 ^ (shift - 1))) shift
  let sat := cs.any (fun c => decide (sat24 c ≠ c)) || decide (sat24 res ≠ res) || raw.any atRail
  let rail : Int := if fbit tim 26 then -(2 ^ 23) else 2 ^ 23 - 1
  let current := fbits tim 25 24 != 0 && (decide (fbits cfg 4 0 < 16) || decide (fbits cfg 9 5 < 16))
  (sat24 res, sat, current && raw.any (fun r => decide (r = rail)))

/-- An entry completes: TIME, then RESULT with CNT, its arrival for loop engines, its open-wire event, and the next
    entry (R507, R510, R511, R520). DEDUCED (log 74). -/
def adcComplete (s : State) (cfg tim : W32) (raw : List Int) : State :=
  let i := s.fld Reg.ADC_STATUS 8 5
  let r := adcResult s cfg tim raw
  let was := s.bit (Reg.ADC_SEQn_RESULT i) 24
  let cnt := (s.fld (Reg.ADC_SEQn_RESULT i) 31 27 + 1) % 32
  let s := s.setReg (Reg.ADC_SEQn_TIME i) (BitVec.ofNat 32 s.ringTime.toNat)
  let s := s.setReg (Reg.ADC_SEQn_RESULT i)
    (BitVec.ofNat 32 (uint 24 r.1 + 2 ^ 24 * b2n r.2.2 + 2 ^ 25 * b2n r.2.1 + 2 ^ 27 * cnt))
  let s := s.modAdc (fun a => { a with arrivals := sset none a.arrivals i (some s.ringTime) })
  let s := leSource s 1 (fun f => f == i) (fun _ => r.1)
  let s := if r.2.2 && !was then raise s 28 0 true
    else if !r.2.2 && was && !(List.range 16).any (fun n => s.bit (Reg.ADC_SEQn_RESULT n) 24) then liveOff s 28 else s
  let nx := adcNext s i
  adcGo (if nx = 0 then adcLap s else s) nx

/-- ADC_ENTRY_COMPLETE (R510): the 2^AVG samples of the entry in progress. -/
def execAdcEntryComplete (raw : List (BitVec 24)) (s : State) : Host.Outcome State Fault Refusal :=
  .next (
    match s.plant.adc.cur with
    | some (cfg, tim) =>
      if raw.length = 2 ^ fbits tim 19 16 then adcComplete s cfg tim (raw.map (fun r => sint 24 r.toNat)) else s
    | none => s)

/-- A self-calibration is asked for: it starts when no entry is in progress and no import runs, else it waits (R512, R513, R598).
    DEDUCED (log 74). -/
def adcCal (s : State) : State :=
  if s.bit Reg.ADC_STATUS 1 then s.setBit Reg.ADC_STATUS 4 true
  else
    let s := s.modAdc (fun a => { a with calWait := true })
    match s.plant.adc.cur with
    | some _ => s
    | none => adcGo s (s.fld Reg.ADC_STATUS 8 5)

/-- ADC_CAL (R512). -/
def execAdcCal (s : State) : Host.Outcome State Fault Refusal := .next (adcCal s)

/-- The device starts a calibration by itself; one that runs makes it ignore the trigger (R513, R593). -/
def adcAuto (s : State) : State := if s.bit Reg.ADC_STATUS 1 || s.plant.adc.calWait then s else adcCal s

/-- A calibration's results may be taken (R512). -/
def adcCalOk (ofs gain : List (BitVec 24)) : Bool :=
  ofs.all (fun o => decide ((sint 24 o.toNat).natAbs ≤ 2 ^ 20)) &&
  gain.all (fun g => decide (0x300000 ≤ g.toNat) && decide (g.toNat ≤ 0x500000))

/-- ADC_CAL_DONE (R512, R593): the trims are written with CALDONE, or kept with CALERR and source 28; CAL_ADC_TCAL takes
    group 15's latest value; the sequence resumes. -/
def execAdcCalDone (ofs gain : List (BitVec 24)) (s : State) : Host.Outcome State Fault Refusal :=
  .next (
    if !s.bit Reg.ADC_STATUS 1 then s
    else
      let s := s.setBit Reg.ADC_STATUS 1 false
      let s := if adcCalOk ofs gain then
          let s := s.each (List.range 8) (fun s g =>
            (s.setReg (Reg.CAL_ADC_OFSg g) (((ofs[g]?).getD 0).setWidth 32)).setReg (Reg.CAL_ADC_GAINg g)
              (((gain[g]?).getD 0x400000).setWidth 32))
          s.setBit Reg.ADC_STATUS 2 true
        else raise (s.setBit Reg.ADC_STATUS 3 true) 28 0 false
      let s := match (sget TmpGroup.init s.tmp.groups 15).last with
        | some (g, _) => s.setFld Reg.CAL_ADC_TCAL 15 0 (uint 16 g)
        | none => s
      if s.bit Reg.ADC_STATUS 0 then adcGo s (s.fld Reg.ADC_STATUS 8 5) else s)

end Sys2Proof.Machine
end

