-- ==== Sys2Proof/Machine/Fabric.lean ====
section
/-! DEFINITION. The fabric and the channels (R17 to R19, R148 to R162): routing, link failures, fences, page locks. -/

namespace Sys2Proof.Machine

/-! ### Routing (R148 to R151) -/

/-- Fabric link `k`. -/
def State.fabLink (s : State) (k : Nat) : FabLink := sget { down := false, fails := 0, retries := 0 } s.fabric.links k
/-- Fabric link `k` becomes `l`. -/
def State.setFabLink (s : State) (k : Nat) (l : FabLink) : State :=
  { s with fabric := { s.fabric with
      links := sset { down := false, fails := 0, retries := 0 } s.fabric.links k l } }

/-- Links and virtual channels of `n` hops along one dimension from coordinate `p` of a ring of `m`, in direction `up`;
    the other coordinate is `q`, `x` says which dimension. The channel becomes 1 once the dateline is crossed (R150).
    DEDUCED (log 46). -/
def hops (x : Bool) (m q : Nat) (up : Bool) : Nat → Nat → Nat → List (Nat × Nat)
  | 0, _, _ => []
  | n + 1, p, vc =>
    let r := if x then 8 * q + p else 8 * p + q
    let k := 4 * r + (if x then 0 else 2) + b2n (!up)
    let wrap := if up then p == m - 1 else p == 0
    let p' := if up then (p + 1) % m else (p + m - 1) % m
    (k, if wrap then 1 else vc) :: hops x m q up n p' (if wrap then 1 else vc)

/-- The hops of one dimension from `a` to `b`: the shorter way, positive on a tie, and the other way round the ring when
    a link of it is down; none when both are cut (R150, R151). DEDUCED (log 46). -/
def dimRoute (s : State) (x : Bool) (m q a b : Nat) : Option (List (Nat × Nat)) :=
  let f := (b + m - a) % m
  let up := decide (2 * f ≤ m)
  let go (u : Bool) := hops x m q u (if u then f else (m - f) % m) a 0
  let ok (l : List (Nat × Nat)) := l.all (fun h => !(s.fabLink h.1).down)
  if f = 0 then some []
  else if ok (go up) then some (go up)
  else if ok (go (!up)) then some (go (!up))
  else none

/-- The route of a message: x first, then y (R150). -/
def fabRoute (s : State) (src dst : Nat) : Option (List (Nat × Nat)) :=
  match dimRoute s true 8 (src / 8) (src % 8) (dst % 8) with
  | none => none
  | some a =>
    match dimRoute s false 6 (dst % 8) (src / 8) (dst / 8) with
    | some b => some (a ++ b)
    | none => none

/-- The island of the client attached to a router, if any (R148, R180). -/
def routerIsland (v : Variant) (r : Nat) : Option Nat :=
  let x := r % 8
  let y := r / 8
  let i :=
    if y = 0 then some (6 + 2 * (x / 2))
    else if y = 5 then some (7 + 2 * (x / 2))
    else if x = 0 then some (14 + (y - 1))
    else if x = 7 then some (18 + (y - 1))
    else if y ≤ 2 then some ((x - 1) / 2)
    else if x ≤ 4 then some (3 + (x - 1) / 2)
    else if x = 5 then some (if y = 3 then 22 else 24)
    else some (if y = 3 then 23 else 5)
  match i with
  | some k => if v.island k then some k else none
  | none => none

/-- A message ends in an error completion if it expects a response, and otherwise counts as discarded (R19, R151, R160). -/
def fabError (s : State) (expects : Bool) : State :=
  if expects then s.count Reg.FAB_ERRCOMP_CNT 1 else s.count Reg.FAB_DISCARD_CNT 1

/-- FABRIC_MESSAGE: a message of 1 to 65 cells travels its route and is delivered (R150, R153, R156); to an island that is
    unpowered or fenced, or past a partition, it ends as R19 and R151 say. A fenced island sends none (R160). -/
def execFabricMessage (_cls src dst cells : Nat) (expects : Bool) (s : State) : Host.Outcome State Fault Refusal :=
  .next (match routerIsland s.variant src, routerIsland s.variant dst with
    | some a, some b =>
      if !s.islandUp a || !s.islandUp 5 || cells = 0 || 65 < cells then s
      else match fabRoute s src dst with
        | none => if expects then (s.count Reg.FAB_DISCARD_CNT 1).count Reg.FAB_ERRCOMP_CNT 1
          else s.count Reg.FAB_DISCARD_CNT 1
        | some path =>
          if !s.islandUp b then fabError s expects
          else
            let s := s.each path (fun s h => s.setFabLink h.1 { s.fabLink h.1 with fails := 0 })
            { s with fabric := { s.fabric with
                route := path, flows := smod 0 s.fabric.flows (48 * (48 * _cls + src) + dst) (· + 1) } }
    | _, _ => s)

/-- Two output links lie in the same ring: the same row for x links, the same column for y links. -/
def sameRing (a b : Nat) : Bool :=
  (a % 4 / 2 == b % 4 / 2) && (if a % 4 / 2 = 0 then a / 32 == b / 32 else (a / 4) % 8 == (b / 4) % 8)

/-- A link goes down (R151, R177, R178). DEDUCED (log 46). -/
def fabLinkDown (s : State) (k : Nat) : State :=
  let cut := (List.range 192).any (fun j => j != k && sameRing j k && (s.fabLink j).down)
  let s := s.setFabLink k { s.fabLink k with down := true, fails := 0 }
  let s := (s.setFld Reg.FAB_STATUS 7 0 (s.fld Reg.FAB_STATUS 7 0 + 1)).setBit Reg.FAB_STATUS 8 true
  let s := raise s 5 0 false
  if cut then raise (s.setBit Reg.FAB_STATUS 9 true) 5 1 false else s

/-- LINK_CELL_FAIL: a failed cell is resent and counted; at its eighth consecutive failure the link goes down (R149).
    DEDUCED (log 46). -/
def execLinkCellFail (link : Nat) (s : State) : Host.Outcome State Fault Refusal :=
  .next (let l := s.fabLink link
    if l.down || !s.islandUp 5 then s
    else if 8 ≤ l.fails + 1 then fabLinkDown s link
    else
      let s := s.setFabLink link { l with fails := l.fails + 1, retries := min (2 ^ 31 - 1) (l.retries + 1) }
      raise (s.count Reg.FAB_CE_CNT 1) 5 0 false)

/-- FAB_LINK_STAT for the link FAB_LINK_SEL selects (R178). -/
def State.fabLinkStat (s : State) : W32 :=
  let k := s.fld Reg.FAB_LINK_SEL 7 0
  if 192 ≤ k then 0
  else BitVec.ofNat 32 (b2n (!(s.fabLink k).down) + 2 * (s.fabLink k).retries)

/-! ### Page locks (R162) -/

/-- The lock of a page. -/
def State.lock (s : State) (p : Nat) : Option PageLock := sget none s.fabric.locks p
/-- The lock of a page becomes `l`. -/
def State.setLock (s : State) (p : Nat) (l : Option PageLock) : State :=
  { s with fabric := { s.fabric with locks := sset none s.fabric.locks p l } }

/-- The lock passes to the oldest waiting request, or is gone. -/
def lockNext (s : State) (p : Nat) (l : PageLock) : State :=
  match l.waiting with
  | [] => s.setLock p (if l.ended.isEmpty then none else some { l with holder := 0xFFFF, waiting := [] })
  | h :: rest => s.setLock p (some { l with holder := h, waiting := rest, ended := l.ended.filter (· != h) })

/-- PAGE_LOCK_REQUEST: granted at once, or the request waits (R162). A holder number of 0xFFFF is no holder. -/
def execPageLockRequest (page holder : Nat) (s : State) : Host.Outcome State Fault Refusal :=
  .next (match s.lock page with
    | none => s.setLock page (some { holder := holder, waiting := [], ended := [] })
    | some l =>
      if l.holder = 0xFFFF then s.setLock page (some { l with holder := holder, ended := l.ended.filter (· != holder) })
      else s.setLock page (some { l with waiting := l.waiting ++ [holder] }))

/-- PAGE_UNLOCK: the holder releases the lock; from any other it does nothing (R162). -/
def execPageUnlock (page holder : Nat) (s : State) : Host.Outcome State Fault Refusal :=
  .next (match s.lock page with
    | some l => if l.holder = holder then lockNext s page l else s
    | none => s)

/-- PAGE_LOCK_EXPIRY: the lease ends, and the former holder's later writes under it are refused (R162). -/
def execPageLockExpiry (page : Nat) (s : State) : Host.Outcome State Fault Refusal :=
  .next (match s.lock page with
    | some l => if l.holder = 0xFFFF then s else lockNext s page { l with ended := l.ended ++ [l.holder] }
    | none => s)

/-- Every lock and waiting request of an island is gone (R160 step 4, R162). -/
def dropLocks (s : State) (isl : Nat) : State :=
  s.each (s.fabric.locks.map (fun e => e.1)) (fun s p =>
    match s.lock p with
    | some l =>
      let l := { l with waiting := l.waiting.filter (fun h => h / 8 != isl), ended := l.ended.filter (fun h => h / 8 != isl) }
      if l.holder != 0xFFFF && l.holder / 8 == isl then lockNext s p l else s.setLock p (some l)
    | none => s)

/-! ### Fences (R160, R161) -/

/-- An engine's stage work ends without records, its seats go OFF (R46, R47, R111). -/
def engineStop (s : State) (e : Nat) : State :=
  let s := s.each (List.range 96) (fun s k =>
    let i := 128 * e + k
    if (s.seat i).st == .off then s else seatOff s i)
  let s := s.each (List.range 6) (fun s u => { s with works := sset [] s.works (8 * e + u) [] })
  let r := sget EngineRun.init s.engines e
  let idle := { EngineRun.init with emuLast := r.emuLast, episode := r.episode, uLive := r.uLive, ckLive := r.ckLive }
  let s := { s with engines := sset EngineRun.init s.engines e idle }
  let s := (s.setFld (Reg.SEn_LCU_STATUS e) 1 0 0).setBit (Reg.SEn_SCU_STATUS e) 0 false
  let s := (s.setFld (Reg.SEn_NMU_STATUS e) 1 0 0).setFld (Reg.SEn_ICU_STATUS e) 2 0 0
  let s := (s.setBit (Reg.SEn_ICU_STATUS e) 5 false).setBit (Reg.SEn_EMU_STATUS e) 3 false
  s.setFld (Reg.SEn_EMU_STATUS e) 1 0 (if r.episode.isSome then 3 else 0)

/-- An island is fenced (R160). How many cells were queued to it, and how many of them were posted or expected a
    response, is free: the fabric's traffic at that instant. -/
def fenceCore (s : State) (i : Nat) : State :=
  if s.fenced i then s
  else
    let s := s.setBit Reg.SYS_ISLAND_FENCE i true
    let s := { s with fabric := { s.fabric with resetDone := sset false s.fabric.resetDone i false } }
    let s := s.draw.2.count Reg.FAB_RECLAIM_CNT s.draw.1.toNat
    let s := s.draw.2.count Reg.FAB_DISCARD_CNT s.draw.1.toNat
    let s := s.draw.2.count Reg.FAB_ERRCOMP_CNT s.draw.1.toNat
    let s := dropLocks s i
    if i ≤ 4 then engineStop s i else s

/-- A controller's event of type `t` at a page (R179); the address of an event that concerns no page is free. -/
def memEvent (s : State) (n t : Nat) (page : Option Nat) : State :=
  let s := s.setBit (Reg.MEMn_EVT n) (t - 1) true
  let (a, s) := match page with
    | some p => (BitVec.ofNat 64 (2048 * p), s)
    | none => s.draw
  let s := s.setReg (Reg.MEMn_LAST_LO n) (BitVec.ofNat 32 a.toNat)
  s.setReg (Reg.MEMn_LAST_HI n) (BitVec.ofNat 32 (a.toNat / 2 ^ 32 % 2 ^ 16 + 2 ^ 16 * t))

/-- A stack is lost: its controller is fenced, and mirrored regions degrade (R176, R177). -/
def stackLose (s : State) (n : Nat) : State :=
  if s.bit Reg.MEM_STATUS (8 + n) then s
  else
    let s := (fenceCore s (6 + n)).setBit Reg.MEM_STATUS (8 + n) true
    let s := memEvent s n 6 none
    let s := s.each (List.range 16) (fun s k =>
      if s.fld (Reg.MEM_RGNk_CFG k) 5 4 = 2 then s.setFld (Reg.MEM_RGNk_CFG k) 5 4 3 else s)
    raise s (6 + n) 1 false

/-- A fence of any island; a controller's fence loses its stack (R176). -/
def fenceIsland (s : State) (i : Nat) : State :=
  if 6 ≤ i ∧ i ≤ 13 then stackLose (fenceCore s i) (i - 6) else fenceCore s i

/-- Islands a write of FAB_FENCE_SET or FAB_FENCE_CLR acts on (R178). -/
def fenceable (s : State) (i : Nat) : Bool := i != 5 && decide (i < 24) && s.variant.island i

/-- A write of FAB_FENCE_SET. -/
def fenceSet (s : State) (v : W32) : State :=
  s.each (List.range 24) (fun s i => if fbit v i && fenceable s i then fenceIsland s i else s)

/-- FAB_FENCE_SET (R160). -/
def execFabFenceSet (who : Requester) (islands : W32) (s : State) : Host.Outcome State Fault Refusal :=
  .next (respond who (if s.controlAllowed who Reg.FAB_FENCE_SET true then (fenceSet s islands, true) else (s, false)))

/-- The seats of an engine that may leave OFF do: enabled, and assigned to a domain (R46, R120); without an ENGINE image
    none does (R625). -/
def engineSeatsOn (s : State) (e : Nat) : State :=
  if s.bit Reg.SYS_BOOT 5 then s else
  s.each (List.range 96) (fun s k =>
    let i := 128 * e + k
    if (s.seat i).st == .off && s.seatEnabled i && decide ((s.seatmap k / 16) % 2 = 1) then seatOn s i else s)

/-- A fence is removed, once its island has been reset (R161). -/
def unfence (s : State) (i : Nat) : State :=
  if s.fenced i && sget false s.fabric.resetDone i then
    let s := s.setBit Reg.SYS_ISLAND_FENCE i false
    let s := { s with fabric := { s.fabric with resetDone := sset false s.fabric.resetDone i false } }
    if i ≤ 4 then engineSeatsOn s i else s
  else s

/-- An island's owning procedure has reset it. -/
def State.markReset (s : State) (i : Nat) : State :=
  { s with fabric := { s.fabric with resetDone := sset false s.fabric.resetDone i true } }

/-- A write of FAB_FENCE_CLR. -/
def fenceClr (s : State) (v : W32) : State :=
  s.each (List.range 24) (fun s i => if fbit v i && fenceable s i then unfence s i else s)

/-- FAB_FENCE_CLR (R161). -/
def execFabFenceClr (who : Requester) (islands : W32) (s : State) : Host.Outcome State Fault Refusal :=
  .next (respond who (if s.controlAllowed who Reg.FAB_FENCE_CLR true then (fenceClr s islands, true) else (s, false)))

/-! ### Channels (R17 to R19) -/

/-- The near island counts `n` posted words it discards (R19). -/
def State.discardPosted (s : State) (near n : Nat) : State :=
  let s := { s with fabric := { s.fabric with discards := smod 0 s.fabric.discards near (· + n) } }
  if near = 5 then s.count Reg.FAB_DISCARD_CNT n else s

/-- CHANNEL_WORD_SEND: the word reaches the far island in order; one that is unpowered or fenced takes none (R17 to R19). -/
def execChannelWordSend (near far : Nat) (word : W64) (s : State) : Host.Outcome State Fault Refusal :=
  .next (if !s.islandOn near then s
    else if !s.islandUp far then s.discardPosted near 1
    else { s with fabric := { s.fabric with
        channels := smod [] s.fabric.channels (32 * near + far) (fun l => l ++ [word]) } })

end Sys2Proof.Machine
end

