-- ==== Sys2Proof/Machine/Faults.lean ====
section
/-! DEFINITION. The fault collector's commands (R544 to R553), the independent escalation timer (R554, R555), the safe
state's commands (R556 to R559), the alive signal (R560) and the write rules of the FC registers (R549 to R551, R568). -/

namespace Sys2Proof.Machine

/-! ### Events and grace (R544 to R551) -/

/-- The classes a source raises (R545). -/
def sourceRaises (n cls : Nat) : Bool :=
  if n ≤ 13 then decide (cls ≤ 1)
  else if n ≤ 16 then cls == 0
  else if n = 17 then decide (cls ≤ 1)
  else if n ≤ 20 then cls == 0
  else if n = 21 then cls == 2
  else if n = 22 then decide (cls ≤ 1)
  else if n = 23 then cls == 0
  else if n ≤ 26 then cls == 1
  else if n = 27 then decide (cls ≤ 1)
  else if n ≤ 29 then cls == 0
  else if n = 30 then cls == 1
  else if n = 31 then decide (cls ≤ 2)
  else if n ≤ 33 then cls == 0 || cls == 2
  else if n ≤ 35 then cls == 0
  else if n ≤ 37 then decide (cls ≤ 1)
  else if n ≤ 40 then cls == 0
  else if n = 41 then cls == 2
  else decide (48 ≤ n) && decide (cls ≤ 2)

/-- FAULT_RAISE (R544 to R553): a source raises an event of one of its classes. -/
def execFaultRaise (src cls : Nat) (live : Bool) (s : State) : Host.Outcome State Fault Refusal :=
  .next (if sourceRaises src cls then raise s src cls live else s)

/-- A live line clears; source 41's is SAFE_IN itself, whose level AON_WAKECFG shows (R550, R551, R556, R633).
    DEDUCED (log 42). -/
def lineClear (s : State) (n : Nat) : State :=
  let s := if n = 41 then s.setBit Reg.AON_WAKECFG 17 false else s
  if s.live n then liveOff s n else s

/-- LIVE_LINE_CLEAR (R550, R551). -/
def execLiveLineClear (src : SrcIx) (s : State) : Host.Outcome State Fault Refusal := .next (lineClear s src)

/-- SAFETY_CLEAR_HOLD (R551): a safety-relevant source's live line has stayed inactive for 10 ms. -/
def execSafetyClearHold (src : SrcIx) (s : State) : Host.Outcome State Fault Refusal :=
  .next (if (s.source src).clearing && !s.live src then
    s.setSource src { grace := .idle, cls := 0, clearing := false } else s)

/-- UGRACE_EXPIRY (R550). -/
def execUgraceExpiry (src : SrcIx) (s : State) : Host.Outcome State Fault Refusal :=
  .next (if (s.source src).grace = .u && s.live src then escalate s src else s)

/-- The first-source record is cleared (R547). -/
def firstClear (s : State) : State :=
  s.each [Reg.FC_FIRST, Reg.FC_FIRST_TIME_LO, Reg.FC_FIRST_TIME_HI, Reg.FC_FIRST_ISL, Reg.FC_FIRST_FENCE]
    (fun s a => s.setReg a 0)

/-- FC_FIRST_CLR (R547). -/
def execFcFirstClr (who : Requester) (s : State) : Host.Outcome State Fault Refusal :=
  .next (respond who (if s.controlAllowed who Reg.FC_FIRST_CLR true then (firstClear s, true) else (s, false)))

/-- The owner fields of FC_HANDLING for a requester, with H = 1 (R553). DEDUCED (log 39). -/
def handlingOf (s : State) (w : Requester) : W32 :=
  if s.whoM w then 0x21
  else if w == .seat plantSeat then 0x11
  else fset 1 3 1 ((s.whoDomain w).getD 0)

/-- A write of FC_HANDLING.H (R553): H = 1 records the writer; while H = 1 only the owner's write acts. DEDUCED (log 39). -/
def handlingWrite (s : State) (w : Requester) (h : Bool) : State :=
  if s.bit Reg.FC_HANDLING 0 && !s.handlingOwner w then s
  else if h then s.setReg Reg.FC_HANDLING (handlingOf s w)
  else s.setBit Reg.FC_HANDLING 0 false

/-- FC_HANDLING_WRITE (R553). -/
def execFcHandlingWrite (who : Requester) (h : Bool) (s : State) : Host.Outcome State Fault Refusal :=
  .next (respond who (if s.controlAllowed who Reg.FC_HANDLING true then (handlingWrite s who h, true) else (s, false)))

/-- A write of FC_SWRAISE (R552): source 48 + `src`. DEDUCED (log 39). -/
def swRaise (s : State) (src cls : Nat) (live : Bool) : State :=
  if 3 ≤ cls then s
  else if live then raise s (48 + src % 16) cls true
  else lineClear s (48 + src % 16)

/-- FC_SWRAISE (R552). -/
def execFcSwraise (who : Requester) (src : BitVec 4) (cls : BitVec 2) (live : Bool) (s : State) :
    Host.Outcome State Fault Refusal :=
  .next (respond who (if s.controlAllowed who Reg.FC_SWRAISE true then (swRaise s src.toNat cls.toNat live, true)
    else (s, false)))

/-! ### The independent escalation timer (R554, R555) -/

/-- Debug is enabled: trust state OPEN, or SNP_DBG.EN (R122, R610). -/
def State.debugOn (s : State) : Bool := s.keyFuses == 0 || s.bit Reg.SNP_DBG 8

/-- EXTEST, HIGHZ or CLAMP is in force on the test access port (R608, R610). -/
def State.tapHolds (s : State) : Bool := s.debugOn && (s.tapIr == 3 || s.tapIr == 4 || s.tapIr == 5)

/-- What the collector's registers show of a condition of R554: a stalled strobe and a wrong level at a ball are seen
    by the timer alone; READBACK is suspended while the test access port drives the balls (R610). DEDUCED (log 41). -/
def ietCondition (s : State) (cause : Nat) : Bool :=
  match cause with
  | 1 => true
  | 2 => s.bit Reg.FC_HANDLING 0
  | 3 => s.safeState == 3 && (List.range 64).any (fun n => safetySource n && s.live n)
  | 4 => !s.tapHolds
  | _ => false

/-- IET_FIRE (R554, R555). -/
def execIetFire (cause : Nat) (s : State) : Host.Outcome State Fault Refusal :=
  .next (if ietCondition s cause then
    let s := (s.setBit Reg.FC_IET 8 true).setFld Reg.FC_IET 11 9 cause
    safeOrder (safeOutputs s) .iet 0
  else s)

/-- FC_IET_CLEAR (R555, R568): FIRED clears when no condition of R554 holds; `holds` is what the timer sees. -/
def execFcIetClear (who : Requester) (holds : Bool) (s : State) : Host.Outcome State Fault Refusal :=
  .next (respond who (if s.controlAllowed who Reg.FC_IET true && s.plantOrM who then
    (if holds then s else (s.setBit Reg.FC_IET 8 false).setFld Reg.FC_IET 11 9 0, true) else (s, false)))

/-! ### The safe state (R556 to R559) -/

/-- SAFE_IN_ACTIVE (R556): class F on source 41, whose live line is SAFE_IN. -/
def execSafeInActive (s : State) : Host.Outcome State Fault Refusal :=
  .next (let s := s.setBit Reg.AON_WAKECFG 17 true
    if s.live 41 then s else raise s 41 2 true)

/-- SAFE_ENTER (R556, R568). -/
def execSafeEnter (who : Requester) (s : State) : Host.Outcome State Fault Refusal :=
  .next (respond who (if s.controlAllowed who Reg.FC_SAFE_CMD true then (safeOrder s .command 0, true) else (s, false)))

/-- The conditions of R559 on the state; RELEASE is also refused while the test access port drives the balls (R610). -/
def releaseOk (s : State) : Bool :=
  !(List.range 64).any (fun n => s.live n && (safetySource n || (s.source n).cls == 2)) &&
  !s.live 41 && !s.bit Reg.FC_IET 8 && !s.recovery && !s.tapHolds

/-- RELEASE written with its key (R558, R559). -/
def safeRelease (s : State) : State :=
  if !releaseOk s then s.setBit Reg.FC_SAFE 11 true
  else if s.safeState ≠ 0 then s
  else if s.fld Reg.FC_SAFE 4 2 = 0 then s.setFld Reg.FC_SAFE 1 0 2
  else plantRestartBegin (s.setFld Reg.FC_SAFE 1 0 1) 2

/-- SAFE_RELEASE (R559, R568). -/
def execSafeRelease (who : Requester) (s : State) : Host.Outcome State Fault Refusal :=
  .next (respond who (if s.controlAllowed who Reg.FC_SAFE_CMD true && s.plantOrM who then (safeRelease s, true)
    else (s, false)))

/-- SAFE_RESTART_DONE (R558). -/
def execSafeRestartDone (s : State) : Host.Outcome State Fault Refusal :=
  .next (if s.plantRestart = some 2 then plantRestartDone s else s)

/-- RESUME written with its key (R559, R560): only in READY; the outputs resume, the safety outputs take FW, and PIP
    rises. -/
def safeResume (s : State) : State :=
  if s.safeState ≠ 2 then s.setBit Reg.FC_SAFE 11 true
  else
    let s := s.setFld Reg.FC_SAFE 1 0 3
    let s := s.setFld Reg.FC_SAFEOUT 11 8 (s.fld Reg.FC_SAFEOUT 3 0)
    let s := if s.bit Reg.FC_PIP 0 then s.setBit Reg.FC_PIP 12 true else s
    outputsResume s

/-- SAFE_RESUME (R559, R568). -/
def execSafeResume (who : Requester) (s : State) : Host.Outcome State Fault Refusal :=
  .next (respond who (if s.controlAllowed who Reg.FC_SAFE_CMD true && s.plantOrM who then (safeResume s, true)
    else (s, false)))

/-- PIP_HALF_PERIOD (R560): PIP toggles in RUN with EN = 1. -/
def execPipHalfPeriod (s : State) : Host.Outcome State Fault Refusal :=
  .next (if s.safeState = 3 && s.bit Reg.FC_PIP 0 then s.setBit Reg.FC_PIP 12 (!s.bit Reg.FC_PIP 12) else s)

/-! ### Writes of the FC registers (R549 to R551, R560, R568) -/

/-- A field write of 32 bits under a mask: the writable bits take `v`, the rest stay. -/
def mergeMask (old v m : W32) : W32 := (old &&& ~~~m) ||| (v &&& m)

/-- A write of FC_SRCn_CFG (R549 to R551): a value out of range has no effect on its write; a safety-relevant source
    takes writes in SAFE and READY only, from the plant domain or M mode. -/
def fcSrcCfgWrite (s : State) (w : Requester) (n : Nat) (v : W32) : Written :=
  if 42 ≤ n ∧ n ≤ 47 then (s, true)
  else if safetySource n && !(s.plantOrM w && (s.safeState == 0 || s.safeState == 2)) then (s, false)
  else if 100 < fbits v 6 0 ∨ 5 < fbits v 9 7 ∨ (!safetySource n && n ≠ 39 && fbits v 11 10 = 3) then (s, true)
  else
    let m : W32 := if safetySource n || n == 39 then 0x73FF else 0x7FFF
    (s.setReg (Reg.FC_SRCn_CFG n) (mergeMask (s.reg (Reg.FC_SRCn_CFG n)) v m), true)

/-- A write of FC_SAFEOUT (R568): SAFELVL only in SAFE with CAUSE BOOT; in RUN the balls follow FW (R558). -/
def fcSafeoutWrite (s : State) (w : Requester) (v : W32) : Written :=
  if !s.plantOrM w then (s, false)
  else
    let boot := s.safeState == 0 && s.fld Reg.FC_SAFE 4 2 == 0
    let s := s.setReg Reg.FC_SAFEOUT (mergeMask (s.reg Reg.FC_SAFEOUT) v (if boot then 0xFF else 0x0F))
    (s.setFld Reg.FC_SAFEOUT 11 8 (if s.safeState = 3 then s.fld Reg.FC_SAFEOUT 3 0 else s.fld Reg.FC_SAFEOUT 7 4), true)

/-- A write of FC_PIP (R560, R568): HALF outside 250 to 2,000 has no effect. -/
def fcPipWrite (s : State) (w : Requester) (v : W32) : Written :=
  if !s.plantOrM w then (s, false)
  else if fbits v 11 1 < 250 ∨ 2000 < fbits v 11 1 then (s, true)
  else (s.setReg Reg.FC_PIP (mergeMask (s.reg Reg.FC_PIP) v 0xFFF), true)

/-- A write of FC_IET.HMAX (R568): 1 to 100. DEDUCED (log 41). -/
def fcIetWrite (s : State) (w : Requester) (v : W32) : Written :=
  if !s.plantOrM w then (s, false)
  else if fbits v 6 0 = 0 ∨ 100 < fbits v 6 0 then (s, true)
  else (s.setFld Reg.FC_IET 6 0 (fbits v 6 0), true)

end Sys2Proof.Machine
end

