-- ==== Sys2Proof/Machine/Memory.lean ====
section
/-! DEFINITION. The page code, scrubbing, range passes, retirement, row sparing and mirrored regions (R163 to R177). -/

namespace Sys2Proof.Machine

/-- Stack `n`. -/
def State.stack (s : State) (n : Nat) : Stack :=
  sget { scrubPos := 0, lapStart := 0, rowGroups := [], recentUe := [] } s.stackRuns n
/-- Stack `n` becomes `k`. -/
def State.setStack (s : State) (n : Nat) (k : Stack) : State :=
  { s with stackRuns := sset { scrubPos := 0, lapStart := 0, rowGroups := [], recentUe := [] } s.stackRuns n k }

/-- Data pages of a stack: 24 GiB (R168). -/
def stackPages : Nat := 12582912

/-! ### Strength (R165, R172, R173) -/

/-- Symbols corrected in a page, by its header (R165). -/
def State.pageT (s : State) (page : Nat) : Nat := 8 * (((s.page page).strength.getD (s.baseStrength page)).toNat + 1)

/-! ### Retirement and row sparing (R170, R171) -/

/-- A retired row group moves to a spare row: its retired pages return to their addresses (R171). -/
def rowSpare (s : State) (n g page : Nat) : State :=
  let k := s.stack n
  let back := s.pages.filter (fun e => e.2.retired && s.stackOf e.1 == n &&
    Config.rowGroup n (e.1 / s.variant.stacks) == g)
  let s := s.each back (fun s e => s.setPage e.1 { s.page e.1 with retired := false })
  let s := s.setStack n { k with rowGroups := sset 0 k.rowGroups g 0 }
  let s := s.setReg (Reg.MEMn_RETIRED n) (s.reg (Reg.MEMn_RETIRED n) - BitVec.ofNat 32 back.length)
  let s := s.count (Reg.MEMn_SPARE_FREE n) back.length
  raise (memEvent (s.count (Reg.MEMn_ROWS_SPARED n) 1) n 4 (some page)) (6 + n) 0 false

/-- A page is retired, or SPARE_EMPTY (R170); its row group may then be spared (R171). -/
def retirePage (s : State) (page : Nat) : State :=
  let n := s.stackOf page
  if (s.page page).retired then s
  else if s.reg (Reg.MEMn_SPARE_FREE n) = 0 then raise (memEvent s n 5 (some page)) (6 + n) 1 false
  else
    let s := s.setPage page { s.page page with retired := true }
    let s := s.setReg (Reg.MEMn_SPARE_FREE n) (s.reg (Reg.MEMn_SPARE_FREE n) - 1)
    let s := raise (memEvent (s.count (Reg.MEMn_RETIRED n) 1) n 3 (some page)) (6 + n) 0 false
    let g := Config.rowGroup n (page / s.variant.stacks)
    let k := s.stack n
    let s := s.setStack n { k with rowGroups := smod 0 k.rowGroups g (· + 1) }
    let th := s.fld Reg.MEM_SCRUB_CTL 21 18
    if th ≠ 0 ∧ th ≤ sget 0 (s.stack n).rowGroups g ∧ (s.reg (Reg.MEMn_ROWS_SPARED n)).toNat < 1024 then
      rowSpare s n g page
    else s

/-! ### Reads that find errors (R167, R175, R176) -/

/-- A page is found uncorrectable: poisoned, counted, and its stack lost with more than 64 such pages within 1 s (R167, R176).
    DEDUCED (log 43). -/
def poisonPage (s : State) (page : Nat) : State :=
  let n := s.stackOf page
  let s := s.setPage page { s.page page with poisoned := true, cells := 0 }
  let s := raise (memEvent (s.count (Reg.MEMn_UE_CNT n) 1) n 2 (some page)) (6 + n) 1 false
  let k := s.stack n
  let recent := (k.recentUe.filter (fun t => decide (s.ringTime.toNat < t.toNat + 1000000000))) ++ [s.ringTime]
  let s := s.setStack n { k with recentUe := recent }
  if 64 < recent.length then stackLose s n else s

/-- The stack that holds a page's mirror copy. -/
def State.partner (s : State) (page : Nat) : Nat := Nat.xor (s.stackOf page) 1

/-- A read of a page that finds symbol errors, in the page and in its mirror copy: corrected, served from the copy and
    repaired, or uncorrectable (R165, R167, R175, R177). DEDUCED (log 43). -/
def pageErrors (s : State) (page errs copyErrs : Nat) : State :=
  let n := s.stackOf page
  if errs = 0 || (s.page page).poisoned || s.stackLost n then s
  else if errs ≤ s.pageT page then
    raise (memEvent (s.count (Reg.MEMn_CE_CNT n) 1) n 1 (some page)) (6 + n) 0 false
  else if s.mirrored page && !s.stackLost (s.partner page) && decide (copyErrs ≤ s.pageT page) then
    raise (memEvent (s.encode page) n 8 (some page)) (6 + n) 0 false
  else poisonPage s page

/-- The errors a read of `n` bytes from `a` finds. -/
def readErrors (s : State) (a n : Nat) (errs : PageErrs) : State :=
  s.each (errs.filter (fun e => (spanning 2048 a n).contains e.1)) (fun s e => pageErrors s e.1 e.2.1 e.2.2)

/-! ### Scrubbing and range passes (R168, R169) -/

/-- What a scrub or pass does with one page. DEDUCED (log 43). -/
def scrubVisit (s : State) (page errs copyErrs : Nat) : State :=
  let n := s.stackOf page
  if (s.page page).poisoned then if (s.page page).retired then s else raise (retirePage s page) 36 1 false
  else if errs = 0 then s
  else if errs ≤ s.pageT page then
    let s := (pageErrors s page errs copyErrs).encode page
    let th := s.fld Reg.MEM_SCRUB_CTL 17 13
    if th ≠ 0 ∧ th ≤ errs then retirePage s page else s
  else
    let s := pageErrors s page errs copyErrs
    if (s.page page).poisoned && !s.stackLost n then raise (retirePage s page) 36 1 false else s

/-- The end of a lap (R168): LAP in ms, and source 36 when it was too long. DEDUCED (log 43). -/
def lapEnd (s : State) (n : Nat) (page : Nat) : State :=
  let k := s.stack n
  let ms := (s.ringTime.toNat - k.lapStart.toNat) / 1000000
  let s := s.setStack n { k with scrubPos := 0, lapStart := s.ringTime }
  let s := (s.setReg (Reg.MEMn_LAP n) (BitVec.ofNat 32 ms)).setReg (Reg.MEMn_LAP_POS n) 0
  let lim := s.fld Reg.MEM_SCRUB_LAPMAX 15 0
  if lim ≠ 0 ∧ 1000 * lim < ms then raise (memEvent s n 7 (some page)) 36 0 false else s

/-- SCRUB_PAGE: the scrubber of a stack visits its next page (R168). RATE 0 stops it. -/
def execScrubPage (stack errs copyErrs : Nat) (s : State) : Host.Outcome State Fault Refusal :=
  .next (if !s.islandUp (6 + stack) || s.stackLost stack || s.fld Reg.MEM_SCRUB_CTL 12 0 == 0 then s
    else
      let k := s.stack stack
      let page := k.scrubPos * s.variant.stacks + stack
      let s := scrubVisit s page errs copyErrs
      if k.scrubPos + 1 = stackPages then lapEnd s stack page
      else
        (s.setStack stack { s.stack stack with scrubPos := k.scrubPos + 1 }).setReg (Reg.MEMn_LAP_POS stack)
          (BitVec.ofNat 32 (k.scrubPos + 1)))

/-- The pages of the range pass: its first page and length (R169, R179). -/
def State.passRange (s : State) : Nat × Nat :=
  (((s.reg Reg.MEM_PASS_BASE_LO).toNat + 2 ^ 32 * s.fld Reg.MEM_PASS_BASE_HI 15 0) / 2048, (s.reg Reg.MEM_PASS_LEN).toNat)

/-- The summary counts are 0. -/
def passClear (s : State) : State :=
  (((s.setReg Reg.MEM_PASS_READ 0).setReg Reg.MEM_PASS_CORR 0).setReg Reg.MEM_PASS_UNCORR 0).setReg Reg.MEM_PASS_RETIRED 0

/-- START of a range pass (R169). -/
def passStart (s : State) (who : Requester) : State :=
  if s.bit Reg.MEM_PASS_STATUS 0 then s
  else
    let (p, n) := s.passRange
    let m := s.whoM who
    let d := (s.whoDomain who).getD 0
    let kt := BitVec.ofNat 14 (s.fld Reg.MEM_PASS_BASE_HI 29 16)
    let ok := m || ((s.domain d).holdsRange (2048 * p) (2048 * n) && s.tagsMatch (2048 * p) (2048 * n) kt)
    let st (busy done refused : Bool) : W32 :=
      BitVec.ofNat 32 (b2n busy + 2 * b2n done + 8 * b2n refused + (if m then 128 else 16 * d))
    let s := passClear s
    if n = 0 then s.setReg Reg.MEM_PASS_STATUS (st false true false)
    else if !ok then s.setReg Reg.MEM_PASS_STATUS (st false false true)
    else s.setReg Reg.MEM_PASS_STATUS (st true false false)

/-- MEM_PASS_START (R169). -/
def execMemPassStart (who : Requester) (s : State) : Host.Outcome State Fault Refusal :=
  .next (respond who (if s.controlAllowed who Reg.MEM_PASS_CMD true then (passStart s who, true) else (s, false)))

/-- One page of a pass, with the summary counts (R169). DEDUCED (log 44). -/
def passVisit (s : State) (page errs copyErrs : Nat) : State :=
  let was := (s.page page).retired
  let bad := (s.page page).poisoned
  let t := s.pageT page
  let s := scrubVisit s page errs copyErrs
  let s := if !bad && decide (0 < errs) && decide (errs ≤ t) then s.count Reg.MEM_PASS_CORR 1 else s
  let s := if (s.page page).poisoned then s.count Reg.MEM_PASS_UNCORR 1 else s
  if !was && (s.page page).retired then s.count Reg.MEM_PASS_RETIRED 1 else s

/-- Poisoned pages of a range that the reads of a pass find beside those of `errs`. -/
def knownBad (s : State) (p n : Nat) (errs : PageErrs) : List Nat :=
  (s.pages.filter (fun e => e.2.poisoned && decide (p ≤ e.1) && decide (e.1 < p + n) &&
    !(errs.any (fun x => x.1 == e.1)))).map (fun e => e.1)

/-- A pass has visited `n` pages from `p`. DEDUCED (log 44). -/
def passOver (s : State) (p n : Nat) (errs : PageErrs) : State :=
  let bad := knownBad s p n errs
  let s := s.setReg Reg.MEM_PASS_READ (BitVec.ofNat 32 n)
  let s := s.count Reg.MEM_PASS_UNCORR bad.length
  s.each (errs.filter (fun e => decide (p ≤ e.1) && decide (e.1 < p + n) && s.inMemory (2048 * e.1) 2048))
    (fun s e => passVisit s e.1 e.2.1 e.2.2)

/-- MEM_PASS_DONE: every page has been visited, with the symbol errors found (R169). -/
def execMemPassDone (errs : PageErrs) (s : State) : Host.Outcome State Fault Refusal :=
  .next (if !s.bit Reg.MEM_PASS_STATUS 0 then s
    else
      let (p, n) := s.passRange
      let s := passOver s p n errs
      (s.setBit Reg.MEM_PASS_STATUS 0 false).setBit Reg.MEM_PASS_STATUS 1 true)

/-- ABORT ends a running pass after `visited` pages (R169, R179). DEDUCED (log 44). -/
def passAbort (s : State) (visited : Nat) (errs : PageErrs) : State :=
  if !s.bit Reg.MEM_PASS_STATUS 0 then s
  else
    let (p, n) := s.passRange
    let s := passOver s p (min n visited) errs
    (s.setBit Reg.MEM_PASS_STATUS 0 false).setBit Reg.MEM_PASS_STATUS 2 true

/-- MEM_PASS_ABORT (R169). -/
def execMemPassAbort (who : Requester) (visited : Nat) (errs : PageErrs) (s : State) : Host.Outcome State Fault Refusal :=
  .next (respond who (if s.controlAllowed who Reg.MEM_PASS_CMD true then (passAbort s visited errs, true) else (s, false)))

/-! ### Regions (R172 to R174) -/

/-- M mode and the press-control domain write region registers (R172). -/
def State.regionAccess (s : State) (who : Requester) : Bool :=
  s.controlAllowed who Reg.MEM_DEFCFG true && (s.whoM who || s.whoRole who 1)

/-- Granules `a … a + n − 1` and `b … b + m − 1` overlap. -/
def overlaps (a n b m : Nat) : Bool := decide (0 < n) && decide (0 < m) && decide (a < b + m) && decide (b < a + n)

/-- BASE and COUNT of region `k`. -/
def State.rgn (s : State) (k : Nat) : Nat × Nat :=
  (s.fld (Reg.MEM_RGNk_BASE k) 16 0, s.fld (Reg.MEM_RGNk_COUNT k) 16 0)
/-- The shadow of region `k`, while it is mirrored. -/
def State.rgnShadow (s : State) (k : Nat) : Nat × Nat :=
  if s.bit (Reg.MEM_RGNk_CFG k) 2 then (s.fld (Reg.MEM_RGNk_SHADOW k) 16 0, (s.rgn k).2) else (0, 0)
/-- ERR of a region. -/
def State.rgnErr (s : State) (k : Nat) (b : Bool) : State := s.setBit (Reg.MEM_RGNk_CFG k) 7 b

/-- The pair BASE and COUNT of a region is written (R172): refused with ERR when it overlaps another region or a shadow, or
    ends above the highest memory address. -/
def rgnPairWrite (s : State) (k : Nat) (base count : W32) : State :=
  let b := fbits base 16 0
  let c := fbits count 16 0
  let bad := decide (s.memSize < (b + c) * 2 ^ 21) && decide (0 < c) ||
    (List.range 16).any (fun j => (j != k && overlaps b c (s.rgn j).1 (s.rgn j).2) ||
      overlaps b c (s.rgnShadow j).1 (s.rgnShadow j).2)
  if bad then s.rgnErr k true
  else
    let s := (s.setFld (Reg.MEM_RGNk_BASE k) 16 0 b).setFld (Reg.MEM_RGNk_COUNT k) 16 0 c
    s.rgnErr k false

/-- The shadow's granules lie in memory, belong to no domain, and overlap no region and no other shadow (R174). -/
def shadowOk (s : State) (k : Nat) : Bool :=
  let sh := s.fld (Reg.MEM_RGNk_SHADOW k) 16 0
  let n := (s.rgn k).2
  decide ((sh + n) * 2 ^ 21 ≤ s.memSize) &&
  (List.range n).all (fun i => (List.range 8).all (fun d => !(s.domain d).holds (sh + i))) &&
  (List.range 16).all (fun j => !overlaps sh n (s.rgn j).1 (s.rgn j).2 &&
    (j == k || !overlaps sh n (s.rgnShadow j).1 (s.rgnShadow j).2))

/-- A write of MEM_RGNk_CFG (R173, R174): STRENGTH sets RENC when it changes; MIRROR = 1 starts RESILVER or sets ERR, with
    no effect then; MIRROR = 0 ends mirroring at once. DEDUCED (log 44). -/
def rgnCfgWrite (s : State) (k : Nat) (v : W32) : State :=
  let a := Reg.MEM_RGNk_CFG k
  let want := fbit v 2
  let has := s.bit a 2
  if want && !has && !shadowOk s k then s.rgnErr k true
  else
    let s := if s.fld a 1 0 = fbits v 1 0 then s else (s.setFld a 1 0 (fbits v 1 0)).setBit a 6 true
    let s := if want == has then s else (s.setBit a 2 want).setFld a 5 4 (if want then 1 else 0)
    s.rgnErr k false

/-- A write of MEM_RGNk_SHADOW: none while MIRROR = 1 (R174). -/
def rgnShadowWrite (s : State) (k : Nat) (v : W32) : State :=
  if s.bit (Reg.MEM_RGNk_CFG k) 2 then s
  else (s.setFld (Reg.MEM_RGNk_SHADOW k) 16 0 (fbits v 16 0)).rgnErr k false

/-- A write of region registers by `who`, or a bus error (R172). -/
def regionWrite (s : State) (who : Requester) (f : State → State) : State :=
  respond who (if s.regionAccess who then (f s, true) else (s, false))

/-- MIRROR_ENABLE (R174). -/
def execMirrorEnable (who : Requester) (k : Nat) (s : State) : Host.Outcome State Fault Refusal :=
  .next (regionWrite s who (fun s => rgnCfgWrite s k (fsetb (s.reg (Reg.MEM_RGNk_CFG k)) 2 true)))
/-- MIRROR_DISABLE (R174). -/
def execMirrorDisable (who : Requester) (k : Nat) (s : State) : Host.Outcome State Fault Refusal :=
  .next (regionWrite s who (fun s => rgnCfgWrite s k (fsetb (s.reg (Reg.MEM_RGNk_CFG k)) 2 false)))
/-- REGION_STRENGTH_WRITE (R173). -/
def execRegionStrengthWrite (who : Requester) (k : Nat) (strength : BitVec 2) (s : State) :
    Host.Outcome State Fault Refusal :=
  .next (regionWrite s who (fun s => rgnCfgWrite s k (fset (s.reg (Reg.MEM_RGNk_CFG k)) 1 0 strength.toNat)))

/-- RESILVER_DONE: the copy is complete (R174); a region with a stack lost meanwhile is DEGRADED (R176). DEDUCED (log 44). -/
def execResilverDone (k : Nat) (s : State) : Host.Outcome State Fault Refusal :=
  .next (let a := Reg.MEM_RGNk_CFG k
    if s.bit a 2 && s.fld a 5 4 == 1 then
      let lost := (List.range s.variant.stacks).any s.stackLost
      s.setFld a 5 4 (if lost then 3 else 2)
    else s)

/-- REENCODE_DONE: every page of the region carries the new strength (R173). -/
def execReencodeDone (k : Nat) (s : State) : Host.Outcome State Fault Refusal :=
  .next (let a := Reg.MEM_RGNk_CFG k
    if !s.bit a 6 then s
    else
      let (b, n) := s.rgn k
      let c := BitVec.ofNat 2 (s.fld a 1 0)
      let s := { s with encBase := (List.range n).foldl (fun m i => sset 1 m (b + i) c) s.encBase }
      let s := s.each (s.pages.filter (fun e => decide (b ≤ e.1 / 1024) && decide (e.1 / 1024 < b + n)))
        (fun s e => s.setPage e.1 { e.2 with strength := none })
      s.setBit a 6 false)

end Sys2Proof.Machine
end

