-- ==== Sys2Proof/Machine/System.lean ====
section
/-! DEFINITION. System operations (R71, R102 to R104), seat control registers (R67, R656), fences (R62, R105),
asynchronous events (R47, R68, R73) and issue frames (R48, R53). -/

namespace Sys2Proof.Machine

/-- CALL: CALL_T in T, CALL_H in H, ILLEGAL_INSN in M; TVAL is the immediate (R102). -/
def execCall (seat : Nat) (imm : BitVec 12) (s : State) : Host.Outcome State Fault Refusal :=
  .next (issue s seat 4 (fun s =>
    match (s.seat seat).mode with
    | .t => trap s seat 0x12 (BitVec.ofNat 64 imm.toNat)
    | .h => trap s seat 0x13 (BitVec.ofNat 64 imm.toNat)
    | .m => trap s seat 0x00 (wordS 0 0 0x0 imm.toNat)))

/-- BREAK: the trap BREAK, TVAL the immediate (R102). -/
def execBreak (seat : Nat) (imm : BitVec 12) (s : State) : Host.Outcome State Fault Refusal :=
  .next (issue s seat 4 (fun s => trap s seat 0x14 (BitVec.ofNat 64 imm.toNat)))

/-- PM as a mode; 0b11 is never stored (R67). -/
def pmMode (n : Nat) : Mode := if n = 0 then .t else if n = 1 then .h else .m

/-- The tenant ID lies in the domain's range (R119, R138). -/
def Domain.tidOk (d : Domain) (t : Nat) : Bool := decide (d.tidFirst ≤ t) && decide (t < d.tidFirst + d.tidCount)

/-- The return of R71 from the bank at `b` to mode `md`. -/
def Seat.trapReturn (t : Seat) (b : Nat) (md : Mode) : Seat :=
  let ts := t.scrGet (b + 3)
  let t := t.scrSet (b + 5) (if ts.getLsbD 2 then 0xFFFFFFFF else 0)
  let t := t.scrSet (b + 3) (fsetb ts 3 false)
  { t with mode := md, pc := BitVec.ofNat 40 (t.scrGet (b + 1)).toNat }

/-- TRET (R44, R66, R71, R102, R138, R140). -/
def execTret (seat : Nat) (s : State) : Host.Outcome State Fault Refusal :=
  .next (issue s seat 4 (fun s =>
    let w := wordS 0 0 0x2 0
    hmOnly s seat w (fun s =>
      let t := s.seat seat
      let b := trapBank t.mode
      let md := pmMode (fbits (t.scrGet (b + 3)) 1 0)
      if md == .t && (isPlant seat || s.isPress seat) then trap s seat 0x00 w
      else if md == .m && t.mode == .h then trap s seat 0x01 w
      else if md == .t && !(s.domain t.hdom).tidOk t.tid then trap s seat 0x01 w
      else
        let s := s.setSeat seat (t.trapReturn b md)
        if md == .t then
          let s := s.modSeat seat (fun t => { t with lastTid := some (BitVec.ofNat 16 t.tid) })
          if t.scrGet 0x005 = 0 then postEvent s seat 0x24 t.quantumUsed else s
        else s)))

/-- An event enabled in the seat's mode is pending (R103). -/
def State.eventWaits (s : State) (i : Nat) : Bool := (s.takeable i).isSome

/-- SEATSTOP: a Z-V seat goes to IDLE with pc past the instruction; the plant thread stops issue until an enabled
    event is pending, and goes on at once when its IE is 0 (R103). -/
def execSeatstop (seat : Nat) (s : State) : Host.Outcome State Fault Refusal :=
  .next (issue s seat 4 (fun s => hmOnly s seat (wordS 0 0 0x3 0) (fun s =>
    let s := retire s seat 4 id
    if isPlant seat then
      let t := s.seat seat
      if t.scrGet (trapBank t.mode + 5) = 0 then s
      else s.setSeat seat { t with yielded := true }
    else s.setSeatSt seat .idle)))

/-- PLANT_SEATSTOP_WAKE: the stopped plant thread goes on once an enabled event is pending (R103). -/
def execPlantSeatstopWake (s : State) : Host.Outcome State Fault Refusal :=
  .next (if (s.seat plantSeat).yielded && s.eventWaits plantSeat then
    s.modSeat plantSeat (fun t => { t with yielded := false }) else s)

/-- YIELD: no further issue in this issue frame; nothing on the plant thread (R103). -/
def execYield (seat : Nat) (s : State) : Host.Outcome State Fault Refusal :=
  .next (issue s seat 4 (fun s => retire s seat 4 (fun t => { t with yielded := t.yielded || !isPlant seat })))

/-- RDTIME: RD := ring time (R102, R104). -/
def execRdtime (seat rd : Nat) (s : State) : Host.Outcome State Fault Refusal :=
  .next (issue s seat 4 (fun s => retire s seat 4 (fun t => t.setX rd s.ringTime)))

/-- SNAP: the software trigger, RD := 0 if the block was armed and 1 if not; in H it needs a read and write grant on
    SNP (R104). -/
def execSnap (seat rd : Nat) (s : State) : Host.Outcome State Fault Refusal :=
  .next (issue s seat 4 (fun s =>
    let w := wordS rd 0 0x6 0
    hmOnly s seat w (fun s =>
      if !s.mayWrite (.seat seat) 4 then trap s seat 0x01 w
      else
        let armed := s.bit Reg.SNP_STATUS 0
        retire (snapTrigger s .soft s.ringTime) seat 4 (fun t => t.setX rd (if armed then 0 else 1)))))

/-! ### Seat control registers (R67) -/

/-- The register number is listed for the profile; VL and QUANTUM are Z-V only. -/
def scrListed (plant : Bool) (n : Nat) : Bool :=
  (decide (n ≤ 0x006) && !(plant && (n == 0x003 || n == 0x005))) ||
  (decide (0x010 ≤ n) && decide (n ≤ 0x015)) || (decide (0x020 ≤ n) && decide (n ≤ 0x026))

/-- The mode has the read right. -/
def scrReadable (md : Mode) (n : Nat) : Bool :=
  match md with
  | .m => true
  | .h => decide (n < 0x020)
  | .t => [0x000, 0x002, 0x003, 0x004, 0x005].contains n

/-- The mode has the write right. -/
def scrWritable (md : Mode) (n : Nat) : Bool :=
  match md with
  | .m => n != 0x000 && n != 0x004
  | .h => n != 0x000 && n != 0x001 && n != 0x004 && decide (n < 0x020)
  | .t => n == 0x003

/-- What SCRD reads. -/
def scrRead (t : Seat) (seat n : Nat) : W64 :=
  if n = 0x000 then BitVec.ofNat 64 seat
  else if n = 0x004 && t.mode == .t then t.slotsT
  else t.scrGet n

/-- The defined bits of a register; the others read 0 and ignore writes (R102). -/
def scrMask (n : Nat) : W64 :=
  if n = 0x001 then 0x7
  else if n = 0x002 then 0xFFFF
  else if n = 0x010 ∨ n = 0x020 then 0x3F
  else if n = 0x011 ∨ n = 0x021 ∨ n = 0x014 ∨ n = 0x024 then 0xFFFFFFFFFF
  else if n = 0x013 ∨ n = 0x023 then 0xFFFF
  else if n = 0x015 ∨ n = 0x025 then 0xFFFFFFFF
  else BitVec.allOnes 64

/-- The value a write stores: masked, and PM 0b11 as 0b10 (R67). -/
def scrValue (n : Nat) (v : W64) : W64 :=
  let v := v &&& scrMask n
  if (n = 0x013 ∨ n = 0x023) ∧ fbits v 1 0 = 3 then fset v 1 0 2 else v

/-- A write that has passed its checks: HDOM of the plant thread stays (R45); QUANTUM starts a new quantum; TCMP at or
    below ring time raises TIMER at once, otherwise it plans one raise (R656). DEDUCED (log 15). -/
def scrStore (s : State) (seat n : Nat) (v : W64) : State :=
  let v := scrValue n v
  if n = 0x001 && isPlant seat then s
  else
    let s := s.modSeat seat (fun t => t.scrSet n v)
    if n = 0x005 then s.modSeat seat (fun t => { t with quantumUsed := 0 })
    else if n = 0x006 then
      if v = 0 then s.modSeat seat (fun t => { t with timerArmed := false })
      else if v.toNat ≤ s.ringTime.toNat then
        (postEvent s seat 0x20 s.ringTime).modSeat seat (fun t => { t with timerArmed := false })
      else s.modSeat seat (fun t => { t with timerArmed := true })
    else s

/-- SCWR, SCSET and SCCLR: the checks of R67 and R138, then the write of `f` of the register and s[RA]. -/
def scrUpdate (seat n ra fn : Nat) (f : W64 → W64 → W64) (s : State) : State :=
  issue s seat 4 (fun s =>
    let t := s.seat seat
    let w := wordS 0 ra fn n
    if !scrListed (isPlant seat) n then trap s seat 0x00 w
    else if !scrWritable t.mode n then trap s seat 0x01 w
    else
      let v := f (t.scrGet n) (t.sx ra)
      if n == 0x002 && t.mode == .h && !(s.domain t.hdom).tidOk (v.toNat % 2 ^ 16) then trap s seat 0x01 w
      else retire (scrStore s seat n v) seat 4 id)

/-- SCRD: RD := seat control register IMM (R67, R102). -/
def execScrd (seat rd : Nat) (num : BitVec 12) (s : State) : Host.Outcome State Fault Refusal :=
  .next (issue s seat 4 (fun s =>
    let w := wordS rd 0 0x8 num.toNat
    if !scrListed (isPlant seat) num.toNat then trap s seat 0x00 w
    else if !scrReadable (s.seat seat).mode num.toNat then trap s seat 0x01 w
    else retire s seat 4 (fun t => t.setX rd (scrRead t seat num.toNat))))

/-- SCWR: the register := s[RA] (R67, R102). -/
def execScwr (seat : Nat) (num : BitVec 12) (ra : Nat) (s : State) : Host.Outcome State Fault Refusal :=
  .next (scrUpdate seat num.toNat ra 0x9 (fun _ b => b) s)

/-- SCSET: the register := register or s[RA] (R102). -/
def execScset (seat : Nat) (num : BitVec 12) (ra : Nat) (s : State) : Host.Outcome State Fault Refusal :=
  .next (scrUpdate seat num.toNat ra 0xA (fun a b => a ||| b) s)

/-- SCCLR: the register := register and not s[RA] (R102). -/
def execScclr (seat : Nat) (num : BitVec 12) (ra : Nat) (s : State) : Host.Outcome State Fault Refusal :=
  .next (scrUpdate seat num.toNat ra 0xB (fun a b => a &&& ~~~ b) s)

/-! ### Fences (R62, R105) -/

/-- Every access the fence orders before it has been performed and returned. -/
def fenceDone (k : FenceKind) (l : List Outst) : Bool :=
  match k with
  | .rw | .stg => l.all (fun o => o.io)
  | .r => l.all (fun o => o.io || o.store)
  | .w => l.all (fun o => o.io || !o.store)
  | .i => l.all (fun o => !o.store)
  | .io => l.isEmpty

/-- A fence: done at once when nothing it orders is outstanding, otherwise the seat waits. -/
def fence (seat : Nat) (k : FenceKind) (s : State) : State :=
  issue s seat 4 (fun s =>
    if fenceDone k (s.seat seat).outst then retire s seat 4 id else stall s seat (.fence k))

/-- FENCE.RW (R62). -/
def execFenceRw (seat : Nat) (s : State) : Host.Outcome State Fault Refusal := .next (fence seat .rw s)
/-- FENCE.R (R62). -/
def execFenceR (seat : Nat) (s : State) : Host.Outcome State Fault Refusal := .next (fence seat .r s)
/-- FENCE.W (R62). -/
def execFenceW (seat : Nat) (s : State) : Host.Outcome State Fault Refusal := .next (fence seat .w s)
/-- FENCE.IO (R62). -/
def execFenceIo (seat : Nat) (s : State) : Host.Outcome State Fault Refusal := .next (fence seat .io s)
/-- FENCE.STG (R62); FENCE.RW on the plant thread (R105). -/
def execFenceStg (seat : Nat) (s : State) : Host.Outcome State Fault Refusal := .next (fence seat .stg s)
/-- FENCE.I (R62, R65). -/
def execFenceI (seat : Nat) (s : State) : Host.Outcome State Fault Refusal := .next (fence seat .i s)

/-- FENCE_COMPLETE: the fence a seat waits on completes, and the seat leaves WAIT (R62). -/
def execFenceComplete (seat : Nat) (s : State) : Host.Outcome State Fault Refusal :=
  .next (match (s.seat seat).wait with
    | .fence k => if fenceDone k (s.seat seat).outst then unstall s seat (fun t => t.advance 4) else s
    | _ => s)

/-! ### Asynchronous events (R47, R73) -/

/-- The stall an event abandons: an unreached WPOS, a FENCE, an unaccepted STG, or a load in T (R47). -/
def Wait.abandoned : Wait → Bool
  | .fence _ | .stg _ | .wpos .. => true
  | .access a => a.tmode && a.kind == .load
  | _ => false

/-- The stall is given up: a T load stays outstanding, and its result will be discarded (R47). -/
def abandon (s : State) (i : Nat) : State :=
  unstall s i (fun t => match (s.seat i).wait with
    | .access _ => { t with outst := t.outst ++ [{ store := false, io := false, tmode := true }] }
    | _ => t)

/-- TAKE_ASYNC_EVENT: at an instruction boundary, or out of a stall that events abandon, the lowest pending enabled
    event is taken (R70, R73). -/
def execTakeAsyncEvent (seat : Nat) (s : State) : Host.Outcome State Fault Refusal :=
  .next (let t := s.seat seat
    if t.st == .run || (t.st == .wait && t.wait.abandoned) then
      match s.takeable seat with
      | none => s
      | some (c, v) =>
        let s := if t.st == .wait then abandon s seat else s
        let s' := trap (s.modSeat seat (fun t => { t with yielded := t.yielded && !isPlant seat })) seat c v
        if (s'.seat seat).st == .halt then s' else dropEvent s' seat c
    else s)

/-- QUANTUM_EXPIRY: QUANTUM reaching 0 in T makes QUANTUM pending, TVAL the slots of the quantum (R66, R68).
    DEDUCED (log 17). DESIGN CHOICE (log 87). -/
def execQuantumExpiry (seat : Nat) (s : State) : Host.Outcome State Fault Refusal :=
  .next (let t := s.seat seat
    if t.mode == .t && (t.st == .run || t.st == .wait) && t.scrGet 0x005 == 0 then postEvent s seat 0x24 t.quantumUsed
    else s)

/-- TIMER_EXPIRY: ring time reaches TCMP, or steps past it, and TIMER is raised once (R656). -/
def execTimerExpiry (seat : Nat) (s : State) : Host.Outcome State Fault Refusal :=
  .next (let t := s.seat seat
    if t.timerArmed && t.st != .off then
      let s := { s with ringTime := BitVec.ofNat 64 (max s.ringTime.toNat (t.scrGet 0x006).toNat) }
      (postEvent s seat 0x20 s.ringTime).modSeat seat (fun t => { t with timerArmed := false })
    else s)

/-- ISSUE_FRAME_BOUNDARY: a core deals its slots by the smaller of SHARE and CAP, and yields end (R49, R53, R103). -/
def execIssueFrameBoundary (e c : Nat) (s : State) : Host.Outcome State Fault Refusal :=
  .next (let r := s.reg (Reg.SEn_TSHAREc e c)
    let s := { s with cores := sset { share := 0 } s.cores (16 * e + c) { share := min (fbits r 7 0) (fbits r 23 16) } }
    s.each (List.range 8) (fun s k =>
      s.modSeat (128 * e + 8 * c + k) (fun t => { t with yielded := false })))

/-- A write of SEn_HALTCTL with RELEASE (R48): from M mode on another seat of the engine or from debug; otherwise a bus
    error. A seat not in HALT, or a POS above 95, is left alone. -/
def haltRelease (s : State) (who : Requester) (e pos : Nat) : Written :=
  let allowed := match who with
    | .seat i => s.whoM who && i != plantSeat && seatEngine i == e && seatPos i != pos
    | .host _ => false
    | .debug => true
  if !allowed then (s, false)
  else if 95 < pos then (s, true)
  else if (s.seat (128 * e + pos)).st == .halt then (s.setSeatSt (128 * e + pos) .idle, true)
  else (s, true)

/-- HALT_RELEASE: the write of SEn_HALTCTL (R48). -/
def execHaltRelease (who : Requester) (e : Nat) (pos : BitVec 7) (s : State) : Host.Outcome State Fault Refusal :=
  .next (respond who (haltRelease s who e pos.toNat))

end Sys2Proof.Machine
end

