-- ==== Sys2Proof/Machine/Owner.lean ====
section
/-! DEFINITION. The owner record: its bytes (R118 to R120), its checks (R121), fuses (R122, R123), and installing a
record in service (R127, R128, R137). -/

namespace Sys2Proof.Machine

/-! ### The bytes of a record (R118 to R120) -/

/-- `n` bytes from `off` are all 0. -/
def zeroAt (bs : List Byte) (off n : Nat) : Bool := ((bs.drop off).take n).all (· == 0)

/-- Domain entry `d` (R119). -/
def parseDomain (bs : List Byte) (d : Nat) : Domain :=
  let e := (bs.drop (64 + 192 * d)).take 192
  { role := leAt e 0 1, owner := leAt e 1 1 % 2 == 1, fnotify := leAt e 1 1 / 2 % 2 == 1,
    ports := BitVec.ofNat 24 (leAt e 4 4), blocks := BitVec.ofNat 64 (leAt e 8 8),
    mem := ((List.range 8).map (fun i => (leAt e (16 + 8 * i) 4, leAt e (20 + 8 * i) 4))).filter (fun r => r.2 != 0),
    tidFirst := leAt e 80 2, tidCount := leAt e 84 4, membw := leAt e 88 2, fabbw := leAt e 90 2, tlat := leAt e 92 2,
    entryBase := BitVec.ofNat 48 (leAt e 96 8), entryLen := BitVec.ofNat 40 (leAt e 104 8),
    entryKtag := BitVec.ofNat 14 (leAt e 112 2) }

/-- The record its bytes spell (R118). -/
def parseRecord (bs : List Byte) : OwnerRec :=
  { version := BitVec.ofNat 32 (leAt bs 8 4), rollback := leAt bs 12 1, key := (bs.drop 24).take 32,
    domains := (List.range 8).map (parseDomain bs), seatmap := (bs.drop 1600).take 96,
    tmax := (List.range 12).map (fun c => leAt bs (1696 + c) 1) }

/-! ### Checks (R121) -/

/-- Check 1: a domain entry's reserved bytes and bits are 0. -/
def entryFormatOk (bs : List Byte) (d : Nat) : Bool :=
  let e := (bs.drop (64 + 192 * d)).take 192
  decide (leAt e 1 1 < 4) && zeroAt e 2 2 && zeroAt e 7 1 && decide (leAt e 8 8 < 2 ^ 54) &&
  zeroAt e 82 2 && zeroAt e 94 2 && zeroAt e 102 2 && zeroAt e 109 3 && decide (leAt e 112 2 < 2 ^ 14) && zeroAt e 114 78

/-- Check 1 of R121. -/
def formatOk (bs : List Byte) : Bool :=
  bs.length == 1792 && bs.take 4 == [0x4F, 0x57, 0x4E, 0x52] && leAt bs 4 2 == 1 && leAt bs 6 2 == 1792 &&
  zeroAt bs 13 1 && zeroAt bs 56 8 && zeroAt bs 1708 20 && (List.range 8).all (entryFormatOk bs) &&
  (List.range 96).all (fun i => decide (leAt bs (1600 + i) 1 < 32)) &&
  leAt bs 8 4 != 0 && decide (leAt bs 12 1 ≤ 64) && (List.range 12).all (fun c => decide (leAt bs (1696 + c) 1 ≤ 192))

/-- Some two of the ranges {first, count} overlap. -/
def rangesOverlap : List (Nat × Nat) → Bool
  | [] => false
  | r :: rs => rs.any (fun q => decide (r.1 < q.1 + q.2) && decide (q.1 < r.1 + r.2)) || rangesOverlap rs

/-- Check 7 (R115). -/
def rolesOk (ds : List Domain) : Bool :=
  (ds.filter (fun d => d.role == 1)).length == 1 && (ds.filter (fun d => d.role == 3)).length == 1 &&
  ds.all (fun d => decide (d.role ≤ 4) && (!d.owner || d.role == 4))

/-- Check 8, over the domains present. -/
def overlapOk (ds : List Domain) (granules : Nat) : Bool :=
  !rangesOverlap (ds.flatMap (fun d => d.mem)) && (ds.flatMap (fun d => d.mem)).all (fun r => decide (r.1 + r.2 ≤ granules)) &&
  (List.range 24).all (fun p => decide ((ds.filter (fun d => d.ports.getLsbD p)).length ≤ 1)) &&
  ds.all (fun d => (List.range 27).all (fun b => d.grant b != 2))

/-- Check 9 (R120). -/
def seatmapOk (ds : List Domain) (m : List Byte) : Bool :=
  m.all (fun b =>
    let role := ((ds[b.toNat % 8]?).getD Domain.none).role
    (!b.getLsbD 3 || role != 0) && (!b.getLsbD 4 || (b.getLsbD 3 && role == 1)))

/-- Check 10 (R119), over the domains present. -/
def bandwidthOk (ds : List Domain) : Bool :=
  decide ((ds.map (fun d => d.membw)).sum ≤ 960) && decide ((ds.map (fun d => d.fabbw)).sum ≤ 960) &&
  ds.all (fun d => (d.tlat == 0 && d.tidCount == 0) || (decide (800 ≤ d.tlat) && decide (d.tlat ≤ 4000)))

/-- Check 11, over the domains present. -/
def tidsOk (ds : List Domain) : Bool :=
  !rangesOverlap (ds.map (fun d => (d.tidFirst, d.tidCount)) |>.filter (fun r => r.2 != 0)) &&
  ds.all (fun d => decide (d.tidFirst + d.tidCount ≤ 65536) && (d.tidCount == 0 || d.role == 2))

/-- The fused rollback count: consecutive 1 bits from bit 0 (R122). -/
def fuseCount (f : BitVec 64) : Nat := ((List.range 64).takeWhile (fun i => f.getLsbD i)).length

/-- Trust state CLOSED (R122). -/
def State.closed (s : State) : Bool := s.keyFuses != 0

/-- The first check of R121 that fails, in order, or 0x00; `inService` adds the check of VERSION. DEDUCED (log 23). -/
def recordCode (s : State) (inService : Bool) (bs : List Byte) : Nat :=
  let r := parseRecord bs
  let ds := r.domains.filter (fun d => d.role != 0)
  let checks := [
    (0x01, formatOk bs),
    (0x02, !s.closed || Config.sha512Head r.key == s.keyFuses),
    (0x03, Config.ed25519 r.key (bs.take 1728) ((bs.drop 1728).take 64)),
    (0x04, decide (fuseCount s.rollFuses ≤ r.rollback)),
    (0x05, !inService || decide ((s.reg Reg.SYS_OWN_VERSION).toNat < r.version.toNat)),
    (0x06, (leAt bs 14 2 == 0 || leAt bs 14 2 == s.variant.part) && (leAt bs 16 8 == 0 || leAt bs 16 8 == s.uid.toNat)),
    (0x07, rolesOk r.domains),
    (0x08, overlapOk ds (s.memSize / 2 ^ 21)),
    (0x09, seatmapOk r.domains r.seatmap),
    (0x0A, bandwidthOk ds),
    (0x0B, tidsOk ds)]
  match checks.find? (fun c => !c.2) with
  | some c => c.1
  | none => 0

/-! ### Fuses (R123) -/

/-- The requester has the OWNER flag, or acts in M mode or on the debug access path. -/
def State.ownerOrM (s : State) (w : Requester) : Bool :=
  s.whoM w || match s.whoDomain w with | some d => (s.domain d).owner | none => false

/-- A burn starts: only from a record in force, and not while one runs (R123). -/
def burnStart (s : State) (key : Bool) : State :=
  match s.owner, s.burn with
  | some r, .none =>
    if key && s.closed then s
    else
      { s.setBit Reg.SYS_TRUST 3 true with burn := if key then .key (Config.sha512Head r.key) else .rollback r.rollback }
  | _, _ => s

/-- BURN_KEY (R123). -/
def execBurnKey (who : Requester) (s : State) : Host.Outcome State Fault Refusal :=
  .next (respond who (if s.controlAllowed who Reg.SYS_FUSE_CMD true && s.ownerOrM who then (burnStart s true, true)
    else (s, false)))

/-- BURN_ROLLBACK (R123). -/
def execBurnRollback (who : Requester) (s : State) : Host.Outcome State Fault Refusal :=
  .next (respond who (if s.controlAllowed who Reg.SYS_FUSE_CMD true && s.ownerOrM who then (burnStart s false, true)
    else (s, false)))

/-- The fuses a burn sets beyond those already burned. -/
def burnBits (s : State) : BitVec 256 × BitVec 64 :=
  match s.burn with
  | .none => (0, 0)
  | .key h => (h, 0)
  | .rollback n => (0, BitVec.ofNat 64 (2 ^ n - 1))

/-- The burn's fuses are burned, all of them or those of `some` masks. -/
def burnApply (s : State) (part : Option (BitVec 256 × BitVec 64)) : State :=
  let (k, r) := burnBits s
  let (k, r) := match part with | none => (k, r) | some (a, b) => (k &&& a, r &&& b)
  { ((s.setBit Reg.SYS_TRUST 3 false).setBit Reg.SYS_TRUST 0 (s.keyFuses ||| k != 0)) with keyFuses := s.keyFuses ||| k, rollFuses := s.rollFuses ||| r, burn := .none }

/-- Which fuses an unfinished burn has burned is free (R123). DESIGN CHOICE (log 22). -/
def burnPart (s : State) : (BitVec 256 × BitVec 64) × State :=
  let (a, s) := s.draw
  let (b, s) := s.draw
  let (c, s) := s.draw
  let (d, s) := s.draw
  let (e, s) := s.draw
  ((a ++ b ++ c ++ d, e), s)

/-! ### Installing a record in service (R127, R128) -/

/-- The domain a SEATMAP byte assigns its seat position to (R120). -/
def seatmapDomain (b : Nat) : Option Nat := if b / 8 % 2 = 1 then some (b % 8) else none

/-- The record takes something away from the press-control domain, or changes its number (R127, PRESS_SHRINK). -/
def pressShrinks (s : State) (r : OwnerRec) : Bool :=
  match s.owner, s.roleDomain 1 with
  | some _, some d =>
    let o := s.domain d
    let n := (r.domains[d]?).getD Domain.none
    let granules (x : Domain) := x.mem.flatMap (fun q => [q.1, q.1 + q.2])
    n.role != 1 || o.ports &&& ~~~ n.ports != 0 || o.blocks &&& ~~~ n.blocks != 0 ||
    decide (n.membw < o.membw) || decide (n.fabbw < o.fabbw) ||
    !((List.range o.tidCount).all (fun i => n.tidOk (o.tidFirst + i))) ||
    !(o.mem.all (fun q =>
      let cuts := [q.1, q.1 + q.2] ++ ((granules n).filter (fun c => decide (q.1 ≤ c) && decide (c < q.1 + q.2)))
      cuts.all (fun c => decide (q.1 + q.2 ≤ c) || n.holds c))) ||
    (List.range 96).any (fun i =>
      seatmapDomain (s.seatmap i) == some d && seatmapDomain ((r.seatmap[i]?).getD 0).toNat != some d)
  | _, _ => false

/-- SYS_OWN_STATUS after a request: CODE, BUSY and who asked; CODEA and CODEB stay. -/
def ownStatus (s : State) (w : Requester) (code : Nat) (busy : Bool) : State :=
  let r := fsetb (fset (s.reg Reg.SYS_OWN_STATUS) 7 0 code) 8 busy
  let r := if s.whoM w then fsetb (fset r 11 9 0) 12 true else fsetb (fset r 11 9 ((s.whoDomain w).getD 0)) 12 false
  s.setReg Reg.SYS_OWN_STATUS r

/-- A write of SYS_OWN_INSTALL_HI by a requester that may install: the record is read and verified (R127).
    DEDUCED (log 23). -/
def ownerInstall (s : State) (w : Requester) (lo hi : W32) (errs : PageErrs) : State :=
  if s.bit Reg.SYS_OWN_STATUS 8 then s.setFld Reg.SYS_OWN_STATUS 7 0 0x0D
  else
    let a := lo.toNat + 2 ^ 32 * fbits hi 15 0
    let kt := BitVec.ofNat 14 (fbits hi 29 16)
    let inRange := s.whoM w || match s.whoDomain w with | some d => (s.domain d).holdsRange a 1792 | none => false
    if !(inRange && s.inMemory a 1792 && s.tagsMatch a 1792 kt) then ownStatus s w 0x0E false
    else
      let s := readErrors s a 1792 errs
      match s.memRead a 1792 with
      | none => ownStatus s w 0x0E false
      | some bs =>
        let code := recordCode s true bs
        let r := parseRecord bs
        if code ≠ 0 then ownStatus s w code false
        else if pressShrinks s r then ownStatus s w 0x0C false
        else { ownStatus s w 0 true with install := some { record := r } }

/-- OWNER_INSTALL (R127). -/
def execOwnerInstall (who : Requester) (lo hi : W32) (errs : PageErrs) (s : State) : Host.Outcome State Fault Refusal :=
  .next (respond who (if s.controlAllowed who Reg.SYS_OWN_INSTALL_HI true && s.ownerOrM who then
    (ownerInstall s who lo hi errs, true) else (s, false)))

/-- EN is cleared in the routes and subscriptions that name a seat (R137); PLANT names the plant thread. -/
def routesClear (s : State) (i : Nat) : State :=
  let clear (s : State) (a : Nat) : State :=
    let t := if s.bit a 10 then plantSeat else s.fld a 9 0
    if s.bit a 11 && t == i then s.setBit a 11 false else s
  let s := s.each (List.range 8) (fun s d => s.each (List.range 64) (fun s n => clear s (Reg.SYS_Dd_DBROUTEn d n)))
  let s := s.each (List.range 8) (fun s d => s.each (List.range 4) (fun s k => clear s (Reg.SNP_STGd_SUBi d k)))
  clear s Reg.FC_NSEAT

/-- A seat leaves its domain: its registers are cleared and it goes to OFF (R128 step 1, R137). DEDUCED (log 24). -/
def seatLeave (s : State) (i : Nat) : State :=
  let s := seatOff (routesClear s i) i
  s.setSeat i Seat.init

/-- A granule leaves a domain: tag 0 and zeros (R128 step 3). -/
def granuleLeave (s : State) (g : Nat) : State :=
  let c := s.writeStrength (1024 * g)
  { s with
    tags := sset 0 s.tags g 0
    mem := s.mem.filter (fun e => e.1 / 2 ^ 21 != g)
    encBase := sset 1 s.encBase g c
    pages := (s.pages.map (fun e => if e.1 / 1024 = g then (e.1, { e.2 with poisoned := false, cells := 0, strength := none })
      else e)).filter (fun e => e.2 != Page.init) }

/-- The granules of the old record's domains that the new record does not leave them. -/
def leavingGranules (s : State) (r : OwnerRec) : List Nat :=
  (List.range 8).flatMap (fun d =>
    let n := (r.domains[d]?).getD Domain.none
    let n := if n.role = 0 then Domain.none else n
    ((s.domain d).mem.flatMap (fun q => (List.range q.2).map (fun i => q.1 + i))).filter (fun g => !n.holds g))

/-- HDOM of every seat the record assigns, and of the plant thread (R45). DEDUCED (log 24). -/
def assignSeats (s : State) : State :=
  let s := s.each (List.range s.variant.engines) (fun s e => s.each (List.range 96) (fun s k =>
    match seatmapDomain (s.seatmap k) with
    | some d => if (s.seat (128 * e + k)).st == .off then s.modSeat (128 * e + k) (fun t => t.scrSet 0x001 (BitVec.ofNat 64 d)) else s
    | none => s))
  match s.roleDomain 3 with
  | some d => s.modSeat plantSeat (fun t => t.scrSet 0x001 (BitVec.ofNat 64 d))
  | none => s

/-- SHARE is brought within TMAX (R53). -/
def capShares (s : State) (r : OwnerRec) : State :=
  s.each (List.range s.variant.engines) (fun s e => s.each (List.range 12) (fun s c =>
    s.setFld (Reg.SEn_TSHAREc e c) 7 0 (min (s.fld (Reg.SEn_TSHAREc e c) 7 0) ((r.tmax[c]?).getD 0))))

/-- The five steps of R128. DEDUCED (log 23). -/
def installApply (s : State) (r : OwnerRec) : State :=
  let plantMoves := match s.owner with
    | some _ => s.roleDomain 3 != (List.range 8).find? (fun d => ((r.domains[d]?).getD Domain.none).role == 3)
    | none => false
  let s := s.each (List.range s.variant.engines) (fun s e => s.each (List.range 96) (fun s k =>
    match seatmapDomain (s.seatmap k) with
    | some d => if seatmapDomain ((r.seatmap[k]?).getD 0).toNat = some d then s else seatLeave s (128 * e + k)
    | none => s))
  let s := if plantMoves then routesClear s plantSeat else s
  let s := s.each (leavingGranules s r) granuleLeave
  let s := capShares (assignSeats { (s.setBit Reg.SYS_TRUST 1 false) with owner := some r, install := none }) r
  let s := s.each (List.range s.variant.engines) (fun s e => if s.islandUp e then engineSeatsOn s e else s)
  let s := (s.setReg Reg.SYS_OWN_VERSION r.version).setBit Reg.SYS_OWN_STATUS 8 false
  let s := s.setFld Reg.SYS_OWN_STATUS 7 0 0
  s.each (List.range 8) (fun s d => if (s.domain d).role = 0 then s else notify s d 0x05 (leBytes 4 r.version.toNat))

/-- OWNER_INSTALL_APPLY (R128). -/
def execOwnerInstallApply (s : State) : Host.Outcome State Fault Refusal :=
  .next (match s.install with
    | some i => installApply s i.record
    | none => s)

end Sys2Proof.Machine
end

