-- ==== Sys2Proof/Machine/Cal.lean ====
section
/-! DEFINITION. Trims and trim images (R591 to R598), the keep area and the boot trim (R599 to R604), snapshot commands
(R605, R606) and the test access port's instructions (R608 to R610). -/

namespace Sys2Proof.Machine

/-! ### Trim images (R595) -/

/-- Temperature group `g` has a sensor on this variant. -/
def State.groupThere (s : State) (g : Nat) : Bool :=
  if g < 10 then decide (g / 2 < s.variant.engines)
  else if g = 11 then true
  else if g = 12 then decide (4 < s.variant.stacks)
  else if g = 14 then decide (48 < s.variant.lanes)
  else decide (g < 16)

/-- The unit a trim entry names exists on this variant (R595). -/
def trimUnit (s : State) (code index : Nat) : Bool :=
  match code with
  | 1 => index == 0
  | 2 => decide (index < s.variant.vs)
  | 3 => s.groupThere index
  | _ => decide (index ≤ 24) && s.variant.island index

/-- NWORD of an entry of each CODE. -/
def trimWords (code : Nat) : Option Nat :=
  match code with
  | 1 => some 16 | 2 => some 1 | 3 => some 4 | 4 => some 1 | _ => none

/-- The registers of an entry's words, in order, with their masks (R595, R614). -/
def trimRegs (code index : Nat) : List (Nat × W32) :=
  match code with
  | 1 => (List.range 8).map (fun g => (Reg.CAL_ADC_OFSg g, 0xFFFFFF)) ++ (List.range 8).map (fun g => (Reg.CAL_ADC_GAINg g, 0xFFFFFF))
  | 2 => [(Reg.CAL_Vn_SENSE index, 0xFFFFFFFF)]
  | 3 => (List.range 4).map (fun i => (Reg.CAL_TSs (4 * index + i), 0xFFFF))
  | _ => [(Reg.CAL_DROOPi index, 0xFF)]

/-- Every unit's entry of an export, ascending in CODE and INDEX (R596). -/
def trimUnits (s : State) : List (Nat × Nat) :=
  [(1, 0)] ++ (List.range s.variant.vs).map (fun n => (2, n)) ++
  ((List.range 16).filter s.groupThere).map (fun g => (3, g)) ++
  ((List.range 25).filter s.variant.island).map (fun i => (4, i))

/-- One unit entry (R595). -/
def trimEntry (s : State) (u : Nat × Nat) : List Byte :=
  let rs := trimRegs u.1 u.2
  leBytes 1 u.1 ++ leBytes 1 u.2 ++ leBytes 1 rs.length ++ [0] ++
  leBytes 2 (s.fld (if u.1 = 1 then Reg.CAL_ADC_TCAL else Reg.CAL_TCAL) 15 0) ++ [0, 0] ++
  rs.flatMap (fun r => leBytes 4 (s.reg r.1).toNat)

/-- The trim image of an export (R595, R596). -/
def trimImage (s : State) : List Byte :=
  let us := trimUnits s
  let body := us.flatMap (trimEntry s)
  [0x54, 0x52, 0x4D, 0x31] ++ leBytes 2 1 ++ leBytes 2 (32 + body.length) ++ leBytes 8 s.uid.toNat ++
  leBytes 4 (s.reg Reg.AON_RTC_SEC_LO).toNat ++ leBytes 1 us.length ++ [0, 0, 0] ++ leBytes 4 (crc32c body).toNat ++
  [0, 0, 0, 0] ++ body

/-- An entry as it is read: CODE, INDEX, TCAL and its words. -/
structure TrimEntry where
  code : Nat
  index : Nat
  tcal : Nat
  words : List W32
  deriving DecidableEq, Repr

/-- `n` entries of a body that fill it exactly; none where an entry breaks R595. DEDUCED (log 34). -/
def parseTrims : Nat → List Byte → Option (List TrimEntry)
  | 0, bs => if bs.isEmpty then some [] else none
  | k + 1, bs =>
    let n := leAt bs 2 1
    if bs.length < 8 ∨ trimWords (leAt bs 0 1) ≠ some n ∨ leAt bs 3 1 ≠ 0 ∨ leAt bs 6 2 ≠ 0 ∨ bs.length < 8 + 4 * n then none
    else
      let e : TrimEntry := { code := leAt bs 0 1, index := leAt bs 1 1, tcal := leAt bs 4 2,
                             words := (List.range n).map (fun i => BitVec.ofNat 32 (leAt bs (8 + 4 * i) 4)) }
      match parseTrims k (bs.drop (8 + 4 * n)) with
      | some es => some (e :: es)
      | none => none

/-- One entry's words take effect; CAL_ADC_TCAL or CAL_TCAL follows (R597). DEDUCED (log 34). -/
def trimApply (s : State) (e : TrimEntry) : State :=
  let s := s.each ((trimRegs e.code e.index).zip e.words) (fun s p => s.setReg p.1.1 (p.2 &&& p.1.2))
  s.setFld (if e.code = 1 then Reg.CAL_ADC_TCAL else Reg.CAL_TCAL) 15 0 e.tcal

/-- The checks of R597 on an image, and its entries: RESULT 0, or the first failure. -/
def trimCheck (s : State) (bs : List Byte) : Nat × List TrimEntry :=
  let n := leAt bs 6 2
  if bs.take 4 ≠ [0x54, 0x52, 0x4D, 0x31] ∨ leAt bs 4 2 ≠ 1 ∨ n < 32 ∨ 16384 < n ∨ bs.length < n ∨
      !zeroAt bs 21 3 ∨ !zeroAt bs 28 4 then (1, [])
  else
    let body := (bs.take n).drop 32
    match parseTrims (leAt bs 20 1) body with
    | none => (1, [])
    | some es =>
      if leAt bs 24 4 ≠ (crc32c body).toNat then (2, [])
      else if leAt bs 8 8 ≠ s.uid.toNat then (3, [])
      else (0, es)

/-- An image that can be read is checked and applied: RESULT, SKIP and LEN (R597). DEDUCED (log 34). -/
def trimImport (s : State) (bs : List Byte) : State :=
  let (r, es) := trimCheck s bs
  let s := (s.setFld Reg.CAL_STATUS 4 2 r).setFld Reg.CAL_STATUS 28 14 (leAt bs 6 2)
  if r ≠ 0 then s
  else
    let take := es.filter (fun e => trimUnit s e.code e.index)
    (s.each take trimApply).setFld Reg.CAL_STATUS 13 6 (min 255 (es.length - take.length))

/-! ### CAL commands (R596 to R598) -/

/-- The device is in WATCH, or entering or leaving it. -/
def State.watch (s : State) : Bool := s.fld Reg.SYS_PWR_STATUS 1 0 != 0

/-- The image's `n` bytes from offset `off`, as the command's requester may read them (R598). -/
def calRead (s : State) (dom : Option Nat) (off n : Nat) : Option (List Byte) :=
  let a := s.fld Reg.CAL_IMG_HI 15 0 * 2 ^ 32 + (s.reg Reg.CAL_IMG_LO).toNat
  if !s.bit Reg.CAL_IMG_HI 31 then
    if a + off + n ≤ 0x80000 then some (s.storeRead (plantStore + a + off) n) else none
  else if s.watch then none
  else match dom with
    | some d =>
      if (s.domain d).holdsRange (a + off) n && s.tagsMatch (a + off) n (BitVec.ofNat 14 (s.fld Reg.CAL_IMG_HI 29 16)) then
        s.memRead (a + off) n else none
    | none => s.memRead (a + off) n

/-- The image is written where the command's requester may write it (R598). -/
def calWrite (s : State) (dom : Option Nat) (bs : List Byte) : Option State :=
  let a := s.fld Reg.CAL_IMG_HI 15 0 * 2 ^ 32 + (s.reg Reg.CAL_IMG_LO).toNat
  if !s.bit Reg.CAL_IMG_HI 31 then
    if a + bs.length ≤ 0x80000 then some (s.storeWrite (plantStore + a) bs) else none
  else if s.watch then none
  else match dom with
    | some d =>
      if (s.domain d).holdsRange a bs.length && s.tagsMatch a bs.length (BitVec.ofNat 14 (s.fld Reg.CAL_IMG_HI 29 16)) then
        s.memWrite a bs else none
    | none => s.memWrite a bs

/-- A command ended with a RESULT. -/
def calEnd (s : State) (r : Nat) : State :=
  ((s.setFld Reg.CAL_STATUS 4 2 r).setBit Reg.CAL_STATUS 0 false).setBit Reg.CAL_STATUS 1 true

/-- The domain a requester's command is checked for; M mode and the plant thread are not checked (R598). -/
def calDomain (s : State) (w : Requester) : Option Nat :=
  if s.whoM w || w == .seat plantSeat then none else s.whoDomain w

/-- EXPORT or IMPORT (R596 to R598): refused with BUSY while a command or an ADC calibration runs, and an EXPORT with
    SPACE when the image would exceed CAL_IMGMAX. -/
def calCommand (s : State) (w : Requester) (isImport : Bool) : State :=
  if s.cal.isSome || s.bit Reg.ADC_STATUS 1 then (s.setFld Reg.CAL_STATUS 4 2 6).setBit Reg.CAL_STATUS 1 true
  else if !isImport && decide (s.fld Reg.CAL_IMGMAX 13 0 < (trimImage s).length) then
    calEnd (s.setFld Reg.CAL_STATUS 28 14 (trimImage s).length) 4
  else { s.setBit Reg.CAL_STATUS 0 true with cal := some { isImport := isImport, dom := calDomain s w } }

/-- CAL_EXPORT (R596). DEDUCED (log 34). -/
def execCalExport (who : Requester) (s : State) : Host.Outcome State Fault Refusal :=
  .next (respond who (if s.controlAllowed who Reg.CAL_CMD true then (calCommand s who false, true) else (s, false)))

/-- CAL_IMPORT (R597). -/
def execCalImport (who : Requester) (s : State) : Host.Outcome State Fault Refusal :=
  .next (respond who (if s.controlAllowed who Reg.CAL_CMD true then (calCommand s who true, true) else (s, false)))

/-- CAL_COMMAND_DONE (R596, R597): the image is written, or read, checked and applied; `errs` are the symbol errors a
    read of memory finds. A calibration that waited for an import may run. -/
def execCalCommandDone (errs : PageErrs) (s : State) : Host.Outcome State Fault Refusal :=
  .next (match s.cal with
    | none => s
    | some c =>
      let s := { s with cal := none }
      if !c.isImport then
        let bs := trimImage s
        match calWrite s c.dom bs with
        | some s => calEnd (s.setFld Reg.CAL_STATUS 28 14 bs.length) 0
        | none => calEnd s 5
      else
        let a := s.fld Reg.CAL_IMG_HI 15 0 * 2 ^ 32 + (s.reg Reg.CAL_IMG_LO).toNat
        let s := if s.bit Reg.CAL_IMG_HI 31 && !s.watch then readErrors s a 16384 errs else s
        let s := match calRead s c.dom 0 32 with
          | none => calEnd s 5
          | some h =>
            match (trimCheck s h).1, calRead s c.dom 0 (leAt h 6 2) with
            | _, some bs => let s := trimImport s bs; calEnd s (s.fld Reg.CAL_STATUS 4 2)
            | _, none => calEnd s (if h.take 4 ≠ [0x54, 0x52, 0x4D, 0x31] ∨ leAt h 4 2 ≠ 1 ∨ leAt h 6 2 < 32 ∨ 16384 < leAt h 6 2
                then 1 else 5)
        if s.plant.adc.calWait && s.plant.adc.cur.isNone then adcGo s (s.fld Reg.ADC_STATUS 8 5) else s)

/-! ### The keep area (R599 to R604) -/

/-- A valid keep page (R600, R601): its key, part and content. -/
structure KeepPage where
  seq : W32
  part : Nat
  npart : Nat
  content : List Byte
  deriving DecidableEq, Repr

/-- Page `k` of the keep area, if it is a valid page of a record TYPE and ID. -/
def keepPage (s : State) (type id k : Nat) : Option KeepPage :=
  let a := 0x200000 + 256 * k
  if s.flashAt a 2 ≠ [0x4B, 0x50] then none
  else
    let p := s.flashAt a 256
    let crc := crc32c (p.take 248)
    let used := leAt p 12 2
    if leAt p 2 1 = type ∧ leAt p 6 2 = id ∧ 1 ≤ leAt p 4 1 ∧ leAt p 4 1 ≤ 64 ∧ leAt p 3 1 < leAt p 4 1 ∧ used ≤ 232 ∧
        leAt p 5 1 = 0 ∧ leAt p 14 2 = 0 ∧ leAt p 248 4 = crc.toNat ∧ leAt p 252 4 = (~~~crc).toNat then
      some { seq := BitVec.ofNat 32 (leAt p 8 4), part := leAt p 3 1, npart := leAt p 4 1, content := (p.drop 16).take used }
    else none

/-- The record bytes of version `q`, if it is complete: the lowest-placed page of each part, one NPART, every part but the
    last full (R602). DEDUCED (log 35). -/
def keepVersion (ps : List KeepPage) (q : W32) : Option (List Byte) :=
  let mine := ps.filter (fun p => p.seq == q)
  match mine.find? (fun p => p.part == 0) with
  | none => none
  | some p0 =>
    let parts := (List.range p0.npart).map (fun i => mine.find? (fun p => p.part == i))
    if parts.zipIdx.all (fun x => match x.1 with
        | some p => p.npart == p0.npart && (x.2 + 1 == p0.npart || p.content.length == 232)
        | none => false) then
      some (parts.flatMap (fun o => match o with | some p => p.content | none => []))
    else none

/-- Version number `a` is newer than `b` (R602). -/
def seqNewer (a b : W32) : Bool := decide (1 ≤ (a - b).toNat) && decide ((a - b).toNat < 2 ^ 31)

/-- The record in force: the complete version newer than every other complete one (R602). DEDUCED (log 35). -/
def keepRecord (s : State) (type id : Nat) : Option (List Byte) :=
  let ps := (List.range 4096).filterMap (keepPage s type id)
  let vs := (ps.map (fun p => p.seq)).eraseDups.filterMap (fun q => (keepVersion ps q).map (fun b => (q, b)))
  (vs.find? (fun v => vs.all (fun w => w.1 == v.1 || seqNewer v.1 w.1))).map (fun v => v.2)

/-- The boot ROM imports the TRIM record in force (R604). -/
def bootTrim (s : State) : State :=
  match keepRecord s 1 0 with
  | none => s.setBit Reg.CAL_STATUS 5 true
  | some bs =>
    let s := trimImport s bs
    if s.fld Reg.CAL_STATUS 4 2 = 0 then s else raise (s.setBit Reg.CAL_STATUS 5 true) 35 0 false

/-! ### Snapshots (R605, R606) -/

/-- ARM (R606): no effect while ARMED or LATCHING is 1. DEDUCED (log 83). -/
def snpArm (s : State) : State :=
  if s.bit Reg.SNP_STATUS 0 || s.bit Reg.SNP_STATUS 2 then s
  else (s.setBit Reg.SNP_STATUS 0 true).setBit Reg.SNP_STATUS 1 false

/-- SNP_ARM (R606). -/
def execSnpArm (s : State) : Host.Outcome State Fault Refusal := .next (snpArm s)

/-- SNP_TRIG: the software trigger (R605). -/
def execSnpTrig (s : State) : Host.Outcome State Fault Refusal := .next (snapTrigger s .soft s.ringTime)

/-- SNAPIN_EDGE: an active edge held for SNAPDG, at its timestamp (R605). -/
def execSnapinEdge (t : W64) (s : State) : Host.Outcome State Fault Refusal := .next (snapTrigger s .snapin t)

/-- SNAPSHOT_DONE (R606). -/
def execSnapshotDone (s : State) : Host.Outcome State Fault Refusal :=
  .next (if s.bit Reg.SNP_STATUS 2 then (s.setBit Reg.SNP_STATUS 2 false).setBit Reg.SNP_STATUS 1 true else s)

/-- A write of SNP_DBG: from the OWNER flag or M mode, with KEY 0xD5 (R615). -/
def snpDbgWrite (s : State) (w : Requester) (v : W32) : Written :=
  if s.ownerOrM w && fbits v 7 0 == 0xD5 then (s.setBit Reg.SNP_DBG 8 (fbit v 8), true) else (s, false)

/-- SNP_DBG_WRITE (R615). -/
def execSnpDbgWrite (who : Requester) (value : W32) (s : State) : Host.Outcome State Fault Refusal :=
  .next (respond who (if s.controlAllowed who Reg.SNP_DBG true then snpDbgWrite s who value else (s, false)))

/-! ### The test access port (R608 to R610) -/

/-- The port works in RUN and WATCH: with group P powered and the reset over (R608). DEDUCED (log 83). -/
def tapLoad (s : State) (ir : BitVec 8) : State := if s.power = .on then { s with tapIr := ir } else s

/-- An instruction that acts only while debug is enabled, and selects BYPASS otherwise (R610). -/
def tapGuarded (s : State) (ir : BitVec 8) : State := tapLoad s (if s.debugOn then ir else 0xFF)

/-- EXTEST, HIGHZ and CLAMP order the safe state (R610). DEDUCED (log 83). -/
def tapDrive (s : State) (ir : BitVec 8) : State :=
  let s := tapGuarded s ir
  if s.power = .on && s.debugOn then safeOrder s .command 0 else s

/-- What IDCODE reads (R609). -/
def State.idcode (s : State) : W64 :=
  BitVec.ofNat 64 (1 + 2 * 0x2C5 + 2 ^ 12 * s.variant.part + 2 ^ 28 * s.fld Reg.SYS_ID 31 28)

/-- TAP_RESET (R608). -/
def execTapReset (s : State) : Host.Outcome State Fault Refusal := .next (tapLoad s 1)
/-- TAP_IDCODE: the identification register is selected and read (R608, R609). -/
def execTapIdcode (s : State) : Host.Outcome State Fault Refusal :=
  .next (if s.power = .on then { tapLoad s 1 with out := s.out ++ [Out.readData .debug s.idcode] } else s)
/-- TAP_SAMPLE_PRELOAD (R608). -/
def execTapSamplePreload (s : State) : Host.Outcome State Fault Refusal := .next (tapLoad s 2)
/-- TAP_EXTEST (R610). -/
def execTapExtest (s : State) : Host.Outcome State Fault Refusal := .next (tapDrive s 3)
/-- TAP_HIGHZ (R610). -/
def execTapHighz (s : State) : Host.Outcome State Fault Refusal := .next (tapDrive s 4)
/-- TAP_CLAMP (R610). -/
def execTapClamp (s : State) : Host.Outcome State Fault Refusal := .next (tapDrive s 5)
/-- TAP_DBGACC (R608, R610). -/
def execTapDbgacc (s : State) : Host.Outcome State Fault Refusal := .next (tapGuarded s 0x20)
/-- TAP_BYPASS (R608). -/
def execTapBypass (s : State) : Host.Outcome State Fault Refusal := .next (tapLoad s 0xFF)

end Sys2Proof.Machine
end

