-- ==== Sys2Proof/Machine/Stage.lean ====
section
/-! DEFINITION. Stage issue (R106 to R112) and waiting for web position (R113). -/

namespace Sys2Proof.Machine

/-- Bytes read at a place; none is a bus error (R5, R87, R167). -/
def readPlace (s : State) (p : Target) (n : Nat) : Option (List Byte) :=
  match p with
  | .memory a => s.memRead a n
  | .store k => if s.storeReadable k n then some (s.storeRead k n) else none
  | _ => none

/-! ### Works and their records (R109 to R112) -/

/-- The accepted works of unit `u` of engine `e`, oldest first. -/
def State.queue (s : State) (e u : Nat) : List Work := sget [] s.works (8 * e + u)
/-- The queue of unit `u` of engine `e` becomes `q`. -/
def State.setQueue (s : State) (e u : Nat) (q : List Work) : State := { s with works := sset [] s.works (8 * e + u) q }

/-- Where the completion record of sequence number `q` of a seat lies (R110). -/
def recordPlace (seat : Nat) (q : W32) : Nat :=
  coreStore (seatEngine seat) (seatCore seat) + 0xFE000 + 0x400 * (seat % 8) + 16 * (q.toNat % 64)

/-- The record's 16 bytes (R110). -/
def completionRecord (s : State) (u : Nat) (seq : W32) (done status : Nat) : List Byte :=
  leBytes 4 seq.toNat ++ leBytes 4 done ++ leBytes 1 status ++ leBytes 1 u ++ [0, 0] ++ leBytes 4 s.ringTime.toNat

/-- A completion record is written, and with N = 1 STG_NOTIFY queues for the seat (R110, R112). -/
def writeRecord (s : State) (seat u : Nat) (seq : W32) (notify : Bool) (done status : Nat) : State :=
  let s := s.storeWrite (recordPlace seat seq) (completionRecord s u seq done status)
  if notify && (s.seat seat).st != .off then
    s.modSeat seat (fun t => { t with notifyQ := t.notifyQ ++ [BitVec.ofNat 64 (u * 2 ^ 32 + seq.toNat)] })
  else s

/-- The statuses of R110. -/
inductive WorkStatus
  | ok | desc | bounds | key | bus | cancelled
  deriving DecidableEq, Repr

/-- The STATUS code. -/
def WorkStatus.code : WorkStatus → Nat
  | .ok => 0 | .desc => 1 | .bounds => 2 | .key => 3 | .bus => 4 | .cancelled => 5

/-- The oldest work of a unit completes: its record is written and the seat has one work fewer outstanding (R110). -/
def completeWork (s : State) (e u : Nat) (st : WorkStatus) (done : Nat) : State :=
  match s.queue e u with
  | [] => s
  | w :: rest =>
    let s := (s.setQueue e u rest).modSeat w.seat (fun t => { t with stgOut := t.stgOut - 1 })
    writeRecord s w.seat u w.seq w.notify done st.code

/-- The oldest work of a unit changes by `f`. -/
def modWork (s : State) (e u : Nat) (f : Work → Work) : State :=
  match s.queue e u with
  | [] => s
  | w :: rest => s.setQueue e u (f w :: rest)

/-- There is room for the work (R109): a work of count 0 takes no place in the unit's queue. -/
def stgRoom (s : State) (i : Nat) (r : StgReq) : Bool :=
  decide ((s.seat i).stgOut < 64) && (r.count == 0 || decide ((s.queue (seatEngine i) r.unit).length < 64))

/-- Acceptance (R66, R109): the work takes the counter's value and RD receives it; a work of count 0 completes at once. -/
def stgAccept (s : State) (i : Nat) (r : StgReq) : State :=
  let seq := (s.seat i).stgSeq
  let s := s.modSeat i (fun t =>
    ({ t with stgSeq := seq + 1 }.setX r.rd (BitVec.ofNat 64 seq.toNat)).advance 8)
  if r.count = 0 then writeRecord s i r.unit seq r.notify 0 0
  else
    let s := s.modSeat i (fun t => { t with stgOut := t.stgOut + 1 })
    let w : Work := { seat := i, seq := seq, notify := r.notify, count := r.count, desc := r.desc,
                      slots := r.slots, started := false, done := 0 }
    s.setQueue (seatEngine i) r.unit (s.queue (seatEngine i) r.unit ++ [w])

/-! ### The checks of STG.L (R107, R108) -/

/-- The stage unit is present (R1, R4). -/
def State.unitPresent (s : State) (u : Nat) : Bool := u != 5 || s.variant.icu

/-- Use of slot `n` in the USE byte: 0 unused, 1 read, 2 write, 3 emit (R107). -/
def slotUse (use n : Nat) : Nat := (use / 4 ^ n) % 4

/-- The rights a use needs: S; S and W; E (R107). -/
def useRights (u : Nat) : Nat := if u = 1 then 8 else if u = 2 then 10 else 16

/-- TSTATE's access bits of a stage access: WIN 17, KIND 4 or 5, SIZE (R67, R108). -/
def stageAccess (emit : Bool) (size : Nat) : Nat := 17 + 32 * (if emit then 5 else 4) + 256 * size

/-- The offset at which a slot window fails its check, if it does (R108 step 7). -/
def slotFailure (s : State) (t : Seat) (d : Desc) (use : Nat) : Option Nat :=
  if !dValid d || dLen d == 0 || !ownerOk t d || !hasRights (dRights d) (useRights use) then some 0
  else if dLoc d then none
  else
    match (spanning (2 ^ 21) (dBase d) (min (dLen d) (s.memSize - dBase d))).find? (fun g => s.tag g != dKtag d) with
    | some g => some (g * 2 ^ 21 - dBase d)
    | none => none

/-- What the checks of R108 find: a trap with its TVAL and access bits, or the descriptor's bytes. -/
inductive StgCheck
  | trap (cause : Nat) (tval : W64) (access : Option Nat)
  | ok (desc : List Byte)
  deriving DecidableEq, Repr

/-- Descriptor blocks of 16 bytes `k …` are checked as stage reads and read, `n` of them. -/
def stgRead (s : State) (i : Nat) (d : Desc) (off : Nat) : Nat → Nat → StgCheck
  | _, 0 => .ok []
  | k, n + 1 =>
    let o := off + 16 * k
    let fail (c : Nat) := StgCheck.trap c (BitVec.ofNat 64 o) (some (stageAccess false 4))
    match checkAccess s (s.seat i) false d o 16 16 8 false with
    | some _ => fail 0x11
    | none =>
      match readPlace s (target s i d o) 16 with
      | none => fail 0x0B
      | some bs =>
        match stgRead s i d off (k + 1) n with
        | .ok more => .ok (bs ++ more)
        | e => e

/-- Steps 3 to 7 of R108. -/
def stgCheck (s : State) (i : Nat) (w : W64) (unit count : Nat) (d : Desc) (off : Nat) (slots : List Desc) : StgCheck :=
  if count > 0xFFFFFFFF then .trap 0x10 w none
  else
    match stgRead s i d off 0 1 with
    | .trap c v a => .trap c v a
    | .ok hdr =>
      let dlen := leAt hdr 2 1
      let use := leAt hdr 3 1
      if leAt hdr 0 1 ≠ unit ∨ leAt hdr 1 1 ≠ 1 ∨ dlen = 0 ∨ 64 < dlen ∨
          (unit ≠ 4 ∧ (List.range 4).any (fun n => slotUse use n == 3)) then .trap 0x10 w none
      else
        match stgRead s i d off 0 dlen with
        | .trap c v a => .trap c v a
        | .ok bs =>
          let fails := (List.range 4).filterMap (fun n =>
            if slotUse use n = 0 then none
            else (slotFailure s (s.seat i) ((slots[n]?).getD 0) (slotUse use n)).map (fun o => (n, o)))
          match fails with
          | [] => .ok bs
          | (n, o) :: _ => .trap 0x11 (BitVec.ofNat 64 o) (some (stageAccess (slotUse use n == 3) 0))

/-- A request is accepted at once where there is room, or the seat waits (R109). -/
def stgSubmit (s : State) (i : Nat) (r : StgReq) : State :=
  if stgRoom s i r then stgAccept s i r else stall s i (.stg r)

/-- STG.L: the checks of R108 in their order, then acceptance (R109). -/
def execStgL (seat rd ra rc : Nat) (unit : BitVec 3) (notify : Bool) (wd w0 w1 w2 w3 : Nat) (s : State) :
    Host.Outcome State Fault Refusal :=
  .next (issue s seat 8 (fun s =>
    let w := wordL 0x10 (rd * 2 ^ 15 + ra * 2 ^ 10 + rc * 2 ^ 5 + unit.toNat * 4 + b2n notify * 2)
    if isPlant seat || decide (6 ≤ unit.toNat) then trap s seat 0x00 w
    else hmOnly s seat w (fun s =>
      if !s.unitPresent unit.toNat then trap s seat 0x02 w
      else
        let t := s.seat seat
        let count := (t.sx rc).toNat
        if count = 0 then
          stgSubmit s seat { rd := rd, unit := unit.toNat, notify := notify, count := 0, desc := [], slots := [] }
        else
          let slots := [t.wx w0, t.wx w1, t.wx w2, t.wx w3]
          match stgCheck s seat w unit.toNat count (t.wx wd) (t.sx ra).toNat slots with
          | .trap c v a => takeTrap s seat c v a
          | .ok bs =>
            let used := slots.zipIdx.map (fun p => if slotUse (leAt bs 3 1) p.2 = 0 then (0 : Desc) else p.1)
            stgSubmit s seat { rd := rd, unit := unit.toNat, notify := notify, count := count, desc := bs,
                               slots := used })))

/-- STG_ACCEPT: the waiting STG.L is accepted once there is room (R109). -/
def execStgAccept (seat : Nat) (s : State) : Host.Outcome State Fault Refusal :=
  .next (match (s.seat seat).wait with
    | .stg r => if stgRoom s seat r then stgAccept (unstall s seat id) seat r else s
    | _ => s)

/-! ### WPOS (R113) -/

/-- What WPOS returns now for a web, if it completes: the broadcast position at or past the target, the last trusted
    position in LOST, the last broadcast position when the web is not running. -/
def wposResult (s : State) (target : W64) (web : Nat) : Option W64 :=
  let st := s.fld Reg.POS_STATUS (2 * web + 1) (2 * web)
  let pos := s.reg64 (Reg.POSn_POS_LO web)
  if st = 0 then some pos
  else if st = 3 then some (s.reg64 (Reg.POSn_TRUST_LO web))
  else if target.toNat ≤ pos.toNat then some pos
  else none

/-- WPOS: completes at once or stalls (R113). -/
def execWpos (seat rd ra : Nat) (web : BitVec 2) (s : State) : Host.Outcome State Fault Refusal :=
  .next (issue s seat 4 (fun s =>
    let w := wordWP rd ra web.toNat
    zvOnly s seat w (fun s => hmOnly s seat w (fun s =>
      let x := (s.seat seat).sx ra
      match wposResult s x web.toNat with
      | some v => retire s seat 4 (fun t => t.setX rd v)
      | none => stall s seat (.wpos rd x web.toNat)))))

/-- WPOS_COMPLETE: a stalled WPOS completes (R113). -/
def execWposComplete (seat : Nat) (s : State) : Host.Outcome State Fault Refusal :=
  .next (match (s.seat seat).wait with
    | .wpos rd x web =>
      match wposResult s x web with
      | some v => unstall s seat (fun t => (t.setX rd v).advance 4)
      | none => s
    | _ => s)

end Sys2Proof.Machine
end

