-- ==== Sys2Proof/Machine/SlotIo.lean ====
section
/-! DEFINITION. What the stage units share: access through slot windows (R59, R110, R111), descriptor fields, packed
lines and planes (R208, R233), the hash (R235), and engine roles (R305). -/

namespace Sys2Proof.Machine

/-- The engine's stage units. -/
def State.eng (s : State) (e : Nat) : EngineRun := sget EngineRun.init s.engines e
/-- Engine `e`'s stage units become `r`. -/
def State.setEng (s : State) (e : Nat) (r : EngineRun) : State :=
  { s with engines := sset EngineRun.init s.engines e r }

/-- The role of an engine: 0 ACTIVE, 1 SPARE, 2 SHADOW, 3 BIST, 4 RECOVER, 5 FAILED, 7 ABSENT (R305, R324). -/
def State.role (s : State) (e : Nat) : Nat := s.fld Reg.SNP_SPR_ROLES (4 * e + 2) (4 * e)
/-- The engine shadows another (R308). -/
def State.shadow (s : State) (e : Nat) : Bool := s.role e == 2

/-- The live line of an engine's source clears once none of the engine's own conditions holds: no failed checkpoint and
    no stale camera stream (R263, R290). DEDUCED (log 45). -/
def engineCalm (s : State) (e : Nat) : State :=
  if (s.eng e).ckLive || (s.eng e).icu.streams.any (fun x => x.stale) || !s.live e then s else liveOff s e

/-! ### Slot windows -/

/-- `n` bytes at offset `off` of a slot window, or the status that ends the work: outside the window BOUNDS, a tag that
    has changed KEY, a bus error BUS (R59, R110, R111). -/
def slotRead (s : State) (seat : Nat) (d : Desc) (off n : Nat) : Except WorkStatus (List Byte) :=
  if n = 0 then .ok []
  else if dLen d < off + n then .error .bounds
  else
    match target s seat d off with
    | .memory a =>
      if !s.tagsMatch a n (dKtag d) then .error .key
      else match s.memRead a n with
        | some bs => .ok bs
        | none => .error .bus
    | .store k => if s.storeReadable k n then .ok (s.storeRead k n) else .error .bus
    | _ => .error .bus

/-- Bytes written at offset `off` of a slot window, or the status that ends the work. -/
def slotWrite (s : State) (seat : Nat) (d : Desc) (off : Nat) (bs : List Byte) : Except WorkStatus State :=
  if bs.isEmpty then .ok s
  else if dLen d < off + bs.length then .error .bounds
  else
    match target s seat d off with
    | .memory a =>
      if !s.tagsMatch a bs.length (dKtag d) then .error .key
      else match s.memWrite a bs with
        | some s => .ok s
        | none => .error .bus
    | .store k => .ok (s.storeWrite k bs)
    | _ => .error .bus

/-- Slot `i` of a work. -/
def slotOf (slots : List Desc) (i : Nat) : Desc := (slots[i]?).getD 0
/-- Slot `i` of a work. -/
def Work.slot (w : Work) (i : Nat) : Desc := slotOf w.slots i

/-- The range `off … off + n − 1` lies in a slot window. -/
def inSlot (d : Desc) (off n : Nat) : Bool := decide (off + n ≤ dLen d)

/-- Every byte of `desc` from `off`, `n` of them, is 0. -/
def zeros (desc : List Byte) (off n : Nat) : Bool := ((desc.drop off).take n).all (fun b => b == 0)

/-- USE of a descriptor, slots 0 to 3. -/
def useOf (desc : List Byte) (n : Nat) : Nat := slotUse (leAt desc 3 1) n
/-- DLEN × 16. -/
def descLen (desc : List Byte) : Nat := 16 * leAt desc 2 1

/-- The work in progress of a unit: the oldest, when the engine is up. -/
def State.front (s : State) (e u : Nat) : Option Work :=
  if s.islandUp e then (s.queue e u).head? else none

/-- The web's broadcast position, u48.16, when it is in SLOW or RUN. -/
def State.webPos (s : State) (web : Nat) : Option Nat :=
  let st := s.fld Reg.POS_STATUS (2 * web + 1) (2 * web)
  if st = 1 ∨ st = 2 then some (s.reg64 (Reg.POSn_POS_LO web)).toNat else none

/-! ### Planes (R208, R233) -/

/-- `n` rounded up to a multiple of 256. -/
def up256 (n : Nat) : Nat := (n + 255) / 256 * 256
/-- PSTRIDE of R208. -/
def pstride (pels : Nat) : Nat := up256 (2 * pels)
/-- DSTRIDE of R233. -/
def dstride (n : Nat) : Nat := up256 ((n + 3) / 4)

/-- The u16 values of `n` pels. -/
def pels16 : Nat → List Byte → List Nat
  | 0, _ => []
  | n + 1, a :: b :: bs => (a.toNat + 256 * b.toNat) :: pels16 n bs
  | n + 1, [a] => a.toNat :: List.replicate n 0
  | n + 1, [] => List.replicate (n + 1) 0

/-- Bytes of u16 values. -/
def bytes16 (l : List Nat) : List Byte := l.flatMap (fun v => leBytes 2 v)

/-- A list of bytes padded with zeros to length `n`. -/
def padTo (n : Nat) (l : List Byte) : List Byte := l ++ List.replicate (n - l.length) 0

/-- Drop code `i` of a packed plane (R233). -/
def dropAt (bs : List Byte) (i : Nat) : Nat := (((bs[i / 4]?).getD 0).toNat / 4 ^ (i % 4)) % 4

/-- The bytes of a packed plane (R233). -/
def packDrops : List Nat → List Byte
  | a :: b :: c :: d :: l => BitVec.ofNat 8 (a + 4 * b + 16 * c + 64 * d) :: packDrops l
  | [a, b, c] => [BitVec.ofNat 8 (a + 4 * b + 16 * c)]
  | [a, b] => [BitVec.ofNat 8 (a + 4 * b)]
  | [a] => [BitVec.ofNat 8 a]
  | [] => []

/-! ### The hash (R235) -/

/-- hash32. -/
def hash32 (y x seed : Nat) : W32 :=
  let h : W32 := BitVec.ofNat 32 y * 0x9E3779B1 + BitVec.ofNat 32 x * 0x85EBCA77 + BitVec.ofNat 32 seed
  let h := (h ^^^ (h >>> 15)) * 0x2C1B3C6D
  let h := (h ^^^ (h >>> 12)) * 0x297A2D39
  h ^^^ (h >>> 15)
/-- hash8. -/
def hash8 (y x seed : Nat) : Nat := (hash32 y x seed).toNat / 2 ^ 24

/-- A seed with a plane number folded into its top byte. -/
def planeSeed (seed k more : Nat) : Nat := Nat.xor (Nat.xor seed (k * 2 ^ 24)) more

end Sys2Proof.Machine
end

