-- ==== Sys2Proof/Machine/Lcu.lean ====
section
/-! DEFINITION. The layer cake compositor (R206 to R224, R228, R229, R231, R232). -/

namespace Sys2Proof.Machine

/-! ### The descriptor (R228, R229) -/

/-- A layer entry. -/
structure Layer where
  nch : Nat
  alpha : Bool
  wide : Bool
  scale : Nat
  policy : Nat
  blend : Nat
  linear : Bool
  plane0 : Nat
  slot : Nat
  nbuf : Nat
  x0 : Nat
  w : Nat
  y0 : Nat
  h : Nat
  buf : Nat
  bufstep : Nat
  stride : Nat
  ready : Nat
  fill : List Nat
  retain : Nat
  deriving DecidableEq, Repr

/-- Layer entry `i` of an LCU descriptor. -/
def layerOf (desc : List Byte) (i : Nat) : Layer :=
  let b := 112 + 80 * i
  let g (o n : Nat) := leAt desc (b + o) n
  { nch := g 0 1 % 16, alpha := g 0 1 / 16 % 2 == 1, wide := g 0 1 / 32 % 2 == 1, scale := g 0 1 / 64,
    policy := g 1 1 % 4, blend := g 1 1 / 4 % 4, linear := g 1 1 / 16 % 2 == 1, plane0 := g 2 1,
    slot := g 3 1 % 4, nbuf := g 3 1 / 4 % 4 + 1, x0 := g 4 2, w := g 6 2, y0 := g 8 4, h := g 12 4,
    buf := g 16 8, bufstep := g 24 8, stride := g 32 4, ready := g 40 8,
    fill := (List.range 8).map (fun c => g (48 + 2 * c) 2), retain := g 64 8 }

/-- Bytes of a source pel (R209). -/
def Layer.bpp (l : Layer) : Nat := (l.nch + b2n l.alpha) * (1 + b2n l.wide)
/-- Print pels per source pel. -/
def Layer.step (l : Layer) : Nat := if l.scale = 0 then 1 else 2
/-- SW and SH (R210). -/
def Layer.sw (l : Layer) : Nat := (l.w + l.step - 1) / l.step
/-- SH. -/
def Layer.sh (l : Layer) : Nat := (l.h + l.step - 1) / l.step

/-- Fields of an LCU descriptor. -/
def lcuLine0 (d : List Byte) : Nat := leAt d 4 4
/-- PITCH0. -/
def lcuPitch0 (d : List Byte) : Nat := leAt d 8 8
/-- START0. -/
def lcuStart0 (d : List Byte) : Nat := leAt d 16 8
/-- PLEN. -/
def lcuPlen (d : List Byte) : Nat := leAt d 24 4
/-- LEAD. -/
def lcuLead (d : List Byte) : Nat := leAt d 28 2
/-- WEB. -/
def lcuWeb (d : List Byte) : Nat := leAt d 30 1 % 4
/-- NLAY. -/
def lcuNlay (d : List Byte) : Nat := leAt d 30 1 / 4 % 16
/-- PELS. -/
def lcuPels (d : List Byte) : Nat := leAt d 32 2
/-- ORING. -/
def lcuOring (d : List Byte) : Nat := leAt d 34 2
/-- OSTRIDE. -/
def lcuOstride (d : List Byte) : Nat := leAt d 36 4
/-- OLINE0. -/
def lcuOline0 (d : List Byte) : Nat := leAt d 40 4
/-- SPRING. -/
def lcuSpring (d : List Byte) : Nat := leAt d 64 8
/-- DREC. -/
def lcuDrec (d : List Byte) : Nat := leAt d 104 8
/-- The layers of a descriptor. -/
def lcuLayers (d : List Byte) : List Layer := (List.range (lcuNlay d)).map (layerOf d)
/-- START(p) in u48.16 (R207). -/
def lcuStart (d : List Byte) (p : Nat) : Nat := (lcuStart0 d + (p - lcuPitch0 d) * lcuPlen d * 2 ^ 16) % 2 ^ 64
/-- The pitch and pitch line of work line `n`. -/
def lcuAt (d : List Byte) (n : Nat) : Nat × Nat :=
  (lcuPitch0 d + (lcuLine0 d + n) / lcuPlen d, (lcuLine0 d + n) % lcuPlen d)

/-- A layer entry is valid (R209, R222, R229). -/
def layerValid (desc : List Byte) (i : Nat) : Bool :=
  let l := layerOf desc i
  let b := 112 + 80 * i
  decide (1 ≤ l.nch) && decide (l.nch ≤ 8) && decide (l.scale ≤ 1) && leAt desc (b + 1) 1 / 32 == 0 &&
  decide (l.plane0 ≤ 7) && decide (l.plane0 + l.nch ≤ 8) && decide (1 ≤ l.slot) && leAt desc (b + 3) 1 / 16 == 0 &&
  decide (l.x0 + l.w ≤ lcuPels desc) && decide (l.y0 + l.h ≤ lcuPlen desc) &&
  l.stride % 16 == 0 && decide (l.sw * l.bpp ≤ l.stride) && l.ready % 8 == 0 &&
  zeros desc (b + 36) 4 && zeros desc (b + 72) 8 && (l.policy != 1 || l.retain % 16 == 0)

/-- The descriptor is valid (R228, R231). -/
def lcuValid (w : Work) : Bool :=
  let d := w.desc
  let n := lcuNlay d
  let named (k : Nat) := (lcuLayers d).any (fun l => l.slot == k)
  decide (n ≤ 8) && decide (7 + 5 * n ≤ leAt d 2 1) && leAt d 30 1 / 64 == 0 && useOf d 0 == 2 && useOf d 1 == 2 &&
  (useOf d 2 == 1 || (useOf d 2 == 0 && !named 2)) && (useOf d 3 == 1 || (useOf d 3 == 0 && !named 3)) &&
  decide (16 ≤ lcuPlen d) && decide (lcuLine0 d < lcuPlen d) && decide (32 ≤ lcuLead d) && zeros d 31 1 &&
  decide (1 ≤ lcuPels d) && decide (1 ≤ lcuOring d) && lcuOstride d % 256 == 0 &&
  decide (8 * pstride (lcuPels d) ≤ lcuOstride d) && zeros d 44 4 && lcuSpring d % 16 == 0 && lcuDrec d % 16 == 0 &&
  (List.range n).all (layerValid d)

/-- Everything the work touches lies in its windows (R213). -/
def lcuBounds (w : Work) : Bool :=
  let d := w.desc
  (lcuLayers d).all (fun l =>
    (List.range l.nbuf).all (fun b => inSlot (w.slot l.slot) (l.buf + b * l.bufstep) (l.sh * l.stride)) &&
    inSlot (w.slot l.slot) l.ready 8 &&
    (l.policy != 1 || inSlot (w.slot 1) l.retain (16 + l.sh * l.stride))) &&
  inSlot (w.slot 1) (lcuDrec d) 16 && inSlot (w.slot 1) (lcuSpring d) (16 + 32 * leAt d 72 4) &&
  (List.range (min w.count (lcuOring d))).all (fun n =>
    inSlot (w.slot 0) (((lcuOline0 d + n) % lcuOring d) * lcuOstride d) (8 * pstride (lcuPels d)))

/-! ### Readiness and the decision (R212, R215 to R219) -/

/-- A ready word's value is ready for pitch `p` (R212). -/
def readyFor (l : Layer) (p word : Nat) : Bool :=
  word == 2 ^ 64 - 1 || (if l.nbuf = 1 then word == p else decide (p ≤ word) && decide (word < p + l.nbuf))

/-- Reading a layer's ready word: none when the read fails (R212). -/
def readReady (s : State) (w : Work) (l : Layer) : Option Nat :=
  match slotRead s w.seat (w.slot l.slot) l.ready 8 with
  | .ok bs => some (leNat bs)
  | .error _ => none

/-- Bit `i` of a bitmap. -/
def hasBit (m i : Nat) : Bool := m / 2 ^ i % 2 == 1
/-- The bitmap with bit `i` set. -/
def withBit (m i : Nat) : Nat := if hasBit m i then m else m + 2 ^ i

/-- The bitmap of the layers that satisfy `f`. -/
def layerBits (d : List Byte) (f : Nat → Layer → Bool) : Nat :=
  ((lcuLayers d).zipIdx).foldl (fun m x => if f x.2 x.1 then m + 2 ^ x.2 else m) 0

/-- The layers ready for pitch `p` now, those noted before included. -/
def readyNow (s : State) (e : Nat) (w : Work) (p : Nat) : Nat :=
  let r := (s.eng e).lcu
  layerBits w.desc (fun i l =>
    (r.readyFor == p && hasBit r.ready i) || (match readReady s w l with | some v => readyFor l p v | none => false))

/-- Engine `e`'s LCU changes by `f`. -/
def State.modLcu (s : State) (e : Nat) (f : LcuRun → LcuRun) : State :=
  s.setEng e { s.eng e with lcu := f (s.eng e).lcu }

/-- The pitch the LCU needs a decision for, if it waits for one (R215, R218). -/
def lcuNeeds (s : State) (e : Nat) : Option (Work × Nat) :=
  match s.front e 0 with
  | some w =>
    if !w.started || w.count ≤ w.done then none
    else
      let p := (lcuAt w.desc w.done).1
      match (s.eng e).lcu.decision with
      | some x => if x.pitch = p then none else some (w, p)
      | none => some (w, p)
  | none => none

/-- LCU_READY_POLL: while it waits, the LCU re-reads the ready words of layers not yet ready (R215). -/
def execLcuReadyPoll (e : Nat) (s : State) : Host.Outcome State Fault Refusal :=
  .next (match lcuNeeds s e with
    | some (w, p) => s.modLcu e (fun r => { r with readyFor := p, ready := readyNow s e w p })
    | none => s)

/-- A spoil record (R223); with SPOILED it counts and raises source 39 (R224). An error on the spoil ring ends the work.
    DEDUCED (log 52). -/
def spoilRecord (s : State) (e : Nat) (w : Work) (p late err flags : Nat) : Except WorkStatus State :=
  let d := w.desc
  let st := lcuStart d p
  let body := leBytes 8 p ++ leBytes 8 st ++ leBytes 8 (st + lcuPlen d * 2 ^ 16) ++ leBytes 1 (lcuWeb d) ++
    leBytes 1 late ++ leBytes 1 err ++ leBytes 1 flags ++ leBytes 4 s.ringTime.toNat
  match slotRead s w.seat (w.slot 1) (lcuSpring d) 8 with
  | .error x => .error x
  | .ok bs =>
    let n := leNat bs
    let rn := leAt d 72 4
    let s' := if rn = 0 then Except.ok s
      else slotWrite s w.seat (w.slot 1) (lcuSpring d + 16 + 32 * (n % rn)) body
    match s' with
    | .error x => .error x
    | .ok s =>
      match slotWrite s w.seat (w.slot 1) (lcuSpring d) (leBytes 8 (n + 1)) with
      | .error x => .error x
      | .ok s =>
        .ok (if flags % 2 = 1 then raise (s.count (Reg.SEn_LCU_SPOIL_CNT e) 1) 39 0 false else s)

/-- The decision record (R218). DEDUCED (log 52). -/
def decisionRecord (s : State) (w : Work) (x : Decision) : Except WorkStatus State :=
  slotWrite s w.seat (w.slot 1) (lcuDrec w.desc)
    (leBytes 8 x.pitch ++ leBytes 1 x.used ++ leBytes 1 x.late ++ leBytes 1 x.err ++ leBytes 1 x.flags ++ [0, 0, 0, 0])

/-- A valid retained copy for pitch `p` exists (R220). -/
def retainedValid (s : State) (w : Work) (l : Layer) (p : Nat) : Bool :=
  match slotRead s w.seat (w.slot 1) l.retain 8 with
  | .ok bs => leNat bs != 2 ^ 64 - 1 && decide (leNat bs < p)
  | .error _ => false

/-- The decision for pitch `p` from the layers that are ready and the ready words that could not be read (R212, R217, R220).
    DEDUCED (log 52). -/
def decide' (s : State) (w : Work) (p ready unread : Nat) : Decision :=
  let d := w.desc
  let late := layerBits d (fun i _ => !hasBit ready i)
  let fall := layerBits d (fun i l => hasBit late i && l.policy == 1 && !retainedValid s w l p)
  let spoil := (layerBits d (fun i l => hasBit late i && l.policy == 0)) != 0 || fall != 0
  { pitch := p, used := ready, late := late, err := unread, flags := b2n spoil + 4 * b2n (fall != 0),
    dropped := fall }

/-- The decision comes into force (R218, R232): the record, a spoil record when a layer is late, the counters. -/
def applyDecision (s : State) (e : Nat) (w : Work) (x : Decision) : State :=
  let s := (s.setReg64 (Reg.SEn_LCU_PITCH_LO e) (BitVec.ofNat 64 x.pitch)).setBit (Reg.SEn_LCU_STATUS e) 1 false
  let s := s.setBit (Reg.SEn_LCU_STATUS e) 2 (x.flags % 2 == 1)
  let s := s.count (Reg.SEn_LCU_LATE_CNT e) ((List.range 8).filter (hasBit x.late)).length
  let s := s.modLcu e (fun r => { r with decision := some x })
  match decisionRecord s w x with
  | .error st => (completeWork s e 0 st w.done).setBit (Reg.SEn_LCU_STATUS e) 0 false
  | .ok s =>
    if x.late = 0 then s
    else match spoilRecord s e w x.pitch x.late x.err x.flags with
      | .ok s => s
      | .error st => (completeWork s e 0 st w.done).setBit (Reg.SEn_LCU_STATUS e) 0 false

/-- The decision record of a pitch, when slot 1 holds it (R218). DEDUCED (log 52). -/
def storedDecision (s : State) (w : Work) (p : Nat) : Option Decision :=
  match slotRead s w.seat (w.slot 1) (lcuDrec w.desc) 16 with
  | .ok bs =>
    if leAt bs 0 8 = p then
      let late := leAt bs 9 1
      some { pitch := p, used := leAt bs 8 1, late := late, err := leAt bs 10 1, flags := leAt bs 11 1,
             dropped := layerBits w.desc (fun i l =>
               (hasBit (leAt bs 10 1) i && !hasBit late i) ||
               (hasBit late i && l.policy == 1 && !retainedValid s w l p)) }
    else none
  | .error _ => none

/-- The broadcast of WEB, in SLOW or RUN, has passed DEC(p) (R215, R219). -/
def decPassed (s : State) (d : List Byte) (p : Nat) : Bool :=
  match s.webPos (lcuWeb d) with
  | some pos => decide (lcuStart d p - lcuLead d * 2 ^ 16 ≤ pos)
  | none => false

/-- LCU_BOUNDARY_DECISION: the decision of a pitch, when every layer is ready or the broadcast has passed DEC(p); the last
    read of the ready words is final (R215, R216). A shadowing LCU applies its target's record (R308). -/
def execLcuBoundaryDecision (e : Nat) (s : State) : Host.Outcome State Fault Refusal :=
  .next (match lcuNeeds s e with
    | none => s
    | some (w, p) =>
      if s.shadow e then
        match storedDecision s w p with
        | some x =>
          s.modLcu e (fun r => { r with decision := some x, skips :=
            if x.late = 0 then r.skips
            else r.skips ++ [(lcuStart w.desc p / 2 ^ 16, lcuStart w.desc p / 2 ^ 16 + lcuPlen w.desc)] })
        | none => s
      else
        let ready := readyNow s e w p
        let all := 2 ^ lcuNlay w.desc - 1
        if ready = all then applyDecision s e w (decide' s w p ready 0)
        else if decPassed s w.desc p then
          let unread := layerBits w.desc (fun i l => !hasBit ready i && (readReady s w l).isNone)
          applyDecision s e w (decide' s w p ready unread)
        else (s.modLcu e (fun r => { r with readyFor := p, ready := ready })).setBit (Reg.SEn_LCU_STATUS e) 1 true)

/-- LCU_WORK_START: an accepted work is checked (R213, R231) and begins; in mid-pitch it takes up the recorded decision
    (R218), and an error on the record ends it (R221). -/
def execLcuWorkStart (e : Nat) (s : State) : Host.Outcome State Fault Refusal :=
  .next (match s.front e 0 with
    | some w =>
      if w.started then s
      else if !lcuValid w then completeWork s e 0 .desc 0
      else if !lcuBounds w then completeWork s e 0 .bounds 0
      else
        match (if lcuLine0 w.desc = 0 then Except.ok [] else slotRead s w.seat (w.slot 1) (lcuDrec w.desc) 16) with
        | .error st => completeWork s e 0 st 0
        | .ok _ =>
          let s := (modWork s e 0 (fun w => { w with started := true })).setBit (Reg.SEn_LCU_STATUS e) 0 true
          let x := if lcuLine0 w.desc = 0 then none else storedDecision s w (lcuPitch0 w.desc)
          s.modLcu e (fun r => { r with decision := x, ready := 0, readyFor := lcuPitch0 w.desc })
    | none => s)

/-! ### Compositing (R209 to R211, R220 to R222) -/

/-- Channel `c` of source pel `u` of a source line's bytes, widened to u16 (R209); the alpha is channel NCH. -/
def Layer.src (l : Layer) (bs : List Byte) (u c : Nat) : Nat :=
  if l.wide then leAt bs (u * l.bpp + 2 * c) 2 else leAt bs (u * l.bpp + c) 1 * 257

/-- The value of a channel at print column `u` and row `v` of the rectangle, from its source line and, for LINEAR, the
    next one (R211). -/
def Layer.value (l : Layer) (lo hi : List Byte) (u c : Nat) : Nat :=
  if l.scale = 0 then l.src lo u c
  else
    let a := l.src lo (u / 2) c
    if !l.linear then a
    else
      let u1 := min (u / 2 + u % 2) (l.sw - 1)
      (a + l.src lo u1 c + l.src hi (u / 2) c + l.src hi u1 c + 2) / 4

/-- BLEND (R222). -/
def blend (mode sv a bv : Nat) : Nat :=
  let a1 := a + a / 2 ^ 15
  match mode with
  | 0 => sv
  | 1 => (sv * a1 + bv * (65536 - a1) + 32768) / 65536
  | 2 => max sv bv
  | _ => min (sv + bv) 65535

/-- Plane `k` of the line with a layer applied: `val u c` gives the layer's channels. -/
def applyPlane (l : Layer) (k : Nat) (val : Nat → Nat → Nat) (alpha : Nat → Nat) (plane : List Nat) : List Nat :=
  if k < l.plane0 ∨ l.plane0 + l.nch ≤ k then plane
  else plane.zipIdx.map (fun x =>
    if l.x0 ≤ x.2 ∧ x.2 < l.x0 + l.w then blend l.blend (val (x.2 - l.x0) (k - l.plane0)) (alpha (x.2 - l.x0)) x.1
    else x.1)

/-- A layer applied to the eight planes. -/
def applyLayer (l : Layer) (val : Nat → Nat → Nat) (alpha : Nat → Nat) (planes : List (List Nat)) : List (List Nat) :=
  planes.zipIdx.map (fun x => applyPlane l x.2 val alpha x.1)

/-- The two source lines of pitch line `y` from a base offset of a slot. -/
def sourceLines (s : State) (w : Work) (l : Layer) (d : Desc) (base y : Nat) : Except WorkStatus (List Byte × List Byte) :=
  let v := y - l.y0
  let j := if l.scale = 0 then v else v / 2
  let j2 := if l.scale = 0 then v else min (v / 2 + v % 2) (l.sh - 1)
  match slotRead s w.seat d (base + j * l.stride) (l.sw * l.bpp) with
  | .error x => .error x
  | .ok a =>
    if j2 = j || !l.linear then .ok (a, a)
    else match slotRead s w.seat d (base + j2 * l.stride) (l.sw * l.bpp) with
      | .error x => .error x
      | .ok b => .ok (a, b)

/-- A layer error in mid-pitch (R221): the layer is out for the rest of the pitch, and a spoil record says so.
    DEDUCED (log 52). -/
def layerError (s : State) (e : Nat) (w : Work) (x : Decision) (i : Nat) : Except WorkStatus (State × Decision) :=
  let x := { x with err := withBit x.err i, flags := (if x.flags / 4 % 2 = 1 then 4 else 0) + 3,
                    dropped := withBit x.dropped i }
  let s := s.count (Reg.SEn_LCU_RERR_CNT e) 1
  if s.shadow e then .ok (s, x)
  else match decisionRecord s w x with
    | .error st => .error st
    | .ok s =>
      match spoilRecord s e w x.pitch x.late x.err x.flags with
      | .error st => .error st
      | .ok s => .ok (s, x)

/-- Layer `i` of pitch line `y` applied as the decision says (R217, R220 to R222). -/
def composeLayer (s : State) (e : Nat) (w : Work) (x : Decision) (y i : Nat) (l : Layer) (planes : List (List Nat)) :
    Except WorkStatus (State × Decision × List (List Nat)) :=
  let inside := decide (l.y0 ≤ y) && decide (y < l.y0 + l.h) && decide (0 < l.w)
  let useBuf := hasBit x.used i
  let repeatLast := hasBit x.late i && l.policy == 1
  if hasBit x.dropped i || !inside then .ok (s, x, planes)
  else if useBuf || repeatLast then
    let base := if useBuf then l.buf + (x.pitch % l.nbuf) * l.bufstep else l.retain + 16
    let d := if useBuf then w.slot l.slot else w.slot 1
    let fail := match layerError s e w x i with
      | .error st => Except.error st
      | .ok (s, x) => .ok (s, x, planes)
    match sourceLines s w l d base y with
    | .error _ => fail
    | .ok (a, b) =>
      let val (u c : Nat) := l.value a b u c
      let alpha (u : Nat) := if l.alpha then l.value a b u l.nch else 65535
      let j := if l.scale = 0 then y - l.y0 else (y - l.y0) / 2
      if useBuf && l.policy == 1 && !s.shadow e then
        match slotWrite s w.seat (w.slot 1) (l.retain + 16 + j * l.stride) a with
        | .error _ => fail
        | .ok s => .ok (s, x, applyLayer l val alpha planes)
      else .ok (s, x, applyLayer l val alpha planes)
  else if l.policy = 3 then
    .ok (s, x, applyLayer l (fun _ c => (l.fill[c]?).getD 0) (fun _ => 65535) planes)
  else .ok (s, x, planes)

/-- Layers `i …` applied in entry order. -/
def composeLayers (e : Nat) (w : Work) (y : Nat) : Decision → Nat → List Layer → List (List Nat) →
    State → Except WorkStatus (State × Decision × List (List Nat))
  | x, _, [], planes, s => .ok (s, x, planes)
  | x, i, l :: ls, planes, s =>
    match composeLayer s e w x y i l planes with
    | .error st => .error st
    | .ok (s, x, planes) => composeLayers e w y x (i + 1) ls planes s

/-- The spoil mark on a line of a spoiled pitch (R222). -/
def spoilMark (d : List Byte) (x : Decision) (y : Nat) (planes : List (List Nat)) : List (List Nat) :=
  let spx := leAt d 76 2
  let spw := leAt d 78 2
  let spy := leAt d 80 4
  let sph := leAt d 84 4
  if x.flags % 2 = 1 ∧ spy ≤ y ∧ y < spy + sph then
    planes.zipIdx.map (fun q => q.1.zipIdx.map (fun v =>
      if spx ≤ v.2 ∧ v.2 < spx + spw then leAt d (88 + 2 * q.2) 2 else v.1))
  else planes

/-- After a pitch's last line: the retained pitch numbers (R220), and in a shadow run the check for refilled buffers (R309). -/
def pitchEnd (s : State) (e : Nat) (w : Work) (x : Decision) : State :=
  if s.shadow e then
    let refilled := (lcuLayers w.desc).zipIdx.any (fun q => hasBit x.used q.2 &&
      (match readReady s w q.1 with | some v => !readyFor q.1 x.pitch v | none => true))
    if refilled then
      let st := lcuStart w.desc x.pitch / 2 ^ 16
      s.modLcu e (fun r => { r with skips := r.skips ++ [(st, st + lcuPlen w.desc)] })
    else s
  else
    s.each ((lcuLayers w.desc).zipIdx) (fun s q =>
      if q.1.policy = 1 && hasBit x.used q.2 && !hasBit x.dropped q.2 then
        match slotWrite s w.seat (w.slot 1) q.1.retain (leBytes 8 x.pitch ++ List.replicate 8 0) with
        | .ok s => s
        | .error _ => s
      else s)

/-- A unit's oldest work ends, and the unit is no longer busy unless another begins. -/
def endWork (s : State) (e u : Nat) (st : WorkStatus) (done : Nat) (status : Nat) : State :=
  (completeWork s e u st done).setBit status 0 false

/-- LCU_LINE: one working line is composited and written; at the work's last line it completes (R208, R222, R110). -/
def execLcuLine (e : Nat) (s : State) : Host.Outcome State Fault Refusal :=
  .next (match s.front e 0, (s.eng e).lcu.decision with
    | some w, some x =>
      let (p, y) := lcuAt w.desc w.done
      if !w.started || x.pitch ≠ p then s
      else
        let d := w.desc
        let pels := lcuPels d
        let planes := (List.range 8).map (fun k => List.replicate pels (leAt d (48 + 2 * k) 2))
        match composeLayers e w y x 0 (lcuLayers d) planes s with
        | .error st => endWork s e 0 st w.done (Reg.SEn_LCU_STATUS e)
        | .ok (s, x, planes) =>
          let s := (s.modLcu e (fun r => { r with decision := some x })).setBit (Reg.SEn_LCU_STATUS e) 2 (x.flags % 2 == 1)
          let line := (spoilMark d x y planes).flatMap (fun q => padTo (pstride pels) (bytes16 q))
          match slotWrite s w.seat (w.slot 0) (((lcuOline0 d + w.done) % lcuOring d) * lcuOstride d) line with
          | .error st => endWork s e 0 st w.done (Reg.SEn_LCU_STATUS e)
          | .ok s =>
            let s := if y + 1 = lcuPlen d then pitchEnd s e w x else s
            let s := modWork s e 0 (fun w => { w with done := w.done + 1 })
            if w.done + 1 = w.count then endWork s e 0 .ok w.count (Reg.SEn_LCU_STATUS e) else s
    | _, _ => s)

end Sys2Proof.Machine
end

