-- ==== Sys2Proof/Machine/Nozzle.lean ====
section
/-! DEFINITION. The nozzle mapping that the NMU and the ICU share (R243 to R247, R274). -/

namespace Sys2Proof.Machine

/-- An entry of the nozzle table (R244). -/
structure Nozzle where
  pcol : Nat
  missing : Bool
  stitch : Bool
  side : Bool
  blend : Nat
  /-- MAP_S, MAP_M and MAP_L -/
  maps : List Nat
  deriving DecidableEq, Repr

/-- The fields of an entry. -/
def nozzleOf (e : Nat) : Nozzle :=
  { pcol := e % 2 ^ 16, missing := e / 2 ^ 16 % 2 == 1, stitch := e / 2 ^ 17 % 2 == 1, side := e / 2 ^ 18 % 2 == 1,
    blend := e / 2 ^ 20 % 256, maps := [e / 2 ^ 28 % 4096, e / 2 ^ 40 % 4096, e / 2 ^ 52 % 4096] }

/-- The remap of code `q` by its MAP field (R244, R245). -/
def remap (m y n seed : Nat) : Nat :=
  let base := m % 4
  if hash8 y n seed < m / 16 % 256 then (if m / 4 % 2 = 0 then min (base + 1) 3 else base - 1) else base

/-- The drop code of nozzle `n` before placement (R245). -/
def nozzlePre (z : Nozzle) (pels : Nat) (src : Option (List Byte)) (y n k seed : Nat) : Nat :=
  let q := match src with
    | some bs => if z.pcol < pels then dropAt bs z.pcol else 0
    | none => 0
  let d := hash8 y z.pcol (planeSeed seed k 0x00800000)
  let q := if z.stitch && ((!z.side && decide (z.blend ≤ d)) || (z.side && decide (d < 256 - z.blend))) then 0 else q
  if q = 0 then 0 else remap ((z.maps[q - 1]?).getD 0) y n (planeSeed seed k 0)

/-- The nozzle may take a neighbour's drop (R246). -/
def takesDrop (pels : Nat) (zs : List Nozzle) (n : Nat) : Bool :=
  match zs[n]? with
  | some z => !z.missing && decide (z.pcol < pels)
  | none => false

/-- One MISSING nozzle's drop placed on a neighbour, or lost (R246): the codes and the count of lost drops. -/
def placeDrop (pels y : Nat) (zs : List Nozzle) (pre : List Nat) (r : List Nat × Nat) (n : Nat) : List Nat × Nat :=
  let p := (pre[n]?).getD 0
  let up := some (n + 1)
  let dn := if n = 0 then none else some (n - 1)
  let cands := if (y + n) % 2 = 0 then [up, dn] else [dn, up]
  match (cands.filterMap id).find? (takesDrop pels zs) with
  | some t =>
    let o := (r.1[t]?).getD 0
    (r.1.set t (if o = 0 then p else min (o + 1) 3), r.2)
  | none => (r.1, r.2 + 1)

/-- One plane of an emitter line (R245, R246): the codes, the lost drops, and the entries with an invalid PCOL. -/
def nozzlePlane (pels y k seed : Nat) (zs : List Nozzle) (src : Option (List Byte)) : List Nat × Nat × Nat :=
  let pre := zs.zipIdx.map (fun x => nozzlePre x.1 pels src y x.2 k seed)
  let out0 := List.zipWith (fun z q => if z.missing then 0 else q) zs pre
  let todo := (List.range zs.length).filter (fun n =>
    ((zs[n]?).map (fun z => z.missing)).getD false && (pre[n]?).getD 0 != 0)
  let r := todo.foldl (placeDrop pels y zs pre) (out0, 0)
  (r.1, r.2, (zs.filter (fun z => z.pcol != 0xFFFF && decide (pels ≤ z.pcol))).length)

/-- The entries of plane `k` of a table of `nnoz` nozzles read through a slot (R244, R247). -/
def nozzleTable (s : State) (seat : Nat) (d : Desc) (ntab nnoz k : Nat) : Except WorkStatus (List Nozzle) :=
  match slotRead s seat d (ntab + 8 * k * nnoz) (8 * nnoz) with
  | .ok bs => .ok ((List.range nnoz).map (fun n => nozzleOf (leAt bs (8 * n) 8)))
  | .error e => .error e

/-- Plane `k` of screened line `y' − BARD[k]`, none when that is below 0 (R243). -/
def screenedPlane (s : State) (seat : Nat) (d : Desc) (y bard iring istride pels k : Nat) :
    Except WorkStatus (Option (List Byte)) :=
  if y < bard then .ok none
  else match slotRead s seat d (((y - bard) % iring) * istride + k * dstride pels) (dstride pels) with
    | .ok bs => .ok (some bs)
    | .error e => .error e

end Sys2Proof.Machine
end

