-- ==== Sys2Proof/Machine/Icu.lean ====
section
/-! DEFINITION. The inspection compare unit (R264 to R290): camera streams, the intended-drop model, evidence, line lock,
evaluation and correction entries. -/

namespace Sys2Proof.Machine

/-! ### The descriptor (R285, R287) -/

/-- Planes. -/
def icuInks (d : List Byte) : Nat := leAt d 4 1 % 16
/-- NSTR. -/
def icuNstr (d : List Byte) : Nat := leAt d 4 1 / 16 % 8
/-- AUTO. -/
def icuAuto (d : List Byte) : Bool := leAt d 4 1 / 128 == 1
/-- CAMFMT: RGB8. -/
def icuRgb (d : List Byte) : Bool := leAt d 5 1 % 2 == 1
/-- B, bytes per pixel (R267). -/
def icuBpp (d : List Byte) : Nat := if icuRgb d then 3 else 1
/-- FRESH. -/
def icuFresh (d : List Byte) : Bool := leAt d 5 1 / 2 % 2 == 1
/-- PELS. -/
def icuPels (d : List Byte) : Nat := leAt d 6 2
/-- NNOZ. -/
def icuNnoz (d : List Byte) : Nat := leAt d 8 2
/-- WIN. -/
def icuWin (d : List Byte) : Nat := leAt d 10 2
/-- FIRST. -/
def icuFirst (d : List Byte) : Nat := leAt d 24 8
/-- STATE. -/
def icuState (d : List Byte) : Nat := leAt d 56 8
/-- PROP. -/
def icuProp (d : List Byte) : Nat := leAt d 72 8
/-- LPB. -/
def icuLpb (d : List Byte) : Nat := leAt d 94 2
/-- BARD of plane `k`. -/
def icuBard (d : List Byte) (k : Nat) : Nat := leAt d (96 + 4 * k) 4
/-- CH of plane `k`. -/
def icuCh (d : List Byte) (k : Nat) : Nat := leAt d (128 + k) 1
/-- ISO of plane `k`. -/
def icuIso (d : List Byte) (k : Nat) : Nat := leAt d (136 + k) 1

/-- A stream entry (R285). -/
structure StreamEntry where
  group : Nat
  port : Nat
  srcIp : Nat
  xoff : Nat
  npix : Nat
  bid0 : Nat
  ext : Bool
  deriving DecidableEq, Repr

/-- Stream entry `i`. -/
def icuStream (d : List Byte) (i : Nat) : StreamEntry :=
  let g (o n : Nat) := leAt d (160 + 32 * i + o) n
  { group := g 0 1 % 16, port := g 2 2, srcIp := g 4 4, xoff := g 8 2, npix := g 10 2, bid0 := g 16 8,
    ext := g 24 1 % 2 == 1 }

/-- The stream entries. -/
def icuStreams (d : List Byte) : List StreamEntry := (List.range (icuNstr d)).map (icuStream d)

/-- The lane of an Ethernet lane group (R25). -/
def ethLane (g : Nat) : Nat := 12 * (g / 2) + 4 * (g % 2)
/-- The group is present and in Ethernet mode (R24, R25). -/
def State.ethMode (s : State) (g : Nat) : Bool := decide (g < s.variant.eth) && s.laneMode (ethLane g) == 3

/-- A stream entry is valid (R285, R287). -/
def streamValid (s : State) (d : List Byte) (i : Nat) : Bool :=
  let b := 160 + 32 * i
  let x := icuStream d i
  decide (leAt d b 1 < 16) && zeros d (b + 1) 1 && decide (1 ≤ x.port) && decide (1 ≤ x.npix) && zeros d (b + 12) 4 &&
  decide (leAt d (b + 24) 1 ≤ 1) && zeros d (b + 25) 7 && s.ethMode x.group

/-- Engine `e` shadows engine `f` now, or the other way round (R266, R308). -/
def State.shadowPair (s : State) (e f : Nat) : Bool :=
  s.fld Reg.SNP_SPR_STATUS 2 0 == 1 &&
  ((s.shadow e && s.fld Reg.SNP_SPR_STATUS 5 3 == f) || (s.shadow f && s.fld Reg.SNP_SPR_STATUS 5 3 == e))

/-- The ICU work in progress of an engine. DEDUCED (log 49). -/
def State.icuWork (s : State) (e : Nat) : Option Work :=
  match s.front e 5 with
  | some w => if w.started then some w else none
  | none => none

/-- Another engine's work in progress claims a pair of group and port of this descriptor (R266). -/
def claimCollides (s : State) (e : Nat) (d : List Byte) : Bool :=
  (List.range s.variant.engines).any (fun f => f != e && !s.shadowPair e f &&
    (match s.icuWork f with
     | some w => (icuStreams w.desc).any (fun a => (icuStreams d).any (fun b => a.group == b.group && a.port == b.port))
     | none => false))

/-- The descriptor is valid (R285, R287). -/
def icuValid (s : State) (e : Nat) (w : Work) : Bool :=
  let d := w.desc
  let n := icuInks d
  let m := icuNstr d
  let tab := n * icuNnoz d
  decide (10 + 2 * m ≤ leAt d 2 1) && decide (1 ≤ n) && decide (n ≤ 8) && decide (1 ≤ m) && decide (m ≤ 4) &&
  decide (leAt d 5 1 < 4) && decide (1 ≤ icuPels d) && decide (1 ≤ icuNnoz d) &&
  (icuWin d == 0 || (decide (16 ≤ icuWin d) && decide (icuWin d ≤ 1024))) &&
  decide (1 ≤ leAt d 12 4) && leAt d 16 4 % 256 == 0 && decide (n * dstride (icuPels d) ≤ leAt d 16 4) &&
  leAt d 40 8 % 8 == 0 && leAt d 48 8 % 64 == 0 && icuState d % 256 == 0 && leAt d 64 8 % 16 == 0 &&
  icuProp d % 16 == 0 && decide (leAt d 84 2 ≤ 1024) && decide (1 ≤ icuLpb d) &&
  (List.range 8).all (fun k => decide (icuCh d k ≤ 2) && (icuRgb d || icuCh d k == 0)) && zeros d 144 16 &&
  (List.range m).all (streamValid s d) &&
  useOf d 0 == 1 && useOf d 1 == 2 && useOf d 2 == 2 && useOf d 3 == 1 && dLoc (w.slot 1) && dLoc (w.slot 2) &&
  !claimCollides s e d && inSlot (w.slot 1) (leAt d 40 8) (8 * tab) &&
  inSlot (w.slot 2) (icuState d) (64 + 24 * tab) && inSlot (w.slot 2) (leAt d 64 8) 1728 &&
  inSlot (w.slot 2) (icuProp d) (16 + 32 * leAt d 80 4) && inSlot (w.slot 3) (leAt d 48 8) 64

/-! ### The state in slot 2 (R286) -/

/-- Where EFROM of nozzle `n` of plane `k` lies in slot 2. -/
def efromAt (d : List Byte) (k n : Nat) : Nat := icuState d + 64 + 8 * (k * icuNnoz d + n)
/-- Where bank `b` of nozzle `n` of plane `k` lies in slot 2. -/
def bankAt (d : List Byte) (b k n : Nat) : Nat :=
  icuState d + 64 + 8 * icuInks d * icuNnoz d * (1 + b) + 8 * (k * icuNnoz d + n)

/-- Bank `b` is cleared. -/
def clearBank (s : State) (w : Work) (b : Nat) : Except WorkStatus State :=
  slotWrite s w.seat (w.slot 2) (bankAt w.desc b 0 0) (List.replicate (8 * icuInks w.desc * icuNnoz w.desc) 0)

/-- A stream before its first block. -/
def IcuStream.init : IcuStream :=
  { last := -1, block := 0, row := 0, isOpen := false, lastPid := 0, psize := none, part := [], bad := false, stale := false }

/-- Engine `e`'s ICU changes by `f`. -/
def State.modIcu (s : State) (e : Nat) (f : IcuRun → IcuRun) : State :=
  s.setEng e { s.eng e with icu := f (s.eng e).icu }

/-- ADJ as written, s16 lines (R289). -/
def State.icuAdj (s : State) (e : Nat) : Int := sint 16 (s.fld (Reg.SEn_ICU_ADJ e) 15 0)

/-- ICU_WORK_START (R286 to R288): the checks, the claim, and fresh evidence where the state does not continue. -/
def execIcuWorkStart (e : Nat) (s : State) : Host.Outcome State Fault Refusal :=
  .next (match s.front e 5 with
    | some w =>
      if w.started then s
      else if !icuValid s e w then completeWork s e 5 .desc 0
      else
        let d := w.desc
        let tab := icuInks d * icuNnoz d
        let r : Except WorkStatus State :=
          match slotRead s w.seat (w.slot 2) (icuState d) 8 with
          | .error st => .error st
          | .ok hdr =>
            if !icuFresh d && leNat hdr == icuFirst d then .ok s
            else slotWrite s w.seat (w.slot 2) (icuState d + 64) (List.replicate (24 * tab) 0)
        match r with
        | .error st => completeWork s e 5 st 0
        | .ok s =>
          let s := (modWork s e 5 (fun w => { w with started := true })).setBit (Reg.SEn_ICU_STATUS e) 0 true
          s.modIcu e (fun r => { r with streams := List.replicate (icuNstr d) IcuStream.init, rows := [], adj := s.icuAdj e,
                                        floor := icuFirst d, due := none, evaluating := false, cancel := false })
    | none => s)

/-- The ICU work in progress ends. -/
def icuEnd (s : State) (e : Nat) (st : WorkStatus) (done : Nat) : State :=
  let s := endWork s e 5 st done (Reg.SEn_ICU_STATUS e)
  let s := s.modIcu e (fun r => { r with streams := [], rows := [], due := none, evaluating := false, cancel := false })
  engineCalm (s.setBit (Reg.SEn_ICU_STATUS e) 1 false) e

/-- CANCEL (R288): the work in progress ends after any running evaluation, and every queued one with it. -/
def icuCancelNow (s : State) (e : Nat) : State :=
  let s := match s.icuWork e with
    | some w => icuEnd s e .cancelled w.done
    | none => s
  s.each (s.queue e 5) (fun s _ => completeWork s e 5 .cancelled 0)

/-- A write of 1 to SEn_ICU_CMD.CANCEL. -/
def icuCancel (s : State) (e : Nat) : State :=
  if (s.eng e).icu.evaluating then s.modIcu e (fun r => { r with cancel := true }) else icuCancelNow s e

/-- ICU_CANCEL (R288). -/
def execIcuCancel (e : Nat) (s : State) : Host.Outcome State Fault Refusal := .next (icuCancel s e)

/-- ICU_ADJ_WRITE: the value waits for the next window boundary (R271). -/
def execIcuAdjWrite (e : Nat) (value : W32) (s : State) : Host.Outcome State Fault Refusal :=
  .next (s.setFld (Reg.SEn_ICU_ADJ e) 15 0 (fbits value 15 0))

/-! ### Camera streams (R265 to R270) -/

/-- The line row `r` of block step `b` shows, before ADJ (R270). -/
def rawLine (d : List Byte) (b : Int) (r : Nat) : Int := (leAt d 32 8 : Nat) + b * (icuLpb d : Nat) + r

/-- A complete row of stream `i` is kept for its line, or discarded (R269 to R271). -/
def deliverRow (s : State) (e i : Nat) (w : Work) (b : Int) (r : Nat) (bytes : List Byte) : State :=
  let run := (s.eng e).icu
  let y := rawLine w.desc b r + run.adj
  let s := s.modIcu e (fun q => { q with streams := q.streams.modify i (fun x => { x with stale := false }) })
  let s := engineCalm s e
  if y < (icuFirst w.desc : Nat) || y < (run.floor : Nat) then s
  else if y < (icuFirst w.desc + w.done : Nat) then s.count (Reg.SEn_ICU_PKTDROP e) 1
  else s.modIcu e (fun q => { q with rows := q.rows ++ [(i, y.toNat, bytes)] })

/-- Stream `i` of engine `e`'s ICU. -/
def State.icuStr (s : State) (e i : Nat) : IcuStream := ((s.eng e).icu.streams[i]?).getD IcuStream.init
/-- Stream `i` becomes `x`. -/
def State.setIcuStr (s : State) (e i : Nat) (x : IcuStream) : State :=
  s.modIcu e (fun q => { q with streams := q.streams.set i x })

/-- Payload bytes of a block taken in order, `none` for a byte not delivered: each row is complete or lost (R267). -/
def feedRow (e i : Nat) (w : Work) (len : Nat) : List (Option Byte) → State → State
  | [], s => s
  | b :: bs, s =>
    let x := s.icuStr e i
    if icuLpb w.desc ≤ x.row then s
    else
      let x := match b with
        | some v => { x with part := x.part ++ [v] }
        | none => { x with part := x.part ++ [0], bad := true }
      if x.part.length < len then feedRow e i w len bs (s.setIcuStr e i x)
      else
        let s := s.setIcuStr e i { x with part := [], bad := false, row := x.row + 1 }
        feedRow e i w len bs (if x.bad then s else deliverRow s e i w x.block x.row x.part)

/-- The step from BID0 a block ID stands at, if it lies forward of the last accepted block (R268). -/
def blockStep (x : StreamEntry) (last : Int) (bid : Nat) : Option Int :=
  if x.ext then
    let dist : Int := (bid : Int) - ((x.bid0 : Int) + last)
    if 1 ≤ dist ∧ dist < 2 ^ 63 then some (last + dist) else none
  else if bid = 0 ∨ 65535 < bid then none
  else
    let dist := ((bid : Int) - 1 - ((x.bid0 : Int) - 1 + last)) % 65535
    if 1 ≤ dist ∧ dist ≤ 32767 then some (last + dist) else none

/-- The block ID of the open block. -/
def blockId (x : StreamEntry) (step : Int) : Nat :=
  if x.ext then ((x.bid0 : Int) + step).toNat else (((x.bid0 : Int) - 1 + step) % 65535).toNat + 1

/-- A discarded packet is counted (R265). DEDUCED (log 48). -/
def packetDrop (s : State) (e : Nat) : State := s.count (Reg.SEn_ICU_PKTDROP e) 1

/-- A leader: the block is accepted, or discarded (R267, R268). PRESUMED (log 47). -/
def icuLeader (s : State) (e i : Nat) (w : Work) (n : StreamEntry) (bid pid ptype fmt sx sy px : Nat) : State :=
  let x := s.icuStr e i
  match blockStep n x.last bid with
  | none => s.count (Reg.SEn_ICU_BLKERR e) 1
  | some b =>
    let fits := ptype == 1 && fmt == (if icuRgb w.desc then 0x02180014 else 0x01080001) && sx == n.npix &&
      sy == icuLpb w.desc && px == 0
    if fits then
      s.setIcuStr e i { x with last := b, block := b, row := 0, isOpen := true, lastPid := pid, psize := none, part := [],
                               bad := false }
    else
      (s.setIcuStr e i { x with block := b, row := icuLpb w.desc, isOpen := false, part := [], bad := false }).count
        (Reg.SEn_ICU_BLKERR e) 1

/-- A payload packet of the open block (R267, R269). Its place in the block follows from its packet ID and the size of the
    block's payload packets. PRESUMED (log 47). -/
def icuPayload (s : State) (e i : Nat) (w : Work) (n : StreamEntry) (bid pid : Nat) (bytes : List Byte) : State :=
  let x := s.icuStr e i
  let full := decide (32 ≤ (((s.eng e).icu.rows).filter (fun r => r.1 == i)).length)
  let len := n.npix * icuBpp w.desc
  let p := x.psize.getD bytes.length
  let off := (pid - 1) * p
  let pos := x.row * len + x.part.length
  if !x.isOpen || blockId n x.block != bid || decide (pid ≤ x.lastPid) || full || decide (off < pos) then packetDrop s e
  else
    let s := s.setIcuStr e i { x with lastPid := pid, psize := some p }
    feedRow e i w len (List.replicate (off - pos) none ++ bytes.map some) s

/-- A trailer: the block is closed, and rows at and above SIZE_Y are lost (R267). -/
def icuTrailer (s : State) (e i : Nat) (w : Work) (n : StreamEntry) (bid pid sizeY : Nat) : State :=
  let x := s.icuStr e i
  if !x.isOpen || blockId n x.block != bid || decide (pid ≤ x.lastPid) then packetDrop s e
  else
    let cut := rawLine w.desc x.block sizeY + (s.eng e).icu.adj
    let fin := rawLine w.desc x.block (icuLpb w.desc) + (s.eng e).icu.adj
    let s := s.setIcuStr e i { x with isOpen := false, row := icuLpb w.desc, part := [], bad := false, lastPid := pid }
    s.modIcu e (fun q => { q with rows := q.rows.filter (fun r =>
      !(r.1 == i && decide (cut ≤ (r.2.1 : Int)) && decide ((r.2.1 : Int) < fin))) })

/-- A packet for stream entry `i` of a work in progress. PRESUMED (log 47). -/
def icuPacket (s : State) (e i : Nat) (w : Work) (g : GvspDatagram) : State :=
  let n := icuStream w.desc i
  if !g.sound || g.status != 0 || g.ext != n.ext then packetDrop s e
  else match g.body with
    | .other => packetDrop s e
    | .leader pt f sx sy px => icuLeader s e i w n g.block g.packet pt f sx sy px
    | .payload bs => icuPayload s e i w n g.block g.packet bs
    | .trailer sy => icuTrailer s e i w n g.block g.packet sy

/-- The stream entry of engine `e`'s work a datagram belongs to (R266). -/
def icuMatch (s : State) (e group : Nat) (g : GvspDatagram) : Option (Work × Nat) :=
  match s.icuWork e with
  | none => none
  | some w =>
    ((icuStreams w.desc).findIdx? (fun x => x.group == group && x.port == g.port &&
      (x.srcIp == 0 || x.srcIp == g.srcIp.toNat))).map (fun i => (w, i))

/-- GVSP_PACKET: the datagram goes to every ICU whose work claims it, the shadow's duplicate included (R266, R308); one
    that matches no claim counts in NOCLAIM (R362). -/
def execGvspPacket (group : Nat) (d : GvspDatagram) (s : State) : Host.Outcome State Fault Refusal :=
  .next (if !s.ethMode group || !s.islandUp (14 + ethLane group / 12) then s
    else
      let dest := (List.range s.variant.engines).filterMap (fun e => (icuMatch s e group d).map (fun p => (e, p.1, p.2)))
      match dest with
      | [] => s.count (Reg.ETHg_NOCLAIM group) 1
      | _ => s.each dest (fun s x => icuPacket s x.1 x.2.2 x.2.1 d))

/-- ICU_STREAM_STALE: 50 ms without a complete row (R289, R290). -/
def execIcuStreamStale (e : Nat) (stream : Nat) (s : State) : Host.Outcome State Fault Refusal :=
  .next (match s.icuWork e with
    | none => s
    | some w =>
      if icuNstr w.desc ≤ stream then s
      else
        let s := s.setIcuStr e stream { s.icuStr e stream with stale := true }
        raise (s.setBit (Reg.SEn_ICU_STATUS e) 4 true) e 0 true)

/-! ### The model of a line (R274 to R276) -/

/-- A plane of a compared line: its entries, its codes, the intended code at each pel, and whether it is excluded. -/
structure PlaneModel where
  zs : List Nozzle
  out : List Nat
  q : List Nat
  excluded : Bool
  deriving DecidableEq, Repr

/-- q_k at every pel (R274). -/
def intended (pels : Nat) (zs : List Nozzle) (out : List Nat) : List Nat :=
  (zs.zip out).foldl (fun q z =>
    if z.1.pcol < pels then q.modify z.1.pcol (fun v => max v z.2) else q) (List.replicate pels 0)

/-- The planes of screened line `y`; a line below 0 is empty (R274, R275). -/
def icuPlanes (s : State) (e : Nat) (w : Work) (y : Int) : Except WorkStatus (List PlaneModel) :=
  let d := w.desc
  (List.range (icuInks d)).mapM (fun k =>
    match nozzleTable s w.seat (w.slot 1) (leAt d 40 8) (icuNnoz d) k with
    | .error st => .error st
    | .ok zs =>
      let src := if y < 0 then Except.ok none
        else screenedPlane s w.seat (w.slot 0) y.toNat 0 (leAt d 12 4) (leAt d 16 4) (icuPels d) k
      match src with
      | .error st => .error st
      | .ok src =>
        let y' := (y + (icuBard d k : Nat)).toNat
        let out := (nozzlePlane (icuPels d) y' k (leAt d 20 4) zs src).1
        .ok { zs := zs, out := out, q := intended (icuPels d) zs out,
              excluded := (s.eng e).icu.ranges.any (fun r => decide (r.1 ≤ y') && decide (y' ≤ r.2)) })

/-- E_c at pel `x` (R276): `m` is the model block. -/
def expectedAt (m : List Byte) (ps : List PlaneModel) (c x : Nat) : Nat :=
  min 65535 (ps.zipIdx.foldl (fun a p =>
    if p.1.excluded then a else a + leAt m (1536 + 24 * p.2 + 8 * c + 2 * (p.1.q[x]?).getD 0) 2) 0)

/-- d_c at pel `x` from the complete parts of the line, lowest stream first; none where no part shows it (R270, R276). -/
def observedAt (d m : List Byte) (parts : List (Nat × List Byte)) (c x : Nat) : Option Nat :=
  (List.range (icuNstr d)).findSome? (fun i =>
    let n := icuStream d i
    if n.xoff ≤ x ∧ x < n.xoff + n.npix then
      (parts.find? (fun p => p.1 == i)).map (fun p =>
        leAt m (512 * c + 2 * ((p.2[(x - n.xoff) * icuBpp d + c]?).getD 0).toNat) 2)
    else none)

/-! ### Comparison (R269, R273, R277, R278) -/

/-- Evidence of one nozzle: SUMR and NFIRE of bank `b` take residual `r` (R277). -/
def addEvidence (s : State) (w : Work) (b k n : Nat) (r : Int) : Except WorkStatus State :=
  match slotRead s w.seat (w.slot 2) (bankAt w.desc b k n) 8 with
  | .error st => .error st
  | .ok bs =>
    slotWrite s w.seat (w.slot 2) (bankAt w.desc b k n)
      (leBytes 4 (uint 32 (sint 32 (leAt bs 0 4) + r)) ++ leBytes 2 (leAt bs 4 2 + 1) ++ [0, 0])

/-- Evidence of plane `k` from a line (R277). -/
def planeEvidence (s : State) (e : Nat) (w : Work) (m : List Byte) (parts : List (Nat × List Byte))
    (ps : List PlaneModel) (y b k : Nat) (p : PlaneModel) : Except WorkStatus State :=
  let d := w.desc
  let c := icuCh d k
  if p.excluded || decide (y < (s.eng e).icu.discardTo) then .ok s
  else
    ((p.zs.zip p.out).zipIdx).foldlM (fun s z =>
      let x := z.1.1.pcol
      let empty := ps.zipIdx.all (fun j => !hasBit (icuIso d k) j.2 || (j.1.q[x]?).getD 0 == 0)
      if z.1.2 = 0 || decide (icuPels d ≤ x) || !empty then .ok s
      else match observedAt d m parts c x with
        | none => .ok s
        | some o =>
          match slotRead s w.seat (w.slot 2) (efromAt d k z.2) 8 with
          | .error st => .error st
          | .ok ef =>
            if y + icuBard d k < leNat ef then .ok s
            else addEvidence s w b k z.2 ((o : Int) - (expectedAt m ps c x : Nat))) s

/-- Evidence of all planes. -/
def lineEvidence (s : State) (e : Nat) (w : Work) (m : List Byte) (parts : List (Nat × List Byte))
    (ps : List PlaneModel) (y : Nat) : Except WorkStatus State :=
  if icuWin w.desc = 0 then .ok s
  else
    let b := ((y - icuFirst w.desc) / icuWin w.desc) % 2
    ps.zipIdx.foldlM (fun s p => planeEvidence s e w m parts ps y b p.2 p.1) s

/-- The score a line adds at offset `o` (R273). -/
def lockScore (s : State) (e : Nat) (w : Work) (m : List Byte) (parts : List (Nat × List Byte)) (y : Nat) (o : Int) :
    Except WorkStatus Nat :=
  let d := w.desc
  match icuPlanes s e w ((y : Int) + o) with
  | .error st => .error st
  | .ok ps =>
    .ok ((List.range ((icuPels d + 15) / 16)).foldl (fun a i =>
      (List.range (icuBpp d)).foldl (fun a c =>
        match observedAt d m parts c (16 * i) with
        | some v => a + ((v : Int) - (expectedAt m ps c (16 * i) : Nat)).natAbs
        | none => a) a) 0)

/-- The line lock takes a compared line without lost parts (R273). -/
def lockLine (s : State) (e : Nat) (w : Work) (m : List Byte) (parts : List (Nat × List Byte)) (y : Nat) :
    Except WorkStatus State :=
  match (s.eng e).icu.lock with
  | none => .ok s
  | some l =>
    if l.left = 0 then .ok s
    else match (l.scores.zipIdx).mapM (fun v =>
        match lockScore s e w m parts y ((v.2 : Int) - l.range) with
        | .ok x => Except.ok (v.1 + x)
        | .error st => .error st) with
      | .error st => .error st
      | .ok sc => .ok (s.modIcu e (fun q => { q with lock := some { l with left := l.left - 1, scores := sc } }))

/-- The end of a window (R271, R278): the new ADJ, the bank to evaluate and the bank to clear. -/
def windowEnd (s : State) (e : Nat) (w : Work) (wn : Nat) : Except WorkStatus State :=
  let run := (s.eng e).icu
  let adj := s.icuAdj e
  let bound := icuFirst w.desc + (wn + 1) * icuWin w.desc
  let rows := run.rows.filterMap (fun r =>
    let y := (r.2.1 : Int) + (adj - run.adj)
    if y < (bound : Nat) then none else some (r.1, y.toNat, r.2.2))
  let s := s.modIcu e (fun q => { q with adj := adj, floor := bound, rows := rows })
  if run.evaluating then
    match clearBank s w (wn % 2) with
    | .ok s => .ok (s.count (Reg.SEn_ICU_EVSKIP e) 1)
    | .error st => .error st
  else
    match clearBank s w ((wn + 1) % 2) with
    | .ok s => .ok ((s.modIcu e (fun q => { q with due := some wn, evaluating := true })).setBit (Reg.SEn_ICU_STATUS e) 1 true)
    | .error st => .error st

/-- Everything comparing line `y` does before the work moves on. -/
def compareLine (s : State) (e : Nat) (w : Work) (y : Nat) : Except WorkStatus State :=
  let d := w.desc
  let run := (s.eng e).icu
  let parts := (run.rows.filter (fun r => r.2.1 == y)).map (fun r => (r.1, r.2.2))
  let lost := (List.range (icuNstr d)).any (fun i => !(parts.any (fun p => p.1 == i)))
  match slotRead s w.seat (w.slot 2) (leAt d 64 8) 1728 with
  | .error st => .error st
  | .ok m =>
    match icuPlanes s e w y with
    | .error st => .error st
    | .ok ps =>
      match lineEvidence s e w m parts ps y with
      | .error st => .error st
      | .ok s =>
        match (if lost then .ok (s.count (Reg.SEn_ICU_LOSTLINE e) 1) else lockLine s e w m parts y) with
        | .error st => .error st
        | .ok s =>
          let s := s.setReg64 (Reg.SEn_ICU_LINE_LO e) (BitVec.ofNat 64 y)
          let s := s.modIcu e (fun q => { q with rows := q.rows.filter (fun r => decide (y < r.2.1)) })
          let s := if (s.eng e).icu.discardTo ≤ y + 1 then s.setBit (Reg.SEn_ICU_STATUS e) 5 false else s
          match slotWrite s w.seat (w.slot 2) (icuState d) (leBytes 8 (y + 1)) with
          | .error st => .error st
          | .ok s =>
            let n := y + 1 - icuFirst d
            if icuWin d ≠ 0 ∧ n % icuWin d = 0 then windowEnd s e w (n / icuWin d - 1) else .ok s

/-- The next line is compared, and the work ends with its last line once no evaluation runs (R269, R288).
    DEDUCED (log 49). -/
def icuNextLine (s : State) (e : Nat) (w : Work) : State :=
  match compareLine s e w (icuFirst w.desc + w.done) with
  | .error st => icuEnd s e st w.done
  | .ok s =>
    let s := modWork s e 5 (fun w => { w with done := w.done + 1 })
    if w.done + 1 = w.count && !(s.eng e).icu.evaluating then icuEnd s e .ok w.count else s

/-- A stream's part of line `y` is complete or lost (R267 to R269). -/
def partDecided (s : State) (e i : Nat) (w : Work) (y : Nat) : Bool :=
  let x := s.icuStr e i
  (s.eng e).icu.rows.any (fun r => r.1 == i && r.2.1 == y) ||
  decide ((y : Int) < rawLine w.desc x.block x.row + (s.eng e).icu.adj)

/-- ICU_LINE_COMPARE: every stream's part of the next line is complete or lost (R269). -/
def execIcuLineCompare (e : Nat) (s : State) : Host.Outcome State Fault Refusal :=
  .next (match s.icuWork e with
    | some w =>
      if decide (w.done < w.count) && (List.range (icuNstr w.desc)).all (fun i =>
          partDecided s e i w (icuFirst w.desc + w.done)) then icuNextLine s e w else s
    | none => s)

/-- ICU_LINE_TIMEOUT: 2 ms after its first part, the line is compared with its missing parts lost (R269). -/
def execIcuLineTimeout (e : Nat) (s : State) : Host.Outcome State Fault Refusal :=
  .next (match s.icuWork e with
    | some w =>
      if decide (w.done < w.count) && (s.eng e).icu.rows.any (fun r => r.2.1 == icuFirst w.desc + w.done)
      then icuNextLine s e w else s
    | none => s)

/-! ### Line lock (R273) -/

/-- A write of 1 to SEn_ICU_CMD.LOCK. -/
def icuLock (s : State) (e : Nat) : State :=
  match (s.eng e).icu.lock with
  | some _ => s
  | none =>
    let l := s.fld (Reg.SEn_ICU_LOCKCFG e) 6 0
    let s := s.modIcu e (fun q => { q with lock := some { left := 256, range := l, scores := List.replicate (2 * l + 1) 0 } })
    (s.setBit (Reg.SEn_ICU_STATUS e) 2 true).setBit (Reg.SEn_ICU_LOCKRES e) 8 false

/-- ICU_LOCK (R273). -/
def execIcuLock (e : Nat) (s : State) : Host.Outcome State Fault Refusal := .next (icuLock s e)

/-- Offset `a` with its score is better than `b`: smaller score, then smaller magnitude, then negative (R273). -/
def lockBetter (a b : Int × Nat) : Bool :=
  decide (a.2 < b.2) || (a.2 == b.2 && (decide (a.1.natAbs < b.1.natAbs) ||
    (a.1.natAbs == b.1.natAbs && decide (a.1 < b.1))))

/-- ICU_LOCK_DONE: the search reports its best offset and score (R273). -/
def execIcuLockDone (e : Nat) (s : State) : Host.Outcome State Fault Refusal :=
  .next (match (s.eng e).icu.lock with
    | some l =>
      if l.left ≠ 0 then s
      else
        let sc := l.scores.zipIdx.map (fun v => ((v.2 : Int) - (l.range : Nat), v.1))
        let best := sc.foldl (fun b a => if lockBetter a b then a else b) (sc.headD (0, 0))
        let s := s.setReg (Reg.SEn_ICU_LOCKRES e) (BitVec.ofNat 32 (uint 8 best.1 + 256))
        let s := s.setReg64 (Reg.SEn_ICU_LOCKSCORE_LO e) (BitVec.ofNat 64 best.2)
        (s.setBit (Reg.SEn_ICU_STATUS e) 2 false).modIcu e (fun q => { q with lock := none })
    | none => s)

/-! ### Evaluation (R279 to R282) -/

/-- The entry is in ICU form: BASE fields 1, 2, 3, and equal DOWN and PROB fields. -/
def icuForm (e : Nat) : Bool :=
  match (nozzleOf e).maps with
  | [a, b, c] => a % 4 == 1 && b % 4 == 2 && c % 4 == 3 && a / 4 % 2 == b / 4 % 2 && b / 4 % 2 == c / 4 % 2 &&
      a / 16 == b / 16 && b / 16 == c / 16
  | _ => false

/-- What an evaluation of one nozzle finds. -/
structure Change where
  k : Nat
  n : Nat
  nf : Nat
  mean : Int
  old : Nat
  new : Nat
  foreign : Bool
  deriving DecidableEq, Repr

/-- The bias of an entry in ICU form, and the entry with a new one (R279). -/
def entryBias (e : Nat) : Int :=
  let m := e / 2 ^ 28 % 4096
  if m / 4 % 2 = 1 then -(m / 16 % 256 : Nat) else (m / 16 % 256 : Nat)
/-- The entry with bias `b` in its three MAP fields. -/
def withBias (e : Nat) (b : Int) : Nat :=
  let f (base : Nat) := base + 4 * b2n (decide (b < 0)) + 16 * b.natAbs
  e % 2 ^ 28 + f 1 * 2 ^ 28 + f 2 * 2 ^ 40 + f 3 * 2 ^ 52

/-- The evaluation of one nozzle (R279): its change or FOREIGN, if any. DEDUCED (log 49). -/
def evaluate (d : List Byte) (k n : Nat) (sum : Int) (nf old : Nat) : Option Change :=
  let minf := leAt d 84 2
  let mt := leAt d 88 2
  let dead := leAt d 90 2
  let kg := leAt d 92 2
  if minf = 0 ∨ nf < minf then none
  else
    let mean := Int.tdiv sum (nf : Int)
    let c (new : Nat) (f : Bool) : Option Change :=
      if new = old ∧ !f then none else some { k := k, n := n, nf := nf, mean := mean, old := old, new := new, foreign := f }
    if !(nozzleOf old).missing && decide (0 < mt) && decide (mean ≤ -(mt : Int)) then c (old + 2 ^ 16) false
    else if 0 < kg ∧ dead < mean.natAbs then
      if icuForm old then c (withBias old (clampInt (-255) 255 (entryBias old - mean * (kg : Int) / 65536))) false
      else c old true
    else none

/-- A proposal record (R282). -/
def proposal (s : State) (w : Work) (c : Change) (flags : Nat) : Except WorkStatus State :=
  let d := w.desc
  match slotRead s w.seat (w.slot 2) (icuProp d) 8 with
  | .error st => .error st
  | .ok bs =>
    let m := leNat bs
    let pn := leAt d 80 4
    let fl := flags + 8 * b2n c.foreign + 16 * b2n (c.new / 2 ^ 16 % 2 == 1 && c.old / 2 ^ 16 % 2 == 0)
    let body := leBytes 2 c.n ++ leBytes 1 c.k ++ leBytes 1 fl ++ leBytes 2 c.nf ++ [0, 0] ++
      leBytes 4 (uint 32 c.mean) ++ leBytes 4 s.ringTime.toNat ++ leBytes 8 c.old ++ leBytes 8 c.new
    match (if pn = 0 then Except.ok s else slotWrite s w.seat (w.slot 2) (icuProp d + 16 + 32 * (m % pn)) body) with
    | .error st => .error st
    | .ok s => slotWrite s w.seat (w.slot 2) (icuProp d) (leBytes 8 (m + 1))

/-- A change is only recorded; a shadowing ICU writes no record (R308). -/
def recordChange (s : State) (e : Nat) (w : Work) (c : Change) (flags : Nat) : Except WorkStatus State :=
  if s.shadow e then .ok s else proposal s w c flags

/-- A change written by compare-and-swap, its EFROM, and its record (R280). DEDUCED (log 49). -/
def casChange (s : State) (e : Nat) (w : Work) (c : Change) : Except WorkStatus State :=
  let d := w.desc
  let at' := leAt d 40 8 + 8 * (c.k * icuNnoz d + c.n)
  match slotRead s w.seat (w.slot 1) at' 8 with
  | .error st => .error st
  | .ok bs =>
    let hit := leNat bs == c.old
    match (if hit then slotWrite s w.seat (w.slot 1) at' (leBytes 8 c.new) else .ok s) with
    | .error st => .error st
    | .ok s =>
      let s := if hit then s.count (Reg.SEn_ICU_CHG e) 1 else s.count (Reg.SEn_ICU_CONFLICT e) 1
      match slotRead s w.seat (w.slot 3) (leAt d 48 8) 8 with
      | .error st => .error st
      | .ok wl =>
        match slotWrite s w.seat (w.slot 2) (efromAt d c.k c.n) (leBytes 8 (leNat wl + 2)) with
        | .error st => .error st
        | .ok s =>
          match slotWrite s w.seat (w.slot 2) (bankAt d 0 c.k c.n) (leBytes 8 0) with
          | .error st => .error st
          | .ok s =>
            match slotWrite s w.seat (w.slot 2) (bankAt d 1 c.k c.n) (leBytes 8 0) with
            | .error st => .error st
            | .ok s => recordChange s e w c (if hit then 1 else 4)

/-- The evaluation of every nozzle of bank `b`, in plane and nozzle order (R279). -/
def evaluateBank (s : State) (w : Work) (b : Nat) : Except WorkStatus (List Change) :=
  let d := w.desc
  match (List.range (icuInks d)).mapM (fun k =>
      match slotRead s w.seat (w.slot 2) (bankAt d b k 0) (8 * icuNnoz d),
            slotRead s w.seat (w.slot 1) (leAt d 40 8 + 8 * k * icuNnoz d) (8 * icuNnoz d) with
      | .ok ev, .ok tab => Except.ok ((List.range (icuNnoz d)).filterMap (fun n =>
          evaluate d k n (sint 32 (leAt ev (8 * n) 4)) (leAt ev (8 * n + 4) 2) (leAt tab (8 * n) 8)))
      | .error st, _ => .error st
      | _, .error st => .error st) with
  | .ok l => .ok l.flatten
  | .error st => .error st

/-- Entries other agents store between the evaluation's reads and its compare-and-swaps. -/
def otherStores (s : State) (w : Work) (stores : List (Nat × Nat × W64)) : State :=
  s.each stores (fun s x =>
    match slotWrite s w.seat (w.slot 1) (leAt w.desc 40 8 + 8 * (x.1 * icuNnoz w.desc + x.2.1)) (leBytes 8 x.2.2.toNat) with
    | .ok s => s
    | .error _ => s)

/-- What becomes of the changes of one evaluation (R280). -/
def handleChanges (s : State) (e : Nat) (w : Work) (l : List Change) : Except WorkStatus State :=
  let n := (l.filter (fun c => !c.foreign)).length
  if leAt w.desc 86 2 < n then
    match l.foldlM (fun s c => recordChange s e w c (if c.foreign then 0 else 2)) s with
    | .error st => .error st
    | .ok s => .ok (raise (s.setBit (Reg.SEn_ICU_STATUS e) 3 true) e 0 false)
  else l.foldlM (fun s c =>
    if c.foreign || !icuAuto w.desc || s.shadow e then recordChange s e w c 0 else casChange s e w c) s

/-- ICU_EVALUATE: the bank of the ended window is evaluated and its changes handled (R279, R280). -/
def execIcuEvaluate (e : Nat) (stores : List (Nat × Nat × W64)) (s : State) : Host.Outcome State Fault Refusal :=
  .next (match s.icuWork e, (s.eng e).icu.due with
    | some w, some wn =>
      match evaluateBank s w (wn % 2) with
      | .error st => icuEnd s e st w.done
      | .ok l =>
        match handleChanges (otherStores s w stores) e w l with
        | .error st => icuEnd s e st w.done
        | .ok s => s.modIcu e (fun q => { q with due := none })
    | _, _ => s)

/-- ICU_EVALUATION_DONE: EVAL clears, and a work that waited for it ends (R278, R283, R288). -/
def execIcuEvaluationDone (e : Nat) (s : State) : Host.Outcome State Fault Refusal :=
  .next (match s.icuWork e with
    | none => s
    | some w =>
      let run := (s.eng e).icu
      if !run.evaluating || run.due.isSome then s
      else
        let s := (s.count (Reg.SEn_ICU_EVAL e) 1).setBit (Reg.SEn_ICU_STATUS e) 1 false
        let s := s.modIcu e (fun q => { q with evaluating := false, cancel := false })
        if run.cancel then icuCancelNow s e
        else if w.done = w.count then icuEnd s e .ok w.count
        else s)

/-! ### Reports from the EMU (R275) -/

/-- The EMU reports emitter lines `a … b` as blanked or skipped. The last 16 ranges are kept; one that is evicted while its
    last line lies ahead of the comparison for some plane discards whole lines. DEDUCED (log 49). -/
def icuReport (s : State) (e a b : Nat) : State :=
  if !s.variant.icu then s
  else
    let run := (s.eng e).icu
    let joined := match run.ranges.getLast? with
      | some r => if r.2 + 1 = a then run.ranges.dropLast ++ [(r.1, b)] else run.ranges ++ [(a, b)]
      | none => [(a, b)]
    if joined.length ≤ 16 then s.modIcu e (fun q => { q with ranges := joined })
    else
      let gone := joined.headD (0, 0)
      let s := s.modIcu e (fun q => { q with ranges := joined.drop 1 })
      match s.icuWork e with
      | none => s
      | some w =>
        let d := w.desc
        let bards := (List.range (icuInks d)).map (icuBard d)
        let y := icuFirst d + w.done
        if bards.any (fun v => decide (y + v ≤ gone.2)) then
          (s.modIcu e (fun q => { q with discardTo := gone.2 + 1 - bards.foldl min (2 ^ 32) })).setBit
            (Reg.SEn_ICU_STATUS e) 5 true
        else s

end Sys2Proof.Machine
end

