-- ==== Sys2Proof/Machine/Spare.lean ====
section
/-! DEFINITION. The EMU descriptor (R256) and the rotating spare (R305 to R320, R324): roles, shadow runs, hand-off,
self-test, engine failure and takeover. -/

namespace Sys2Proof.Machine

/-! ### The EMU descriptor (R256) -/

/-- WEB. -/
def emuWeb (d : List Byte) : Nat := leAt d 4 1 % 4
/-- NB. -/
def emuNb (d : List Byte) : Nat := leAt d 5 1
/-- ADV. -/
def emuAdv (d : List Byte) : Nat := leAt d 6 1
/-- Planes in the ring. -/
def emuInks (d : List Byte) : Nat := leAt d 7 1 % 16
/-- QUIET. -/
def emuQuiet (d : List Byte) : Bool := leAt d 7 1 / 16 % 2 == 1
/-- ELINE0. -/
def emuEline0 (d : List Byte) : Nat := leAt d 8 8
/-- RSTRIDE. -/
def emuRstride (d : List Byte) : Nat := leAt d 16 4
/-- NNOZ. -/
def emuNnoz (d : List Byte) : Nat := leAt d 20 2
/-- RING. -/
def emuRing (d : List Byte) : Nat := leAt d 24 8
/-- RCB. -/
def emuRcb (d : List Byte) : Nat := leAt d 32 8

/-- A board entry. -/
structure Board where
  lane : Nat
  plane : Nat
  nseg : Nat
  board : Nat
  noz0 : Nat
  nnb : Nat
  fphase : Nat
  deriving DecidableEq, Repr

/-- Board entry `b`. -/
def boardOf (d : List Byte) (b : Nat) : Board :=
  let g (o n : Nat) := leAt d (64 + 16 * b + o) n
  { lane := g 0 1, plane := g 1 1, nseg := g 2 1, board := g 3 1, noz0 := g 4 2, nnb := g 6 2, fphase := g 8 2 }
/-- The boards of a descriptor. -/
def boardsOf (d : List Byte) : List Board := (List.range (emuNb d)).map (boardOf d)

/-- A board entry is valid. -/
def boardValid (s : State) (d : List Byte) (b : Nat) : Bool :=
  let x := boardOf d b
  decide (x.lane < s.variant.lanes) && s.laneMode x.lane == 2 && decide (x.plane < emuInks d) && decide (1 ≤ x.nseg) &&
  decide (x.nseg ≤ 8) && x.nnb % x.nseg == 0 && x.nnb / x.nseg % 64 == 0 && decide (x.nnb / x.nseg ≤ 16256) &&
  decide (x.noz0 + x.nnb ≤ emuNnoz d) && zeros d (64 + 16 * b + 10) 6 &&
  (List.range b).all (fun c => (boardOf d c).lane != x.lane)

/-- The fields of an EMU descriptor are in range, and its lanes are drop-stream links. -/
def emuValid (s : State) (d : List Byte) : Bool :=
  decide (leAt d 4 1 < 4) && decide (1 ≤ emuNb d) && decide (emuNb d ≤ 32) && decide (1 ≤ emuAdv d) &&
  decide (emuAdv d ≤ 63) && decide (1 ≤ emuInks d) && decide (emuInks d ≤ 8) && decide (leAt d 7 1 < 32) &&
  decide (1 ≤ emuNnoz d) && emuRstride d % 256 == 0 && decide (emuInks d * dstride (emuNnoz d) ≤ emuRstride d) &&
  zeros d 22 2 && zeros d 40 24 && decide (4 + emuNb d ≤ leAt d 2 1) && useOf d 0 == 3 && useOf d 1 == 2 &&
  useOf d 2 == 0 && useOf d 3 == 0 && (List.range (emuNb d)).all (boardValid s d)

/-- The 64 bytes of a ring control block through slot 1 (R248). -/
def readRcb (s : State) (seat : Nat) (d1 : Desc) (rcb : Nat) : Except WorkStatus (List Byte) := slotRead s seat d1 rcb 64

/-- DEPTH as a unit takes it: clamped from below, none above 4,096 (R249). -/
def depthOf (rcb : List Byte) : Option (Nat × Bool) :=
  let n := leAt rcb 16 4
  if 4096 < n then none else if n < 64 then some (64, true) else some (n, false)

/-! ### Roles (R305, R324) -/

/-- An engine's role changes; NOSPARE follows. -/
def State.setRole (s : State) (e r : Nat) : State :=
  let s := s.setFld Reg.SNP_SPR_ROLES (4 * e + 2) (4 * e) r
  s.setBit Reg.SNP_SPR_STATUS 6 (!(List.range s.variant.engines).any (fun f => s.role f == 1))

/-- SUSPECT of an engine. -/
def State.suspect (s : State) (e : Nat) : Bool := s.bit Reg.SNP_SPR_ROLES (4 * e + 3)
/-- SUSPECT of an engine becomes `b`. -/
def State.setSuspect (s : State) (e : Nat) (b : Bool) : State := s.setBit Reg.SNP_SPR_ROLES (4 * e + 3) b

/-- The engine that owns swath `w`; 7 for none. -/
def State.swathEngine (s : State) (w : Nat) : Nat := s.fld Reg.SNP_SPR_SWATH (3 * w + 2) (3 * w)
/-- The swath an engine owns. -/
def State.swathOf (s : State) (e : Nat) : Option Nat := (List.range 4).find? (fun w => s.swathEngine w == e)
/-- The owner of swath `w` becomes engine `e`. -/
def State.setSwath (s : State) (w e : Nat) : State := s.setFld Reg.SNP_SPR_SWATH (3 * w + 2) (3 * w) e

/-- PHASE and TARGET. -/
def State.setPhase (s : State) (p t : Nat) : State :=
  (s.setFld Reg.SNP_SPR_STATUS 2 0 p).setFld Reg.SNP_SPR_STATUS 5 3 t
/-- TARGET. -/
def State.sprTarget (s : State) : Nat := s.fld Reg.SNP_SPR_STATUS 5 3
/-- The spare controller changes by `f`. -/
def State.modSpare (s : State) (f : Spare → Spare) : State := { s with spare := f s.spare }

/-- A SPARE record to a domain (R324): EVENT, T, S, swath, line and LOST_LAST. -/
def spareRecord (s : State) (dom event t e w line last : Nat) : State :=
  notify s dom 0x07 (leBytes 1 event ++ leBytes 1 t ++ leBytes 1 e ++ leBytes 1 w ++ [0, 0, 0, 0] ++
    leBytes 8 line ++ leBytes 8 last)
/-- A SPARE record to the press-control domain. -/
def sparePress (s : State) (event t e w line last : Nat) : State :=
  match s.roleDomain 1 with
  | some d => spareRecord s d event t e w line last
  | none => s

/-- Every work of an engine's stage units ends as CANCELLED (R311): the EMU's with the lines passed. -/
def cancelWorks (s : State) (e : Nat) : State :=
  let passed := match (s.eng e).emu with
    | some r => (r.next.foldl min (r.next.headD r.eline0)) - r.eline0
    | none => 0
  let s := s.each (List.range 6) (fun s u =>
    s.each (s.queue e u).zipIdx (fun s w =>
      completeWork s e u .cancelled (if w.2 = 0 then (if u = 4 then passed else w.1.done) else 0)))
  let s := s.setEng e { s.eng e with emu := none, icu := { IcuRun.init with ranges := (s.eng e).icu.ranges } }
  let s := (s.setFld (Reg.SEn_LCU_STATUS e) 1 0 0).setBit (Reg.SEn_SCU_STATUS e) 0 false
  let s := (s.setFld (Reg.SEn_NMU_STATUS e) 1 0 0).setFld (Reg.SEn_ICU_STATUS e) 2 0 0
  (s.setFld (Reg.SEn_EMU_STATUS e) 1 0 0).setBit (Reg.SEn_EMU_STATUS e) 3 false

/-! ### Rotation (R307, R310 to R312) -/

/-- The web of an engine's emission: of its EMU work, or the last one. -/
def State.emuWebOf (s : State) (e : Nat) : Option Nat :=
  match (s.eng e).emu with
  | some r => some (emuWeb r.desc)
  | none => (s.eng e).emuLast.map (fun x => x.1)

/-- The engine comes before `b` as target: SUSPECT first, then the older last hand-off, then the lower number (R307). -/
def targetBefore (s : State) (a b : Nat) : Bool :=
  if s.suspect a != s.suspect b then s.suspect a
  else decide ((sget 0 s.spare.lastHand a).toNat < (sget 0 s.spare.lastHand b).toNat)

/-- The target of a rotation: an ACTIVE engine (R307). -/
def State.rotationTarget (s : State) : Option Nat :=
  ((List.range s.variant.engines).filter (fun e => s.role e == 0)).foldl (fun o e =>
    match o with
    | none => some e
    | some b => if targetBefore s e b then some e else some b) none

/-- The SPARE engine. -/
def State.spareEngine (s : State) : Option Nat := (List.range s.variant.engines).find? (fun e => s.role e == 1)

/-- Engine `e` becomes SHADOW of `t`: PREP carries the last line of the target's newest checkpoint (R307, R308).
    DEDUCED (log 54). -/
def shadowStart (s : State) (e t : Nat) (again : Bool) : State :=
  let s := (s.setRole e 2).setPhase 1 t
  let s := s.setReg Reg.SNP_SPR_COMPARED 0
  let s := s.modSpare (fun p => { p with want := false, retry := false, shadow := e, again := again, handoff := none })
  let s := s.setEng e { s.eng e with lcu := { (s.eng e).lcu with skips := [] } }
  sparePress s 1 t e ((s.swathOf t).getD 7) (s.reg64 (Reg.SEn_SCU_CKLINE_LO t)).toNat 0

/-- A wanted rotation starts, unless no engine is SPARE, the target's web is IDLE or LOST (R307), or background work is
    reduced (R579). -/
def tryRotate (s : State) : State :=
  if !s.spare.want || decide (s.fld Reg.TMP_BFACT 4 0 < 16) then s
  else match s.spareEngine, s.rotationTarget with
    | some e, some t =>
      match s.emuWebOf t with
      | some w => if (s.webPos w).isSome then shadowStart s e t false else s
      | none => s
    | _, _ => s

/-- Rotation is wanted. -/
def wantRotate (s : State) : State := tryRotate (s.modSpare (fun p => { p with want := true }))

/-- The press-control domain and M mode write the spare controller (R324). DEDUCED (log 57). -/
def State.sprAccess (s : State) (who : Requester) : Bool :=
  s.controlAllowed who Reg.SNP_SPR_CMD true && (s.whoM who || s.whoRole who 1)

/-- A write of the spare controller's registers, or a bus error. DEDUCED (log 57). -/
def sprWrite (s : State) (who : Requester) (f : State → State) : State :=
  respond who (if s.sprAccess who then (f s, true) else (s, false))

/-- SPR_ROTATE (R307). -/
def execSprRotate (who : Requester) (s : State) : Host.Outcome State Fault Refusal := .next (sprWrite s who wantRotate)

/-- ROTATION_DUE: PERIOD hours since the last hand-off, a PERIOD of 0 giving none (R307), or 600 s after a shadow run
    timed out (R310). -/
def execRotationDue (s : State) : Host.Outcome State Fault Refusal :=
  .next (if s.fld Reg.SNP_SPR_CFG 7 0 = 0 ∧ !s.spare.retry then s else wantRotate s)

/-- The shadow run ends and its engine is SPARE again; its works end as CANCELLED. DEDUCED (log 54). -/
def shadowEnd (s : State) : State :=
  let e := s.spare.shadow
  (((cancelWorks s e).setRole e 1).setPhase 0 s.sprTarget).modSpare (fun p => { p with handoff := none, again := false })

/-- A shadow run is under way. -/
def State.shadowing (s : State) : Bool := s.fld Reg.SNP_SPR_STATUS 2 0 == 1 && s.shadow s.spare.shadow

/-- ABORT (R305). DEDUCED (log 54). -/
def sprAbort (s : State) : State := if s.shadowing then shadowEnd s else s
/-- SPR_ABORT (R305). -/
def execSprAbort (who : Requester) (s : State) : Host.Outcome State Fault Refusal := .next (sprWrite s who sprAbort)

/-- SHADOW_TIMEOUT (R310). -/
def execShadowTimeout (s : State) : Host.Outcome State Fault Refusal :=
  .next (if s.shadowing && s.spare.handoff.isNone then
      let t := s.sprTarget
      let e := s.spare.shadow
      let s := ((shadowEnd s).setBit Reg.SNP_SPR_STATUS 7 true).modSpare (fun p => { p with retry := true })
      sparePress s 8 t e ((s.swathOf t).getD 7) 0 0
    else s)

/-- The emitter line whose data the target's EMU sends next, ELINE. -/
def State.elineOf (s : State) (e : Nat) : Nat := (s.reg64 (Reg.SEn_EMU_ELINE_LO e)).toNat

/-- A hand-off at line `h` is under way: from it on, the shadow's EMU sends the frames (R311). -/
def handoffAt (s : State) (h : Nat) : State :=
  let e := s.spare.shadow
  let s := (s.modSpare (fun p => { p with handoff := some h })).setReg64 Reg.SNP_SPR_HLINE_LO (BitVec.ofNat 64 h)
  match (s.eng e).emu with
  | some r => s.setEng e { s.eng e with emu := some { r with due := min r.due h } }
  | none => s

/-- The shadow run has succeeded (R310): H is the target's ELINE + 2. The target is no longer SUSPECT. -/
def shadowSuccess (s : State) : State := (handoffAt s (s.elineOf s.sprTarget + 2)).setSuspect s.sprTarget false

/-- An engine is fenced and under self-test (R313). -/
def bistEnter (s : State) (e : Nat) : State := ((fenceIsland s e).setRole e 3).setPhase 2 s.sprTarget

/-- A mismatched line (R312): the first one sends the shadow to its self-test; a second one hands the swath over and marks
    the target SUSPECT. -/
def shadowMismatch (s : State) (y : Nat) : State :=
  let t := s.sprTarget
  let e := s.spare.shadow
  let s := (s.setReg64 Reg.SNP_SPR_MISLINE_LO (BitVec.ofNat 64 y)).setBit Reg.SNP_SPR_STATUS 8 true
  let s := sparePress (raise s 40 0 false) 3 t e ((s.swathOf t).getD 7) 0 0
  if s.spare.again then (handoffAt s (s.elineOf t)).setSuspect t true
  else (bistEnter s e).modSpare (fun p => { p with retest := some e, handoff := none })

/-- Every FIRE of the target below H has been sent, or it emits nothing (R311). DEDUCED (log 54). -/
def handoffReady (s : State) (h : Nat) : Bool :=
  match (s.eng s.sprTarget).emu with
  | some r => r.next.all (fun n => decide (h ≤ n))
  | none => true

/-- HANDOFF: the swath passes to the shadow, the target's works end, and it enters BIST (R311, R313). -/
def execHandoff (s : State) : Host.Outcome State Fault Refusal :=
  .next (match s.spare.handoff with
    | some h =>
      if !s.shadowing || !handoffReady s h then s
      else
        let t := s.sprTarget
        let e := s.spare.shadow
        let w := (s.swathOf t).getD 7
        let s := cancelWorks s t
        let s := if w < 4 then s.setSwath w e else s
        let s := (s.setRole e 0).modSpare (fun p =>
          { p with lastHand := sset 0 p.lastHand e s.ringTime, handoff := none, again := false })
        sparePress (bistEnter s t) 2 t e w h 0
    | none => s)

/-! ### Failure and takeover (R314 to R317, R320) -/

/-- NEXT line of a link's counters, or `d` where the link has carried none (R317, R359). DEDUCED (log 55). -/
def lineAfter (o : Option Nat) (d : Nat) : Nat := match o with | some l => l + 1 | none => d

/-- Engine `e`, in RECOVER, starts the standby descriptor of swath `w` (R317). DEDUCED (log 55). -/
def takeOver (s : State) (e w : Nat) : State :=
  match sget none s.spare.standby w with
  | none => s
  | some b =>
    let seat := 128 * e
    match readRcb s seat b.rcb (emuRcb b.desc) with
    | .error _ => s
    | .ok rcb =>
      match depthOf rcb with
      | none => s
      | some (depth, clamp) =>
        let d := b.desc
        let el := leAt rcb 8 8
        let links := (boardsOf d).map (fun x => s.link (24 + x.lane))
        let nexts := links.map (fun l => lineAfter l.lastFire el)
        let datas := links.map (fun l => lineAfter l.lastData el)
        let pos := ((s.reg64 (Reg.POSn_POS_LO (emuWeb d))).toNat)
        let r : EmuRun := { desc := d, slots := [b.ring, b.rcb, 0, 0], seat := seat, count := none, eline0 := el, depth := depth,
                            due := datas.foldl min el, next := nexts, halted := (s.webPos (emuWeb d)).isNone,
                            resendBelow := 0, boardData := datas, tookAt := some pos }
        let s := match slotWrite s seat b.rcb (emuRcb d + 20) (leBytes 4 depth) with
          | .ok s => s
          | .error _ => s
        let s := if clamp then s.setBit (Reg.SEn_EMU_STATUS e) 2 true else s
        let s := s.setEng e { s.eng e with emu := some r, emuLast := some (emuWeb d, emuAdv d), lost := none }
        let s := (s.setReg64 Reg.SNP_SPR_HLINE_LO (BitVec.ofNat 64 el)).modSpare (fun p => { p with w0 := leAt rcb 0 8 })
        let s := s.setFld (Reg.SEn_EMU_STATUS e) 1 0 (if r.halted then 2 else 1)
        (s.setBit (Reg.SEn_EMU_STATUS e) 3 (emuQuiet d)).setReg64 (Reg.SEn_EMU_ELINE_LO e) (BitVec.ofNat 64 el)

/-- Engine `e` becomes RECOVER for the swath of failed engine `t` (R305, R317). DEDUCED (log 56). -/
def recoverStart (s : State) (e t w : Nat) : State :=
  let s := ((s.setRole e 4).setPhase 3 t).modSpare (fun p => { p with waiting := none, handoff := none, again := false, w0 := 0 })
  let s := s.setEng e { s.eng e with lost := none }
  if w < 4 then
    let s := s.setSwath w e
    if s.bit Reg.SNP_SPR_STATUS (9 + w) then s else takeOver s e w
  else s

/-- An ACTIVE or RECOVER engine has failed (R316): it is fenced and FAILED, its source raises U with a live line that the
    fence has already cleared, and the spare recovers its swath. DEDUCED (log 56). -/
def engineFailed (s : State) (t : Nat) : State :=
  if s.role t != 0 && s.role t != 4 then s
  else
    let w := (s.swathOf t).getD 7
    let doms := (List.range 8).filter (fun d => (List.range 96).any (fun k =>
      (s.seat (128 * t + k)).st != .off && (s.seat (128 * t + k)).hdom == d))
    let press := s.roleDomain 1
    let s := (fenceIsland s t).setRole t 5
    let s := raise s t 1 false
    let s := s.each ((List.range 8).filter (fun d => some d == press || doms.contains d))
      (fun s d => spareRecord s d 4 t ((s.spareEngine).getD 7) w 0 0)
    match (List.range s.variant.engines).find? (fun e => s.role e == 1 || s.role e == 2) with
    | some e => recoverStart (if s.role e = 2 then shadowEnd s else s) e t w
    | none =>
      let s := if w < 4 then s.setSwath w 7 else s
      match (List.range s.variant.engines).find? (fun e => s.role e == 3) with
      | some _ => (s.setPhase 3 t).modSpare (fun p => { p with waiting := some (t, w) })
      | none => raise s t 0 false

/-- EMISSION_WATCHDOG: a FIRE of an engine with EMU work in progress is overdue while its web is in SLOW or RUN (R316). -/
def execEmissionWatchdog (e : Nat) (s : State) : Host.Outcome State Fault Refusal :=
  .next (match (s.eng e).emu with
    | some r =>
      match s.webPos (emuWeb r.desc) with
      | some pos =>
        if ((boardsOf r.desc).zip r.next).any (fun x => decide (x.2 * 2 ^ 16 + x.1.fphase ≤ pos)) then engineFailed s e else s
      | none => s
    | none => s)

/-- ENGINE_FATAL_ERROR (R316). -/
def execEngineFatalError (e : Nat) (s : State) : Host.Outcome State Fault Refusal := .next (engineFailed s e)

/-- SPR_FAIL: FAIL of an engine that is not ACTIVE has no effect (R324). -/
def execSprFail (who : Requester) (e : Nat) (s : State) : Host.Outcome State Fault Refusal :=
  .next (sprWrite s who (fun s => if s.role e = 0 then engineFailed s e else s))

/-- RETEST of a FAILED engine (R314, R324). DEDUCED (log 56). -/
def sprRetest (s : State) (e : Nat) : State :=
  if s.role e = 5 then (s.setRole e 3).setPhase (if s.fld Reg.SNP_SPR_STATUS 2 0 = 0 then 2 else s.fld Reg.SNP_SPR_STATUS 2 0) s.sprTarget
  else s

/-- SPR_RETEST (R314). -/
def execSprRetest (who : Requester) (e : Nat) (s : State) : Host.Outcome State Fault Refusal :=
  .next (sprWrite s who (fun s => sprRetest s e))

/-- The controller is in no phase once the self-test it waited for is over. -/
def leaveBist (s : State) : State := if s.fld Reg.SNP_SPR_STATUS 2 0 = 2 then s.setPhase 0 s.sprTarget else s

/-- SELF_TEST_END: the engine becomes SPARE, FAILED, or RECOVER when an active engine has failed meanwhile (R305, R312 to
    R314). -/
def execSelfTestEnd (e : Nat) (pass : Bool) (s : State) : Host.Outcome State Fault Refusal :=
  .next (if s.role e ≠ 3 then s
    else match s.spare.waiting with
      | some (t, w) => recoverStart (unfence (s.markReset e) e) e t w
      | none =>
        let t := s.sprTarget
        let again := s.spare.retest == some e
        let s := s.modSpare (fun p => { p with retest := if p.retest = some e then none else p.retest })
        if pass then
          let s := leaveBist ((unfence (s.markReset e) e).setRole e 1)
          let s := sparePress s 6 t e ((s.swathOf t).getD 7) 0 0
          if again && s.role t == 0 then shadowStart s e t true else tryRotate s
        else
          let s := leaveBist (s.setRole e 5)
          sparePress (raise s e 1 false) 7 t e ((s.swathOf t).getD 7) 0 0)

/-- CHANNEL_TIMEOUT (R19): error completions and discarded posted words; when it holds on every port of the far island, an
    active engine has failed (R316) and any other island is fenced (R160). -/
def execChannelTimeout (near far expecting posted : Nat) (allPorts : Bool) (s : State) : Host.Outcome State Fault Refusal :=
  .next (let s := (s.count Reg.FAB_ERRCOMP_CNT expecting).discardPosted near posted
    if !allPorts || !s.variant.island far then s
    else if far ≤ 4 && (s.role far == 0 || s.role far == 4) then engineFailed s far
    else if fenceable s far then fenceIsland s far
    else s)

/-- RECOVER_COMPLETE: the ring is full again past W0; the spare is ACTIVE and RECOVERED is notified (R320). -/
def execRecoverComplete (e : Nat) (s : State) : Host.Outcome State Fault Refusal :=
  .next (match (s.eng e).emu with
    | some r =>
      match readRcb s r.seat (slotOf r.slots 1) (emuRcb r.desc) with
      | .error _ => s
      | .ok rcb =>
        let wl := leAt rcb 0 8
        let pos := (s.reg64 (Reg.POSn_POS_LO (emuWeb r.desc))).toNat / 2 ^ 16
        if s.role e = 4 && decide (s.spare.w0 < wl) && decide (pos + r.depth ≤ wl) then
          let (a, b) := (s.eng e).lost.getD (2 ^ 64 - 1, 2 ^ 64 - 1)
          let t := s.sprTarget
          let s := (s.setReg64 Reg.SNP_SPR_LOSTF_LO (BitVec.ofNat 64 a)).setReg64 Reg.SNP_SPR_LOSTL_LO (BitVec.ofNat 64 b)
          let s := (s.setRole e 0).setPhase 0 t
          sparePress s 5 t e ((s.swathOf e).getD 7) a b
        else s
    | none => s)

/-- The standby copy of a takeover record, if the record and the descriptor it names are usable (R315). -/
def loadStandby (s : State) (w : Nat) : Option Standby :=
  let a := (s.reg (Reg.SNP_SPR_RECs_LO w)).toNat + 2 ^ 32 * s.fld (Reg.SNP_SPR_RECs_HI w) 15 0
  let t := BitVec.ofNat 14 (s.fld (Reg.SNP_SPR_RECs_HI w) 29 16)
  if !s.tagsMatch a 64 t then none
  else match s.memRead a 64 with
    | none => none
    | some bs =>
      let win (o : Nat) : Desc := BitVec.ofNat 128 (leAt bs o 16)
      let off := leAt bs 48 8
      let ok (d : Desc) (r : Nat) := dValid d && hasRights (dRights d) r
      if leAt bs 56 1 != 1 || !ok (win 0) 16 || !ok (win 16) 2 || !ok (win 32) 8 then none
      else
        let seat := 128 * s.swathEngine w
        match slotRead s seat (win 32) off 16 with
        | .error _ => none
        | .ok hdr =>
          match slotRead s seat (win 32) off (descLen hdr) with
          | .error _ => none
          | .ok d => if leAt d 0 2 = 0x0104 && emuValid s d then some { ring := win 0, rcb := win 16, desc := d } else none

/-- The HI word of a takeover record's pointer has been written: the record is reloaded, or RECBAD is set (R315). -/
def sprRecWrite (s : State) (w : Nat) (lo hi : W32) : State :=
  let s := (s.setReg (Reg.SNP_SPR_RECs_LO w) lo).setReg (Reg.SNP_SPR_RECs_HI w) (hi &&& 0x3FFFFFFF)
  let b := loadStandby s w
  (s.modSpare (fun p => { p with standby := sset none p.standby w b })).setBit Reg.SNP_SPR_STATUS (9 + w) b.isNone

/-- SPR_REC_WRITE (R315, R324). -/
def execSprRecWrite (who : Requester) (swath : Nat) (lo hi : W32) (s : State) : Host.Outcome State Fault Refusal :=
  .next (sprWrite s who (fun s => if swath < s.variant.swaths then sprRecWrite s swath lo hi else s))

end Sys2Proof.Machine
end

