-- ==== Sys2Proof/Machine/Emu.lean ====
section
/-! DEFINITION. The emitter (R248, R249, R252 to R258). -/

namespace Sys2Proof.Machine

/-! ### Starting a work (R249, R256) -/

/-- STATE of SEn_EMU_STATUS follows: HALTED, UNDERRUN, RUN or IDLE (R262). -/
def emuStatus (s : State) (e : Nat) : State :=
  let r := s.eng e
  let st := match r.emu with
    | some u => if u.halted then 2 else if r.episode.isSome then 3 else 1
    | none => if r.episode.isSome then 3 else 0
  let s := s.setFld (Reg.SEn_EMU_STATUS e) 1 0 st
  s.setBit (Reg.SEn_EMU_STATUS e) 3 (match r.emu with | some u => emuQuiet u.desc | none => false)

/-- Engine `e`'s EMU work in progress becomes `r`. -/
def State.setEmu (s : State) (e : Nat) (r : Option EmuRun) : State :=
  emuStatus (s.setEng e { s.eng e with emu := r }) e

/-- ELINE as the register shows it. DEDUCED (log 53). -/
def State.showEline (s : State) (e l : Nat) : State := s.setReg64 (Reg.SEn_EMU_ELINE_LO e) (BitVec.ofNat 64 l)

/-- A takeover's emission without a work of the queue (R317). -/
def isTakeover (s : State) (e : Nat) : Bool :=
  match (s.eng e).emu with
  | some r => r.count.isNone
  | none => false

/-- EMU_WORK_START (R249, R256): a work that starts in place of a takeover ends the takeover's run (R318). -/
def execEmuWorkStart (e : Nat) (s : State) : Host.Outcome State Fault Refusal :=
  .next (match s.front e 4 with
    | some w =>
      if w.started then s
      else
        let d := w.desc
        if !emuValid s d || !inSlot (w.slot 1) (emuRcb d) 64 then completeWork s e 4 .desc 0
        else match readRcb s w.seat (w.slot 1) (emuRcb d) with
          | .error st => completeWork s e 4 st 0
          | .ok rcb =>
            match depthOf rcb with
            | none => completeWork s e 4 .desc 0
            | some (depth, clamp) =>
              if !inSlot (w.slot 0) (emuRing d) (depth * emuRstride d) || leAt rcb 8 8 != emuEline0 d then
                completeWork s e 4 .desc 0
              else match slotWrite s w.seat (w.slot 1) (emuRcb d + 20) (leBytes 4 depth) with
                | .error st => completeWork s e 4 st 0
                | .ok s =>
                  let s := if clamp then s.setBit (Reg.SEn_EMU_STATUS e) 2 true else s
                  let n := emuEline0 d
                  let r : EmuRun := { desc := d, slots := w.slots, seat := w.seat, count := some w.count, eline0 := n,
                                      depth := depth, due := n, next := List.replicate (emuNb d) n,
                                      halted := (s.webPos (emuWeb d)).isNone, resendBelow := n, boardData := [],
                                      tookAt := none }
                  let s := modWork s e 4 (fun w => { w with started := true })
                  ((s.setEng e { s.eng e with emuLast := some (emuWeb d, emuAdv d) }).setEmu e (some r)).showEline e n
    | none => s)

/-! ### Frames (R258) -/

/-- A drop-stream payload's header (R258). DEDUCED (log 55). -/
def dropHeader (e : Nat) (b : Board) (ptype flags seg snoz0 snnoz line : Nat) (time : W64) : List Byte :=
  leBytes 1 ptype ++ leBytes 1 flags ++ leBytes 1 seg ++ leBytes 1 b.nseg ++ leBytes 1 b.board ++ leBytes 1 b.plane ++
  leBytes 1 e ++ [0] ++ leBytes 2 snoz0 ++ leBytes 2 snnoz ++ [0, 0, 0, 0] ++ leBytes 8 line ++ leBytes 8 time.toNat

/-- The frames of line `line` leave engine `e`: not QUIET, not the spare (R21), and across a hand-off the target's below H
    and the shadow's from H on (R308, R311). -/
def State.emits (s : State) (e : Nat) (d : List Byte) (line : Nat) : Bool :=
  !emuQuiet d && s.role e != 1 &&
  (match s.spare.handoff with
   | some h =>
     if s.shadow e then decide (h ≤ line) else if s.shadowing && s.sprTarget == e then decide (line < h) else true
   | none => !s.shadow e)

/-- A frame of a line to a board, in class PRN for DATA and BLANK and TIM for FIRE and HALT. -/
def sendDrop (s : State) (e : Nat) (d : List Byte) (b : Board) (ptype flags seg snoz0 snnoz line : Nat)
    (drops : List Byte) : State :=
  if s.emits e d line then
    enqueueDrop s b.lane (if ptype ≤ 2 then 2 else 1)
      (dropHeader e b ptype flags seg snoz0 snnoz line s.ringTime ++ drops)
  else s

/-- The segments of a board's line (R258). -/
def sendData (s : State) (e : Nat) (d : List Byte) (b : Board) (flags line : Nat) (plane : List Byte) : State :=
  let n := b.nnb / b.nseg
  s.each (List.range b.nseg) (fun s g =>
    let codes := (List.range n).map (fun j => dropAt plane (b.noz0 + g * n + j))
    sendDrop s e d b 1 flags g (g * n) n line (packDrops codes))

/-! ### Underruns (R255, R256, R263) -/

/-- Source 37's U live line is active while some EMU's long episode lasts. -/
def underrunCalm (s : State) : State :=
  if (List.range 5).any (fun e => (s.eng e).uLive) || !s.live 37 then s else liveOff s 37

/-- A line counts as an underrun (R255). A gap in the line numbers starts a new episode. DEDUCED (log 53). -/
def underrun (s : State) (e line : Nat) : State :=
  let s := s.count (Reg.SEn_EMU_UCNT e) 1
  let last := (s.reg64 (Reg.SEn_EMU_ULAST_LO e)).toNat
  let run := match (s.eng e).episode with
    | some n => if last + 1 = line then n else 0
    | none => 0
  let s := if run = 0 then raise (s.setReg64 (Reg.SEn_EMU_UFIRST_LO e) (BitVec.ofNat 64 line)) 37 0 false else s
  let s := s.setReg64 (Reg.SEn_EMU_ULAST_LO e) (BitVec.ofNat 64 line)
  let s := s.setEng e { s.eng e with episode := some (run + 1) }
  let s := if run + 1 = 4096 then raise (s.setEng e { s.eng e with uLive := true }) 37 1 true else s
  emuStatus s e

/-- A line is sent with data: the episode and its live line end. -/
def dataSent (s : State) (e : Nat) : State :=
  emuStatus (underrunCalm (s.setEng e { s.eng e with episode := none, uLive := false })) e

/-- A line of an engine in RECOVER is lost (R320). -/
def lineLost (s : State) (e line : Nat) : State :=
  if s.role e = 4 then
    let l := match (s.eng e).lost with
      | some (a, b) => (min a line, max b line)
      | none => (line, line)
    s.setEng e { s.eng e with lost := some l }
  else s

/-! ### Due lines and FIRE (R252, R253, R317) -/

/-- Lines fired, blanked or skipped on every board: the work's DONE. -/
def emuPassed (r : EmuRun) : Nat := r.next.foldl min (r.next.headD r.eline0) - r.eline0

/-- The EMU work in progress ends with status `st`. -/
def emuEnd (s : State) (e : Nat) (st : WorkStatus) : State :=
  match (s.eng e).emu with
  | some r =>
    let s := s.setEmu e none
    if r.count.isNone then s else completeWork s e 4 st (min (r.count.getD 0) (emuPassed r))
  | none => s

/-- Data goes to board `i` for line `l`. -/
def boardWants (r : EmuRun) (i l : Nat) : Bool :=
  if r.count.isNone then decide ((r.boardData[i]?).getD 0 ≤ l) else decide ((r.next[i]?).getD 0 ≤ l)

/-- Line `l` is sent as DATA frames from its bytes, or as BLANK without them, to every board that wants it (R252, R254).
    DEDUCED (log 53). -/
def sendLine (s : State) (e : Nat) (r : EmuRun) (l : Nat) (data : Option (List Byte)) : State :=
  let d := r.desc
  let flags := if r.count.isNone || decide (l < r.resendBelow) then 4 else 0
  s.each (boardsOf d).zipIdx (fun s b =>
    if !boardWants r b.2 l then s
    else match data with
      | some bs => sendData s e d b.1 flags l (bs.drop (b.1.plane * dstride (emuNnoz d)))
      | none => sendDrop s e d b.1 2 1 0 0 0 l [])

/-- ELINE is written as a release; not while shadowing, nor by the target of a hand-off from H on (R252, R308, R311). -/
def writeEline (s : State) (e : Nat) (r : EmuRun) (l : Nat) : Except WorkStatus State :=
  let own := match s.spare.handoff with
    | some h => if s.shadow e then decide (h ≤ l) else if s.shadowing && s.sprTarget == e then decide (l ≤ h) else true
    | none => !s.shadow e
  if own then slotWrite s r.seat (slotOf r.slots 1) (emuRcb r.desc + 8) (leBytes 8 l) else .ok s

/-- A due line with an EMU work in progress (R252). DEDUCED (log 53). -/
def emuDue (s : State) (e : Nat) (r : EmuRun) (l : Nat) : Except WorkStatus State :=
  let d := r.desc
  match slotRead s r.seat (slotOf r.slots 1) (emuRcb d) 8 with
  | .error st => .error st
  | .ok wl =>
    let wline := leNat wl
    let gone := (decide (l < r.resendBelow) || r.count.isNone) && decide (l + r.depth < wline)
    let data := if wline ≤ l || gone then Except.ok none
      else match slotRead s r.seat (slotOf r.slots 0) (emuRing d + (l % r.depth) * emuRstride d)
          (emuInks d * dstride (emuNnoz d)) with
        | .ok bs => .ok (some bs)
        | .error st => .error st
    match data with
    | .error st => .error st
    | .ok data =>
      let s := sendLine s e r l data
      let s := if data.isSome then dataSent s e else icuReport (lineLost (underrun s e l) e l) e l l
      match writeEline s e r (l + 1) with
      | .error st => .error st
      | .ok s => .ok ((s.setEmu e (some { r with due := l + 1 })).showEline e (l + 1))

/-- The next line is due: the web's broadcast has reached (L − ADV) lines (R252). -/
def lineDue (pos adv l : Nat) : Bool := decide (l ≤ pos / 2 ^ 16 + adv)

/-- EMU_LINE_DUE: the next due line is sent as DATA or BLANK; with no work it counts as an underrun (R252, R256). -/
def execEmuLineDue (e : Nat) (s : State) : Host.Outcome State Fault Refusal :=
  .next (if !s.islandUp e then s
    else match (s.eng e).emu with
      | some r =>
        match s.webPos (emuWeb r.desc) with
        | some pos =>
          let inWork := match r.count with | some n => decide (r.due < r.eline0 + n) | none => true
          let cut := match s.spare.handoff with
            | some h => s.shadowing && s.sprTarget == e && decide (h ≤ r.due)
            | none => false
          if r.halted || !inWork || cut || !lineDue pos (emuAdv r.desc) r.due then s
          else match emuDue s e r r.due with
            | .ok s => s
            | .error st => emuEnd s e st
        | none => s
      | none =>
        match (s.eng e).emuLast with
        | some (web, adv) =>
          match s.webPos web with
          | some pos =>
            let l := s.elineOf e
            if lineDue pos adv l && (s.role e == 0 || s.role e == 4) then
              (icuReport (lineLost (underrun s e l) e l) e l l).showEline e (l + 1)
            else s
          | none => s
        | none => s)

/-- A line of a board is past: NEXT_b moves on, and the work ends once it has passed on every board (R256). -/
def boardPast (s : State) (e b : Nat) (r : EmuRun) : State :=
  let r := { r with next := r.next.modify b (· + 1) }
  let s := s.setEmu e (some r)
  match r.count with
  | some n => if r.next.all (fun x => decide (r.eline0 + n ≤ x)) then emuEnd s e .ok else s
  | none => s

/-- A FIRE position broadcast before a takeover, and more than 2 µs ago (R317). DEDUCED (log 53). -/
def fireTooLate (s : State) (web target : Nat) : Bool :=
  match s.pos.recent.find? (fun x => decide (target ≤ (x.2[web]?).getD 0)) with
  | some x => decide (x.1.toNat + 2000 * 256 < (s.ringTime.toNat * 256))
  | none => false

/-- The target of a hand-off has sent its last FIRE to the board on this lane (R311). -/
def targetFired (s : State) (e : Nat) (lane : Nat) : Bool :=
  match s.spare.handoff with
  | some h =>
    if s.shadow e then
      match (s.eng s.sprTarget).emu with
      | some t => ((boardsOf t.desc).zip t.next).all (fun x => x.1.lane != lane || decide (h ≤ x.2))
      | none => true
    else true
  | none => true

/-- EMU_FIRE: FIRE for the board's next line, once its data has gone and the web has reached it (R253, R317). -/
def execEmuFire (e : Nat) (board : Nat) (s : State) : Host.Outcome State Fault Refusal :=
  .next (match (s.eng e).emu with
    | some r =>
      match s.webPos (emuWeb r.desc), (boardsOf r.desc)[board]? with
      | some pos, some b =>
        let l := (r.next[board]?).getD 0
        let target := l * 2 ^ 16 + b.fphase
        if r.halted || decide (r.due ≤ l) || decide (pos < target) || !s.islandUp e || !targetFired s e b.lane then s
        else
          let overdue := match r.tookAt with | some p => decide (target ≤ p) | none => false
          if overdue && fireTooLate s (emuWeb r.desc) target then boardPast (lineLost s e l) e board r
          else
            let ext := overdue || s.bit Reg.POS_STATUS (8 + emuWeb r.desc)
            let s := sendDrop s e r.desc b 3 (if ext then 2 else 0) 0 0 0 l []
            let s := if ext && s.emits e r.desc l then s.count (Reg.SEn_EMU_EXTRAP_CNT e) 1 else s
            boardPast s e board r
      | _, _ => s
    | none => s)

/-! ### Halt, restart and cancel (R254, R257) -/

/-- EMU_WEB_HALT: the web is in LOST or IDLE; each board gets one HALT (R254). -/
def execEmuWebHalt (e : Nat) (s : State) : Host.Outcome State Fault Refusal :=
  .next (match (s.eng e).emu with
    | some r =>
      if r.halted || (s.webPos (emuWeb r.desc)).isSome || !s.islandUp e then s
      else
        let s := s.each (boardsOf r.desc).zipIdx (fun s b =>
          sendDrop s e r.desc b.1 4 0 0 0 0 ((r.next[b.2]?).getD 0) [])
        s.setEmu e (some { r with halted := true })
    | none => s)

/-- The web is back: the EMU restarts at line R and records what it skips (R254, R275). -/
def emuRestart (s : State) (e : Nat) : State :=
  match (s.eng e).emu with
  | some r =>
    match s.webPos (emuWeb r.desc) with
    | some pos =>
      if !r.halted || !s.islandUp e then s
      else
        let low := r.next.foldl min (r.next.headD r.eline0)
        let top := match r.count with | some n => r.eline0 + n | none => 2 ^ 64
        let rl := min top (max low (pos / 2 ^ 16 + 1))
        let s := if low < rl then
            let s := s.count (Reg.SEn_EMU_SKCNT e) (rl - low)
            let s := s.setReg64 (Reg.SEn_EMU_SKFIRST_LO e) (BitVec.ofNat 64 low)
            let s := s.setReg64 (Reg.SEn_EMU_SKLAST_LO e) (BitVec.ofNat 64 (rl - 1))
            icuReport (lineLost (lineLost s e low) e (rl - 1)) e low (rl - 1)
          else s
        let r' := { r with halted := false, resendBelow := max r.resendBelow r.due, due := rl,
                           next := r.next.map (fun n => max n rl) }
        match writeEline s e r' rl with
        | .error st => emuEnd s e st
        | .ok s =>
          let s := (s.setEmu e (some r')).showEline e rl
          match r'.count with
          | some n => if r'.next.all (fun x => decide (r.eline0 + n ≤ x)) then emuEnd s e .ok else s
          | none => s
    | none => s
  | none => s

/-- CANCEL: the work in progress and every queued one end as CANCELLED; no HALT, and ELINE keeps its value (R257). -/
def emuCancel (s : State) (e : Nat) : State :=
  let s := emuEnd s e .cancelled
  s.each (s.queue e 4) (fun s _ => completeWork s e 4 .cancelled 0)

/-- EMU_CANCEL (R257). -/
def execEmuCancel (e : Nat) (s : State) : Host.Outcome State Fault Refusal := .next (emuCancel s e)

end Sys2Proof.Machine
end

