-- ==== Sys2Proof/Machine/Temp.lean ====
section
/-! DEFINITION. Die temperature (R569 to R575), throttle classes A and B (R147, R577 to R579), supply sag (R581 to
R583) and clocks (R584 to R587). -/

namespace Sys2Proof.Machine

/-! ### Sensors (R569, R570, R575) -/

/-- The island a sensor lies in; group 15's sensors lie in PLT, POS and SENS, in an order the manual does not give. -/
def sensorIsland (n : Nat) : Option Nat :=
  if n < 40 then some (n / 8) else if n < 44 then some 5 else if n < 60 then some (n - 38) else none

/-- The sensor exists on this variant. -/
def State.sensorThere (s : State) (n : Nat) : Bool :=
  match sensorIsland n with | some i => s.variant.island i | none => true

/-- The sensor's island is powered and unfenced. -/
def State.sensorUp (s : State) (n : Nat) : Bool :=
  match sensorIsland n with | some i => s.islandUp i | none => true

/-- A reading with its trim (R570, R592); none for 0x8000, a sensor that takes no part. DEDUCED (log 30). -/
def sensorReading (s : State) (n : Nat) (raw : BitVec 16) : Option Int :=
  if raw = 0x8000 ∨ !s.sensorUp n then none
  else some (clampInt (-32767) 32767 (sint 16 raw.toNat + sint 16 (s.fld (Reg.CAL_TSs n) 15 0)))

/-- Twice the median of up to three readings. DEDUCED (log 30). -/
def twiceMedian : List Int → Int
  | [a] => 2 * a
  | [a, b] => a + b
  | [a, b, c] => 2 * (a + b + c - max a (max b c) - min a (min b c))
  | _ => 0

/-- The group manager changes by `f`. -/
def State.modTmp (s : State) (f : Tmp → Tmp) : State := { s with tmp := f s.tmp }
/-- Group `g`. -/
def State.tgroup (s : State) (g : Nat) : TmpGroup := sget TmpGroup.init s.tmp.groups g
/-- Group `g` changes by `f`. -/
def State.modGroup (s : State) (g : Nat) (f : TmpGroup → TmpGroup) : State :=
  s.modTmp (fun t => { t with groups := smod TmpGroup.init t.groups g f })

/-- One sensor's plausibility against the other readings of its group (R575). -/
def sensorJudge (s : State) (n : Nat) (v : Int) (others : List Int) : State :=
  if others.isEmpty then s
  else if 1024 < (2 * v - twiceMedian others).natAbs then
    let k := sget 0 s.tmp.far n + 1
    let s := s.modTmp (fun t => { t with far := sset 0 t.far n (min k 3), near := sset 0 t.near n 0 })
    if 3 ≤ k then s.setBit (Reg.TMP_SENSs n) 16 true else s
  else
    let k := sget 0 s.tmp.near n + 1
    let s := s.modTmp (fun t => { t with far := sset 0 t.far n 0, near := sset 0 t.near n (min k 100) })
    if 100 ≤ k then s.setBit (Reg.TMP_SENSs n) 16 false else s

/-- A present, powered group with fewer than 2 sensors without FAIL (R575). DEDUCED (log 30). -/
def groupBlind (s : State) (g : Nat) : Bool :=
  let ns := ((List.range 4).map (fun i => 4 * g + i)).filter (fun n => s.sensorThere n)
  ns.any (fun n => s.sensorUp n) && decide ((ns.filter (fun n => !s.bit (Reg.TMP_SENSs n) 16)).length < 2)

/-- A comparator is tripped (R576). -/
def State.anyTrip (s : State) : Bool := (List.range 64).any (fun n => s.bit (Reg.TMP_SENSs n) 17)

/-- Source 31's line after sensors have been judged (R575, R589). -/
def blindUpdate (s : State) (was : Bool) : State :=
  let now := (List.range 16).any (groupBlind s)
  if now && !was then raise s 31 1 true
  else if !now && was && !s.anyTrip then liveOff s 31
  else s

/-- TMP_HOT: the highest reading and its sensor (R590). -/
def hotUpdate (s : State) : State :=
  let best := (List.range 64).foldl (fun (o : Option (Nat × Int)) n =>
    let r := s.fld (Reg.TMP_SENSs n) 15 0
    if r = 0x8000 then o
    else match o with
      | some (_, v) => if v < sint 16 r then some (n, sint 16 r) else o
      | none => some (n, sint 16 r)) none
  match best with
  | some (n, v) => s.setReg Reg.TMP_HOT (BitVec.ofNat 32 (uint 16 v + 2 ^ 16 * n))
  | none => s

/-- The four sensors of a group take their readings (R570, R575). -/
def groupRead (s : State) (g : Nat) (raw : List (BitVec 16)) : State :=
  let was := (List.range 16).any (groupBlind s)
  let rs := (List.range 4).map (fun i => (4 * g + i, sensorReading s (4 * g + i) ((raw[i]?).getD 0x8000)))
  let s := s.each rs (fun s r => s.setFld (Reg.TMP_SENSs r.1) 15 0 (match r.2 with | some v => uint 16 v | none => 0x8000))
  let s := s.each rs (fun s r =>
    match r.2 with
    | some v => sensorJudge s r.1 v ((rs.filter (fun q => q.1 != r.1)).filterMap (fun q => q.2))
    | none => s)
  hotUpdate (blindUpdate s was)

/-- G: the largest reading of the group's sensors that have not failed (R570). -/
def groupValue (s : State) (g : Nat) : Option Int :=
  (List.range 4).foldl (fun (o : Option Int) i =>
    let n := 4 * g + i
    let r := s.fld (Reg.TMP_SENSs n) 15 0
    if r = 0x8000 ∨ s.bit (Reg.TMP_SENSs n) 16 then o
    else match o with
      | some v => some (max v (sint 16 r))
      | none => some (sint 16 r)) none

/-! ### Throttle class A (R147, R577, R578) -/

/-- The cores of a group as bits 12 e + c (R569), of present engines. -/
def groupCores (s : State) (g : Nat) : List Nat :=
  let all := (List.range s.variant.engines).flatMap (fun e => (List.range 12).map (fun c => 12 * e + c))
  if g < 10 then all.filter (fun k => k / 6 == g) else if g = 15 then [] else all

/-- The cores as the CORES field. -/
def coreMask (ks : List Nat) : Nat := ks.foldl (fun m k => m ||| 2 ^ k) 0

/-- The domain is a job domain with tenant seats on one of the cores (R147). -/
def tenantOn (s : State) (d : Nat) (ks : List Nat) : Bool :=
  (s.domain d).role == 2 && ks.any (fun k => (List.range 8).any (fun n =>
    let b := s.seatmap (8 * (k % 12) + n)
    b / 8 % 2 == 1 && b % 8 == d))

/-- A record of throttle class A to every job domain with tenant seats on the cores (R146, R147). -/
def throttleRecord (s : State) (rtype g : Nat) (ks : List Nat) : State :=
  let body := leBytes 8 (coreMask ks) ++
    (if rtype = 3 then [] else leBytes 1 (s.fld (Reg.TMP_GRPg_THR g) 7 0) ++ [0] ++ leBytes 2 (s.fld (Reg.TMP_GRPg_THR g) 29 16) ++
      leBytes 1 g)
  if ks.isEmpty then s
  else s.each (List.range 8) (fun s d => if tenantOn s d ks then notify s d rtype body else s)

/-- CAP of core `k`. -/
def State.cap (s : State) (k : Nat) : Nat := s.fld (Reg.SEn_TSHAREc (k / 12) (k % 12)) 23 16

/-- The CAP a core is due: the smallest TARGET of the groups that enforce on it, or 192 (R578). -/
def capTarget (s : State) (k : Nat) : Nat :=
  (List.range 16).foldl (fun m g =>
    if sget false s.tmp.enforced (60 * g + k) then
      match sget none s.throttles g with
      | some t => min m t.target
      | none => m
    else m) 192

/-- A core's CAP takes the value due (R578). DEDUCED (log 29). -/
def capApply (s : State) (k : Nat) : State :=
  let v := capTarget s k
  let s := s.modTmp (fun t => { t with capDue := sset false t.capDue k false })
  if v = s.cap k then s
  else (s.setFld (Reg.SEn_TSHAREc (k / 12) (k % 12)) 23 16 v).modTmp
    (fun t => { t with capAt := sset none t.capAt k (some s.ringTime) })

/-- A core's CAP is due: at once, or when 100 ms have passed since its last change (R578). -/
def capChange (s : State) (k : Nat) : State :=
  match sget none s.tmp.capAt k with
  | some t => if (s.ringTime - t).toNat < 100000000 then s.modTmp (fun t => { t with capDue := sset false t.capDue k true })
      else capApply s k
  | none => capApply s k

/-- THROTTLE is sent and the group's grace begins (R577). DEDUCED (log 29). -/
def throttleStart (s : State) (g : Nat) : State :=
  let ks := groupCores s g
  if ks.isEmpty then s
  else
    let t : Throttle := { cores := BitVec.ofNat 60 (coreMask ks), target := s.fld (Reg.TMP_GRPg_THR g) 7 0, enforced := false }
    throttleRecord { s with throttles := sset none s.throttles g (some t) } 1 g ks

/-- The group stops enforcing, and THROTTLE_END names those of its cores whose CAP is 192 (R578, R588). DEDUCED (log 29). -/
def throttleEnd (s : State) (g : Nat) : State :=
  match sget none s.throttles g with
  | none => s
  | some _ =>
    let ks := groupCores s g
    let s := { s with throttles := sset none s.throttles g none }
    let s := s.modTmp (fun t => { t with enforced := t.enforced.filter (fun e => e.1 / 60 != g) })
    let s := s.each ks capChange
    throttleRecord s 3 g (ks.filter (fun k => s.cap k == 192))

/-- Tenant slot use is measured, `means` naming each core's mean per frame: cores above TARGET are enforced (R147, R577).
    DEDUCED (log 29). -/
def throttleMeasure (s : State) (g : Nat) (means : List (Nat × Nat)) : State :=
  match sget none s.throttles g with
  | none => s
  | some t =>
    let ks := (groupCores s g).filter (fun k => !sget false s.tmp.enforced (60 * g + k) &&
      means.any (fun m => m.1 == k && decide (t.target < m.2)))
    let s := s.modTmp (fun m => { m with enforced := ks.foldl (fun e k => sset false e (60 * g + k) true) m.enforced })
    throttleRecord (s.each ks capChange) 2 g ks

/-- THROTTLE_GRACE_END (R147). -/
def execThrottleGraceEnd (g : Nat) (means : List (Nat × Nat)) (s : State) : Host.Outcome State Fault Refusal :=
  .next (match sget none s.throttles g with
    | some t =>
      if t.enforced then s
      else throttleMeasure { s with throttles := sset none s.throttles g (some { t with enforced := true }) } g means
    | none => s)

/-- THROTTLE_REMEASURE (R577): after the grace, while ALERT holds. -/
def execThrottleRemeasure (g : Nat) (means : List (Nat × Nat)) (s : State) : Host.Outcome State Fault Refusal :=
  .next (match sget none s.throttles g with
    | some t => if t.enforced then throttleMeasure s g means else s
    | none => s)

/-- CAP_UPDATE (R578): the 100 ms have passed; a CAP back at 192 is notified. -/
def execCapUpdate (e c : Nat) (s : State) : Host.Outcome State Fault Refusal :=
  .next (let k := 12 * e + c
    if sget false s.tmp.capDue k then
      let was := s.cap k
      let s := capApply s k
      if s.cap k = 192 ∧ was ≠ 192 then throttleRecord s 3 0 [k] else s
    else s)

/-! ### Alerts (R572 to R574) and throttle class B (R579) -/

/-- ALERT of a group. -/
def State.alert (s : State) (g : Nat) : Bool := s.bit Reg.TMP_STATUS g

/-- The background factor of a group in ALERT (R579). -/
def groupFactor (s : State) (g : Nat) : Nat :=
  let limit : Int := (s.fld (Reg.TMP_GRPg_RATE g) 15 0 : Nat)
  if limit = 0 then 16
  else (clampInt 1 16 (16 - (16 * ((s.tgroup g).slope - limit) + limit - 1).tdiv limit)).toNat

/-- F16 over the groups with ACTB in ALERT; below 16 a planned shadow run ends as if ABORT were written (R579). -/
def factorUpdate (s : State) : State :=
  let f := (List.range 16).foldl (fun m g => if s.alert g && s.bit (Reg.TMP_GRPg_CFG g) 17 then min m (groupFactor s g) else m) 16
  let s := s.setFld Reg.TMP_BFACT 4 0 f
  if f < 16 then sprAbort s else tryRotate s

/-- ALERT of a group is set (R574, R577). -/
def alertSet (s : State) (g : Nat) : State :=
  let s := raise (s.setBit Reg.TMP_STATUS g true) 31 0 false
  if s.bit (Reg.TMP_GRPg_CFG g) 16 then throttleStart s g else s

/-- ALERT of a group clears, and its actions end (R574, R578). -/
def alertClear (s : State) (g : Nat) : State :=
  let s := (s.setBit Reg.TMP_STATUS g false).modGroup g (fun t => { t with hot := 0, cool := 0 })
  throttleEnd s g

/-- The slope at a sample, once the history holds WIN + 1 entries (R573). No time passed since the entry: a free value.
    DEDUCED (log 30). -/
def slopeOf (s : State) (g : Nat) (v : Int) : Option Int × State :=
  let win := s.fld (Reg.TMP_GRPg_CFG g) 7 2
  if win = 0 then (none, s)
  else match (s.tgroup g).hist[win]? with
    | none => (none, s)
    | some (hv, ht) =>
      let dt := (s.ringTime - ht).toNat
      if dt = 0 then (some (sint 32 s.draw.1.toNat), s.draw.2)
      else (some (clampInt (-(2 ^ 31)) (2 ^ 31 - 1) (((v - hv) * 1000000000).tdiv (dt : Nat))), s)

/-- One evaluation of a slope (R574). -/
def alertEvaluate (s : State) (g : Nat) (sl : Int) : State :=
  let rate := s.reg (Reg.TMP_GRPg_RATE g)
  let limit := fbits rate 15 0
  let dwell := max 1 (s.fld (Reg.TMP_GRPg_CFG g) 15 8)
  let t := s.tgroup g
  let hot := if (limit : Int) < sl then min (t.hot + 1) 255 else 0
  let cool := if sl < ((limit - fbits rate 31 16 : Nat) : Int) then min (t.cool + 1) 255 else 0
  let s := s.modGroup g (fun t => { t with slope := sl, hot := hot, cool := cool })
  let s := s.setFld (Reg.TMP_GRPg_STAT g) 31 16 (uint 16 (clampInt (-32768) 32767 sl))
  let s :=
    if limit = 0 then s
    else if !s.alert g && decide (dwell ≤ hot) then alertSet s g
    else if s.alert g && decide (dwell ≤ cool) then alertClear s g
    else s
  factorUpdate s

/-- NEAR after a sample (R572). -/
def nearUpdate (s : State) (g : Nat) (v : Int) (sl : Option Int) : State :=
  let soon := match sl with | some x => decide (0 < x) && decide (7040 - v < 10 * x) | none => false
  if decide (6720 ≤ v) || soon then
    (s.setBit Reg.TMP_STATUS (16 + g) true).modGroup g (fun t => { t with calm := 0 })
  else
    let k := (s.tgroup g).calm + 1
    let s := s.modGroup g (fun t => { t with calm := min k 10 })
    if 10 ≤ k then s.setBit Reg.TMP_STATUS (16 + g) false else s

/-- A temperature change of group 15 starts an ADC calibration (R593). -/
def adcTrigger (s : State) (v : Int) : State :=
  let tc := s.fld Reg.CAL_ADC_TCAL 15 0
  let delta := s.fld Reg.CAL_ADC_DELTA 15 0
  if s.bit Reg.ADC_CTL 6 && decide (delta ≠ 0) && (tc == 0x8000 || decide (delta < (v - sint 16 tc).natAbs)) then adcAuto s else s

/-- A group samples (R570 to R575). DEDUCED (log 30). -/
def groupSample (s : State) (g : Nat) (raw : List (BitVec 16)) : State :=
  let s := groupRead s g raw
  match groupValue s g with
  | none => s
  | some v =>
    let s := s.setFld (Reg.TMP_GRPg_STAT g) 15 0 (uint 16 v)
    let s := s.modGroup g (fun t => { t with last := some (v, s.ringTime) })
    let (sl, s) := slopeOf s g v
    let s := match sl with | some x => alertEvaluate s g x | none => s
    let s := nearUpdate s g v sl
    if g = 15 then adcTrigger s v else s

/-- TMP_SAMPLE (R571): the four sensors' readings, 0x8000 for one that takes no part; only in ADAPTIVE. -/
def execTmpSample (g : Nat) (raw : List (BitVec 16)) (s : State) : Host.Outcome State Fault Refusal :=
  .next (if s.fld (Reg.TMP_GRPg_CFG g) 1 0 = 1 then groupSample s g raw else s)

/-- TMP_SAMPLE_CMD (R571): in every mode but OFF. -/
def execTmpSampleCmd (g : Nat) (raw : List (BitVec 16)) (s : State) : Host.Outcome State Fault Refusal :=
  .next (if s.fld (Reg.TMP_GRPg_CFG g) 1 0 = 0 then s else groupSample s g raw)

/-- TMP_HISTORY_BOUNDARY (R573): every group stores its most recent sample. -/
def execTmpHistoryBoundary (s : State) : Host.Outcome State Fault Refusal :=
  .next (s.each (List.range 16) (fun s g =>
    match (s.tgroup g).last with
    | some e => s.modGroup g (fun t => { t with hist := (e :: t.hist).take 64 })
    | none => s))

/-- A write of TMP_GRPg_CFG (R588, R590). -/
def grpCfgWrite (s : State) (g : Nat) (v : W32) : State :=
  if fbits v 1 0 = 3 then s
  else
    let was := s.reg (Reg.TMP_GRPg_CFG g)
    let s := s.setReg (Reg.TMP_GRPg_CFG g) (v &&& 0x3FFFF)
    if !s.alert g then s
    else
      let s := s.modGroup g (fun t => { t with hot := 0, cool := 0 })
      let s := if fbit was 16 && !fbit v 16 then throttleEnd s g else s
      if fbit was 17 && !fbit v 17 then factorUpdate s else s

/-- A write of TMP_GRPg_RATE: a LIMIT of 0 clears ALERT at once (R574, R588). -/
def grpRateWrite (s : State) (g : Nat) (v : W32) : State :=
  let s := s.setReg (Reg.TMP_GRPg_RATE g) v
  if !s.alert g then s
  else if fbits v 15 0 = 0 then factorUpdate (alertClear s g)
  else s.modGroup g (fun t => { t with hot := 0, cool := 0 })

/-- A write of TMP_GRPg_THR: TARGET to 192, GRACE from 100 to 10,000 (R590). -/
def grpThrWrite (s : State) (g : Nat) (v : W32) : State :=
  if 192 < fbits v 7 0 ∨ fbits v 29 16 < 100 ∨ 10000 < fbits v 29 16 then s
  else s.setReg (Reg.TMP_GRPg_THR g) (v &&& 0x3FFF00FF)

/-! ### Supply sag (R581 to R583) -/

/-- An island's stretch in sixteenths becomes `k`; its flags show it. -/
def setStretch (s : State) (i k : Nat) (recover : Bool) : State :=
  let s := s.modTmp (fun t => { t with stretch := sset 0 t.stretch i k })
  (s.setBit (Reg.TMP_DROOPi i) 8 (decide (0 < k))).setBit (Reg.TMP_DROOPi i) 9 (recover && decide (0 < k))

/-- DROOP_SAG (R581, R582): the period becomes 1.5 times nominal; an entry from nominal is counted. -/
def execDroopSag (island : Nat) (s : State) : Host.Outcome State Fault Refusal :=
  .next (if 24 < island || !s.islandOn island then s
    else
      let s := if sget 0 s.tmp.stretch island = 0 then s.count Reg.TMP_SAG_CNT 1 else s
      setStretch s island 8 false)

/-- STRETCH_RECOVER_STEP (R581): the period falls by 1/16 of the nominal one. -/
def execStretchRecoverStep (island : Nat) (s : State) : Host.Outcome State Fault Refusal :=
  .next (let k := sget 0 s.tmp.stretch island
    if k = 0 then s else setStretch s island (k - 1) true)

/-- STRETCH_WINDOW_OVER (R582). -/
def execStretchWindowOver (island : Nat) (s : State) : Host.Outcome State Fault Refusal :=
  .next (if 24 < island || !s.islandOn island then s else raise (s.count Reg.TMP_STRX_CNT 1) 32 0 false)

/-- RAIL_OUT_OF_BAND (R583): rail `rail` of TMP_RAIL, over or under its band; group M's rails only while powered, and an
    under-voltage of VPLT follows R619 instead. -/
def execRailOutOfBand (rail : Nat) (high : Bool) (s : State) : Host.Outcome State Fault Refusal :=
  .next (if (rail < 6 && !s.runpg) || (rail == 6 && !high) || decide (10 ≤ rail) then s
    else raise (s.setBit Reg.TMP_RAIL (if high then 16 + rail else rail) true) 32 2 true)

/-! ### Clocks (R584 to R587) -/

/-- REFCLKi is present within tolerance. DEDUCED (log 31). -/
def State.refOk (s : State) (i : Nat) : Bool := s.bit Reg.TMP_CLKSTAT i

/-- SYSREF_LOSS (R584, R585): an input is lost. With FAILOVER the other takes over, with class C on source 33; otherwise
    class F, and with both lost the plant runs from its oscillator and the other generators hold. -/
def execSysrefLoss (input : BitVec 1) (s : State) : Host.Outcome State Fault Refusal :=
  .next (let i := input.toNat
    if !s.refOk i then s
    else
      let s := s.setBit Reg.TMP_CLKSTAT i false
      let act := s.fld Reg.TMP_CLKSTAT 2 2
      if !s.refOk (1 - i) then raise ((s.setBit Reg.TMP_CLKSTAT 3 true).setBit Reg.TMP_CLKSTAT 4 true) 33 2 true
      else if i ≠ act then s
      else if s.bit Reg.TMP_CLKCFG 1 then raise (s.setFld Reg.TMP_CLKSTAT 2 2 (1 - i)) 33 0 false
      else raise s 33 2 true)

/-- The islands of the non-plant generators run again once the reference locks. -/
def generatorsRun (s : State) : State :=
  if s.tmp.stopped && s.runpg then
    (s.each ((List.range 24).filter s.variant.island) (fun s i => s.setBit Reg.SYS_ISLAND_ON i true)).modTmp
      (fun t => { t with stopped := false })
  else s.modTmp (fun t => { t with stopped := false })

/-- Source 33's line clears once every generator is back within limits (R589). DEDUCED (log 31). -/
def clockCalm (s : State) : State :=
  let lost := !s.refOk (s.fld Reg.TMP_CLKSTAT 2 2)
  if s.live 33 && !lost && s.tmp.offFreq.isEmpty then liveOff s 33 else s

/-- The system reference follows the inputs present and the selection (R584, R585). DEDUCED (log 31). -/
def refSelect (s : State) : State :=
  let sel := s.fld Reg.TMP_CLKCFG 0 0
  let act := s.fld Reg.TMP_CLKSTAT 2 2
  let now := if s.refOk act then some act else if s.refOk sel then some sel
    else if s.bit Reg.TMP_CLKCFG 1 && s.refOk (1 - sel) then some (1 - sel) else none
  match now with
  | none => s
  | some a =>
    let s := ((s.setFld Reg.TMP_CLKSTAT 2 2 a).setBit Reg.TMP_CLKSTAT 3 false).setBit Reg.TMP_CLKSTAT 4 false
    clockCalm (generatorsRun s)

/-- A write of TMP_CLKCFG: a selected input that is present comes into use (R584). -/
def clkCfgWrite (s : State) (v : W32) : State :=
  let s := s.setReg Reg.TMP_CLKCFG (v &&& 3)
  let sel := fbits v 0 0
  refSelect (if s.refOk sel then s.setFld Reg.TMP_CLKSTAT 2 2 sel else s)

/-- A generator's limits (R586). DEDUCED (log 31). -/
def generatorOff (s : State) (i : Nat) (off : Bool) : State :=
  if i ≤ 4 then (if off && s.islandUp i then engineFailed s i else s)
  else
    let s := s.modTmp (fun t => { t with offFreq := sset false t.offFreq i off })
    if off then raise s 33 2 true else clockCalm s

/-- CLOCK_MONITOR_WINDOW (R586): whether the generator of an island is off its frequency beyond its limit. -/
def execClockMonitorWindow (island : Nat) (off : Bool) (s : State) : Host.Outcome State Fault Refusal :=
  .next (if 24 < island || !s.islandOn island || s.tmp.stopped then s else generatorOff s island off)

/-- GENERATOR_HOLDOVER_END (R585): still without a reference, every non-plant generator stops. -/
def execGeneratorHoldoverEnd (s : State) : Host.Outcome State Fault Refusal :=
  .next (if s.bit Reg.TMP_CLKSTAT 4 then
      (s.each (List.range 24) (fun s i => s.setBit Reg.SYS_ISLAND_ON i false)).modTmp (fun t => { t with stopped := true })
    else s)

/-- SEFREQ_WRITE (R587, R590): a code above 20 makes the write have no effect. -/
def sefreqWrite (s : State) (v : W32) : State :=
  if (List.range 5).any (fun e => decide (20 < fbits v (5 * e + 4) (5 * e))) then s
  else s.setReg Reg.TMP_SEFREQ (v &&& 0x1FFFFFF)

/-- SEFREQ_WRITE (R587). -/
def execSefreqWrite (value : W32) (s : State) : Host.Outcome State Fault Refusal := .next (sefreqWrite s value)

end Sys2Proof.Machine
end

