-- ==== Sys2Proof/Machine/Boot.lean ====
section
/-! DEFINITION. Resets (R619, R620), boot (R622 to R625), WATCH (R626 to R628), HIBERNATE and wake sources (R629, R630),
the end of a fuse burn (R123), the fixed trip (R576) and the reference lock (R585, R625). -/

namespace Sys2Proof.Machine

/-! ### Resets (R123, R619, R620) -/

/-- Entries of a register map that lie in the AON block (R35). -/
def aonOnly {α : Type} (m : SMap α) : SMap α := m.filter (fun e => blockNumber e.1 == some 26)

/-- What a reset never changes: the queue, the part's identity and fuses, the flash, and the model's own records. -/
def keepParts (s : State) : State :=
  { State.reset with
    pending := s.pending, variant := s.variant, uid := s.uid, keyFuses := s.keyFuses, rollFuses := s.rollFuses,
    freeCount := s.freeCount, flash := s.flash, out := s.out, regs := [] }

/-- Only AON is left: every other island is at its reset (R619, R629). -/
def keepAon (s : State) : State :=
  { keepParts s with
    regs := aonOnly s.regs, inForce := aonOnly s.inForce, loHeld := aonOnly s.loHeld, hiLatch := aonOnly s.hiLatch
    plant := { Plant.init with lastMin := s.plant.lastMin, alarmArmed := s.plant.alarmArmed } }

/-- A burn cut short keeps the fuses burned so far, which are free (R123). DESIGN CHOICE (log 22). -/
def burnCut (s : State) : State :=
  match s.burn with
  | .none => s
  | _ => let (p, s) := burnPart s; burnApply s (some p)

/-- A whole-device reset with the cause bit of SYS_RSTCAUSE (R619): every island but AON is reset, the device is in SAFE
    with CAUSE BOOT, and the AON inputs are back at their inactive levels (R621). DEDUCED (log 32). -/
def wholeReset (s : State) (cause : Nat) : State :=
  let s := keepAon (burnCut s)
  (s.setReg Reg.SYS_RSTCAUSE (BitVec.ofNat 32 (2 ^ cause))).setFld Reg.AON_WAKECFG 21 16 0

/-- Group P is powered: the device is neither in HIBERNATE nor without VAON. -/
def State.groupP (s : State) : Bool := s.power == .on || s.power == .reset

/-- POR_N_LOW (R619); POR_N is an input of group P. -/
def execPorNLow (s : State) : Host.Outcome State Fault Refusal := .next (if s.groupP then wholeReset s 1 else s)

/-- VPLT_UNDERVOLTAGE (R619). DEDUCED (log 32). -/
def execVpltUndervoltage (s : State) : Host.Outcome State Fault Refusal := .next (if s.groupP then wholeReset s 2 else s)

/-- PLTPG_FALL (R619): outside HIBERNATE entry. -/
def execPltpgFall (s : State) : Host.Outcome State Fault Refusal := .next (if s.groupP then wholeReset s 2 else s)

/-- The reset command (R123, R619): while a fuse burn runs it waits for its end. -/
def rstCommand (s : State) : State :=
  match s.burn with
  | .none => wholeReset s 4
  | _ => { s with resetPending := true }

/-- SYS_RST_CMD (R619). -/
def execSysRstCmd (who : Requester) (s : State) : Host.Outcome State Fault Refusal :=
  .next (respond who (if s.controlAllowed who Reg.SYS_RST_CMD true && s.ownerOrM who then (rstCommand s, true) else (s, false)))

/-- FUSE_BURN_END (R123): the burn reads back, or fails with FUSE_ERR and source 35; a reset that waited takes effect.
    DESIGN CHOICE (log 22). -/
def execFuseBurnEnd (ok : Bool) (s : State) : Host.Outcome State Fault Refusal :=
  .next (match s.burn with
    | .none => s
    | _ =>
      let s := if ok then (burnApply s none).setBit Reg.SYS_TRUST 4 false
        else raise ((burnCut s).setBit Reg.SYS_TRUST 4 true) 35 0 false
      if s.resetPending then wholeReset s 4 else s)

/-- VAON_LOSS (R123, R453): AON loses all its state, and everything else its power. -/
def execVaonLoss (s : State) : Host.Outcome State Fault Refusal :=
  .next (if s.power = .dead then s else { keepParts (burnCut s) with power := .dead })

/-- VAON_RETURN (R453, R620): AON resets with VAONLOST, and the cause is POR. -/
def execVaonReturn (s : State) : Host.Outcome State Fault Refusal :=
  .next (if s.power = .dead then
      { (s.setReg Reg.SYS_RSTCAUSE 1).setBit Reg.AON_STATUS 3 true with power := .reset }
    else s)

/-! ### Owner record at boot (R122, R124, R125) -/

/-- SYS_OWN_STATUS after boot: CODE, CODEA and CODEB. -/
def bootStatus (code a b : Nat) : W32 := BitVec.ofNat 32 (code + 2 ^ 13 * a + 2 ^ 21 * b)

/-- With no valid record, or no valid firmware, the device is in RECOVERY (R125, R625). -/
def enterRecovery (s : State) : State :=
  let s := ((s.setBit Reg.SYS_TRUST 1 true).setReg Reg.SYS_OWN_VERSION 0)
  raise { s with owner := none } 35 0 false

/-- Copies A and B are verified and one is put in force (R124). -/
def ownerBoot (s : State) : State :=
  let a := s.flashAt 0 1792
  let b := s.flashAt 0x10000 1792
  let ca := recordCode s false a
  let cb := recordCode s false b
  let va := leAt a 8 4
  let vb := leAt b 8 4
  let s := s.setBit Reg.SYS_TRUST 0 s.closed
  let force (s : State) (bs : List Byte) (copy : Bool) : State :=
    let s := (s.setBit Reg.SYS_TRUST 2 copy).setReg Reg.SYS_OWN_STATUS (bootStatus 0 ca cb)
    let s := s.setReg Reg.SYS_OWN_VERSION (parseRecord bs).version
    { s with owner := some (parseRecord bs) }
  if ca = 0 ∧ (cb ≠ 0 ∨ vb ≤ va) then force s a false
  else if cb = 0 then force s b true
  else enterRecovery (s.setReg Reg.SYS_OWN_STATUS (bootStatus ca ca cb))

/-! ### Firmware images (R622, R623) -/

/-- A firmware image's header fields. -/
structure FwImage where
  xip : Bool
  version : Nat
  load : Nat
  len : Nat
  entry : Nat
  body : List Byte
  deriving DecidableEq, Repr

/-- The image in the slot of `size` bytes at flash offset `base`, if it is valid under a key (R623). DEDUCED (log 35). -/
def imageAt (s : State) (key : List Byte) (base size kind : Nat) : Option FwImage :=
  let h := s.flashAt base 128
  let len := leAt h 12 4
  let load := leAt h 16 8
  let xip := kind == 2 && leAt h 5 1 == 1
  let room := if kind = 3 then 0x2000000 else 0x80000
  if h.take 4 ≠ [0x5A, 0x46, 0x57, 0x31] ∨ leAt h 4 1 ≠ kind ∨ 1 < leAt h 5 1 ∨ !zeroAt h 6 2 ∨ !zeroAt h 32 32 ∨
      size < 128 + len ∨ (!xip ∧ room < load + len) then none
  else
    let body := s.flashAt (base + 128) len
    if Config.ed25519 key (h.take 64 ++ body) ((h.drop 64).take 64) then
      some { xip := xip, version := leAt h 8 4, load := load, len := len, entry := leAt h 24 8, body := body }
    else none

/-- The choice between slots A and B (R124, R623), with the slot in force. -/
def chooseImage (a b : Option FwImage) : Option (FwImage × Bool) :=
  match a, b with
  | some x, some y => if x.version < y.version then some (y, true) else some (x, false)
  | some x, none => some (x, false)
  | none, some y => some (y, true)
  | none, none => none

/-- A loaded PLANT image overlaps the MACHINE image (R623). -/
def imagesOverlap (m p : FwImage) : Bool :=
  !p.xip && decide (m.load < p.load + p.len) && decide (p.load < m.load + m.len)

/-- The image, when it does not overlap the MACHINE image. -/
def clearOf (m : FwImage) (o : Option FwImage) : Option FwImage :=
  match o with
  | some p => if imagesOverlap m p then none else some p
  | none => none

/-- MACHINE and PLANT images are verified and loaded, and the plant thread starts (R623, R624 step 6). DEDUCED (log 35). -/
def firmwareBoot (s : State) : State :=
  match s.owner with
  | none => s
  | some r =>
    match chooseImage (imageAt s r.key 0x40000 0x20000 1) (imageAt s r.key 0x60000 0x20000 1) with
    | none => enterRecovery (s.setBit Reg.SYS_BOOT 4 true)
    | some (m, ms) =>
      match chooseImage (clearOf m (imageAt s r.key 0x80000 0x80000 2)) (clearOf m (imageAt s r.key 0x100000 0x80000 2)) with
      | none => enterRecovery (s.setBit Reg.SYS_BOOT 4 true)
      | some (p, ps) =>
        let s := (s.setBit Reg.SYS_BOOT 8 ms).setBit Reg.SYS_BOOT 9 ps
        let s := s.storeWrite (plantStore + m.load) m.body
        let s := if p.xip then s else s.storeWrite (plantStore + p.load) p.body
        plantStart { s with plant := { s.plant with machine := some (m.load, m.len, m.entry) } } 0

/-- The ENGINE image is verified and loaded into the engine store of every engine that passed (R624 step 9, R625). -/
def engineImageBoot (s : State) : State :=
  match s.owner with
  | none => s
  | some r =>
    match chooseImage (imageAt s r.key 0x300000 0x400000 3) (imageAt s r.key 0x700000 0x400000 3) with
    | none => raise (s.setBit Reg.SYS_BOOT 5 true) 35 0 false
    | some (m, slot) =>
      ((s.setBit Reg.SYS_BOOT 10 slot).setBit Reg.SYS_BOOT 5 false).each (List.range s.variant.engines) (fun s e =>
        if s.role e = 5 then s else s.storeWrite (engineStore e + m.load) m.body)

/-! ### The boot order (R624) -/

/-- SYS_PWR_STATUS.MODE becomes `m`. -/
def setMode (s : State) (m : Nat) : State := s.setFld Reg.SYS_PWR_STATUS 1 0 m

/-- RUNEN rises once the system reference is locked (R624 step 7, R625). -/
def runenRise (s : State) : State :=
  if s.refOk (s.fld Reg.TMP_CLKSTAT 2 2) then { s.setFld Reg.SYS_BOOT 3 0 7 with runen := true } else s

/-- Steps 1 to 7 of R624; `ref0` and `ref1` are the reference inputs present. -/
def supplyGood (s : State) (ref0 ref1 : Bool) : State :=
  let hib := s.bit Reg.SYS_RSTCAUSE 3
  let s := { s with power := .on }
  let s := ((s.setBit Reg.TMP_CLKSTAT 3 true).setBit Reg.TMP_CLKSTAT 0 ref0).setBit Reg.TMP_CLKSTAT 1 ref1
  let s := (refSelect s).setBit Reg.SYS_BOOT 6 (!ref0 && !ref1)
  let s := ownerBoot s
  let s := bootTrim s
  let s := (firmwareBoot (assignSeats s)).setFld Reg.SYS_BOOT 3 0 6
  if hib && !s.bit Reg.AON_WAKE_EN 7 then setMode s 1 else runenRise s

/-- SUPPLY_GOOD_BOOT (R624, R625). -/
def execSupplyGoodBoot (ref0 ref1 : Bool) (s : State) : Host.Outcome State Fault Refusal :=
  .next (if s.power = .reset then supplyGood s ref0 ref1 else s)

/-- SYSREF_LOCK (R584, R585, R625): an input appears; RUNEN rises if only the reference was missing. -/
def execSysrefLock (input : BitVec 1) (s : State) : Host.Outcome State Fault Refusal :=
  .next (if s.power ≠ .on then s
    else
      let s := refSelect (s.setBit Reg.TMP_CLKSTAT input.toNat true)
      let s := if s.refOk (s.fld Reg.TMP_CLKSTAT 2 2) then s.setBit Reg.SYS_BOOT 6 false else s
      let m := s.fld Reg.SYS_PWR_STATUS 1 0
      if !s.runen && (m == 0 || m == 3) then runenRise s else s)

/-- A stack is trained, zero-filled with its tags 0, or lost (R655, R176). -/
def stackTrain (s : State) (n : Nat) (ok : Bool) : State :=
  if ok then s.setBit Reg.MEM_STATUS n true else stackLose s n

/-- An engine's boot self-test: a failed one makes it FAILED, fenced, with class U on its source (R306, R314). -/
def engineBootTest (s : State) (e : Nat) (ok : Bool) : State :=
  if ok then s.setRole e 0 else raise ((fenceCore s e).setRole e 5) e 1 false

/-- RUNPG_RISE (R618, R624 steps 8 and 9, R655): the large islands are powered; which stacks train and which engines
    pass; port 0's link starts at DOWN (R329). -/
def execRunpgRise (trained : BitVec 8) (pass : BitVec 5) (s : State) : Host.Outcome State Fault Refusal :=
  .next (if !s.runen || s.runpg then s
    else
      let s := { s with runpg := true, mem := [], tags := [], pages := [], stackRuns := [], encBase := [] }
      let s := s.each ((List.range 24).filter s.variant.island) (fun s i =>
        (s.setBit Reg.SYS_ISLAND_ON i true).setBit Reg.SYS_ISLAND_FENCE i false)
      let s := s.each (List.range s.variant.stacks) (fun s n => stackTrain s n (trained.getLsbD n))
      let s := s.each (List.range s.variant.engines) (fun s e => engineBootTest s e (pass.getLsbD e))
      let s := engineImageBoot s
      (s.setLinkState 0 1).setFld Reg.SYS_BOOT 3 0 9)

/-- Roles after boot (R306): the passing engines take the swaths in ascending order; with one more than the swaths, the
    highest is SPARE. -/
def assignRoles (s : State) : State :=
  let ok := (List.range s.variant.engines).filter (fun e => s.role e != 5)
  let s := (s.setReg Reg.SNP_SPR_ROLES (BitVec.ofNat 32 ((List.range 5).foldl (fun v e =>
    v + 16 ^ e * (if e < s.variant.engines then (if ok.contains e then 0 else 5) else 15)) 0))).setReg Reg.SNP_SPR_SWATH 0xFFF
  let s := s.setPhase 0 0
  let s := s.modSpare (fun p => { p with lastHand := [], want := false, again := false, retest := none, handoff := none, waiting := none })
  let s := s.each (ok.take s.variant.swaths).zipIdx (fun s x => (s.setSwath x.2 x.1).setRole x.1 0)
  s.each (ok.drop s.variant.swaths) (fun s e => s.setRole e 1)

/-- HOSTS_ATTACH (R116, R624 step 10, R625). -/
def execHostsAttach (s : State) : Host.Outcome State Fault Refusal :=
  .next (if !s.runpg || s.attached then s
    else
      let s := assignRoles { s with attached := true }
      let s := assignSeats s
      let s := s.each (List.range s.variant.engines) (fun s e => if s.role e = 5 then s else engineSeatsOn s e)
      let s := (setMode s 0).setFld Reg.SYS_BOOT 3 0 10
      s.modTmp (fun t => { t with tripped := false }))

/-- RUNPG_TIMEOUT (R618). -/
def execRunpgTimeout (s : State) : Host.Outcome State Fault Refusal :=
  .next (if s.runen && !s.runpg then
      raise ((setMode { s with runen := false } 1).setBit Reg.SYS_BOOT 7 true) 32 0 false
    else s)

/-! ### WATCH (R626 to R628) -/

/-- A register of an island that WATCH powers down: FAB, MEM, SE, POS, UMK, RNG, ETH, SP, CP and TU (R35, R627). -/
def largeReg (a : Nat) : Bool :=
  match blockNumber a with
  | some b => decide (5 ≤ b) && decide (b ≤ 18)
  | none => false

/-- Entries of a register map outside the islands that WATCH powers down. -/
def smallOnly {α : Type} (m : SMap α) : SMap α := m.filter (fun e => !largeReg e.1)

/-- The large islands lose all they hold (R627); what no island holds any more leaves its source's line inactive (R544).
    DEDUCED (log 36). -/
def islandsLose (s : State) : State :=
  let s := { s with
    regs := smallOnly s.regs, inForce := smallOnly s.inForce, loHeld := smallOnly s.loHeld, hiLatch := smallOnly s.hiLatch
    pairHeld := smallOnly s.pairHeld, seats := s.seats.filter (fun e => e.1 == plantSeat), cores := []
    mem := [], store := s.store.filter (fun e => decide (plantStore ≤ e.1)),
    storePoison := s.storePoison.filter (fun e => decide (plantStore / 64 ≤ e.1)), tags := [], pages := [], stackRuns := [], encBase := []
    fabric := State.reset.fabric, links := [], ring := Ring.init, pos := State.reset.pos, refMoved := [], mcrcBad := []
    works := [], engines := [], sens := State.reset.sens, attached := false }
  s.each ((List.range 21) ++ [36, 37, 38, 39, 40]) (fun s n => if s.live n then liveOff s n else s)

/-- WATCH entry (R627): emission is cancelled, every seat goes OFF, the large islands are fenced and powered down, and
    RUNEN falls. DEDUCED (log 36). -/
def watchEntry (s : State) : State :=
  let s := s.each (List.range s.variant.engines) emuCancel
  let s := s.each (List.range s.variant.engines) engineStop
  let s := s.each ((List.range 24).filter (fun i => i != 5 && s.variant.island i)) fenceCore
  let s := islandsLose s
  let s := s.each (List.range 24) (fun s i =>
    (s.setBit Reg.SYS_ISLAND_ON i false).setBit Reg.SYS_ISLAND_FENCE i (s.variant.island i))
  let s := s.modTmp (fun t => { t with stretch := t.stretch.filter (fun e => decide (24 ≤ e.1)), stopped := false })
  setMode { s with runen := false, runpg := false } 1

/-- The press-control domain, the plant domain and M mode write SYS_PWR_CMD (R626). -/
def State.pwrAccess (s : State) (w : Requester) : Bool :=
  s.controlAllowed w Reg.SYS_PWR_CMD true && (s.plantOrM w || s.whoRole w 1)

/-- RESULT of the mode command. -/
def pwrResult (s : State) (r : Nat) : State := s.setFld Reg.SYS_PWR_STATUS 4 2 r

/-- The WATCH command (R626). DEDUCED (log 36). -/
def watchCommand (s : State) (force : Bool) : State :=
  let emitting := (List.range s.variant.engines).any (fun e => (s.eng e).emu.isSome)
  if s.fld Reg.SYS_PWR_STATUS 1 0 = 1 then pwrResult s 0
  else if s.fld Reg.SYS_PWR_STATUS 1 0 ≠ 0 ∨ (emitting ∧ !force) ∨ s.install.isSome then pwrResult s 1
  else pwrResult (watchEntry s) 0

/-- WATCH_CMD (R626). -/
def execWatchCmd (who : Requester) (force : Bool) (s : State) : Host.Outcome State Fault Refusal :=
  .next (respond who (if s.pwrAccess who then (watchCommand s force, true) else (s, false)))

/-- WATCH exit (R628): the boot order from step 7. DEDUCED (log 36). -/
def watchExit (s : State) : State := runenRise (setMode s 3)

/-- A sensor of group 15 reads above 100 °C (R626). -/
def group15Hot (s : State) : Bool :=
  (List.range 4).any (fun i =>
    let r := s.fld (Reg.TMP_SENSs (60 + i)) 15 0
    r != 0x8000 && decide (6400 < sint 16 r))

/-- The RUN command (R626). -/
def runCommand (s : State) : State :=
  if s.fld Reg.SYS_PWR_STATUS 1 0 = 2 then pwrResult s 3
  else if s.fld Reg.SYS_PWR_STATUS 1 0 ≠ 1 then pwrResult s 0
  else if s.tmp.tripped && group15Hot s then pwrResult s 2
  else watchExit (pwrResult s 0)

/-- RUN_CMD (R626, R628). -/
def execRunCmd (who : Requester) (s : State) : Host.Outcome State Fault Refusal :=
  .next (respond who (if s.pwrAccess who then (runCommand s, true) else (s, false)))

/-! ### The fixed trip (R576) -/

/-- After a trip, the safe-state order is followed by WATCH entry. DEDUCED (log 33). -/
def tripShutdown (s : State) : State :=
  if s.tmp.tripped && s.safeState == 0 && s.fld Reg.SYS_PWR_STATUS 1 0 != 1 then watchEntry s else s

/-- FIXED_TRIP (R576): the comparators at a check. Any tripped raises class F; none tripped clears the line, unless a group
    is blind (R575, R589). -/
def execFixedTrip (tripped : W64) (s : State) : Host.Outcome State Fault Refusal :=
  .next (
    let s := s.each (List.range 64) (fun s n => s.setBit (Reg.TMP_SENSs n) 17 (tripped.getLsbD n && s.sensorThere n))
    if s.anyTrip then tripShutdown (raise (s.modTmp (fun t => { t with tripped := true })) 31 2 true)
    else if s.live 31 && !(List.range 16).any (groupBlind s) then liveOff s 31 else s)

/-- FGRACE_EXPIRY (R550, R576). -/
def execFgraceExpiry (src : SrcIx) (s : State) : Host.Outcome State Fault Refusal :=
  .next (if (s.source src).grace = .f then
      let s := endF s src
      if src = 31 then tripShutdown s else s
    else s)

/-! ### HIBERNATE (R629, R630) -/

/-- The ENTER command: refused outside WATCH and while a source enabled in HIBEN is latched (R629). DEDUCED (log 33). -/
def hibEnter (s : State) : State :=
  if s.fld Reg.SYS_PWR_STATUS 1 0 ≠ 1 then s.setReg Reg.AON_HIB_STATUS 2
  else if (s.reg Reg.AON_WAKE_STATUS &&& s.reg Reg.AON_WAKE_EN) &&& 0x7F != 0 then s.setReg Reg.AON_HIB_STATUS 1
  else { keepAon (burnCut (safeOrder (s.setReg Reg.AON_HIB_STATUS 0) .command 0)) with power := .hibernate }

/-- HIB_ENTER (R629). -/
def execHibEnter (who : Requester) (s : State) : Host.Outcome State Fault Refusal :=
  .next (respond who (if s.controlAllowed who Reg.AON_HIB_CMD true && s.plantOrM who then (hibEnter s, true) else (s, false)))

/-- Wake source `k` occurs: it is latched, and wakes the device as the mode and the enables say (R630). DEDUCED (log 37). -/
def wakeSource (s : State) (k : Nat) : State :=
  let s := s.setBit Reg.AON_WAKE_STATUS k true
  match s.power with
  | .hibernate => if s.bit Reg.AON_WAKE_EN k then wholeReset s 3 else s
  | .on => if s.fld Reg.SYS_PWR_STATUS 1 0 = 1 ∧ s.bit Reg.AON_WAKE_EN (8 + k) then watchExit s else s
  | _ => s

/-- The LEVEL bit of WAKE or PRES0 to PRES3 (R633). DEDUCED (log 37). -/
def wakeLevelBit (k : Nat) : Option Nat := if k = 0 then some 16 else if 3 ≤ k ∧ k ≤ 6 then some (15 + k) else none

/-- WAKE_SOURCE (R630): source `src` of AON_WAKE_STATUS; for an input, whether it is taken as active. -/
def execWakeSource (src : BitVec 3) (active : Bool) (s : State) : Host.Outcome State Fault Refusal :=
  .next (let k := src.toNat
    if s.power = .dead ∨ k = 7 then s
    else match wakeLevelBit k with
      | some b =>
        let s := s.setBit Reg.AON_WAKECFG b active
        if active then wakeSource s k else s
      | none => wakeSource s k)

/-- A write of AON_WAKECFG: an input whose polarity changes is back at its inactive level (R621). DEDUCED (log 37). -/
def wakeCfgWrite (s : State) (v : W32) : State :=
  let was := s.reg Reg.AON_WAKECFG
  let s := s.setFld Reg.AON_WAKECFG 4 0 (fbits v 4 0)
  s.each (List.range 5) (fun s i =>
    if fbit was i == fbit v i then s else s.setBit Reg.AON_WAKECFG (if i = 0 then 16 else 17 + i) false)

end Sys2Proof.Machine
end

