-- ==== Sys2Proof/Machine/Domains.lean ====
section
/-! DEFINITION. The domain pages: doorbells (R134, R135), seat commands (R136) and the notification queue's control
(R133). -/

namespace Sys2Proof.Machine

/-- A write to domain `d`'s page (R131, R132): only the domain itself and M mode reach it. -/
def pageWrite (s : State) (w : Requester) (d : Nat) (f : State → State) : State :=
  respond w (if s.controlAllowed w (Reg.SYS_Dd_DBn d 0) true then (f s, true) else (s, false))

/-- The seat ID names a seat the record in force assigns to domain `d`, on an engine that is present (R136). -/
def State.assigned (s : State) (d i : Nat) : Bool :=
  decide (seatEngine i < s.variant.engines) && s.seatmap (seatPos i) / 8 % 2 == 1 && s.seatmap (seatPos i) % 8 == d

/-! ### Doorbells (R134, R135) -/

/-- A write of doorbell `n` of domain `d` (R134). -/
def doorbellWrite (s : State) (d n : Nat) (v : W32) : State :=
  let r := s.reg (Reg.SYS_Dd_DBROUTEn d n)
  if !fbit r 11 then s.count (Reg.SYS_Dd_DB_DROP d) 1
  else
    let s := s.setReg (Reg.SYS_Dd_DBVALn d n) v
    match sget none (s.dom d).doorbells n with
    | some _ => s
    | none =>
      let db := sset none (s.dom d).doorbells n (some (if fbit r 10 then plantSeat else fbits r 9 0))
      s.setDom d { s.dom d with doorbells := db }

/-- DOORBELL_WRITE (R134). -/
def execDoorbellWrite (who : Requester) (d : Nat) (n : BitVec 6) (value : W32) (s : State) : Host.Outcome State Fault Refusal :=
  .next (pageWrite s who d (fun s => doorbellWrite s d n.toNat value))

/-- A write of a doorbell's route (R135). -/
def dbrouteWrite (s : State) (d n : Nat) (v : W32) : State :=
  let ok := !fbit v 11 || (if fbit v 10 then (s.domain d).role == 3 else s.assigned d (fbits v 9 0))
  if ok then s.setReg (Reg.SYS_Dd_DBROUTEn d n) (v &&& 0xFFF) else s

/-- DBROUTE_WRITE (R135). -/
def execDbrouteWrite (who : Requester) (d : Nat) (n : BitVec 6) (value : W32) (s : State) : Host.Outcome State Fault Refusal :=
  .next (pageWrite s who d (fun s => dbrouteWrite s d n.toNat value))

/-! ### Seat commands (R136) -/

/-- SEATCMD_STATUS of domain `d`. -/
def seatResult (s : State) (d : Nat) (tag : BitVec 11) (code : Nat) : State :=
  s.setReg (Reg.SYS_Dd_SEATCMD_STATUS d) (BitVec.ofNat 32 (code + 2 ^ 21 * tag.toNat))

/-- The seat as START leaves it: every register but the M bank, HDOM and the STG counter is 0, CW.H is the domain's
    entry window, and it runs in H at the entry offset. Pending events stay (R137). -/
def Seat.start (t : Seat) (dom : Domain) (d : Nat) (entry : BitVec 40) : Seat :=
  let cw := mkDesc dom.entryBase.toNat dom.entryLen.toNat 5 d 0 dom.entryKtag.toNat false true
  let m := t.cw.filter (fun e => e.1 == Mode.m.code)
  { t with
    mode := .h, pc := entry, x := [], v := [], p := []
    w := t.w.filter (fun e => decide (20 ≤ e.1))
    cw := sset 0 m Mode.h.code cw
    scr := t.scr.filter (fun e => e.1 == 0x001 || decide (0x020 ≤ e.1))
    slotsT := 0, quantumUsed := 0, wait := .none, yielded := false, stopReq := none, timerArmed := false }

/-- START of seat `i` of domain `d` (R136). -/
def seatStart (s : State) (d i : Nat) (tag : BitVec 11) (entry : BitVec 40) : State :=
  if (s.seat i).st == .idle then
    seatResult ((s.modSeat i (fun t => t.start (s.domain d) d entry)).setSeatSt i .run) d tag 0
  else seatResult s d tag 3

/-- STOP: RESULT stays BUSY until the seat's boundary (R136). -/
def seatStop (s : State) (d i : Nat) (tag : BitVec 11) : State :=
  let t := s.seat i
  if t.st == .run || t.st == .wait then
    seatResult (s.modSeat i (fun t => { t with stopReq := some (d, tag), events := sset none t.events 0x25 none })) d tag 1
  else seatResult s d tag 3

/-- PREEMPT: the event becomes pending with the tag (R136). -/
def seatPreempt (s : State) (d i : Nat) (tag : BitVec 11) : State :=
  if (s.seat i).st == .off then seatResult s d tag 3
  else seatResult (postEvent s i 0x25 (BitVec.ofNat 64 tag.toNat)) d tag 0

/-- The write of SEATCMD_HI of domain `d` (R136): CMD, then the seat, are examined; ignored while RESULT is BUSY. -/
def seatCmd (s : State) (d cmd i : Nat) (tag : BitVec 11) (entry : BitVec 40) : State :=
  if s.fld (Reg.SYS_Dd_SEATCMD_STATUS d) 2 0 = 1 then s
  else if 3 ≤ cmd then seatResult s d tag 4
  else if i = plantSeat ∨ !s.assigned d i then seatResult s d tag 2
  else if cmd = 0 then seatStart s d i tag entry
  else if cmd = 1 then seatStop s d i tag
  else seatPreempt s d i tag

/-- SEATCMD_START (R136). DEDUCED (log 27). -/
def execSeatcmdStart (who : Requester) (d : Nat) (seat : BitVec 10) (tag : BitVec 11) (entry : BitVec 40) (s : State) :
    Host.Outcome State Fault Refusal :=
  .next (pageWrite s who d (fun s => seatCmd s d 0 seat.toNat tag entry))

/-- SEATCMD_STOP (R136). DEDUCED (log 27). -/
def execSeatcmdStop (who : Requester) (d : Nat) (seat : BitVec 10) (tag : BitVec 11) (s : State) :
    Host.Outcome State Fault Refusal :=
  .next (pageWrite s who d (fun s => seatCmd s d 1 seat.toNat tag 0))

/-- SEATCMD_PREEMPT (R136). -/
def execSeatcmdPreempt (who : Requester) (d : Nat) (seat : BitVec 10) (tag : BitVec 11) (s : State) :
    Host.Outcome State Fault Refusal :=
  .next (pageWrite s who d (fun s => seatCmd s d 2 seat.toNat tag 0))

/-- SEATCMD_UNASSIGNED (R136): CMD 3 to 7, here 3 + `cmd` mod 5. -/
def execSeatcmdUnassigned (who : Requester) (d : Nat) (cmd : BitVec 3) (seat : BitVec 10) (tag : BitVec 11) (s : State) :
    Host.Outcome State Fault Refusal :=
  .next (pageWrite s who d (fun s => seatCmd s d (3 + cmd.toNat % 5) seat.toNat tag 0))

/-- SEAT_STOP_BOUNDARY (R47, R136): at its boundary, or out of a stall that is abandoned, the seat goes to IDLE. -/
def execSeatStopBoundary (seat : Nat) (s : State) : Host.Outcome State Fault Refusal :=
  .next (let t := s.seat seat
    if t.stopReq.isNone || (t.st == .wait && !t.wait.abandoned) then s
    else
      let s := if t.st == .wait then abandon s seat else s
      stopDone (if t.st == .run || t.st == .wait then s.setSeatSt seat .idle else s) seat)

/-! ### The notification queue (R133) -/

/-- Queue indices keep only the bits below LOG2N (R133). -/
def nqMask (s : State) (d : Nat) : State :=
  let n := 2 ^ s.fld (Reg.SYS_Dd_NQ_CTL d) 4 1
  let s := s.setReg (Reg.SYS_Dd_NQ_HEAD d) (BitVec.ofNat 32 ((s.reg (Reg.SYS_Dd_NQ_HEAD d)).toNat % n))
  s.setReg (Reg.SYS_Dd_NQ_TAIL d) (BitVec.ofNat 32 ((s.reg (Reg.SYS_Dd_NQ_TAIL d)).toNat % n))

/-- A write of NQ_CTL: LOG2N and KTAG only while EN = 0; enabling sets NQ_TAIL to NQ_HEAD (R133). -/
def nqCtlWrite (s : State) (d : Nat) (v : W32) : State :=
  let a := Reg.SYS_Dd_NQ_CTL d
  if s.bit a 0 then s.setBit a 0 (fbit v 0)
  else
    let s := nqMask (s.setReg a (v &&& 0xFFFDF)) d
    if fbit v 0 then s.setReg (Reg.SYS_Dd_NQ_TAIL d) (s.reg (Reg.SYS_Dd_NQ_HEAD d)) else s

/-- NQ_CTL_WRITE (R133). -/
def execNqCtlWrite (who : Requester) (d : Nat) (value : W32) (s : State) : Host.Outcome State Fault Refusal :=
  .next (pageWrite s who d (fun s => nqCtlWrite s d value))

/-- A write of NQ_HEAD stores the value modulo the queue's size (R133). -/
def nqHeadWrite (s : State) (d : Nat) (v : W32) : State :=
  s.setReg (Reg.SYS_Dd_NQ_HEAD d) (BitVec.ofNat 32 (fbits v 14 0 % 2 ^ s.fld (Reg.SYS_Dd_NQ_CTL d) 4 1))

end Sys2Proof.Machine
end

