-- ==== Sys2Proof/Machine/Link.lean ====
section
/-! DEFINITION. The Umrak link: lanes and bundles (R325 to R336), training (R340, R341), sequencing, credits and
retransmission (R342 to R350), transmission (R344, R357); and the part of the ring tree a port's loss touches
(R378, R381). -/

namespace Sys2Proof.Machine

/-- A record of TYPE RING for domain `d` (R400). -/
def ringRecord (s : State) (d event cause node : Nat) (epoch : W32) (time : W64) : State :=
  notify s d 0x09 (leBytes 1 event ++ leBytes 1 cause ++ leBytes 2 node ++ leBytes 4 epoch.toNat ++ leBytes 8 time.toNat)

/-- A ring event for the press-control domain (R400). -/
def ringEvent (s : State) (event cause node : Nat) (time : W64) : State :=
  match s.roleDomain 1 with
  | some d => ringRecord s d event cause node (s.reg Reg.RNG_EPOCH) time
  | none => s

/-! ### The ring tree (R378, R381) -/

/-- Ring port `p`. -/
def State.rport (s : State) (p : Nat) : RingPort := sget RingPort.init s.ring.ports p
/-- Ring port `p` becomes `r`. -/
def State.setRport (s : State) (p : Nat) (r : RingPort) : State :=
  { s with ring := { s.ring with ports := sset RingPort.init s.ring.ports p r } }

/-- Port `p` is a ring port in UP. -/
def State.ringUp (s : State) (p : Nat) : Bool := s.portProf p == 2 && s.linkState p == 5

/-- ROOTPORT; 31 for none (R399). -/
def State.rootPort (s : State) : Nat := s.fld Reg.RNG_KEEPER 28 24

/-- The tree ports: the root port, and every port whose peer's last LINK carried ROOT = 1 (R378). -/
def State.treePorts (s : State) : List Nat :=
  (List.range 24).filter (fun p => s.ringUp p && (s.rootPort == p || (s.rport p).peerRoot))

/-- The tree has changed: forwarded frames still queued on ring ports are discarded and counted, and the route table is
    cleared (R381); RNG_PORTp_STAT follows; source 15 and TOPOLOGY report it (R398, R400). -/
def treeChanged (s : State) : State :=
  let s := s.each ((List.range 24).filter (fun p => s.portProf p == 2)) (fun s p =>
    s.each (List.range 6) (fun s c =>
      let q := ((s.link p).cls c).queue
      let n := (q.filter (fun e => e.fwd)).length
      (s.count Reg.RNG_RDROP n).modCls p c (fun x => { x with queue := q.filter (fun e => !e.fwd) })))
  let s := { s with ring := { s.ring with routes := [] } }
  let tree := s.treePorts
  let s := s.each (List.range 24) (fun s p =>
    (s.setBit (Reg.RNG_PORTp_STAT p) 0 (tree.contains p)).setBit (Reg.RNG_PORTp_STAT p) 1 (s.rootPort == p))
  ringEvent (raise s 15 0 false) 8 0 0 s.ringTime

/-- A change `f` of the state, and what a change of the tree ports brings. -/
def withTree (s : State) (f : State → State) : State :=
  let s' := f s
  if s'.treePorts = s.treePorts && s'.rootPort = s.rootPort then s' else treeChanged s'

/-- The better of two ring ports as root: fewer HOPS, then the lower peer UID (R378). -/
def betterRoot (s : State) (a b : Nat) : Bool :=
  match (s.rport a).hops, (s.rport b).hops with
  | some x, some y => decide (x < y) || (x == y && decide ((s.rport a).peerUid.toNat < (s.rport b).peerUid.toNat))
  | some _, none => true
  | none, _ => false

/-- HOLD begins, or counts its 16 TSYNC frames anew; a HOLDOVER of 0 excludes at its start (R389, R399). DEDUCED (log 66). -/
def startHold (s : State) : State :=
  let since := if s.bit Reg.RNG_STATUS 3 then s.ring.holdSince else s.ringTime
  let s := s.setBit Reg.RNG_STATUS 3 true
  { s with ring := { s.ring with holdSync := 0, holdSince := since,
                                 holdover := s.ring.holdover || s.fld Reg.RNG_LOSS 23 16 == 0 } }

/-- The root port is chosen anew among the ring ports in UP that have shown HOPS; HOLD restarts its count (R378, R389). -/
def chooseRoot (s : State) : State :=
  let cands := (List.range 24).filter (fun p => s.ringUp p && (s.rport p).hops.isSome)
  let best := cands.foldl (fun b p => match b with
    | none => some p
    | some q => if betterRoot s p q then some p else some q) (none : Option Nat)
  let s := s.setFld Reg.RNG_KEEPER 28 24 (best.getD 31)
  if s.fld Reg.RNG_STATUS 1 0 = 0 then s else startHold s

/-! ### State of a link (R330 to R334) -/

/-- HOLD of a link, ms (R334, R366). -/
def State.linkHold (s : State) (k : Nat) : Nat :=
  if k < 24 then s.fld (Reg.UMK_PORTp_CFG k) 15 8 else s.fld Reg.UMK_CFG 15 8
/-- RTO of a link, us (R350). -/
def State.linkRto (s : State) (k : Nat) : Nat :=
  if k < 24 then s.fld (Reg.UMK_PORTp_CFG k) 7 0 else s.fld Reg.UMK_CFG 7 0

/-- Bit `i` of a WANT mask set or cleared. -/
def maskBit (m : BitVec 8) (i : Nat) (b : Bool) : BitVec 8 := fsetb m i b

/-- The bundle lane of a lane, from its peer's marker. -/
def State.blane (s : State) (l : Nat) : Nat := s.fld (Reg.UMK_LANEl_STAT l) 6 4

/-- MASK := own WANT and the peer's last WANT; the lanes' ACTIVE bits follow (R332). DEDUCED (log 63). -/
def refreshMask (s : State) (k : Nat) : State :=
  let l := s.link k
  let m := l.want &&& l.peerWant
  let s := s.setLink k { l with mask := m }
  let s := if k < 24 then s.setFld (Reg.UMK_PORTp_STATE k) 10 3 m.toNat else s
  s.each (s.linkLanes k) (fun s n =>
    s.setBit (Reg.UMK_LANEl_STAT n) 3 (m.getLsbD (s.blane n) && s.bit (Reg.UMK_LANEl_STAT n) 1))

/-- The link leaves its state for DOWN. An UP that ends may be resumed within HOLD (R334); a ring port out of UP is an
    event of source 15, and the root port is chosen anew if it was that one (R378, R398).
    DEDUCED (log 63). DESIGN CHOICE (log 88). -/
def linkDown (s : State) (k : Nat) : State :=
  let up := s.linkState k == 5
  withTree s (fun s =>
    let l := s.link k
    let s := s.setLink k { l with
      resumable := if up then (if s.linkHold k = 0 then none else some l.peerUid) else l.resumable,
      helloRx := false, readyRx := false, readyTx := false, mask := 0 }
    let s := s.setLinkState k 1
    let s := if k < 24 then s.setFld (Reg.UMK_PORTp_STATE k) 10 3 0 else s
    let s := s.each (s.linkLanes k) (fun s n => s.setBit (Reg.UMK_LANEl_STAT n) 3 false)
    if up && decide (k < 24) && s.portProf k == 2 then
      let s := s.setRport k { s.rport k with hops := none, peerRoot := false, better := 0 }
      let s := raise s 15 0 false
      if s.rootPort = k then chooseRoot s else s
    else s)

/-- The link goes UP (R334, R341, R345): resumed with the peer of the last UP, its sequence state is kept and
    retransmission restarts from the peer's EXPECT; otherwise fresh, and everything queued is discarded. -/
def linkUp (s : State) (k : Nat) : State :=
  let l := s.link k
  let resumed := l.resumable == some l.peerUid
  let classes := (List.range 6).map (fun c =>
    let x := l.cls c
    let base := if resumed then
      let rest := x.replay.filter (fun e => decide ((e.1 - (l.peerExpects[c]?).getD 0).toNat < 2 ^ 31))
      { x with replay := rest, resend := rest }
    else LinkClass.init
    (c, { base with credits := (l.peerCredits[c]?).getD 0, lastReport := 0, freed := 0, reported := 0,
                    unacked := 0, nakSent := false }))
  let l := { l with classes := classes.filter (fun e => e.2 != LinkClass.init), resumable := none,
                    segs := if resumed then l.segs else [] }
  let s := (s.setLink k l).setLinkState k 5
  if k < 24 then
    withTree ((s.setBit (Reg.UMK_PORTp_STATE k) 16 resumed).setReg64 (Reg.UMK_PORTp_PEER_LO k) l.peerUid)
      (fun s => s.setRport k { s.rport k with peerUid := l.peerUid })
  else s

/-- Both ends have sent and received READY: UP (R340). -/
def tryUp (s : State) (k : Nat) : State :=
  if s.linkState k = 4 && (s.link k).readyRx && (s.link k).readyTx then linkUp s k else s

/-- The link is OFF: profile OFF applied, or the lane's mode changed from 2 (R330). -/
def linkOff (s : State) (k : Nat) : State :=
  let s := if s.linkState k = 5 then linkDown s k else s
  (s.setLink k Link.init).setLinkState k 0

/-- The profile number a link's end sends in TRAIN (R340). -/
def State.trainProf (s : State) (k : Nat) : Nat := if k < 24 then (if s.portProf k = 2 then 4 else 1) else 2

/-- Profiles 0 and 1 fit, as do 2 and 3, and 4 with 4 (R340). -/
def profFits (mine theirs : Nat) : Bool :=
  (mine == 1 && theirs == 0) || (mine == 2 && theirs == 3) || (mine == 4 && theirs == 4)

/-- The credits the device advertises (R343, R370). -/
def State.advertised (s : State) (k : Nat) : List Nat :=
  if 24 ≤ k then [0, 0, 0, 0, 0, 0]
  else
    let w := if s.portEth k then 1 else 2 ^ fbits (s.act (Reg.UMK_PORTp_LANES k)) 1 0
    if s.portProf k = 2 then [0, 65, 0, 32 * w + 65, 0, 128 * w]
    else [0, 0, 0, 32 * w + 65, 128 * w, 128 * w]

/-- A LANES value the device takes (R329): FIRST a multiple of WIDTH, all lanes present and in one lane complex. -/
def lanesValid (v : Variant) (w : W32) : Bool :=
  fbit w 9 ||
    (let wd := 2 ^ fbits w 1 0
     let f := fbits w 8 2
     f % wd == 0 && decide (f + wd ≤ v.lanes) && f / 12 == (f + wd - 1) / 12)

/-- Lanes that no port names any more: idle, with neither lock nor adaptation (R329). DEDUCED (log 63). -/
def lanesIdle (s : State) (ls : List Nat) : State :=
  s.each ls (fun s l => s.setReg (Reg.UMK_LANEl_STAT l) (s.reg (Reg.UMK_LANEl_STAT l) &&& 0xFFFFFF75))

/-- Lanes leave the bundle of port `p`, which stays UP: those in use drop out of it (R332, R333, R365). DEDUCED (log 63). -/
def lanesLeave (s : State) (p : Nat) (ls : List Nat) : State :=
  let s := s.each ls (fun s l =>
    if s.bit (Reg.UMK_LANEl_STAT l) 3 then
      let s := s.setLink p { s.link p with want := maskBit (s.link p).want (s.blane l) false }
      raise (s.count (Reg.UMK_PORTp_LANEDROP p) 1) 14 0 false
    else s)
  refreshMask (lanesIdle s ls) p

/-- A port over Ethernet that is DOWN goes to BOND while its MAC reports link up (R330). DEDUCED (log 63). -/
def ethBond (s : State) (p : Nat) : State :=
  if s.portEth p && s.linkState p == 1 && s.bit (Reg.ETHg_STATUS (fbits (s.act (Reg.UMK_PORTp_LANES p)) 13 10)) 0 then
    s.setLinkState p 4 else s

/-- A staged LANES value of port `p` has come into force, in place of `old` (R329, R330, R333, R369). DEDUCED (log 63). -/
def lanesApplied (s : State) (p : Nat) (old : W32) : State :=
  let new := s.act (Reg.UMK_PORTp_LANES p)
  let clash := (lanesOf new).any (fun l => (List.range 24).any (fun q => q != p && (s.linkLanes q).contains l))
  let bad := (fbits new 15 14 != 0 && clash) || (fbits new 15 14 == 2 && fbit new 9)
  let was := if fbits old 15 14 = 0 then [] else lanesOf old
  let s := s.setBit (Reg.UMK_PORTp_STATE p) 15 bad
  if bad then lanesIdle (linkOff (s.setAct (Reg.UMK_PORTp_LANES p) (fset new 15 14 0)) p) was
  else if fbits new 15 14 = 0 then lanesIdle (linkOff s p) was
  else if s.linkState p = 0 then ethBond (s.setLinkState p 1) p
  else if new = old then s
  else
    let keeps := fbits old 15 14 == fbits new 15 14 && !fbit new 9 && !fbit old 9 &&
      (lanesOf new).any (fun l => (lanesOf old).contains l && s.bit (Reg.UMK_LANEl_STAT l) 3)
    let gone := was.filter (fun l => !(lanesOf new).contains l)
    if keeps then
      let s := lanesLeave s p gone
      if s.linkState p = 5 && (s.link p).mask = 0 then linkDown s p else s
    else
      let s := linkDown s p
      ethBond (lanesIdle (s.setLink p { s.link p with want := 0, peerWant := 0 }) gone) p

/-! ### Lanes (R327 to R336) -/

/-- LANE_SIGNAL_DETECT: signal on a lane; a DOWN link starts detection (R330). -/
def execLaneSignalDetect (lane : Nat) (s : State) : Host.Outcome State Fault Refusal :=
  .next (match s.laneLink lane with
    | none => s
    | some k =>
      if s.islandOn (14 + lane / 12) then
        let s := s.setBit (Reg.UMK_LANEl_STAT lane) 0 true
        if s.linkState k = 1 then s.setLinkState k 2 else s
      else s)

/-- LANE_LOCK: block, FEC and marker lock on a lane, whose marker places it at `blane`; DETECT becomes EQUALISE (R328, R330). -/
def execLaneLock (lane blane : Nat) (s : State) : Host.Outcome State Fault Refusal :=
  .next (match s.laneLink lane with
    | none => s
    | some k =>
      if s.bit (Reg.UMK_LANEl_STAT lane) 0 then
        let s := (s.setBit (Reg.UMK_LANEl_STAT lane) 1 true).setFld (Reg.UMK_LANEl_STAT lane) 6 4 blane
        if s.linkState k = 2 then s.setLinkState k 3 else s
      else s)

/-- LANE_ADAPT_DONE: a lane is adapted; EQUALISE becomes BOND, and before UP the lane is wanted at once (R330, R335). -/
def execLaneAdaptDone (lane : Nat) (s : State) : Host.Outcome State Fault Refusal :=
  .next (match s.laneLink lane with
    | none => s
    | some k =>
      if s.bit (Reg.UMK_LANEl_STAT lane) 1 then
        let s := s.setBit (Reg.UMK_LANEl_STAT lane) 7 true
        if s.linkState k = 5 then s
        else
          let l := s.link k
          let s := s.setLink k { l with want := maskBit l.want (s.blane lane) true }
          if s.linkState k = 3 then s.setLinkState k 4 else s
      else s)

/-- MARKER_SEND: the lane's marker, with TXMASK own WANT and the peer's (R327, R332). -/
def execMarkerSend (lane : Nat) (s : State) : Host.Outcome State Fault Refusal :=
  .next (match s.laneLink lane with
    | none => s
    | some k =>
      let l := s.link k
      let first := if k < 24 then fbits (s.act (Reg.UMK_PORTp_LANES k)) 8 2 else lane
      let w := (s.linkLanes k).length
      { s with out := s.out ++ [.marker lane
          { blane := lane - first, width := w, want := l.want.toNat, txmask := (l.want &&& l.peerWant).toNat,
            uidlo := BitVec.ofNat 32 s.uid.toNat }] })

/-- A lane fails (R332): out of WANT and the mask, with the event of R365 from an UP bundle; with no lane left the link
    goes DOWN. DEDUCED (log 63). DESIGN CHOICE (log 88). -/
def laneFail (s : State) (k lane : Nat) (why : LaneFailure) : State :=
  let s := { s with mcrcBad := sset 0 s.mcrcBad lane 0 }
  let st := s.reg (Reg.UMK_LANEl_STAT lane)
  let st := fsetb (fsetb (fsetb st 7 false) 1 false) 0 (fbit st 0 && why != .signal)
  let l := s.link k
  let wanted := l.want.getLsbD (s.blane lane)
  let s := s.setReg (Reg.UMK_LANEl_STAT lane) st
  let s := s.setLink k { l with want := maskBit l.want (s.blane lane) false }
  let s := refreshMask s k
  if s.linkState k = 5 then
    let s := if wanted then raise (if k < 24 then s.count (Reg.UMK_PORTp_LANEDROP k) 1 else s) 14 0 false else s
    if (s.link k).mask = 0 then linkDown s k else s
  else if 2 ≤ s.linkState k && (s.linkLanes k).all (fun n => !s.bit (Reg.UMK_LANEl_STAT n) 1) then linkDown s k
  else s

/-- LANE_FAIL: loss of signal or lock, two bad MCRC in a row, or 16 uncorrectable codewords in 1 ms (R332). -/
def execLaneFail (lane : Nat) (why : LaneFailure) (s : State) : Host.Outcome State Fault Refusal :=
  .next (match s.laneLink lane with
    | none => s
    | some k => laneFail (if why = .fec then s.count (Reg.UMK_LANEl_FECUE lane) 16 else s) k lane why)

/-- RX_MARKER: a marker places its lane, sets its inversion and the peer's WANT, and the mask follows; the second bad
    MCRC in a row fails the lane (R328, R332). -/
def execRxMarker (lane : Nat) (m : Marker) (inv mcrcOk : Bool) (s : State) : Host.Outcome State Fault Refusal :=
  .next (match s.laneLink lane with
    | none => s
    | some k =>
      if !s.bit (Reg.UMK_LANEl_STAT lane) 1 then s
      else if !mcrcOk then
        let n := sget 0 s.mcrcBad lane + 1
        if n < 2 then { s with mcrcBad := sset 0 s.mcrcBad lane n } else laneFail s k lane .mcrc
      else
        let s := { s with mcrcBad := sset 0 s.mcrcBad lane 0 }
        let s := (s.setBit (Reg.UMK_LANEl_STAT lane) 2 inv).setFld (Reg.UMK_LANEl_STAT lane) 6 4 m.blane
        let s := s.setLink k { s.link k with peerWant := BitVec.ofNat 8 m.want }
        let s := refreshMask s k
        if s.linkState k = 5 && (s.link k).mask = 0 then linkDown s k else s)

/-- LANE_REJOIN: after REJOIN × 10 ms of clean lock the lane is wanted again; REJOIN 0 gives none (R333). -/
def execLaneRejoin (lane : Nat) (s : State) : Host.Outcome State Fault Refusal :=
  .next (match s.laneLink lane with
    | none => s
    | some k =>
      let rejoin := if k < 24 then s.fld (Reg.UMK_PORTp_CFG k) 23 16 else 0
      let st := s.reg (Reg.UMK_LANEl_STAT lane)
      if rejoin != 0 && fbit st 1 && fbit st 7 then
        refreshMask (s.setLink k { s.link k with want := maskBit (s.link k).want (s.blane lane) true }) k
      else s)

/-- PORT_HOLD_EXPIRY: a link that is on and not UP for longer than HOLD can no longer resume, and source 14 reports a
    drop-stream link or host port (R334, R365). DEDUCED (log 63). -/
def execPortHoldExpiry (link : Nat) (s : State) : Host.Outcome State Fault Refusal :=
  .next (if s.linkState link != 5 && s.linkState link != 0 then
      let s := s.setLink link { s.link link with resumable := none }
      if 24 ≤ link ∨ s.portProf link = 1 then raise s 14 0 false else s
    else s)

/-- LANE_REFCLK_LOSS: a complex's selected reference is lost; with FAILOVER it moves to the other input (R336). -/
def execLaneRefclkLoss (complex : Nat) (s : State) : Host.Outcome State Fault Refusal :=
  .next (if complex < 8 && s.bit Reg.UMK_REFCFG (8 + complex) then
      { s with refMoved := smod false s.refMoved complex (fun b => !b) }
    else s)

/-! ### Training (R340, R341) -/

/-- TRAIN_SEND_TICK: in BOND a HELLO, or a READY once a HELLO has been received (R340). -/
def execTrainSendTick (link : Nat) (s : State) : Host.Outcome State Fault Refusal :=
  .next (if s.linkState link = 4 then
      let l := s.link link
      let t : Train := { sub := if l.helloRx then 2 else 1, prof := s.trainProf link, ver := 1, uid := s.uid,
                         node := s.fld Reg.RNG_STATUS 19 8, credits := s.advertised link,
                         expects := (List.range 6).map (fun c => (l.cls c).expect) }
      let s := countEth { s with out := s.out ++ [.train link t] } link
      tryUp (s.setLink link { l with readyTx := l.readyTx || l.helloRx }) link
    else s)

/-- PROFERR of a port (R366). -/
def setProferr (s : State) (k : Nat) (b : Bool) : State :=
  if k < 24 then s.setBit (Reg.UMK_PORTp_STATE k) 14 b else s

/-- BADFRM of a port (R339). -/
def countBad (s : State) (k : Nat) : State := if k < 24 then s.count (Reg.UMK_PORTp_BADFRM k) 1 else s

/-- RX_TRAIN: outside BOND it is discarded. A peer CREDIT of 1 to 64 cells is no valid TRAIN: it counts as BADFRM and
    sets PROFERR, as an incompatible profile does; a valid one clears it and advances bonding (R340, R341). -/
def execRxTrain (link : Nat) (t : Train) (s : State) : Host.Outcome State Fault Refusal :=
  .next (if s.linkState link != 4 then s
    else if t.ver != 1 || !(t.sub == 1 || t.sub == 2) then countBad s link
    else if t.credits.any (fun c => decide (1 ≤ c) && decide (c ≤ 64)) then setProferr (countBad s link) link true
    else if !profFits (s.trainProf link) t.prof then setProferr s link true
    else
      let l := s.link link
      let s := setProferr s link false
      let s := if link < 24 then
          (s.setFld (Reg.UMK_PORTp_STATE link) 13 11 t.prof).setReg64 (Reg.UMK_PORTp_PEER_LO link) t.uid else s
      let s := s.setLink link { l with
        helloRx := l.helloRx || t.sub == 1, readyRx := l.readyRx || t.sub == 2, peerUid := t.uid,
        peerCredits := t.credits, peerExpects := t.expects }
      tryUp s link)

/-! ### Sequencing, credits and retransmission (R342 to R350) -/

/-- A received credit report (R342): the increase since the last one, modulo 8,192, is added. DEDUCED (log 62). -/
def creditIn (s : State) (k crcls crcount : Nat) : State :=
  if crcls < 6 then
    s.modCls k crcls (fun c =>
      { c with credits := c.credits + (crcount + 8192 - c.lastReport) % 8192, lastReport := crcount })
  else s

/-- A sequenced frame of LEN `len` against the class's expected number (R346, R349); none when it is not accepted. The
    consumer frees its cells at once. DEDUCED (log 62). -/
def acceptSeq (s : State) (k cls : Nat) (seq : W32) (len : Nat) : Bool × State :=
  let c := (s.link k).cls cls
  let d := (seq - c.expect).toNat
  if d = 0 then
    (true, s.modCls k cls (fun c => { c with expect := c.expect + 1, unacked := c.unacked + 1, nakSent := false,
                                             freed := (c.freed + cells len) % 8192 }))
  else if 2 ^ 32 - 1024 ≤ d then
    (false, sendControl (if k < 24 then s.count (Reg.UMK_PORTp_DUP k) 1 else s) k 1 cls (c.expect - 1))
  else
    let s := if k < 24 then s.count (Reg.UMK_PORTp_SEQERR k) 1 else s
    if d < 2 ^ 31 && !c.nakSent then
      (false, sendControl (s.modCls k cls (fun c => { c with nakSent := true })) k 2 cls c.expect)
    else (false, s)

/-- RX_CORRUPT_FRAME: a failing HCRC is counted and nothing used; a malformed frame is BADFRM with its credit return
    used; a failing trailer is a lost frame, with a NAK when it was the expected one (R339, R349). -/
def execRxCorruptFrame (link : Nat) (what : Corruption) (s : State) : Host.Outcome State Fault Refusal :=
  .next (match what with
    | .header => if link < 24 then s.count (Reg.UMK_PORTp_CRCERR link) 1 else s
    | .malformed c n => creditIn (countBad s link) link c n
    | .trailer cls seq c n =>
      let s := creditIn (if link < 24 then s.count (Reg.UMK_PORTp_CRCERR link) 1 else s) link c n
      let x := (s.link link).cls cls
      if s.linkState link = 5 && seq = x.expect && !x.nakSent then
        sendControl (s.modCls link cls (fun c => { c with nakSent := true })) link 2 cls x.expect
      else s)

/-- RX_CRED: a credit report (R342). -/
def execRxCred (link crcls crcount : Nat) (s : State) : Host.Outcome State Fault Refusal :=
  .next (if s.linkState link = 5 then creditIn s link crcls crcount else s)

/-- Frames up to and including `seq` are acknowledged (R348). -/
def ackFrames (s : State) (k cls : Nat) (seq : W32) : State :=
  let keep (e : W32 × Frame) : Bool := decide (0 < (e.1 - seq).toNat) && decide ((e.1 - seq).toNat < 2 ^ 31)
  s.modCls k cls (fun c => { c with replay := c.replay.filter keep, resend := c.resend.filter keep })

/-- RX_ACK (R348). -/
def execRxAck (link cls : Nat) (seq : W32) (crcls crcount : Nat) (s : State) : Host.Outcome State Fault Refusal :=
  .next (if s.linkState link = 5 then ackFrames (creditIn s link crcls crcount) link cls seq else s)

/-- The frame numbered `seq` and every later unacknowledged one are to be sent again, once (R349). DEDUCED (log 62). -/
def resendFrom (s : State) (k cls : Nat) (seq : W32) : State :=
  s.modCls k cls (fun c =>
    if c.replay.any (fun e => e.1 == seq) then { c with resend := c.replay.dropWhile (fun e => e.1 != seq) } else c)

/-- RX_NAK (R349). -/
def execRxNak (link cls : Nat) (seq : W32) (crcls crcount : Nat) (s : State) : Host.Outcome State Fault Refusal :=
  .next (if s.linkState link = 5 then resendFrom (creditIn s link crcls crcount) link cls seq else s)

/-- ACK_SEND: an ACK of everything accepted in the class (R348). -/
def execAckSend (link cls : Nat) (s : State) : Host.Outcome State Fault Refusal :=
  .next (let c := (s.link link).cls cls
    if s.linkState link = 5 && decide (0 < c.unacked) then
      sendControl (s.modCls link cls (fun c => { c with unacked := 0 })) link 1 cls (c.expect - 1)
    else s)

/-- CREDIT_REPORT: unreported freed cells of a class go out in a CRED frame (R342). -/
def execCreditReport (link cls : Nat) (s : State) : Host.Outcome State Fault Refusal :=
  .next (let c := (s.link link).cls cls
    if s.linkState link = 5 && c.freed != c.reported then
      let s := s.modCls link cls (fun c => { c with reported := c.freed })
      countEth { s with out := s.out ++ [.control link 0 cls 0 cls c.freed] } link
    else s)

/-- RTO_EXPIRY: as if a NAK had named the oldest unacknowledged frame; RTO 0 gives none (R350). -/
def execRtoExpiry (link cls : Nat) (s : State) : Host.Outcome State Fault Refusal :=
  .next (match ((s.link link).cls cls).replay with
    | e :: _ => if s.linkState link = 5 && s.linkRto link != 0 then resendFrom s link cls e.1 else s
    | [] => s)

/-- A FIRE for a line waits until every DATA and BLANK of that line on its link has started (R357). -/
def fireReady (l : Link) (f : Frame) : Bool :=
  f.ftype != 4 || leAt f.payload 0 1 != 3 ||
    ((l.cls 2).queue.all (fun q => dropLine q.f.payload != dropLine f.payload))

/-- The class has a frame to start: a retransmission, or a new frame within credit and the window (R341, R347). -/
def sendable (l : Link) (c : Nat) : Bool :=
  let x := l.cls c
  !x.resend.isEmpty ||
    match x.queue with
    | q :: _ => decide (cells q.f.payload.length ≤ x.credits) && decide (x.replay.length < 1024) && fireReady l q.f
    | [] => false

/-- The class that sends next: drain order, with REQ and BLK given 1 start in 8 (R344). -/
def nextClass (l : Link) : Option Nat :=
  if decide (7 ≤ l.starve) && (sendable l 4 || sendable l 5) then some (if sendable l 4 then 4 else 5)
  else (List.range 6).find? (sendable l)

/-- A frame takes the counter's value as it leaves: KTIME of the keeper's own TSYNC, T1 of a DLYREQ, T3 of a DLYRSP
    (R386, R387). -/
def stamped (now : W64) (f : Frame) : Frame :=
  let put (off : Nat) : Frame := { f with payload := f.payload.take off ++ leBytes 8 now.toNat ++ f.payload.drop (off + 8) }
  if f.ftype != 10 then f
  else match leAt f.payload 0 1 with
    | 0x10 => if leAt f.payload 2 2 = 0 then put 16 else f
    | 0x11 => put 16
    | 0x12 => put 32
    | _ => f

/-- The frame class `x` starts: its number, itself, whether it is a retransmission, and the class after it: the oldest
    retransmission, or the queue's first frame with the next number, which takes its credits (R341, R344). -/
def LinkClass.start (now : W64) (x : LinkClass) : Option (W32 × Frame × Bool × LinkClass) :=
  match x.resend, x.queue with
  | e :: rest, _ => some (e.1, e.2, true, { x with resend := rest })
  | [], q :: rest =>
    let f := stamped now q.f
    let y := { x with queue := rest, txSeq := x.txSeq + 1, replay := x.replay ++ [(x.txSeq, f)] }
    some (x.txSeq, f, false, { y with credits := x.credits - cells f.payload.length })
  | [], [] => none

/-- One frame of class `c` starts on link `k`. -/
def startFrame (s : State) (k c : Nat) : State :=
  let l := s.link k
  match (l.cls c).start s.ringTime with
  | none => s
  | some (seq, f, retx, x) =>
    let l := { l with starve := if c < 4 then min 7 (l.starve + 1) else 0 }
    let (cc, cn, l) := creditReturn (l.setCls c x)
    let s := s.setLink k l
    let s := if retx then s.count (if k < 24 then Reg.UMK_PORTp_RETX k else Reg.UMK_LANEl_RETX (k - 24)) 1 else s
    countEth { s with out := s.out ++ [.frame k seq retx cc cn f] } k

/-- FRAME_SEND: the link starts the frame its priorities choose (R341, R344, R347, R357). -/
def execFrameSend (link : Nat) (s : State) : Host.Outcome State Fault Refusal :=
  .next (if s.linkState link = 5 then
      match nextClass (s.link link) with
      | some c => startFrame s link c
      | none => s
    else s)

/-- A received sequenced frame of an UP link: its credit return is used; a frame the profile does not take, or a class
    or LEN out of range, is BADFRM; otherwise its number decides (R339, R346). True when it is to be delivered. -/
def receive (s : State) (h : RxHdr) (ok : Bool) (len : Nat) : Bool × State :=
  if s.linkState h.link != 5 then (false, s)
  else
    let s := creditIn s h.link h.crcls h.crcount
    if !ok || decide (5 < h.cls) || decide (4096 < len) then (false, countBad s h.link)
    else acceptSeq s h.link h.cls h.seq len

end Sys2Proof.Machine
end

