-- ==== Sys2Proof/Machine/Web.lean ====
section
/-! DEFINITION. Webs: encoder edges, prediction, synthesis, states and commands (R181 to R194, R202 to R204, R657).
Times of edges are in 1/256 ns of ring time (R188). -/

namespace Sys2Proof.Machine

/-! ### A web and its registers -/

/-- Web `n`. -/
def State.web (s : State) (n : Nat) : Web := sget Web.init s.pos.webs n
/-- Web `n` becomes `w`. -/
def State.setWeb (s : State) (n : Nat) (w : Web) : State :=
  { s with pos := { s.pos with webs := sset Web.init s.pos.webs n w } }

/-- Ring time has come to `t` (1/256 ns). DESIGN CHOICE (log 86). DESIGN CHOICE (log 87). -/
def State.upTo (s : State) (t : W64) : State :=
  { s with ringTime := if s.ringTime.toNat < t.toNat / 256 then t >>> 8 else s.ringTime }
/-- Ring time in 1/256 ns. -/
def State.now256 (s : State) : Nat := s.ringTime.toNat * 256

/-- RATIO in force, u32.32 (R185). -/
def State.ratio (s : State) (n : Nat) : Nat := (s.act64 (Reg.POSn_RATIO_LO n)).toNat
/-- SRC in force: 0 ENC, 1 WEB, 2 RING (R185). -/
def State.webSrc (s : State) (n : Nat) : Nat := fbits (s.act (Reg.POSn_CFG n)) 1 0
/-- The state of a web: 0 IDLE, 1 SLOW, 2 RUN, 3 LOST. -/
def State.webState (s : State) (n : Nat) : Nat := s.fld (Reg.POSn_STATE n) 1 0
/-- P, u24.8 ns. -/
def State.period (s : State) (n : Nat) : Nat := (s.reg (Reg.POSn_PERIOD n)).toNat
/-- DWELL. -/
def State.dwell (s : State) (n : Nat) : Nat := s.fld (Reg.POSn_FILT n) 23 16
/-- CFGERR: PSLOW ≤ PRUN (R187). -/
def State.cfgErr (s : State) (n : Nat) : Bool :=
  decide ((s.reg (Reg.POSn_PSLOW n)).toNat ≤ (s.reg (Reg.POSn_PRUN n)).toNat)

/-- The web's state changes; POS_STATUS follows. -/
def State.setWebState (s : State) (n st : Nat) : State :=
  (s.setFld (Reg.POSn_STATE n) 1 0 st).setFld Reg.POS_STATUS (2 * n + 1) (2 * n) st

/-- UNCERT of a web (R192). -/
def State.setUncert (s : State) (n : Nat) (b : Bool) : State :=
  (s.setBit (Reg.POSn_STATE n) 2 b).setBit Reg.POS_STATUS (8 + n) b

/-- NSYN, and the trusted position as it reads. -/
def webView (s : State) (n : Nat) : State :=
  let w := s.web n
  (s.setFld (Reg.POSn_STATE n) 4 3 w.nsyn).setReg64 (Reg.POSn_TRUST_LO n) (BitVec.ofNat 64 (w.trusted.toNat / 2 ^ 16))

/-- The broadcast position as it reads (R191). -/
def publishPos (s : State) (n : Nat) : State :=
  s.setReg64 (Reg.POSn_POS_LO n) (BitVec.ofNat 64 ((s.web n).bcast.toNat / 2 ^ 16))

/-- Source 17's live line is active while any web is in LOST or a TOF overflow stands (R193, R204). -/
def lostLine (s : State) : State :=
  if (List.range 4).any (fun n => s.webState n == 3 || s.bit (Reg.TOFm_STAT n) 4) then s
  else if s.live 17 then liveOff s 17 else s

/-- The web enters LOST (R193): the broadcast freezes at the last trusted position, and source 17 is raised.
    DEDUCED (log 60). -/
def enterLost (s : State) (n cause : Nat) : State :=
  let w := s.web n
  let s := s.setWeb n { w with bcast := w.trusted, runc := 0, slowc := 0, revBad := true }
  let s := s.setReg (Reg.POSn_LOSTEDGE n) 0
  let s := (publishPos (webView (s.setWebState n 3) n) n).setFld (Reg.POSn_STATE n) 8 7 cause
  raise (s.setUncert n false) 17 1 true

/-! ### Edges (R182, R183, R186 to R190) -/

/-- The filtered period after an accepted forward edge at `t` (R188). A result above u24.8 is a value the manual does
    not give. DEDUCED (log 60). -/
def updatePeriod (s : State) (n : Nat) (t : W64) : State :=
  let w := s.web n
  match w.tReal with
  | none => s
  | some t0 =>
    let meas : Int := ((t.toNat - t0.toNat) / (w.nsyn + 1) : Nat)
    let p : Int := s.period n
    let p' := p + (meas - p) / 2 ^ s.fld (Reg.POSn_FILT n) 10 8
    if p' < 2 ^ 32 then s.setReg (Reg.POSn_PERIOD n) (BitVec.ofInt 32 p')
    else s.draw.2.setReg (Reg.POSn_PERIOD n) (BitVec.ofNat 32 s.draw.1.toNat)

/-- The accumulator moves by RATIO and becomes the trusted position; the revolution's net count follows (R184, R189). -/
def acceptEdge (s : State) (n : Nat) (t : W64) (fwd : Bool) : State :=
  let w := s.web n
  let r := BitVec.ofNat 80 (s.ratio n)
  let acc := if fwd then w.acc + r else w.acc - r
  let w := { w with acc := acc, trusted := acc, tBase := t, nsyn := 0,
                    tReal := if fwd then some t else w.tReal, revNet := w.revNet + (if fwd then 1 else -1) }
  webView (s.setWeb n w) n

/-- A counted edge in SLOW (R186): after DWELL fast forward edges in a row the web enters RUN. -/
def slowEdge (s : State) (n : Nat) (t : W64) (fwd : Bool) : State :=
  let w := s.web n
  let fast := match w.tReal with
    | some t0 => fwd && decide (t.toNat - t0.toNat < (s.reg (Reg.POSn_PRUN n)).toNat)
    | none => false
  let s := acceptEdge (if fwd then updatePeriod s n t else s) n t fwd
  let runc := if fast then w.runc + 1 else 0
  let s := s.setWeb n { s.web n with runc := runc }
  let s := s.setBit (Reg.POSn_STATE n) 6 (!fwd)
  if s.dwell n != 0 && decide (s.dwell n ≤ runc) && !s.cfgErr n then
    (s.setWeb n { s.web n with slowc := 0 }).setWebState n 2
  else s

/-- A counted edge in RUN (R186, R189): noise, or accepted; slow periods put the web back in SLOW. DEDUCED (log 60). -/
def runEdge (s : State) (n : Nat) (t : W64) (fwd : Bool) : State :=
  let w := s.web n
  if !fwd || decide (2 * (t.toNat - w.tBase.toNat) < s.period n) then s.count (Reg.POSn_NOISE_CNT n) 1
  else
    let s := (acceptEdge (updatePeriod s n t) n t true).setUncert n false
    let slowc := if (s.reg (Reg.POSn_PSLOW n)).toNat < s.period n then w.slowc + 1 else 0
    let s := s.setWeb n { s.web n with slowc := slowc }
    if max (s.dwell n) 1 ≤ slowc then (s.setWeb n { s.web n with runc := 0 }).setWebState n 1 else s

/-- LOSTEDGE counts the net forward edges counted in LOST (R193, R194). -/
def lostEdge (s : State) (n : Nat) (fwd : Bool) : State :=
  s.setReg (Reg.POSn_LOSTEDGE n) (s.reg (Reg.POSn_LOSTEDGE n) + (if fwd then 1 else -1))

/-- A change of an ENC input within 40 ns of the last counted one is not counted (R183). -/
def tooSoon (last : Option W64) (t : W64) : Bool :=
  match last with
  | some t0 => decide (t.toNat - t0.toNat < 40 * 256)
  | none => false

/-- ENC_EDGE: the levels of A and B after a change held for DEGLITCH, at its timestamp. Both changed: a quadrature
    error. Otherwise forward or reverse by DIR, judged in the web's state (R182, R183, R186, R189). -/
def execEncEdge (web : Nat) (a b : Bool) (t : W64) (s : State) : Host.Outcome State Fault Refusal :=
  .next (if !s.islandUp 22 then s
    else
      let s := s.upTo t
      let w := s.web web
      let (a0, b0) := w.levels
      let enc := s.webSrc web == 0
      if a == a0 && b == b0 then s
      else if tooSoon w.lastChange t then
        let s := s.setWeb web { w with levels := (a, b) }
        if enc then s.count (Reg.POSn_QERR_CNT web) 1 else s
      else
        let s := s.setWeb web { w with levels := (a, b), lastChange := some t }
        if a != a0 && b != b0 then (if enc then s.count (Reg.POSn_QERR_CNT web) 1 else s)
        else
          let aLeads := if a != a0 then a != b else b == a
          let fwd := aLeads != fbit (s.act (Reg.POSn_CFG web)) 4
          if !enc then s
          else match s.webState web with
            | 1 => slowEdge s web t fwd
            | 2 => runEdge s web t fwd
            | 3 => lostEdge s web fwd
            | _ => s)

/-- ENC_INDEX_EDGE: a counted rising index edge ends a revolution, stores its net count and checks it against EDGES
    (R204, R657). -/
def execEncIndexEdge (web : Nat) (t : W64) (s : State) : Host.Outcome State Fault Refusal :=
  .next (if !s.islandUp 22 || s.webSrc web != 0 then s
    else
      let s := s.upTo t
      let w := s.web web
      if tooSoon w.lastChange t then s.count (Reg.POSn_QERR_CNT web) 1
      else
        let s := s.setWeb web { w with lastChange := some t }
        if s.webState web = 0 then s
        else
          let edges := s.fld (Reg.POSn_REV web) 23 0
          let s := if w.revOn && !w.revBad then
              let s := s.setReg (Reg.POSn_IDX_CNT web) (BitVec.ofInt 32 w.revNet)
              if edges != 0 && w.revNet != (edges : Int) then
                raise (s.count (Reg.POSn_IDXERR_CNT web) 1) 17 0 false
              else s
            else s
          s.setWeb web { s.web web with revOn := true, revNet := 0, revBad := s.webState web == 3 })

/-- EDGE_SYNTHESIS: 1.5 P after t_base with no edge, the edge is synthesised at its predicted time; the third in a row
    loses the web (R190). Ring time has passed that point. -/
def execEdgeSynthesis (web : Nat) (s : State) : Host.Outcome State Fault Refusal :=
  .next (let w := s.web web
    if s.webState web != 2 || s.webSrc web != 0 || s.period web == 0 then s
    else
      let p := s.period web
      let s := s.upTo (BitVec.ofNat 64 (w.tBase.toNat + (3 * p) / 2 + 256))
      let w := { w with acc := w.acc + BitVec.ofNat 80 (s.ratio web), tBase := w.tBase + BitVec.ofNat 64 p,
                        nsyn := w.nsyn + 1, revNet := w.revNet + 1 }
      let s := webView ((s.setWeb web w).count (Reg.POSn_SYNTH_CNT web) 1) web
      if 3 ≤ w.nsyn then enterLost s web 1 else s)

/-! ### Enable and commands (R186, R194, R205) -/

/-- POSn_CTL.EN := 1: an ENC web goes from IDLE to SLOW; other sources give the state at the next broadcast (R186, R202). -/
def webEnable (s : State) (n : Nat) : State :=
  if s.bit (Reg.POSn_CTL n) 0 then s
  else
    let s := s.setBit (Reg.POSn_CTL n) 0 true
    let s := s.setWeb n { s.web n with tReal := none, nsyn := 0, runc := 0, slowc := 0, revOn := false, revNet := 0,
                                       revBad := false }
    let s := webView s n
    if s.webSrc n = 0 then s.setWebState n 1 else s

/-- POSn_CTL.EN := 0: the web is in IDLE, its position frozen (R186). -/
def webDisable (s : State) (n : Nat) : State :=
  let s := s.setBit (Reg.POSn_CTL n) 0 false
  let s := (s.setWebState n 0).setUncert n false
  lostLine (s.setWeb n { s.web n with revBad := true })

/-- WEB_ENABLE (R186). -/
def execWebEnable (web : Nat) (s : State) : Host.Outcome State Fault Refusal := .next (webEnable s web)
/-- WEB_DISABLE (R186). -/
def execWebDisable (web : Nat) (s : State) : Host.Outcome State Fault Refusal := .next (webDisable s web)

/-- The target of an armed mark: the pending position of a top-of-form mark, or its POS register (R197, R199). -/
def State.markTarget (s : State) (k : Nat) : Nat :=
  if s.bit (Reg.POS_MKk_CTL k) 6 then (sget 0 s.pos.markPos k).toNat else (s.reg64 (Reg.POS_MKk_POS_LO k)).toNat

/-- A mark's LATE note. -/
def State.setLate (s : State) (k : Nat) (b : Bool) : State :=
  { s with pos := { s.pos with markLate := sset false s.pos.markLate k b } }

/-- The position a web last broadcast, u48.16. -/
def State.bcastPos (s : State) (n : Nat) : Nat := (s.reg64 (Reg.POSn_POS_LO n)).toNat

/-- The staging sets of domain `d` (R294). -/
def State.stgDom (s : State) (d : Nat) : StgDom := sget StgDom.init s.stg d
/-- Domain `d`'s staging sets become `g`. -/
def State.setStgDom (s : State) (d : Nat) (g : StgDom) : State := { s with stg := sset StgDom.init s.stg d g }
/-- SEAM of domain `d`, u48.16. -/
def State.seamPos (s : State) (d : Nat) : Nat := (s.reg64 (Reg.SNP_STGd_SEAM_LO d)).toNat

/-- Armed seams of web `n` that the position has passed fire late (R300). DEDUCED (log 59). -/
def State.lateSeams (s : State) (n : Nat) : State :=
  s.each (List.range 8) (fun s d =>
    let g := s.stgDom d
    if g.armedOn && s.fld (Reg.SNP_STGd_CFG d) 1 0 == n && decide (s.seamPos d ≤ s.bcastPos n)
    then s.setStgDom d { g with late := true } else s)

/-- The web continues from accumulator `acc` (R194). DEDUCED (log 60). -/
def loadPosition (s : State) (n : Nat) (acc : BitVec 80) : State :=
  let w := { s.web n with acc := acc, trusted := acc, bcast := acc, nsyn := 0, tReal := none, runc := 0, slowc := 0 }
  let s := webView (s.setWeb n w) n
  let s := (publishPos s n).setReg (Reg.POSn_LOSTEDGE n) 0
  let s := (s.setBit (Reg.POSn_STATE n) 9 false).setFld (Reg.POSn_STATE n) 8 7 0
  if s.webState n = 0 then s else lostLine ((s.setWebState n 1).setUncert n false)

/-- An ignored command sets CMDERR (R194). -/
def cmdErr (s : State) (n : Nat) : State := s.setBit (Reg.POSn_STATE n) 9 true

/-- SET (R194): accepted in IDLE, SLOW and LOST of an ENC web; armed marks it passes fire late (R197). DEDUCED (log 60). -/
def posSet (s : State) (n : Nat) : State :=
  if s.webSrc n != 0 || s.webState n == 2 then cmdErr s n
  else
    let s := loadPosition s n (BitVec.ofNat 80 ((s.reg64 (Reg.POSn_SET_LO n)).toNat * 2 ^ 16))
    (s.each (List.range 64) (fun s k =>
      if s.bit (Reg.POS_MKk_CTL k) 0 && s.fld (Reg.POS_MKk_CTL k) 2 1 == n && decide (s.markTarget k ≤ s.bcastPos n)
      then s.setLate k true else s)).lateSeams n

/-- RESUME (R194): accepted in LOST of an ENC web. -/
def posResume (s : State) (n : Nat) : State :=
  if s.webSrc n != 0 || s.webState n != 3 then cmdErr s n
  else
    let edges := (s.reg (Reg.POSn_LOSTEDGE n)).toInt
    loadPosition s n ((s.web n).trusted + BitVec.ofInt 80 (edges * (s.ratio n : Int)))

/-- CLRCNT (R205). -/
def posClrcnt (s : State) (n : Nat) : State :=
  let s := (s.setReg (Reg.POSn_NOISE_CNT n) 0).setReg (Reg.POSn_SYNTH_CNT n) 0
  ((s.setReg (Reg.POSn_QERR_CNT n) 0).setReg (Reg.POSn_IDXERR_CNT n) 0).setBit (Reg.POSn_STATE n) 9 false

/-- POS_SET (R194). -/
def execPosSet (web : Nat) (s : State) : Host.Outcome State Fault Refusal := .next (posSet s web)
/-- POS_RESUME (R194). -/
def execPosResume (web : Nat) (s : State) : Host.Outcome State Fault Refusal := .next (posResume s web)
/-- POS_CLRCNT (R205). -/
def execPosClrcnt (web : Nat) (s : State) : Host.Outcome State Fault Refusal := .next (posClrcnt s web)

/-- RING_SAMPLE_TIMEOUT: a RING web without samples for 3 × PUBINT enters LOST with LCAUSE 3 (R203). -/
def execRingSampleTimeout (web : Nat) (s : State) : Host.Outcome State Fault Refusal :=
  .next (if s.webSrc web = 2 && s.bit (Reg.POSn_CTL web) 0 && s.webState web != 3 then
      enterLost (s.setWeb web { s.web web with sample := none }) web 3
    else s)

/-- An excluded device's RING webs enter LOST with LCAUSE 3 (R203, R392). -/
def ringWebsLost (s : State) : State :=
  s.each (List.range 4) (fun s n =>
    if s.webSrc n = 2 && s.bit (Reg.POSn_CTL n) 0 && s.webState n != 3 then enterLost s n 3 else s)

/-! ### Positions between edges (R191, R202, R203) -/

/-- The interpolated position at time `t` (1/256 ns), u48.32, without the monotonic hold (R191). With P 0 the full 1.5
    periods have passed. -/
def webCand (s : State) (n : Nat) (t : Nat) : Nat :=
  let w := s.web n
  let x := t - w.tBase.toNat
  let ph := if s.period n = 0 then (if x = 0 then 0 else 0x18000) else min (x * 65536 / s.period n) 0x18000
  w.acc.toNat + (s.ratio n * ph) / 65536

/-- A RING web's position at `t`: extrapolated from the last sample at RATIO / P, u48.32 (R203). -/
def ringCand (s : State) (n : Nat) (t : Nat) : Nat :=
  match (s.web n).sample with
  | some (pos, p, _, t0) =>
    pos.toNat * 65536 + (if p = 0 then 0 else s.ratio n * (t - t0.toNat * 256) / p.toNat)
  | none => (s.web n).bcast.toNat

/-- The web whose source drives web `n`, and the offsets of the WEB webs on the way, nearest first; none when a web on
    the way is disabled or the chain loops (R202). -/
def webRoot (s : State) : Nat → Nat → Option (Nat × List Int)
  | 0, _ => none
  | f + 1, n =>
    if !s.bit (Reg.POSn_CTL n) 0 then none
    else if s.webSrc n = 1 then
      match webRoot s f (fbits (s.act (Reg.POSn_CFG n)) 3 2) with
      | some (r, l) => some (r, (s.act64 (Reg.POSn_OFFSET_LO n)).toInt :: l)
      | none => none
    else some (n, [])

/-- A u48.16 position after the offsets on the way, each sum below 0 taken as 0 (R202). -/
def offsetPos (p : Nat) (offs : List Int) : Nat :=
  (offs.reverse.foldl (fun (q : Nat) (o : Int) => (max 0 ((q : Int) + o)).toNat) p) % 2 ^ 64

end Sys2Proof.Machine
end

