-- ==== Sys2Proof/Machine/Staging.lean ====
section
/-! DEFINITION. Staging sets (R293 to R301, R303, R323): entering a change, arming, loading a list, cancelling and
discarding. Applying a set is with the units it changes. -/

namespace Sys2Proof.Machine

/-- A staged register (R291). -/
def isStaged (a : Nat) : Bool :=
  match regRow a with
  | some r => r.type == .rws
  | none => false

/-- The domain whose open set a requester writes (R294). -/
def State.stgWriter (s : State) : Requester → Option Nat
  | .debug => s.roleDomain 1
  | w => s.whoDomain w

/-- RESULT codes of SNP_STGd_STATUS. -/
inductive StgResult
  | applied | seamLate | tooLarge | busy | badEntry | read | cancelled
  deriving DecidableEq, Repr

/-- The code. -/
def StgResult.code : StgResult → Nat
  | .applied => 1 | .seamLate => 2 | .tooLarge => 3 | .busy => 4 | .badEntry => 5 | .read => 6 | .cancelled => 7

/-- A result is reported in STATUS and in a STAGE record to the domain (R303). -/
def stgResult (s : State) (d : Nat) (r : StgResult) : State :=
  let s := s.setFld (Reg.SNP_STGd_STATUS d) 19 16 r.code
  notify s d 0x08 (leBytes 8 r.code ++ leBytes 8 (s.seamPos d) ++
    leBytes 8 (s.reg64 (Reg.SNP_STGd_APPLIED_LO d)).toNat)

/-- OPEN_N follows the open set. DEDUCED (log 58). -/
def stgCount (s : State) (d : Nat) : State := s.setFld (Reg.SNP_STGd_STATUS d) 9 0 (s.stgDom d).openSet.length

/-- Another domain's set holds the register (R295). -/
def State.stgHeld (s : State) (d a : Nat) : Bool :=
  (List.range 8).any (fun e => e != d && ((sfind a (s.stgDom e).openSet).isSome || (sfind a (s.stgDom e).armed).isSome ||
    (s.stgDom e).list.any (fun x => x.1 == a)))

/-- A change enters a domain's open set: refused on conflict (R295), not stored beyond 512 (R296). -/
def stageChange (s : State) (d a : Nat) (v : W32) : Written :=
  if s.stgHeld d a then (s.setBit (Reg.SNP_STGd_STATUS d) 12 true, false)
  else
    let g := s.stgDom d
    if (sfind a g.openSet).isNone && decide (512 ≤ g.openSet.length) then
      (s.setBit (Reg.SNP_STGd_STATUS d) 11 true, true)
    else (stgCount (s.setStgDom d { g with openSet := sput a v g.openSet }) d, true)

/-- The value a domain's armed set holds for a register: of its changes, or of its loaded list, whose last entry counts
    (R294, R297). -/
def StgDom.armedValue (g : StgDom) (a : Nat) : Option W32 :=
  match sfind a g.armed with
  | some v => some v
  | none => (g.list.reverse.find? (fun x => x.1 == a)).map (fun x => x.2)

/-- What a read of a staged register returns: the open set, then the armed set, then the register in force, as the
    reader's domain or else any domain holds it (R294). -/
def State.stagedRead (s : State) (a : Nat) : W32 :=
  match (List.range 8).findSome? (fun d => sfind a (s.stgDom d).openSet) with
  | some v => v
  | none =>
    match (List.range 8).findSome? (fun d => (s.stgDom d).armedValue a) with
    | some v => v
    | none => s.act a

/-- Domain `d` itself and M mode reach its staging page, with a write grant on SNP (R323). -/
def State.stgAccess (s : State) (w : Requester) (d : Nat) : Bool :=
  s.whoM w || (s.whoDomain w == some d && (s.domain d).grant 4 == 3)

/-- The armed set is gone (R299, R301). -/
def stgDisarm (s : State) (d : Nat) : State :=
  (s.setStgDom d { s.stgDom d with armed := [], armedOn := false, list := [], fired := false, late := false }).setFld
    (Reg.SNP_STGd_STATUS d) 14 13 0

/-- LIST_N. -/
def State.listN (s : State) (d : Nat) : Nat := (s.reg (Reg.SNP_STGd_LIST_N d)).toNat

/-- ARM (R299): BUSY while an armed set exists, CONFIG_TOO_LARGE on OVF; otherwise the open set is armed and a list
    starts loading. -/
def stgArm (s : State) (d : Nat) : State :=
  let g := s.stgDom d
  if g.armedOn then stgResult s d .busy
  else if s.bit (Reg.SNP_STGd_STATUS d) 11 then stgResult s d .tooLarge
  else
    let late := decide (s.seamPos d ≤ s.bcastPos (s.fld (Reg.SNP_STGd_CFG d) 1 0))
    let s := s.setStgDom d { openSet := [], armed := g.openSet, armedOn := true, list := [], fired := false, late := late }
    stgCount (s.setFld (Reg.SNP_STGd_STATUS d) 14 13 (if s.listN d = 0 then 2 else 1)) d

/-- STAGE_ARM (R299). -/
def execStageArm (who : Requester) (d : Nat) (s : State) : Host.Outcome State Fault Refusal :=
  .next (respond who (if s.stgAccess who d then (stgArm s d, true) else (s, false)))

/-- CANCEL ends the armed set and any loading, and reports CANCELLED (R301). -/
def stgCancel (s : State) (d : Nat) : State := stgResult (stgDisarm s d) d .cancelled

/-- STAGE_CANCEL (R301). -/
def execStageCancel (who : Requester) (d : Nat) (s : State) : Host.Outcome State Fault Refusal :=
  .next (respond who (if s.stgAccess who d then (stgCancel s d, true) else (s, false)))

/-- DISCARD empties the open set and clears OVF and PEND; pending first members of the domain go with PEND (R301). -/
def stgDiscard (s : State) (d : Nat) : State :=
  let s := s.setStgDom d { s.stgDom d with openSet := [] }
  let s := s.setBit (Reg.SNP_STGd_STATUS d) 11 false
  stgCount { s with pairHeld := s.pairHeld.filter (fun e => e.2.map (fun x => x.2) != some d) } d

/-- STAGE_DISCARD (R301). -/
def execStageDiscard (who : Requester) (d : Nat) (s : State) : Host.Outcome State Fault Refusal :=
  .next (respond who (if s.stgAccess who d then (stgDiscard s d, true) else (s, false)))

/-! ### Load lists (R297, R299) -/

/-- The key-tag and address of a LO/HI pair of the form of SNP_STGd_LIST: address and KTAG. -/
def State.ptr (s : State) (lo : Nat) : Nat × BitVec 14 :=
  ((s.reg lo).toNat + 2 ^ 32 * s.fld (lo + 4) 15 0, BitVec.ofNat 14 (s.fld (lo + 4) 29 16))

/-- `n` bytes at `a` lie in domain `d`'s ranges and carry the tag (R129), and are read. -/
def State.domRead (s : State) (d a n : Nat) (t : BitVec 14) : Option (List Byte) :=
  if (s.domain d).holdsRange a n && s.tagsMatch a n t then s.memRead a n else none

/-- Entry bytes as a change, if they name a staged register that domain `d` may stage (R297). -/
def listEntry (s : State) (d : Nat) (bs : List Byte) : Option (Nat × W32) :=
  let a := leAt bs 0 8
  match blockNumber a with
  | some b =>
    if isControl a && isStaged a && leAt bs 12 4 == 0 && (s.domain d).grant b == 3 && !s.stgHeld d a &&
        (sfind a (s.stgDom d).armed).isNone then some (a, BitVec.ofNat 32 (leAt bs 8 4)) else none
  | none => none

/-- Entries `i …` of a list, `n` of them, or the index and kind of the first failure. -/
def loadEntries (s : State) (d base : Nat) (t : BitVec 14) : Nat → Nat → Except (Nat × StgResult) (List (Nat × W32))
  | _, 0 => .ok []
  | i, n + 1 =>
    match s.domRead d (base + 16 * i) 16 t with
    | none => .error (i, .read)
    | some bs =>
      match listEntry s d bs with
      | none => .error (i, .badEntry)
      | some e =>
        match loadEntries s d base t (i + 1) n with
        | .ok l => .ok (e :: l)
        | .error x => .error x

/-- LOAD_LIST_DONE: the list of an armed set has been read; a bad entry or an unreadable list ends the set (R297, R299). -/
def execLoadListDone (d : Nat) (s : State) : Host.Outcome State Fault Refusal :=
  .next (if (s.stgDom d).armedOn && s.fld (Reg.SNP_STGd_STATUS d) 14 13 == 1 then
      let (a, t) := s.ptr (Reg.SNP_STGd_LIST_LO d)
      match loadEntries s d a t 0 (s.listN d) with
      | .ok l => (s.setStgDom d { s.stgDom d with list := l }).setFld (Reg.SNP_STGd_STATUS d) 14 13 2
      | .error (i, r) => stgResult (stgDisarm (s.setReg (Reg.SNP_STGd_BADIDX d) (BitVec.ofNat 32 i)) d) d r
    else s)

end Sys2Proof.Machine
end

