-- ==== Sys2Proof/Machine/Valve.lean ====
section
/-! DEFINITION. Solenoid channels: the active setpoint (R493), the regulator and dither (R494, R495), movement
detection and shutter requests (R496, R497), over-current, duty and thermal limits (R498 to R502), gangs (R500). -/

namespace Sys2Proof.Machine

/-- Channel `n`. -/
def State.vch (s : State) (n : Nat) : VRun := sget VRun.init s.plant.vs n
/-- Channel `n` becomes `r`. -/
def State.setVch (s : State) (n : Nat) (r : VRun) : State :=
  { s with plant := { s.plant with vs := sset VRun.init s.plant.vs n r } }
/-- Channel `n` changes by `f`. -/
def State.modVch (s : State) (n : Nat) (f : VRun → VRun) : State := s.setVch n (f (s.vch n))
/-- Thermal unit `n` beyond its registers. -/
def State.tu (s : State) (n : Nat) : TuRun := sget TuRun.init s.sens.tus n
/-- Thermal unit `n` changes by `f`. -/
def State.modTu (s : State) (n : Nat) (f : TuRun → TuRun) : State :=
  { s with sens := { s.sens with tus := smod TuRun.init s.sens.tus n f } }

/-! ### Gangs (R500) -/

/-- ROLE of a channel: 0 single, 1 gang leader, 2 gang member. -/
def State.vRole (s : State) (n : Nat) : Nat := s.fld (Reg.Vn_STATUS n) 8 7

/-- The members of the gang channel `n` leads; itself alone when it leads none. -/
def State.vGang (s : State) (n : Nat) : List Nat :=
  if s.vRole n = 1 then (List.range (2 ^ s.fld (Reg.Vn_CFG n) 9 8)).map (fun i => n + i) else [n]

/-- The channel whose registers govern channel `n`. -/
def State.vLeader (s : State) (n : Nat) : Nat :=
  if s.vRole n = 2 then (if s.vRole (n / 2 * 2) = 1 then n / 2 * 2 else n / 4 * 4) else n

/-- GANG of channel `n` may stand: the form is a leader's, and every further member is present, disabled and in no gang.
    DEDUCED (log 73). -/
def vGangOk (s : State) (n g : Nat) : Bool :=
  g == 0 || (n % 2 ^ g == 0 &&
    (List.range (2 ^ g - 1)).all (fun i =>
      decide (n + 1 + i < s.variant.vs) && !s.bit (Reg.Vn_CFG (n + 1 + i)) 0 && s.vRole (n + 1 + i) == 0))

/-! ### Active setpoint (R493) -/

/-- A before rows 2 and 3 of R493, at the governing channel `n`. -/
def vDemand (s : State) (n : Nat) : Nat :=
  let c := s.reg (Reg.Vn_CFG n)
  let setpt := s.fld (Reg.Vn_SETPT n) 12 0
  if !fbit c 0 then 0
  else if s.safeState != 3 then s.fld (Reg.Vn_SAFE n) 12 0
  else match fbits c 2 1 with
    | 0 => setpt
    | 1 =>
      if s.variant.les ≤ fbits c 7 3 then 0
      else match s.lePublished (fbits c 7 3) with
        | 0 => s.fld (Reg.Vn_LVL01 n) 12 0 | 1 => s.fld (Reg.Vn_LVL01 n) 28 16
        | 2 => s.fld (Reg.Vn_LVL23 n) 12 0 | _ => s.fld (Reg.Vn_LVL23 n) 28 16
    | _ => if (s.vch n).request.isSome then setpt else 0

/-- The active setpoint A of the governing channel `n` (R493). -/
def vActiveSetpoint (s : State) (n : Nat) : Nat :=
  if s.bit (Reg.Vn_STATUS n) 1 || s.bit (Reg.Vn_STATUS n) 2 then 0 else vDemand s n

/-! ### Dither (R495) -/

/-- The dither's wave at phase `p`, a u16 (R495). -/
def ditherWave (wave p : Nat) : Int :=
  match wave with
  | 0 => if p < 32768 then 2 * (p : Int) - 32768 else 98302 - 2 * (p : Int)
  | 1 => sinTable (p / 1024)
  | _ => if p < 32768 then 32767 else -32768

/-- The dither d of a channel with active setpoint `a` (R495). -/
def vDither (s : State) (n a : Nat) : Int :=
  let r := s.reg (Reg.Vn_DITHER n)
  sar ((min (fbits r 12 0) (a / 4) : Nat) * ditherWave (fbits r 23 22) ((s.vch n).phase / 65536) + 16384) 15

/-- What the phase accumulator advances by at each sample (R495). -/
def ditherStep (freq : Nat) : Nat := (freq * 2 ^ 32 + 1000000) / 2000000

/-- A pair of SETPT and DITHER may take effect (R495). -/
def ditherOk (setpt dither : W32) : Bool :=
  let amp := fbits dither 12 0
  decide (amp ≤ fbits setpt 12 0 / 4) && fbits dither 23 22 != 3 &&
    (amp == 0 || (decide (50 ≤ fbits dither 21 13) && decide (fbits dither 21 13 ≤ 500)))

/-! ### Movement detection (R496) -/

/-- The outcome goes to the thermal unit that holds the channel (R497): none is NO_MOVE. -/
def vReport (s : State) (n : Nat) (res : Option Nat) : State :=
  match (s.vch n).request with
  | some u => s.modTu u (fun t => { t with result := some res })
  | none => s

/-- The detection of channel `n` ends without a confirmed dip (R496). -/
def vNoMove (s : State) (n : Nat) : State :=
  match (s.vch n).det with
  | none => s
  | some _ =>
    let s := (s.modVch n (fun r => { r with det := none })).setBit (Reg.Vn_STATUS n) 6 false
    let s := (s.setReg (Reg.Vn_MOVE n) 0x300000).count (Reg.Vn_NOMOVECNT n) 1
    vReport s n none

/-- A dip is confirmed: TMOVE is the time of its minimum in µs (R496). -/
def vMoved (s : State) (n minAt : Nat) : State :=
  let t := minAt / 2
  let s := (s.modVch n (fun r => { r with det := none })).setBit (Reg.Vn_STATUS n) 6 false
  vReport (s.setReg (Reg.Vn_MOVE n) (BitVec.ofNat 32 (t % 2 ^ 20 + 2 ^ 20))) n (some t)

/-- Eight times the mean of the last eight sense samples (R496). -/
def sum8 (l : List Int) : Int := (l.take 8).foldl (· + ·) 0

/-- One sample of a detection, with Vn_G at `gate` (R496). -/
def vDetect (s : State) (n : Nat) (gate : Bool) : State :=
  match (s.vch n).det with
  | none => s
  | some d =>
    let mwin := s.fld (Reg.Vn_MOVECFG n) 15 0
    let mdip := s.fld (Reg.Vn_MOVECFG n) 28 16
    let m := sum8 (s.vch n).last8
    let next (d : Detection) : State :=
      if mwin * 20 ≤ d.n + 1 then vNoMove s n
      else s.modVch n (fun r => { r with det := some { d with n := d.n + 1 } })
    if !gate then
      if d.dip then vMoved s n d.minAt else next { d with runMax := none }
    else if d.dip then
      let d := if m < d.runMin then { d with runMin := m, minAt := d.n } else d
      if m ≥ d.runMin + 8 * ((mdip / 2 : Nat) : Int) then vMoved s n d.minAt else next d
    else
      let top := match d.runMax with | some x => max x m | none => m
      if mdip ≠ 0 ∧ m ≤ top - 8 * (mdip : Int) then next { d with runMax := some top, dip := true, runMin := m, minAt := d.n }
      else next { d with runMax := some top }

/-! ### Protection (R498 to R502) -/

/-- `|v|` is below 7/8 of its value at the event, or below 64 counts (R502). -/
def vDecayed (v : Int) (at0 : Nat) : Bool := decide (8 * v.natAbs < 7 * at0) || decide (v.natAbs < 64)

/-- The last sense result of channel `n`. -/
def vSense (s : State) (n : Nat) : Int := sint 14 (s.fld (Reg.Vn_SENSE n) 13 0)

/-- The live lines of sources 25 and 26 clear with the last channel that holds them (R502). -/
def vLines (s : State) : State :=
  let held (f : VRun → Option Nat) : Bool := (List.range 16).any (fun n => (f (s.vch n)).isSome)
  let s := if s.live 25 && !held VRun.tripAt then liveOff s 25 else s
  if s.live 26 && !held VRun.limAt then liveOff s 26 else s

/-- A channel's current has decayed from its events (R502). -/
def vDecay (s : State) (n : Nat) : State :=
  let v := vSense s n
  let keep (o : Option Nat) : Option Nat := match o with | some x => if vDecayed v x then none else some x | none => none
  let r := s.vch n
  if r.tripAt.isSome || r.limAt.isSome then vLines (s.setVch n { r with tripAt := keep r.tripAt, limAt := keep r.limAt }) else s

/-- An over-current trip of channel `n` (R498): it and its whole gang go off (R500). DEDUCED (log 73). -/
def vTrip (s : State) (n : Nat) : State :=
  let lead := s.vLeader n
  let s := s.each (s.vGang lead) (fun s m =>
    (s.setBit (Reg.Vn_STATUS m) 1 true).modVch m (fun r => { r with tripAt := some (vSense s m).natAbs }))
  vNoMove (raise (s.count (Reg.Vn_TRIPCNT n) 1) 25 1 true) lead

/-- LIMIT is set on the gang led by `n` (R499, R501). DEDUCED (log 73). -/
def vLimit (s : State) (n : Nat) : State :=
  let s := s.each (s.vGang n) (fun s m =>
    (s.setBit (Reg.Vn_STATUS m) 2 true).modVch m (fun r => { r with limAt := some (vSense s m).natAbs }))
  vNoMove (raise (s.count (Reg.Vn_LIMCNT n) 1) 26 1 true) n

/-- LIMIT clears on the gang led by `n`. -/
def vUnlimit (s : State) (n : Nat) : State := s.each (s.vGang n) (fun s m => s.setBit (Reg.Vn_STATUS m) 2 false)

/-- One sample of the duty window of a single channel (R499). -/
def vDuty (s : State) (n : Nat) : State :=
  let dwin := s.fld (Reg.Vn_DUTY n) 13 0
  let dmax := s.fld (Reg.Vn_DUTY n) 21 14
  if s.vRole n ≠ 0 ∨ dwin = 0 then s
  else
    let lim := s.bit (Reg.Vn_STATUS n) 2
    let on := !lim && decide (0 < vDemand s n)
    let r := s.vch n
    let r := { r with bucket := r.bucket + b2n on, inBucket := r.inBucket + 64 }
    let sum := r.bucket + (r.buckets.take 63).foldl (· + ·) 0
    let r := if dwin * 2000 ≤ r.inBucket then
        { r with buckets := (r.bucket :: r.buckets).take 63, bucket := 0, inBucket := r.inBucket - dwin * 2000 } else r
    let s := s.setVch n r
    if lim then (if 2048 * sum ≤ 7 * dmax * dwin * 2000 then vUnlimit s n else s)
    else if dmax * dwin * 2000 ≤ 256 * sum then vLimit s n else s

/-! ### The regulator (R494) -/

/-- One sample of the law on channel `n`, for a share `a` of the setpoint and `d` of the dither (R494). -/
def vRegulate (s : State) (n lead : Nat) (a : Nat) (d x : Int) : State :=
  let r := s.vch n
  if a = 0 then
    (s.setVch n { r with q := 0, up := 0, dn := 0, iacc := 0, held := if r.q = 0 then r.held + 1 else 0 }).setBit (Reg.Vn_STATUS n) 0 false
  else
    let hyst : Int := (s.fld (Reg.Vn_REG lead) 12 0 : Nat)
    let e0 := sat32 (a + d - x)
    let e := sat32 (e0 + sar r.iacc 16)
    let ready := decide (s.fld (Reg.Vn_REG lead) 20 13 ≤ r.held)
    let r := if e > hyst then { r with up := min (r.up + 1) 255, dn := 0 }
      else if e < -hyst then { r with dn := min (r.dn + 1) 255, up := 0 } else { r with up := 0, dn := 0 }
    let q := r.q
    let r := if 1 ≤ r.up ∧ q = 0 ∧ ready then { r with q := 1, up := 0 }
      else if 1 ≤ r.dn ∧ q = 1 ∧ ready then { r with q := 0, dn := 0 } else r
    let ilim := s.fld (Reg.Vn_ILIM lead) 12 0
    let r := if leHeld r.q 2 e hyst then r else { r with iacc := leInteg r.iacc (mulCoef (s.reg (Reg.Vn_KI lead)) e0) ilim }
    let r := { r with held := if r.q = q then r.held + 1 else 0 }
    (s.setVch n r).setBit (Reg.Vn_STATUS n) 0 (r.q == 1)

/-- The governing channel forms its setpoint: a change from 0 starts a detection and the dither's phase, a return to 0
    ends the detection (R494 to R496). -/
def vSetpoint (s : State) (n : Nat) : State :=
  let a := vActiveSetpoint s n
  let was := (s.vch n).a
  let s := s.modVch n (fun r => { r with a := a, phase := if was = 0 then 0 else r.phase })
  if was = 0 ∧ 0 < a ∧ s.fld (Reg.Vn_MOVECFG n) 15 0 ≠ 0 then
    ((s.modVch n (fun r => { r with det := some { n := 0, runMax := none, dip := false, runMin := 0, minAt := 0 } })).setBit
      (Reg.Vn_STATUS n) 6 true).setReg (Reg.Vn_MOVE n) 0
  else if a = 0 then vNoMove s n else s

/-- One sense sample of channel `n` (R492 to R500). -/
def vSample (s : State) (n : Nat) (raw : Int) : State :=
  let cal := s.reg (Reg.CAL_Vn_SENSE n)
  let x := clampInt (-8192) 8191 (sar ((raw - sint 16 (fbits cal 15 0)) * (fbits cal 31 16 : Nat) + 8192) 14)
  let s := s.setFld (Reg.Vn_SENSE n) 13 0 (uint 14 x)
  let s := s.modVch n (fun r => { r with last8 := (x :: r.last8).take 8, msSum := r.msSum + x, msN := r.msN + 1 })
  let s := vDecay s n
  let s := if s.fld (Reg.Vn_OC n) 12 0 ≤ x.natAbs ∧ !s.bit (Reg.Vn_STATUS n) 1 then vTrip s n else s
  let lead := s.vLeader n
  let s := if lead = n then vSetpoint (vDuty s n) n else s
  let g := (s.vGang lead).length
  let a := (s.vch lead).a
  let d := vDither s lead a
  let s := vRegulate s n lead (a / g) (Int.tdiv d g) x
  let s := s.setBit (Reg.Vn_STATUS n) 3 (s.safeState != 3)
  let s := if lead = n then vDetect s n (s.bit (Reg.Vn_STATUS n) 0) else s
  if lead = n ∧ s.bit (Reg.Vn_CFG n) 0 then
    s.modVch n (fun r => { r with phase := (r.phase + ditherStep (s.fld (Reg.Vn_DITHER n) 21 13)) % 2 ^ 32 })
  else s

/-- V_SENSE_SAMPLE (R492, R494): the converter's 14-bit result before its trim. -/
def execVSenseSample (ch : Nat) (raw : BitVec 14) (s : State) : Host.Outcome State Fault Refusal :=
  .next (if ch < s.variant.vs then vSample s ch (sint 14 raw.toNat) else s)

/-- V_MOVE_WINDOW_END (R496). -/
def execVMoveWindowEnd (ch : Nat) (s : State) : Host.Outcome State Fault Refusal := .next (vNoMove s ch)

/-! ### The coil's thermal model (R501) -/

/-- The mean sense result over the last ms is taken and the next ms begins; with no sample since the last one, it stays.
    DEDUCED (log 73). -/
def vMean (s : State) (n : Nat) : State :=
  let r := s.vch n
  let s := s.setVch n { r with msSum := 0, msN := 0 }
  if r.msN = 0 then s else s.setReg (Reg.Vn_IMEAN n) (BitVec.ofInt 32 (Int.tdiv r.msSum r.msN))

/-- One ms of the model at a gang leader (R501). -/
def vThermal (s : State) (n : Nat) : State :=
  let kh := (s.reg (Reg.Vn_KH n)).toNat
  let kt := s.fld (Reg.Vn_KT n) 23 0
  if s.vRole n ≠ 1 ∨ kh = 0 ∨ kt = 0 then s
  else
    let i := max 0 (((s.vGang n).map (fun m => s.s32 (Reg.Vn_IMEAN m))).foldl (· + ·) 0)
    let tamb := s.s32 (Reg.Vn_TAMB n)
    let th := (s.vch n).th
    let tc := tamb + sar th 24 - 19082
    let f := 2 ^ 28 + tc * 16484
    let tgt := min (sar (sar (i * i * kh) 16 * f) 28) (2 ^ 31 - 1)
    let th := th + sar ((tgt * 2 ^ 24 - th) * kt) 24
    let t := tamb + sar th 24
    let s := (s.modVch n (fun r => { r with th := th })).setReg (Reg.Vn_TCOIL n) (BitVec.ofInt 32 t)
    let tmax := s.fld (Reg.Vn_TLIM n) 15 0
    if tmax = 0 then s
    else if s.bit (Reg.Vn_STATUS n) 2 then
      (if t ≤ (tmax : Int) - (s.fld (Reg.Vn_TLIM n) 31 16 : Nat) then vUnlimit s n else s)
    else if (tmax : Int) ≤ t then vLimit s n else s

/-- V_THERMAL_TICK (R501): each ms, the means of the channel's gang and, at a leader, the model. -/
def execVThermalTick (ch : Nat) (s : State) : Host.Outcome State Fault Refusal :=
  .next (if ch < s.variant.vs then vThermal (s.each (s.vGang ch) vMean) ch else s)

/-! ### Commands and configuration (R497, R498, R500) -/

/-- CMD.CLRTRIP (R498, R500): only once the event's live line has cleared; the leader's clears the gang. -/
def vClrtrip (s : State) (n : Nat) : State :=
  if s.vRole n = 2 || (s.vGang n).any (fun m => (s.vch m).tripAt.isSome) then s
  else s.each (s.vGang n) (fun s m => s.setBit (Reg.Vn_STATUS m) 1 false)

/-- V_CLRTRIP (R498). -/
def execVClrtrip (ch : Nat) (s : State) : Host.Outcome State Fault Refusal := .next (vClrtrip s ch)

/-- V_SHUTTER_CLOSE (R497): the closing request of a thermal unit reaches the channel it names. -/
def execVShutterClose (ch unit : Nat) (s : State) : Host.Outcome State Fault Refusal :=
  .next (
    if (s.tu unit).closing != some ch then s
    else if decide (ch < s.variant.vs) && s.bit (Reg.Vn_CFG ch) 0 && s.fld (Reg.Vn_CFG ch) 2 1 == 2 &&
        !s.bit (Reg.Vn_STATUS ch) 1 && !s.bit (Reg.Vn_STATUS ch) 2 && s.fld (Reg.Vn_MOVECFG ch) 15 0 != 0 &&
        ((s.vch ch).request.isNone || (s.vch ch).request == some unit) then
      s.modVch ch (fun r => { r with request := some unit })
    else s.modTu unit (fun t => { t with result := some none }))

/-- V_SHUTTER_OPEN (R497): the holding unit's opening request takes A to 0 and drives the gate low. -/
def execVShutterOpen (ch unit : Nat) (s : State) : Host.Outcome State Fault Refusal :=
  .next (
    if (s.vch ch).request = some unit ∧ (s.tu unit).closing ≠ some ch then
      let s := vNoMove s ch
      let s := s.modVch ch (fun r => { r with request := none, a := 0, q := 0, up := 0, dn := 0, iacc := 0 })
      s.setBit (Reg.Vn_STATUS ch) 0 false
    else s)

/-- A write of Vn_CFG (R500, R504): SRC or GANG 3 has no effect; GANG and SRC take a write only while EN is 0; a gang
    member refuses EN = 1; a gang that cannot stand sets CFGERR. DEDUCED (log 73). -/
def vCfgWrite (s : State) (n : Nat) (v : W32) : State :=
  let old := s.reg (Reg.Vn_CFG n)
  let v : W32 := v &&& 0x3FF
  if fbits v 2 1 = 3 ∨ fbits v 9 8 = 3 ∨ (s.vRole n = 2 ∧ fbit v 0) then s
  else
    let v := if fbit old 0 then fset (fset v 2 1 (fbits old 2 1)) 9 8 (fbits old 9 8) else v
    let s := if s.vRole n = 1 then
        (s.each (s.vGang n) (fun s m => s.setFld (Reg.Vn_STATUS m) 8 7 0))
      else s
    let role := s.vRole n
    let ok := role == 0 && vGangOk s n (fbits v 9 8)
    let bad := role == 0 && !ok
    let s := s.setReg (Reg.Vn_CFG n) v
    let s := if ok && fbits v 9 8 != 0 then
        s.each (List.range (2 ^ fbits v 9 8)) (fun s i => s.setFld (Reg.Vn_STATUS (n + i)) 8 7 (if i = 0 then 1 else 2))
      else s
    let s := s.setBit (Reg.Vn_STATUS n) 5 (bad || (fbits v 2 1 == 1 && decide (s.variant.les ≤ fbits v 7 3)))
    if fbit v 0 && !fbit old 0 then s.modVch n (fun r => { r with th := 0, phase := 0 }) else s

/-- A pair of SETPT and DITHER is complete (R495): it takes effect, or PAIRERR is set. -/
def vPairWrite (s : State) (n : Nat) (setpt dither : W32) : State :=
  if ditherOk setpt dither then (s.setReg (Reg.Vn_SETPT n) (setpt &&& 0x1FFF)).setReg (Reg.Vn_DITHER n) (dither &&& 0xFFFFFF)
  else s.setBit (Reg.Vn_STATUS n) 4 true

end Sys2Proof.Machine
end

