-- ==== Sys2Proof/Machine/Sensor.lean ====
section
/-! DEFINITION. Sensor ports (R424 to R428), binding (R402), what a VSYNC start latches (R404, R429) and frame-buffer
writes shared by thermal units and colour pipelines (R412, R435, R437). -/

namespace Sys2Proof.Machine

/-- The sensing island changes by `f`. -/
def State.modSens (s : State) (f : Sensing → Sensing) : State := { s with sens := f s.sens }
/-- Colour pipeline `n` beyond its registers. -/
def State.cp (s : State) (n : Nat) : CpRun := sget CpRun.init s.sens.cps n
/-- Colour pipeline `n` changes by `f`. -/
def State.modCp (s : State) (n : Nat) (f : CpRun → CpRun) : State :=
  s.modSens (fun x => { x with cps := smod CpRun.init x.cps n f })

/-- The key of a unit: TUn at n, CPn at 16 + n. -/
def cpUnit (n : Nat) : Nat := 16 + n

/-! ### Shutter calibration's apply step (R411, R418) -/

/-- The radiometric conversion of a count from 0 to 65,535 (R409). -/
def radiometric (rt : List Nat) (c : Nat) : Nat :=
  let i := c / 64
  let f := c % 64
  ((((rt[i]?).getD 0) * (64 - f) + ((rt[i + 1]?).getD 0) * f + 32) / 64) % 65536

/-- SHOFS for a shutter temperature (R411). -/
def shutterOffset (rt : List Nat) (tsh : Nat) : Nat :=
  ((List.range 65536).find? (fun c => decide (tsh ≤ radiometric rt c))).getD 65535

/-- STATE of thermal unit `n` (R422). -/
def State.tuState (s : State) (n : Nat) : Nat := s.fld (Reg.TUn_STATUS n) 3 0

/-- The pending result of a calibration takes effect (R418). -/
def tuApply (s : State) (n : Nat) : State :=
  let r := s.tu n
  match r.pending, r.table with
  | some p, some t =>
    let px := (t.px.zip (p.ofs.zip p.bad)).map (fun x =>
      { x.1 with ofs := x.2.1, bad := x.1.bad || x.2.2, autobad := x.1.autobad || x.2.2 })
    let s := s.modTu n (fun r => { r with table := some { t with px := px, tref := p.tref }, pending := none, applyDue := false,
                                          done := true, storeBad := [] })
    let s := (s.setBit (Reg.TUn_STATUS n) 5 false).setReg (Reg.TUn_TREF n) (BitVec.ofNat 32 (uint 32 p.tref))
    (s.setReg (Reg.TUn_SHOFS n) (BitVec.ofNat 32 (shutterOffset t.rt p.tsh))).count (Reg.TUn_CALCNT n) 1
  | _, _ => s.modTu n (fun r => { r with pending := none, applyDue := false })

/-! ### VSYNC start (R404, R426, R427, R429, R434) -/

/-- The parameter registers a frame of thermal unit `n` is processed under, as in force now (R404, R414).
    DEDUCED (log 78). -/
def tuParams (s : State) (n : Nat) : SMap W32 :=
  let staged := Reg.TUn_CFG n :: (List.range 16).map (fun z => Reg.TUn_ZONEz_RECT n z)
  let plain := [Reg.TUn_GEOM n, Reg.TUn_FPAT n, Reg.TUn_FPAT_SCALE n, Reg.TUn_FPAT_OFS n, Reg.TUn_FPAT_IN n] ++
    (List.range 4).flatMap (fun m => [Reg.TUn_PZm_RECT n m, Reg.TUn_PZm_BAND n m, Reg.TUn_PZm_CFG n m])
  plain.foldl (fun p a => sset 0 p a (s.reg a)) (staged.foldl (fun p a => sset 0 p a (s.act a)) [])

/-- The parameter registers a frame of pipeline `n` is processed under, with its port's bus format (R429, R431). -/
def cpParams (s : State) (n port : Nat) : SMap W32 :=
  let staged := Reg.CPn_CFG n :: (List.range 9).map (fun k => Reg.CPn_MATRIXk n k)
  let plain := [Reg.CPn_GEOM n, Reg.CPn_BL01 n, Reg.CPn_BL23 n, Reg.CPn_WB01 n, Reg.CPn_WB23 n, Reg.CPn_DPTHR n,
      Reg.SPn_CFG port] ++
    (List.range 4).flatMap (fun k => [Reg.CPn_ROIk_XW n k, Reg.CPn_ROIk_YH n k, Reg.CPn_ROIk_CFG n k])
  plain.foldl (fun p a => sset 0 p a (s.reg a)) (staged.foldl (fun p a => sset 0 p a (s.act a)) [])

/-- What the bound unit does at a VSYNC start: a due calibration result applies, or loaded tables swap (R418, R434). -/
def unitVsync (s : State) (u : Nat) : State :=
  if u < 16 then (if (s.tu u).applyDue && !(s.tu u).saving then tuApply s u else s)
  else s.modCp (u - 16) (fun c => match c.next with | some t => { c with bank := some t, next := none } | none => c)

/-- The unit bound to port `p` (R402). -/
def State.boundUnit (s : State) (p : Nat) : Option Nat := sget none s.sens.bound p

/-- A frame opens: numbered, timestamped, and with what its unit latches (R426, R427). DEDUCED (log 78). -/
def frameOpen (s : State) (p : Nat) (t : W64) : State :=
  let s := (s.countMod (Reg.SPn_FRAME p) 1).setReg64 (Reg.SPn_VTIME_LO p) t
  let u := s.boundUnit p
  let s := match u with | some u => unitVsync s u | none => s
  let f : SensorFrame :=
    { number := s.reg (Reg.SPn_FRAME p), time := t, rows := [], broken := false, unit := u
      params := match u with | some u => if u < 16 then tuParams s u else cpParams s (u - 16) p | none => []
      st := match u with | some u => if u < 16 then s.tuState u else 0 | none => 0 }
  (s.modSens (fun x => { x with opened := sset none x.opened p (some f) })).setFld (Reg.SPn_STATUS p) 1 0 2

/-- The open frame closes, whole or broken, and goes to its unit (R426, R428). DEDUCED (log 78). -/
def frameClose (s : State) (p : Nat) (broken : Bool) : State :=
  match sget none s.sens.opened p with
  | none => s
  | some f =>
    let f := { f with broken := f.broken || broken }
    let s := s.setFld (Reg.SPn_LAST p) 13 0 f.rows.length
    let s := s.setFld (Reg.SPn_LAST p) 29 16 ((f.rows.getLast?.map (fun r => r.length)).getD 0)
    let s := if f.broken then (s.count (Reg.SPn_BROKEN p) 1).setBit (Reg.SPn_STATUS p) 8 true else s
    let s := s.setFld (Reg.SPn_STATUS p) 1 0 (if s.bit (Reg.SPn_CFG p) 0 then 1 else 0)
    s.modSens (fun x =>
      { x with opened := sset none x.opened p none
               inbox := match f.unit with | some u => smod [] x.inbox u (fun l => l ++ [f]) | none => x.inbox })

/-- PCLK edges are back: CLKLOSS clears, and source 18's line once no port lacks PCLK (R428, R439). DEDUCED (log 78). -/
def pclkBack (s : State) (p : Nat) : State :=
  if !s.bit (Reg.SPn_STATUS p) 2 then s
  else
    let s := s.setBit (Reg.SPn_STATUS p) 2 false
    if s.live 18 && !(List.range s.variant.sps).any (fun q => s.bit (Reg.SPn_STATUS q) 2) then liveOff s 18 else s

/-- ROWS of a port in PULSE mode; 0 where there is no row count (R426). -/
def State.pulseRows (s : State) (p : Nat) : Nat := if s.bit (Reg.SPn_CFG p) 11 then s.fld (Reg.SPn_ROWS p) 13 0 else 0

/-- SP_VSYNC_START (R426 to R428): in PULSE mode it also closes the open frame, broken before its last row. -/
def execSpVsyncStart (port : Nat) (t : W64) (s : State) : Host.Outcome State Fault Refusal :=
  .next (if !s.bit (Reg.SPn_CFG port) 0 || decide (s.variant.sps ≤ port) then s
    else
      let s := pclkBack s port
      match sget none s.sens.opened port with
      | some f =>
        if !s.bit (Reg.SPn_CFG port) 11 then s
        else frameOpen (frameClose s port (decide (f.rows.length < s.pulseRows port))) port t
      | none => frameOpen s port t)

/-- The open frame changes by `f`. -/
def modOpen (s : State) (p : Nat) (f : SensorFrame → SensorFrame) : State :=
  s.modSens (fun x => { x with opened := smod none x.opened p (fun o => o.map f) })

/-- A row of words: taken, truncated or discarded (R424, R428); in PULSE mode the last row closes the frame (R426).
    DEDUCED (log 78). -/
def rowTake (s : State) (p : Nat) (words : List (BitVec 16)) : State :=
  match sget none s.sens.opened p with
  | none => s.count (Reg.SPn_ORPHAN p) 1
  | some f =>
    let mask := BitVec.ofNat 16 (2 ^ s.fld (Reg.SPn_CFG p) 5 1 - 1)
    if 8192 ≤ f.rows.length then (modOpen s p (fun f => { f with broken := true })).count (Reg.SPn_LONGROW p) 1
    else
      let long := decide (8192 < words.length)
      let row := (words.take 8192).map (fun w => w &&& mask)
      let s := modOpen s p (fun f => { f with rows := f.rows ++ [row], broken := f.broken || long })
      let s := if long then s.count (Reg.SPn_LONGROW p) 1 else s
      if s.pulseRows p = f.rows.length + 1 then frameClose s p false else s

/-- SP_ROW (R424). -/
def execSpRow (port : Nat) (words : List (BitVec 16)) (s : State) : Host.Outcome State Fault Refusal :=
  .next (if !s.bit (Reg.SPn_CFG port) 0 || decide (s.variant.sps ≤ port) || words.isEmpty then s
    else rowTake (pclkBack s port) port words)

/-- SP_FRAME_CLOSE (R426): VSYNC becomes inactive in LEVEL mode. -/
def execSpFrameClose (port : Nat) (s : State) : Host.Outcome State Fault Refusal :=
  .next (if s.bit (Reg.SPn_CFG port) 11 then s else frameClose s port false)

/-- SP_FRAME_TIMEOUT (R428). -/
def execSpFrameTimeout (port : Nat) (s : State) : Host.Outcome State Fault Refusal :=
  .next (if (sget none s.sens.opened port).isSome && s.fld (Reg.SPn_FTMO port) 15 0 != 0 then
      raise (frameClose (s.count (Reg.SPn_TIMEOUT port) 1) port true) 18 0 false
    else s)

/-- SP_PCLK_LOSS (R428). -/
def execSpPclkLoss (port : Nat) (s : State) : Host.Outcome State Fault Refusal :=
  .next (if !s.bit (Reg.SPn_CFG port) 0 || s.bit (Reg.SPn_STATUS port) 2 || decide (s.variant.sps ≤ port) then s
    else raise (frameClose ((s.setBit (Reg.SPn_STATUS port) 2 true).count (Reg.SPn_CLKLOSS port) 1) port true) 18 0 true)

/-- A write of SPn_CFG (R427, R428, R440): the format only while EN is 0; an EN = 1 with BITS out of range has no effect. -/
def spCfgWrite (s : State) (p : Nat) (v : W32) : State :=
  let a := Reg.SPn_CFG p
  if s.bit a 0 then
    if fbit v 0 then s
    else
      let s := frameClose (s.setBit a 0 false) p true
      s.setFld (Reg.SPn_STATUS p) 1 0 0
  else if fbit v 0 && (decide (fbits v 5 1 < 8) || decide (16 < fbits v 5 1)) then s
  else (s.setReg a (v &&& 0xFFF)).setFld (Reg.SPn_STATUS p) 1 0 (if fbit v 0 then 1 else 0)

/-- SP_ENABLE (R427): a write of SPn_CFG with EN set. -/
def execSpEnable (port : Nat) (value : W32) (s : State) : Host.Outcome State Fault Refusal :=
  .next (if s.variant.sps ≤ port then s else spCfgWrite s port (value ||| 1))

/-! ### Binding (R402, R417, R429) -/

/-- CFG in force names port `p` with EN. -/
def cfgNames (c : W32) (p : Nat) : Bool := fbit c 0 && fbits c 3 1 == p

/-- The units that name port `p`: colour pipelines first, then thermal units, the lower number first. -/
def portUnits (s : State) (p : Nat) : List Nat :=
  ((List.range s.variant.cps).filter (fun n => cfgNames (s.act (Reg.CPn_CFG n)) p)).map cpUnit ++
  (List.range s.variant.tus).filter (fun n => cfgNames (s.act (Reg.TUn_CFG n)) p)

/-- The unit a port binds to: its holder while that still names it, else the first that does. -/
def portBinds (s : State) (p : Nat) : Option Nat :=
  if s.variant.sps ≤ p then none
  else match s.boundUnit p with
    | some u => if (portUnits s p).contains u then some u else (portUnits s p).head?
    | none => (portUnits s p).head?

/-- BOUND, KIND and UNIT of a port (R440). -/
def portShow (s : State) (p : Nat) : State :=
  match s.boundUnit p with
  | some u => ((s.setBit (Reg.SPn_STATUS p) 3 true).setBit (Reg.SPn_STATUS p) 4 (decide (16 ≤ u))).setFld (Reg.SPn_STATUS p) 7 5 (u % 16)
  | none => s.setFld (Reg.SPn_STATUS p) 7 3 0

/-- The port a unit is bound to. -/
def State.portOf (s : State) (u : Nat) : Option Nat := (List.range 8).find? (fun p => s.boundUnit p == some u)

/-- A thermal unit is calibrating, opening or stuck. -/
def tuCalibrating (st : Nat) : Bool := decide (2 ≤ st) && decide (st ≤ 7)

/-- Source 20's line clears once no unit is STUCK and none has failed its last LOAD (R421). -/
def tuCalm (s : State) : State :=
  if s.live 20 && !(List.range s.variant.tus).any (fun n => s.tuState n == 7 || s.bit (Reg.TUn_STATUS n) 8) then liveOff s 20
  else s

/-- A thermal unit goes to OFF: its shutter channel is de-energised, and a pending result is discarded (R417).
    DEDUCED (log 80). -/
def tuOff (s : State) (n : Nat) : State :=
  let r := s.tu n
  let s := if (decide (2 ≤ s.tuState n) && decide (s.tuState n ≤ 4)) || r.pending.isSome then s.count (Reg.TUn_CALFAIL n) 1 else s
  let s := s.modTu n (fun r => { r with closing := none, result := none, sums := none, pending := none, applyDue := false,
                                        calReq := false, dwell := 0, count := 0 })
  tuCalm (s.setFld (Reg.TUn_STATUS n) 3 0 0)

/-- A bound, enabled unit with a table runs (R417); its first frame may calibrate (R416). -/
def tuOn (s : State) (n : Nat) : State :=
  if (s.tu n).table.isSome && s.bit (Reg.TUn_STATUS n) 7 == false && fbit (s.act (Reg.TUn_CFG n)) 0 then
    (s.setFld (Reg.TUn_STATUS n) 3 0 1).modTu n (fun r => { r with firstDue := true })
  else s

/-- The configuration of the sensing units in force has changed (R402, R417, R431, R435): ports bind, and thermal units
    that lose their port or their enable go OFF. -/
def sensingApplied (s : State) : State :=
  let was := s.sens.bound
  let s := s.modSens (fun x => { x with bound := (List.range 8).foldl (fun b p => sset none b p (portBinds s p)) x.bound })
  let s := s.each (List.range 8) portShow
  let s := s.each (List.range s.variant.cps) (fun s n =>
    let c := s.act (Reg.CPn_CFG n)
    (s.setBit (Reg.CPn_STATUS n) 5 (fbit c 0 && (s.portOf (cpUnit n)).isNone)).setBit (Reg.CPn_STATUS n) 4
      (decide (5 ≤ fbits c 6 4) || fbits c 13 12 == 3))
  s.each (List.range s.variant.tus) (fun s n =>
    let old := (List.range 8).find? (fun p => sget none was p == some n)
    let new := s.portOf n
    let s := s.setBit (Reg.TUn_STATUS n) 7 (fbit (s.act (Reg.TUn_CFG n)) 0 && new.isNone)
    if s.tuState n = 8 then s
    else
      let s := if s.tuState n ≠ 0 ∧ (new.isNone ∨ new ≠ old) then tuOff s n else s
      if s.tuState n = 0 ∧ new.isSome then tuOn s n else s)

/-! ### Buffer writes (R412) -/

/-- A buffer of `body` bytes after its FRAME word at `a`, for domain `d` under tag `kt`: FRAME is written as 0xFFFF_FFFF,
    then the body, then FRAME. False where a write fails, or the unit has fallen behind: FRAME is then left as it is. -/
def frameBuffer (s : State) (d a : Nat) (kt : BitVec 14) (number : W32) (body : List Byte) (late : Bool) : State × Bool :=
  let ok (a n : Nat) : Bool := (s.domain d).holdsRange a n && s.tagsMatch a n kt
  if !ok a 4 then (s, false)
  else match s.memWrite a (leBytes 4 0xFFFFFFFF) with
    | none => (s, false)
    | some s =>
      if late || !ok (a + 4) body.length then (s, false)
      else match s.memWrite (a + 4) body with
        | none => (s, false)
        | some s =>
          match s.memWrite a (leBytes 4 number.toNat) with
          | none => (s, false)
          | some s => (s, true)

/-- A length rounded up to a multiple of 4,096. -/
def up4096 (n : Nat) : Nat := (n + 4095) / 4096 * 4096

/-- A write of TUn_DOM or CPn_DOM: the writer's domain, or the value written from M mode (R422, R434). -/
def domWriteReg (s : State) (a : Nat) (w : Requester) (v : W32) : State :=
  s.setReg a (if s.whoM w then v &&& 7 else BitVec.ofNat 32 ((s.whoDomain w).getD 0))

end Sys2Proof.Machine
end

