-- ==== Sys2Proof/Machine/Pipe.lean ====
section
/-! DEFINITION. Colour pipelines: table images (R433, R434), the processing order (R431, R432), output frames (R435),
regions of interest and statistics (R436, R437). -/

namespace Sys2Proof.Machine

/-! ### Tables (R433, R434) -/

/-- A table image that passes its checks. -/
def cpTableOf (bs : List Byte) : Option CpTable :=
  let zero (a n : Nat) : Bool := leAt bs a n == 0
  if leAt bs 0 4 == 0x31435043 && zero 4 16 && zero 24 40 && zero 2376 56 && leAt bs 20 4 == (crc32c (bs.drop 64)).toNat then
    some { grid := (List.range 1156).map (fun k => leAt bs (64 + 2 * k) 2)
           curves := (List.range 3).map (fun r => (List.range 257).map (fun k => leAt bs (2432 + 520 * r + 2 * k) 2)) }
  else none

/-- LOAD (R434): CMDERR while a load runs. -/
def cpLoad (s : State) (n : Nat) : State :=
  if s.variant.cps ≤ n then s
  else if (s.cp n).loading then s.setBit (Reg.CPn_STATUS n) 6 true
  else (s.modCp n (fun c => { c with loading := true })).setBit (Reg.CPn_STATUS n) 1 true

/-- CP_LOAD (R434). -/
def execCpLoad (n : Nat) (s : State) : Host.Outcome State Fault Refusal := .next (cpLoad s n)

/-- CP_LOAD_DONE (R434, R439): a good image waits for the next VSYNC start; a bad one leaves the bank as it is. -/
def execCpLoadDone (n : Nat) (errs : PageErrs) (s : State) : Host.Outcome State Fault Refusal :=
  .next (if !(s.cp n).loading then s
    else
      let p := s.ptr (Reg.CPn_TBL_LO n)
      let s := readErrors s p.1 3992 errs
      let s := (s.modCp n (fun c => { c with loading := false })).setBit (Reg.CPn_STATUS n) 1 false
      match (s.domRead (s.fld (Reg.CPn_DOM n) 2 0) p.1 3992 p.2).bind cpTableOf with
      | none => raise (s.setBit (Reg.CPn_STATUS n) 3 true) 19 0 true
      | some t =>
        let s := s.modCp n (fun c => { c with next := some t })
        let s := (s.setBit (Reg.CPn_STATUS n) 2 false).setBit (Reg.CPn_STATUS n) 3 false
        if s.live 19 && !(List.range s.variant.cps).any (fun k => s.bit (Reg.CPn_STATUS k) 3) then liveOff s 19 else s)

/-- CP_DOM_WRITE (R434). -/
def execCpDomWrite (who : Requester) (n : Nat) (value : W32) (s : State) : Host.Outcome State Fault Refusal :=
  .next (respond who (if s.controlAllowed who (Reg.CPn_DOM n) true then (domWriteReg s (Reg.CPn_DOM n) who value, true) else (s, false)))

/-- A write of CPn_GEOM (R430). DEDUCED (log 81). -/
def cpGeomWrite (s : State) (n : Nat) (v : W32) : State :=
  let w := fbits v 13 0
  let h := fbits v 27 14
  let colour := fbits (s.act (Reg.CPn_CFG n)) 6 4 != 0
  if decide (w < 16) || decide (8192 < w) || decide (h < 1) || decide (8192 < h) ||
      (colour && (w % 2 != 0 || h % 2 != 0 || decide (h < 2))) then s
  else s.setReg (Reg.CPn_GEOM n) v

/-! ### The processing order (R431, R432) -/

/-- What one frame is processed under. -/
structure CpSetup where
  w : Nat
  h : Nat
  pat : Nat
  bits : Nat
  bl : List Nat
  wb : List Nat
  dpthr : Nat
  /-- the lens-shading grid, where it applies -/
  grid : Option (List Nat)
  /-- the colour matrix, where it applies -/
  matrix : Option (List Int)
  /-- the tone curve of each channel, where it applies -/
  curves : List (Option (List Nat))
  /-- a colour with no pixel in a neighbourhood, which only an image one pixel high has: a free value -/
  fill : Nat
  deriving DecidableEq, Repr

/-- The colour of a CFA site: 0 R, 1 G, 2 B. -/
def cfaColour (pat site : Nat) : Nat :=
  ((match pat with
    | 1 => [0, 1, 1, 2] | 2 => [1, 0, 2, 1] | 3 => [1, 2, 0, 1] | _ => [2, 1, 1, 0] : List Nat)[site]?).getD 0

/-- The CFA site of a pixel. -/
def cfaSite (x y : Nat) : Nat := 2 * (y % 2) + x % 2

/-- A table of values by row, at column `x` and row `y`. -/
def at2 (img : List (List Nat)) (x y : Nat) : Nat := (((img[y]?).getD [])[x]?).getD 0

/-- Every pixel of a `w` × `h` image by its column and row. -/
def mapImage {α : Type} (w h : Nat) (f : Nat → Nat → α) : List (List α) :=
  (List.range h).map (fun y => (List.range w).map (fun x => f x y))

/-- Step 1: normalised and less the black level. -/
def cpBlack (c : CpSetup) (raw x y : Nat) : Nat :=
  (clampInt 0 65535 ((raw * 2 ^ (16 - c.bits) % 65536 : Nat) - ((c.bl[cfaSite x y]?).getD 0 : Nat) : Int)).toNat

/-- Step 2: a defective pixel takes its neighbours' bound. -/
def cpDefect (c : CpSetup) (img : List (List Nat)) (x y : Nat) : Nat :=
  let v := at2 img x y
  let d := if c.pat = 0 then 1 else 2
  let l := if d ≤ x then some (at2 img (x - d) y) else none
  let r := if x + d < c.w then some (at2 img (x + d) y) else none
  match (match l, r with | some l, some r => some (l, r) | some l, none => some (l, l) | none, some r => some (r, r) | none, none => none) with
  | none => v
  | some (l, r) =>
    if c.dpthr = 0 then v
    else if max l r + c.dpthr < v then max l r
    else if v + c.dpthr < min l r then min l r else v

/-- A cell of the 17-node grid and the fraction in it, of a position along `n` pixels (step 3). -/
def cpCell (x n : Nat) : Nat × Nat :=
  let u := if 1 < n then x * 16 * 65536 / (n - 1) else 0
  if u / 65536 = 16 then (15, 65536) else (u / 65536, u % 65536)

/-- Step 3: lens shading. -/
def cpShade (c : CpSetup) (v x y : Nat) : Nat :=
  match c.grid with
  | none => v
  | some g =>
    let (i, fx) := cpCell x c.w
    let (j, fy) := cpCell y c.h
    let node (j i : Nat) : Nat := (g[(j * 17 + i) * 4 + cfaSite x y]?).getD 0
    let k := (node j i * (65536 - fx) * (65536 - fy) + node j (i + 1) * fx * (65536 - fy) +
      node (j + 1) i * (65536 - fx) * fy + node (j + 1) (i + 1) * fx * fy + 2 ^ 31) / 2 ^ 32
    min ((v * k + 8192) / 2 ^ 14) 65535

/-- Step 4: white balance. -/
def cpBalance (c : CpSetup) (v x y : Nat) : Nat := min ((v * ((c.wb[cfaSite x y]?).getD 0) + 2048) / 4096) 65535

/-- Step 5: one channel of a pixel. -/
def cpDemosaic (c : CpSetup) (img : List (List Nat)) (x y k : Nat) : Nat :=
  if cfaColour c.pat (cfaSite x y) = k then at2 img x y
  else
    let near := (List.range 3).flatMap (fun dy => (List.range 3).filterMap (fun dx =>
      let xx := x + dx
      let yy := y + dy
      if decide (1 ≤ xx) && decide (xx ≤ c.w) && decide (1 ≤ yy) && decide (yy ≤ c.h) &&
          cfaColour c.pat (cfaSite (xx - 1) (yy - 1)) == k then some (at2 img (xx - 1) (yy - 1)) else none))
    if near.isEmpty then c.fill else (near.foldl (· + ·) 0 + near.length / 2) / near.length

/-- Step 6: the colour matrix. -/
def cpMatrix (c : CpSetup) (px : List Nat) : List Nat :=
  match c.matrix with
  | none => px
  | some m => (List.range 3).map (fun r =>
      (clampInt 0 65535 (sar ((List.range 3).foldl (fun a k => a + (m[3 * r + k]?).getD 0 * ((px[k]?).getD 0 : Nat)) 2048) 12)).toNat)

/-- A curve under the interpolation of R226. -/
def cpCurve (t : List Nat) (v : Nat) : Nat :=
  (((t[v / 256]?).getD 0) * (256 - v % 256) + ((t[v / 256 + 1]?).getD 0) * (v % 256) + 128) / 256

/-- Step 7: the tone curves. -/
def cpTone (c : CpSetup) (px : List Nat) : List Nat :=
  (List.range px.length).map (fun r =>
    match (c.curves[r]?).getD none with
    | some t => cpCurve t ((px[r]?).getD 0)
    | none => (px[r]?).getD 0)

/-- The output values of an image's pixels, and DPCNT of the frame. DEDUCED (log 81). -/
def cpProcess (c : CpSetup) (raw : List (List Nat)) : List (List (List Nat)) × Nat :=
  let one := mapImage c.w c.h (fun x y => cpBlack c (at2 raw x y) x y)
  let two := mapImage c.w c.h (cpDefect c one)
  let bad := (mapImage c.w c.h (fun x y => at2 one x y != at2 two x y)).flatMap (fun r => r.filter id)
  let three := mapImage c.w c.h (fun x y => cpBalance c (cpShade c (at2 two x y) x y) x y)
  (mapImage c.w c.h (fun x y =>
    cpTone c (if c.pat = 0 then [at2 three x y] else cpMatrix c ((List.range 3).map (cpDemosaic c three x y)))), bad.length)

/-! ### Output frames, regions and statistics (R435 to R437) -/

/-- Channels of an output frame. -/
def cpChannels (pat : Nat) : Nat := if pat = 0 then 1 else 3

/-- A frame's buffer after its FRAME word (R435). -/
def cpFrameBody (w h pat fmt : Nat) (time : W64) (img : List (List (List Nat))) : List Byte :=
  let val (v : Nat) : List Byte := if fmt = 1 then leBytes 1 (min ((v + 128) / 256) 255) else leBytes 2 v
  leBytes 4 0 ++ leBytes 8 time.toNat ++ leBytes 2 w ++ leBytes 2 h ++ leBytes 1 (cpChannels pat) ++ leBytes 1 fmt ++
  List.replicate 42 0 ++ img.flatMap (fun r => r.flatMap (fun p => p.flatMap val))

/-- The value of a pixel for a region's channel (R436). -/
def roiValue (pat ch : Nat) (px : List Nat) : Nat :=
  let c (k : Nat) : Nat := (px[k]?).getD 0
  if pat = 0 then c 0 else if ch = 3 then (77 * c 0 + 150 * c 1 + 29 * c 2 + 128) / 256 else c ch

/-- The values of a region, by row of its clipped rectangle, with each pixel's column and row (R436). -/
def roiRows (pat : Nat) (xw yh cfg : W32) (img : List (List (List Nat))) : List (List (Nat × Nat × Nat)) :=
  let x0 := fbits xw 13 0
  let w := fbits xw 27 14
  let y0 := fbits yh 13 0
  let h := fbits yh 27 14
  let rows := (List.range img.length).filter (fun y => decide (y0 ≤ y) && decide (y < y0 + h))
  (rows.map (fun y =>
    let row := (img[y]?).getD []
    (List.range row.length).filterMap (fun x =>
      if decide (x0 ≤ x) && decide (x < x0 + w) then some (x, y, roiValue pat (fbits cfg 1 0) ((row[x]?).getD [])) else none))).filter
    (fun r => !r.isEmpty)

/-- The 64-byte summary of a region (R436, R437). DEDUCED (log 81). -/
def roiSummary (cfg : W32) (rows : List (List (Nat × Nat × Nat))) : List Byte :=
  match rows.flatMap id with
  | [] => List.replicate 64 0
  | p :: ps =>
    let l := p :: ps
    let thr := fbits cfg 31 16
    let dark := (l.filter (fun q => decide (q.2.2 < thr))).map (fun q => (q.1, q.2.1, thr - q.2.2))
    let sum (f : Nat × Nat × Nat → Nat) (l : List (Nat × Nat × Nat)) : Nat := l.foldl (fun a q => a + f q) 0
    leBytes 2 (ps.foldl (fun m q => min m q.2.2) p.2.2) ++ leBytes 2 (ps.foldl (fun m q => max m q.2.2) p.2.2) ++
    leBytes 4 l.length ++ leBytes 8 (sum (fun q => q.2.2) l) ++ leBytes 8 (sum (fun q => q.2.2) dark) ++
    leBytes 8 (sum (fun q => q.2.2 * q.1) dark) ++ leBytes 8 (sum (fun q => q.2.2 * q.2.1) dark) ++ List.replicate 24 0

/-- A region's column and row profiles, where they are on (R436, R437). -/
def roiProfiles (cfg : W32) (rows : List (List (Nat × Nat × Nat))) : List Byte :=
  let cols := (rows.head?.getD []).length
  let col (k : Nat) : Nat := rows.foldl (fun a r => a + ((r[k]?).map (fun q => q.2.2)).getD 0) 0
  (if fbit cfg 2 then (List.range cols).flatMap (fun k => leBytes 4 (col k)) else []) ++
  (if fbit cfg 3 then rows.flatMap (fun r => leBytes 4 (r.foldl (fun a q => a + q.2.2) 0)) else [])

/-- A frame's statistics after the FRAME word (R437). -/
def cpStatsBody (n : Nat) (f : SensorFrame) (dp pat : Nat) (img : List (List (List Nat))) : List Byte :=
  let par (a : Nat) : W32 := sget 0 f.params a
  let roi (k : Nat) : List (List (Nat × Nat × Nat)) :=
    if fbit (par (Reg.CPn_ROIk_CFG n k)) 4 then
      roiRows pat (par (Reg.CPn_ROIk_XW n k)) (par (Reg.CPn_ROIk_YH n k)) (par (Reg.CPn_ROIk_CFG n k)) img
    else []
  leBytes 4 dp ++ leBytes 8 f.time.toNat ++ List.replicate 48 0 ++
  (List.range 4).flatMap (fun k => roiSummary (par (Reg.CPn_ROIk_CFG n k)) (roi k)) ++
  (List.range 4).flatMap (fun k => roiProfiles (par (Reg.CPn_ROIk_CFG n k)) (roi k))

/-- What the frame is processed under, from what its VSYNC start latched and the bank in force (R429, R434). -/
def cpSetup (s : State) (n : Nat) (f : SensorFrame) (port fill : Nat) : CpSetup :=
  let par (a : Nat) : W32 := sget 0 f.params a
  let cfg := par (Reg.CPn_CFG n)
  let g := par (Reg.CPn_GEOM n)
  let half (a : Nat) : List Nat := [fbits (par a) 15 0, fbits (par a) 31 16]
  let bank := (s.cp n).bank
  { w := fbits g 13 0, h := fbits g 27 14, pat := fbits cfg 6 4, bits := fbits (par (Reg.SPn_CFG port)) 5 1
    bl := half (Reg.CPn_BL01 n) ++ half (Reg.CPn_BL23 n), wb := half (Reg.CPn_WB01 n) ++ half (Reg.CPn_WB23 n)
    dpthr := fbits (par (Reg.CPn_DPTHR n)) 15 0
    grid := if fbit cfg 7 then bank.map (fun t => t.grid) else none
    matrix := if fbit cfg 8 then some ((List.range 9).map (fun k => sint 16 (fbits (par (Reg.CPn_MATRIXk n k)) 15 0))) else none
    curves := (List.range 3).map (fun r => if fbit cfg (9 + r) then bank.bind (fun t => t.curves[r]?) else none)
    fill := fill }

/-- The output frame, where one is written (R435). -/
def cpWriteFrame (s : State) (n : Nat) (f : SensorFrame) (c : CpSetup) (img : List (List (List Nat))) (late : Bool) : State :=
  let fmt := fbits (sget 0 f.params (Reg.CPn_CFG n)) 13 12
  let N := s.fld (Reg.CPn_FRING_N n) 7 0
  if fmt = 0 ∨ N = 0 then s
  else
    let p := s.ptr (Reg.CPn_FRING_LO n)
    let stride := up4096 (64 + c.w * c.h * cpChannels c.pat * fmt)
    let r := frameBuffer s (s.fld (Reg.CPn_DOM n) 2 0) (p.1 + (f.number.toNat % N) * stride) p.2 f.number
      (cpFrameBody c.w c.h c.pat fmt f.time img) late
    if r.2 then r.1 else r.1.count (Reg.CPn_FDROP n) 1

/-- The statistics, where they are written (R437). DEDUCED (log 81). -/
def cpWriteStats (s : State) (n : Nat) (f : SensorFrame) (body : List Byte) (late : Bool) : State :=
  let N := s.fld (Reg.CPn_SRING_N n) 7 0
  if N = 0 then s
  else
    let p := s.ptr (Reg.CPn_SRING_LO n)
    let stride := (s.reg (Reg.CPn_SSTRIDE n)).toNat
    let r := frameBuffer s (s.fld (Reg.CPn_DOM n) 2 0) (p.1 + (f.number.toNat % N) * stride) p.2 f.number body
      (late || decide (stride < 4 + body.length))
    if r.2 then r.1 else r.1.count (Reg.CPn_SDROP n) 1

/-- CP_FRAME (R430 to R437): the oldest frame the bound port has handed over; `lateF` and `lateS` where its frame or its
    statistics writes fall one frame behind (R437, R438). -/
def execCpFrame (n : Nat) (lateF lateS : Bool) (s : State) : Host.Outcome State Fault Refusal :=
  .next (match sget [] s.sens.inbox (cpUnit n) with
    | [] => s
    | f :: rest =>
      let s := s.modSens (fun x => { x with inbox := sset [] x.inbox (cpUnit n) rest })
      let cfg := sget 0 f.params (Reg.CPn_CFG n)
      let g := sget 0 f.params (Reg.CPn_GEOM n)
      let w := fbits g 13 0
      let h := fbits g 27 14
      if s.variant.cps ≤ n ∨ 5 ≤ fbits cfg 6 4 ∨ fbits cfg 13 12 = 3 then s
      else if f.broken || f.rows.length != fbits g 31 28 + h || f.rows.any (fun r => r.length != w) then
        s.count (Reg.CPn_FRMERR n) 1
      else
        let (v, s) := s.draw
        let c := cpSetup s n f (fbits cfg 3 1) (v.toNat % 65536)
        let (img, dp) := cpProcess c ((f.rows.drop (fbits g 31 28)).map (fun r => r.map BitVec.toNat))
        let s := (s.setReg (Reg.CPn_FRAME n) f.number).count (Reg.CPn_DPCNT n) dp
        let s := cpWriteFrame s n f c img lateF
        cpWriteStats s n f (cpStatsBody n f dp c.pat img) lateS)

end Sys2Proof.Machine
end

