-- ==== Sys2Proof/Machine/Ring.lean ====
section
/-! DEFINITION. The ring layer's own state: candidates and keeper (R374 to R379), admission (R392), ring time (R386 to
R389), frames and forwarding (R371 to R381), node IDs (R384, R385). -/

namespace Sys2Proof.Machine

/-! ### Registers -/

/-- RNG_STATUS.STATE: 0 OFF, 1 ELECT, 2 FOLLOW, 3 KEEPER (R374). -/
def State.ringSt (s : State) : Nat := s.fld Reg.RNG_STATUS 1 0
/-- Node ID in force; 0 none (R384). -/
def State.node (s : State) : Nat := s.fld Reg.RNG_STATUS 19 8
/-- Admitted (R392). -/
def State.admitted (s : State) : Bool := s.bit Reg.RNG_STATUS 2
/-- The ring layer beyond its registers changes by `f`. -/
def State.modRing (s : State) (f : Ring → Ring) : State := { s with ring := f s.ring }
/-- The ring ports in UP. -/
def State.ringPorts (s : State) : List Nat := (List.range 24).filter s.ringUp

/-- The device's own candidacy; none with KPRIO 255 (R375). -/
def State.ownCand (s : State) : Option Candidate :=
  if s.fld Reg.RNG_CTL 15 8 = 255 then none
  else some { admitted := s.admitted, kprio := s.fld Reg.RNG_CTL 15 8, uid := s.uid }

/-- Candidate `a` precedes `b`: ADMITTED first, then lower KPRIO, then lower UID (R375). -/
def Candidate.better (a b : Candidate) : Bool :=
  if a.admitted != b.admitted then a.admitted
  else if a.kprio != b.kprio then decide (a.kprio < b.kprio)
  else decide (a.uid.toNat < b.uid.toNat)

/-- A running keeper `cur` is displaced by `k` on ring `rid` (R375). DEDUCED (log 65). -/
def displaces (s : State) (cur k : Candidate) (rid : W32) : Bool :=
  if rid == s.reg Reg.RNG_RINGID then k.admitted == cur.admitted && decide (k.kprio < cur.kprio)
  else k.better cur

/-! ### Admission (R392) -/

/-- The exclusion cause that holds, the lowest code first; 0 none (R392). -/
def State.ringCause (s : State) : Nat :=
  let r := s.ring
  let follows := s.ringSt != 3
  if s.ringSt = 0 then 0
  else if follows && decide (r.joinSync < 16) then 1
  else if follows && s.reg Reg.RNG_EPOCH != r.kEpoch then 2
  else if follows && s.fld Reg.RNG_COMPAT 15 0 != r.kCompat then 3
  else if r.timeBad then 4
  else if r.holdover then 5
  else if s.bit Reg.RNG_STATUS 7 then 6
  else if s.node = 0 then 7
  else 0

/-- CAUSE and ADMIT follow the causes; a change is reported, and an excluded device's RING webs are lost (R392, R398). -/
def ringCheck (s : State) : State :=
  let c := s.ringCause
  let was := s.admitted
  let s := (s.setFld Reg.RNG_STATUS 6 4 c).setBit Reg.RNG_STATUS 2 (c == 0 && s.ringSt != 0)
  if was && !s.admitted then
    let s := if s.ringSt = 0 then s else ringEvent (raise s 15 0 false) 2 c s.node s.ringTime
    ringWebsLost s
  else if !was && s.admitted then ringEvent s 3 0 s.node s.ringTime
  else s

/-! ### Frames (R371 to R373) -/

/-- TYPE of the RING frame subtypes, and the class it travels in (R370, R372). -/
def ringType (sub : Nat) : Nat × Nat := if sub < 0x10 then (9, 3) else if sub < 0x20 then (10, 1) else (11, 5)

/-- The subheader and body of a RING payload (R371). -/
def ringPayload (s : State) (sub : Nat) (bseq : W32) (body : List Byte) : List Byte :=
  leBytes 1 sub ++ leBytes 1 (b2n (s.fld Reg.RNG_STATUS 6 4 != 0)) ++ [0, 0] ++ leBytes 4 bseq.toNat ++
    leBytes 4 (s.reg Reg.RNG_RINGID).toNat ++ [0, 0, 0, 0] ++ body

/-- A frame of the device's own. -/
def ringFrame (s : State) (sub : Nat) (dnode : Nat) (bseq : W32) (body : List Byte) : Frame :=
  { ftype := (ringType sub).1, cls := (ringType sub).2, dnode := dnode, snode := s.node,
    payload := ringPayload s sub bseq body }

/-- A link-local frame on one ring port. -/
def sendLocal (s : State) (p sub : Nat) (body : List Byte) : State := enqueue s p (ringFrame s sub 0 0 body) false

/-- The next BSEQ (R371). -/
def nextBseq (s : State) : W32 × State :=
  let b := nextSeq s.ring.bseq
  (b, s.modRing (fun r => { r with bseq := b }))

/-- A broadcast of the device's own on the given ports. -/
def sendBroadcast (s : State) (ports : List Nat) (sub : Nat) (body : List Byte) : State :=
  let (b, s) := nextBseq s
  s.each ports (fun s p => enqueue s p (ringFrame s sub 0 b body) false)

/-- A unicast of the device's own by the route table; one without an entry counts in NOROUTE (R380). -/
def sendUnicast (s : State) (dnode sub : Nat) (body : List Byte) : Bool × State :=
  match sget 0 s.ring.routes dnode with
  | 0 => (false, s.count Reg.RNG_NOROUTE 1)
  | p + 1 => (true, enqueue s p (ringFrame s sub dnode 0 body) false)

/-- A frame on its way through the device: one more hop (R371). -/
def forwarded (h : RxHdr) (bs : List Byte) : Frame :=
  let t := ringType (leAt bs 0 1)
  { ftype := t.1, cls := t.2, dnode := h.dnode, snode := h.snode,
    payload := bs.take 2 ++ leBytes 2 (leAt bs 2 2 + 1) ++ bs.drop 4 }

/-- A RING frame arrives on a ring port: TYPE's class, LEN 16 to 256, DPORT 0 and the subtype with its whole body, or
    BADFRM (R369 to R372). True when the link accepts it. -/
def ringRx (s : State) (h : RxHdr) (bs : List Byte) (sub minLen : Nat) : Bool × State :=
  receive s h (decide (h.link < 24) && s.portProf h.link == 2 && h.cls == (ringType sub).2 && h.dport == 0 &&
    leAt bs 0 1 == sub && decide (minLen ≤ bs.length) && decide (bs.length ≤ 256)) bs.length

/-- The broadcast's BSEQ is ahead of the last one accepted from its node (R373). -/
def bseqFresh (s : State) (node : Nat) (b : W32) : Bool :=
  let last := sget 0 s.ring.lastB node
  last == 0 || (decide (1 ≤ (b - last).toNat) && decide ((b - last).toNat < 2 ^ 31))

/-- A broadcast is accepted from its node. -/
def noteBseq (s : State) (node : Nat) (b : W32) : State :=
  s.modRing (fun r => { r with lastB := sset 0 r.lastB node b })

/-- BSEQ of a payload. -/
def bseqOf (bs : List Byte) : W32 := BitVec.ofNat 32 (leAt bs 4 4)

/-- RING_FORWARD: an accepted frame that is neither ANNOUNCE nor link-local (R380). True when it is consumed here.
    DEDUCED (log 64). -/
def ringForward (s : State) (h : RxHdr) (bs : List Byte) : Bool × State :=
  let inTree := s.treePorts.contains h.link
  if h.dnode != 0 && h.dnode == s.node then (true, s)
  else if !inTree then (false, s.count Reg.RNG_RDROP 1)
  else if h.dnode = 0 then
    if !bseqFresh s h.snode (bseqOf bs) then (false, s.count Reg.RNG_DUPBC 1)
    else
      let s := noteBseq s h.snode (bseqOf bs)
      (true, s.each (s.treePorts.filter (fun p => p != h.link)) (fun s p => enqueue s p (forwarded h bs) true))
  else
    match sget 0 s.ring.routes h.dnode with
    | 0 => (false, s.count Reg.RNG_NOROUTE 1)
    | p + 1 => if p = h.link then (false, s.count Reg.RNG_NOROUTE 1) else (false, enqueue s p (forwarded h bs) true)

/-- A received RING frame that may be forwarded: accepted by the link, then R380; `f` consumes it on an enabled device.
    DEDUCED (log 64). -/
def ringTake (s : State) (h : RxHdr) (bs : List Byte) (sub minLen : Nat) (f : State → State) : State :=
  let (ok, s) := ringRx s h bs sub minLen
  if !ok then s
  else
    let (mine, s) := ringForward s h bs
    if mine && s.ringSt != 0 then f s else s

/-! ### Node IDs (R384, R385) -/

/-- The node ID in force becomes `n`; after a change BSEQ starts again at 1 (R373). DEDUCED (log 65). -/
def setNode (s : State) (n : Nat) : State :=
  if s.node = n then s
  else (s.setFld Reg.RNG_STATUS 19 8 n).modRing (fun r => { r with bseq := 0 })

/-- The lowest ID absent from every ANNOUNCE and HEARTBEAT of the last 3 × ANNINT, and not the device's own (R384). -/
def lowestNode (s : State) : Option Nat :=
  let since := 3 * s.fld Reg.RNG_TIMING 25 18 * 1000000
  ((List.range 4095).map (fun i => i + 1)).find? (fun n =>
    n != s.node && match sget none s.ring.heard n with
      | some t => decide (t.toNat + since < s.ringTime.toNat)
      | none => true)

/-- The keeper names a node ID for a UID (R384). -/
def sendAssign (s : State) (uid : W64) : State :=
  match lowestNode s with
  | some n => sendBroadcast s s.treePorts 0x04 (leBytes 8 uid.toNat ++ leBytes 2 n)
  | none => s

/-- A frame of node `n` with its UID is heard (R384). -/
def noteHeard (s : State) (n : Nat) : State :=
  if n = 0 then s else s.modRing (fun r => { r with heard := sset none r.heard n (some s.ringTime) })

/-! ### Keeper changes (R374 to R379, R391) -/

/-- The pending epoch is discarded (R391). -/
def dropPending (s : State) : State :=
  let s := (s.setReg Reg.RNG_EPOCH_PEND 0).setBit Reg.RNG_EPOCH_STATUS 1 false
  s.modRing (fun r => { r with pendRanges := [], pendTotal := 0, pendCrc := none, apply := none, distributing := false })

/-- The keeper changes before APPLY: the pending epoch is discarded and reported (R391, R398). -/
def abandonPending (s : State) : State :=
  if s.reg Reg.RNG_EPOCH_PEND = 0 then s
  else raise ((dropPending s).setFld Reg.RNG_EPOCH_STATUS 4 2 4) 15 0 false

/-- ANNOUNCE of the device (R372, R376): on every ring port in UP. -/
def sendAnnounce (s : State) : State :=
  let best := s.ring.best.getD { admitted := false, kprio := 255, uid := 0 }
  sendBroadcast s s.ringPorts 0x02 (leBytes 8 s.uid.toNat ++ leBytes 2 s.node ++ leBytes 1 (s.fld Reg.RNG_CTL 15 8) ++
    leBytes 1 (b2n s.admitted + 2 * b2n (s.ringSt == 3) + 4 * b2n (!s.bit Reg.RNG_CTL 1)) ++
    leBytes 8 best.uid.toNat ++ leBytes 1 best.kprio ++ leBytes 1 (b2n best.admitted) ++ [0, 0] ++
    leBytes 4 (s.reg Reg.RNG_EPOCH).toNat)

/-- ELECT and HOLD begin (R374, R376, R389); a HOLDOVER of 0 excludes at once. DEDUCED (log 65). -/
def enterElect (s : State) : State :=
  let s := startHold (s.setFld Reg.RNG_STATUS 1 0 1)
  let s := s.modRing (fun r => { r with best := s.ownCand })
  ringCheck (sendAnnounce s)

/-- TSYNC of the keeper, on every ring port in UP (R378). -/
def sendTsync (s : State) : State :=
  let q := s.ring.syncSeq
  let s := s.modRing (fun r => { r with syncSeq := q + 1 })
  let body := leBytes 8 s.ringTime.toNat ++ leBytes 8 0 ++ leBytes 8 s.uid.toNat ++ leBytes 2 s.node ++
    leBytes 1 (s.fld Reg.RNG_CTL 15 8) ++ [0] ++ leBytes 4 q.toNat ++ leBytes 4 (s.reg Reg.RNG_EPOCH).toNat ++
    leBytes 2 (s.fld Reg.RNG_COMPAT 15 0) ++ [0, 0]
  s.each s.ringPorts (fun s p => enqueue s p (ringFrame s 0x10 0 0 body) false)

/-- Bytes that domain `d` may write at `a` (R129) are written. -/
def State.domWrite (s : State) (d a : Nat) (t : BitVec 14) (bs : List Byte) : Option State :=
  if (s.domain d).holdsRange a bs.length && s.tagsMatch a bs.length t then s.memWrite a bs else none

/-- Bytes of an entry of the membership table, in press-control memory; RNG_MTAB 0 gives no table (R393).
    DEDUCED (log 68). -/
def mtabWrite (s : State) (n off : Nat) (bs : List Byte) : State :=
  let (a, t) := s.ptr Reg.RNG_MTAB_LO
  match s.roleDomain 1 with
  | some d => if a = 0 then s else (s.domWrite d (a + 32 * n + off) t bs).getD s
  | none => s

/-- The device becomes KEEPER (R374, R376, R379, R384, R391, R393): ring time is its own, HOLD ends, its table starts
    empty, and its first TSYNC goes out. DEDUCED (log 65). -/
def becomeKeeper (s : State) : State :=
  let pend := s.reg Reg.RNG_EPOCH_PEND != 0
  let s := (abandonPending s).setFld Reg.RNG_STATUS 1 0 3
  let s := if pend then ringEvent s 5 0 s.node s.ringTime else s
  let low := BitVec.ofNat 32 s.uid.toNat
  let s := if s.reg Reg.RNG_RINGID = 0 then
      (s.setReg Reg.RNG_RINGID (if low = 0 then 1 else low)).setReg Reg.RNG_EPOCH 0 else s
  let s := if s.bit Reg.RNG_CTL 1 && s.node == 0 then setNode s ((lowestNode s).getD 0) else s
  let s := withTree s (fun s => s.setReg Reg.RNG_KEEPER (BitVec.ofNat 32 (s.node + 31 * 2 ^ 24)))
  let s := s.setBit Reg.RNG_STATUS 3 false
  let s := s.modRing (fun r => { r with keeper := s.ownCand, members := [], joined := true, joinSync := 16, holdover := false,
                                        timeBad := false, slew := 0 })
  let s := s.each (List.range 4096) (fun s n => mtabWrite s n 0 (List.replicate 32 0))
  let s := ringEvent (raise s 15 0 false) 1 0 s.node s.ringTime
  ringCheck (sendTsync s)

/-- The keeper followed changes: what its predecessor's TSYNC frames showed no longer counts (R378, R391, R398). -/
def newKeeper (s : State) (knode : Nat) : State :=
  let s := abandonPending s
  let s := s.each (List.range 24) (fun s p => s.setRport p { s.rport p with hops := none, better := 0 })
  let s := withTree s (fun s => s.setFld Reg.RNG_KEEPER 28 24 31)
  if s.ringSt = 0 then s else ringEvent (raise s 15 0 false) 1 0 knode s.ringTime

/-- The device joins the ring `rid`: the next TSYNC sets its counter, and an assigned ID is given up (R379, R384, R387). -/
def joinRing (s : State) (rid : W32) : State :=
  if s.reg Reg.RNG_RINGID = rid then s
  else
    let s := s.setReg Reg.RNG_RINGID rid
    let s := s.modRing (fun r => { r with joined := false, joinSync := 0 })
    if s.bit Reg.RNG_CTL 1 then setNode s 0 else s

/-! ### Ring time (R386 to R389) -/

/-- The link delay of a port in 1/65,536 ns: the mean of its results, 0 before the first (R386). DEDUCED (log 66). -/
def linkDelay (r : RingPort) : Int :=
  if r.delays.isEmpty then 0 else r.delays.foldl (· + ·) 0 * 65536 / (2 * (r.delays.length : Int))

/-- The counter steps by `d` ns; a TCMP it passes raises TIMER at the step (R387). -/
def stepTime (s : State) (d : Int) : State :=
  let s := { s with ringTime := s.ringTime + BitVec.ofInt 64 d }
  s.each (s.seats.map (fun e => e.1)) (fun s i =>
    let t := s.seat i
    if t.timerArmed && t.st != .off && decide ((t.scrGet 0x006).toNat ≤ s.ringTime.toNat) then
      (postEvent s i 0x20 s.ringTime).modSeat i (fun t => { t with timerArmed := false })
    else s)

/-- A counted step: TSTEP_CNT, STEPPED and the event of R398 (R387). DEDUCED (log 66). -/
def countedStep (s : State) (d : Int) : State :=
  ringEvent (raise ((stepTime s d).count Reg.RNG_TSTEP_CNT 1) 15 0 false) 9 0 s.node (BitVec.ofInt 64 d)

/-- The bound of R388 and R389 at this device, 1/65,536 ns. -/
def timeBound (s : State) : Int :=
  let h := s.fld Reg.RNG_KEEPER 23 12
  let held := if s.bit Reg.RNG_STATUS 3 then
      20 * 65536 + 32768 * ((s.ringTime.toNat - s.ring.holdSince.toNat) / 1000000) else 0
  (10 * 65536 + 32768 * h + held : Nat)

/-- The correction of R387 by the offset `o`, 1/65,536 ns, positive when the counter is ahead. DEDUCED (log 66). -/
def correctTime (s : State) (o : Int) : State :=
  let s := s.setReg Reg.RNG_OFFSET (BitVec.ofInt 32 (clampInt (-(2 ^ 31)) (2 ^ 31 - 1) (o / 65536)))
  let whole : Int := -(o / 65536)
  if !s.ring.joined then countedStep (s.modRing (fun r => { r with joined := true, slew := 0 })) whole
  else if o < -(1000 * 65536) then raise (stepTime (s.modRing (fun r => { r with slew := 0 })) whole) 15 0 false
  else if o > 10000000 * 65536 then countedStep (s.modRing (fun r => { r with slew := 0 })) whole
  else s.modRing (fun r => { r with slew := -o })

/-- One more TSYNC accepted with an offset `o`: JOIN, HOLD and TIME follow (R388, R389, R392). -/
def countSync (s : State) (o : Int) : State :=
  let r := s.ring
  let ok := decide (-(timeBound s) ≤ o) && decide (o ≤ timeBound s)
  let ts := if ok then r.timeSync + 1 else 0
  let hold := s.bit Reg.RNG_STATUS 3
  let bad := if ok then r.timeBad && decide (ts < 16) else r.timeBad || !hold
  let s := s.modRing (fun r => { r with joinSync := min 16 (r.joinSync + 1), holdSync := r.holdSync + 1, timeSync := ts,
                                        timeBad := bad })
  if hold && decide (16 ≤ s.ring.holdSync) then
    (s.setBit Reg.RNG_STATUS 3 false).modRing (fun r => { r with holdover := false })
  else s

end Sys2Proof.Machine
end

