-- ==== Sys2Proof/Machine/RingRx.lean ====
section
/-! DEFINITION. The commands of the ring layer: enabling, sending, receiving and its timers (R369 to R400). -/

namespace Sys2Proof.Machine

/-! ### Enable (R374) -/

/-- RNG_CTL.EN from 0 to 1: ELECT, with the static ID or the assigned one (R374, R384). -/
def ringEnable (s : State) : State :=
  if s.bit Reg.RNG_CTL 0 then s
  else
    let s := s.setBit Reg.RNG_CTL 0 true
    let s := if s.bit Reg.RNG_CTL 1 then s.setBit Reg.RNG_STATUS 7 false
      else setNode s (if s.bit Reg.RNG_STATUS 7 then 0 else s.fld Reg.RNG_CTL 27 16)
    let s := s.modRing (fun r => { r with joined := false, joinSync := 0, holdover := false, timeBad := false, timeSync := 0 })
    enterElect s

/-- EN := 0: OFF; the device goes on forwarding (R374, R382). -/
def ringDisable (s : State) : State :=
  if !s.bit Reg.RNG_CTL 0 then s
  else
    let s := (s.setBit Reg.RNG_CTL 0 false).setFld Reg.RNG_STATUS 1 0 0
    let s := s.setBit Reg.RNG_STATUS 3 false
    ringCheck ((dropPending s).modRing (fun r => { r with holdover := false, snaps := [], rmarks := [] }))

/-- RNG_ENABLE (R374). -/
def execRngEnable (s : State) : Host.Outcome State Fault Refusal := .next (ringEnable s)
/-- RNG_DISABLE (R374). -/
def execRngDisable (s : State) : Host.Outcome State Fault Refusal := .next (ringDisable s)

/-! ### Link-local frames (R372, R378, R386) -/

/-- LINK_SEND_TICK: a LINK frame on each ring port, ROOT set on the root port (R372, R378). -/
def execLinkSendTick (s : State) : Host.Outcome State Fault Refusal :=
  .next (s.each s.ringPorts (fun s p =>
    sendLocal s p 0x01 (leBytes 8 s.uid.toNat ++ leBytes 2 s.node ++ leBytes 1 (b2n (s.rootPort == p)) ++
      leBytes 1 s.ringSt ++ leBytes 2 (s.fld Reg.RNG_KEEPER 11 0) ++ [0, 0] ++
      leBytes 8 ((s.ring.keeper.map (fun k => k.uid.toNat)).getD 0))))

/-- RX_LINK: the peer's UID, node and ROOT; the tree ports follow (R378). -/
def execRxLink (h : RxHdr) (payload : List Byte) (s : State) : Host.Outcome State Fault Refusal :=
  .next (let (ok, s) := ringRx s h payload 0x01 40
    if !ok then s
    else
      let s := s.setFld (Reg.RNG_PORTp_STAT h.link) 13 2 (leAt payload 24 2)
      withTree s (fun s => s.setRport h.link { s.rport h.link with
        peerUid := BitVec.ofNat 64 (leAt payload 16 8), peerRoot := leAt payload 26 1 == 1 }))

/-- DLYREQ_SEND_TICK: each UP ring port sends DLYREQ; T1 is written as the frame leaves (R386). -/
def execDlyreqSendTick (s : State) : Host.Outcome State Fault Refusal :=
  .next (s.each s.ringPorts (fun s p => sendLocal s p 0x11 (List.replicate 24 0)))

/-- RX_DLYREQ: received at counter value `t`, it is answered with T1 and T2; T3 is written as the answer leaves. A
    retransmitted one gives no timestamp (R386). -/
def execRxDlyreq (h : RxHdr) (payload : List Byte) (t : W64) (s : State) : Host.Outcome State Fault Refusal :=
  .next (let (ok, s) := ringRx s h payload 0x11 40
    if !ok || h.retx then s
    else sendLocal s h.link 0x12 (leBytes 8 (leAt payload 16 8) ++ leBytes 8 t.toNat ++ List.replicate 8 0))

/-- RX_DLYRSP: received at counter value `t`; the port's delay is the mean over its last 16 results (R386, R399). -/
def execRxDlyrsp (h : RxHdr) (payload : List Byte) (t : W64) (s : State) : Host.Outcome State Fault Refusal :=
  .next (let (ok, s) := ringRx s h payload 0x12 40
    if !ok || h.retx then s
    else
      let r := s.rport h.link
      let d : Int := ((t.toNat : Int) - leAt payload 16 8) - ((leAt payload 32 8 : Int) - leAt payload 24 8)
      let r := { r with delays := (d :: r.delays).take 16 }
      (s.setRport h.link r).setFld (Reg.RNG_PORTp_STAT h.link) 29 14 (uint 16 (linkDelay r / 4096)))

/-! ### Keeper election (R375 to R377, R384, R385) -/

/-- ANNOUNCE_SEND_TICK (R376). -/
def execAnnounceSendTick (s : State) : Host.Outcome State Fault Refusal :=
  .next (if s.ringSt = 0 then s else sendAnnounce s)

/-- Two UIDs under one node ID (R385): the keeper gives the higher one that has an assigned ID another; a device that
    finds its own static ID in use by a lower UID sets DUPID and goes on without an ID. -/
def dupNode (s : State) (node : Nat) (uid : W64) (isStatic : Bool) : State :=
  if node = 0 || s.ringSt = 0 then s
  else if node = s.node then
    if !(uid.toNat < s.uid.toNat) then (if s.ringSt = 3 && !isStatic then sendAssign s uid else s)
    else if s.bit Reg.RNG_CTL 1 then (if s.ringSt = 3 then setNode s ((lowestNode s).getD 0) else s)
    else ringCheck (setNode (s.setBit Reg.RNG_STATUS 7 true) 0)
  else
    let old := sget 0 s.ring.uids node
    if s.ringSt = 3 && old != 0 && old != uid && decide (old.toNat < uid.toNat) && !isStatic then sendAssign s uid else s

/-- The announcing device and the best candidate it knows, as candidates (R372, R376). -/
def announced (bs : List Byte) : List Candidate :=
  [{ admitted := (leAt bs 27 1) % 2 == 1, kprio := leAt bs 26 1, uid := BitVec.ofNat 64 (leAt bs 16 8) },
   { admitted := leAt bs 37 1 == 1, kprio := leAt bs 36 1, uid := BitVec.ofNat 64 (leAt bs 28 8) }].filter
    (fun c => decide (c.kprio < 255))

/-- The best candidate known takes in another (R376). -/
def bestOf (b : Option Candidate) (c : Candidate) : Option Candidate :=
  match b with
  | none => some c
  | some x => if c.better x then some c else some x

/-- A forwarded ANNOUNCE. -/
def QFrame.announce (q : QFrame) : Bool := q.fwd && q.f.ftype == 9 && leAt q.f.payload 0 1 == 0x02

/-- ANNOUNCE frames a port has waiting to be forwarded. -/
def announceQueued (s : State) (p : Nat) : Nat := (((s.link p).cls 3).queue.filter QFrame.announce).length

/-- A copy of an ANNOUNCE waits on a port behind other copies only, and is discarded where 16 wait (R377). -/
def forwardAnnounce (s : State) (p : Nat) (f : Frame) : State :=
  if announceQueued s p < 16 then
    (enqueue s p f true).modCls p 3 (fun c =>
      { c with queue := c.queue.filter QFrame.announce ++ c.queue.filter (fun q => !q.announce) })
  else s

/-- RX_ANNOUNCE: a changed UID resets the node's BSEQ; the first copy on a tree port gives the route; a fresh one goes to
    every other ring port with room and, in ELECT, to the best candidate, whose change is announced at once (R373, R376,
    R377, R380, R384, R385). -/
def execRxAnnounce (h : RxHdr) (payload : List Byte) (s : State) : Host.Outcome State Fault Refusal :=
  .next (let (ok, s) := ringRx s h payload 0x02 44
    if !ok then s
    else
      let uid := BitVec.ofNat 64 (leAt payload 16 8)
      let b := bseqOf payload
      if uid = s.uid then s
      else
        let s := dupNode s h.snode uid (fbit (BitVec.ofNat 8 (leAt payload 27 1)) 2)
        let s := if sget 0 s.ring.uids h.snode = uid then s
          else s.modRing (fun r => { r with uids := sset 0 r.uids h.snode uid, lastB := sset 0 r.lastB h.snode 0,
                                            routeSeq := sset 0 r.routeSeq h.snode 0 })
        let fresh := bseqFresh s h.snode b
        let s := if h.snode != 0 && s.treePorts.contains h.link && sget 0 s.ring.routeSeq h.snode != b &&
              (fresh || sget 0 s.ring.lastB h.snode == b) then
            s.modRing (fun r => { r with routes := sset 0 r.routes h.snode (h.link + 1),
                                         routeSeq := sset 0 r.routeSeq h.snode b })
          else s
        if !fresh then s.count Reg.RNG_DUPBC 1
        else
          let s := noteBseq s h.snode b
          let s := s.each (s.ringPorts.filter (fun p => p != h.link)) (fun s p =>
            forwardAnnounce s p (forwarded h payload))
          if s.ringSt = 0 then s
          else
            let s := noteHeard s h.snode
            let s := if s.ringSt = 3 && leAt payload 24 2 == 0 && !fbit (BitVec.ofNat 8 (leAt payload 27 1)) 2 then
                sendAssign s uid else s
            if s.ringSt = 1 then
              let best := (announced payload).foldl bestOf s.ring.best
              if best = s.ring.best then s else sendAnnounce (s.modRing (fun r => { r with best := best }))
            else s)

/-- KLOSS_EXPIRY: a follower without TSYNC goes to ELECT and HOLD (R374, R389). -/
def execKlossExpiry (s : State) : Host.Outcome State Fault Refusal :=
  .next (if s.ringSt = 2 then enterElect s else s)

/-- ELECTT_EXPIRY: a candidate that has heard no better one becomes KEEPER (R376). -/
def execElecttExpiry (s : State) : Host.Outcome State Fault Refusal :=
  .next (match s.ownCand with
    | some c =>
      if s.ringSt = 1 && !(match s.ring.best with | some b => b.better c | none => false) then becomeKeeper s else s
    | none => s)

/-- HOLDOVER_EXPIRY: HOLD longer than HOLDOVER excludes the device (R389). -/
def execHoldoverExpiry (s : State) : Host.Outcome State Fault Refusal :=
  .next (if s.bit Reg.RNG_STATUS 3 && s.ringSt != 0 then ringCheck (s.modRing (fun r => { r with holdover := true })) else s)

/-- ROUTE_EXPIRY: a route entry is removed (R380). -/
def execRouteExpiry (node : Nat) (s : State) : Host.Outcome State Fault Refusal :=
  .next (s.modRing (fun r => { r with routes := sset 0 r.routes node 0, routeSeq := sset 0 r.routeSeq node 0 }))

/-- RX_ASSIGN: forwarded; with AUTOID = 1 the named UID takes the node ID (R384). -/
def execRxAssign (h : RxHdr) (payload : List Byte) (s : State) : Host.Outcome State Fault Refusal :=
  .next (ringTake s h payload 0x04 26 (fun s =>
    if s.bit Reg.RNG_CTL 1 && leAt payload 16 8 == s.uid.toNat then ringCheck (setNode s (leAt payload 24 2 % 4096)) else s))

/-! ### Ring time (R378, R386 to R389) -/

/-- TSYNC_SEND_TICK (R378). -/
def execTsyncSendTick (s : State) : Host.Outcome State Fault Refusal :=
  .next (if s.ringSt = 3 then sendTsync s else s)

/-- A TSYNC of keeper `k` on ring `rid` is accepted in the device's state (R374, R375). DEDUCED (log 65). -/
def acceptsKeeper (s : State) (k : Candidate) (rid : W32) : Bool :=
  if k.uid = s.uid then false
  else match s.ringSt, s.ring.keeper, s.ownCand with
    | 3, _, some c => displaces s c k rid
    | 3, _, none => displaces s { admitted := s.admitted, kprio := 255, uid := s.uid } k rid
    | 1, _, some c => !c.better k
    | 1, _, none => true
    | _, some c, _ => c.uid == k.uid || displaces s c k rid
    | _, none, _ => true

/-- What an accepted TSYNC shows of its port: the hops, and after 3 frames with fewer hops a new root port (R378). -/
def rootFollows (s : State) (p hops : Nat) : State :=
  withTree s (fun s =>
    let root := s.rootPort
    let fewer := p != root && match (s.rport root).hops with | some x => decide (hops < x) | none => true
    let r := s.rport p
    let s := s.setRport p { r with hops := some hops, better := if fewer then r.better + 1 else 0 }
    if root = 31 || (s.rport root).hops.isNone || (fewer && decide (3 ≤ (s.rport p).better)) then
      let s := chooseRoot s
      s.setRport p { s.rport p with better := 0 }
    else s)

/-- The TSYNC goes on from the root port to every other ring port in UP, with the arrival link's delay and the time it
    spends here added to CORR; the manual gives no value of that time (R387). DEDUCED (log 64). -/
def forwardTsync (s : State) (h : RxHdr) (bs : List Byte) : State :=
  s.each (s.ringPorts.filter (fun p => p != h.link)) (fun s p =>
    let (resid, s) := s.draw
    let f := forwarded h bs
    let corr : Int := (leAt bs 24 8 : Int) + linkDelay (s.rport h.link) + resid.toNat
    enqueue s p { f with payload := f.payload.take 24 ++ leBytes 8 (uint 64 corr) ++ f.payload.drop 32 } true)

/-- RX_TSYNC at counter value `t`: keeper, ring and root port follow; from the root port it is forwarded, and a follower
    corrects its counter and its admission. A retransmitted one counts only for the root port and liveness (R374, R375,
    R378, R379, R386 to R389, R392). DEDUCED (log 64). -/
def execRxTsync (h : RxHdr) (payload : List Byte) (t : W64) (s : State) : Host.Outcome State Fault Refusal :=
  .next (let (ok, s) := ringRx s h payload 0x10 56
    if !ok then s
    else
      let k : Candidate := { admitted := (leAt payload 1 1) % 2 == 0, kprio := leAt payload 42 1,
                             uid := BitVec.ofNat 64 (leAt payload 32 8) }
      let rid := BitVec.ofNat 32 (leAt payload 8 4)
      if !acceptsKeeper s k rid then s
      else
        let knode := leAt payload 40 2
        let s := if (match s.ring.keeper with | some c => c.uid == k.uid | none => false) && s.ringSt != 3 then s
          else newKeeper s knode
        let s := if s.ringSt = 0 then s
          else (joinRing s rid).setFld Reg.RNG_STATUS 1 0 2
        let s := s.modRing (fun r => { r with keeper := some k, kEpoch := BitVec.ofNat 32 (leAt payload 48 4),
                                              kCompat := leAt payload 52 2 })
        let s := s.setFld Reg.RNG_KEEPER 11 0 knode
        let s := rootFollows s h.link (leAt payload 2 2)
        let s := match (s.rport s.rootPort).hops with
          | some x => s.setFld Reg.RNG_KEEPER 23 12 (x + 1)
          | none => s
        if h.retx || s.rootPort != h.link then (if s.ringSt = 0 then s else ringCheck s)
        else
          let s := forwardTsync s h payload
          if s.ringSt != 2 then s
          else
            let ref : Int := (leAt payload 16 8 : Int) * 65536 + sint 64 (leAt payload 24 8) + linkDelay (s.rport h.link)
            let o : Int := (t.toNat : Int) * 65536 - ref
            ringCheck (countSync (correctTime s o) o))

/-! ### Membership and epochs (R390, R391, R393) -/

/-- HEARTBEAT_SEND_TICK: a follower with a node ID reports to the keeper (R372, R393). -/
def execHeartbeatSendTick (s : State) : Host.Outcome State Fault Refusal :=
  .next (if s.ringSt = 2 && s.node != 0 then
      (sendUnicast s (s.fld Reg.RNG_KEEPER 11 0) 0x03 (leBytes 8 s.uid.toNat ++ leBytes 4 (s.reg Reg.RNG_EPOCH).toNat ++
        leBytes 4 (s.reg Reg.RNG_EPOCH_PEND).toNat ++ leBytes 1 (b2n (s.bit Reg.RNG_EPOCH_STATUS 1)) ++
        leBytes 1 (s.fld Reg.RNG_STATUS 6 4) ++ leBytes 2 (s.fld Reg.RNG_COMPAT 15 0) ++
        leBytes 4 (s.reg Reg.RNG_OFFSET).toNat ++ leBytes 2 (s.fld Reg.RNG_KEEPER 23 12) ++ List.replicate 6 0)).2
    else s)

/-- Address and tag of epoch bank `b` (R390). -/
def epochBank (s : State) (b : Bool) : Nat × BitVec 14 :=
  let (a, t) := s.ptr Reg.RNG_EBUF_LO
  (a + (if b then 0x10000 else 0), t)

/-- `n` content bytes at `off` of epoch bank `b`, in press-control memory. -/
def epochRead (s : State) (b : Bool) (off n : Nat) : Option (List Byte) :=
  match s.roleDomain 1 with
  | some d => s.domRead d ((epochBank s b).1 + off) n (epochBank s b).2
  | none => none

/-- A list in pieces of 224 bytes (R390, R397). -/
def pieces : Nat → List Byte → List (List Byte)
  | 0, _ => []
  | n + 1, bs => if bs.isEmpty then [] else bs.take 224 :: pieces n (bs.drop 224)

/-- EPOCH_DATA for the bytes from `off`, in pieces, sent by `send`. -/
def sendEpoch (s : State) (epoch : W32) (total off : Nat) (bs : List Byte) (send : State → List Byte → State) : State :=
  s.each ((pieces 293 bs).zipIdx) (fun s x =>
    send s (leBytes 4 epoch.toNat ++ leBytes 4 (off + 224 * x.2) ++ leBytes 4 total ++ [0, 0, 0, 0] ++ x.1))

/-- Bank in force. -/
def State.actBank (s : State) : Bool := s.bit Reg.RNG_EPOCH_STATUS 0

/-- CRC-32C of the content of a bank; 0 where it cannot be read. -/
def epochCrc (s : State) (b : Bool) (n : Nat) : Option W32 :=
  if n = 0 then some (crc32c []) else (epochRead s b 0 n).map crc32c

/-- EPOCH_COMMIT's body. -/
def commitBody (epoch crc : W32) (apply : Nat) : List Byte := leBytes 4 epoch.toNat ++ leBytes 4 crc.toNat ++ leBytes 8 apply

/-- The keeper commits the epoch it distributes: APPLY lies CMARGIN × 0.1 ms ahead (R390). DEDUCED (log 67). -/
def sendCommit (s : State) : State :=
  match epochCrc s (!s.actBank) s.ring.pendTotal with
  | none => s
  | some crc =>
    let at' := s.ringTime.toNat + s.fld Reg.RNG_LOSS 31 24 * 100000
    let s := sendBroadcast s s.treePorts 0x06 (commitBody (s.reg Reg.RNG_EPOCH_PEND) crc at')
    let s := s.setFld Reg.RNG_EPOCH_STATUS 4 2 2
    s.modRing (fun r => { r with distributing := false, pendCrc := some crc, apply := some (BitVec.ofNat 64 at') })

/-- Every admitted member holds the pending epoch (R390). -/
def tryCommit (s : State) : State :=
  if s.ringSt = 3 && s.ring.distributing &&
      s.ring.members.all (fun m => !m.2.2.2 || (m.2.1 == s.reg Reg.RNG_EPOCH_PEND && m.2.2.1)) then sendCommit s
  else s

/-- EPOCH_DISTRIBUTE: the keeper takes the next epoch from the bank not in force and broadcasts it (R390).
    DEDUCED (log 67). -/
def epochDistribute (s : State) : State :=
  if s.ringSt != 3 then s.setFld Reg.RNG_EPOCH_STATUS 4 2 5
  else if s.ring.distributing || s.ring.apply.isSome then s.setFld Reg.RNG_EPOCH_STATUS 4 2 6
  else
    let n := min 65536 (s.fld Reg.RNG_EPOCH_LEN 16 0)
    match (if n = 0 then some [] else epochRead s (!s.actBank) 0 n) with
    | none => s.setFld Reg.RNG_EPOCH_STATUS 4 2 4
    | some bs =>
      let e := s.reg Reg.RNG_EPOCH + 1
      let s := ((s.setReg Reg.RNG_EPOCH_PEND e).setFld Reg.RNG_EPOCH_STATUS 4 2 1).setBit Reg.RNG_EPOCH_STATUS 1 true
      let s := s.modRing (fun r => { r with distributing := true, pendTotal := n, pendRanges := [(0, n)], pendCrc := none,
                                            apply := none })
      tryCommit (sendEpoch s e n 0 bs (fun s b => sendBroadcast s s.treePorts 0x05 b))

/-- EPOCH_DISTRIBUTE (R390). -/
def execEpochDistribute (s : State) : Host.Outcome State Fault Refusal := .next (epochDistribute s)

/-- ABORT ends a distribution before its commit (R399). -/
def epochAbort (s : State) : State :=
  if s.ringSt = 3 && s.ring.distributing then
    raise ((dropPending s).setFld Reg.RNG_EPOCH_STATUS 4 2 4) 15 0 false
  else s

/-- EPOCH_ABORT (R399). -/
def execEpochAbort (s : State) : Host.Outcome State Fault Refusal := .next (epochAbort s)

/-- EPOCH_COMMIT_TIMEOUT: CMARGIN ms after DISTRIBUTE (R390). -/
def execEpochCommitTimeout (s : State) : Host.Outcome State Fault Refusal :=
  .next (if s.ringSt = 3 && s.ring.distributing then sendCommit s else s)

/-- The epoch switches: the other bank is in force and the press-control domain is told (R391). DEDUCED (log 67). -/
def applyEpoch (s : State) : State :=
  let e := s.reg Reg.RNG_EPOCH_PEND
  let n := s.ring.pendTotal
  let s := (dropPending s).setBit Reg.RNG_EPOCH_STATUS 0 (!s.actBank)
  let s := (s.setReg Reg.RNG_EPOCH e).setFld Reg.RNG_EPOCH_STATUS 4 2 3
  let s := s.modRing (fun r => { r with total := n })
  ringCheck (ringEvent s 4 0 s.node s.ringTime)

/-- EPOCH_APPLY: at ring time APPLY a device that holds the content switches; another keeps its epoch (R391). -/
def execEpochApply (s : State) : Host.Outcome State Fault Refusal :=
  .next (match s.ring.apply with
    | none => s
    | some t =>
      let s := { s with ringTime := BitVec.ofNat 64 (max s.ringTime.toNat t.toNat) }
      if s.bit Reg.RNG_EPOCH_STATUS 1 then applyEpoch s else dropPending s)

/-- A range joins the ranges received, which stay disjoint and in order. -/
def addRange (a b : Nat) (l : List (Nat × Nat)) : List (Nat × Nat) :=
  let touch := l.filter (fun x => decide (x.1 ≤ b) && decide (a ≤ x.2))
  let lo := touch.foldl (fun m x => min m x.1) a
  let hi := touch.foldl (fun m x => max m x.2) b
  l.filter (fun x => decide (x.2 < a)) ++ [(lo, hi)] ++ l.filter (fun x => decide (b < x.1))

/-- First missing offset and length of the content, given what has arrived (R391). -/
def firstGap (total : Nat) (l : List (Nat × Nat)) : Nat × Nat :=
  match l with
  | (0, e) :: rest => (e, (match rest with | x :: _ => x.1 | [] => total) - e)
  | x :: _ => (0, x.1)
  | [] => (0, total)

/-- HAVE: the content is complete, and its CRC-32C is that of the commit once the commit has come (R391).
    DEDUCED (log 67). -/
def checkHave (s : State) : State :=
  let r := s.ring
  let full := (firstGap r.pendTotal r.pendRanges).2 == 0
  let ok := full && match r.pendCrc with
    | some c => epochCrc s (!s.actBank) r.pendTotal == some c
    | none => decide (0 < r.pendTotal)
  s.setBit Reg.RNG_EPOCH_STATUS 1 ok

/-- The pending epoch becomes `e`, with nothing received yet. -/
def startPending (s : State) (e : W32) (total : Nat) : State :=
  if s.reg Reg.RNG_EPOCH_PEND = e then s
  else ((dropPending s).setReg Reg.RNG_EPOCH_PEND e).modRing (fun r => { r with pendTotal := total })

/-- RX_EPOCH_DATA: a follower writes the segment into the bank not in force, and asks for a gap before it (R391). -/
def execRxEpochData (h : RxHdr) (payload : List Byte) (s : State) : Host.Outcome State Fault Refusal :=
  .next (ringTake s h payload 0x05 33 (fun s =>
    let e := BitVec.ofNat 32 (leAt payload 16 4)
    let off := leAt payload 20 4
    let total := leAt payload 24 4
    let bs := payload.drop 32
    if s.ringSt = 3 || e == s.reg Reg.RNG_EPOCH || decide (65536 < total) || decide (total < off + bs.length) then s
    else
      let s := startPending s e total
      let (a, t) := epochBank s (!s.actBank)
      match s.roleDomain 1 with
      | none => s
      | some d =>
        match s.domWrite d (a + off) t bs with
        | none => s
        | some s =>
          let s := checkHave (s.modRing (fun r => { r with pendRanges := addRange off (off + bs.length) r.pendRanges }))
          let (g, n) := firstGap s.ring.pendTotal s.ring.pendRanges
          if g < off ∧ n ≠ 0 then
            (sendUnicast s (s.fld Reg.RNG_KEEPER 11 0) 0x07 (leBytes 4 e.toNat ++ leBytes 4 g ++ leBytes 4 n)).2
          else s))

/-- RX_EPOCH_COMMIT: a broadcast commit is applied at APPLY, a unicast one on receipt, by a device with the content
    (R391). -/
def execRxEpochCommit (h : RxHdr) (payload : List Byte) (s : State) : Host.Outcome State Fault Refusal :=
  .next (ringTake s h payload 0x06 32 (fun s =>
    let e := BitVec.ofNat 32 (leAt payload 16 4)
    if s.ringSt = 3 || e == s.reg Reg.RNG_EPOCH then s
    else
      let s := startPending s e 0
      let s := checkHave (s.modRing (fun r => { r with pendCrc := some (BitVec.ofNat 32 (leAt payload 20 4)),
                                                       apply := some (BitVec.ofNat 64 (leAt payload 24 8)) }))
      if h.dnode = 0 then s
      else if s.bit Reg.RNG_EPOCH_STATUS 1 then applyEpoch s else s.modRing (fun r => { r with apply := none })))

/-- RX_EPOCH_REQ: the keeper resends the range by unicast, of the epoch it distributes or of the one in force (R390). -/
def execRxEpochReq (h : RxHdr) (payload : List Byte) (s : State) : Host.Outcome State Fault Refusal :=
  .next (ringTake s h payload 0x07 28 (fun s =>
    let e := BitVec.ofNat 32 (leAt payload 16 4)
    let pend := e == s.reg Reg.RNG_EPOCH_PEND && e != 0
    let total := if pend then s.ring.pendTotal else s.ring.total
    let off := leAt payload 20 4
    let n := min (leAt payload 24 4) (total - off)
    if s.ringSt != 3 || !(pend || e == s.reg Reg.RNG_EPOCH) || n == 0 then s
    else match epochRead s (if pend then !s.actBank else s.actBank) off n with
      | some bs => sendEpoch s e total off bs (fun s b => (sendUnicast s h.snode 0x05 b).2)
      | none => s))

/-- What the keeper sends a member that reports an old epoch: the content in force, or the commit once it holds it (R391). -/
def bringUp (s : State) (node : Nat) (epoch pend : W32) (held : Bool) : State :=
  let e := s.reg Reg.RNG_EPOCH
  if s.ring.distributing || s.ring.apply.isSome || epoch == e then s
  else match epochRead s s.actBank 0 s.ring.total with
    | none => s
    | some bs =>
      if s.ring.total = 0 || (pend == e && held) then
        (sendUnicast s node 0x06 (commitBody e (crc32c bs) s.ringTime.toNat)).2
      else if pend == e then s
      else sendEpoch s e s.ring.total 0 bs (fun s b => (sendUnicast s node 0x05 b).2)

/-- RX_HEARTBEAT: the keeper writes the member's entry and serves its epoch (R384, R391, R393). -/
def execRxHeartbeat (h : RxHdr) (payload : List Byte) (s : State) : Host.Outcome State Fault Refusal :=
  .next (ringTake s h payload 0x03 48 (fun s =>
    if s.ringSt != 3 then s
    else
      let epoch := BitVec.ofNat 32 (leAt payload 24 4)
      let pend := BitVec.ofNat 32 (leAt payload 28 4)
      let held := leAt payload 32 1 == 1
      let adm := leAt payload 33 1 == 0
      let s := noteHeard s h.snode
      let s := s.modRing (fun r => { r with members := sput h.snode (pend, held, adm) r.members })
      let s := mtabWrite s h.snode 0 (leBytes 8 (leAt payload 16 8) ++ leBytes 4 (s.ringTime.toNat % 2 ^ 32) ++
        leBytes 4 epoch.toNat ++ leBytes 2 (leAt payload 34 2) ++ leBytes 2 (leAt payload 40 2) ++
        leBytes 1 (leAt payload 33 1) ++ leBytes 1 (1 + 4 * b2n adm) ++ [0, 0] ++ leBytes 4 (leAt payload 36 4) ++ [0, 0, 0, 0])
      tryCommit (bringUp s h.snode epoch pend held)))

/-- MTAB_ENTRY_MISSING: 3 × HBINT without a HEARTBEAT, the keeper marks the member's entry (R393). -/
def execMtabEntryMissing (node : Nat) (s : State) : Host.Outcome State Fault Refusal :=
  .next (match sfind node s.ring.members with
    | some m => if s.ringSt = 3 then mtabWrite s node 21 (leBytes 1 (3 + 4 * b2n m.2.2)) else s
    | none => s)

/-! ### Act-as-one services (R394 to R397) -/

/-- A SNAP for STIME reaches an admitted device (R394). DEDUCED (log 68). -/
def takeSnap (s : State) (stime : W64) : State :=
  if !s.admitted then s
  else if stime.toNat ≤ s.ringTime.toNat then s.count Reg.RNG_SNAPLATE 1
  else s.modRing (fun r => { r with snaps := r.snaps ++ [stime] })

/-- SEND of RNG_SNAP_CMD: the SNAP is broadcast, and the device takes it as well (R394). -/
def ringSnapSend (s : State) : State :=
  if s.ringSt = 0 then s
  else
    let id := s.ring.snapId
    let s := s.modRing (fun r => { r with snapId := id + 1 })
    let t := s.reg64 Reg.RNG_SNAP_TIME_LO
    takeSnap (sendBroadcast s s.treePorts 0x13 (leBytes 8 t.toNat ++ leBytes 4 id.toNat)) t

/-- RING_SNAP_SEND (R394). -/
def execRingSnapSend (s : State) : Host.Outcome State Fault Refusal := .next (ringSnapSend s)

/-- RX_RING_SNAP (R394). -/
def execRxRingSnap (h : RxHdr) (payload : List Byte) (s : State) : Host.Outcome State Fault Refusal :=
  .next (ringTake s h payload 0x13 28 (fun s => takeSnap s (BitVec.ofNat 64 (leAt payload 16 8))))

/-- RING_SNAP_TIME: the counter reaches the earliest STIME, and an admitted device gives the trigger (R392, R394). -/
def execRingSnapTime (s : State) : Host.Outcome State Fault Refusal :=
  .next (match s.ring.snaps with
    | [] => s
    | x :: rest =>
      let t := rest.foldl (fun m y => if y.toNat < m.toNat then y else m) x
      let s := { s with ringTime := BitVec.ofNat 64 (max s.ringTime.toNat t.toNat) }
      let s := s.modRing (fun r => { r with snaps := r.snaps.erase t })
      if s.admitted then snapTrigger s .ring t else s)

/-- A matched ring mark acts: LOG, SNAP or BCAST of its filter (R395). -/
def rmarkAct (s : State) (i : Nat) (pos : W64) (snode : Nat) : State :=
  let f := s.reg (Reg.RNG_RMKi i)
  match fbits f 2 1 with
  | 0 => ringEvent s 6 0 snode pos
  | 1 => snapTrigger s .ring s.ringTime
  | 2 =>
    let tags := smod [] s.pos.nextTags (fbits f 4 3) (fun l => l ++ [BitVec.ofNat 8 (fbits f 12 5)])
    { s with pos := { s.pos with nextTags := tags } }
  | _ => s

/-- An admitted device compares a ring mark with its filters (R395). DEDUCED (log 68). -/
def takeRmark (s : State) (snode : Nat) (pos ftime : W64) (tag : Nat) : State :=
  if !s.admitted then s
  else match (List.range 16).find? (fun i =>
      let f := s.reg (Reg.RNG_RMKi i)
      fbit f 0 && (fbits f 24 13 == 0 || fbits f 24 13 == snode) && fbits f 12 5 == tag) with
    | none => s
    | some i =>
      let due := ftime.toNat + s.fld (Reg.RNG_RMKi i) 31 25 * 10000
      if due ≤ s.ringTime.toNat then rmarkAct s i pos snode
      else s.modRing (fun r => { r with rmarks := r.rmarks ++ [(i, pos, snode, BitVec.ofNat 64 due)] })

/-- RMARK_SEND: a mark with ACTION RING; an excluded device sends none (R392, R395). -/
def rmarkSend (s : State) (web tag : Nat) (pos : W64) (extrap : Bool) : State :=
  if !s.admitted then s
  else
    let s := sendBroadcast s s.treePorts 0x14 (leBytes 8 pos.toNat ++ leBytes 8 s.ringTime.toNat ++ leBytes 1 web ++
      leBytes 1 tag ++ leBytes 1 (b2n extrap))
    takeRmark s s.node pos s.ringTime tag

/-- RX_RMARK (R395). -/
def execRxRmark (h : RxHdr) (payload : List Byte) (s : State) : Host.Outcome State Fault Refusal :=
  .next (ringTake s h payload 0x14 35 (fun s => takeRmark s h.snode (BitVec.ofNat 64 (leAt payload 16 8))
    (BitVec.ofNat 64 (leAt payload 24 8)) (leAt payload 33 1)))

/-- RMARK_ACTION: the earliest matched mark's time has come (R395). -/
def execRmarkAction (s : State) : Host.Outcome State Fault Refusal :=
  .next (match s.ring.rmarks with
    | [] => s
    | x :: rest =>
      let m := rest.foldl (fun m y => if y.2.2.2.toNat < m.2.2.2.toNat then y else m) x
      let s := { s with ringTime := BitVec.ofNat 64 (max s.ringTime.toNat m.2.2.2.toNat) }
      let s := s.modRing (fun r => { r with rmarks := r.rmarks.erase m })
      if s.admitted then rmarkAct s m.1 m.2.1 m.2.2.1 else s)

/-- RX_PSAMPLE: the web of the sample's number that follows its node takes it; a sample of an excluded device counts as not
    received (R203, R396). -/
def execRxPsample (h : RxHdr) (payload : List Byte) (s : State) : Host.Outcome State Fault Refusal :=
  .next (ringTake s h payload 0x15 40 (fun s =>
    let n := leAt payload 28 1
    if (leAt payload 1 1) % 2 = 1 || decide (3 < n) then s
    else if s.webSrc n = 2 && fbits (s.act (Reg.POSn_CFG n)) 27 16 == h.snode then
      s.setWeb n { s.web n with sample := some (BitVec.ofNat 64 (leAt payload 16 8), BitVec.ofNat 32 (leAt payload 24 4),
        leAt payload 29 1 % 4, BitVec.ofNat 64 (leAt payload 32 8)) }
    else s))

/-! ### Mailboxes (R397) -/

/-- `n` bytes the manual gives no value. -/
def drawBytes : Nat → State → List Byte × State
  | 0, s => ([], s)
  | n + 1, s =>
    let (v, s) := s.draw
    let (bs, s) := drawBytes n s
    (v.setWidth 8 :: bs, s)

/-- A whole message is delivered to its mailbox ring as a 4 KiB record, or counted in LOST (R397). DEDUCED (log 68). -/
def mailDeliver (s : State) (d snode sdom : Nat) (msgid : W32) (data : List Byte) : State :=
  let lost := s.count (Reg.RNG_MBd_LOST d) 1
  let ctl := s.reg (Reg.RNG_MBd_CTL d)
  let n := fbits ctl 4 1
  let tail := s.fld (Reg.RNG_MBd_TAIL d) 14 0
  let next := (tail + 1) % 2 ^ n
  if !fbit ctl 0 || n == 0 || next == s.fld (Reg.RNG_MBd_HEAD d) 14 0 then lost
  else
    let (a, t) := s.ptr (Reg.RNG_MBd_BASE_LO d)
    let seq := nextSeq (sget 0 s.ring.mbSeq d)
    let (f3, s1) := drawBytes 1 s
    let (f6, s1) := drawBytes 2 s1
    let (f24, s1) := drawBytes 40 s1
    let (rest, s1) := drawBytes (4032 - data.length) s1
    let bs := leBytes 2 snode ++ leBytes 1 sdom ++ f3 ++ leBytes 2 data.length ++ f6 ++ leBytes 8 s.ringTime.toNat ++
      leBytes 4 msgid.toNat ++ leBytes 4 seq.toNat ++ f24 ++ data ++ rest
    match s1.domWrite d (a + 4096 * tail) t bs with
    | none => lost
    | some s =>
      let s := s.setReg (Reg.RNG_MBd_TAIL d) (BitVec.ofNat 32 next)
      ringRecord (s.modRing (fun r => { r with mbSeq := sset 0 r.mbSeq d seq })) d 7 0 snode (s.reg Reg.RNG_EPOCH) s.ringTime

/-- The segment belongs to the message. -/
def MailIn.of (m : MailIn) (snode sdom ddom : Nat) (id : W32) : Bool :=
  m.snode == snode && m.sdom == sdom && m.ddom == ddom && m.msgid == id

/-- RX_MBX: a segment joins its message; the last one missing delivers it (R397). -/
def execRxMbx (h : RxHdr) (payload : List Byte) (s : State) : Host.Outcome State Fault Refusal :=
  .next (ringTake s h payload 0x20 33 (fun s =>
    let sdom := leAt payload 16 1
    let ddom := leAt payload 17 1
    let seg := leAt payload 18 1
    let nseg := leAt payload 19 1
    let id := BitVec.ofNat 32 (leAt payload 20 4)
    let mlen := leAt payload 24 2
    if decide (7 < ddom) || decide (nseg ≤ seg) || decide (16 < nseg) || decide (3584 < mlen) then s
    else
      let m := (s.ring.mail.find? (fun m => m.of h.snode sdom ddom id)).getD
        { snode := h.snode, sdom := sdom, ddom := ddom, msgid := id, nseg := nseg, mlen := mlen, parts := [] }
      let others := s.ring.mail.filter (fun m => !m.of h.snode sdom ddom id)
      let m := if m.parts.any (fun x => x.1 == seg) then m else { m with parts := m.parts ++ [(seg, payload.drop 32)] }
      if (List.range m.nseg).all (fun i => m.parts.any (fun x => x.1 == i)) then
        let data := (List.range m.nseg).flatMap (fun i => ((m.parts.find? (fun x => x.1 == i)).map (fun x => x.2)).getD [])
        let s := s.modRing (fun r => { r with mail := others })
        if data.length = m.mlen then mailDeliver s ddom h.snode sdom id data else s.count (Reg.RNG_MBd_LOST ddom) 1
      else s.modRing (fun r => { r with mail := others ++ [m] })))

/-- MAILBOX_TIMEOUT: 10 ms after its first segment an incomplete message is dropped and counted (R397). -/
def execMailboxTimeout (snode sdom : Nat) (ddom : Nat) (msgid : W32) (s : State) : Host.Outcome State Fault Refusal :=
  .next (if s.ring.mail.any (fun m => m.of snode sdom ddom msgid) then
      (s.modRing (fun r => { r with mail := r.mail.filter (fun m => !m.of snode sdom ddom msgid) })).count
        (Reg.RNG_MBd_LOST ddom) 1
    else s)

/-- SEND of domain `d`'s mailbox page: the message is read and sent in segments, with its RESULT (R397, R399).
    DEDUCED (log 68). -/
def mailSend (s : State) (d : Nat) : State :=
  let dest := s.reg (Reg.RNG_MBd_TX_DEST d)
  let n := fbits dest 26 15
  let dnode := fbits dest 11 0
  let result (s : State) (r : Nat) : State := s.setReg (Reg.RNG_MBd_TX_STATUS d) (BitVec.ofNat 32 (2 * r))
  if n = 0 ∨ 3584 < n then result s 3
  else
    let (a, t) := s.ptr (Reg.RNG_MBd_TX_LO d)
    match s.domRead d a n t with
    | none => result s 1
    | some bs =>
      if dnode != 0 && (sget 0 s.ring.routes dnode == 0 || s.ringSt == 0) then result (s.count Reg.RNG_NOROUTE 1) 2
      else if s.ringSt = 0 then result s 0
      else
        let id := s.ring.msgId
        let ps := pieces 16 bs
        let s := s.modRing (fun r => { r with msgId := id + 1 })
        let s := s.each ps.zipIdx (fun s x =>
          let body := leBytes 1 d ++ leBytes 1 (fbits dest 14 12) ++ leBytes 1 x.2 ++ leBytes 1 ps.length ++
            leBytes 4 id.toNat ++ leBytes 2 n ++ List.replicate 6 0 ++ x.1
          if dnode = 0 then sendBroadcast s s.treePorts 0x20 body else (sendUnicast s dnode 0x20 body).2)
        result s 0

/-- MAILBOX_SEND: only domain `d` and M mode reach its page (R397, R399). -/
def execMailboxSend (who : Requester) (d : Nat) (s : State) : Host.Outcome State Fault Refusal :=
  .next (respond who (if s.controlAllowed who (Reg.RNG_MBd_TX_CMD d) true && s.whoIs who d then (mailSend s d, true)
    else (s, false)))

end Sys2Proof.Machine
end

