-- ==== Sys2Proof/Machine/Position.lean ====
section
/-! DEFINITION. Broadcasts of the webs' positions (R191, R195, R202, R203), top-of-form inputs (R196), marks (R197 to
R201) and position samples (R203). Seams are with the application of staged changes. -/

namespace Sys2Proof.Machine

/-! ### Positions and states at a broadcast -/

/-- A web takes a state from its source: it may enter LOST, or leave it (R193, R202, R203). -/
def takeState (s : State) (n st cause : Nat) : State :=
  if s.webState n = st then s
  else
    let s := (s.setWebState n st).setFld (Reg.POSn_STATE n) 8 7 (if st = 3 then cause else 0)
    let s := if st = 0 ∨ st = 3 then s.setWeb n { s.web n with revBad := true } else s
    if st = 3 then raise s 17 1 true else lostLine s

/-- An ENC web's broadcast at `t` (R191). -/
def bcastEnc (s : State) (n t : Nat) : State :=
  let w := s.web n
  match s.webState n with
  | 1 => publishPos ((s.setWeb n { w with bcast := w.acc }).setUncert n false) n
  | 2 =>
    let b := max w.bcast.toNat (webCand s n t)
    let s := s.setWeb n { w with bcast := BitVec.ofNat 80 b }
    publishPos (s.setUncert n (decide (w.trusted.toNat + s.ratio n < b))) n
  | _ => s

/-- A RING web's broadcast at `t` (R203): without a sample, or excluded, it stays as it is. -/
def bcastRing (s : State) (n t : Nat) : State :=
  match (s.web n).sample with
  | none => s
  | some (pos, _, st, _) =>
    if !s.admitted then s
    else
      let cand := if st = 1 ∨ st = 2 then ringCand s n t else pos.toNat * 65536
      let b := if st = 2 && s.webState n == 2 then max (s.web n).bcast.toNat cand else cand
      let s := s.setWeb n { s.web n with bcast := BitVec.ofNat 80 b, trusted := BitVec.ofNat 80 (pos.toNat * 65536) }
      publishPos (webView (takeState s n st 2) n) n

/-- A WEB web's broadcast: its source's position plus the offsets, state and UNCERT (R202). -/
def bcastWeb (s : State) (n : Nat) : State :=
  match webRoot s 5 n with
  | none => (takeState s n 0 0).setUncert n false
  | some (r, offs) =>
    if s.webState r = 0 then (takeState s n 0 0).setUncert n false
    else
      let p := offsetPos (s.bcastPos r) offs
      let tr := offsetPos (s.reg64 (Reg.POSn_TRUST_LO r)).toNat offs
      let s := s.setWeb n { s.web n with bcast := BitVec.ofNat 80 (p * 65536), trusted := BitVec.ofNat 80 (tr * 65536) }
      let s := takeState s n (s.webState r) 2
      publishPos (webView (s.setUncert n (s.bit (Reg.POSn_STATE r) 2)) n) n

/-- Every web's position and state at a broadcast; webs that follow another come after it (R191, R202, R203). -/
def bcastWebs (s : State) (t : Nat) : State :=
  let s := s.each (List.range 4) (fun s n =>
    if !s.bit (Reg.POSn_CTL n) 0 then s
    else match s.webSrc n with
      | 0 => bcastEnc s n t
      | 2 => bcastRing s n t
      | _ => s)
  s.each (List.range 4) (fun s n => if s.bit (Reg.POSn_CTL n) 0 && s.webSrc n == 1 then bcastWeb s n else s)

/-! ### Marks (R197 to R201) -/

/-- A mark-log entry, or a dropped one (R201). -/
def markLog (s : State) (k web : Nat) (extrap late : Bool) : State :=
  let tail := s.fld Reg.POS_MKLOG_TAIL 4 0
  let next := (tail + 1) % 32
  if next = s.fld Reg.POS_MKLOG_HEAD 4 0 then s.count Reg.POS_MKLOG_LOST 1
  else
    let s := s.setReg64 (Reg.POS_MKLOGi_POS_LO tail) (BitVec.ofNat 64 (s.bcastPos web))
    let s := s.setReg (Reg.POS_MKLOGi_TIME tail) (BitVec.ofNat 32 s.ringTime.toNat)
    let s := s.setReg (Reg.POS_MKLOGi_INFO tail) (BitVec.ofNat 32 (k + 64 * b2n extrap + 128 * b2n late + 256 * web))
    s.setReg Reg.POS_MKLOG_TAIL (BitVec.ofNat 32 next)

/-- A tag joins the broadcast of a web (R195). -/
def addTag (s : State) (web tag : Nat) : State :=
  let tags := smod [] s.pos.tags web (fun l => l ++ [BitVec.ofNat 8 tag])
  { s with pos := { s.pos with tags := tags } }

/-- The ACTION of a mark at position `pos` (R197). DEDUCED (log 61). -/
def markAction (s : State) (k web pos : Nat) (extrap : Bool) : State :=
  let tag := s.fld (Reg.POS_MKk_CTL k) 23 16
  match s.fld (Reg.POS_MKk_CTL k) 4 3 with
  | 0 => addTag s web tag
  | 1 => snapTrigger s .soft s.ringTime
  | 2 => rmarkSend s web tag (BitVec.ofNat 64 pos) extrap
  | _ => s

/-- MARK_FIRE: slot `k` fires (R197 to R199). -/
def markFire (s : State) (k : Nat) : State :=
  let web := s.fld (Reg.POS_MKk_CTL k) 2 1
  let pos := s.markTarget k
  let extrap := s.bit (Reg.POSn_STATE web) 2
  let late := sget false s.pos.markLate k
  let s := markAction s k web pos extrap
  let st := s.reg (Reg.POS_MKk_STAT k)
  let st := fset (fsetb st 0 true) 31 16 (min 65535 (fbits st 31 16 + 1))
  let st := if extrap then fsetb st 1 true else st
  let st := if late then fsetb st 2 true else st
  let s := s.setReg (Reg.POS_MKk_STAT k) st
  let s := if s.bit (Reg.POS_MKk_CTL k) 5 then markLog s k web extrap late else s
  let per := (s.reg64 (Reg.POS_MKk_PER_LO k)).toNat
  if s.bit (Reg.POS_MKk_CTL k) 6 || per == 0 then (s.setBit (Reg.POS_MKk_CTL k) 0 false).setLate k false
  else
    let next := (pos + per) % 2 ^ 64
    (s.setReg64 (Reg.POS_MKk_POS_LO k) (BitVec.ofNat 64 next)).setLate k (decide (next ≤ s.bcastPos web))

/-- A web in SLOW or RUN fires marks and seams (R197, R300). -/
def State.webMoves (s : State) (n : Nat) : Bool := s.webState n == 1 || s.webState n == 2

/-- The armed marks a broadcast reaches fire in ascending slot order (R197, R198). DEDUCED (log 61). -/
def fireMarks (s : State) : State :=
  s.each (List.range 64) (fun s k =>
    let web := s.fld (Reg.POS_MKk_CTL k) 2 1
    if s.bit (Reg.POS_MKk_CTL k) 0 && s.webMoves web && decide (s.markTarget k ≤ s.bcastPos web) then markFire s k else s)

/-- The tags of a new broadcast begin with those ring marks have placed (R395). DEDUCED (log 61). -/
def newTags (s : State) : State := { s with pos := { s.pos with tags := s.pos.nextTags, nextTags := [] } }

/-- The broadcast at `t` joins those of the last 2 us and the one before them. -/
def noteBroadcast (s : State) (t : W64) : State :=
  let l := s.pos.recent ++ [(t, (List.range 4).map s.bcastPos)]
  let old := l.filter (fun x => decide (x.1.toNat + 512000 < t.toNat))
  let keep := l.filter (fun x => decide (t.toNat ≤ x.1.toNat + 512000))
  { s with pos := { s.pos with recent := old.drop (old.length - 1) ++ keep } }

/-- MARK_CTL_WRITE (R197, R199, R205): a mark is armed, and notes LATE if its position is passed; only captures arm a
    top-of-form mark, and a write of ARM = 0 cancels its pending arm. -/
def markCtl (s : State) (k : Nat) (value : W32) : State :=
  let old := s.reg (Reg.POS_MKk_CTL k)
  let v := value &&& 0x00FF01FF
  let arm := if fbit v 6 then fbit v 0 && fbit old 0 && fbit old 6 else fbit v 0
  let s := s.setReg (Reg.POS_MKk_CTL k) (fsetb v 0 arm)
  if !arm then s.setLate k false
  else if fbit v 6 || fbit old 0 then s
  else s.setLate k (decide (s.markTarget k ≤ s.bcastPos (fbits v 2 1)))

/-- MARK_CTL_WRITE. -/
def execMarkCtlWrite (slot : Nat) (value : W32) (s : State) : Host.Outcome State Fault Refusal :=
  .next (markCtl s slot value)

/-! ### Top-of-form inputs (R196, R199) -/

/-- Top-of-form input `m`. -/
def State.tof (s : State) (m : Nat) : Tof := sget { fifo := [], last := none, lastChange := none } s.pos.tofs m
/-- Top-of-form input `m` becomes `x`; COUNT and the oldest capture follow (R205). -/
def State.setTof (s : State) (m : Nat) (x : Tof) : State :=
  let s := { s with pos := { s.pos with tofs := sset { fifo := [], last := none, lastChange := none } s.pos.tofs m x } }
  let s := s.setFld (Reg.TOFm_STAT m) 3 0 x.fifo.length
  let (p, t) := x.fifo.headD (0, 0)
  (s.setReg64 (Reg.TOFm_CAP_LO m) p).setReg (Reg.TOFm_CAP_TIME m) t

/-- The position of a web at time `t` under R191 without the monotonic hold, u48.16 (R196). -/
def posAt (s : State) (n t : Nat) : Nat :=
  match webRoot s 5 n with
  | none => s.bcastPos n
  | some (r, offs) =>
    let p := if s.webSrc r = 2 then ringCand s r t
      else if s.webState r = 2 then webCand s r t else (s.web r).acc.toNat
    offsetPos (p / 65536) offs

/-- A capture of input `m` arms the top-of-form marks that name it (R199). DEDUCED (log 61). -/
def armTof (s : State) (m pos : Nat) : State :=
  s.each (List.range 64) (fun s k =>
    let c := s.reg (Reg.POS_MKk_CTL k)
    if fbit c 6 && fbits c 8 7 == m then
      let s := if fbit c 0 then s.setBit (Reg.POS_MKk_STAT k) 3 true else s
      let target := (pos + (s.reg64 (Reg.POS_MKk_POS_LO k)).toNat) % 2 ^ 64
      let s := { s with pos := { s.pos with markPos := sset 0 s.pos.markPos k (BitVec.ofNat 64 target) } }
      (s.setBit (Reg.POS_MKk_CTL k) 0 true).setLate k (decide (target ≤ s.bcastPos (fbits c 2 1)))
    else s)

/-- TOF_EDGE: an active edge of input `tof` at timestamp `t`, in 1/256 ns, captures the position of its web (R196). -/
def execTofEdge (tof : Nat) (t : W64) (s : State) : Host.Outcome State Fault Refusal :=
  .next (let cfg := s.reg (Reg.TOFm_CFG tof)
    if !s.islandUp 22 || !fbit cfg 0 then s
    else
      let s := s.upTo t
      let x := s.tof tof
      if tooSoon x.lastChange t then s
      else
        let s := s.setTof tof { x with lastChange := some t }
        let web := fbits cfg 3 2
        let pos := posAt s web t.toNat
        let near := match x.last with
          | some p => decide ((max pos p.toNat) - (min pos p.toNat) < fbits cfg 27 12 * 65536)
          | none => false
        if !s.webMoves web || near then s
        else
          let x : Tof := { s.tof tof with last := some (BitVec.ofNat 64 pos) }
          let s := if x.fifo.length < 8 then
              s.setTof tof { x with fifo := x.fifo ++ [(BitVec.ofNat 64 pos, BitVec.ofNat 32 (t.toNat / 256))] }
            else raise ((s.setTof tof x).setBit (Reg.TOFm_STAT tof) 4 true) 17 0 true
          armTof s tof pos)

/-- The oldest capture is removed (R205). DEDUCED (log 61). -/
def tofPop (s : State) (m : Nat) : State := s.setTof m { s.tof m with fifo := (s.tof m).fifo.drop 1 }

/-- TOF_POP (R205). -/
def execTofPop (tof : Nat) (s : State) : Host.Outcome State Fault Refusal := .next (tofPop s tof)

/-! ### Position samples (R203) -/

/-- PSAMPLE_PUBLISH: a web with PUBINT ≠ 0 publishes position, P, state and ring time (R203, R396). -/
def execPsamplePublish (web : Nat) (s : State) : Host.Outcome State Fault Refusal :=
  .next (if fbits (s.act (Reg.POSn_CFG web)) 15 6 = 0 || s.ringSt == 0 then s
    else sendBroadcast s s.treePorts 0x15 (leBytes 8 (s.bcastPos web) ++ leBytes 4 (s.period web) ++ leBytes 1 web ++
      leBytes 1 (s.webState web) ++ [0, 0] ++ leBytes 8 s.ringTime.toNat))

end Sys2Proof.Machine
end

