-- ==== Sys2Proof/Machine/Thermal.lean ====
section
/-! DEFINITION. Thermal units: coefficient tables (R406, R407), the correction chain (R405, R409 to R411), output frames
(R412), zone statistics and presence zones (R413, R414), and shutter calibration (R415 to R419). -/

namespace Sys2Proof.Machine

/-! ### Coefficient tables (R406, R407) -/

/-- A table entry's 8 bytes, as a pixel's model. -/
def tuEntry (bs : List Byte) : TuPixel :=
  let w := leAt bs 6 2
  { ofs := leAt bs 0 2, gain := leAt bs 2 2, a1 := sint 16 (leAt bs 4 2), a2 := sint 12 (w / 16)
    bad := w % 2 == 1, autobad := w / 2 % 2 == 1 }

/-- A pixel's model as its table entry. -/
def tuEntryBytes (q : TuPixel) : List Byte :=
  leBytes 2 q.ofs ++ leBytes 2 q.gain ++ leBytes 2 (uint 16 q.a1) ++
  leBytes 2 (16 * uint 12 q.a2 + 2 * b2n q.autobad + b2n q.bad)

/-- Bytes of a table image (R406). -/
def tuImageLen (w h : Nat) : Nat := 2176 + 8 * w * h

/-- An image that passes its checks for a unit of that geometry, as a table (R406, R407). -/
def tuTableOf (w h : Nat) (bs : List Byte) : Option TuTable :=
  let zero (a n : Nat) : Bool := leAt bs a n == 0
  if leAt bs 0 4 == 0x31435554 && leAt bs 4 2 == w && leAt bs 6 2 == h && zero 17 3 && zero 24 40 && zero 2114 62 &&
      leAt bs 20 4 == (crc32c (bs.drop 64)).toNat then
    some { width := w, height := h, tc := sint 32 (leAt bs 8 4), tref := sint 32 (leAt bs 12 4), calib := leAt bs 16 1 % 2 == 1
           rt := (List.range 1025).map (fun k => leAt bs (64 + 2 * k) 2)
           px := (List.range (w * h)).map (fun p => tuEntry ((bs.drop (2176 + 8 * p)).take 8)) }
  else none

/-- A table as an image, with CALIB as given (R406, R407). -/
def tuImageOf (t : TuTable) (calib : Bool) : List Byte :=
  let body := t.rt.flatMap (leBytes 2) ++ List.replicate 62 0 ++ t.px.flatMap tuEntryBytes
  leBytes 4 0x31435554 ++ leBytes 2 t.width ++ leBytes 2 t.height ++ leBytes 4 (uint 32 t.tc) ++ leBytes 4 (uint 32 t.tref) ++
  leBytes 4 (b2n calib) ++ leBytes 4 (crc32c body).toNat ++ List.replicate 40 0 ++ body

/-- LOAD and SAVE are accepted (R407). -/
def tuTransferOk (s : State) (n : Nat) : Bool := decide (s.tuState n ≤ 1) && !(s.tu n).loading && !(s.tu n).saving

/-- CMDERR (R407, R417). -/
def tuCmdErr (s : State) (n : Nat) : State := s.setBit (Reg.TUn_STATUS n) 12 true

/-- STATE becomes `st`. -/
def tuSet (s : State) (n st : Nat) : State := s.setFld (Reg.TUn_STATUS n) 3 0 st

/-- LOAD: the unit is LOADING, the frame in progress is discarded and no frame is processed until the load completes (R407).
    DEDUCED (log 80). -/
def tuLoad (s : State) (n : Nat) : State :=
  if s.variant.tus ≤ n then s
  else if !tuTransferOk s n then tuCmdErr s n
  else
    let s := tuSet (tuOff s n) n 8
    let s := s.modTu n (fun r => { r with loading := true })
    s.modSens (fun x =>
      { x with inbox := sset [] x.inbox n []
               opened := x.opened.map (fun e => (e.1, e.2.map (fun f => if f.unit = some n then { f with unit := none } else f))) })

/-- TU_LOAD (R407). -/
def execTuLoad (n : Nat) (s : State) : Host.Outcome State Fault Refusal := .next (tuLoad s n)

/-- SAVE begins (R407). DEDUCED (log 80). -/
def tuSave (s : State) (n : Nat) : State :=
  if s.variant.tus ≤ n then s
  else if !tuTransferOk s n then tuCmdErr s n else s.modTu n (fun r => { r with saving := true })

/-- TU_SAVE (R407). -/
def execTuSave (n : Nat) (s : State) : Host.Outcome State Fault Refusal := .next (tuSave s n)

/-- TUn_DOM.DOM. -/
def State.tuDom (s : State) (n : Nat) : Nat := s.fld (Reg.TUn_DOM n) 2 0

/-- TU_LOAD_DONE (R407): the image is read and checked; success installs the table, failure leaves none. `errs` are the
    pages found in error by the read. -/
def execTuLoadDone (n : Nat) (errs : PageErrs) (s : State) : Host.Outcome State Fault Refusal :=
  .next (if !(s.tu n).loading then s
    else
      let w := s.fld (Reg.TUn_GEOM n) 11 0
      let h := s.fld (Reg.TUn_GEOM n) 22 12
      let p := s.ptr (Reg.TUn_TBL_LO n)
      let s := readErrors s p.1 (tuImageLen w h) errs
      let s := tuSet s n 0
      match (s.domRead (s.tuDom n) p.1 (tuImageLen w h) p.2).bind (tuTableOf w h) with
      | none =>
        let s := s.modTu n (fun r => { r with loading := false, table := none })
        raise (s.setBit (Reg.TUn_STATUS n) 8 true) 20 0 true
      | some t =>
        let s := s.modTu n (fun r => { r with loading := false, table := some t, done := false, dwell := 0, storeBad := [], firstDue := true })
        let s := ((s.setBit (Reg.TUn_STATUS n) 8 false).setBit (Reg.TUn_STATUS n) 5 (!t.calib)).setReg (Reg.TUn_TREF n)
          (BitVec.ofNat 32 (uint 32 t.tref))
        let s := s.setReg (Reg.TUn_TC n) (BitVec.ofNat 32 (uint 32 t.tc))
        let s := s.setReg (Reg.TUn_SHOFS n) (BitVec.ofNat 32 (shutterOffset t.rt (s.fld (Reg.TUn_TSH n) 15 0)))
        tuCalm (if (s.portOf n).isSome then tuOn s n else s))

/-- TU_SAVE_DONE (R407): the store as an image in memory, where the domain's ranges and tags let it be written. -/
def execTuSaveDone (n : Nat) (s : State) : Host.Outcome State Fault Refusal :=
  .next (if !(s.tu n).saving then s
    else
      let r := s.tu n
      let s := s.modTu n (fun r => { r with saving := false })
      match r.table with
      | none => s
      | some t =>
        let bs := tuImageOf t (t.calib || r.done)
        let p := s.ptr (Reg.TUn_TBL_LO n)
        if (s.domain (s.tuDom n)).holdsRange p.1 bs.length && s.tagsMatch p.1 bs.length p.2 then
          (s.memWrite p.1 bs).getD s
        else s)

/-- TU_DOM_WRITE (R422). -/
def execTuDomWrite (who : Requester) (n : Nat) (value : W32) (s : State) : Host.Outcome State Fault Refusal :=
  .next (respond who (if s.controlAllowed who (Reg.TUn_DOM n) true then (domWriteReg s (Reg.TUn_DOM n) who value, true) else (s, false)))

/-- A write of TUn_GEOM (R422): only while EN in force is 0 and with every field and the product in range. -/
def tuGeomWrite (s : State) (n : Nat) (v : W32) : State :=
  let w := fbits v 11 0
  let h := fbits v 22 12
  if fbit (s.act (Reg.TUn_CFG n)) 0 || decide (w < 16) || decide (2048 < w) || w % 16 != 0 || decide (h < 16) || decide (1536 < h) ||
      decide (4 < fbits v 25 23) || decide (1048576 < w * h) then s
  else s.setReg (Reg.TUn_GEOM n) (v &&& 0x3FFFFFF)

/-! ### The correction chain (R405, R409, R410) -/

/-- A parameter as the frame's VSYNC start latched it. -/
def SensorFrame.par (f : SensorFrame) (a : Nat) : W32 := sget 0 f.params a

/-- A signed 32-bit value, reduced modulo 2^32. -/
def wrap32 (v : Int) : Int := sint 32 (uint 32 v)

/-- NOTEMP of a frame: TSRC = 0 with no telemetry row or word (R405). -/
def tuNoTemp (n : Nat) (f : SensorFrame) : Bool :=
  let g := f.par (Reg.TUn_GEOM n)
  let p := f.par (Reg.TUn_FPAT n)
  !fbit p 8 && (fbits g 25 23 == 0 || decide (fbits g 11 0 ≤ fbits p 7 0))

/-- Tfpa of a frame under `tref` (R405). -/
def tuTfpa (n : Nat) (f : SensorFrame) (tref : Int) : Int :=
  let p := f.par (Reg.TUn_FPAT n)
  if tuNoTemp n f then tref
  else if fbit p 8 then sint 32 (f.par (Reg.TUn_FPAT_IN n)).toNat
  else
    let w := (((f.rows.head?.getD [])[fbits p 7 0]?).getD 0).toNat
    wrap32 (wrap32 (sar ((w : Int) * sint 32 (f.par (Reg.TUn_FPAT_SCALE n)).toNat) 16) +
      sint 32 (f.par (Reg.TUn_FPAT_OFS n)).toNat)

/-- The drift term in counts of a pixel from `tref` to `t` (R409). -/
def tuDrift (q : TuPixel) (tc tref t : Int) : Int :=
  let a := q.a1 + sar (q.a2 * ((t - tc) + (tref - tc))) 8
  wrap32 (sar ((t - tref) * a + 32768) 16)

/-- y of a raw word before replacement (R409). -/
def tuY (q : TuPixel) (tc tref tfpa : Int) (r : Nat) : Int :=
  wrap32 (sar (wrap32 ((r : Int) - q.ofs - tuDrift q tc tref tfpa) * q.gain + 8192) 14)

/-- The nearest pixel that is not BAD, among the first 8 of a list that runs away from the pixel (R410). -/
def tuNearest (l : List (Option Int)) : Option Int := (l.take 8).findSome? id

/-- A row's final y values, with BAD pixels replaced; `above` is the row above's, none at row 0 (R410). DEDUCED (log 79). -/
def tuReplaceRow (ys : List (Option Int)) (above : Option (List (Option Int))) : List (Option Int) :=
  (List.range ys.length).map (fun x =>
    match (ys[x]?).getD none with
    | some y => some y
    | none =>
      match tuNearest (ys.take x).reverse, tuNearest (ys.drop (x + 1)) with
      | some l, some r => some (sar (l + r + 1) 1)
      | some l, none => some l
      | none, some r => some r
      | none, none => (above.bind (fun u => u[x]?)).getD none)

/-- Every row of an image, from the top. -/
def tuReplace : Option (List (Option Int)) → List (List (Option Int)) → List (List (Option Int))
  | _, [] => []
  | above, ys :: rest =>
    let row := tuReplaceRow ys above
    row :: tuReplace (some row) rest

/-- The output value of a final y: through SHOFS and the radiometric table (R409); none where the pixel is unreplaced. -/
def tuOut (rt : List Nat) (shofs : Nat) (y : Option Int) : Option Nat :=
  y.map (fun y => radiometric rt (clampInt 0 65535 (y + shofs)).toNat)

/-- Models of pixels the table does not hold, which are free: the unit's geometry may have changed since the load.
    DEDUCED (log 79). -/
def drawPixels : Nat → State → List TuPixel × State
  | 0, s => ([], s)
  | k + 1, s =>
    let (v, s) := s.draw
    let (l, s) := drawPixels k s
    (tuEntry (leBytes 8 v.toNat) :: l, s)

/-- Pixel `p` is treated as BAD: its BAD bit, or its store page uncorrectable (R408). -/
def tuBad (bad : List Nat) (p : Nat) (q : TuPixel) : Bool := q.bad || bad.contains (p / 32)

/-! ### Zones (R413, R414) -/

/-- A zone's rectangle (layout of RECT), in pixels: X0, W, Y0, H. -/
def tuRect (v : W32) : Nat × Nat × Nat × Nat := (8 * fbits v 7 0, 8 * fbits v 15 8, 8 * fbits v 23 16, 8 * fbits v 31 24)

/-- The pixels of a rectangle that lie in the image and are not unreplaced, in raster order: column, row and t. -/
def tuPixelsIn (img : List (List (Option Nat))) (rect : W32) : List (Nat × Nat × Nat) :=
  let (x0, w, y0, h) := tuRect rect
  (List.range img.length).flatMap (fun y =>
    if decide (y0 ≤ y) && decide (y < y0 + h) then
      let row := (img[y]?).getD []
      (List.range row.length).filterMap (fun x =>
        if decide (x0 ≤ x) && decide (x < x0 + w) then ((row[x]?).getD none).map (fun t => (x, y, t)) else none)
    else [])

/-- A zone's statistics (R413): MIN, MEAN, MAX, HOTX, HOTY and COUNT. -/
def zoneStats (l : List (Nat × Nat × Nat)) : Nat × Nat × Nat × Nat × Nat × Nat :=
  match l with
  | [] => (0, 0, 0, 0, 0, 0)
  | p :: ps =>
    let mn := ps.foldl (fun m q => min m q.2.2) p.2.2
    let hot := ps.foldl (fun m q => if m.2.2 < q.2.2 then q else m) p
    let sum := l.foldl (fun a q => a + q.2.2) 0
    (mn, (sum + l.length / 2) / l.length, hot.2.2, hot.1, hot.2.1, l.length)

/-- The record of zone `z`: its result registers, and an arrival at every loop engine bound to it (R413, R479). -/
def zoneRecord (s : State) (n z : Nat) (f : SensorFrame) (img : List (List (Option Nat))) : State :=
  let rect := f.par (Reg.TUn_ZONEz_RECT n z)
  if fbits rect 15 8 = 0 ∨ fbits rect 31 24 = 0 then s
  else
    let (mn, mean, mx, hx, hy, cnt) := zoneStats (tuPixelsIn img rect)
    let s := s.setReg (Reg.TUn_ZONEz_MINMAX n z) (BitVec.ofNat 32 (mn + 65536 * mx))
    let s := s.setReg (Reg.TUn_ZONEz_MEAN n z) (BitVec.ofNat 32 mean)
    let s := s.setReg (Reg.TUn_ZONEz_HOT n z) (BitVec.ofNat 32 (hx + 65536 * hy))
    let s := (s.setReg (Reg.TUn_ZONEz_FRAME n z) f.number).setReg (Reg.TUn_ZONEz_COUNT n z) (BitVec.ofNat 32 cnt)
    if cnt = 0 then s
    else leSource s 2 (fun sel => sel % 8 == n && sel / 8 % 16 == z)
      (fun sel => match sel / 128 with | 0 => (mn : Int) | 1 => mean | _ => mx)

/-- Presence zone `m` at a frame that is not SHUTTER (R414). True where its state changed. -/
def presenceZone (s : State) (n m : Nat) (f : SensorFrame) (img : List (List (Option Nat))) : State × Bool :=
  let cfg := f.par (Reg.TUn_PZm_CFG n m)
  let band := f.par (Reg.TUn_PZm_BAND n m)
  if !fbit cfg 28 then (s, false)
  else
    let stat := Reg.TUn_PZm_STAT n m
    let cnt := ((tuPixelsIn img (f.par (Reg.TUn_PZm_RECT n m))).filter
      (fun q => decide (fbits band 15 0 ≤ q.2.2) && decide (q.2.2 ≤ fbits band 31 16))).length
    let pmin := fbits cfg 19 0
    let dwell := fbits cfg 27 20
    let was := s.bit stat 0
    let s := s.setFld stat 21 1 cnt
    let setN (k : Nat) (s : State) : State := s.modTu n (fun r => { r with pz := sset 0 r.pz m k })
    if pmin = 0 ∨ dwell = 0 then (setN 0 (s.setBit stat 0 false), was)
    else if (if was then decide (cnt < pmin / 2) else decide (pmin ≤ cnt)) then
      let k := sget 0 (s.tu n).pz m + 1
      if dwell ≤ k then (setN 0 (s.setBit stat 0 (!was)), true) else (setN k s, false)
    else (setN 0 s, false)

/-- The statistics of a frame that is not SHUTTER: zone records in ascending order, then presence zones; a presence record
    reaches the climate zones (R413, R414, R456). -/
def frameStats (s : State) (n : Nat) (f : SensorFrame) (img : List (List (Option Nat))) : State :=
  let s := s.each (List.range 16) (fun s z => zoneRecord s n z f img)
  let r := (List.range 4).foldl (fun (x : State × Bool) m =>
    let y := presenceZone x.1 n m f img
    (y.1, x.2 || y.2)) (s, false)
  if r.2 then occAll r.1 else r.1

/-! ### Output frames (R412) -/

/-- The frame's buffer after its FRAME word: the header from byte 4, then the pixels. -/
def tuBuffer (s : State) (n w h : Nat) (f : SensorFrame) (flags : Nat) (tfpa tref : Int) (unrep : Nat) (px : List Nat) : List Byte :=
  leBytes 4 flags ++ leBytes 8 f.time.toNat ++ leBytes 4 (uint 32 tfpa) ++ leBytes 4 (uint 32 tref) ++ leBytes 2 w ++ leBytes 2 h ++
  leBytes 4 (s.fld (Reg.TUn_SHOFS n) 15 0) ++ leBytes 4 unrep ++ List.replicate 28 0 ++ px.flatMap (leBytes 2)

/-- The frame is written to its buffer of the ring, or abandoned (R412). DEDUCED (log 79). -/
def tuWriteFrame (s : State) (n w h : Nat) (f : SensorFrame) (body : List Byte) (late : Bool) : State :=
  let N := s.fld (Reg.TUn_FRING_N n) 7 0
  if N = 0 then s
  else
    let p := s.ptr (Reg.TUn_FRING_LO n)
    let r := frameBuffer s (s.tuDom n) (p.1 + (f.number.toNat % N) * up4096 (64 + 2 * w * h)) p.2 f.number body late
    if r.2 then r.1 else r.1.count (Reg.TUn_FDROP n) 1

/-! ### Calibration (R415 to R419) -/

/-- A calibration has ended without a result (R417, R418, R421). DEDUCED (log 80). -/
def tuFailed (s : State) (n cause : Nat) (event : Bool) : State :=
  let s := (s.setFld (Reg.TUn_STATUS n) 11 9 cause).count (Reg.TUn_CALFAIL n) 1
  if event then raise (s.setBit (Reg.TUn_STATUS n) 4 (s.fld (Reg.TUn_SHUT n) 23 16 != 0)) 20 0 false else s

/-- CLOSING is entered: the closing request goes to channel VCH (R415, R417). -/
def tuClose (s : State) (n : Nat) : State :=
  let ch := s.fld (Reg.TUn_SHUT n) 3 0
  (tuSet s n 2).modTu n (fun r => { r with closing := some ch, result := none, calReq := false, dwell := 0 })

/-- AVERAGE is entered: TSH and NAVGL are read (R411, R418). -/
def tuAverage (s : State) (n : Nat) : State :=
  let tsh := s.fld (Reg.TUn_TSH n) 15 0
  let navgl := s.fld (Reg.TUn_SHUT n) 10 8
  (tuSet s n 4).modTu n (fun r =>
    { r with count := 0, sums := some { frames := 0, excluded := 0, navgl := navgl, sum := [], tsum := 0, tsh := tsh } })

/-- OPENING is entered: the channel is de-energised (R417). -/
def tuOpen (s : State) (n : Nat) : State :=
  (tuSet s n 5).modTu n (fun r => { r with closing := none, sums := none, count := 0 })

/-- SETTLE_O has ended: RUN, and a pending result applies at the next VSYNC start (R417). -/
def tuSettled (s : State) (n : Nat) : State :=
  (tuSet s n 1).modTu n (fun r => { r with count := 0, applyDue := r.pending.isSome })

/-- SETTLE of the unit. -/
def State.tuSettle (s : State) (n : Nat) : Nat := s.fld (Reg.TUn_SHUT n) 7 4

/-- SETTLE_C is entered (R417); with SETTLE 0 it ends at once. -/
def tuSettleC (s : State) (n : Nat) : State :=
  if s.tuSettle n = 0 then tuAverage s n else (tuSet s n 3).modTu n (fun r => { r with count := 0 })

/-- SETTLE_O is entered (R417); with SETTLE 0 it ends at once. -/
def tuSettleO (s : State) (n : Nat) : State :=
  tuCalm (if s.tuSettle n = 0 then tuSettled s n else (tuSet s n 6).modTu n (fun r => { r with count := 0 }))

/-- A frame of AVERAGE is excluded; the fourth ends the calibration (R417, R418). -/
def tuExclude (s : State) (n : Nat) : State :=
  match (s.tu n).sums with
  | none => s
  | some u =>
    if 4 ≤ u.excluded + 1 then tuFailed (tuOpen (s.modTu n (fun r => { r with pending := none })) n) n 2 true
    else s.modTu n (fun r => { r with sums := some { u with excluded := u.excluded + 1 } })

/-- The pending result of complete sums (R418). -/
def tuResult (s : State) (n : Nat) (t : TuTable) (px : List TuPixel) (u : TuSums) : TuPending :=
  let navg := 2 ^ u.navgl
  let tref := wrap32 (sar (u.tsum + ((navg / 2 : Nat) : Int)) u.navgl)
  let badthr := s.fld (Reg.TUn_THR n) 15 0
  let ofs := u.sum.map (fun x => (x + navg / 2) / navg)
  { ofs := ofs, tref := tref, tsh := u.tsh
    bad := (px.zip ofs).map (fun x =>
      badthr != 0 && decide (badthr < ((x.2 : Int) - ((x.1.ofs : Int) + tuDrift x.1 t.tc t.tref tref)).natAbs)) }

/-- A good frame of AVERAGE is summed; the last completes the sums (R417, R418). -/
def tuSum (s : State) (n : Nat) (t : TuTable) (px : List TuPixel) (raw : List Nat) (tfpa : Int) : State :=
  match (s.tu n).sums with
  | none => s
  | some u =>
    let sum := if u.frames = 0 then raw else (u.sum.zip raw).map (fun x => x.1 + x.2)
    let u := { u with frames := u.frames + 1, sum := sum, tsum := u.tsum + tfpa }
    if u.frames < 2 ^ u.navgl then s.modTu n (fun r => { r with sums := some u })
    else
      let p := tuResult s n t px u
      (tuOpen s n).modTu n (fun r => { r with pending := some p, applyDue := false })

/-- The distance of two counts. -/
def absDiff (a b : Nat) : Nat := if a < b then b - a else a - b

/-- A frame confirms opening (R419). With no pixel that is not BAD the mean is a free value. DEDUCED (log 79). -/
def tuConfirms (s : State) (n : Nat) (px : List TuPixel) (raw : List Nat) : Bool × State :=
  let thr := s.fld (Reg.TUn_THR n) 31 16
  if thr = 0 then (true, s)
  else
    let ofs : List Nat := match (s.tu n).pending with | some p => p.ofs | none => px.map (fun q : TuPixel => q.ofs)
    let bad := (s.tu n).storeBad
    let diffs := (List.range px.length).filterMap (fun p =>
      match px[p]?, raw[p]?, ofs[p]? with
      | some q, some r, some o => if tuBad bad p q then none else some (absDiff r o)
      | _, _, _ => none)
    if diffs.isEmpty then
      let (v, s) := s.draw
      (decide (thr < v.toNat), s)
    else (decide (thr < diffs.foldl (· + ·) 0 / diffs.length), s)

/-- A processed frame's part in a calibration under way, by the state the frame started in (R417 to R419). -/
def tuAdvance (s : State) (n : Nat) (f : SensorFrame) (t : TuTable) (px : List TuPixel) (raw : List Nat) (tfpa : Int) : State :=
  let settle (next : State → State) : State :=
    let c := (s.tu n).count + 1
    if s.tuSettle n ≤ c then next s else s.modTu n (fun r => { r with count := c })
  match s.tuState n with
  | 3 => if f.st = 3 then settle (fun s => tuAverage s n) else s
  | 4 => if f.st = 4 then (if (s.tu n).storeBad.isEmpty then tuSum s n t px raw tfpa else tuExclude s n) else s
  | 5 =>
    if f.st = 5 then
      let (ok, s) := tuConfirms s n px raw
      if ok then tuSettleO s n
      else if 8 ≤ (s.tu n).count + 1 then raise (tuSet s n 7) 20 0 true
      else s.modTu n (fun r => { r with count := r.count + 1 })
    else s
  | 6 => settle (fun s => tuSettled s n)
  | 7 =>
    if f.st = 5 ∨ f.st = 7 then
      let (ok, s) := tuConfirms s n px raw
      if ok then tuSettleO s n else s
    else s
  | _ => s

/-- The temperature dwell count at a frame (R416, R420), and whether the frame starts a calibration. DEDUCED (log 80). -/
def tuTrigger (s : State) (n : Nat) (f : SensorFrame) (tfpa tref : Int) : State × Bool :=
  let delta := s.fld (Reg.CAL_TUn_DELTA n) 15 0
  let need := s.fld (Reg.TUn_SHUT n) 15 12
  let uncal := s.bit (Reg.TUn_STATUS n) 5
  let able := delta != 0 && need != 0 && !uncal && !s.bit (Reg.TUn_STATUS n) 6
  let s := s.modTu n (fun r => { r with dwell := if able && decide (delta < (tfpa - tref).natAbs) then r.dwell + 1 else 0 })
  let r := s.tu n
  let auto := r.firstDue && fbit (f.par (Reg.TUn_CFG n)) 4 && uncal
  let drift := able && decide (need ≤ r.dwell) && !s.bit (Reg.TUn_STATUS n) 4
  (s.modTu n (fun r => { r with firstDue := false }), r.calReq || auto || drift)

/-- Store pages found uncorrectable in this frame (R408, R421). -/
def tuStorePages (s : State) (n count : Nat) (pages : List Nat) : State :=
  let new := (pages.filter (fun p => decide (32 * p < count) && !(s.tu n).storeBad.contains p)).eraseDups
  if new.isEmpty then s else raise (s.modTu n (fun r => { r with storeBad := r.storeBad ++ new })) 20 0 false

/-- A whole frame of a running unit with a table is processed (R405 to R414, R416 to R419). DEDUCED (log 79). -/
def tuProcess (s : State) (n w h : Nat) (f : SensorFrame) (t : TuTable) (pages : List Nat) (late : Bool) : State :=
  let s := tuStorePages s n (w * h) pages
  let (extra, s) := drawPixels (w * h - t.px.length) s
  let px := t.px.take (w * h) ++ extra
  let rows := (f.rows.drop (fbits (f.par (Reg.TUn_GEOM n)) 25 23)).map (fun r => r.map BitVec.toNat)
  let raw := rows.flatMap id
  let uncal := s.bit (Reg.TUn_STATUS n) 5
  let tfpa := tuTfpa n f t.tref
  let tref := if uncal then tfpa else t.tref
  let t := { t with tref := tref }
  let s := s.modTu n (fun r => { r with table := some t })
  let s := (s.setBit (Reg.TUn_STATUS n) 6 (tuNoTemp n f)).setReg (Reg.TUn_TFPA n) (BitVec.ofNat 32 (uint 32 tfpa))
  let s := (s.setReg (Reg.TUn_TREF n) (BitVec.ofNat 32 (uint 32 tref))).setReg (Reg.TUn_FRAME n) f.number
  let s := if s.tuState n = 1 ∧ f.st = 1 then
      let r := tuTrigger s n f tfpa tref
      if r.2 then tuClose r.1 n else r.1
    else s
  let shutter := tuCalibrating f.st || tuCalibrating (s.tuState n)
  let bad := (s.tu n).storeBad
  let inBad := ((List.range (w * h)).filter (fun p => bad.contains (p / 32))).length
  let s := if inBad = 0 then s else s.count (Reg.TUn_STOREERR n) inBad
  let ys := (List.range h).map (fun y => (List.range w).map (fun x =>
    let p := y * w + x
    match px[p]?, raw[p]? with
    | some q, some r => if tuBad bad p q then none else some (tuY q t.tc tref tfpa r)
    | _, _ => none))
  let img := (tuReplace none ys).map (fun row => row.map (tuOut t.rt (s.fld (Reg.TUn_SHOFS n) 15 0)))
  let unrep := ((img.flatMap id).filter Option.isNone).length
  let s := if unrep = 0 then s else s.count (Reg.TUn_UNREP n) unrep
  let flags := b2n shutter + 2 * b2n uncal + 4 * b2n (tuNoTemp n f)
  let s := tuWriteFrame s n w h f (tuBuffer s n w h f flags tfpa tref unrep ((img.flatMap id).map (fun o => o.getD 0))) late
  let s := if shutter then s else frameStats s n f img
  tuAdvance s n f t px raw tfpa

/-- TU_FRAME (R403 to R419): the oldest frame the bound port has handed over. `pages` are the store pages found uncorrectable
    in it; `late` where its writes fall more than one frame behind (R412). -/
def execTuFrame (n : Nat) (pages : List Nat) (late : Bool) (s : State) : Host.Outcome State Fault Refusal :=
  .next (match sget [] s.sens.inbox n with
    | [] => s
    | f :: rest =>
      let s := s.modSens (fun x => { x with inbox := sset [] x.inbox n rest })
      let st := s.tuState n
      let g := f.par (Reg.TUn_GEOM n)
      let w := fbits g 11 0
      let h := fbits g 22 12
      if s.variant.tus ≤ n ∨ st = 0 ∨ st = 8 ∨ f.st = 0 ∨ f.st = 8 ∨ w = 0 ∨ h = 0 then s
      else if f.broken || f.rows.length != fbits g 25 23 + h || f.rows.any (fun r => r.length != w) then
        let s := s.count (Reg.TUn_FRMERR n) 1
        if st = 4 ∧ f.st = 4 then tuExclude s n else s
      else match (s.tu n).table with
        | none => s
        | some t => tuProcess s n w h f t pages late)

/-- The CAL command (R416, R417, R420). -/
def tuCal (s : State) (n : Nat) : State :=
  if s.variant.tus ≤ n then s
  else if s.tuState n = 1 then s.modTu n (fun r => { r with calReq := true }) else tuCmdErr s n

/-- TU_CAL (R416). -/
def execTuCal (n : Nat) (s : State) : Host.Outcome State Fault Refusal := .next (tuCal s n)

/-- The ABORT command (R417). -/
def tuAbort (s : State) (n : Nat) : State :=
  if s.tuState n = 2 ∨ s.tuState n = 3 ∨ s.tuState n = 4 then
    tuFailed (tuOpen (s.modTu n (fun r => { r with pending := none })) n) n 3 false
  else s

/-- TU_ABORT (R417). -/
def execTuAbort (n : Nat) (s : State) : Host.Outcome State Fault Refusal := .next (tuAbort s n)

/-- A closing without a movement: RUN, LASTFAIL NOMOVE and HOLDOFF (R417). -/
def tuNoMove (s : State) (n : Nat) : State :=
  tuFailed ((tuSet s n 1).modTu n (fun r => { r with closing := none, result := none })) n 1 true

/-- TU_MOVE_RESULT (R415, R417): the result the shutter channel has returned. -/
def execTuMoveResult (n : Nat) (s : State) : Host.Outcome State Fault Refusal :=
  .next (if s.tuState n ≠ 2 then s
    else match (s.tu n).result with
      | none => s
      | some none => tuNoMove s n
      | some (some t) =>
        tuSettleC ((s.modTu n (fun r => { r with result := none })).setReg (Reg.TUn_TMOVE n) (BitVec.ofNat 32 t)) n)

/-- TU_MOVE_TIMEOUT (R415): no result within 500 ms of the closing request counts as NO_MOVE. -/
def execTuMoveTimeout (n : Nat) (s : State) : Host.Outcome State Fault Refusal :=
  .next (if s.tuState n = 2 then tuNoMove s n else s)

/-- TU_HOLDOFF_EXPIRY (R417). -/
def execTuHoldoffExpiry (n : Nat) (s : State) : Host.Outcome State Fault Refusal :=
  .next (s.setBit (Reg.TUn_STATUS n) 4 false)

end Sys2Proof.Machine
end

