-- ==== Sys2Proof/Machine/Commit.lean ====
section
/-! DEFINITION. Application of staged sets at COMMIT and at seams (R298, R300, R302), and the position broadcast (R195). -/

namespace Sys2Proof.Machine

/-! ### Values a staged register refuses (R329, R478) -/

/-- The port whose LANES register is at `a`. -/
def lanesPort (a : Nat) : Option Nat := (List.range 24).find? (fun p => Reg.UMK_PORTp_LANES p == a)

/-- The loop engine whose CFG register is at `a`. -/
def leCfgOf (a : Nat) : Option Nat := (List.range 32).find? (fun n => Reg.LEn_CFG n == a)

/-- A value that a staged register takes; others have no effect and enter no set (R205, R329, R478). -/
def stagedOk (s : State) (a : Nat) (v : W32) : Bool :=
  match lanesPort a with
  | some _ => fbits v 15 14 != 3 && lanesValid s.variant v
  | none =>
    match leCfgOf a with
    | some _ => fbits v 2 1 != 0 && fbits v 7 6 != 3 && !(fbit v 5 && fbits v 24 17 != 0)
    | none => !((List.range 4).any (fun n => Reg.POSn_CFG n == a) && fbits v 1 0 == 3)

/-- CFGERR of the port whose LANES write was refused for its lanes (R329). -/
def stagedRefused (s : State) (a : Nat) (v : W32) : State :=
  match lanesPort a with
  | some p => if lanesValid s.variant v then s else s.setBit (Reg.UMK_PORTp_STATE p) 15 true
  | none => s

/-! ### Application -/

/-- A seat-class change comes into force: seats enabled leave OFF where they may, seats disabled go to OFF (R46, R53). -/
def seatClassApplied (s : State) (e c : Nat) : State :=
  let s := s.each (List.range 8) (fun s n =>
    let i := 128 * e + 8 * c + n
    if !s.seatEnabled i && (s.seat i).st != .off then seatOff s i else s)
  if s.islandUp e then engineSeatsOn s e else s

/-- A web's SRC has come back to ENC while it is enabled: it goes on in SLOW from the position it holds (R181, R186).
    DEDUCED (log 60). -/
def webCfgApplied (s : State) (n : Nat) (old : W32) : State :=
  if fbits old 1 0 = 0 ∨ s.webSrc n ≠ 0 ∨ !s.bit (Reg.POSn_CTL n) 0 then s
  else
    let w := s.web n
    let s := s.setWeb n { w with acc := w.bcast, trusted := w.bcast, nsyn := 0, tReal := none, runc := 0, slowc := 0 }
    let s := (webView (s.setWebState n 1) n).setFld (Reg.POSn_STATE n) 8 7 0
    lostLine (s.setUncert n false)

/-- What follows from a staged register's new value in force, given the old one. -/
def changeApplied (s : State) (a : Nat) (old : W32) : State :=
  match (List.range 4).find? (fun n => Reg.POSn_CFG n == a) with
  | some n => webCfgApplied s n old
  | none =>
  match lanesPort a with
  | some p => lanesApplied s p old
  | none =>
    match leCfgOf a with
    | some n => leApplied s n old
    | none =>
      match ((List.range 5).flatMap (fun e => (List.range 12).map (fun c => (e, c)))).find?
          (fun x => Reg.SEn_SEATCLASSc x.1 x.2 == a) with
      | some (e, c) => seatClassApplied s e c
      | none => s

/-- The bits of a register a write reaches (R13). -/
def regMask (a : Nat) : W32 :=
  match regRow a with
  | some r => BitVec.ofNat 32 r.writable
  | none => 0

/-- A set's changes come into force together (R298, R300). DEDUCED (log 58). -/
def applySet (s : State) (l : List (Nat × W32)) : State :=
  let l := l.filter (fun x => stagedOk s x.1 x.2)
  let olds := l.map (fun x => (x.1, s.act x.1))
  let s := s.each l (fun s x => s.setAct x.1 (x.2 &&& regMask x.1))
  let s := s.each olds (fun s x => changeApplied s x.1 x.2)
  sensingApplied s

/-- A set has been applied: counted, and reported in RESULT and by a STAGE record (R303, R323). DEDUCED (log 58). -/
def setApplied (s : State) (d : Nat) (r : StgResult) : State := stgResult (s.countMod (Reg.SNP_STGd_COUNT d) 1) d r

/-! ### COMMIT (R298) -/

/-- COMMIT: refused with BUSY while the armed set is not empty, and with CONFIG_TOO_LARGE on OVF or with a list.
    DEDUCED (log 58). -/
def stgCommit (s : State) (d : Nat) : State :=
  let g := s.stgDom d
  if g.armedOn && (!g.armed.isEmpty || s.listN d != 0) then stgResult s d .busy
  else if s.bit (Reg.SNP_STGd_STATUS d) 11 || s.listN d != 0 then stgResult s d .tooLarge
  else
    let s := stgCount (s.setStgDom d { g with openSet := [] }) d
    setApplied (applySet s g.openSet) d .applied

/-- STAGE_COMMIT (R298). -/
def execStageCommit (who : Requester) (d : Nat) (s : State) : Host.Outcome State Fault Refusal :=
  .next (respond who (if s.stgAccess who d then (stgCommit s d, true) else (s, false)))

/-! ### Seams (R300 to R302) -/

/-- The event SEAM on every subscribed seat of the domain, with TVAL the seam position (R302, R323). DEDUCED (log 59). -/
def seamEvents (s : State) (d : Nat) (pos : W64) : State :=
  s.each (List.range 4) (fun s i =>
    let r := s.reg (Reg.SNP_STGd_SUBi d i)
    let seat := if fbit r 10 then plantSeat else fbits r 9 0
    let ok := if fbit r 10 then (s.domain d).role == 3 else s.assigned d seat
    if fbit r 11 && ok && (s.seat seat).st != .off then s.modSeat seat (fun t => { t with seamQ := t.seamQ ++ [pos] })
    else s)

/-- The armed set of domain `d` is applied at this broadcast of web `w` (R300, R302, R303). DEDUCED (log 59). -/
def seamApply (s : State) (d w : Nat) : State :=
  let g := s.stgDom d
  let pos := s.reg64 (Reg.SNP_STGd_SEAM_LO d)
  let s := s.setReg64 (Reg.SNP_STGd_APPLIED_LO d) (BitVec.ofNat 64 (s.bcastPos w))
  let late := g.late || g.fired
  let s := applySet (stgDisarm s d) (g.armed ++ g.list)
  let s := setApplied s d (if late then .seamLate else .applied)
  let s := if late then raise s 38 0 false else s
  seamEvents s d pos

/-- Seam comparators at a broadcast (R300, R301). DEDUCED (log 59). -/
def fireSeams (s : State) : State :=
  s.each (List.range 8) (fun s d =>
    let g := s.stgDom d
    let w := s.fld (Reg.SNP_STGd_CFG d) 1 0
    if !g.armedOn || !s.webMoves w || !(g.fired || decide (s.seamPos d ≤ s.bcastPos w)) then s
    else
      let s := if g.fired then s else s.setBit (Reg.SNP_STGd_STATUS d) 15 (s.bit (Reg.POSn_STATE w) 2)
      if s.fld (Reg.SNP_STGd_STATUS d) 14 13 == 2 then seamApply s d w
      else s.setStgDom d { g with fired := true })

/-- POSITION_BROADCAST (R195): positions and states of the webs, marks and seams, and what waits for a web. -/
def execPositionBroadcast (t : W64) (s : State) : Host.Outcome State Fault Refusal :=
  .next (if !s.islandUp 22 then s
    else
      let s := newTags (s.upTo t)
      let s := noteBroadcast (bcastWebs s t.toNat) t
      let s := tryRotate (fireSeams (fireMarks s))
      s.each (List.range s.variant.engines) emuRestart)

end Sys2Proof.Machine
end

