-- ==== Sys2Proof/Machine/Rtc.lean ====
section
/-! DEFINITION. The real-time clock (R450 to R453), the schedule comparator (R454, R455) and presence inputs (R449). -/

namespace Sys2Proof.Machine

/-! ### Time (R450, R451) -/

/-- AON_RTC_SEC. -/
def State.rtcSec (s : State) : Nat := (s.reg64 Reg.AON_RTC_SEC_LO).toNat

/-- Local time in seconds since 2000-01-01 00:00:00 (R451). -/
def State.localSec (s : State) : Int := (s.rtcSec : Nat) + 60 * sint 16 (s.fld Reg.AON_TZ 15 0)

/-- The local minute. -/
def State.localMin (s : State) : Int := s.localSec / 60

/-- Days of year 2000 + `y`, for the years 2000 to 2099. -/
def yearDays (y : Nat) : Nat := if y % 4 = 0 then 366 else 365

/-- The year and the day within it, counted from day `d` of year `y`. -/
def splitYear : Nat → Nat → Nat → Nat × Nat
  | 0, y, d => (y, d)
  | k + 1, y, d => if d < yearDays y then (y, d) else splitYear k (y + 1) (d - yearDays y)

/-- The month and the day of the month, both from 0. -/
def splitMonth : List Nat → Nat → Nat → Nat × Nat
  | [], m, d => (m, d)
  | n :: ns, m, d => if d < n then (m, d) else splitMonth ns (m + 1) (d - n)

/-- Weekday of day `d` since 2000-01-01, a Saturday: 1 for Monday to 7 for Sunday. -/
def weekday (d : Nat) : Nat := (d + 5) % 7 + 1

/-- AON_CAL_DATE and AON_CAL_TIME of a local second in the years 2000 to 2099 (R451). DEDUCED (log 38). -/
def calendar (t : Nat) : W32 × W32 :=
  let d := t / 86400
  let (y, yd) := splitYear 100 0 d
  let (m, md) := splitMonth [31, if y % 4 = 0 then 29 else 28, 31, 30, 31, 30, 31, 31, 30, 31, 30, 31] 0 yd
  (BitVec.ofNat 32 (y + 2 ^ 7 * (m + 1) + 2 ^ 11 * (md + 1) + 2 ^ 16 * weekday d),
   BitVec.ofNat 32 (t % 60 + 2 ^ 6 * (t / 60 % 60) + 2 ^ 12 * (t / 3600 % 24)))

/-- Days of 2000 to 2099. DEDUCED (log 38). -/
def centuryDays : Nat := 36525

/-- AON_CAL_DATE and AON_CAL_TIME are latched together; outside 2000 to 2099 their values are free (R451). -/
def calLatch (s : State) : State :=
  let t := s.localSec
  if 0 ≤ t ∧ t < 86400 * centuryDays then
    let (d, c) := calendar t.toNat
    (s.setReg Reg.AON_CAL_DATE d).setReg Reg.AON_CAL_TIME c
  else
    let (a, s) := s.draw
    let (b, s) := s.draw
    (s.setReg Reg.AON_CAL_DATE (a.setWidth 32 &&& 0x7FFFF)).setReg Reg.AON_CAL_TIME (b.setWidth 32 &&& 0x1FFFF)

/-- CAL_DATE_READ (R451): the requester reads the latched date. -/
def execCalDateRead (who : Requester) (s : State) : Host.Outcome State Fault Refusal :=
  .next (if s.controlAllowed who Reg.AON_CAL_DATE false then
      let s := calLatch s
      { s with out := s.out ++ [Out.readData who ((s.reg Reg.AON_CAL_DATE).setWidth 64)] }
    else { s with out := s.out ++ [Out.busError who] })

/-! ### The schedule comparator (R454, R455) -/

/-- Entry `k` fires in local minute `m` (R454). -/
def schFires (s : State) (m : Int) (k : Nat) : Bool :=
  let e := s.reg (Reg.AON_SCHk k)
  let day := m / 1440
  let wd := ((day + 5) % 7).toNat
  fbit e 29 && fbits e 5 0 == (m % 60).toNat && fbits e 10 6 == (m % 1440 / 60).toNat && fbit e (11 + wd)

/-- The zones an entry names take its mode. -/
def schApply (s : State) (k : Nat) : State :=
  let e := s.reg (Reg.AON_SCHk k)
  s.each (List.range 8) (fun s z => if fbit e (18 + z) then s.setFld Reg.AON_ZMODE (2 * z + 1) (2 * z) (fbits e 27 26) else s)

/-- A local minute is evaluated: the firing entries apply in ascending order, and a switch point is signalled (R454).
    DEDUCED (log 38). -/
def minuteEvaluate (s : State) (m : Int) : State :=
  let s := { s with plant := { s.plant with lastMin := some m } }
  let ks := (List.range 64).filter (schFires s m)
  if ks.isEmpty then s
  else
    let s := (s.each ks schApply).setBit Reg.AON_STATUS 1 true
    let s := if s.power = .on then zonesRefresh s else s
    if ks.any (fun k => s.bit (Reg.AON_SCHk k) 28) then wakeSource s 2 else s

/-- A minute is past the last one evaluated. -/
def minuteDue (s : State) (m : Int) : Bool :=
  match s.plant.lastMin with | some l => decide (l < m) | none => true

/-- SCHEDULE_MINUTE (R454, R455): second 0 of a local minute not yet evaluated. -/
def execScheduleMinute (s : State) : Host.Outcome State Fault Refusal :=
  .next (if s.power ≠ .dead ∧ s.localSec % 60 = 0 ∧ minuteDue s s.localMin then minuteEvaluate s s.localMin else s)

/-- A write of AON_TZ: out of range it has no effect; a step forward of more than one minute evaluates every skipped
    minute (R451, R455). DEDUCED (log 38). -/
def tzWrite (s : State) (v : BitVec 16) : State :=
  if 840 < (sint 16 v.toNat).natAbs then s
  else
    let was := s.localMin
    let s := s.setReg Reg.AON_TZ (v.setWidth 32)
    let now := s.localMin
    match s.plant.lastMin with
    | some l =>
      if now - was ≤ 1 then s
      else s.each ((List.range (now - l).toNat).map (fun (i : Nat) => l + 1 + (i : Int))) minuteEvaluate
    | none => s

/-- AON_TZ_WRITE (R455). -/
def execAonTzWrite (value : BitVec 16) (s : State) : Host.Outcome State Fault Refusal := .next (tzWrite s value)

/-! ### The clock (R450, R452, R453) -/

/-- A write of AON_RTC_SEC takes effect (R450, R455). -/
def rtcWrite (s : State) (v : BitVec 40) : State :=
  let s := (s.setReg64 Reg.AON_RTC_SEC_LO (v.setWidth 64)).setReg Reg.AON_RTC_SUB 0
  { s with plant := { s.plant with lastMin := some s.localMin } }

/-- RTC_SEC_WRITE (R450). -/
def execRtcSecWrite (value : BitVec 40) (s : State) : Host.Outcome State Fault Refusal := .next (rtcWrite s value)

/-- The alarm is written: it may fire once (R452). -/
def alarmWritten (s : State) : State := { s with plant := { s.plant with alarmArmed := true } }

/-- The alarm fires once when the clock has reached it (R452). -/
def alarmCheck (s : State) : State :=
  let a := (s.reg64 Reg.AON_ALARM_LO).toNat
  if s.plant.alarmArmed && a != 0 && decide (a ≤ s.rtcSec) then
    wakeSource ({ s with plant := { s.plant with alarmArmed := false } }.setBit Reg.AON_STATUS 0 true) 1
  else s

/-- Overrides count down once per minute; at 0 they end (R456). DEDUCED (log 38). -/
def overrideMinute (s : State) : State :=
  if s.power ≠ .on then s
  else zonesRefresh (s.each (List.range 8) (fun s z =>
    let n := s.fld (Reg.PLT_CZz_OVR z) 17 4
    if n = 0 then s
    else
      let s := s.setFld (Reg.PLT_CZz_OVR z) 17 4 (n - 1)
      if n = 1 then s.setBit (Reg.PLT_CZz_OVR z) 2 false else s))

/-- RTC_SECOND (R450, R452, R456). -/
def execRtcSecond (s : State) : Host.Outcome State Fault Refusal :=
  .next (if s.power = .dead then s
    else
      let s := s.setReg64 Reg.AON_RTC_SEC_LO (BitVec.ofNat 64 ((s.rtcSec + 1) % 2 ^ 40))
      let s := s.setReg Reg.AON_RTC_SUB 0
      let s := alarmCheck s
      if s.rtcSec % 60 = 0 then overrideMinute s else s)

/-- OSC_STOP (R453). -/
def execOscStop (s : State) : Host.Outcome State Fault Refusal :=
  .next (if s.power = .dead then s
    else
      let s := s.setBit Reg.AON_STATUS 2 true
      if s.power = .on then raise s 34 0 false else s)

/-! ### Presence inputs (R449) -/

/-- One sample of PRESn at its level: live at once, debounced after DB samples; a debounced presence is a wake source.
    DEDUCED (log 37). -/
def presSample (s : State) (n : Nat) (level : Bool) : State :=
  let b := level != s.bit Reg.PLT_PRESCFG n
  let db := s.fld Reg.PLT_PRESCFG 11 4
  let s := s.setBit Reg.PLT_PRES n b
  let count (s : State) (k : Nat) : State := { s with plant := { s.plant with presCount := sset 0 s.plant.presCount n k } }
  if b == s.bit Reg.PLT_PRES (4 + n) then count s 0
  else
    let k := sget 0 s.plant.presCount n + 1
    if db ≤ k then
      let s := (count s 0).setBit Reg.PLT_PRES (4 + n) b
      if b then wakeSource s (3 + n) else s
    else count s k

/-- PRES_SAMPLE (R449): the levels of PRES0 to PRES3; zones follow (R456). -/
def execPresSample (levels : BitVec 4) (s : State) : Host.Outcome State Fault Refusal :=
  .next (if s.power = .on then occAll (s.each (List.range 4) (fun s n => presSample s n (levels.getLsbD n))) else s)

end Sys2Proof.Machine
end

