-- ==== Sys2Proof/Machine/Control.lean ====
section
/-! DEFINITION. Reaching a control-space address (R3, R36, R37) and reading it (R12, R13, R293, R294). -/

namespace Sys2Proof.Machine

/-! ### Reaching an address (R3, R36, R37) -/

/-- What an access to a control-space address finds: its register, an absent unit, or a bus error. -/
inductive Reach
  | ok | absent | bus
  deriving DecidableEq, Repr

/-- A register of island `i` (R37). -/
def islandReach (s : State) (i : Nat) : Reach :=
  if !s.variant.island i then .absent else if s.islandUp i then .ok else .bus

/-- A register of a block that spans several islands: one present island of it is up (R37). -/
def anyReach (s : State) (l : List Nat) : Reach := if l.any (fun i => s.variant.island i && s.islandUp i) then .ok else .bus

/-- The register is one of a unit that the variant has. -/
def thereReach (there : Bool) (r : Reach) : Reach := if there then r else .absent

/-- The islands of the stacks and of the lane complexes (R15). -/
def mcIslands : List Nat := [6, 7, 8, 9, 10, 11, 12, 13]
def lcIslands : List Nat := [14, 15, 16, 17, 18, 19, 20, 21]

/-- A TMP register: the droop register, sensor or group of an absent island follows R3 (R590). -/
def tmpReach (s : State) (off : Nat) : Reach :=
  thereReach (if 0x100 ≤ off ∧ off < 0x200 then s.variant.island ((off - 0x100) / 4)
    else if 0x200 ≤ off ∧ off < 0x300 then s.groupThere ((off - 0x200) / 0x10)
    else if 0x400 ≤ off ∧ off < 0x500 then s.sensorThere ((off - 0x400) / 4) else true) (islandReach s 24)

/-- A CAL register: a trim of an absent unit follows R3 (R614). -/
def calReach (s : State) (off : Nat) : Reach :=
  thereReach (if 0x020 ≤ off ∧ off < 0x040 then decide ((off - 0x020) / 4 < s.variant.tus)
    else if 0x080 ≤ off ∧ off < 0x0C0 then decide ((off - 0x080) / 4 < s.variant.vs)
    else if 0x100 ≤ off ∧ off < 0x200 then s.sensorThere ((off - 0x100) / 4)
    else if 0x200 ≤ off ∧ off < 0x264 then s.variant.island ((off - 0x200) / 4) else true) (islandReach s 24)

/-- An SNP register: the entry of an absent engine, port or swath follows R3 (R321, R615). -/
def snpReach (s : State) (off : Nat) : Reach :=
  thereReach (if 0x060 ≤ off ∧ off < 0x074 then decide ((off - 0x060) / 4 < s.variant.engines)
    else if 0x080 ≤ off ∧ off < 0x0A0 then decide ((off - 0x080) / 4 < s.variant.sps)
    else if 0x1840 ≤ off ∧ off < 0x1860 then decide ((off - 0x1840) / 8 < s.variant.swaths) else true) (islandReach s 24)

/-- A UMK register: a lane's belongs to its lane complex, every other to the block as a whole (R37, R368). -/
def umkReach (s : State) (off : Nat) : Reach :=
  if 0x1000 ≤ off ∧ off < 0x1C00 then
    thereReach (decide ((off - 0x1000) / 0x20 < s.variant.lanes)) (islandReach s (14 + (off - 0x1000) / 0x20 / 12))
  else
    thereReach (if 0x100 ≤ off ∧ off < 0x700 then decide ((off - 0x100) / 0x40 < s.variant.ports) else true)
      (anyReach s lcIslands)

/-- What an access to address `a` finds (R3, R36, R37); the PLT and AON blocks lie in islands 24 and 25. DEDUCED (log 13). -/
def reach (s : State) (a : Nat) : Reach :=
  let off := a % 0x1000000
  match blockNumber a with
  | none => .bus
  | some 2 => tmpReach s off
  | some 3 => calReach s off
  | some 4 => snpReach s off
  | some 5 => islandReach s 5
  | some 6 =>
    if 0x1000 ≤ off ∧ off < 0x1200 then islandReach s (6 + (off - 0x1000) / 0x40) else anyReach s mcIslands
  | some 12 => islandReach s 22
  | some 13 => umkReach s off
  | some 14 =>
    thereReach (if 0x100 ≤ off ∧ off < 0x160 then decide ((off - 0x100) / 4 < s.variant.ports) else true) (anyReach s lcIslands)
  | some 15 =>
    if off < 0x1000 then thereReach (decide (off / 0x100 < s.variant.eth)) (islandReach s (14 + off / 0x100 / 2))
    else thereReach (decide (0 < s.variant.eth)) (anyReach s lcIslands)
  | some 16 => thereReach (decide (0x800 ≤ off ∨ off / 0x100 < s.variant.sps)) (islandReach s 23)
  | some 17 => thereReach (decide (0x4000 ≤ off ∨ off / 0x1000 < s.variant.cps)) (islandReach s 23)
  | some 18 => thereReach (decide (0x8000 ≤ off ∨ off / 0x1000 < s.variant.tus)) (islandReach s 23)
  | some 20 => thereReach (decide (0x2000 ≤ off ∨ off / 0x100 < s.variant.les)) (islandReach s 24)
  | some 21 => thereReach (decide (0x1000 ≤ off ∨ off / 0x100 < s.variant.vs)) (islandReach s 24)
  | some 23 => thereReach (decide (0xC00 ≤ off ∨ off / 0x100 < s.variant.fans)) (islandReach s 24)
  | some 26 => islandReach s 25
  | some n =>
    if 7 ≤ n ∧ n ≤ 11 then
      thereReach (s.variant.icu || decide (off < 0x280) || decide (0x2C0 ≤ off)) (islandReach s (n - 7))
    else islandReach s 24

/-- The pages of one domain outside its domain page: its staging page (R323) and its mailbox page (R399). Only the domain
    itself and M mode reach them. -/
def pageReach (s : State) (w : Requester) (a : Nat) : Bool :=
  let off := a % 0x1000000
  if blockNumber a = some 4 ∧ 0x1000 ≤ off ∧ off < 0x1800 then s.stgAccess w ((off - 0x1000) / 0x100)
  else if blockNumber a = some 14 ∧ 0x400 ≤ off ∧ off < 0x600 then s.whoIs w ((off - 0x400) / 0x40)
  else true

/-! ### Reading (R12, R13) -/

/-- The staged register whose value in force an _ACT register shows (R13). -/
def actOf (a : Nat) : Option Nat :=
  let off := a % 0x1000000
  match blockNumber a with
  | some 12 =>
    let r := (off - 0x100) % 0x80
    if 0x100 ≤ off ∧ off < 0x300 then
      if r = 0x6C then some (a - 0x68) else if r = 0x64 ∨ r = 0x68 then some (a - 0x5C) else none
    else none
  | some 13 => if 0x100 ≤ off ∧ off < 0x700 ∧ (off - 0x100) % 0x40 = 4 then some (a - 4) else none
  | some 17 =>
    let r := off % 0x1000
    if r = 4 then some (a - 4) else if 0x60 ≤ r ∧ r ≤ 0x80 then some (a - 0x40) else none
  | some 18 =>
    let r := off % 0x1000
    if r = 4 then some (a - 4) else if 0x100 ≤ r ∧ r < 0x300 ∧ r % 0x20 = 4 then some (a - 4) else none
  | some 20 =>
    let r := off % 0x100
    if 0x2000 ≤ off then none else if r = 4 then some (a - 4) else if 0x40 ≤ r ∧ r < 0x60 then some (a - 0x20) else none
  | some 23 => if 0x60 ≤ off % 0x100 ∧ off % 0x100 < 0x80 then some (a - 0x20) else none
  | _ => none

/-- The registers of SYS whose values the variant and the fuses give (R32, R126). -/
def sysView (s : State) (a : Nat) : W32 :=
  let v := s.variant
  if a = Reg.SYS_ID then BitVec.ofNat 32 (v.part + 0xC5 * 2 ^ 24)
  else if a = Reg.SYS_CAP0 then
    BitVec.ofNat 32 ((2 ^ v.engines - 1) + (if v.icu then 2 ^ v.engines - 1 else 0) * 2 ^ 5 + (2 ^ v.stacks - 1) * 2 ^ 16 + 24 * 2 ^ 24)
  else if a = Reg.SYS_CAP1 then
    BitVec.ofNat 32 (v.lanes + v.eth * 2 ^ 8 + v.sps * 2 ^ 16 + v.cps * 2 ^ 20 + v.tus * 2 ^ 24)
  else if a = Reg.SYS_CAP2 then
    BitVec.ofNat 32 (v.les + v.vs * 2 ^ 8 + v.fans * 2 ^ 16 + 16 * 2 ^ 20 + 4 * 2 ^ 25 + 2 * 2 ^ 28)
  else if a = Reg.SYS_MEMTOP_HI then BitVec.ofNat 32 ((s.memSize - 1) / 2 ^ 32)
  else if a = Reg.SYS_UID_LO then s.uid.setWidth 32
  else if a = Reg.SYS_UID_HI then (s.uid >>> 32).setWidth 32
  else if a = Reg.SYS_FUSE_ROLLBACK then BitVec.ofNat 32 (fuseCount s.rollFuses)
  else if Reg.SYS_FUSE_KEYHASHn 0 ≤ a ∧ a < Reg.SYS_FUSE_KEYHASHn 8 then
    (s.keyFuses >>> (8 * (a - Reg.SYS_FUSE_KEYHASHn 0))).setWidth 32
  else if a = Reg.SYS_TRUST then fsetb (s.reg a) 0 s.closed
  else s.reg a

/-- A first member written by domain `d` is pending: PEND of SNP_STGd_STATUS (R293, R323). -/
def State.pairPending (s : State) (d : Nat) : Bool := s.pairHeld.any (fun e => e.2.map (fun x => x.2) == some d)

/-- The value a read of address `a` returns, without the read's side effects (R13): 0 for write-only registers and where no
    register is listed; the staged value; the value in force; what the register holds. -/
def regView (s : State) (a : Nat) : W32 :=
  match regRow a with
  | none => 0
  | some r =>
    if r.type = .wo ∨ r.type = .w1p then 0
    else match sget none s.pairHeld a with
      | some p => p.1
      | none =>
        if r.type = .rws then s.stagedRead a
        else match actOf a with
          | some b => s.act b
          | none =>
            if blockNumber a = some 0 then sysView s a
            else if a = Reg.FAB_LINK_STAT then s.fabLinkStat
            else if blockNumber a = some 4 ∧ 0x1000 ≤ a % 0x1000000 ∧ a % 0x1000000 < 0x1800 ∧ a % 0x100 = 0x1C then
              fsetb (s.reg a) 10 (s.pairPending ((a % 0x1000000 - 0x1000) / 0x100))
            else if blockNumber a = some 2 ∧ 0x400 ≤ a % 0x1000000 ∧ !s.sensorUp ((a % 0x1000000 - 0x400) / 4) then
              fset (s.reg a) 15 0 0x8000
            else s.reg a

/-- A read of a control-space register by a requester whose grants let it through; none is a bus error (R3, R12, R36, R37).
    A low word latches its high word, and the next read of that high word returns the latched value. DEDUCED (log 13). -/
def ctlRead (s : State) (w : Requester) (a : Nat) : Option W32 × State :=
  match reach s a with
  | .bus => (none, s)
  | .absent => (some 0, s)
  | .ok =>
    if !pageReach s w a then (none, s)
    else if a = Reg.AON_CAL_DATE then
      let s := calLatch s
      (some (s.reg a), s)
    else if isLow a then (some (regView s a), { s with hiLatch := sset none s.hiLatch (a + 4) (some (regView s (a + 4))) })
    else match sget none s.hiLatch a with
      | some v => (some v, { s with hiLatch := sset none s.hiLatch a none })
      | none => (some (regView s a), s)

end Sys2Proof.Machine
end

