-- ==== Sys2Proof/Machine/Write.lean ====
section
/-! DEFINITION. Writing a register as its table row says (R12, R13), and the writes of the blocks SYS, FC, TMP, CAL, SNP,
FAB, MEM and SE with what each register's own rule adds. -/

namespace Sys2Proof.Machine

/-! ### A register as its row says (R12, R13) -/

/-- The writable bits take the value and each 1 at a clearable bit clears it; read-only and reserved bits stay. -/
def plainWrite (s : State) (a : Nat) (v : W32) : State :=
  match regRow a with
  | none => s
  | some r =>
    s.setReg a (mergeMask (s.reg a) v (BitVec.ofNat 32 r.writable) &&& ~~~(v &&& BitVec.ofNat 32 r.clearable))

/-- The low word a write of a 64-bit register's high word takes with it: the one written since, or the register's own. -/
def State.lowWord (s : State) (lo : Nat) : W32 := (sget none s.loHeld lo).getD (s.reg lo)

/-- The held low word has been taken. -/
def State.dropLow (s : State) (lo : Nat) : State := { s with loHeld := sset none s.loHeld lo none }

/-- A write of a register without a rule of its own: a low word is held until its high word is written, and both take effect
    then (R12). FC_STATUS takes each half on its own (R568). -/
def store (s : State) (a : Nat) (v : W32) : State :=
  if isLow a ∧ a ≠ Reg.FC_STATUS_LO then { s with loHeld := sset none s.loHeld a (some v) }
  else if isLow (a - 4) ∧ a ≠ Reg.FC_STATUS_HI then plainWrite (plainWrite (s.dropLow (a - 4)) (a - 4) (s.lowWord (a - 4))) a v
  else plainWrite s a v

/-- `f` when `b`, else no change. -/
def stateIf (b : Bool) (f : State → State) (s : State) : State := if b then f s else s

/-- `n` draws of free sensor readings. -/
def drawReadings : Nat → State → List (BitVec 16) × State
  | 0, s => ([], s)
  | n + 1, s =>
    let r := drawReadings n s.draw.2
    (s.draw.1.setWidth 16 :: r.1, r.2)

/-! ### SYS (R32, R126, R132, R632) -/

/-- A write to domain `d`'s page (R132 to R136). -/
def domPageWrite (s : State) (d a : Nat) (v : W32) : State :=
  let off := a % 0x1000
  let ctl := Reg.SYS_Dd_NQ_CTL d
  if off < 0x100 then doorbellWrite s d (off / 4) v
  else if off < 0x200 then dbrouteWrite s d ((off - 0x100) / 4) v
  else if a = Reg.SYS_Dd_SEATCMD_HI d then
    let entry := BitVec.ofNat 40 ((s.lowWord (Reg.SYS_Dd_SEATCMD_LO d)).toNat + 2 ^ 32 * fbits v 7 0)
    seatCmd s d (fbits v 20 18) (fbits v 17 8) (BitVec.ofNat 11 (fbits v 31 21)) entry
  else if (a = Reg.SYS_Dd_NQ_BASE_LO d ∨ a = Reg.SYS_Dd_NQ_BASE_HI d) ∧ s.bit ctl 0 then s
  else if a = ctl then nqCtlWrite s d v
  else if a = Reg.SYS_Dd_NQ_HEAD d then nqHeadWrite s d v
  else store s a v

/-- A write of SYS_FUSE_CMD with its key (R123). -/
def fuseCmd (s : State) (v : W32) : State :=
  if fbits v 7 0 ≠ 0xC5 then s
  else stateIf (fbit v 9) (fun s => burnStart s false) (stateIf (fbit v 8) (fun s => burnStart s true) s)

/-- A write of SYS_PWR_CMD with its key (R626): WATCH, then RUN. -/
def pwrCmd (s : State) (v : W32) : State :=
  if fbits v 7 0 ≠ 0x3C then s
  else stateIf (fbit v 9) runCommand (stateIf (fbit v 8) (fun s => watchCommand s (fbit v 10)) s)

/-- A write of a SYS register. -/
def sysWrite (s : State) (w : Requester) (a : Nat) (v : W32) : Written :=
  let off := a % 0x1000000
  if 0x10000 ≤ off ∧ off < 0x18000 then (domPageWrite s ((off - 0x10000) / 0x1000) a v, true)
  else if a = Reg.SYS_OWN_INSTALL_LO then if s.ownerOrM w then (store s a v, true) else (s, false)
  else if a = Reg.SYS_OWN_INSTALL_HI then
    if s.ownerOrM w then (ownerInstall s w (s.lowWord Reg.SYS_OWN_INSTALL_LO) v [], true) else (s, false)
  else if a = Reg.SYS_FUSE_CMD then if s.ownerOrM w then (fuseCmd s v, true) else (s, false)
  else if a = Reg.SYS_PWR_CMD then if s.plantOrM w || s.whoRole w 1 then (pwrCmd s v, true) else (s, false)
  else if a = Reg.SYS_RST_CMD then
    if s.ownerOrM w then (stateIf (fbits v 7 0 == 0x96 && fbit v 8) rstCommand s, true) else (s, false)
  else (store s a v, true)

/-! ### FC (R547, R552, R553, R559, R568) -/

/-- A write of FC_SAFE_CMD (R559, R568): any other key makes it ignored; RELEASE and RESUME are the plant domain's and M
    mode's. -/
def safeCmd (s : State) (w : Requester) (v : W32) : Written :=
  if fbits v 7 0 ≠ 0x5A then (s, true)
  else if (fbit v 9 || fbit v 10) && !s.plantOrM w then (s, false)
  else
    let s := stateIf (fbit v 8) (fun s => safeOrder s .command 0) s
    (stateIf (fbit v 10) safeResume (stateIf (fbit v 9) safeRelease s), true)

/-- A write of FC_IET (R555, R568). FIRED clears when no condition of R554 holds, which the timer alone sees. -/
def ietWrite (s : State) (w : Requester) (v : W32) : Written :=
  match fcIetWrite s w v with
  | (s, false) => (s, false)
  | (s, true) =>
    if !fbit v 8 then (s, true)
    else if s.draw.1.getLsbD 0 then (s.draw.2, true)
    else ((s.draw.2.setBit Reg.FC_IET 8 false).setFld Reg.FC_IET 11 9 0, true)

/-- A write of an FC register. -/
def fcWrite (s : State) (w : Requester) (a : Nat) (v : W32) : Written :=
  let off := a % 0x1000000
  if a = Reg.FC_FIRST_CLR then (stateIf (fbit v 0) firstClear s, true)
  else if a = Reg.FC_HANDLING then (handlingWrite s w (fbit v 0), true)
  else if a = Reg.FC_SAFE_CMD then safeCmd s w v
  else if a = Reg.FC_SAFEOUT then fcSafeoutWrite s w v
  else if a = Reg.FC_PIP then fcPipWrite s w v
  else if a = Reg.FC_IET then ietWrite s w v
  else if a = Reg.FC_SWRAISE then (swRaise s (fbits v 3 0) (fbits v 5 4) (fbit v 6), true)
  else if 0x100 ≤ off ∧ off < 0x200 then fcSrcCfgWrite s w ((off - 0x100) / 4) v
  else (store s a v, true)

/-! ### TMP and CAL (R571, R583, R587, R590, R596, R614) -/

/-- A write of TMP_CMD: each group named takes a sample, of readings the manual leaves to the sensors. -/
def tmpCmd (s : State) (v : W32) : State :=
  s.each ((List.range 16).filter (fun g => fbit v g)) (fun s g =>
    let r := drawReadings 4 s
    if s.fld (Reg.TMP_GRPg_CFG g) 1 0 = 0 then s else groupSample r.2 g r.1)

/-- A write of a TMP register. -/
def tmpWrite (s : State) (a : Nat) (v : W32) : State :=
  let off := a % 0x1000000
  let g := (off - 0x200) / 0x10
  if a = Reg.TMP_CMD then tmpCmd s v
  else if a = Reg.TMP_CLKCFG then clkCfgWrite s v
  else if a = Reg.TMP_SEFREQ then sefreqWrite s v
  else if 0x100 ≤ off ∧ off < 0x200 then stateIf (decide (20 ≤ fbits v 5 0) && decide (fbits v 5 0 ≤ 60)) (fun s => store s a v) s
  else if 0x200 ≤ off ∧ off < 0x300 then
    if a = Reg.TMP_GRPg_CFG g then grpCfgWrite s g v
    else if a = Reg.TMP_GRPg_RATE g then grpRateWrite s g v
    else if a = Reg.TMP_GRPg_THR g then grpThrWrite s g v
    else s
  else store s a v

/-- A write of a CAL register. -/
def calRegWrite (s : State) (w : Requester) (a : Nat) (v : W32) : State :=
  if a = Reg.CAL_CMD then stateIf (fbit v 1) (fun s => calCommand s w true) (stateIf (fbit v 0) (fun s => calCommand s w false) s)
  else store s a v

/-! ### SNP (R301, R323, R324, R605, R606, R615) -/

/-- A write of a domain's staging page (R298 to R301, R323). -/
def stgPageWrite (s : State) (d a : Nat) (v : W32) : State :=
  if a = Reg.SNP_STGd_CMD d then
    let s := stateIf (fbit v 1) (fun s => stgArm s d) (stateIf (fbit v 0) (fun s => stgCommit s d) s)
    stateIf (fbit v 3) (fun s => stgDiscard s d) (stateIf (fbit v 2) (fun s => stgCancel s d) s)
  else if (s.stgDom d).armedOn ∧ Reg.SNP_STGd_CFG d ≤ a ∧ a ≤ Reg.SNP_STGd_LIST_N d then s
  else if a = Reg.SNP_STGd_LIST_N d then stateIf (decide (fbits v 16 0 ≤ 65536)) (fun s => store s a v) s
  else store s a v

/-- A write of a spare-controller register (R324). -/
def sprRegWrite (s : State) (a : Nat) (v : W32) : State :=
  if a = Reg.SNP_SPR_CFG then stateIf (decide (fbits v 7 0 ≤ 168) && decide (256 ≤ fbits v 31 16)) (fun s => store s a v) s
  else if a = Reg.SNP_SPR_CMD then
    let e := fbits v 6 4
    let s := stateIf (fbit v 1) sprAbort (stateIf (fbit v 0) wantRotate s)
    let s := stateIf (fbit v 2) (fun s => sprRetest s e) s
    stateIf (fbit v 3 && decide (e < s.variant.engines) && s.role e == 0) (fun s => engineFailed s e) s
  else
    match (List.range 4).find? (fun n => Reg.SNP_SPR_RECs_HI n == a) with
    | some n => sprRecWrite (s.dropLow (a - 4)) n (s.lowWord (a - 4)) v
    | none => store s a v

/-- A write of an SNP register. -/
def snpWrite (s : State) (w : Requester) (a : Nat) (v : W32) : Written :=
  let off := a % 0x1000000
  if 0x1000 ≤ off ∧ off < 0x1800 then (stgPageWrite s ((off - 0x1000) / 0x100) a v, true)
  else if 0x1800 ≤ off ∧ off < 0x1900 then if s.sprAccess w then (sprRegWrite s a v, true) else (s, false)
  else if a = Reg.SNP_CMD then (stateIf (fbit v 0) snpArm s, true)
  else if a = Reg.SNP_TRIG then (stateIf (fbit v 0) (fun s => snapTrigger s .soft s.ringTime) s, true)
  else if a = Reg.SNP_DBG then snpDbgWrite s w v
  else (store s a v, true)

/-! ### FAB and MEM (R160, R161, R169, R172 to R174, R178, R179) -/

/-- A write of an FAB register. -/
def fabWrite (s : State) (a : Nat) (v : W32) : State :=
  if a = Reg.FAB_FENCE_SET then fenceSet s v else if a = Reg.FAB_FENCE_CLR then fenceClr s v else store s a v

/-- A write of MEM_PASS_CMD: START, then ABORT; how far a pass has come is not stated. -/
def passCmd (s : State) (w : Requester) (v : W32) : State :=
  let s := stateIf (fbit v 0) (fun s => passStart s w) s
  if fbit v 1 && s.bit Reg.MEM_PASS_STATUS 0 then passAbort s.draw.2 (s.draw.1.toNat % (s.passRange.2 + 1)) [] else s

/-- A write of an MEM register; the second members of region pairs are written with their pairs. -/
def memWriteReg (s : State) (w : Requester) (a : Nat) (v : W32) : Written :=
  let off := a % 0x1000000
  let k := (off - 0x100) / 0x10
  if 0x100 ≤ off ∧ off < 0x200 ∨ a = Reg.MEM_DEFCFG then
    if !s.regionAccess w then (s, false)
    else if a = Reg.MEM_RGNk_SHADOW k then (rgnShadowWrite s k v, true)
    else if a = Reg.MEM_RGNk_CFG k then (rgnCfgWrite s k v, true)
    else (store s a v, true)
  else if a = Reg.MEM_PASS_CMD then (passCmd s w v, true)
  else if a = Reg.MEM_SCRUB_CTL then (stateIf (decide (fbits v 12 0 ≤ 4096)) (fun s => store s a v) s, true)
  else (store s a v, true)

/-! ### SE (R48, R53, R262, R290) -/

/-- A write of TSHARE of core `c` (R53): only the press-control domain and M mode, and at most TMAX and 192. -/
def tshareWrite (s : State) (w : Requester) (e c a : Nat) (v : W32) : Written :=
  let tmax := match s.owner with | some r => (r.tmax[c]?).getD 0 | none => 0
  if !(s.whoM w || s.whoRole w 1) then (s, false)
  else if tmax < fbits v 7 0 ∨ 192 < fbits v 7 0 ∨ !decide (e < s.variant.engines) then (s, true)
  else (store s a v, true)

/-- A write of a register of engine `e`. -/
def seWrite (s : State) (w : Requester) (e a : Nat) (v : W32) : Written :=
  let off := a % 0x1000000
  if 0x140 ≤ off ∧ off < 0x170 then tshareWrite s w e ((off - 0x140) / 4) a v
  else if a = Reg.SEn_HALTCTL e then
    let r := haltRelease s w e (fbits v 6 0)
    if fbit v 7 then r else (s, r.2)
  else if a = Reg.SEn_EMU_CMD e then (stateIf (fbit v 0) (fun s => emuCancel s e) s, true)
  else if a = Reg.SEn_ICU_CMD e then
    (stateIf (fbit v 1) (fun s => icuCancel s e) (stateIf (fbit v 0) (fun s => icuLock s e) s), true)
  else if a = Reg.SEn_ICU_LOCKCFG e then (stateIf (decide (fbits v 6 0 ≤ 64)) (fun s => store s a v) s, true)
  else (store s a v, true)

end Sys2Proof.Machine
end

