-- ==== Sys2Proof/Machine/WriteUnits.lean ====
section
/-! DEFINITION. What a register's own rule adds to its write in the blocks POS, UMK, RNG, SP, CP, TU, PLT, LE, V, ADC, FAN,
SPI, BB and AON (R205, R329, R368, R399, R441, R468, R470, R478, R486, R504, R521, R543, R633). -/

namespace Sys2Proof.Machine

/-! ### POS, UMK and RNG -/

/-- A write of a register of web `n` (R186, R194, R205). DEDUCED (log 60). -/
def webRegWrite (s : State) (n a : Nat) (v : W32) : State :=
  if a = Reg.POSn_CTL n then
    if s.bit a 0 == fbit v 0 then store s a v else if fbit v 0 then webEnable s n else webDisable s n
  else if a = Reg.POSn_CMD n then
    let s := stateIf (fbit v 2) (fun s => posClrcnt s n) s
    if fbit v 0 && fbit v 1 then cmdErr s n
    else stateIf (fbit v 1) (fun s => posResume s n) (stateIf (fbit v 0) (fun s => posSet s n) s)
  else store s a v

/-- A write of a register of mark `k` (R197, R205): its position and period keep while it is armed. -/
def markRegWrite (s : State) (k a : Nat) (v : W32) : State :=
  if a = Reg.POS_MKk_CTL k then markCtl s k v
  else if s.bit (Reg.POS_MKk_CTL k) 0 && decide (a < Reg.POS_MKk_CTL k) then s
  else store s a v

/-- A write of a POS register. -/
def posWrite (s : State) (a : Nat) (v : W32) : State :=
  let off := a % 0x1000000
  if 0x100 ≤ off ∧ off < 0x300 then webRegWrite s ((off - 0x100) / 0x80) a v
  else if 0x300 ≤ off ∧ off < 0x400 then
    if off % 0x40 = 0x14 then stateIf (fbit v 0) (fun s => tofPop s ((off - 0x300) / 0x40)) s
    else if off % 0x40 = 0x04 then lostLine (store s a v)
    else store s a v
  else if 0x1000 ≤ off then markRegWrite s ((off - 0x1000) / 0x20) a v
  else store s a v

/-- Transmit taps in range, leaving c(0) at 32/64 or above (R335, R368). -/
def txeqOk (v : W32) : Bool :=
  let pre3 := fbits v 3 0
  let pre2 := fbits v 8 4
  let pre1 := fbits v 13 9
  let post := fbits v 18 14
  decide (pre3 ≤ 4) && decide (pre2 ≤ 8) && decide (pre1 ≤ 19) && decide (post ≤ 13) &&
    decide (pre3 + pre2 + pre1 + post ≤ 32)

/-- A write of UMK_LANEl_CFG (R25, R351, R368): MODE 3 on a lane that carries no Ethernet has no effect. A lane that leaves
    a port fails there, and drop-stream links start and end with MODE 2. DEDUCED (log 63). -/
def laneCfgWrite (s : State) (l : Nat) (v : W32) : State :=
  let a := Reg.UMK_LANEl_CFG l
  let was := s.fld a 1 0
  let now := fbits v 1 0
  if now = 3 ∧ !(List.range s.variant.eth).any (fun g => ethLane g == l) then s
  else if now = was then store s a v
  else
    let s := if was = 1 then match (List.range s.variant.ports).find? (fun p => (s.linkLanes p).contains l) with | some p => laneFail s p l .signal | none => s else s
    let s := if was = 2 then linkOff s (24 + l) else s
    let s := store s a v
    if now = 2 then s.setLinkState (24 + l) 1 else s

/-- A write of a UMK register. -/
def umkWrite (s : State) (a : Nat) (v : W32) : State :=
  let off := a % 0x1000000
  let l := (off - 0x1000) / 0x20
  if 0x1000 ≤ off ∧ off % 0x20 = 0 then laneCfgWrite s l v
  else if 0x1000 ≤ off ∧ off % 0x20 = 4 then stateIf (txeqOk v) (fun s => store s a v) s
  else store s a v

/-- A write of RNG_CTL (R399): NODE takes a write only while EN is 0, and a new NODE clears DUPID (R385). -/
def rngCtlWrite (s : State) (v : W32) : State :=
  let old := s.reg Reg.RNG_CTL
  let v := if fbit old 0 then fset v 27 16 (fbits old 27 16) else v
  let s := stateIf (fbits v 27 16 != fbits old 27 16) (fun s => s.setBit Reg.RNG_STATUS 7 false) s
  let s := store s Reg.RNG_CTL (fsetb v 0 (fbit old 0))
  if fbit v 0 == fbit old 0 then s else if fbit v 0 then ringEnable s else ringDisable s

/-- A write of a register of mailbox `d` (R395, R399). -/
def mailboxWrite (s : State) (d a : Nat) (v : W32) : State :=
  let ctl := s.reg (Reg.RNG_MBd_CTL d)
  if a = Reg.RNG_MBd_CTL d then
    let v := if fbit ctl 0 then fset v 4 1 (fbits ctl 4 1) else v
    let s := store s a v
    stateIf (fbit v 0 && !fbit ctl 0) (fun s => s.setReg (Reg.RNG_MBd_TAIL d) (s.reg (Reg.RNG_MBd_HEAD d))) s
  else if a < Reg.RNG_MBd_CTL d ∧ fbit ctl 0 then s
  else if a = Reg.RNG_MBd_HEAD d then s.setReg a (BitVec.ofNat 32 (fbits v 14 0 % 2 ^ fbits ctl 4 1))
  else if a = Reg.RNG_MBd_TX_CMD d then stateIf (fbit v 0) (fun s => mailSend s d) s
  else store s a v

/-- A write of an RNG register. -/
def rngWrite (s : State) (a : Nat) (v : W32) : State :=
  let off := a % 0x1000000
  if a = Reg.RNG_CTL then rngCtlWrite s v
  else if a = Reg.RNG_TIMING then
    let ok := decide (16 ≤ fbits v 9 0) && decide (fbits v 9 0 ≤ 1000) && fbits v 17 10 != 0 && fbits v 25 18 != 0
    stateIf ok (fun s => store s a v) s
  else if a = Reg.RNG_LOSS then
    stateIf (decide (2 ≤ fbits v 7 0) && decide (2 ≤ fbits v 15 8)) (fun s => store s a v) s
  else if a = Reg.RNG_EPOCH_CMD then
    stateIf (fbit v 1) epochAbort (stateIf (fbit v 0) epochDistribute s)
  else if a = Reg.RNG_SNAP_CMD then stateIf (fbit v 0) ringSnapSend s
  else if 0x200 ≤ off ∧ off < 0x240 then stateIf (fbits v 2 1 != 3) (fun s => store s a v) s
  else if 0x400 ≤ off ∧ off < 0x600 then mailboxWrite s ((off - 0x400) / 0x40) a v
  else store s a v

/-! ### SP, CP and TU -/

/-- A write of an SP register (R436). -/
def spWrite (s : State) (a : Nat) (v : W32) : State :=
  if a % 0x100 = 0 then spCfgWrite s (a % 0x1000000 / 0x100) v else store s a v

/-- A write of a CP register (R441). -/
def cpWrite (s : State) (w : Requester) (a : Nat) (v : W32) : State :=
  let n := a % 0x1000000 / 0x1000
  if a = Reg.CPn_GEOM n then cpGeomWrite s n v
  else if a = Reg.CPn_CMD n then stateIf (fbit v 0) (fun s => cpLoad s n) s
  else if a = Reg.CPn_DOM n then domWriteReg s a w v
  else store s a v

/-- A write of a TU register (R420). -/
def tuWrite (s : State) (w : Requester) (a : Nat) (v : W32) : State :=
  let n := a % 0x1000000 / 0x1000
  if a = Reg.TUn_GEOM n then tuGeomWrite s n v
  else if a = Reg.TUn_CMD n then
    let s := stateIf (fbit v 1) (fun s => tuAbort s n) (stateIf (fbit v 0) (fun s => tuCal s n) s)
    stateIf (fbit v 3) (fun s => tuSave s n) (stateIf (fbit v 2) (fun s => tuLoad s n) s)
  else if a = Reg.TUn_DOM n then domWriteReg s a w v
  else store s a v

/-! ### PLT and LE -/

/-- A write of PLT_SOk_CFG (R442, R446, R468). -/
def soCfgWrite (s : State) (k : Nat) (v : W32) : State :=
  let a := Reg.PLT_SOk_CFG k
  let old := soMin s k
  let s := store s a v
  let s := s.setBit a 15 ((fbits v 1 0 == 1 || fbits v 1 0 == 3) && decide (s.variant.les ≤ fbits v 6 2))
  let s := if soMin s k == old then s else { s with plant := { s.plant with soDone := sset false s.plant.soDone k false } }
  soFollow s k

/-- A write of PLT_MOm_CFG (R442, R447, R468): an FDIV of 7 makes it have no effect. -/
def moCfgWrite (s : State) (a : Nat) (v : W32) : State :=
  if fbits v 8 6 = 7 then s else (store s a v).setBit a 10 (fbit v 0 && decide (s.variant.les ≤ fbits v 5 1))

/-- A write of a register of zone `z` (R456, R457, R468). -/
def czWrite (s : State) (z a : Nat) (v : W32) : State :=
  let r := a % 0x80
  if r < 8 then zoneConfigured (store s a v) z (s.bit (Reg.PLT_CZz_CFG z) 0)
  else if r = 0x0C then ovrWrite s z v
  else if 0x10 ≤ r ∧ r < 0x50 ∧ (r - 0x10) / 0x10 = zoneEffective s z then zoneWrite (store s a v) z
  else store s a v

/-- A write of a PLT register; a heartbeat is the plant domain's and M mode's (R459). -/
def pltWrite (s : State) (w : Requester) (a : Nat) (v : W32) : Written :=
  let off := a % 0x1000000
  if a = Reg.PLT_HB then if s.plantOrM w then (hbWrite s, true) else (s, false)
  else if a = Reg.PLT_HBCFG then
    let s := store s a v
    (stateIf (s.fld a 15 0 == 0) lapse s, true)
  else if a = Reg.PLT_SO_OUT then (soAll (store s a v), true)
  else if 0x100 ≤ off ∧ off < 0x180 then (soCfgWrite s ((off - 0x100) / 4) v, true)
  else if 0x200 ≤ off ∧ off < 0x280 ∧ off % 0x10 = 0 then (moCfgWrite s a v, true)
  else if 0x400 ≤ off ∧ off < 0x800 then (czWrite s ((off - 0x400) / 0x80) a v, true)
  else (store s a v, true)

/-- A write of a register of loop engine `n` (R476, R478, R479, R484, R485). -/
def leRegWrite (s : State) (n a : Nat) (v : W32) : State :=
  if a = Reg.LEn_FBIN n then leFbin s n v
  else if Reg.LEn_PLAUS n ≤ a ∧ a ≤ Reg.LEn_MU n then leModelWritten (store s a v) n
  else if a = Reg.LEn_TEST n ∧ s.bit (Reg.LEn_STATUS n) 5 then s
  else if a = Reg.LEn_CMD n then
    let s := stateIf (fbit v 1) (fun s => leClrpl s n) (stateIf (fbit v 0) (fun s => leReset s n) s)
    stateIf (fbit v 3) (fun s => leTstop s n) (stateIf (fbit v 2) (fun s => leTstart s n) s)
  else store s a v

/-- A write of an LE register. -/
def leWrite (s : State) (a : Nat) (v : W32) : State :=
  let off := a % 0x1000000
  if off < 0x2000 then leRegWrite s (off / 0x100) a v
  else if a = Reg.LE_CAP_CTL ∧ s.bit Reg.LE_CAP_STATUS 0 then s
  else if a = Reg.LE_CAP_CMD then stateIf (fbit v 1) leCapStop (stateIf (fbit v 0) leCapStart s)
  else store s a v

/-! ### V, ADC and FAN -/

/-- A duty window that Vn_DUTY takes (R499). -/
def dutyOk (v : W32) : Bool :=
  let w := fbits v 13 0
  w == 0 || (decide (10 ≤ w) && decide (w ≤ 10000) && fbits v 21 14 != 0)

/-- A write of a V register (R497, R499, R500, R504). -/
def vWrite (s : State) (a : Nat) (v : W32) : State :=
  let n := a % 0x1000000 / 0x100
  if a = Reg.Vn_CFG n then vCfgWrite s n v
  else if a = Reg.Vn_OC n then stateIf (decide (64 ≤ fbits v 13 0) && decide (fbits v 13 0 ≤ 8191)) (fun s => store s a v) s
  else if a = Reg.Vn_DUTY n then stateIf (dutyOk v) (fun s => store s a v) s
  else if a = Reg.Vn_CMD n then stateIf (fbit v 0) (fun s => vClrtrip s n) s
  else store s a v

/-- A write of an ADC register (R507, R508, R512, R521). -/
def adcWrite (s : State) (a : Nat) (v : W32) : State :=
  let off := a % 0x1000000
  if a = Reg.ADC_CTL then adcCtl s v
  else if a = Reg.ADC_CMD then stateIf (fbit v 0) adcCal s
  else if 0x100 ≤ off ∧ off < 0x200 then
    let ok := if off % 0x10 = 0 then decide (fbits v 16 13 < 10)
      else decide (fbits v 19 16 ≤ 8) && decide (fbits v 23 20 ≤ 8) && fbits v 25 24 != 3
    if !ok then s
    else
      let s := store s a v
      stateIf (s.bit Reg.ADC_STATUS 0 && s.plant.adc.cur.isNone && !s.bit Reg.ADC_STATUS 1)
        (fun s => adcGo s (s.fld Reg.ADC_STATUS 8 5)) s
  else store s a v

/-- A write of a FAN register (R518, R521): an SRC of 3 makes a write of CFG have no effect; GROUP and PPR take a write only
    while EN is 0. -/
def fanWrite (s : State) (a : Nat) (v : W32) : State :=
  let n := a % 0x1000000 / 0x100
  if a = Reg.FANn_CFG n then
    let old := s.reg a
    if fbits v 2 1 = 3 then s else store s a (if fbit old 0 then fset v 11 8 (fbits old 11 8) else v)
  else if a = Reg.FANn_CMD n then stateIf (fbit v 0) (fun s => fanClrfail s n) s
  else store s a v

/-! ### SPI, BB and AON -/

/-- A write of SPI0_DXCFG (R538, R540, R543): fields [31:1] take a write only while DXEN is 0, and DXEN asks for QUAD. -/
def dxcfgWrite (s : State) (v : W32) : State :=
  let a := Reg.SPI0_DXCFG
  if s.bit a 0 then if fbit v 0 then s else dxDisable s
  else s.setReg a (fsetb v 0 (fbit v 0 && s.bit (Reg.SPIn_CFG 0) 24))

/-- A write of an SPI register (R528, R530, R533, R534). -/
def spiWrite (s : State) (a : Nat) (v : W32) : State :=
  let n := a % 0x1000000 / 0x100
  if a = Reg.SPIn_CFG n then spiCfgWrite s n v
  else if a = Reg.SPI0_DXCFG then dxcfgWrite s v
  else if a = Reg.SPIn_CMD n then
    let s := stateIf (fbit v 1) (fun s => spiAbort s n [] 0) (stateIf (fbit v 0) (fun s => spiGo s n) s)
    stateIf (fbit v 3) (fun s => spiReply s n) (stateIf (fbit v 2) (fun s => spiCastle s n) s)
  else store s a v

/-- A write of a BB register (R462, R470). -/
def bbWrite (s : State) (a : Nat) (v : W32) : State :=
  let n := a % 0x1000000 / 0x100
  if a = Reg.BBn_CFG n then bbCfgWrite s n v
  else if (a = Reg.BBn_RXRING n ∨ a = Reg.BBn_TXRING n) ∧ s.bit (Reg.BBn_CFG n) 0 then s
  else if a = Reg.BBn_TIMERS n then
    let ok := decide (500 ≤ fbits v 9 0) && decide (fbits v 9 0 ≤ 1000) && decide (255 ≤ fbits v 18 10) &&
      decide (fbits v 18 10 ≤ 300) && decide (20 ≤ fbits v 25 19) && decide (fbits v 25 19 ≤ 100)
    stateIf ok (fun s => store s a v) s
  else if a = Reg.BBn_RDLY n then stateIf (decide (1 ≤ fbits v 7 0) && decide (fbits v 7 0 ≤ 250)) (fun s => store s a v) s
  else store s a v

/-- A write of AON_HIB_CMD with its key: the plant domain's and M mode's (R629). -/
def hibCmd (s : State) (w : Requester) (v : W32) : Written :=
  if !s.plantOrM w then (s, false) else (stateIf (fbits v 7 0 == 0xA5 && fbit v 8) hibEnter s, true)

/-- A write of an AON register (R450 to R457, R468, R633). -/
def aonWrite (s : State) (w : Requester) (a : Nat) (v : W32) : Written :=
  let off := a % 0x1000000
  if a = Reg.AON_RTC_SEC_HI then
    let lo := s.lowWord Reg.AON_RTC_SEC_LO
    (rtcWrite (s.dropLow Reg.AON_RTC_SEC_LO) (BitVec.ofNat 40 (lo.toNat + 2 ^ 32 * fbits v 7 0)), true)
  else if a = Reg.AON_RTC_TRIM then
    let t := sint 16 (fbits v 15 0)
    (stateIf (decide (-2048 ≤ t) && decide (t ≤ 2047)) (fun s => store s a v) s, true)
  else if a = Reg.AON_TZ then (tzWrite s (v.setWidth 16), true)
  else if a = Reg.AON_ALARM_HI then (alarmWritten (store s a v), true)
  else if a = Reg.AON_ZMODE then (zonesRefresh (store s a v), true)
  else if 0x100 ≤ off ∧ off < 0x200 then
    (stateIf (decide (fbits v 5 0 ≤ 59) && decide (fbits v 10 6 ≤ 23)) (fun s => store s a v) s, true)
  else if a = Reg.AON_WAKECFG then (wakeCfgWrite s v, true)
  else if a = Reg.AON_HIB_CMD then hibCmd s w v
  else (store s a v, true)

end Sys2Proof.Machine
end

