-- ==== Sys2Proof/Machine/CtlSpace.lean ====
section
/-! DEFINITION. Writing control space: paired registers (R292, R293), staged registers (R294 to R296), and a register of any
block (R3, R12, R13, R36, R37, R131). The commands are accesses of one register by a requester; their answer is in `out`. -/

namespace Sys2Proof.Machine

/-! ### Paired fields (R292, R293) -/

/-- The second member of the pair whose first member is register `a`. -/
def pairSecond (a : Nat) : Option Nat :=
  if (List.range 16).any (fun k => Reg.MEM_RGNk_BASE k == a) || (List.range 4).any (fun n => Reg.POSn_PRUN n == a) ||
      (List.range 16).any (fun n => Reg.Vn_SETPT n == a) || (List.range 32).any (fun n => Reg.LEn_SP n == a) ||
      (List.range 2).any (fun n => Reg.BBn_RATE n == a) then some (a + 4) else none

/-- The pair of a rate and its timing stands: the fields lie in their ranges, and ABORT is at most 100 ms (R462, R470). -/
def bbPairOk (rate timing : W32) : Bool :=
  let abort := fbits timing 21 12
  match ([9600, 19200, 38400, 57600, 76800, 115200])[fbits rate 2 0]? with
  | some baud => decide (40 ≤ fbits timing 7 0) && decide (60 ≤ abort) && decide (abort * 1000 ≤ 100 * baud)
  | none => false

/-- Both members of the pair whose first is register `a` take effect, as each pair's rule allows (R172, R187, R462, R477,
    R495). -/
def pairTake (s : State) (a : Nat) (first second : W32) : State :=
  let off := a % 0x1000000
  match blockNumber a with
  | some 6 => rgnPairWrite s ((off - 0x100) / 0x10) first second
  | some 12 =>
    let n := (off - 0x100) / 0x80
    let s := (s.setReg a first).setReg (a + 4) second
    s.setBit (Reg.POSn_STATE n) 5 (s.cfgErr n)
  | some 20 => leSetPair s (off / 0x100) first second
  | some 21 => vPairWrite s (off / 0x100) first second
  | _ =>
    if bbPairOk first second then (s.setReg a first).setReg (a + 4) second else s.setBit (Reg.BBn_STATUS (off / 0x100)) 5 true

/-- The domain that holds a first member pending; the debug path's is the press-control domain (R294). -/
def State.pairWriter (s : State) (w : Requester) : Nat := (s.stgWriter w).getD 8

/-- A first member is written: it is held pending, and the block goes on with the old pair (R293). -/
def pairFirst (s : State) (w : Requester) (a : Nat) (v : W32) : State :=
  { s with pairHeld := sset none s.pairHeld a (some (v &&& regMask a, s.pairWriter w)) }

/-- A second member is written: it takes effect with the pending first member, or alone (R293). -/
def pairSecondWrite (s : State) (a : Nat) (v : W32) : State :=
  let first := match sget none s.pairHeld (a - 4) with | some p => p.1 | none => s.reg (a - 4)
  pairTake { s with pairHeld := sdel (a - 4) s.pairHeld } (a - 4) first (v &&& regMask a)

/-- Region registers are the press-control domain's and M mode's (R172). -/
def State.pairAllowed (s : State) (w : Requester) (a : Nat) : Bool := blockNumber a != some 6 || s.regionAccess w

/-! ### Staged registers (R294 to R296) -/

/-- One 32-bit staged register is written: it enters the writer's open set unless it refuses the value. DEDUCED (log 12). -/
def stagedWrite (s : State) (w : Requester) (a : Nat) (v : W32) : Written :=
  match s.stgWriter w with
  | none => (s, true)
  | some d =>
    let v := v &&& regMask a
    if !stagedOk s a v then (stagedRefused s a v, true)
    else if isLow a then ({ s with loHeld := sset none s.loHeld a (some v) }, true)
    else if isLow (a - 4) then
      match stageChange (s.dropLow (a - 4)) d (a - 4) ((sget none s.loHeld (a - 4)).getD (s.stagedRead (a - 4))) with
      | (s, true) => stageChange s d a v
      | r => r
    else stageChange s d a v

/-! ### Any register -/

/-- A write of a register of block `b` that is neither staged nor paired. DEDUCED (log 10). -/
def blockWrite (s : State) (w : Requester) (b a : Nat) (v : W32) : Written :=
  match b with
  | 0 => sysWrite s w a v
  | 1 => fcWrite s w a v
  | 2 => (tmpWrite s a v, true)
  | 3 => (calRegWrite s w a v, true)
  | 4 => snpWrite s w a v
  | 5 => (fabWrite s a v, true)
  | 6 => memWriteReg s w a v
  | 12 => (posWrite s a v, true)
  | 13 => (umkWrite s a v, true)
  | 14 => (rngWrite s a v, true)
  | 16 => (spWrite s a v, true)
  | 17 => (cpWrite s w a v, true)
  | 18 => (tuWrite s w a v, true)
  | 19 => pltWrite s w a v
  | 20 => (leWrite s a v, true)
  | 21 => (vWrite s a v, true)
  | 22 => (adcWrite s a v, true)
  | 23 => (fanWrite s a v, true)
  | 24 => (spiWrite s a v, true)
  | 25 => (bbWrite s a v, true)
  | 26 => aonWrite s w a v
  | n => if 7 ≤ n ∧ n ≤ 11 then seWrite s w (n - 7) a v else (store s a v, true)

/-- A write of control-space address `a` by a requester whose grants let it through; `false` is a bus error.
    DEDUCED (log 10). -/
def ctlWrite (s : State) (w : Requester) (a : Nat) (v : W32) : Written :=
  match reach s a, blockNumber a with
  | .absent, _ => (s, true)
  | .ok, some b =>
    if !pageReach s w a then (s, false)
    else if isStaged a then stagedWrite s w a v
    else if (pairSecond a).isSome then if s.pairAllowed w a then (pairFirst s w a v, true) else (s, false)
    else if (pairSecond (a - 4)).isSome then if s.pairAllowed w a then (pairSecondWrite s a v, true) else (s, false)
    else blockWrite s w b a v
  | _, _ => (s, false)

/-- The access of a control-space register with the grant check first (R131). -/
def ctlAccess (s : State) (w : Requester) (a : Nat) (v : W32) : Written :=
  if s.controlAllowed w a true then ctlWrite s w a v else (s, false)

/-- REGISTER_WRITE (R12, R13). DESIGN CHOICE (log 8). DEDUCED (log 10). -/
def execRegisterWrite (who : Requester) (addr : Nat) (value : W32) (s : State) : Host.Outcome State Fault Refusal :=
  .next (respond who (ctlAccess s who addr value))

/-- STAGED_REGISTER_WRITE (R294): of an address with a staged register; any other address is no staged register and the
    command changes nothing. -/
def execStagedRegisterWrite (who : Requester) (addr : Nat) (value : W32) (s : State) : Host.Outcome State Fault Refusal :=
  .next (if isStaged addr then respond who (ctlAccess s who addr value) else s)

/-- PAIR_FIRST_WRITE (R293). -/
def execPairFirstWrite (who : Requester) (addr : Nat) (value : W32) (s : State) : Host.Outcome State Fault Refusal :=
  .next (if (pairSecond addr).isSome then respond who (ctlAccess s who addr value) else s)

/-- PAIR_SECOND_WRITE (R293). -/
def execPairSecondWrite (who : Requester) (addr : Nat) (value : W32) (s : State) : Host.Outcome State Fault Refusal :=
  .next (if (pairSecond (addr - 4)).isSome then respond who (ctlAccess s who addr value) else s)

/-- REG64_LOW_READ (R12): the low word is answered and its high word latched. DEDUCED (log 11). -/
def execReg64LowRead (who : Requester) (addr : Nat) (s : State) : Host.Outcome State Fault Refusal :=
  .next (
    if !isLow addr then s
    else if !s.controlAllowed who addr false then respond who (s, false)
    else match ctlRead s who addr with
      | (some v, s) => { s with out := s.out ++ [Out.readData who (v.setWidth 64)] }
      | (none, s) => respond who (s, false))

end Sys2Proof.Machine
end

