-- ==== Sys2Proof/Machine/Access.lean ====
section
/-! DEFINITION. One data access of a seat through a window (R58 to R60, R86, R87, R444, R445), and the return of an access
that its seat waits for (R47, R59, R74, R144, R164, R167). An access is checked and performed when its instruction
issues; its result is delivered when it returns. -/

namespace Sys2Proof.Machine

/-! ### Local stores under their page codes (R166, R444) -/

/-- The symbols a page of the store at `a` corrects: 2 or 4 (R166). -/
def storeT (s : State) (a : Nat) : Nat :=
  if plantStore ≤ a then 2
  else if a < 16 * 2 ^ 32 then if s.bit (Reg.SEn_STORECFG (a / 2 ^ 32)) 0 then 4 else 2
  else if s.bit (Reg.SEn_STORECFG ((a / 2 ^ 32 - 16) / 16)) 1 then 4 else 2

/-- The number of the first page of the plant store. -/
def plantPage : Nat := plantStore / 64

/-- A read of store page `p` finds `n` symbols in error (R166, R167); the plant store reports it on source 22 (R444).
    DEDUCED (log 45). -/
def storeErrors (s : State) (p n : Nat) : State :=
  let plant := decide (plantPage ≤ p)
  let a := if plant then 64 * p else 256 * p
  if n = 0 ∨ (sfind p s.storePoison).isSome then s
  else if n ≤ storeT s a then if plant then raise s 22 0 false else s
  else
    let s := { s with storePoison := sput p 0 s.storePoison }
    if plant then raise s 22 1 true else s

/-- Where the pages of the local stores stand in a list of page errors, above every page of memory. DEDUCED (log 45). -/
def storePages : Nat := 2 ^ 40

/-- One entry of a list of page errors: a page of memory with its copy, or a page of a local store. -/
def pageErr (s : State) (e : Nat × Nat × Nat) : State :=
  if e.1 < storePages then pageErrors s e.1 e.2.1 e.2.2 else storeErrors s (e.1 - storePages) e.2.1

/-- The page is poisoned. -/
def State.pageBad (s : State) (p : Nat) : Bool :=
  if p < storePages then (s.page p).poisoned else (sfind (p - storePages) s.storePoison).isSome

/-- A write of a store by a seat; source 22's line clears when no page of the plant store is poisoned any more (R444).
    DEDUCED (log 19). DEDUCED (log 45). -/
def seatStoreWrite (s : State) (k : Nat) (bs : List Byte) : State :=
  let was := s.storePoison.any (fun e => decide (plantPage ≤ e.1))
  let s := s.storeWrite k bs
  if was && !s.storePoison.any (fun e => decide (plantPage ≤ e.1)) && s.live 22 then liveOff s 22 else s

/-! ### One access -/

/-- What an access touched: the granules with the tag it used, and the pages it read. -/
structure Touch where
  tags : List (Nat × BitVec 14)
  pages : List Nat
  deriving DecidableEq, Repr

/-- What `n` bytes at a place touch. -/
def touchOf (d : Desc) (p : Target) (n : Nat) : Touch :=
  match p with
  | .memory a => { tags := (spanning (2 ^ 21) a n).map (fun g => (g, dKtag d)), pages := spanning 2048 a n }
  | .store k => { tags := [], pages := (spanning (storePage k) k n).map (fun p => storePages + p) }
  | _ => { tags := [], pages := [] }

/-- An access that control space can take: 4 bytes at a multiple of 4, by a requester with the grant (R87, R131). -/
def ctlFits (s : State) (i a n : Nat) (write : Bool) : Bool :=
  n == 4 && a % 4 == 0 && s.controlAllowed (.seat i) a write

/-- A read of `n` bytes at a place; none is a bus error. -/
def placeRead (s : State) (i : Nat) (p : Target) (n : Nat) : Option (List Byte × State) :=
  match p with
  | .memory a => (s.memRead a n).map (fun bs => (bs, s))
  | .control a =>
    if ctlFits s i a n false then
      match ctlRead s (.seat i) a with
      | (some v, s) => some (leBytes 4 v.toNat, s)
      | (none, _) => none
    else none
  | .store k => if s.storeReadable k n then some (s.storeRead k n, s) else none
  | .flash o => dxRead s o n
  | .nowhere => none

/-- A write of bytes at a place; none is a bus error. The flash takes no store (R445). -/
def placeWrite (s : State) (i : Nat) (p : Target) (bs : List Byte) : Option State :=
  match p with
  | .memory a => s.memWrite a bs
  | .control a =>
    if ctlFits s i a bs.length true then
      match ctlWrite s (.seat i) a (BitVec.ofNat 32 (leNat bs)) with
      | (s, true) => some s
      | (_, false) => none
    else none
  | .store k => some (seatStoreWrite s k bs)
  | _ => none

/-- A checked read of `n` bytes at offset `off` of window `w` (R60): the bytes, the state after the read and what it
    touched, or the cause of the trap. DEDUCED (log 18). -/
def seatRead (s : State) (i w : Nat) (off n align need : Nat) : Except Nat (List Byte × State × Touch) :=
  let t := s.seat i
  let d := t.wx w
  match checkAccess s t (isPlant i) d off n align need false with
  | some c => .error c
  | none =>
    let p := target s i d off
    match placeRead s i p n with
    | some (bs, s) => .ok (bs, s, touchOf d p n)
    | none => .error 0x0B

/-- A checked write at offset `off` of window `w` (R60). DEDUCED (log 18). -/
def seatWrite (s : State) (i w : Nat) (off align : Nat) (bs : List Byte) : Except Nat (State × Bool) :=
  let t := s.seat i
  let d := t.wx w
  match checkAccess s t (isPlant i) d off bs.length align 2 false with
  | some c => .error c
  | none =>
    let p := target s i d off
    match placeWrite s i p bs with
    | some s => .ok (s, match p with | .control _ => true | _ => false)
    | none => .error 0x0B

/-! ### Waiting and returning -/

/-- The accesses of an instruction have been performed: the seat waits for their return (R46, R144, R164). -/
def await (s : State) (i len win : Nat) (off : W64) (kind : Kind) (size : Nat) (touch : Touch) (r : Result) : State :=
  stall s i (.access ⟨r, len, touch.tags, touch.pages, win, off, kind, size, (s.seat i).mode == .t⟩)

/-- A plain store goes on at once; its completion is outstanding (R62, R144). -/
def storeOut (s : State) (i len : Nat) (io : Bool) : State :=
  retire s i len (fun t => { t with outst := t.outst ++ [{ store := true, io := io, tmode := t.mode == .t }] })

/-- A result reaches its register. -/
def Seat.deliver (t : Seat) : Result → Seat
  | .none => t
  | .x rd v => t.setX rd v
  | .v vd v => t.setV vd v
  | .w wd d => t.setW wd d

/-- The access a seat waits for returns, having found the symbol errors `errs` in the pages it read: KEY_MISMATCH when a tag
    it used has changed (R59), BUS_ERROR when a page proves uncorrectable (R167), else the result and the next pc. -/
def accessReturn (s : State) (i : Nat) (f : Flight) (errs : PageErrs) : State :=
  if f.tags.any (fun g => s.tag g.1 != g.2) then trapAccess (unstall s i id) i 0x0A f.win f.kind f.size f.off
  else
    let was := f.pages.filter (fun p => !s.pageBad p)
    let s := s.each (errs.filter (fun e => f.pages.contains e.1)) pageErr
    if was.any s.pageBad then trapAccess (unstall s i id) i 0x0B f.win f.kind f.size f.off
    else unstall s i (fun t => (t.deliver f.result).advance f.len)

/-- The oldest outstanding access made in T, or not in T, has returned. -/
def Seat.dropOutst (t : Seat) (tmode : Bool) : Seat :=
  match t.outst.findIdx? (fun o => o.tmode == tmode) with
  | some k => { t with outst := t.outst.eraseIdx k }
  | none => t

/-- SEAT_ACCESS_COMPLETE (R164): the access a seat in H or M, or the plant thread, waits for returns; otherwise its oldest
    store completes. DEDUCED (log 18). -/
def execSeatAccessComplete (seat : Nat) (errs : PageErrs) (s : State) : Host.Outcome State Fault Refusal :=
  .next (
    match (s.seat seat).wait with
    | .access f => if f.tmode then s.modSeat seat (fun t => t.dropOutst false) else accessReturn s seat f errs
    | _ => s.modSeat seat (fun t => t.dropOutst false))

/-- TENANT_ACCESS_RETURN (R144): the regulator returns the oldest access made in T, TLAT or a later multiple after issue;
    a late one is counted. -/
def execTenantAccessReturn (seat : Nat) (late : Bool) (errs : PageErrs) (s : State) : Host.Outcome State Fault Refusal :=
  .next (
    let t := s.seat seat
    let tlat := Reg.SYS_Dd_TLAT_OVR t.hdom
    if t.outst.any (fun o => o.tmode) then
      (if late then s.count tlat 1 else s).modSeat seat (fun t => t.dropOutst true)
    else
      match t.wait with
      | .access f => if f.tmode then accessReturn (if late then s.count tlat 1 else s) seat f errs else s
      | _ => s)

/-- An instruction that must follow the seat's earlier stores waits, in T, until the regulator has returned their
    completions (R144): until then it does not issue. -/
def orderedIssue (s : State) (i n : Nat) (body : State → State) : State :=
  if (s.seat i).mode == .t && (s.seat i).outst.any (fun o => o.tmode) then s else issue s i n body

end Sys2Proof.Machine
end

