-- ==== Sys2Proof/Machine/Ccu.lean ====
section
/-! DEFINITION. The colour conversion unit (R225 to R227, R230, R231). -/

namespace Sys2Proof.Machine

/-- Fields of a CCU descriptor (R230). -/
def ccuInks (d : List Byte) : Nat := leAt d 4 1 % 16
/-- GRID. -/
def ccuGrid (d : List Byte) : Nat := leAt d 5 1
/-- CMASK. -/
def ccuCmask (d : List Byte) : Nat := leAt d 6 1
/-- SRC of ink `k`. -/
def ccuSrc (d : List Byte) (k : Nat) : Nat := leAt d (8 + k) 1
/-- PELS. -/
def ccuPels (d : List Byte) : Nat := leAt d 16 2

/-- SRC selects a plane, a table output or zero (R226). DEDUCED (log 50). -/
def srcValid (grid v : Nat) : Bool :=
  decide (v ≤ 7) || (decide (0x10 ≤ v) && decide (v ≤ 0x17) && grid != 0) || v == 0xFF

/-- The descriptor is valid (R230, R231). DEDUCED (log 50). -/
def ccuValid (w : Work) : Bool :=
  let d := w.desc
  let n := ccuInks d
  let ps := pstride (ccuPels d)
  decide (4 ≤ leAt d 2 1) && decide (1 ≤ n) && decide (n ≤ 8) && leAt d 4 1 / 16 == 0 && decide (ccuGrid d ≤ 2) &&
  zeros d 7 1 && (List.range n).all (fun k => srcValid (ccuGrid d) (ccuSrc d k)) &&
  decide (1 ≤ ccuPels d) && decide (1 ≤ leAt d 18 2) && leAt d 20 4 % 256 == 0 && decide (8 * ps ≤ leAt d 20 4) &&
  decide (1 ≤ leAt d 28 2) && zeros d 30 2 && leAt d 32 4 % 256 == 0 && decide (n * ps ≤ leAt d 32 4) &&
  leAt d 40 8 % 16 == 0 && leAt d 48 8 % 2 == 0 && zeros d 56 8 &&
  useOf d 0 == 1 && useOf d 1 == 2 && useOf d 2 == b2n (ccuGrid d != 0) && useOf d 3 == b2n (ccuCmask d != 0) &&
  (ccuGrid d == 0 || dLoc (w.slot 2))

/-- The eight outputs of a node of the table (R225). -/
def tableNode (s : State) (w : Work) (g : Nat) (i : List Nat) : Except WorkStatus (List Nat) :=
  let k := i.foldl (fun a x => a * g + x) 0
  match slotRead s w.seat (w.slot 2) (leAt w.desc 40 8 + 16 * k) 16 with
  | .ok bs => .ok (pels16 8 bs)
  | .error e => .error e

/-- Node index and fraction in one dimension (R225). -/
def gridIndex (g x : Nat) : Nat × Nat :=
  let ix := (x + x / 2 ^ 15) * (g - 1)
  if ix / 65536 = g - 1 then (g - 2, 65536) else (ix / 65536, ix % 65536)

/-- The dimensions by descending fraction, lower dimension first among equals (R225). -/
def insertDim (f : Nat → Nat) (d : Nat) : List Nat → List Nat
  | [] => [d]
  | a :: l => if f a < f d then d :: a :: l else a :: insertDim f d l
/-- The order of the four dimensions. -/
def dimOrder (f : Nat → Nat) : List Nat := [0, 1, 2, 3].foldl (fun l d => insertDim f d l) []

/-- The nodes from `i` on along the dimensions of `ds`, weighted and summed: `prev` is the fraction of the step before. -/
def simplexSum (s : State) (w : Work) (g : Nat) (f : Nat → Nat) :
    Nat → List Nat → List Nat → List Nat → Except WorkStatus (List Nat)
  | prev, i, ds, acc =>
    match tableNode s w g i with
    | .error e => .error e
    | .ok v =>
      match ds with
      | [] => .ok (List.zipWith (fun a x => a + x * prev) acc v)
      | d :: ds =>
        simplexSum s w g f (f d) (i.zipIdx.map (fun p => if p.2 = d then p.1 + 1 else p.1)) ds
          (List.zipWith (fun a x => a + x * (prev - f d)) acc v)

/-- The eight table outputs for one pel (R225). -/
def tableLookup (s : State) (w : Work) (x : List Nat) : Except WorkStatus (List Nat) :=
  let g := if ccuGrid w.desc = 1 then 9 else 17
  let ifs := x.map (gridIndex g)
  let f (d : Nat) : Nat := ((ifs[d]?).getD (0, 0)).2
  match simplexSum s w g f 65536 (ifs.map (fun p => p.1)) (dimOrder f) (List.replicate 8 0) with
  | .ok acc => .ok (acc.map (fun a => (a + 32768) / 65536))
  | .error e => .error e

/-- A value through curve `k` (R226). -/
def toneCurve (s : State) (w : Work) (k v : Nat) : Except WorkStatus Nat :=
  match slotRead s w.seat (w.slot 3) (leAt w.desc 48 8 + 520 * k + 2 * (v / 256)) 4 with
  | .ok bs => .ok ((leAt bs 0 2 * (256 - v % 256) + leAt bs 2 2 * (v % 256) + 128) / 256)
  | .error e => .error e

/-- The inks of one pel from its eight plane values (R226). -/
def convertPel (s : State) (w : Work) (x : List Nat) : Except WorkStatus (List Nat) :=
  let d := w.desc
  match (if ccuGrid d = 0 then .ok [] else tableLookup s w (x.take 4)) with
  | .error e => .error e
  | .ok t =>
    (List.range (ccuInks d)).mapM (fun k =>
      let c := ccuSrc d k
      let v := if c ≤ 7 then (x[c]?).getD 0 else if c ≤ 0x17 then (t[c - 0x10]?).getD 0 else 0
      if hasBit (ccuCmask d) k then toneCurve s w k v else .ok v)

/-- CCU_WORK_START (R231). -/
def execCcuWorkStart (e : Nat) (s : State) : Host.Outcome State Fault Refusal :=
  .next (match s.front e 1 with
    | some w =>
      if w.started then s
      else if !ccuValid w then completeWork s e 1 .desc 0
      else modWork s e 1 (fun w => { w with started := true })
    | none => s)

/-- One working line converted: the ink line's bytes (R208, R226). -/
def convertLine (s : State) (w : Work) : Except WorkStatus (List Byte) :=
  let d := w.desc
  let n := ccuPels d
  match slotRead s w.seat (w.slot 0) (((leAt d 24 4 + w.done) % leAt d 18 2) * leAt d 20 4) (8 * pstride n) with
  | .error e => .error e
  | .ok bs =>
    let planes := (List.range 8).map (fun k => pels16 n (bs.drop (k * pstride n)))
    match (List.range n).mapM (fun i => convertPel s w (planes.map (fun q => (q[i]?).getD 0))) with
    | .error e => .error e
    | .ok pels => .ok ((List.range (ccuInks d)).flatMap (fun k =>
        padTo (pstride n) (bytes16 (pels.map (fun p => (p[k]?).getD 0)))))

/-- CCU_LINE: one line is converted and written; the last one completes the work (R225, R226, R110). -/
def execCcuLine (e : Nat) (s : State) : Host.Outcome State Fault Refusal :=
  .next (match s.front e 1 with
    | some w =>
      if !w.started then s
      else
        let d := w.desc
        match convertLine s w with
        | .error st => completeWork s e 1 st w.done
        | .ok line =>
          match slotWrite s w.seat (w.slot 1) (((leAt d 36 4 + w.done) % leAt d 28 2) * leAt d 32 4) line with
          | .error st => completeWork s e 1 st w.done
          | .ok s =>
            let s := (modWork s e 1 (fun w => { w with done := w.done + 1 })).countMod (Reg.SEn_CCU_LINES e) 1
            if w.done + 1 = w.count then completeWork s e 1 .ok w.count else s
    | none => s)

end Sys2Proof.Machine
end

