-- ==== Sys2Proof/Machine/Eth.lean ====
section
/-! DEFINITION. The Ethernet lane groups (R361 to R365, R367). -/

namespace Sys2Proof.Machine

/-- The group's MAC runs: lane mode 3, EN, and its lane complex powered (R361, R367). -/
def State.ethOn (s : State) (g : Nat) : Bool :=
  s.ethMode g && s.bit (Reg.ETHg_CFG g) 0 && s.islandUp (14 + ethLane g / 12)

/-- A MAC address of a HI/LO pair: byte 0 is the most significant (R367). -/
def State.mac (s : State) (lo hi : Nat) : Nat := s.fld hi 15 0 * 2 ^ 32 + (s.reg lo).toNat

/-- The ports carried over group `g` (R364). -/
def State.ethPorts (s : State) (g : Nat) : List Nat :=
  (List.range 24).filter (fun p =>
    s.portProf p != 0 && s.portEth p && fbits (s.act (Reg.UMK_PORTp_LANES p)) 13 10 == g)

/-- The destination and tag checks of R362. DEDUCED (log 48). -/
def ethAddressed (s : State) (g : Nat) (f : EthFrame) : Bool :=
  let cfg := s.reg (Reg.ETHg_CFG g)
  let dst := f.dst.toNat
  (dst == s.mac (Reg.ETHg_MAC_LO g) (Reg.ETHg_MAC_HI g) || (dst == 0xFFFFFFFFFFFF && f.etherType == 0x0806) ||
    (fbit cfg 3 && (dst / 2 ^ 40) % 2 == 1)) &&
  (if fbit cfg 5 then f.tag == some (fbits cfg 17 6) else f.tag == none || f.tag == some 0)

/-- The receive paths a group has: 0x88B5 from the PEERMAC of a port over it, IPv4 and ARP (R361, R362, R364). -/
def ethTaken (s : State) (g : Nat) (f : EthFrame) : Bool :=
  f.etherType == 0x0800 || f.etherType == 0x0806 ||
  (f.etherType == 0x88B5 && (s.ethPorts g).any (fun p =>
    f.src.toNat == s.mac (Reg.UMK_PORTp_PEERMAC_LO p) (Reg.UMK_PORTp_PEERMAC_HI p)))

/-- ETH_FRAME_RX: a frame is checked and delivered or discarded; what it carries is the next command's. A failing FCS or a
    frame below 64 bytes counts in RXERR, one above 9,216 in RXLONG, every other discard in RXOTHER (R361, R362). -/
def execEthFrameRx (group : Nat) (f : EthFrame) (s : State) : Host.Outcome State Fault Refusal :=
  .next (if !s.ethOn group then s
    else if !f.fcsOk || decide (f.len < 64) then s.count (Reg.ETHg_RXERR group) 1
    else if 9216 < f.len then s.count (Reg.ETHg_RXLONG group) 1
    else if f.otherTag || !ethAddressed s group f || !ethTaken s group f then s.count (Reg.ETHg_RXOTHER group) 1
    else s.count (Reg.ETHg_RXFRM group) 1)

/-- ETH_ARP_REQUEST: with ARP = 1 a request for ETHg_IPV4 is answered with ETHg_MAC (R363). -/
def execEthArpRequest (group : Nat) (targetIp senderIp : W32) (senderMac : BitVec 48) (s : State) :
    Host.Outcome State Fault Refusal :=
  .next (if s.ethOn group && s.bit (Reg.ETHg_CFG group) 4 && targetIp == s.reg (Reg.ETHg_IPV4 group) then
      let s := s.count (Reg.ETHg_TXFRM group) 1
      { s with out := s.out ++ [.arp group targetIp
          (BitVec.ofNat 48 (s.mac (Reg.ETHg_MAC_LO group) (Reg.ETHg_MAC_HI group))) senderIp senderMac] }
    else s)

/-- ETH_LINK_UP: the MAC reports link up; a port over the group goes from DOWN to BOND (R330). -/
def execEthLinkUp (group : Nat) (s : State) : Host.Outcome State Fault Refusal :=
  .next (if !s.ethOn group then s
    else
      let s := s.setBit (Reg.ETHg_STATUS group) 0 true
      let s := s.setBit (Reg.ETHg_STATUS group) 1 (s.bit (Reg.ETHg_CFG group) 2)
      s.each (s.ethPorts group) (fun s p => if s.linkState p = 1 then s.setLinkState p 4 else s))

/-- A claim of a work in progress names group `g` (R266). -/
def State.ethClaimed (s : State) (g : Nat) : Bool :=
  (List.range s.variant.engines).any (fun e => match s.icuWork e with
    | some w => (icuStreams w.desc).any (fun x => x.group == g)
    | none => false)

/-- ETH_LINK_DOWN: the MAC reports link down; its ports go DOWN, and source 16 reports a group in use (R330, R365). -/
def execEthLinkDown (group : Nat) (s : State) : Host.Outcome State Fault Refusal :=
  .next (if !s.ethMode group then s
    else
      let used := s.ethClaimed group || !(s.ethPorts group).isEmpty
      let s := (s.setBit (Reg.ETHg_STATUS group) 0 false).setBit (Reg.ETHg_STATUS group) 1 false
      let s := s.each (s.ethPorts group) (fun s p => if 2 ≤ s.linkState p then linkDown s p else s)
      if used then raise s 16 0 false else s)

end Sys2Proof.Machine
end

