-- ==== Sys2Proof/Machine/HostReq.lean ====
section
/-! DEFINITION. Requests of hosts over lanes (R129, R130, R352 to R355) and the debug access register (R610 to R612). -/

namespace Sys2Proof.Machine

/-! ### Host requests -/

/-- The completion statuses of R354. -/
inductive HostStatus
  | ok | noDomain | range | key | block | bus | cls | format
  deriving DecidableEq, Repr

/-- The STATUS code. -/
def HostStatus.code : HostStatus → Nat
  | .ok => 0 | .noDomain => 1 | .range => 2 | .key => 3 | .block => 4 | .bus => 5 | .cls => 6 | .format => 7

/-- The request header (R353). -/
structure HostReq where
  tag : Nat
  ktag : Nat
  addr : Nat
  count : Nat
  rsv : Nat
  deriving DecidableEq, Repr

/-- The header in the first 16 bytes of a payload. -/
def hostReq (bs : List Byte) : HostReq :=
  { tag := leAt bs 0 2, ktag := leAt bs 2 2, addr := leAt bs 4 6, count := leAt bs 10 2, rsv := leAt bs 12 4 }

/-- The format of R353 holds, for a request whose LEN is to be `16 + n`. -/
def HostReq.formed (r : HostReq) (len n : Nat) : Bool :=
  decide (r.ktag < 2 ^ 14) && r.rsv == 0 && decide (1 ≤ r.count) && decide (r.count ≤ 4080) && len == 16 + n

/-- The checks before a request is performed, in their order (R129, R352, R353); the first failure. DEDUCED (log 25). -/
def hostCheck (s : State) (port cls : Nat) (r : HostReq) (len : Nat) (write : Bool) : Option HostStatus :=
  match s.portDomain port with
  | none => some .noDomain
  | some d =>
    let dom := s.domain d
    let ctl := isControl r.addr
    if !r.formed len (if write then r.count else 0) then some .format
    else if (if ctl then cls != 3 else cls != 4 && cls != 5) then some .cls
    else if !ctl && !dom.holdsRange r.addr r.count then some .range
    else if !ctl && !s.tagsMatch r.addr r.count (BitVec.ofNat 14 r.ktag) then some .key
    else if ctl && !s.controlAllowed (.host port) r.addr write then some .block
    else if ctl && (r.count != 4 || r.addr % 4 != 0) then some .bus
    else none

/-- The 64-byte cells of `n` bytes from `a`, as address and length, in ascending order (R130). -/
def cellsOf (a n : Nat) : List (Nat × Nat) :=
  (spanning 64 a n).map (fun c => (max a (64 * c), min (a + n) (64 * c + 64) - max a (64 * c)))

/-- Cells of a read: its bytes so far, and a bus error at the cell where one occurs (R130, R167). -/
def readCells (errs : PageErrs) : List (Nat × Nat) → State → List Byte → State × List Byte × HostStatus
  | [], s, bs => (s, bs, .ok)
  | (a, n) :: cs, s, bs =>
    let s := s.each (errs.filter (fun e => e.1 == a / 2048)) pageErr
    match s.memRead a n with
    | some d => readCells (errs.filter (fun e => e.1 != a / 2048)) cs s (bs ++ d)
    | none => (s, bs, .bus)

/-- Cells of a write: the number of bytes performed, and a bus error at the cell where one occurs (R130). -/
def writeCells : List (Nat × Nat) → List Byte → State → Nat → State × Nat × HostStatus
  | [], _, s, done => (s, done, .ok)
  | (a, n) :: cs, bs, s, done =>
    match s.memWrite a (bs.take n) with
    | some s => writeCells cs (bs.drop n) s (done + n)
    | none => (s, done, .bus)

/-- A read that has passed its checks: the state, the data and the status. -/
def hostPerformRead (s : State) (port : Nat) (r : HostReq) (errs : PageErrs) : State × List Byte × HostStatus :=
  if isControl r.addr then
    match ctlRead s (.host port) r.addr with
    | (some v, s) => (s, leBytes 4 v.toNat, .ok)
    | (none, s) => (s, [], .bus)
  else readCells errs (cellsOf r.addr r.count) s []

/-- A write that has passed its checks: the state, the bytes performed and the status. DEDUCED (log 25). -/
def hostPerformWrite (s : State) (port : Nat) (r : HostReq) (data : List Byte) : State × Nat × HostStatus :=
  if isControl r.addr then
    match ctlWrite s (.host port) r.addr (BitVec.ofNat 32 (leNat (data.take 4))) with
    | (s, true) => (s, 4, .ok)
    | (s, false) => (s, 0, .bus)
  else writeCells (cellsOf r.addr r.count) data s 0

/-- The completion of a request (R354). -/
def hostReply (s : State) (port : Nat) (r : HostReq) (st : HostStatus) (done : Nat) (data : List Byte) : State :=
  let bs := leBytes 2 r.tag ++ leBytes 1 st.code ++ [0] ++ leBytes 2 done ++ List.replicate 10 0 ++ data
  enqueue s port { ftype := 7, cls := 0, dnode := 0, snode := s.fld Reg.RNG_STATUS 19 8, payload := bs } false

/-- HOST_RD: a read request is checked, performed in cells and completed (R129, R130, R352 to R354). `errs` are the symbol
    errors the pages hold. -/
def execHostRd (h : RxHdr) (payload : List Byte) (errs : PageErrs) (s : State) : Host.Outcome State Fault Refusal :=
  .next (
    match receive s h (s.portProf h.link == 1 && decide (h.link < 24)) payload.length with
    | (false, s) => s
    | (true, s) =>
      let r := hostReq payload
      match hostCheck s h.link h.cls r payload.length false with
      | some st => hostReply s h.link r st 0 []
      | none =>
        match hostPerformRead s h.link r errs with
        | (s, bs, st) => hostReply s h.link r st bs.length bs)

/-- HOST_WR: a write request is checked, performed in cells and completed; a posted one has no completion, and its failure
    is counted (R129, R130, R352 to R354). -/
def execHostWr (h : RxHdr) (payload : List Byte) (s : State) : Host.Outcome State Fault Refusal :=
  .next (
    match receive s h (s.portProf h.link == 1 && decide (h.link < 24)) payload.length with
    | (false, s) => s
    | (true, s) =>
      let r := hostReq payload
      let reply (s : State) (st : HostStatus) (done : Nat) : State :=
        if !h.posted then hostReply s h.link r st done []
        else if st == .ok then s
        else s.count (Reg.UMK_PORTp_PERR h.link) 1
      match hostCheck s h.link h.cls r payload.length true with
      | some st => reply s st 0
      | none =>
        match hostPerformWrite s h.link r (payload.drop 16) with
        | (s, done, st) => reply s st done)

/-! ### The debug access register (R610 to R612) -/

/-- The STATUS codes of R611. -/
inductive DbgStatus
  | ok | busy | bus | denied
  deriving DecidableEq, Repr

/-- The code. -/
def DbgStatus.code : DbgStatus → Nat
  | .ok => 0 | .busy => 1 | .bus => 2 | .denied => 3

/-- DBGACC is in force and acts, and no command is in progress (R610, R611). -/
def State.dbgReady (s : State) : Bool :=
  decide (s.power = .on) && s.tapIr == 0x20 && s.debugOn && s.dbg.pend.isNone

/-- A command is in progress, and what it will return. DEDUCED (log 82). -/
def dbgStart (s : State) (addr : BitVec 48) (data : W32) (st : DbgStatus) : State :=
  { s with dbg := { addr := addr, data := s.dbg.data, status := DbgStatus.busy.code, pend := some (data, st.code) } }

/-- DBG_NOP: nothing happens, and the captured result stays (R611). -/
def execDbgNop (s : State) : Host.Outcome State Fault Refusal := .next s

/-- DBG_READ: one 4-byte read as M mode (R611). DEDUCED (log 82). -/
def execDbgRead (addr : BitVec 48) (errs : PageErrs) (s : State) : Host.Outcome State Fault Refusal :=
  .next (
    let a := addr.toNat
    if !s.dbgReady then s
    else if a % 4 ≠ 0 then dbgStart s addr s.dbg.data .bus
    else if isControl a then
      match ctlRead s .debug a with
      | (some v, s) => dbgStart s addr v .ok
      | (none, s) => dbgStart s addr s.dbg.data .bus
    else
      let s := readErrors s a 4 errs
      match s.memRead a 4 with
      | some bs => dbgStart s addr (BitVec.ofNat 32 (leNat bs)) .ok
      | none => dbgStart s addr s.dbg.data .bus)

/-- DBG_WRITE: one 4-byte write as M mode (R611). -/
def execDbgWrite (addr : BitVec 48) (data : W32) (s : State) : Host.Outcome State Fault Refusal :=
  .next (
    let a := addr.toNat
    if !s.dbgReady then s
    else if a % 4 ≠ 0 then dbgStart s addr s.dbg.data .bus
    else if isControl a then
      match ctlWrite s .debug a data with
      | (s, true) => dbgStart s addr s.dbg.data .ok
      | (s, false) => dbgStart s addr s.dbg.data .bus
    else
      match s.memWrite a (leBytes 4 data.toNat) with
      | some s => dbgStart s addr s.dbg.data .ok
      | none => dbgStart s addr s.dbg.data .bus)

/-- A seat ID names a seat: its engine is present, powered and unfenced, and its core exists (R612). -/
def State.seatNamed (s : State) (i : Nat) : Bool :=
  decide (seatEngine i < s.variant.engines) && s.islandUp (seatEngine i) && decide (seatCore i < 12)

/-- The seat halts at its next instruction boundary: at once between instructions, or when its stall ends (R46, R612).
    DEDUCED (log 82). -/
def dbgHaltSeat (s : State) (i : Nat) : State :=
  match (s.seat i).st with
  | .run => s.setSeatSt i .halt
  | .wait => { s with haltReq := sset false s.haltReq i true }
  | _ => s

/-- DBG_HALT: a seat, or the plant thread while STATE is SAFE or READY (R612). -/
def execDbgHalt (addr : BitVec 48) (s : State) : Host.Outcome State Fault Refusal :=
  .next (
    let i := addr.toNat % 1024
    if !s.dbgReady then s
    else if i = plantSeat then
      if s.safeState = 0 ∨ s.safeState = 2 then dbgStart (dbgHaltSeat s i) addr s.dbg.data .ok
      else dbgStart s addr s.dbg.data .denied
    else if !s.seatNamed i then dbgStart s addr s.dbg.data .bus
    else dbgStart (dbgHaltSeat s i) addr s.dbg.data .ok)

/-- DBG_RELEASE: a halted seat goes to IDLE; the plant thread resumes (R612). -/
def execDbgRelease (addr : BitVec 48) (s : State) : Host.Outcome State Fault Refusal :=
  .next (
    let i := addr.toNat % 1024
    if !s.dbgReady then s
    else if i ≠ plantSeat ∧ !s.seatNamed i then dbgStart s addr s.dbg.data .bus
    else
      let s := if (s.seat i).st == .halt then s.setSeatSt i (if i = plantSeat then .run else .idle) else s
      dbgStart s addr s.dbg.data .ok)

/-- DBG_COMMAND_DONE: the result of the command in progress becomes the one Capture-DR loads (R611). DEDUCED (log 82). -/
def execDbgCommandDone (s : State) : Host.Outcome State Fault Refusal :=
  .next (
    match s.dbg.pend with
    | some (data, st) => { s with dbg := { addr := s.dbg.addr, data := data, status := st, pend := none } }
    | none => s)

end Sys2Proof.Machine
end

