-- ==== Sys2Proof/Machine/Vector.lean ====
section
/-! DEFINITION. Vector and predicate computation (R89 to R93, R95, R96). -/

namespace Sys2Proof.Machine

/-- A vector instruction: ILLEGAL_INSN on the plant thread (R39), VCOUNT when VL is above capacity (R41), and no
    effect but the pc when no element is active (R66); otherwise `f`, given the active elements. -/
def vecIssue (i n : Nat) (w : W64) (p : Nat) (ew : BitVec 2) (f : Seat → List Nat → Seat) (s : State) : State :=
  issue s i n (fun s => zvOnly s i w (fun s =>
    let t := s.seat i
    if t.vl > vcap ew then trap s i 0x0F (BitVec.ofNat 64 t.vl)
    else
      match vactives t p ew with
      | [] => retire s i n (fun t => t)
      | act => retire s i n (fun t => f t act)))

/-- A vector whose active elements are `f i` and whose others are those of `old` (R41). -/
def vmap (old : VReg) (ew : BitVec 2) (act : List Nat) (f : Nat → Nat) : VReg :=
  act.foldl (fun v i => vput v ew i (f i)) old

/-- The second operand of an element: vb[i], or the truncated scalar (R90). -/
def vsrc (t : Seat) (ew : BitVec 2) : VSrc → Nat → Nat
  | .v n, i => velem (t.vx n) ew i
  | .s n, _ => (t.sx n).toNat % 2 ^ (8 * esize ew)

/-- The major opcode and the VB field of a source: VOP 0x20 or VOPS 0x21 (R79). -/
def vsrcField : VSrc → Nat × Nat
  | .v n => (0x20, n) | .s n => (0x21, n)

/-- A VOP or VOPS instruction of function `fn`: vd[i] := op w va[i] vb[i], where `w` is the width in bits (R90). -/
def vop (fn : Nat) (op : Nat → Nat → Nat → Nat) (i vd va : Nat) (vb : VSrc) (p : Nat) (ew : BitVec 2) (s : State) : State :=
  vecIssue i 4 (wordV (vsrcField vb).1 vd va (vsrcField vb).2 p ew.toNat fn) p ew
    (fun t act => t.setV vd (vmap (t.vx vd) ew act (fun k => op (8 * esize ew) (velem (t.vx va) ew k) (vsrc t ew vb k)))) s

/-- The smallest and largest signed values of a width. -/
def loS (w : Nat) : Int := -(2 ^ (w - 1) : Nat)
/-- The largest signed value of a width. -/
def hiS (w : Nat) : Int := (2 ^ (w - 1) : Nat) - 1

/-- VADD: a + b per active element (R90). -/
def execVadd (seat vd va : Nat) (vb : VSrc) (p : Nat) (ew : BitVec 2) (s : State) : Host.Outcome State Fault Refusal :=
  .next (vop 0x00 (fun _ a b => a + b) seat vd va vb p ew s)

/-- VSUB: a − b per active element (R90). -/
def execVsub (seat vd va : Nat) (vb : VSrc) (p : Nat) (ew : BitVec 2) (s : State) : Host.Outcome State Fault Refusal :=
  .next (vop 0x01 (fun w a b => a + (2 ^ w - b)) seat vd va vb p ew s)

/-- VMUL: the low E bytes of a × b per active element (R90). -/
def execVmul (seat vd va : Nat) (vb : VSrc) (p : Nat) (ew : BitVec 2) (s : State) : Host.Outcome State Fault Refusal :=
  .next (vop 0x02 (fun _ a b => a * b) seat vd va vb p ew s)

/-- VMULH: the high E bytes of a × b, signed per active element (R90). -/
def execVmulh (seat vd va : Nat) (vb : VSrc) (p : Nat) (ew : BitVec 2) (s : State) : Host.Outcome State Fault Refusal :=
  .next (vop 0x03 (fun w a b => uint w ((sint w a * sint w b) / 2 ^ w)) seat vd va vb p ew s)

/-- VMULHU: the high E bytes, unsigned per active element (R90). -/
def execVmulhu (seat vd va : Nat) (vb : VSrc) (p : Nat) (ew : BitVec 2) (s : State) : Host.Outcome State Fault Refusal :=
  .next (vop 0x04 (fun w a b => a * b / 2 ^ w) seat vd va vb p ew s)

/-- VAND: a and b per active element (R90). -/
def execVand (seat vd va : Nat) (vb : VSrc) (p : Nat) (ew : BitVec 2) (s : State) : Host.Outcome State Fault Refusal :=
  .next (vop 0x05 (fun _ a b => a &&& b) seat vd va vb p ew s)

/-- VOR: a or b per active element (R90). -/
def execVor (seat vd va : Nat) (vb : VSrc) (p : Nat) (ew : BitVec 2) (s : State) : Host.Outcome State Fault Refusal :=
  .next (vop 0x06 (fun _ a b => a ||| b) seat vd va vb p ew s)

/-- VXOR: a xor b per active element (R90). -/
def execVxor (seat vd va : Nat) (vb : VSrc) (p : Nat) (ew : BitVec 2) (s : State) : Host.Outcome State Fault Refusal :=
  .next (vop 0x07 (fun _ a b => a ^^^ b) seat vd va vb p ew s)

/-- VSLL: a << (b mod 8E) per active element (R90). -/
def execVsll (seat vd va : Nat) (vb : VSrc) (p : Nat) (ew : BitVec 2) (s : State) : Host.Outcome State Fault Refusal :=
  .next (vop 0x08 (fun w a b => a * 2 ^ (b % w)) seat vd va vb p ew s)

/-- VSRL: a >> (b mod 8E), zero fill per active element (R90). -/
def execVsrl (seat vd va : Nat) (vb : VSrc) (p : Nat) (ew : BitVec 2) (s : State) : Host.Outcome State Fault Refusal :=
  .next (vop 0x09 (fun w a b => a / 2 ^ (b % w)) seat vd va vb p ew s)

/-- VSRA: a >> (b mod 8E), sign fill per active element (R90). -/
def execVsra (seat vd va : Nat) (vb : VSrc) (p : Nat) (ew : BitVec 2) (s : State) : Host.Outcome State Fault Refusal :=
  .next (vop 0x0A (fun w a b => uint w (sint w a / 2 ^ (b % w))) seat vd va vb p ew s)

/-- VMIN: the signed smaller per active element (R90). -/
def execVmin (seat vd va : Nat) (vb : VSrc) (p : Nat) (ew : BitVec 2) (s : State) : Host.Outcome State Fault Refusal :=
  .next (vop 0x0B (fun w a b => if sint w a < sint w b then a else b) seat vd va vb p ew s)

/-- VMAX: the signed larger per active element (R90). -/
def execVmax (seat vd va : Nat) (vb : VSrc) (p : Nat) (ew : BitVec 2) (s : State) : Host.Outcome State Fault Refusal :=
  .next (vop 0x0C (fun w a b => if sint w a < sint w b then b else a) seat vd va vb p ew s)

/-- VMINU: the unsigned smaller per active element (R90). -/
def execVminu (seat vd va : Nat) (vb : VSrc) (p : Nat) (ew : BitVec 2) (s : State) : Host.Outcome State Fault Refusal :=
  .next (vop 0x0D (fun _ a b => min a b) seat vd va vb p ew s)

/-- VMAXU: the unsigned larger per active element (R90). -/
def execVmaxu (seat vd va : Nat) (vb : VSrc) (p : Nat) (ew : BitVec 2) (s : State) : Host.Outcome State Fault Refusal :=
  .next (vop 0x0E (fun _ a b => max a b) seat vd va vb p ew s)

/-- VADDSS: a + b saturated to the signed range per active element (R90). -/
def execVaddss (seat vd va : Nat) (vb : VSrc) (p : Nat) (ew : BitVec 2) (s : State) : Host.Outcome State Fault Refusal :=
  .next (vop 0x0F (fun w a b => uint w (clampInt (loS w) (hiS w) (sint w a + sint w b))) seat vd va vb p ew s)

/-- VADDSU: a + b saturated to the unsigned range per active element (R90). -/
def execVaddsu (seat vd va : Nat) (vb : VSrc) (p : Nat) (ew : BitVec 2) (s : State) : Host.Outcome State Fault Refusal :=
  .next (vop 0x10 (fun w a b => min (2 ^ w - 1) (a + b)) seat vd va vb p ew s)

/-- VSUBSS: a − b saturated to the signed range per active element (R90). -/
def execVsubss (seat vd va : Nat) (vb : VSrc) (p : Nat) (ew : BitVec 2) (s : State) : Host.Outcome State Fault Refusal :=
  .next (vop 0x11 (fun w a b => uint w (clampInt (loS w) (hiS w) (sint w a - sint w b))) seat vd va vb p ew s)

/-- VSUBSU: a − b saturated to 0 per active element (R90). -/
def execVsubsu (seat vd va : Nat) (vb : VSrc) (p : Nat) (ew : BitVec 2) (s : State) : Host.Outcome State Fault Refusal :=
  .next (vop 0x12 (fun _ a b => a - b) seat vd va vb p ew s)

/-- VAVGU: (a + b + 1) >> 1 per active element (R90). -/
def execVavgu (seat vd va : Nat) (vb : VSrc) (p : Nat) (ew : BitVec 2) (s : State) : Host.Outcome State Fault Refusal :=
  .next (vop 0x13 (fun _ a b => (a + b + 1) / 2) seat vd va vb p ew s)

/-- VABSDU: abs(a − b) per active element (R90). -/
def execVabsdu (seat vd va : Nat) (vb : VSrc) (p : Nat) (ew : BitVec 2) (s : State) : Host.Outcome State Fault Refusal :=
  .next (vop 0x14 (fun _ a b => max a b - min a b) seat vd va vb p ew s)

/-- Bits `lo … lo + n − 1` of a predicate set to `b`. -/
def pfill (q : PReg) (lo n : Nat) (b : Bool) : PReg := fset q (lo + n - 1) lo (if b then 2 ^ n - 1 else 0)

/-- A VCMP of function `fn` into pd: all E bits of each active element take the result (R91). -/
def vcmp (fn : Nat) (op : Nat → Nat → Nat → Bool) (i pd va vb p : Nat) (ew : BitVec 2) (s : State) : State :=
  vecIssue i 4 (wordV 0x22 pd va vb p ew.toNat fn) p ew
    (fun t act => t.setP pd (act.foldl (fun q k =>
      pfill q (k * esize ew) (esize ew) (op (8 * esize ew) (velem (t.vx va) ew k) (velem (t.vx vb) ew k))) (t.px pd))) s

/-- VCMP_EQ: equal, into pd (R91). -/
def execVcmpEq (seat pd va vb p : Nat) (ew : BitVec 2) (s : State) : Host.Outcome State Fault Refusal :=
  .next (vcmp 0x00 (fun _ a b => a == b) seat pd va vb p ew s)

/-- VCMP_NE: different, into pd (R91). -/
def execVcmpNe (seat pd va vb p : Nat) (ew : BitVec 2) (s : State) : Host.Outcome State Fault Refusal :=
  .next (vcmp 0x01 (fun _ a b => a != b) seat pd va vb p ew s)

/-- VCMP_LT: signed less, into pd (R91). -/
def execVcmpLt (seat pd va vb p : Nat) (ew : BitVec 2) (s : State) : Host.Outcome State Fault Refusal :=
  .next (vcmp 0x02 (fun w a b => decide (sint w a < sint w b)) seat pd va vb p ew s)

/-- VCMP_GE: signed at least, into pd (R91). -/
def execVcmpGe (seat pd va vb p : Nat) (ew : BitVec 2) (s : State) : Host.Outcome State Fault Refusal :=
  .next (vcmp 0x03 (fun w a b => decide (sint w a ≥ sint w b)) seat pd va vb p ew s)

/-- VCMP_LTU: unsigned less, into pd (R91). -/
def execVcmpLtu (seat pd va vb p : Nat) (ew : BitVec 2) (s : State) : Host.Outcome State Fault Refusal :=
  .next (vcmp 0x04 (fun _ a b => decide (a < b)) seat pd va vb p ew s)

/-- VCMP_GEU: unsigned at least, into pd (R91). -/
def execVcmpGeu (seat pd va vb p : Nat) (ew : BitVec 2) (s : State) : Host.Outcome State Fault Refusal :=
  .next (vcmp 0x05 (fun _ a b => decide (a ≥ b)) seat pd va vb p ew s)

/-- VMV: vd[i] := va[i] (R92). -/
def execVmv (seat vd va p : Nat) (ew : BitVec 2) (s : State) : Host.Outcome State Fault Refusal :=
  .next (vecIssue seat 4 (wordV 0x23 vd va 0 p ew.toNat 0x00) p ew
    (fun t act => t.setV vd (vmap (t.vx vd) ew act (velem (t.vx va) ew))) s)

/-- VBCAST: vd[i] := s[VA] (R92). -/
def execVbcast (seat vd sa p : Nat) (ew : BitVec 2) (s : State) : Host.Outcome State Fault Refusal :=
  .next (vecIssue seat 4 (wordV 0x23 vd sa 0 p ew.toNat 0x01) p ew
    (fun t act => t.setV vd (vmap (t.vx vd) ew act (fun _ => (t.sx sa).toNat))) s)

/-- VEXT: s[VD] := va[s[VB]] if s[VB] < VL, else 0; the predicate is ignored (R92). -/
def execVext (seat sd va sb p : Nat) (ew : BitVec 2) (s : State) : Host.Outcome State Fault Refusal :=
  .next (vecIssue seat 4 (wordV 0x23 sd va sb p ew.toNat 0x02) 0 ew
    (fun t _ => t.setX sd (if (t.sx sb).toNat < t.vl then BitVec.ofNat 64 (velem (t.vx va) ew (t.sx sb).toNat) else 0)) s)

/-- VINS: vd[s[VB]] := s[VA] if s[VB] < VL; the predicate is ignored (R92). -/
def execVins (seat vd sa sb p : Nat) (ew : BitVec 2) (s : State) : Host.Outcome State Fault Refusal :=
  .next (vecIssue seat 4 (wordV 0x23 vd sa sb p ew.toNat 0x03) 0 ew
    (fun t _ => if (t.sx sb).toNat < t.vl then t.setV vd (vput (t.vx vd) ew (t.sx sb).toNat (t.sx sa).toNat) else t) s)

/-- VSLIDEUP: vd[i] := va[i − s[VB]] for active i ≥ s[VB] (R92). -/
def execVslideup (seat vd va sb p : Nat) (ew : BitVec 2) (s : State) : Host.Outcome State Fault Refusal :=
  .next (vecIssue seat 4 (wordV 0x23 vd va sb p ew.toNat 0x04) p ew
    (fun t act => t.setV vd (vmap (t.vx vd) ew (act.filter (fun k => decide ((t.sx sb).toNat ≤ k)))
      (fun k => velem (t.vx va) ew (k - (t.sx sb).toNat)))) s)

/-- VSLIDEDN: vd[i] := va[i + s[VB]] if below VL, else 0 (R92). -/
def execVslidedn (seat vd va sb p : Nat) (ew : BitVec 2) (s : State) : Host.Outcome State Fault Refusal :=
  .next (vecIssue seat 4 (wordV 0x23 vd va sb p ew.toNat 0x05) p ew
    (fun t act => t.setV vd (vmap (t.vx vd) ew act
      (fun k => if k + (t.sx sb).toNat < t.vl then velem (t.vx va) ew (k + (t.sx sb).toNat) else 0))) s)

/-- VPERM: vd[i] := va[vb[i]] if vb[i] < VL, else 0 (R92). -/
def execVperm (seat vd va vb p : Nat) (ew : BitVec 2) (s : State) : Host.Outcome State Fault Refusal :=
  .next (vecIssue seat 4 (wordV 0x23 vd va vb p ew.toNat 0x06) p ew
    (fun t act => t.setV vd (vmap (t.vx vd) ew act
      (fun k => if velem (t.vx vb) ew k < t.vl then velem (t.vx va) ew (velem (t.vx vb) ew k) else 0))) s)

/-- The active elements of va as signed numbers. -/
def vsigned (t : Seat) (va : Nat) (ew : BitVec 2) (act : List Nat) : List Int :=
  act.map (fun k => sint (8 * esize ew) (velem (t.vx va) ew k))
/-- The active elements of va as unsigned numbers. -/
def vunsigned (t : Seat) (va : Nat) (ew : BitVec 2) (act : List Nat) : List Nat :=
  act.map (fun k => velem (t.vx va) ew k)
/-- The least, or by `g` the greatest, of a list that is not empty. -/
def best {α : Type} (lt : α → α → Bool) (d : α) : List α → α
  | [] => d
  | x :: xs => xs.foldl (fun m y => if lt y m then y else m) x

/-- VREDSUM: the sum of the active elements, sign-extended (R92). -/
def execVredsum (seat sd va p : Nat) (ew : BitVec 2) (s : State) : Host.Outcome State Fault Refusal :=
  .next (vecIssue seat 4 (wordV 0x23 sd va 0 p ew.toNat 0x08) p ew
    (fun t act => t.setX sd (BitVec.ofInt 64 ((vsigned t va ew act).foldl (· + ·) 0))) s)

/-- VREDSUMU: the sum of the active elements, zero-extended (R92). -/
def execVredsumu (seat sd va p : Nat) (ew : BitVec 2) (s : State) : Host.Outcome State Fault Refusal :=
  .next (vecIssue seat 4 (wordV 0x23 sd va 0 p ew.toNat 0x09) p ew
    (fun t act => t.setX sd (BitVec.ofNat 64 ((vunsigned t va ew act).foldl (· + ·) 0))) s)

/-- VREDMIN: the signed minimum (R92). -/
def execVredmin (seat sd va p : Nat) (ew : BitVec 2) (s : State) : Host.Outcome State Fault Refusal :=
  .next (vecIssue seat 4 (wordV 0x23 sd va 0 p ew.toNat 0x0A) p ew
    (fun t act => t.setX sd (BitVec.ofInt 64 (best (fun a b => decide (a < b)) 0 (vsigned t va ew act)))) s)

/-- VREDMAX: the signed maximum (R92). -/
def execVredmax (seat sd va p : Nat) (ew : BitVec 2) (s : State) : Host.Outcome State Fault Refusal :=
  .next (vecIssue seat 4 (wordV 0x23 sd va 0 p ew.toNat 0x0B) p ew
    (fun t act => t.setX sd (BitVec.ofInt 64 (best (fun a b => decide (b < a)) 0 (vsigned t va ew act)))) s)

/-- VREDMINU: the unsigned minimum (R92). -/
def execVredminu (seat sd va p : Nat) (ew : BitVec 2) (s : State) : Host.Outcome State Fault Refusal :=
  .next (vecIssue seat 4 (wordV 0x23 sd va 0 p ew.toNat 0x0C) p ew
    (fun t act => t.setX sd (BitVec.ofNat 64 (best (fun a b => decide (a < b)) 0 (vunsigned t va ew act)))) s)

/-- VREDMAXU: the unsigned maximum (R92). -/
def execVredmaxu (seat sd va p : Nat) (ew : BitVec 2) (s : State) : Host.Outcome State Fault Refusal :=
  .next (vecIssue seat 4 (wordV 0x23 sd va 0 p ew.toNat 0x0D) p ew
    (fun t act => t.setX sd (BitVec.ofNat 64 (best (fun a b => decide (b < a)) 0 (vunsigned t va ew act)))) s)

/-- The exact product of VMULSR.L, rounded half up and shifted, then saturated or wrapped (R93). -/
def mulsr (w sh : Nat) (uns sat : Bool) (a b : Nat) : Nat :=
  let x : Int := if uns then (a : Int) * (b : Int) else sint w a * sint w b
  let x := (if sh = 0 then x else x + 2 ^ (sh - 1)) / 2 ^ sh
  let x := if sat then (if uns then clampInt 0 (2 ^ w - 1) x else clampInt (loS w) (hiS w) x) else x
  uint w x

/-- VMULSR.L: fixed-point multiply; SH of 8 × E or more is unassigned (R93). -/
def execVmulsrL (seat vd va vb p : Nat) (ew : BitVec 2) (sh : BitVec 6) (uns sat : Bool) (s : State) : Host.Outcome State Fault Refusal :=
  let w := wordL 0x08 (vd * 2 ^ 15 + va * 2 ^ 10 + vb * 2 ^ 5 + p * 4 + ew.toNat)
  .next (if isPlant seat || decide (sh.toNat < 8 * esize ew) then
    vecIssue seat 8 w p ew (fun t act => t.setV vd (vmap (t.vx vd) ew act
      (fun k => mulsr (8 * esize ew) sh.toNat uns sat (velem (t.vx va) ew k) (velem (t.vx vb) ew k)))) s
    else issue s seat 8 (fun s => trap s seat 0x00 w))

/-- A predicate operation on all 256 bits (R95). -/
def predOp (i : Nat) (w : W64) (f : Seat → Seat) (s : State) : State :=
  issue s i 4 (fun s => zvOnly s i w (fun s => retire s i 4 f))

/-- PAND: pd := pa and pb (R95). -/
def execPand (seat pd pa pb : Nat) (s : State) : Host.Outcome State Fault Refusal :=
  .next (predOp seat (wordP pd pa pb 0 0x00) (fun t => t.setP pd (t.px pa &&& t.px pb)) s)

/-- POR: pd := pa or pb (R95). -/
def execPor (seat pd pa pb : Nat) (s : State) : Host.Outcome State Fault Refusal :=
  .next (predOp seat (wordP pd pa pb 0 0x01) (fun t => t.setP pd (t.px pa ||| t.px pb)) s)

/-- PXOR: pd := pa xor pb (R95). -/
def execPxor (seat pd pa pb : Nat) (s : State) : Host.Outcome State Fault Refusal :=
  .next (predOp seat (wordP pd pa pb 0 0x02) (fun t => t.setP pd (t.px pa ^^^ t.px pb)) s)

/-- PANDN: pd := pa and not pb (R95). -/
def execPandn (seat pd pa pb : Nat) (s : State) : Host.Outcome State Fault Refusal :=
  .next (predOp seat (wordP pd pa pb 0 0x03) (fun t => t.setP pd (t.px pa &&& ~~~ (t.px pb))) s)

/-- PNOT: pd := not pa (R95). -/
def execPnot (seat pd pa : Nat) (s : State) : Host.Outcome State Fault Refusal :=
  .next (predOp seat (wordP pd pa 0 0 0x04) (fun t => t.setP pd (~~~ (t.px pa))) s)

/-- PSET: pd := all ones (R95). -/
def execPset (seat pd : Nat) (s : State) : Host.Outcome State Fault Refusal :=
  .next (predOp seat (wordP pd 0 0 0 0x05) (fun t => t.setP pd (BitVec.allOnes 256)) s)

/-- PCLR: pd := 0 (R95). -/
def execPclr (seat pd : Nat) (s : State) : Host.Outcome State Fault Refusal :=
  .next (predOp seat (wordP pd 0 0 0 0x06) (fun t => t.setP pd (0)) s)

/-- The element indexes below min(VL, 256 / E) whose lowest predicate bit is set (R95). -/
def pset (t : Seat) (pa : Nat) (ew : BitVec 2) : List Nat :=
  (List.range (min t.vl (vcap ew))).filter (fun k => (t.px pa).getLsbD (k * esize ew))

/-- PCNT: how many there are (R95). -/
def execPcnt (seat sd pa : Nat) (ew : BitVec 2) (s : State) : Host.Outcome State Fault Refusal :=
  .next (predOp seat (wordP sd pa 0 ew.toNat 0x08) (fun t => t.setX sd (BitVec.ofNat 64 (pset t pa ew).length)) s)

/-- PFIRST: the lowest of them, or all ones if none (R95). -/
def execPfirst (seat sd pa : Nat) (ew : BitVec 2) (s : State) : Host.Outcome State Fault Refusal :=
  .next (predOp seat (wordP sd pa 0 ew.toNat 0x09) (fun t =>
    t.setX sd (match pset t pa ew with | k :: _ => BitVec.ofNat 64 k | [] => BitVec.allOnes 64)) s)

/-- SETVL: VL := min(s[RA], 256 / E) and RD := the new VL (R96). -/
def execSetvl (seat rd ra : Nat) (ew : BitVec 2) (s : State) : Host.Outcome State Fault Refusal :=
  .next (predOp seat (wordSV rd ra ew.toNat) (fun t =>
    let n : W64 := BitVec.ofNat 64 (min (t.sx ra).toNat (vcap ew))
    (t.scrSet 0x003 n).setX rd n) s)

end Sys2Proof.Machine
end

