-- ==== Sys2Proof/Machine/Window.lean ====
section
/-! DEFINITION. Window operations on registers (R56, R57, R97 to R99) and granule tags (R59, R100). -/

namespace Sys2Proof.Machine

/-- The descriptor is the seat's domain's own (R98). -/
def ownHdom (t : Seat) (d : Desc) : Bool := t.mode != .h || dHdom d == t.hdom

/-- WSUB: a narrower window, or WIN_WIDEN with TVAL the requested end, saturated (R56, R97). -/
def execWsub (seat wd ws rb rc : Nat) (mask : BitVec 5) (s : State) : Host.Outcome State Fault Refusal :=
  .next (issue s seat 4 (fun s =>
    let t := s.seat seat
    let d := t.wx ws
    let off := (t.sx rb).toNat
    let len := (t.sx rc).toNat
    if off + len > dLen d then trap s seat 0x0D (BitVec.ofNat 64 (min (off + len) (2 ^ 64 - 1)))
    else retire s seat 4 (fun t => t.setW wd
      (mkDesc (dBase d + off) len (dRights d &&& mask.toNat) (dHdom d) (dTid d) (dKtag d).toNat (dLoc d) (dValid d)))))

/-- WLOAD: a descriptor from two scalars; own domain in H, and R55 when it is valid (R55, R98). -/
def execWload (seat wd sa sb : Nat) (s : State) : Host.Outcome State Fault Refusal :=
  .next (issue s seat 4 (fun s =>
    let w := wordW wd sa sb 0x00 0
    hmOnly s seat w (fun s =>
      let t := s.seat seat
      let d : Desc := BitVec.ofNat 128 ((t.sx sa).toNat + 2 ^ 64 * (t.sx sb).toNat)
      if !ownHdom t d then trap s seat 0x01 w
      else if dValid d && !descInRange (isPlant seat) d then trap s seat 0x08 (BitVec.ofNat 64 (dBase d))
      else retire s seat 4 (fun t => t.setW wd d))))

/-- WRDLO and WRDHI: half of a descriptor to a scalar, own domain in H (R98). -/
def wrd (seat sd wa fn lo : Nat) (s : State) : State :=
  issue s seat 4 (fun s =>
    let w := wordW sd wa 0 fn 0
    hmOnly s seat w (fun s =>
      let t := s.seat seat
      if !ownHdom t (t.wx wa) then trap s seat 0x01 w
      else retire s seat 4 (fun t => t.setX sd (BitVec.ofNat 64 (fbits (t.wx wa) (lo + 63) lo)))))

/-- WRDLO (R98). -/
def execWrdlo (seat sd wa : Nat) (s : State) : Host.Outcome State Fault Refusal := .next (wrd seat sd wa 0x01 0 s)
/-- WRDHI (R98). -/
def execWrdhi (seat sd wa : Nat) (s : State) : Host.Outcome State Fault Refusal := .next (wrd seat sd wa 0x02 64 s)

/-- The field of a descriptor WGET returns (R57, R98): BASE and KTAG are hidden in T, and in H from other domains. -/
def wgetField (t : Seat) (d : Desc) (f : Nat) : Nat :=
  let hidden := t.mode == .t || !ownHdom t d
  match f with
  | 0 => if hidden then 0 else dBase d
  | 1 => dLen d
  | 2 => dRights d
  | 3 => dHdom d
  | 4 => dTid d
  | 5 => if hidden then 0 else (dKtag d).toNat
  | 6 => b2n (dLoc d)
  | _ => b2n (dValid d)

/-- WGET (R98). -/
def execWget (seat sd wa : Nat) (field : BitVec 3) (s : State) : Host.Outcome State Fault Refusal :=
  .next (issue s seat 4 (fun s => retire s seat 4 (fun t =>
    t.setX sd (BitVec.ofNat 64 (wgetField t (t.wx wa) field.toNat)))))

/-- WMOV (R98). -/
def execWmov (seat wd wa : Nat) (s : State) : Host.Outcome State Fault Refusal :=
  .next (issue s seat 4 (fun s => retire s seat 4 (fun t => t.setW wd (t.wx wa))))

/-- WCLR (R98). -/
def execWclr (seat wd : Nat) (s : State) : Host.Outcome State Fault Refusal :=
  .next (issue s seat 4 (fun s => retire s seat 4 (fun t => t.setW wd 0)))

/-- CWLOAD: code window 0 T, 1 H, 2 M := w[A], under R99. -/
def execCwload (seat wa : Nat) (which : BitVec 2) (s : State) : Host.Outcome State Fault Refusal :=
  .next (issue s seat 4 (fun s =>
    let w := wordW 0 wa 0 0x08 which.toNat
    if which = 3 || (isPlant seat && which == 0) then trap s seat 0x00 w
    else hmOnly s seat w (fun s =>
      let t := s.seat seat
      if t.mode == .h && (which == 2 || !ownHdom t (t.wx wa)) then trap s seat 0x01 w
      else retire s seat 4 (fun t => t.setCode (if which = 0 then .t else if which = 1 then .h else .m) (t.wx wa)))))

/-- KTSET: the tag of the granule of s[RA] := s[RB][13:0], once it retires; H is held to its own granules (R100). -/
def execKtset (seat ra rb : Nat) (s : State) : Host.Outcome State Fault Refusal :=
  .next (issue s seat 4 (fun s =>
    hmOnly s seat (wordR 0x30 0 ra rb 0) (fun s =>
      let t := s.seat seat
      let g := granule (t.sx ra).toNat
      let here := s.inMemory (g * 2 ^ 21) 1
      if t.mode == .h && !(here && (s.domain t.hdom).holds g) then trap s seat 0x06 (BitVec.ofNat 64 (g * 2 ^ 21))
      else if !here then trap s seat 0x0B (BitVec.ofNat 64 (g * 2 ^ 21))
      else stall s seat (.ktset g (BitVec.ofNat 14 (t.sx rb).toNat)))))

/-- KTSET_RETIRE: the tag is set; from here on no access with the old tag completes, because every access in flight
    is checked again when it returns (R59). -/
def execKtsetRetire (seat : Nat) (s : State) : Host.Outcome State Fault Refusal :=
  .next (match (s.seat seat).wait with
    | .ktset g tag => unstall (s.setTag g tag) seat (fun t => t.advance 4)
    | _ => s)

end Sys2Proof.Machine
end

