-- ==== Sys2Proof/Machine/MemOps.lean ====
section
/-! DEFINITION. Scalar loads, stores and atomics (R86, R88), vector loads and stores (R94), window descriptors in memory
(R98), and block copy and fill (R101). -/

namespace Sys2Proof.Machine

/-! ### Scalar loads and stores (R86) -/

/-- RA + sign-extended IMM, modulo 2^64. -/
def memOff (t : Seat) (ra : Nat) (imm : BitVec 12) : W64 := t.sx ra + imm.signExtend 64

/-- A load of `n` bytes: RD := `f` of the value when the access returns. -/
def loadAt (s : State) (i rd w n : Nat) (off : W64) (f : Nat → W64) : State :=
  match seatRead s i w off.toNat n n 1 with
  | .error c => trapAccess s i c w .load n off
  | .ok (bs, s, touch) => await s i 4 w off .load n touch (.x rd (f (leNat bs)))

/-- A load of major 0x14 to 0x1A. -/
def load (i rd w ra : Nat) (imm : BitVec 12) (n : Nat) (f : Nat → W64) (s : State) : State :=
  issue s i 4 (fun s => loadAt s i rd w n (memOff (s.seat i) ra imm) f)

/-- A store of the low `n` bytes of `v`. -/
def storeAt (s : State) (i w n : Nat) (off v : W64) : State :=
  match seatWrite s i w off.toNat n (leBytes n v.toNat) with
  | .error c => trapAccess s i c w .store n off
  | .ok (s, io) => storeOut s i 4 io

/-- A store of major 0x1B to 0x1E. -/
def storeOp (i rs w ra : Nat) (imm : BitVec 12) (n : Nat) (s : State) : State :=
  issue s i 4 (fun s => storeAt s i w n (memOff (s.seat i) ra imm) ((s.seat i).sx rs))

/-- The zero-extended value. -/
def zext (v : Nat) : W64 := BitVec.ofNat 64 v
/-- The value sign-extended from `n` bytes. -/
def sextBytes (n v : Nat) : W64 := BitVec.ofInt 64 (sint (8 * n) v)

/-- LDB (R86). -/
def execLdb (seat rd w ra : Nat) (imm : BitVec 12) (s : State) : Host.Outcome State Fault Refusal :=
  .next (load seat rd w ra imm 1 zext s)
/-- LDH (R86). -/
def execLdh (seat rd w ra : Nat) (imm : BitVec 12) (s : State) : Host.Outcome State Fault Refusal :=
  .next (load seat rd w ra imm 2 zext s)
/-- LDW (R86). -/
def execLdw (seat rd w ra : Nat) (imm : BitVec 12) (s : State) : Host.Outcome State Fault Refusal :=
  .next (load seat rd w ra imm 4 zext s)
/-- LDD (R86). -/
def execLdd (seat rd w ra : Nat) (imm : BitVec 12) (s : State) : Host.Outcome State Fault Refusal :=
  .next (load seat rd w ra imm 8 zext s)
/-- LDBS (R86). -/
def execLdbs (seat rd w ra : Nat) (imm : BitVec 12) (s : State) : Host.Outcome State Fault Refusal :=
  .next (load seat rd w ra imm 1 (sextBytes 1) s)
/-- LDHS (R86). -/
def execLdhs (seat rd w ra : Nat) (imm : BitVec 12) (s : State) : Host.Outcome State Fault Refusal :=
  .next (load seat rd w ra imm 2 (sextBytes 2) s)
/-- LDWS (R86). -/
def execLdws (seat rd w ra : Nat) (imm : BitVec 12) (s : State) : Host.Outcome State Fault Refusal :=
  .next (load seat rd w ra imm 4 (sextBytes 4) s)
/-- STB (R86). -/
def execStb (seat rs w ra : Nat) (imm : BitVec 12) (s : State) : Host.Outcome State Fault Refusal :=
  .next (storeOp seat rs w ra imm 1 s)
/-- STH (R86). -/
def execSth (seat rs w ra : Nat) (imm : BitVec 12) (s : State) : Host.Outcome State Fault Refusal :=
  .next (storeOp seat rs w ra imm 2 s)
/-- STW (R86). -/
def execStw (seat rs w ra : Nat) (imm : BitVec 12) (s : State) : Host.Outcome State Fault Refusal :=
  .next (storeOp seat rs w ra imm 4 s)
/-- STD (R86). -/
def execStd (seat rs w ra : Nat) (imm : BitVec 12) (s : State) : Host.Outcome State Fault Refusal :=
  .next (storeOp seat rs w ra imm 8 s)

/-! ### Atomics, acquire loads and release stores (R61, R88) -/

/-- The size an SZ bit selects. -/
def atomSize (wide : Bool) : Nat := if wide then 8 else 4

/-- A read-modify-write atomic at offset s[RA]: memory becomes `f` old RB RD at the access size, and RD the old value,
    sign-extended from 32 bits for a 4-byte access. Reading and writing are one step, so any ORD is kept (R61). -/
def atom (f : Nat → Nat → Nat → Nat → Nat) (i : Nat) (wide : Bool) (rd w ra rb : Nat) (s : State) : State :=
  orderedIssue s i 4 (fun s =>
    let t := s.seat i
    let n := atomSize wide
    let off := t.sx ra
    let d := t.wx w
    match checkAccess s t (isPlant i) d off.toNat n n 3 true with
    | some c => trapAccess s i c w .atomic n off
    | none =>
      let p := target s i d off.toNat
      match placeRead s i p n with
      | none => trapAccess s i 0x0B w .atomic n off
      | some (bs, s) =>
        let m := 2 ^ (8 * n)
        let new := f (8 * n) (leNat bs) ((t.sx rb).toNat % m) ((t.sx rd).toNat % m)
        match placeWrite s i p (leBytes n new) with
        | none => trapAccess s i 0x0B w .atomic n off
        | some s => await s i 4 w off .atomic n (touchOf d p n) (.x rd (sextBytes n (leNat bs))))

/-- ATOM_SWAP (R88). -/
def execAtomSwap (seat : Nat) (wide : Bool) (_ord : BitVec 2) (rd w ra rb : Nat) (s : State) : Host.Outcome State Fault Refusal :=
  .next (atom (fun _ _ b _ => b) seat wide rd w ra rb s)
/-- ATOM_ADD (R88). -/
def execAtomAdd (seat : Nat) (wide : Bool) (_ord : BitVec 2) (rd w ra rb : Nat) (s : State) : Host.Outcome State Fault Refusal :=
  .next (atom (fun _ a b _ => a + b) seat wide rd w ra rb s)
/-- ATOM_AND (R88). -/
def execAtomAnd (seat : Nat) (wide : Bool) (_ord : BitVec 2) (rd w ra rb : Nat) (s : State) : Host.Outcome State Fault Refusal :=
  .next (atom (fun _ a b _ => a &&& b) seat wide rd w ra rb s)
/-- ATOM_OR (R88). -/
def execAtomOr (seat : Nat) (wide : Bool) (_ord : BitVec 2) (rd w ra rb : Nat) (s : State) : Host.Outcome State Fault Refusal :=
  .next (atom (fun _ a b _ => a ||| b) seat wide rd w ra rb s)
/-- ATOM_XOR (R88). -/
def execAtomXor (seat : Nat) (wide : Bool) (_ord : BitVec 2) (rd w ra rb : Nat) (s : State) : Host.Outcome State Fault Refusal :=
  .next (atom (fun _ a b _ => a ^^^ b) seat wide rd w ra rb s)
/-- ATOM_MIN (R88). -/
def execAtomMin (seat : Nat) (wide : Bool) (_ord : BitVec 2) (rd w ra rb : Nat) (s : State) : Host.Outcome State Fault Refusal :=
  .next (atom (fun n a b _ => if sint n b < sint n a then b else a) seat wide rd w ra rb s)
/-- ATOM_MAX (R88). -/
def execAtomMax (seat : Nat) (wide : Bool) (_ord : BitVec 2) (rd w ra rb : Nat) (s : State) : Host.Outcome State Fault Refusal :=
  .next (atom (fun n a b _ => if sint n a < sint n b then b else a) seat wide rd w ra rb s)
/-- ATOM_MINU (R88). -/
def execAtomMinu (seat : Nat) (wide : Bool) (_ord : BitVec 2) (rd w ra rb : Nat) (s : State) : Host.Outcome State Fault Refusal :=
  .next (atom (fun _ a b _ => min a b) seat wide rd w ra rb s)
/-- ATOM_MAXU (R88). -/
def execAtomMaxu (seat : Nat) (wide : Bool) (_ord : BitVec 2) (rd w ra rb : Nat) (s : State) : Host.Outcome State Fault Refusal :=
  .next (atom (fun _ a b _ => max a b) seat wide rd w ra rb s)
/-- ATOM_CAS: RB when the old value is RD, at the access size (R88). -/
def execAtomCas (seat : Nat) (wide : Bool) (_ord : BitVec 2) (rd w ra rb : Nat) (s : State) : Host.Outcome State Fault Refusal :=
  .next (atom (fun _ a b c => if a = c then b else a) seat wide rd w ra rb s)

/-- LD_AQ: an ordinary load at offset s[RA], sign-extended from 32 bits when SZ is 0 (R88). -/
def execLdAq (seat : Nat) (wide : Bool) (rd w ra : Nat) (s : State) : Host.Outcome State Fault Refusal :=
  .next (issue s seat 4 (fun s =>
    loadAt s seat rd w (atomSize wide) ((s.seat seat).sx ra) (sextBytes (atomSize wide))))

/-- ST_RL: an ordinary store of RB at offset s[RA], after every earlier access of the seat (R88). -/
def execStRl (seat : Nat) (wide : Bool) (w ra rb : Nat) (s : State) : Host.Outcome State Fault Refusal :=
  .next (orderedIssue s seat 4 (fun s =>
    storeAt s seat w (atomSize wide) ((s.seat seat).sx ra) ((s.seat seat).sx rb)))

/-! ### Vector loads and stores (R94) -/

/-- A vector memory instruction: the checks before the accesses, and no effect but the pc with no active element. -/
def vmemIssue (i : Nat) (w : W64) (p : Nat) (ew : BitVec 2) (f : State → List Nat → State) (s : State) : State :=
  issue s i 4 (fun s => zvOnly s i w (fun s =>
    let t := s.seat i
    if t.vl > vcap ew then trap s i 0x0F (BitVec.ofNat 64 t.vl)
    else
      match vactives t p ew with
      | [] => retire s i 4 id
      | act => f s act))

/-- The elements of a load: their bytes are merged into `v`; the first that fails gives its offset and cause. -/
def vloadGo (i w n : Nat) (ew : BitVec 2) (off : Nat → W64) :
    List Nat → State → VReg → Touch → Except (W64 × Nat) (State × VReg × Touch)
  | [], s, v, t => .ok (s, v, t)
  | k :: ks, s, v, t =>
    match seatRead s i w (off k).toNat n n 1 with
    | .error c => .error (off k, c)
    | .ok (bs, s, u) => vloadGo i w n ew off ks s (vput v ew k (leNat bs)) { tags := t.tags ++ u.tags, pages := t.pages ++ u.pages }

/-- A vector load: no element is performed when any fails (R74, R94). -/
def vload (major i vd w ra rb p : Nat) (ew : BitVec 2) (off : Seat → Nat → W64) (s : State) : State :=
  vmemIssue i (wordVM major vd w ra rb p ew.toNat) p ew (fun s act =>
    let t := s.seat i
    let n := esize ew
    match vloadGo i w n ew (off t) act s (t.vx vd) { tags := [], pages := [] } with
    | .error (o, c) => trapAccess s i c w .load n o
    | .ok (s, v, touch) => await s i 4 w (off t (act.headD 0)) .load n touch (.v vd v)) s

/-- The elements of a store, in ascending order: the state so far, whether control space was written, and the first
    failure. -/
def vstoreGo (i w n : Nat) (ew : BitVec 2) (off : Nat → W64) (v : VReg) : List Nat → State → Bool → State × Bool × Option (W64 × Nat)
  | [], s, io => (s, io, none)
  | k :: ks, s, io =>
    match seatWrite s i w (off k).toNat n (leBytes n (velem v ew k)) with
    | .error c => (s, io, some (off k, c))
    | .ok (s, x) => vstoreGo i w n ew off v ks s (io || x)

/-- A vector store: every element below the first that fails is performed (R74, R94). -/
def vstore (major i vd w ra rb p : Nat) (ew : BitVec 2) (off : Seat → Nat → W64) (s : State) : State :=
  vmemIssue i (wordVM major vd w ra rb p ew.toNat) p ew (fun s act =>
    let t := s.seat i
    let n := esize ew
    match vstoreGo i w n ew (off t) (t.vx vd) act s false with
    | (s, _, some (o, c)) => trapAccess s i c w .store n o
    | (s, io, none) => storeOut s i 4 io) s

/-- s[RA] + i × E. -/
def unitOff (ra : Nat) (ew : BitVec 2) (t : Seat) (k : Nat) : W64 := t.sx ra + BitVec.ofNat 64 (k * esize ew)
/-- s[RA] + i × s[RB]. -/
def strideOff (ra rb : Nat) (t : Seat) (k : Nat) : W64 := t.sx ra + BitVec.ofNat 64 k * t.sx rb
/-- s[RA] + vb[i] × E. -/
def indexOff (ra vb : Nat) (ew : BitVec 2) (t : Seat) (k : Nat) : W64 :=
  t.sx ra + BitVec.ofNat 64 (velem (t.vx vb) ew k * esize ew)

/-- VLD (R94). -/
def execVld (seat vd w ra p : Nat) (ew : BitVec 2) (s : State) : Host.Outcome State Fault Refusal :=
  .next (vload 0x24 seat vd w ra 0 p ew (unitOff ra ew) s)
/-- VST (R94). -/
def execVst (seat vd w ra p : Nat) (ew : BitVec 2) (s : State) : Host.Outcome State Fault Refusal :=
  .next (vstore 0x25 seat vd w ra 0 p ew (unitOff ra ew) s)
/-- VLDS (R94). -/
def execVlds (seat vd w ra rb p : Nat) (ew : BitVec 2) (s : State) : Host.Outcome State Fault Refusal :=
  .next (vload 0x26 seat vd w ra rb p ew (strideOff ra rb) s)
/-- VSTS (R94). -/
def execVsts (seat vd w ra rb p : Nat) (ew : BitVec 2) (s : State) : Host.Outcome State Fault Refusal :=
  .next (vstore 0x27 seat vd w ra rb p ew (strideOff ra rb) s)
/-- VLDX (R94). -/
def execVldx (seat vd w ra vb p : Nat) (ew : BitVec 2) (s : State) : Host.Outcome State Fault Refusal :=
  .next (vload 0x28 seat vd w ra vb p ew (indexOff ra vb ew) s)
/-- VSTX (R94). -/
def execVstx (seat vd w ra vb p : Nat) (ew : BitVec 2) (s : State) : Host.Outcome State Fault Refusal :=
  .next (vstore 0x29 seat vd w ra vb p ew (indexOff ra vb ew) s)

/-! ### Descriptors in memory (R98) -/

/-- WLDM: 16 bytes read through w[A] become w[D]; the access checks come first, then own HDOM, then R55. -/
def execWldm (seat wd wa sb : Nat) (s : State) : Host.Outcome State Fault Refusal :=
  .next (issue s seat 4 (fun s =>
    let w := wordW wd wa sb 0x06 0
    hmOnly s seat w (fun s =>
      let t := s.seat seat
      let off := t.sx sb
      match seatRead s seat wa off.toNat 16 16 1 with
      | .error c => trapAccess s seat c wa .load 16 off
      | .ok (bs, s, touch) =>
        let d : Desc := BitVec.ofNat 128 (leNat bs)
        if !ownHdom t d then trap s seat 0x01 w
        else if dValid d && !descInRange (isPlant seat) d then trap s seat 0x08 (BitVec.ofNat 64 (dBase d))
        else await s seat 4 wa off .load 16 touch (.w wd d))))

/-- WSTM: 16 bytes through w[A] become w[D], after the access checks and the own-HDOM check. -/
def execWstm (seat wd wa sb : Nat) (s : State) : Host.Outcome State Fault Refusal :=
  .next (issue s seat 4 (fun s =>
    let w := wordW wd wa sb 0x07 0
    hmOnly s seat w (fun s =>
      let t := s.seat seat
      let off := t.sx sb
      match checkAccess s t (isPlant seat) (t.wx wa) off.toNat 16 16 2 false with
      | some c => trapAccess s seat c wa .store 16 off
      | none =>
        if !ownHdom t (t.wx wd) then trap s seat 0x01 w
        else
          match seatWrite s seat wa off.toNat 16 (leBytes 16 (t.wx wd).toNat) with
          | .error c => trapAccess s seat c wa .store 16 off
          | .ok (s, io) => storeOut s seat 4 io)))

/-! ### Block copy and fill (R101) -/

/-- The bytes a block instruction moves. -/
def blockLen (t : Seat) (rn : Nat) : Nat := min (t.sx rn).toNat 4096

/-- A failure of a block instruction: the window, offset, kind and cause. -/
structure BlockFail where
  win : Nat
  off : W64
  kind : Kind
  cause : Nat
  deriving DecidableEq, Repr

/-- `n` bytes from byte `j`: each is read, then written (R101). A page the read finds uncorrectable fails the byte (R167).
    DESIGN CHOICE (log 20). -/
def copyGo (i wd ws : Nat) (dst src : W64) (errs : PageErrs) : Nat → Nat → State → State × Option BlockFail
  | 0, _, s => (s, none)
  | n + 1, j, s =>
    let so := src + BitVec.ofNat 64 j
    let d := dst + BitVec.ofNat 64 j
    match seatRead s i ws so.toNat 1 1 1 with
    | .error c => (s, some { win := ws, off := so, kind := .load, cause := c })
    | .ok (bs, s, touch) =>
      let here := errs.filter (fun e => touch.pages.contains e.1)
      let s := s.each here pageErr
      if touch.pages.any s.pageBad then (s, some { win := ws, off := so, kind := .load, cause := 0x0B })
      else
        match seatWrite s i wd d.toNat 1 bs with
        | .error c => (s, some { win := wd, off := d, kind := .store, cause := c })
        | .ok (s, _) => copyGo i wd ws dst src (errs.filter (fun e => !touch.pages.contains e.1)) n (j + 1) s

/-- `n` bytes of a fill from byte `j`. DESIGN CHOICE (log 20). -/
def fillGo (i wd : Nat) (dst : W64) (b : Byte) : Nat → Nat → State → State × Option BlockFail
  | 0, _, s => (s, none)
  | n + 1, j, s =>
    let d := dst + BitVec.ofNat 64 j
    match seatWrite s i wd d.toNat 1 [b] with
    | .error c => (s, some { win := wd, off := d, kind := .store, cause := c })
    | .ok (s, _) => fillGo i wd dst b n (j + 1) s

/-- The end of a block instruction: the trap of the failing byte with RD unchanged, or RD := n once all has returned. -/
def blockEnd (r : State × Option BlockFail) (i rd n wd : Nat) (off : W64) : State :=
  match r with
  | (s, some f) => trapAccess s i f.cause f.win f.kind 1 f.off
  | (s, none) => await s i 8 wd off .store 1 { tags := [], pages := [] } (.x rd (BitVec.ofNat 64 n))

/-- BCOPY_L (R101); `errs` are the symbol errors its source pages hold. -/
def execBcopyL (seat rd wd ws rdo rso rn : Nat) (errs : PageErrs) (s : State) : Host.Outcome State Fault Refusal :=
  .next (issue s seat 8 (fun s =>
    let t := s.seat seat
    let n := blockLen t rn
    if n = 0 then retire s seat 8 (fun t => t.setX rd 0)
    else blockEnd (copyGo seat wd ws (t.sx rdo) (t.sx rso) errs n 0 s) seat rd n wd (t.sx rdo)))

/-- BFILL_L (R101). -/
def execBfillL (seat rd wd rdo rv rn : Nat) (s : State) : Host.Outcome State Fault Refusal :=
  .next (issue s seat 8 (fun s =>
    let t := s.seat seat
    let n := blockLen t rn
    if n = 0 then retire s seat 8 (fun t => t.setX rd 0)
    else blockEnd (fillGo seat wd (t.sx rdo) ((t.sx rv).setWidth 8) n 0 s) seat rd n wd (t.sx rdo)))

end Sys2Proof.Machine
end

