-- ==== Sys2Proof/Machine/Nmu.lean ====
section
/-! DEFINITION. The nozzle map unit (R243 to R251), and what it does while its engine shadows another (R308 to R312). -/

namespace Sys2Proof.Machine

/-- Planes. -/
def nmuInks (d : List Byte) : Nat := leAt d 4 1 % 16
/-- WEB. -/
def nmuWeb (d : List Byte) : Nat := leAt d 4 1 / 16 % 4
/-- PELS. -/
def nmuPels (d : List Byte) : Nat := leAt d 6 2
/-- NNOZ. -/
def nmuNnoz (d : List Byte) : Nat := leAt d 8 2
/-- RSTRIDE. -/
def nmuRstride (d : List Byte) : Nat := leAt d 20 4
/-- ELINE0. -/
def nmuEline0 (d : List Byte) : Nat := leAt d 24 8
/-- RING. -/
def nmuRing (d : List Byte) : Nat := leAt d 32 8
/-- RCB. -/
def nmuRcb (d : List Byte) : Nat := leAt d 40 8
/-- BARD of plane `k`. -/
def nmuBard (d : List Byte) (k : Nat) : Nat := leAt d (64 + 4 * k) 4

/-- The descriptor is valid (R251). -/
def nmuValid (w : Work) : Bool :=
  let d := w.desc
  let n := nmuInks d
  decide (7 ≤ leAt d 2 1) && decide (1 ≤ n) && decide (n ≤ 8) && decide (leAt d 4 1 < 64) && zeros d 5 1 &&
  decide (1 ≤ nmuPels d) && decide (1 ≤ nmuNnoz d) && zeros d 10 2 && decide (1 ≤ leAt d 12 4) &&
  leAt d 16 4 % 256 == 0 && decide (n * dstride (nmuPels d) ≤ leAt d 16 4) && nmuRstride d % 256 == 0 &&
  decide (n * dstride (nmuNnoz d) ≤ nmuRstride d) && nmuRing d % 256 == 0 && nmuRcb d % 64 == 0 &&
  leAt d 48 8 % 8 == 0 && zeros d 60 4 && zeros d 96 16 && useOf d 0 == 1 && useOf d 1 == 2 && useOf d 2 == 1 &&
  useOf d 3 == 0 && inSlot (w.slot 1) (nmuRcb d) 64 && inSlot (w.slot 2) (leAt d 48 8) (8 * n * nmuNnoz d)

/-- DCLAMP of an engine (R249). -/
def State.dclamp (s : State) (e : Nat) : State := s.setBit (Reg.SEn_EMU_STATUS e) 2 true

/-- NMU_WORK_START: the descriptor, DEPTH, the ring's place, and ELINE0 against WLINE (R249 to R251). A shadowing NMU
    writes nothing and skips the last check (R308). -/
def execNmuWorkStart (e : Nat) (s : State) : Host.Outcome State Fault Refusal :=
  .next (match s.front e 3 with
    | some w =>
      if w.started then s
      else if !nmuValid w then completeWork s e 3 .desc 0
      else
        let d := w.desc
        match readRcb s w.seat (w.slot 1) (nmuRcb d) with
        | .error st => completeWork s e 3 st 0
        | .ok rcb =>
          match depthOf rcb with
          | none => completeWork s e 3 .desc 0
          | some (depth, clamp) =>
            if !inSlot (w.slot 1) (nmuRing d) (depth * nmuRstride d) ||
                (!s.shadow e && decide (leAt rcb 0 8 < nmuEline0 d)) then completeWork s e 3 .desc 0
            else
              match (if s.shadow e then .ok s else slotWrite s w.seat (w.slot 1) (nmuRcb d + 20) (leBytes 4 depth)) with
              | .error st => completeWork s e 3 st 0
              | .ok s =>
                let s := if clamp then s.dclamp e else s
                let s := s.setEng e { s.eng e with nmuDepth := depth }
                (modWork s e 3 (fun w => { w with started := true })).setBit (Reg.SEn_NMU_STATUS e) 0 true
    | none => s)

/-- One plane of emitter line `y`: codes, lost drops, invalid entries (R243 to R246). -/
def nmuPlane (s : State) (w : Work) (y k : Nat) : Except WorkStatus (List Nat × Nat × Nat) :=
  let d := w.desc
  match nozzleTable s w.seat (w.slot 2) (leAt d 48 8) (nmuNnoz d) k with
  | .error st => .error st
  | .ok zs =>
    match screenedPlane s w.seat (w.slot 0) y (nmuBard d k) (leAt d 12 4) (leAt d 16 4) (nmuPels d) k with
    | .error st => .error st
    | .ok src => .ok (nozzlePlane (nmuPels d) y k (leAt d 56 4) zs src)

/-- Emitter line `y` computed: its bytes, and the state with the drop and entry counts (R245, R246, R262). -/
def nmuCompute (s : State) (e : Nat) (w : Work) (y : Nat) : Except WorkStatus (State × List Byte) :=
  match (List.range (nmuInks w.desc)).mapM (nmuPlane s w y) with
  | .error st => .error st
  | .ok ps =>
    let s := s.count (Reg.SEn_NMU_LOSTDROP e) (ps.foldl (fun a p => a + p.2.1) 0)
    let s := s.count (Reg.SEn_NMU_PCOLERR e) (ps.foldl (fun a p => a + p.2.2) 0)
    .ok (s, ps.flatMap (fun p => padTo (dstride (nmuNnoz w.desc)) (packDrops p.1)))

/-- The next line of the work has been dealt with. -/
def nmuNext (s : State) (e : Nat) (w : Work) : State :=
  let s := (modWork s e 3 (fun w => { w with done := w.done + 1 })).setBit (Reg.SEn_NMU_STATUS e) 1 false
  if w.done + 1 = w.count then endWork s e 3 .ok w.count (Reg.SEn_NMU_STATUS e) else s

/-- The work in progress ends with an error. -/
def nmuFail (s : State) (e : Nat) (w : Work) (st : WorkStatus) : State :=
  (endWork s e 3 st w.done (Reg.SEn_NMU_STATUS e)).setBit (Reg.SEn_NMU_STATUS e) 1 false

/-- Line `y` of an engine that shadows none (R250). -/
def nmuOwn (s : State) (e : Nat) (w : Work) (y wline depth : Nat) : State :=
  let d := w.desc
  if y < wline then
    match nmuCompute s e w y with
    | .error st => nmuFail s e w st
    | .ok (s, _) => nmuNext s e w
  else if (s.reg64 (Reg.POSn_POS_LO (nmuWeb d))).toNat / 2 ^ 16 + depth ≤ y then s.setBit (Reg.SEn_NMU_STATUS e) 1 true
  else
    match nmuCompute s e w y with
    | .error st => nmuFail s e w st
    | .ok (s, line) =>
      match slotWrite s w.seat (w.slot 1) (nmuRing d + (y % depth) * nmuRstride d) line with
      | .error st => nmuFail s e w st
      | .ok s =>
        match slotWrite s w.seat (w.slot 1) (nmuRcb d) (leBytes 8 (y + 1)) with
        | .error st => nmuFail s e w st
        | .ok s => nmuNext (s.countMod (Reg.SEn_NMU_LINES e) 1) e w

/-- Line `y` of an engine that shadows another: computed and compared with the ring slot (R308 to R310, R312). -/
def nmuShadow (s : State) (e : Nat) (w : Work) (y wline depth : Nat) : State :=
  let d := w.desc
  if wline ≤ y then s.setBit (Reg.SEn_NMU_STATUS e) 1 true
  else
    match nmuCompute s e w y with
    | .error st => nmuFail s e w st
    | .ok (s, line) =>
      let skip := decide (y + depth < wline) || (List.range (nmuInks d)).any (fun k =>
        (s.eng e).lcu.skips.any (fun r => decide (r.1 + nmuBard d k ≤ y) && decide (y < r.2 + nmuBard d k)))
      if skip || s.spare.handoff.isSome then nmuNext s e w
      else match slotRead s w.seat (w.slot 1) (nmuRing d + (y % depth) * nmuRstride d) line.length with
        | .error st => nmuFail s e w st
        | .ok slot =>
          if slot = line then
            let s := nmuNext (s.count Reg.SNP_SPR_COMPARED 1) e w
            if s.fld Reg.SNP_SPR_CFG 31 16 ≤ (s.reg Reg.SNP_SPR_COMPARED).toNat then shadowSuccess s else s
          else shadowMismatch (nmuNext (s.count Reg.SNP_SPR_COMPARED 1) e w) y

/-- NMU_LINE: the next emitter line is written, discarded or compared, or the unit waits for the web (R250, R308). -/
def execNmuLine (e : Nat) (s : State) : Host.Outcome State Fault Refusal :=
  .next (match s.front e 3 with
    | some w =>
      if !w.started then s
      else
        let y := nmuEline0 w.desc + w.done
        match readRcb s w.seat (w.slot 1) (nmuRcb w.desc) with
        | .error st => nmuFail s e w st
        | .ok rcb =>
          let depth := (s.eng e).nmuDepth
          if s.shadow e then nmuShadow s e w y (leAt rcb 0 8) depth else nmuOwn s e w y (leAt rcb 0 8) depth
    | none => s)

end Sys2Proof.Machine
end

