-- ==== Sys2Proof/Machine/Scalar.lean ====
section
/-! DEFINITION. Scalar computation and control transfer (R81 to R85). -/

namespace Sys2Proof.Machine

/-- A register operation: RD := f RA RB (R81). -/
def aluRR (i rd ra rb : Nat) (f : W64 → W64 → W64) (s : State) : State :=
  issue s i 4 (fun s => retire s i 4 (fun t => t.setX rd (f (t.sx ra) (t.sx rb))))

/-- An operation of one register: RD := f RA. -/
def aluR (i n rd ra : Nat) (f : W64 → W64) (s : State) : State :=
  issue s i n (fun s => retire s i n (fun t => t.setX rd (f (t.sx ra))))

/-- The most negative 64-bit value, −2^63. -/
def minS64 : W64 := 0x8000000000000000
/-- The most positive signed 64-bit value. -/
def maxS64 : W64 := 0x7FFFFFFFFFFFFFFF

/-- DIV: truncated, saturating at the edges of R82. -/
def divS (a b : W64) : W64 :=
  if b = 0 then (if a.slt 0 then minS64 else maxS64)
  else if a = minS64 && b = BitVec.allOnes 64 then maxS64
  else a.sdiv b
/-- DIVU: a zero divisor gives 2^64 − 1 (R82). -/
def divU (a b : W64) : W64 := if b = 0 then BitVec.allOnes 64 else a / b
/-- REM: 0 at the edges of R82. -/
def remS (a b : W64) : W64 :=
  if b = 0 then 0 else if a = minS64 && b = BitVec.allOnes 64 then 0 else a.srem b
/-- REMU: 0 for a zero divisor (R82). -/
def remU (a b : W64) : W64 := if b = 0 then 0 else a % b

/-- Bits [127:64] of the signed product (R81). -/
def mulHighS (a b : W64) : W64 := BitVec.ofInt 64 ((a.toInt * b.toInt) / 2 ^ 64)
/-- Bits [127:64] of the unsigned product (R81). -/
def mulHighU (a b : W64) : W64 := BitVec.ofNat 64 ((a.toNat * b.toNat) / 2 ^ 64)

/-- 1 for true, 0 for false (R81). -/
def flag64 (b : Bool) : W64 := if b then 1 else 0

/-- The number of leading zero bits below bit `n` (R81). -/
def leadingZeros (a : W64) : Nat → Nat
  | 0 => 0
  | n + 1 => if a.getLsbD n then 0 else 1 + leadingZeros a n

/-- The number of 1 bits below bit `n` (R81). -/
def onesBelow (a : W64) : Nat → Nat
  | 0 => 0
  | n + 1 => b2n (a.getLsbD n) + onesBelow a n

/-- ADD: RD := RA + RB (R81). -/
def execAdd (seat rd ra rb : Nat) (s : State) : Host.Outcome State Fault Refusal :=
  .next (aluRR seat rd ra rb (fun a b => a + b) s)

/-- SUB: RD := RA − RB (R81). -/
def execSub (seat rd ra rb : Nat) (s : State) : Host.Outcome State Fault Refusal :=
  .next (aluRR seat rd ra rb (fun a b => a - b) s)

/-- AND: RD := RA and RB (R81). -/
def execAnd (seat rd ra rb : Nat) (s : State) : Host.Outcome State Fault Refusal :=
  .next (aluRR seat rd ra rb (fun a b => a &&& b) s)

/-- OR: RD := RA or RB (R81). -/
def execOr (seat rd ra rb : Nat) (s : State) : Host.Outcome State Fault Refusal :=
  .next (aluRR seat rd ra rb (fun a b => a ||| b) s)

/-- XOR: RD := RA xor RB (R81). -/
def execXor (seat rd ra rb : Nat) (s : State) : Host.Outcome State Fault Refusal :=
  .next (aluRR seat rd ra rb (fun a b => a ^^^ b) s)

/-- SLL: RD := RA << (RB and 63) (R81). -/
def execSll (seat rd ra rb : Nat) (s : State) : Host.Outcome State Fault Refusal :=
  .next (aluRR seat rd ra rb (fun a b => a <<< (b.toNat % 64)) s)

/-- SRL: RD := RA >> (RB and 63), zero fill (R81). -/
def execSrl (seat rd ra rb : Nat) (s : State) : Host.Outcome State Fault Refusal :=
  .next (aluRR seat rd ra rb (fun a b => a >>> (b.toNat % 64)) s)

/-- SRA: RD := RA >> (RB and 63), sign fill (R81). -/
def execSra (seat rd ra rb : Nat) (s : State) : Host.Outcome State Fault Refusal :=
  .next (aluRR seat rd ra rb (fun a b => a.sshiftRight (b.toNat % 64)) s)

/-- SLT: RD := 1 if RA < RB signed (R81). -/
def execSlt (seat rd ra rb : Nat) (s : State) : Host.Outcome State Fault Refusal :=
  .next (aluRR seat rd ra rb (fun a b => flag64 (a.slt b)) s)

/-- SLTU: RD := 1 if RA < RB unsigned (R81). -/
def execSltu (seat rd ra rb : Nat) (s : State) : Host.Outcome State Fault Refusal :=
  .next (aluRR seat rd ra rb (fun a b => flag64 (a.ult b)) s)

/-- MUL: RD := bits [63:0] of the product (R81). -/
def execMul (seat rd ra rb : Nat) (s : State) : Host.Outcome State Fault Refusal :=
  .next (aluRR seat rd ra rb (fun a b => a * b) s)

/-- MULHS: RD := bits [127:64], signed (R81). -/
def execMulhs (seat rd ra rb : Nat) (s : State) : Host.Outcome State Fault Refusal :=
  .next (aluRR seat rd ra rb (mulHighS) s)

/-- MULHU: RD := bits [127:64], unsigned (R81). -/
def execMulhu (seat rd ra rb : Nat) (s : State) : Host.Outcome State Fault Refusal :=
  .next (aluRR seat rd ra rb (mulHighU) s)

/-- DIV: RD := signed quotient (R82). -/
def execDiv (seat rd ra rb : Nat) (s : State) : Host.Outcome State Fault Refusal :=
  .next (aluRR seat rd ra rb (divS) s)

/-- DIVU: RD := unsigned quotient (R82). -/
def execDivu (seat rd ra rb : Nat) (s : State) : Host.Outcome State Fault Refusal :=
  .next (aluRR seat rd ra rb (divU) s)

/-- REM: RD := signed remainder (R82). -/
def execRem (seat rd ra rb : Nat) (s : State) : Host.Outcome State Fault Refusal :=
  .next (aluRR seat rd ra rb (remS) s)

/-- REMU: RD := unsigned remainder (R82). -/
def execRemu (seat rd ra rb : Nat) (s : State) : Host.Outcome State Fault Refusal :=
  .next (aluRR seat rd ra rb (remU) s)

/-- MIN: RD := signed smaller (R81). -/
def execMin (seat rd ra rb : Nat) (s : State) : Host.Outcome State Fault Refusal :=
  .next (aluRR seat rd ra rb (fun a b => if a.slt b then a else b) s)

/-- MAX: RD := signed larger (R81). -/
def execMax (seat rd ra rb : Nat) (s : State) : Host.Outcome State Fault Refusal :=
  .next (aluRR seat rd ra rb (fun a b => if a.slt b then b else a) s)

/-- MINU: RD := unsigned smaller (R81). -/
def execMinu (seat rd ra rb : Nat) (s : State) : Host.Outcome State Fault Refusal :=
  .next (aluRR seat rd ra rb (fun a b => if a.ult b then a else b) s)

/-- MAXU: RD := unsigned larger (R81). -/
def execMaxu (seat rd ra rb : Nat) (s : State) : Host.Outcome State Fault Refusal :=
  .next (aluRR seat rd ra rb (fun a b => if a.ult b then b else a) s)

/-- CLZ: the leading zero bits of RA (R81). -/
def execClz (seat rd ra : Nat) (s : State) : Host.Outcome State Fault Refusal :=
  .next (aluR seat 4 rd ra (fun a => BitVec.ofNat 64 (leadingZeros a 64)) s)

/-- POPC: the 1 bits of RA (R81). -/
def execPopc (seat rd ra : Nat) (s : State) : Host.Outcome State Fault Refusal :=
  .next (aluR seat 4 rd ra (fun a => BitVec.ofNat 64 (onesBelow a 64)) s)

/-- ADDI: RD := RA + sign-extended IMM (R83). -/
def execAddi (seat rd ra : Nat) (imm : BitVec 16) (s : State) : Host.Outcome State Fault Refusal :=
  .next (aluR seat 4 rd ra (fun a => a + imm.signExtend 64) s)

/-- ANDI: RD := RA and zero-extended IMM (R83). -/
def execAndi (seat rd ra : Nat) (imm : BitVec 16) (s : State) : Host.Outcome State Fault Refusal :=
  .next (aluR seat 4 rd ra (fun a => a &&& imm.zeroExtend 64) s)

/-- ORI: RD := RA or zero-extended IMM (R83). -/
def execOri (seat rd ra : Nat) (imm : BitVec 16) (s : State) : Host.Outcome State Fault Refusal :=
  .next (aluR seat 4 rd ra (fun a => a ||| imm.zeroExtend 64) s)

/-- XORI: RD := RA xor zero-extended IMM (R83). -/
def execXori (seat rd ra : Nat) (imm : BitVec 16) (s : State) : Host.Outcome State Fault Refusal :=
  .next (aluR seat 4 rd ra (fun a => a ^^^ imm.zeroExtend 64) s)

/-- SLTI: RD := 1 if RA < sign-extended IMM, signed (R83). -/
def execSlti (seat rd ra : Nat) (imm : BitVec 16) (s : State) : Host.Outcome State Fault Refusal :=
  .next (aluR seat 4 rd ra (fun a => flag64 (a.slt (imm.signExtend 64))) s)

/-- SLTIU: RD := 1 if RA < sign-extended IMM, unsigned (R83). -/
def execSltiu (seat rd ra : Nat) (imm : BitVec 16) (s : State) : Host.Outcome State Fault Refusal :=
  .next (aluR seat 4 rd ra (fun a => flag64 (a.ult (imm.signExtend 64))) s)

/-- SLLI: RA shifted by IMM[5:0] (R83). -/
def execSlli (seat rd ra : Nat) (amount : BitVec 6) (s : State) : Host.Outcome State Fault Refusal :=
  .next (aluR seat 4 rd ra (fun a => a <<< amount.toNat) s)

/-- SRLI: RA shifted by IMM[5:0] (R83). -/
def execSrli (seat rd ra : Nat) (amount : BitVec 6) (s : State) : Host.Outcome State Fault Refusal :=
  .next (aluR seat 4 rd ra (fun a => a >>> amount.toNat) s)

/-- SRAI: RA shifted by IMM[5:0] (R83). -/
def execSrai (seat rd ra : Nat) (amount : BitVec 6) (s : State) : Host.Outcome State Fault Refusal :=
  .next (aluR seat 4 rd ra (fun a => a.sshiftRight amount.toNat) s)

/-- LUI: RD := sign-extended IMM << 16 (R83). -/
def execLui (seat rd : Nat) (imm : BitVec 16) (s : State) : Host.Outcome State Fault Refusal :=
  .next (aluR seat 4 rd 0 (fun _ => imm.signExtend 64 <<< 16) s)

/-- LI.L: RD := sign-extended imm32 (R83). -/
def execLiL (seat rd : Nat) (imm : BitVec 32) (s : State) : Host.Outcome State Fault Refusal :=
  .next (aluR seat 8 rd 0 (fun _ => imm.signExtend 64) s)

/-- LIH.L: bits [63:32] of RD become imm32 (R83). -/
def execLihL (seat rd : Nat) (imm : BitVec 32) (s : State) : Host.Outcome State Fault Refusal :=
  .next (aluR seat 8 rd rd (fun a => imm ++ a.truncate 32) s)

/-- ADDI.L: RD := RA + sign-extended imm32 (R83). -/
def execAddiL (seat rd ra : Nat) (imm : BitVec 32) (s : State) : Host.Outcome State Fault Refusal :=
  .next (aluR seat 8 rd ra (fun a => a + imm.signExtend 64) s)

/-- A conditional branch: pc := pc + OFF × 4 when the condition holds, else the next instruction (R84). -/
def branch (i ra rb : Nat) (off : BitVec 16) (c : W64 → W64 → Bool) (s : State) : State :=
  issue s i 4 (fun s => s.modSeat i (fun t =>
    if c (t.sx ra) (t.sx rb) then { t with pc := t.pc + off.signExtend 40 * 4 } else t.advance 4))

/-- BEQ: branch when equal (R84). -/
def execBeq (seat ra rb : Nat) (off : BitVec 16) (s : State) : Host.Outcome State Fault Refusal :=
  .next (branch seat ra rb off (fun a b => a == b) s)

/-- BNE: branch when different (R84). -/
def execBne (seat ra rb : Nat) (off : BitVec 16) (s : State) : Host.Outcome State Fault Refusal :=
  .next (branch seat ra rb off (fun a b => a != b) s)

/-- BLT: branch when RA < RB signed (R84). -/
def execBlt (seat ra rb : Nat) (off : BitVec 16) (s : State) : Host.Outcome State Fault Refusal :=
  .next (branch seat ra rb off (fun a b => a.slt b) s)

/-- BGE: branch when RA ≥ RB signed (R84). -/
def execBge (seat ra rb : Nat) (off : BitVec 16) (s : State) : Host.Outcome State Fault Refusal :=
  .next (branch seat ra rb off (fun a b => !(a.slt b)) s)

/-- BLTU: branch when RA < RB unsigned (R84). -/
def execBltu (seat ra rb : Nat) (off : BitVec 16) (s : State) : Host.Outcome State Fault Refusal :=
  .next (branch seat ra rb off (fun a b => a.ult b) s)

/-- BGEU: branch when RA ≥ RB unsigned (R84). -/
def execBgeu (seat ra rb : Nat) (off : BitVec 16) (s : State) : Host.Outcome State Fault Refusal :=
  .next (branch seat ra rb off (fun a b => !(a.ult b)) s)

/-- A 40-bit pc as a scalar value. -/
def pcValue (p : Pc) : W64 := BitVec.ofNat 64 p.toNat

/-- JAL: RD := pc + 4; pc := pc + OFF × 4 (R84). -/
def execJal (seat rd : Nat) (off : BitVec 21) (s : State) : Host.Outcome State Fault Refusal :=
  .next (issue s seat 4 (fun s => s.modSeat seat (fun t =>
    { t.setX rd (pcValue (t.pc + 4)) with pc := t.pc + off.signExtend 40 * 4 })))

/-- JALR: to RA + IMM modulo 2^40; a misaligned target takes MISALIGNED_FETCH with TVAL the target (R85). -/
def execJalr (seat rd ra : Nat) (imm : BitVec 16) (s : State) : Host.Outcome State Fault Refusal :=
  .next (issue s seat 4 (fun s =>
    let tgt : Pc := BitVec.ofNat 40 ((s.seat seat).sx ra + imm.signExtend 64).toNat
    if tgt.toNat % 4 ≠ 0 then trap s seat 0x03 (pcValue tgt)
    else s.modSeat seat (fun t => { t.setX rd (pcValue (t.pc + 4)) with pc := tgt })))

end Sys2Proof.Machine
end

