-- ==== Sys2Proof/Machine/Scu.lean ====
section
/-! DEFINITION. The screening unit (R233 to R242). -/

namespace Sys2Proof.Machine

/-- Fields of an SCU descriptor (R242). -/
def scuInks (d : List Byte) : Nat := leAt d 4 1 % 16
/-- PELS. -/
def scuPels (d : List Byte) : Nat := leAt d 6 2
/-- LINE0. -/
def scuLine0 (d : List Byte) : Nat := leAt d 8 8
/-- STATE. -/
def scuState (d : List Byte) : Nat := leAt d 40 8
/-- CKPT0 or CKPT1. -/
def scuCkpt (d : List Byte) (b : Nat) : Nat := leAt d (48 + 8 * b) 8
/-- ESTRIDE of R237. -/
def estride (pels : Nat) : Nat := up256 (4 * pels)
/-- Bytes of a state or checkpoint buffer. -/
def scuBufLen (d : List Byte) : Nat := 256 + scuInks d * estride (scuPels d)

/-- A plane entry (R242). -/
structure ScuPlane where
  mode : Nat
  tawl : Nat
  tahl : Nat
  jit : Nat
  lv : List Nat
  th : List Nat
  taxoff : Nat
  tabase : Nat
  deriving DecidableEq, Repr

/-- Plane entry `k`. -/
def scuPlane (d : List Byte) (k : Nat) : ScuPlane :=
  let g (o n : Nat) := leAt d (64 + 32 * k + o) n
  { mode := g 0 1, tawl := g 1 1 % 16, tahl := g 1 1 / 16, jit := g 2 2, lv := [0, g 4 2, g 6 2, g 8 2],
    th := [0, g 10 2, g 12 2, g 14 2], taxoff := g 16 4, tabase := g 24 8 }

/-- The planes of a descriptor. -/
def scuPlanes (d : List Byte) : List ScuPlane := (List.range (scuInks d)).map (scuPlane d)

/-- A plane entry is within its ranges. DEDUCED (log 51). -/
def scuPlaneValid (w : Work) (k : Nat) : Bool :=
  let p := scuPlane w.desc k
  decide (p.mode ≤ 2) && decide (p.jit ≤ 32767) && zeros w.desc (64 + 32 * k + 20) 4 && p.tabase % 8 == 0 &&
  (p.mode != 2 || (decide (4 ≤ p.tawl) && decide (p.tawl ≤ 9) && decide (4 ≤ p.tahl) && decide (p.tahl ≤ 9) &&
    inSlot (w.slot 3) p.tabase (8 * 2 ^ (p.tawl + p.tahl))))

/-- The descriptor is valid (R242). DEDUCED (log 51). -/
def scuValid (w : Work) : Bool :=
  let d := w.desc
  let n := scuInks d
  let ta := (scuPlanes d).any (fun p => p.mode == 2)
  decide (1 ≤ n) && decide (n ≤ 8) && leAt d 4 1 / 16 == 0 && decide (leAt d 5 1 ≤ 1) && decide (1 ≤ scuPels d) &&
  decide (4 + 2 * n ≤ leAt d 2 1) && decide (1 ≤ leAt d 16 2) && zeros d 18 2 && leAt d 20 4 % 256 == 0 &&
  decide (n * pstride (scuPels d) ≤ leAt d 20 4) && decide (1 ≤ leAt d 28 4) && leAt d 32 4 % 256 == 0 &&
  decide (n * dstride (scuPels d) ≤ leAt d 32 4) && scuState d % 256 == 0 && scuCkpt d 0 % 256 == 0 &&
  scuCkpt d 1 % 256 == 0 && useOf d 0 == 1 && useOf d 1 == 2 && useOf d 2 == 2 && useOf d 3 == b2n ta &&
  (!ta || dLoc (w.slot 3)) && inSlot (w.slot 2) (scuState d) (scuBufLen d) &&
  inSlot (w.slot 2) (scuCkpt d 0) (scuBufLen d) && inSlot (w.slot 2) (scuCkpt d 1) (scuBufLen d) &&
  (List.range n).all (scuPlaneValid w)

/-- The work has an ED plane. -/
def scuHasEd (d : List Byte) : Bool := (scuPlanes d).any (fun p => p.mode == 1)

/-- A fresh state's LAST (R237). -/
def freshState : Nat := 2 ^ 64 - 1

/-- R237 lets a work with these header bytes proceed. -/
def scuMayRun (d hdr : List Byte) : Bool :=
  leAt hdr 0 8 == freshState ||
  ((leAt hdr 0 8 + 1) % 2 ^ 64 == scuLine0 d && leAt hdr 8 2 == scuPels d && leAt hdr 10 1 == scuInks d)

/-- SCU_WORK_START: the checks of R242 and R237. -/
def execScuWorkStart (e : Nat) (s : State) : Host.Outcome State Fault Refusal :=
  .next (match s.front e 2 with
    | some w =>
      if w.started then s
      else if !scuValid w then completeWork s e 2 .desc 0
      else
        let go := (modWork s e 2 (fun w => { w with started := true })).setBit (Reg.SEn_SCU_STATUS e) 0 true
        if !scuHasEd w.desc then go
        else match slotRead s w.seat (w.slot 2) (scuState w.desc) 16 with
          | .error st => completeWork s e 2 st 0
          | .ok hdr => if scuMayRun w.desc hdr then go else completeWork s e 2 .desc 0
    | none => s)

/-! ### Error diffusion (R236) -/

/-- An s32 result. -/
def s32 (v : Int) : Int := sint 32 (uint 32 v)

/-- The largest m in 1 to 3 with `f m`, or 0. -/
def largest3 (f : Nat → Bool) : Nat := if f 3 then 3 else if f 2 then 2 else if f 1 then 1 else 0

/-- The scan of one ED line: positions with their ink value and carry, in scan order; answers codes and errors. -/
def edScan (p : ScuPlane) (y seed : Nat) : Int → List (Nat × Nat × Int) → List (Nat × Int)
  | _, [] => []
  | r, (x, v, c) :: l =>
    let xv := s32 ((v : Int) + s32 (s32 (c + r) + 8) / 16)
    let j := ((hash8 y x seed : Int) - 128) * p.jit / 128
    let q := largest3 (fun m => decide (((p.th[m]?).getD 0 : Nat) + j ≤ xv))
    let e := clampInt (-65536) 65535 (s32 (xv - ((p.lv[q]?).getD 0 : Nat)))
    (q, e) :: edScan p y seed (7 * e) l

/-- The carry row written back, in scan order, from the errors: pel `j` gets the error of `j − 1`, five times its own and
    three times that of `j + 1`. -/
def carryRow : Int → List Int → List Int
  | _, [] => []
  | prev, e :: l => s32 (prev + 5 * e + 3 * l.headD 0) :: carryRow e l

/-- One ED plane of a line: drop codes and the new carry row. -/
def edLine (p : ScuPlane) (serp : Bool) (y seed : Nat) (v : List Nat) (c : List Int) : List Nat × List Int :=
  let pels := (List.zipWith (fun a b => (a, b)) v c).zipIdx.map (fun x => (x.2, x.1.1, x.1.2))
  if serp && y % 2 == 1 then
    let r := edScan p y seed 0 pels.reverse
    ((r.map (fun x => x.1)).reverse, (carryRow 0 (r.map (fun x => x.2))).reverse)
  else
    let r := edScan p y seed 0 pels
    (r.map (fun x => x.1), carryRow 0 (r.map (fun x => x.2)))

/-- A carry row's bytes. -/
def rowBytes (c : List Int) : List Byte := c.flatMap (fun v => leBytes 4 (uint 32 v))
/-- `n` carries from a row's bytes. -/
def rowOf (n : Nat) (bs : List Byte) : List Int := (List.range n).map (fun i => sint 32 (leAt bs (4 * i) 4))

/-- One TA plane of a line (R238). -/
def taLine (s : State) (w : Work) (p : ScuPlane) (y : Nat) (v : List Nat) : Except WorkStatus (List Nat) :=
  v.zipIdx.mapM (fun x =>
    let u := (x.2 + p.taxoff) % 2 ^ p.tawl
    match slotRead s w.seat (w.slot 3) (p.tabase + 8 * ((y % 2 ^ p.tahl) * 2 ^ p.tawl + u)) 6 with
    | .ok bs => .ok (largest3 (fun m => decide (leAt bs (2 * (m - 1)) 2 < x.1)))
    | .error e => .error e)

/-- Carry row `k` as the state buffer holds it; a fresh state's rows read 0 (R237). DEDUCED (log 51). -/
def scuRow (s : State) (w : Work) (k : Nat) : Except WorkStatus (List Int) :=
  let d := w.desc
  match slotRead s w.seat (w.slot 2) (scuState d) 8 with
  | .error e => .error e
  | .ok hdr =>
    if leNat hdr = freshState then .ok (List.replicate (scuPels d) 0)
    else match slotRead s w.seat (w.slot 2) (scuState d + 256 + k * estride (scuPels d)) (4 * scuPels d) with
      | .ok bs => .ok (rowOf (scuPels d) bs)
      | .error e => .error e

/-- Plane `k` of a line screened: its codes, and for ED its new carry row. -/
def screenPlane (s : State) (w : Work) (y k : Nat) (p : ScuPlane) (v : List Nat) :
    Except WorkStatus (List Nat × Option (List Int)) :=
  let d := w.desc
  match p.mode with
  | 0 => .ok (List.replicate (scuPels d) 0, none)
  | 1 =>
    match scuRow s w k with
    | .error e => .error e
    | .ok c =>
      let (q, n) := edLine p (leAt d 5 1 == 1) y (planeSeed (leAt d 36 4) k 0) v c
      .ok (q, some n)
  | _ =>
    match taLine s w p y v with
    | .ok q => .ok (q, none)
    | .error e => .error e

/-- A header of a state or checkpoint buffer (R237, R240). -/
def scuHeader (d : List Byte) (y time : Nat) : List Byte :=
  padTo 256 (leBytes 8 y ++ leBytes 2 (scuPels d) ++ leBytes 1 (scuInks d) ++ List.replicate 5 0 ++ leBytes 8 time)

/-- Carry rows written at a buffer, then its header (R237, R240). -/
def writeRows (s : State) (w : Work) (base : Nat) (hdr : List Byte) : List (Nat × List Int) → Except WorkStatus State
  | [] => slotWrite s w.seat (w.slot 2) base hdr
  | (k, r) :: l =>
    match slotWrite s w.seat (w.slot 2) (base + 256 + k * estride (scuPels w.desc)) (rowBytes r) with
    | .ok s => writeRows s w base hdr l
    | .error e => .error e

/-- The rows of a checkpoint: those the line has just written, and of other planes those the state holds.
    DEDUCED (log 51). -/
def checkpointRows (s : State) (w : Work) (rows : List (Option (List Int))) : Except WorkStatus (List (Nat × List Int)) :=
  rows.zipIdx.mapM (fun x =>
    match x.1 with
    | some r => .ok (x.2, r)
    | none => match scuRow s w x.2 with
      | .ok r => .ok (x.2, r)
      | .error e => .error e)

/-- A line checkpoint after print line `y`, or CKERR and the engine's source (R240, R241, R263). -/
def checkpoint (s : State) (e : Nat) (w : Work) (y : Nat) (rows : List (Option (List Int))) : State :=
  let base := scuCkpt w.desc ((y + 1) / 1024 % 2)
  let fail (s : State) :=
    let s := raise (s.setBit (Reg.SEn_SCU_STATUS e) 1 true) e 1 true
    s.setEng e { s.eng e with ckLive := true }
  match checkpointRows s w rows with
  | .error _ => fail s
  | .ok rs =>
    match writeRows s w base (scuHeader w.desc y s.ringTime.toNat) rs with
    | .error _ => fail s
    | .ok s =>
      let s := s.setReg64 (Reg.SEn_SCU_CKLINE_LO e) (BitVec.ofNat 64 y)
      engineCalm (s.setEng e { s.eng e with ckLive := false }) e

/-- The ink line of a work's next line as INKS planes of values. -/
def inkLine (s : State) (w : Work) : Except WorkStatus (List (List Nat)) :=
  let d := w.desc
  let ps := pstride (scuPels d)
  match slotRead s w.seat (w.slot 0) (((leAt d 24 4 + w.done) % leAt d 16 2) * leAt d 20 4) (scuInks d * ps) with
  | .ok bs => .ok ((List.range (scuInks d)).map (fun k => pels16 (scuPels d) (bs.drop (k * ps))))
  | .error e => .error e

/-- One line screened and written with its carry rows: the new state, and the new rows (R234, R237). -/
def screenLine (s : State) (w : Work) (y : Nat) : Except WorkStatus (State × List (Option (List Int))) :=
  let d := w.desc
  match inkLine s w with
  | .error e => .error e
  | .ok inks =>
    match (List.zipWith (fun p v => (p, v)) (scuPlanes d) inks).zipIdx.mapM
        (fun x => screenPlane s w y x.2 x.1.1 x.1.2) with
    | .error e => .error e
    | .ok r =>
      let line := r.flatMap (fun q => padTo (dstride (scuPels d)) (packDrops q.1))
      match slotWrite s w.seat (w.slot 1) ((y % leAt d 28 4) * leAt d 32 4) line with
      | .error e => .error e
      | .ok s =>
        let rows := r.map (fun q => q.2)
        if scuHasEd d then
          match writeRows s w (scuState d) (scuHeader d y 0)
              (rows.zipIdx.filterMap (fun x => x.1.map (fun c => (x.2, c)))) with
          | .error e => .error e
          | .ok s => .ok (s, rows)
        else .ok (s, rows)

/-- SCU_LINE: one line is screened, with its checkpoint where one is due; the last one completes the work. -/
def execScuLine (e : Nat) (s : State) : Host.Outcome State Fault Refusal :=
  .next (match s.front e 2 with
    | some w =>
      if !w.started then s
      else
        let y := (scuLine0 w.desc + w.done) % 2 ^ 64
        match screenLine s w y with
        | .error st => endWork s e 2 st w.done (Reg.SEn_SCU_STATUS e)
        | .ok (s, rows) =>
          let s := (modWork s e 2 (fun w => { w with done := w.done + 1 })).countMod (Reg.SEn_SCU_LINES e) 1
          let s := if (y + 1) % 1024 = 0 then checkpoint s e w y rows else s
          if w.done + 1 = w.count then endWork s e 2 .ok w.count (Reg.SEn_SCU_STATUS e) else s
    | none => s)

end Sys2Proof.Machine
end

