-- ==== Sys2Proof/Machine/Dispatch.lean ====
section
/-! DEFINITION. The dispatch of commands: one arm per constructor, each a direct call of its meaning. -/

namespace Sys2Proof.Machine

def exec (i : Instr) (s : State) : Host.Outcome State Fault Refusal :=
  match i with
  | .registerWrite who addr value => Sys2Proof.Machine.execRegisterWrite who addr value s
  | .reg64LowRead who addr => Sys2Proof.Machine.execReg64LowRead who addr s
  | .pairFirstWrite who addr value => Sys2Proof.Machine.execPairFirstWrite who addr value s
  | .pairSecondWrite who addr value => Sys2Proof.Machine.execPairSecondWrite who addr value s
  | .channelWordSend near far word => Sys2Proof.Machine.execChannelWordSend near far word s
  | .channelTimeout near far expecting posted allPorts => Sys2Proof.Machine.execChannelTimeout near far expecting posted allPorts s
  | .add seat rd ra rb => Sys2Proof.Machine.execAdd seat rd ra rb s
  | .sub seat rd ra rb => Sys2Proof.Machine.execSub seat rd ra rb s
  | .and seat rd ra rb => Sys2Proof.Machine.execAnd seat rd ra rb s
  | .or seat rd ra rb => Sys2Proof.Machine.execOr seat rd ra rb s
  | .xor seat rd ra rb => Sys2Proof.Machine.execXor seat rd ra rb s
  | .sll seat rd ra rb => Sys2Proof.Machine.execSll seat rd ra rb s
  | .srl seat rd ra rb => Sys2Proof.Machine.execSrl seat rd ra rb s
  | .sra seat rd ra rb => Sys2Proof.Machine.execSra seat rd ra rb s
  | .slt seat rd ra rb => Sys2Proof.Machine.execSlt seat rd ra rb s
  | .sltu seat rd ra rb => Sys2Proof.Machine.execSltu seat rd ra rb s
  | .mul seat rd ra rb => Sys2Proof.Machine.execMul seat rd ra rb s
  | .mulhs seat rd ra rb => Sys2Proof.Machine.execMulhs seat rd ra rb s
  | .mulhu seat rd ra rb => Sys2Proof.Machine.execMulhu seat rd ra rb s
  | .div seat rd ra rb => Sys2Proof.Machine.execDiv seat rd ra rb s
  | .divu seat rd ra rb => Sys2Proof.Machine.execDivu seat rd ra rb s
  | .rem seat rd ra rb => Sys2Proof.Machine.execRem seat rd ra rb s
  | .remu seat rd ra rb => Sys2Proof.Machine.execRemu seat rd ra rb s
  | .min seat rd ra rb => Sys2Proof.Machine.execMin seat rd ra rb s
  | .max seat rd ra rb => Sys2Proof.Machine.execMax seat rd ra rb s
  | .minu seat rd ra rb => Sys2Proof.Machine.execMinu seat rd ra rb s
  | .maxu seat rd ra rb => Sys2Proof.Machine.execMaxu seat rd ra rb s
  | .clz seat rd ra => Sys2Proof.Machine.execClz seat rd ra s
  | .popc seat rd ra => Sys2Proof.Machine.execPopc seat rd ra s
  | .addi seat rd ra imm => Sys2Proof.Machine.execAddi seat rd ra imm s
  | .andi seat rd ra imm => Sys2Proof.Machine.execAndi seat rd ra imm s
  | .ori seat rd ra imm => Sys2Proof.Machine.execOri seat rd ra imm s
  | .xori seat rd ra imm => Sys2Proof.Machine.execXori seat rd ra imm s
  | .slli seat rd ra amount => Sys2Proof.Machine.execSlli seat rd ra amount s
  | .srli seat rd ra amount => Sys2Proof.Machine.execSrli seat rd ra amount s
  | .srai seat rd ra amount => Sys2Proof.Machine.execSrai seat rd ra amount s
  | .slti seat rd ra imm => Sys2Proof.Machine.execSlti seat rd ra imm s
  | .sltiu seat rd ra imm => Sys2Proof.Machine.execSltiu seat rd ra imm s
  | .lui seat rd imm => Sys2Proof.Machine.execLui seat rd imm s
  | .liL seat rd imm => Sys2Proof.Machine.execLiL seat rd imm s
  | .lihL seat rd imm => Sys2Proof.Machine.execLihL seat rd imm s
  | .addiL seat rd ra imm => Sys2Proof.Machine.execAddiL seat rd ra imm s
  | .beq seat ra rb off => Sys2Proof.Machine.execBeq seat ra rb off s
  | .bne seat ra rb off => Sys2Proof.Machine.execBne seat ra rb off s
  | .blt seat ra rb off => Sys2Proof.Machine.execBlt seat ra rb off s
  | .bge seat ra rb off => Sys2Proof.Machine.execBge seat ra rb off s
  | .bltu seat ra rb off => Sys2Proof.Machine.execBltu seat ra rb off s
  | .bgeu seat ra rb off => Sys2Proof.Machine.execBgeu seat ra rb off s
  | .jal seat rd off => Sys2Proof.Machine.execJal seat rd off s
  | .jalr seat rd ra imm => Sys2Proof.Machine.execJalr seat rd ra imm s
  | .ldb seat rd w ra imm => Sys2Proof.Machine.execLdb seat rd w ra imm s
  | .ldh seat rd w ra imm => Sys2Proof.Machine.execLdh seat rd w ra imm s
  | .ldw seat rd w ra imm => Sys2Proof.Machine.execLdw seat rd w ra imm s
  | .ldd seat rd w ra imm => Sys2Proof.Machine.execLdd seat rd w ra imm s
  | .ldbs seat rd w ra imm => Sys2Proof.Machine.execLdbs seat rd w ra imm s
  | .ldhs seat rd w ra imm => Sys2Proof.Machine.execLdhs seat rd w ra imm s
  | .ldws seat rd w ra imm => Sys2Proof.Machine.execLdws seat rd w ra imm s
  | .stb seat rs w ra imm => Sys2Proof.Machine.execStb seat rs w ra imm s
  | .sth seat rs w ra imm => Sys2Proof.Machine.execSth seat rs w ra imm s
  | .stw seat rs w ra imm => Sys2Proof.Machine.execStw seat rs w ra imm s
  | .std seat rs w ra imm => Sys2Proof.Machine.execStd seat rs w ra imm s
  | .atomSwap seat wide ord rd w ra rb => Sys2Proof.Machine.execAtomSwap seat wide ord rd w ra rb s
  | .atomAdd seat wide ord rd w ra rb => Sys2Proof.Machine.execAtomAdd seat wide ord rd w ra rb s
  | .atomAnd seat wide ord rd w ra rb => Sys2Proof.Machine.execAtomAnd seat wide ord rd w ra rb s
  | .atomOr seat wide ord rd w ra rb => Sys2Proof.Machine.execAtomOr seat wide ord rd w ra rb s
  | .atomXor seat wide ord rd w ra rb => Sys2Proof.Machine.execAtomXor seat wide ord rd w ra rb s
  | .atomMin seat wide ord rd w ra rb => Sys2Proof.Machine.execAtomMin seat wide ord rd w ra rb s
  | .atomMax seat wide ord rd w ra rb => Sys2Proof.Machine.execAtomMax seat wide ord rd w ra rb s
  | .atomMinu seat wide ord rd w ra rb => Sys2Proof.Machine.execAtomMinu seat wide ord rd w ra rb s
  | .atomMaxu seat wide ord rd w ra rb => Sys2Proof.Machine.execAtomMaxu seat wide ord rd w ra rb s
  | .atomCas seat wide ord rd w ra rb => Sys2Proof.Machine.execAtomCas seat wide ord rd w ra rb s
  | .ldAq seat wide rd w ra => Sys2Proof.Machine.execLdAq seat wide rd w ra s
  | .stRl seat wide w ra rb => Sys2Proof.Machine.execStRl seat wide w ra rb s
  | .vadd seat vd va vb p ew => Sys2Proof.Machine.execVadd seat vd va vb p ew s
  | .vsub seat vd va vb p ew => Sys2Proof.Machine.execVsub seat vd va vb p ew s
  | .vmul seat vd va vb p ew => Sys2Proof.Machine.execVmul seat vd va vb p ew s
  | .vmulh seat vd va vb p ew => Sys2Proof.Machine.execVmulh seat vd va vb p ew s
  | .vmulhu seat vd va vb p ew => Sys2Proof.Machine.execVmulhu seat vd va vb p ew s
  | .vand seat vd va vb p ew => Sys2Proof.Machine.execVand seat vd va vb p ew s
  | .vor seat vd va vb p ew => Sys2Proof.Machine.execVor seat vd va vb p ew s
  | .vxor seat vd va vb p ew => Sys2Proof.Machine.execVxor seat vd va vb p ew s
  | .vsll seat vd va vb p ew => Sys2Proof.Machine.execVsll seat vd va vb p ew s
  | .vsrl seat vd va vb p ew => Sys2Proof.Machine.execVsrl seat vd va vb p ew s
  | .vsra seat vd va vb p ew => Sys2Proof.Machine.execVsra seat vd va vb p ew s
  | .vmin seat vd va vb p ew => Sys2Proof.Machine.execVmin seat vd va vb p ew s
  | .vmax seat vd va vb p ew => Sys2Proof.Machine.execVmax seat vd va vb p ew s
  | .vminu seat vd va vb p ew => Sys2Proof.Machine.execVminu seat vd va vb p ew s
  | .vmaxu seat vd va vb p ew => Sys2Proof.Machine.execVmaxu seat vd va vb p ew s
  | .vaddss seat vd va vb p ew => Sys2Proof.Machine.execVaddss seat vd va vb p ew s
  | .vaddsu seat vd va vb p ew => Sys2Proof.Machine.execVaddsu seat vd va vb p ew s
  | .vsubss seat vd va vb p ew => Sys2Proof.Machine.execVsubss seat vd va vb p ew s
  | .vsubsu seat vd va vb p ew => Sys2Proof.Machine.execVsubsu seat vd va vb p ew s
  | .vavgu seat vd va vb p ew => Sys2Proof.Machine.execVavgu seat vd va vb p ew s
  | .vabsdu seat vd va vb p ew => Sys2Proof.Machine.execVabsdu seat vd va vb p ew s
  | .vcmpEq seat pd va vb p ew => Sys2Proof.Machine.execVcmpEq seat pd va vb p ew s
  | .vcmpNe seat pd va vb p ew => Sys2Proof.Machine.execVcmpNe seat pd va vb p ew s
  | .vcmpLt seat pd va vb p ew => Sys2Proof.Machine.execVcmpLt seat pd va vb p ew s
  | .vcmpGe seat pd va vb p ew => Sys2Proof.Machine.execVcmpGe seat pd va vb p ew s
  | .vcmpLtu seat pd va vb p ew => Sys2Proof.Machine.execVcmpLtu seat pd va vb p ew s
  | .vcmpGeu seat pd va vb p ew => Sys2Proof.Machine.execVcmpGeu seat pd va vb p ew s
  | .vmv seat vd va p ew => Sys2Proof.Machine.execVmv seat vd va p ew s
  | .vbcast seat vd sa p ew => Sys2Proof.Machine.execVbcast seat vd sa p ew s
  | .vext seat sd va sb p ew => Sys2Proof.Machine.execVext seat sd va sb p ew s
  | .vins seat vd sa sb p ew => Sys2Proof.Machine.execVins seat vd sa sb p ew s
  | .vslideup seat vd va sb p ew => Sys2Proof.Machine.execVslideup seat vd va sb p ew s
  | .vslidedn seat vd va sb p ew => Sys2Proof.Machine.execVslidedn seat vd va sb p ew s
  | .vperm seat vd va vb p ew => Sys2Proof.Machine.execVperm seat vd va vb p ew s
  | .vredsum seat sd va p ew => Sys2Proof.Machine.execVredsum seat sd va p ew s
  | .vredsumu seat sd va p ew => Sys2Proof.Machine.execVredsumu seat sd va p ew s
  | .vredmin seat sd va p ew => Sys2Proof.Machine.execVredmin seat sd va p ew s
  | .vredmax seat sd va p ew => Sys2Proof.Machine.execVredmax seat sd va p ew s
  | .vredminu seat sd va p ew => Sys2Proof.Machine.execVredminu seat sd va p ew s
  | .vredmaxu seat sd va p ew => Sys2Proof.Machine.execVredmaxu seat sd va p ew s
  | .vmulsrL seat vd va vb p ew sh uns sat => Sys2Proof.Machine.execVmulsrL seat vd va vb p ew sh uns sat s
  | .vld seat vd w ra p ew => Sys2Proof.Machine.execVld seat vd w ra p ew s
  | .vst seat vd w ra p ew => Sys2Proof.Machine.execVst seat vd w ra p ew s
  | .vlds seat vd w ra rb p ew => Sys2Proof.Machine.execVlds seat vd w ra rb p ew s
  | .vsts seat vd w ra rb p ew => Sys2Proof.Machine.execVsts seat vd w ra rb p ew s
  | .vldx seat vd w ra vb p ew => Sys2Proof.Machine.execVldx seat vd w ra vb p ew s
  | .vstx seat vd w ra vb p ew => Sys2Proof.Machine.execVstx seat vd w ra vb p ew s
  | .pand seat pd pa pb => Sys2Proof.Machine.execPand seat pd pa pb s
  | .por seat pd pa pb => Sys2Proof.Machine.execPor seat pd pa pb s
  | .pxor seat pd pa pb => Sys2Proof.Machine.execPxor seat pd pa pb s
  | .pandn seat pd pa pb => Sys2Proof.Machine.execPandn seat pd pa pb s
  | .pnot seat pd pa => Sys2Proof.Machine.execPnot seat pd pa s
  | .pset seat pd => Sys2Proof.Machine.execPset seat pd s
  | .pclr seat pd => Sys2Proof.Machine.execPclr seat pd s
  | .pcnt seat sd pa ew => Sys2Proof.Machine.execPcnt seat sd pa ew s
  | .pfirst seat sd pa ew => Sys2Proof.Machine.execPfirst seat sd pa ew s
  | .setvl seat rd ra ew => Sys2Proof.Machine.execSetvl seat rd ra ew s
  | .wsub seat wd ws rb rc mask => Sys2Proof.Machine.execWsub seat wd ws rb rc mask s
  | .wload seat wd sa sb => Sys2Proof.Machine.execWload seat wd sa sb s
  | .wrdlo seat sd wa => Sys2Proof.Machine.execWrdlo seat sd wa s
  | .wrdhi seat sd wa => Sys2Proof.Machine.execWrdhi seat sd wa s
  | .wget seat sd wa field => Sys2Proof.Machine.execWget seat sd wa field s
  | .wmov seat wd wa => Sys2Proof.Machine.execWmov seat wd wa s
  | .wclr seat wd => Sys2Proof.Machine.execWclr seat wd s
  | .wldm seat wd wa sb => Sys2Proof.Machine.execWldm seat wd wa sb s
  | .wstm seat wd wa sb => Sys2Proof.Machine.execWstm seat wd wa sb s
  | .cwload seat wa which => Sys2Proof.Machine.execCwload seat wa which s
  | .ktset seat ra rb => Sys2Proof.Machine.execKtset seat ra rb s
  | .ktsetRetire seat => Sys2Proof.Machine.execKtsetRetire seat s
  | .bcopyL seat rd wd ws rdo rso rn errs => Sys2Proof.Machine.execBcopyL seat rd wd ws rdo rso rn errs s
  | .bfillL seat rd wd rdo rv rn => Sys2Proof.Machine.execBfillL seat rd wd rdo rv rn s
  | .call seat imm => Sys2Proof.Machine.execCall seat imm s
  | .brk seat imm => Sys2Proof.Machine.execBreak seat imm s
  | .tret seat => Sys2Proof.Machine.execTret seat s
  | .seatstop seat => Sys2Proof.Machine.execSeatstop seat s
  | .plantSeatstopWake => Sys2Proof.Machine.execPlantSeatstopWake s
  | .yield seat => Sys2Proof.Machine.execYield seat s
  | .rdtime seat rd => Sys2Proof.Machine.execRdtime seat rd s
  | .snap seat rd => Sys2Proof.Machine.execSnap seat rd s
  | .scrd seat rd num => Sys2Proof.Machine.execScrd seat rd num s
  | .scwr seat num ra => Sys2Proof.Machine.execScwr seat num ra s
  | .scset seat num ra => Sys2Proof.Machine.execScset seat num ra s
  | .scclr seat num ra => Sys2Proof.Machine.execScclr seat num ra s
  | .fenceRw seat => Sys2Proof.Machine.execFenceRw seat s
  | .fenceR seat => Sys2Proof.Machine.execFenceR seat s
  | .fenceW seat => Sys2Proof.Machine.execFenceW seat s
  | .fenceIo seat => Sys2Proof.Machine.execFenceIo seat s
  | .fenceStg seat => Sys2Proof.Machine.execFenceStg seat s
  | .fenceI seat => Sys2Proof.Machine.execFenceI seat s
  | .fenceComplete seat => Sys2Proof.Machine.execFenceComplete seat s
  | .stgL seat rd ra rc unit notify wd w0 w1 w2 w3 => Sys2Proof.Machine.execStgL seat rd ra rc unit notify wd w0 w1 w2 w3 s
  | .stgAccept seat => Sys2Proof.Machine.execStgAccept seat s
  | .wpos seat rd ra web => Sys2Proof.Machine.execWpos seat rd ra web s
  | .wposComplete seat => Sys2Proof.Machine.execWposComplete seat s
  | .tenantAccessReturn seat late errs => Sys2Proof.Machine.execTenantAccessReturn seat late errs s
  | .takeAsyncEvent seat => Sys2Proof.Machine.execTakeAsyncEvent seat s
  | .quantumExpiry seat => Sys2Proof.Machine.execQuantumExpiry seat s
  | .timerExpiry seat => Sys2Proof.Machine.execTimerExpiry seat s
  | .issueFrameBoundary e c => Sys2Proof.Machine.execIssueFrameBoundary e c s
  | .haltRelease who e pos => Sys2Proof.Machine.execHaltRelease who e pos s
  | .supplyGoodBoot ref0 ref1 => Sys2Proof.Machine.execSupplyGoodBoot ref0 ref1 s
  | .runpgRise trained pass => Sys2Proof.Machine.execRunpgRise trained pass s
  | .hostsAttach => Sys2Proof.Machine.execHostsAttach s
  | .runpgTimeout => Sys2Proof.Machine.execRunpgTimeout s
  | .burnKey who => Sys2Proof.Machine.execBurnKey who s
  | .burnRollback who => Sys2Proof.Machine.execBurnRollback who s
  | .fuseBurnEnd ok => Sys2Proof.Machine.execFuseBurnEnd ok s
  | .ownerInstall who lo hi errs => Sys2Proof.Machine.execOwnerInstall who lo hi errs s
  | .ownerInstallApply => Sys2Proof.Machine.execOwnerInstallApply s
  | .hostRd h payload errs => Sys2Proof.Machine.execHostRd h payload errs s
  | .hostWr h payload => Sys2Proof.Machine.execHostWr h payload s
  | .doorbellWrite who d n value => Sys2Proof.Machine.execDoorbellWrite who d n value s
  | .dbrouteWrite who d n value => Sys2Proof.Machine.execDbrouteWrite who d n value s
  | .seatcmdStart who d seat tag entry => Sys2Proof.Machine.execSeatcmdStart who d seat tag entry s
  | .seatcmdStop who d seat tag => Sys2Proof.Machine.execSeatcmdStop who d seat tag s
  | .seatStopBoundary seat => Sys2Proof.Machine.execSeatStopBoundary seat s
  | .seatcmdPreempt who d seat tag => Sys2Proof.Machine.execSeatcmdPreempt who d seat tag s
  | .seatcmdUnassigned who d cmd seat tag => Sys2Proof.Machine.execSeatcmdUnassigned who d cmd seat tag s
  | .nqCtlWrite who d value => Sys2Proof.Machine.execNqCtlWrite who d value s
  | .throttleGraceEnd g means => Sys2Proof.Machine.execThrottleGraceEnd g means s
  | .throttleRemeasure g means => Sys2Proof.Machine.execThrottleRemeasure g means s
  | .fabricMessage cls src dst cells expects => Sys2Proof.Machine.execFabricMessage cls src dst cells expects s
  | .linkCellFail link => Sys2Proof.Machine.execLinkCellFail link s
  | .fabFenceSet who islands => Sys2Proof.Machine.execFabFenceSet who islands s
  | .fabFenceClr who islands => Sys2Proof.Machine.execFabFenceClr who islands s
  | .pageLockRequest page holder => Sys2Proof.Machine.execPageLockRequest page holder s
  | .pageUnlock page holder => Sys2Proof.Machine.execPageUnlock page holder s
  | .pageLockExpiry page => Sys2Proof.Machine.execPageLockExpiry page s
  | .scrubPage stack errs copyErrs => Sys2Proof.Machine.execScrubPage stack errs copyErrs s
  | .memPassStart who => Sys2Proof.Machine.execMemPassStart who s
  | .memPassAbort who visited errs => Sys2Proof.Machine.execMemPassAbort who visited errs s
  | .memPassDone errs => Sys2Proof.Machine.execMemPassDone errs s
  | .mirrorEnable who k => Sys2Proof.Machine.execMirrorEnable who k s
  | .mirrorDisable who k => Sys2Proof.Machine.execMirrorDisable who k s
  | .resilverDone k => Sys2Proof.Machine.execResilverDone k s
  | .regionStrengthWrite who k strength => Sys2Proof.Machine.execRegionStrengthWrite who k strength s
  | .reencodeDone k => Sys2Proof.Machine.execReencodeDone k s
  | .encEdge web a b t => Sys2Proof.Machine.execEncEdge web a b t s
  | .encIndexEdge web t => Sys2Proof.Machine.execEncIndexEdge web t s
  | .edgeSynthesis web => Sys2Proof.Machine.execEdgeSynthesis web s
  | .positionBroadcast t => Sys2Proof.Machine.execPositionBroadcast t s
  | .webEnable web => Sys2Proof.Machine.execWebEnable web s
  | .webDisable web => Sys2Proof.Machine.execWebDisable web s
  | .posSet web => Sys2Proof.Machine.execPosSet web s
  | .posResume web => Sys2Proof.Machine.execPosResume web s
  | .posClrcnt web => Sys2Proof.Machine.execPosClrcnt web s
  | .tofEdge tof t => Sys2Proof.Machine.execTofEdge tof t s
  | .tofPop tof => Sys2Proof.Machine.execTofPop tof s
  | .markCtlWrite slot value => Sys2Proof.Machine.execMarkCtlWrite slot value s
  | .psamplePublish web => Sys2Proof.Machine.execPsamplePublish web s
  | .ringSampleTimeout web => Sys2Proof.Machine.execRingSampleTimeout web s
  | .lcuWorkStart e => Sys2Proof.Machine.execLcuWorkStart e s
  | .lcuReadyPoll e => Sys2Proof.Machine.execLcuReadyPoll e s
  | .lcuBoundaryDecision e => Sys2Proof.Machine.execLcuBoundaryDecision e s
  | .lcuLine e => Sys2Proof.Machine.execLcuLine e s
  | .ccuWorkStart e => Sys2Proof.Machine.execCcuWorkStart e s
  | .ccuLine e => Sys2Proof.Machine.execCcuLine e s
  | .scuWorkStart e => Sys2Proof.Machine.execScuWorkStart e s
  | .scuLine e => Sys2Proof.Machine.execScuLine e s
  | .nmuWorkStart e => Sys2Proof.Machine.execNmuWorkStart e s
  | .nmuLine e => Sys2Proof.Machine.execNmuLine e s
  | .emuWorkStart e => Sys2Proof.Machine.execEmuWorkStart e s
  | .emuLineDue e => Sys2Proof.Machine.execEmuLineDue e s
  | .emuFire e board => Sys2Proof.Machine.execEmuFire e board s
  | .emuWebHalt e => Sys2Proof.Machine.execEmuWebHalt e s
  | .emuCancel e => Sys2Proof.Machine.execEmuCancel e s
  | .icuWorkStart e => Sys2Proof.Machine.execIcuWorkStart e s
  | .gvspPacket group d => Sys2Proof.Machine.execGvspPacket group d s
  | .icuLineCompare e => Sys2Proof.Machine.execIcuLineCompare e s
  | .icuLineTimeout e => Sys2Proof.Machine.execIcuLineTimeout e s
  | .icuEvaluate e stores => Sys2Proof.Machine.execIcuEvaluate e stores s
  | .icuLock e => Sys2Proof.Machine.execIcuLock e s
  | .icuLockDone e => Sys2Proof.Machine.execIcuLockDone e s
  | .icuAdjWrite e value => Sys2Proof.Machine.execIcuAdjWrite e value s
  | .icuCancel e => Sys2Proof.Machine.execIcuCancel e s
  | .icuStreamStale e stream => Sys2Proof.Machine.execIcuStreamStale e stream s
  | .stagedRegisterWrite who addr value => Sys2Proof.Machine.execStagedRegisterWrite who addr value s
  | .stageCommit who d => Sys2Proof.Machine.execStageCommit who d s
  | .stageArm who d => Sys2Proof.Machine.execStageArm who d s
  | .loadListDone d => Sys2Proof.Machine.execLoadListDone d s
  | .stageCancel who d => Sys2Proof.Machine.execStageCancel who d s
  | .stageDiscard who d => Sys2Proof.Machine.execStageDiscard who d s
  | .sprRotate who => Sys2Proof.Machine.execSprRotate who s
  | .rotationDue => Sys2Proof.Machine.execRotationDue s
  | .sprAbort who => Sys2Proof.Machine.execSprAbort who s
  | .sprRetest who e => Sys2Proof.Machine.execSprRetest who e s
  | .sprFail who e => Sys2Proof.Machine.execSprFail who e s
  | .shadowTimeout => Sys2Proof.Machine.execShadowTimeout s
  | .handoff => Sys2Proof.Machine.execHandoff s
  | .selfTestEnd e pass => Sys2Proof.Machine.execSelfTestEnd e pass s
  | .emissionWatchdog e => Sys2Proof.Machine.execEmissionWatchdog e s
  | .engineFatalError e => Sys2Proof.Machine.execEngineFatalError e s
  | .recoverComplete e => Sys2Proof.Machine.execRecoverComplete e s
  | .sprRecWrite who swath lo hi => Sys2Proof.Machine.execSprRecWrite who swath lo hi s
  | .laneSignalDetect lane => Sys2Proof.Machine.execLaneSignalDetect lane s
  | .laneLock lane blane => Sys2Proof.Machine.execLaneLock lane blane s
  | .laneAdaptDone lane => Sys2Proof.Machine.execLaneAdaptDone lane s
  | .markerSend lane => Sys2Proof.Machine.execMarkerSend lane s
  | .rxMarker lane m inv mcrcOk => Sys2Proof.Machine.execRxMarker lane m inv mcrcOk s
  | .laneFail lane why => Sys2Proof.Machine.execLaneFail lane why s
  | .laneRejoin lane => Sys2Proof.Machine.execLaneRejoin lane s
  | .portHoldExpiry link => Sys2Proof.Machine.execPortHoldExpiry link s
  | .trainSendTick link => Sys2Proof.Machine.execTrainSendTick link s
  | .rxTrain link t => Sys2Proof.Machine.execRxTrain link t s
  | .rxCorruptFrame link what => Sys2Proof.Machine.execRxCorruptFrame link what s
  | .rxCred link crcls crcount => Sys2Proof.Machine.execRxCred link crcls crcount s
  | .rxAck link cls seq crcls crcount => Sys2Proof.Machine.execRxAck link cls seq crcls crcount s
  | .rxNak link cls seq crcls crcount => Sys2Proof.Machine.execRxNak link cls seq crcls crcount s
  | .ackSend link cls => Sys2Proof.Machine.execAckSend link cls s
  | .creditReport link cls => Sys2Proof.Machine.execCreditReport link cls s
  | .rtoExpiry link cls => Sys2Proof.Machine.execRtoExpiry link cls s
  | .frameSend link => Sys2Proof.Machine.execFrameSend link s
  | .ethFrameRx group f => Sys2Proof.Machine.execEthFrameRx group f s
  | .ethArpRequest group targetIp senderIp senderMac => Sys2Proof.Machine.execEthArpRequest group targetIp senderIp senderMac s
  | .ethLinkUp group => Sys2Proof.Machine.execEthLinkUp group s
  | .ethLinkDown group => Sys2Proof.Machine.execEthLinkDown group s
  | .laneRefclkLoss complex => Sys2Proof.Machine.execLaneRefclkLoss complex s
  | .rngEnable => Sys2Proof.Machine.execRngEnable s
  | .rngDisable => Sys2Proof.Machine.execRngDisable s
  | .linkSendTick => Sys2Proof.Machine.execLinkSendTick s
  | .rxLink h payload => Sys2Proof.Machine.execRxLink h payload s
  | .announceSendTick => Sys2Proof.Machine.execAnnounceSendTick s
  | .rxAnnounce h payload => Sys2Proof.Machine.execRxAnnounce h payload s
  | .heartbeatSendTick => Sys2Proof.Machine.execHeartbeatSendTick s
  | .rxHeartbeat h payload => Sys2Proof.Machine.execRxHeartbeat h payload s
  | .rxAssign h payload => Sys2Proof.Machine.execRxAssign h payload s
  | .rxEpochData h payload => Sys2Proof.Machine.execRxEpochData h payload s
  | .rxEpochCommit h payload => Sys2Proof.Machine.execRxEpochCommit h payload s
  | .rxEpochReq h payload => Sys2Proof.Machine.execRxEpochReq h payload s
  | .tsyncSendTick => Sys2Proof.Machine.execTsyncSendTick s
  | .rxTsync h payload t => Sys2Proof.Machine.execRxTsync h payload t s
  | .dlyreqSendTick => Sys2Proof.Machine.execDlyreqSendTick s
  | .rxDlyreq h payload t => Sys2Proof.Machine.execRxDlyreq h payload t s
  | .rxDlyrsp h payload t => Sys2Proof.Machine.execRxDlyrsp h payload t s
  | .rxRingSnap h payload => Sys2Proof.Machine.execRxRingSnap h payload s
  | .rxRmark h payload => Sys2Proof.Machine.execRxRmark h payload s
  | .rxPsample h payload => Sys2Proof.Machine.execRxPsample h payload s
  | .rxMbx h payload => Sys2Proof.Machine.execRxMbx h payload s
  | .klossExpiry => Sys2Proof.Machine.execKlossExpiry s
  | .electtExpiry => Sys2Proof.Machine.execElecttExpiry s
  | .holdoverExpiry => Sys2Proof.Machine.execHoldoverExpiry s
  | .routeExpiry node => Sys2Proof.Machine.execRouteExpiry node s
  | .epochDistribute => Sys2Proof.Machine.execEpochDistribute s
  | .epochAbort => Sys2Proof.Machine.execEpochAbort s
  | .epochCommitTimeout => Sys2Proof.Machine.execEpochCommitTimeout s
  | .epochApply => Sys2Proof.Machine.execEpochApply s
  | .ringSnapSend => Sys2Proof.Machine.execRingSnapSend s
  | .ringSnapTime => Sys2Proof.Machine.execRingSnapTime s
  | .rmarkAction => Sys2Proof.Machine.execRmarkAction s
  | .mailboxSend who d => Sys2Proof.Machine.execMailboxSend who d s
  | .mailboxTimeout snode sdom ddom msgid => Sys2Proof.Machine.execMailboxTimeout snode sdom ddom msgid s
  | .tuFrame n pages late => Sys2Proof.Machine.execTuFrame n pages late s
  | .tuCal n => Sys2Proof.Machine.execTuCal n s
  | .tuAbort n => Sys2Proof.Machine.execTuAbort n s
  | .tuLoad n => Sys2Proof.Machine.execTuLoad n s
  | .tuSave n => Sys2Proof.Machine.execTuSave n s
  | .tuLoadDone n errs => Sys2Proof.Machine.execTuLoadDone n errs s
  | .tuSaveDone n => Sys2Proof.Machine.execTuSaveDone n s
  | .tuMoveResult n => Sys2Proof.Machine.execTuMoveResult n s
  | .tuMoveTimeout n => Sys2Proof.Machine.execTuMoveTimeout n s
  | .tuHoldoffExpiry n => Sys2Proof.Machine.execTuHoldoffExpiry n s
  | .tuDomWrite who n value => Sys2Proof.Machine.execTuDomWrite who n value s
  | .spEnable port value => Sys2Proof.Machine.execSpEnable port value s
  | .spVsyncStart port t => Sys2Proof.Machine.execSpVsyncStart port t s
  | .spRow port words => Sys2Proof.Machine.execSpRow port words s
  | .spFrameClose port => Sys2Proof.Machine.execSpFrameClose port s
  | .spFrameTimeout port => Sys2Proof.Machine.execSpFrameTimeout port s
  | .spPclkLoss port => Sys2Proof.Machine.execSpPclkLoss port s
  | .cpFrame n lateF lateS => Sys2Proof.Machine.execCpFrame n lateF lateS s
  | .cpLoad n => Sys2Proof.Machine.execCpLoad n s
  | .cpLoadDone n errs => Sys2Proof.Machine.execCpLoadDone n errs s
  | .cpDomWrite who n value => Sys2Proof.Machine.execCpDomWrite who n value s
  | .lockstepMismatch => Sys2Proof.Machine.execLockstepMismatch s
  | .plantRestartDone => Sys2Proof.Machine.execPlantRestartDone s
  | .soDemandChange so => Sys2Proof.Machine.execSoDemandChange so s
  | .soMinTimeExpiry so => Sys2Proof.Machine.execSoMinTimeExpiry so s
  | .moSlewTick mo => Sys2Proof.Machine.execMoSlewTick mo s
  | .presSample levels => Sys2Proof.Machine.execPresSample levels s
  | .rtcSecond => Sys2Proof.Machine.execRtcSecond s
  | .rtcSecWrite value => Sys2Proof.Machine.execRtcSecWrite value s
  | .aonTzWrite value => Sys2Proof.Machine.execAonTzWrite value s
  | .calDateRead who => Sys2Proof.Machine.execCalDateRead who s
  | .scheduleMinute => Sys2Proof.Machine.execScheduleMinute s
  | .occholdExpiry zone => Sys2Proof.Machine.execOccholdExpiry zone s
  | .pltCzOvrWrite zone value => Sys2Proof.Machine.execPltCzOvrWrite zone value s
  | .vaonLoss => Sys2Proof.Machine.execVaonLoss s
  | .vaonReturn => Sys2Proof.Machine.execVaonReturn s
  | .oscStop => Sys2Proof.Machine.execOscStop s
  | .pltHbWrite who => Sys2Proof.Machine.execPltHbWrite who s
  | .heartbeatLapse => Sys2Proof.Machine.execHeartbeatLapse s
  | .bbEnable port => Sys2Proof.Machine.execBbEnable port s
  | .bbFrameRx port f => Sys2Proof.Machine.execBbFrameRx port f s
  | .bbTokenRx port => Sys2Proof.Machine.execBbTokenRx port s
  | .bbFrameTx port collide => Sys2Proof.Machine.execBbFrameTx port collide s
  | .bbReplyDelayExpiry port => Sys2Proof.Machine.execBbReplyDelayExpiry port s
  | .bbNoTokenExpiry port => Sys2Proof.Machine.execBbNoTokenExpiry port s
  | .bbReplyTimeout port => Sys2Proof.Machine.execBbReplyTimeout port s
  | .bbUsageTimeout port => Sys2Proof.Machine.execBbUsageTimeout port s
  | .bbFrameAbort port => Sys2Proof.Machine.execBbFrameAbort port s
  | .bbStuck port => Sys2Proof.Machine.execBbStuck port s
  | .bbStuckClear port => Sys2Proof.Machine.execBbStuckClear port s
  | .leTimedEvaluate le => Sys2Proof.Machine.execLeTimedEvaluate le s
  | .leFeedbackArrival le x => Sys2Proof.Machine.execLeFeedbackArrival le x s
  | .leMissedEvaluation le => Sys2Proof.Machine.execLeMissedEvaluation le s
  | .lePublish le => Sys2Proof.Machine.execLePublish le s
  | .leFbinWrite le x => Sys2Proof.Machine.execLeFbinWrite le x s
  | .leCmdReset le => Sys2Proof.Machine.execLeCmdReset le s
  | .leClrpl le => Sys2Proof.Machine.execLeClrpl le s
  | .leTstart le => Sys2Proof.Machine.execLeTstart le s
  | .leTstop le => Sys2Proof.Machine.execLeTstop le s
  | .leCapStart => Sys2Proof.Machine.execLeCapStart s
  | .leCapStop => Sys2Proof.Machine.execLeCapStop s
  | .vSenseSample ch raw => Sys2Proof.Machine.execVSenseSample ch raw s
  | .vMoveWindowEnd ch => Sys2Proof.Machine.execVMoveWindowEnd ch s
  | .vThermalTick ch => Sys2Proof.Machine.execVThermalTick ch s
  | .vClrtrip ch => Sys2Proof.Machine.execVClrtrip ch s
  | .vShutterClose ch unit => Sys2Proof.Machine.execVShutterClose ch unit s
  | .vShutterOpen ch unit => Sys2Proof.Machine.execVShutterOpen ch unit s
  | .adcCtlWrite value => Sys2Proof.Machine.execAdcCtlWrite value s
  | .adcEntryComplete raw => Sys2Proof.Machine.execAdcEntryComplete raw s
  | .adcCal => Sys2Proof.Machine.execAdcCal s
  | .adcCalDone ofs gain => Sys2Proof.Machine.execAdcCalDone ofs gain s
  | .fanTachEdge fan t => Sys2Proof.Machine.execFanTachEdge fan t s
  | .fanTachTimeout fan => Sys2Proof.Machine.execFanTachTimeout fan s
  | .fanUpdate fan => Sys2Proof.Machine.execFanUpdate fan s
  | .fanClrfail fan => Sys2Proof.Machine.execFanClrfail fan s
  | .spiGo port => Sys2Proof.Machine.execSpiGo port s
  | .spiTransferEnd port words bits conflict => Sys2Proof.Machine.execSpiTransferEnd port words bits conflict s
  | .spiRwaitExpiry port => Sys2Proof.Machine.execSpiRwaitExpiry port s
  | .spiLeaseExpiry port words bits => Sys2Proof.Machine.execSpiLeaseExpiry port words bits s
  | .spiAbort port words bits => Sys2Proof.Machine.execSpiAbort port words bits s
  | .spiReply port => Sys2Proof.Machine.execSpiReply port s
  | .spiSlaveFrame port words bits => Sys2Proof.Machine.execSpiSlaveFrame port words bits s
  | .spiCastle port => Sys2Proof.Machine.execSpiCastle port s
  | .spiCreqPulled port => Sys2Proof.Machine.execSpiCreqPulled port s
  | .spiCastleFrame port other conflict => Sys2Proof.Machine.execSpiCastleFrame port other conflict s
  | .spiBackoffEnd port => Sys2Proof.Machine.execSpiBackoffEnd port s
  | .spiDxMiss off => Sys2Proof.Machine.execSpiDxMiss off s
  | .spiDxDisable => Sys2Proof.Machine.execSpiDxDisable s
  | .faultRaise src cls live => Sys2Proof.Machine.execFaultRaise src cls live s
  | .liveLineClear src => Sys2Proof.Machine.execLiveLineClear src s
  | .safetyClearHold src => Sys2Proof.Machine.execSafetyClearHold src s
  | .ugraceExpiry src => Sys2Proof.Machine.execUgraceExpiry src s
  | .fgraceExpiry src => Sys2Proof.Machine.execFgraceExpiry src s
  | .fcFirstClr who => Sys2Proof.Machine.execFcFirstClr who s
  | .fcHandlingWrite who h => Sys2Proof.Machine.execFcHandlingWrite who h s
  | .fcSwraise who src cls live => Sys2Proof.Machine.execFcSwraise who src cls live s
  | .ietFire cause => Sys2Proof.Machine.execIetFire cause s
  | .fcIetClear who holds => Sys2Proof.Machine.execFcIetClear who holds s
  | .safeInActive => Sys2Proof.Machine.execSafeInActive s
  | .safeEnter who => Sys2Proof.Machine.execSafeEnter who s
  | .safeRelease who => Sys2Proof.Machine.execSafeRelease who s
  | .safeRestartDone => Sys2Proof.Machine.execSafeRestartDone s
  | .safeResume who => Sys2Proof.Machine.execSafeResume who s
  | .pipHalfPeriod => Sys2Proof.Machine.execPipHalfPeriod s
  | .tmpSample g raw => Sys2Proof.Machine.execTmpSample g raw s
  | .tmpSampleCmd g raw => Sys2Proof.Machine.execTmpSampleCmd g raw s
  | .tmpHistoryBoundary => Sys2Proof.Machine.execTmpHistoryBoundary s
  | .fixedTrip tripped => Sys2Proof.Machine.execFixedTrip tripped s
  | .capUpdate e c => Sys2Proof.Machine.execCapUpdate e c s
  | .droopSag island => Sys2Proof.Machine.execDroopSag island s
  | .stretchRecoverStep island => Sys2Proof.Machine.execStretchRecoverStep island s
  | .stretchWindowOver island => Sys2Proof.Machine.execStretchWindowOver island s
  | .railOutOfBand rail high => Sys2Proof.Machine.execRailOutOfBand rail high s
  | .sysrefLoss input => Sys2Proof.Machine.execSysrefLoss input s
  | .clockMonitorWindow island off => Sys2Proof.Machine.execClockMonitorWindow island off s
  | .sefreqWrite value => Sys2Proof.Machine.execSefreqWrite value s
  | .calExport who => Sys2Proof.Machine.execCalExport who s
  | .calImport who => Sys2Proof.Machine.execCalImport who s
  | .calCommandDone errs => Sys2Proof.Machine.execCalCommandDone errs s
  | .snpArm => Sys2Proof.Machine.execSnpArm s
  | .snpTrig => Sys2Proof.Machine.execSnpTrig s
  | .snapinEdge t => Sys2Proof.Machine.execSnapinEdge t s
  | .snapshotDone => Sys2Proof.Machine.execSnapshotDone s
  | .snpDbgWrite who value => Sys2Proof.Machine.execSnpDbgWrite who value s
  | .tapReset => Sys2Proof.Machine.execTapReset s
  | .tapIdcode => Sys2Proof.Machine.execTapIdcode s
  | .tapSamplePreload => Sys2Proof.Machine.execTapSamplePreload s
  | .tapExtest => Sys2Proof.Machine.execTapExtest s
  | .tapHighz => Sys2Proof.Machine.execTapHighz s
  | .tapClamp => Sys2Proof.Machine.execTapClamp s
  | .tapDbgacc => Sys2Proof.Machine.execTapDbgacc s
  | .tapBypass => Sys2Proof.Machine.execTapBypass s
  | .dbgNop => Sys2Proof.Machine.execDbgNop s
  | .dbgRead addr errs => Sys2Proof.Machine.execDbgRead addr errs s
  | .dbgWrite addr data => Sys2Proof.Machine.execDbgWrite addr data s
  | .dbgHalt addr => Sys2Proof.Machine.execDbgHalt addr s
  | .dbgRelease addr => Sys2Proof.Machine.execDbgRelease addr s
  | .dbgCommandDone => Sys2Proof.Machine.execDbgCommandDone s
  | .porNLow => Sys2Proof.Machine.execPorNLow s
  | .vpltUndervoltage => Sys2Proof.Machine.execVpltUndervoltage s
  | .pltpgFall => Sys2Proof.Machine.execPltpgFall s
  | .sysRstCmd who => Sys2Proof.Machine.execSysRstCmd who s
  | .watchCmd who force => Sys2Proof.Machine.execWatchCmd who force s
  | .runCmd who => Sys2Proof.Machine.execRunCmd who s
  | .hibEnter who => Sys2Proof.Machine.execHibEnter who s
  | .wakeSource src active => Sys2Proof.Machine.execWakeSource src active s
  | .seatAccessComplete seat errs => Sys2Proof.Machine.execSeatAccessComplete seat errs s
  | .icuEvaluationDone e => Sys2Proof.Machine.execIcuEvaluationDone e s
  | .mtabEntryMissing node => Sys2Proof.Machine.execMtabEntryMissing node s
  | .sysrefLock input => Sys2Proof.Machine.execSysrefLock input s
  | .generatorHoldoverEnd => Sys2Proof.Machine.execGeneratorHoldoverEnd s

end Sys2Proof.Machine
end

