-- ==== Sys2Proof/Machine/Step.lean ====
section
/-! DEFINITION. One step of the block: the command at the front of the queue runs on the state with the rest of
the queue; with an empty queue a tick passes. -/

namespace Sys2Proof.Machine

/-- A tick on an empty queue: ring time counts one nanosecond (R367) and nothing else happens (DESIGN CHOICE). -/
def tick (s : State) : State := { s with ringTime := s.ringTime + 1 }

/-- One step. DESIGN CHOICE (log 1). -/
def step (s : State) : Host.Outcome State Fault Refusal :=
  match s.pending with
  | [] => .next (tick s)
  | c :: rest => exec c { s with pending := rest }

/-- `s` with the command that a word spells in front of its queue; no word spells one. DESIGN CHOICE (log 1). -/
def State.withFetchWord (s : State) (nbits w : Nat) : State :=
  match decodeTableWord nbits w with
  | some c => { s with pending := c :: s.pending }
  | none => s

end Sys2Proof.Machine
end

