-- ==== Sys2Proof/Safety.lean ====
section
/-! DEFINITION. The terms the claims are stated in: a command that completes, an instruction that is ready to issue,
frames, and the canonical form of the stores. -/

namespace Sys2Proof.Machine

/-- The command answers a next state, of which `P` holds. -/
def Completes (c : Instr) (s : State) (P : State → Prop) : Prop := ∃ t, exec c s = .next t ∧ P t

/-- Seat `i` issues an instruction of `n` bytes now: nothing holds its issue, its pc is aligned and the fetch succeeds
    (R49 to R52, R68, R73, R75). -/
def Ready (s : State) (i n : Nat) : Prop :=
  s.canIssue i = true ∧ (s.seat i).pc.toNat % 4 = 0 ∧ fetchOk s i n = true

/-- The state an issued instruction of `n` bytes acts on: its slot is charged (R67) and its fetch has been served (R538). -/
def issued (s : State) (i n : Nat) : State := fetchTouch (s.modSeat i chargeSlot) i n

/-- Only registers differ. -/
def RegsOnly (s t : State) : Prop := t = { s with regs := t.regs }

/-- Register `a` alone differs, and reads `v`. -/
def RegBecomes (s t : State) (a : Nat) (v : W32) : Prop :=
  RegsOnly s t ∧ t.reg a = v ∧ ∀ b, b ≠ a → t.reg b = s.reg b

/-- Only seat `i` differs, and it is `x`. -/
def SeatBecomes (s t : State) (i : Nat) (x : Seat) : Prop :=
  t = { s with seats := t.seats } ∧ t.seat i = x ∧ ∀ j, j ≠ i → t.seat j = s.seat j

/-- Instruction `c` of `n` bytes on seat `i` completes wherever it issues: the seat becomes what `f` makes of the seat as
    issued, and nothing else differs from the state as issued. -/
def RunsTo (c : Instr) (i n : Nat) (f : Seat → Seat) : Prop :=
  ∀ s, Ready s i n → Completes c s (fun t => SeatBecomes (issued s i n) t i (f ((issued s i n).seat i)))

/-- `RunsTo` for the seats of which `h` holds as they issue. -/
def RunsWhen (h : Seat → Prop) (c : Instr) (i n : Nat) (f : Seat → Seat) : Prop :=
  ∀ s, Ready s i n → h ((issued s i n).seat i) →
    Completes c s (fun t => SeatBecomes (issued s i n) t i (f ((issued s i n).seat i)))

/-- The register that shows a seat halted and the bit's place (R46, R48); the plant thread has none. -/
def haltedReg (i : Nat) : Option Nat :=
  if i = plantSeat then none else some (Reg.SEn_HALTED0 (seatEngine i) + 4 * (seatPos i / 32))

/-- Seat `i` becomes `x`, in a state of R46 other than HALT: its HALTED bit is clear, and nothing else differs. -/
def SeatMoves (s t : State) (i : Nat) (x : Seat) : Prop :=
  t = { s with seats := t.seats, regs := t.regs } ∧ t.seat i = x ∧ (∀ j, j ≠ i → t.seat j = s.seat j) ∧
  ∀ b, t.reg b = if haltedReg i = some b then fsetb (s.reg b) (seatPos i % 32) false else s.reg b

/-- The descriptor belongs to the seat's mode: its domain and tenant in T, its domain in H, any in M (R60). -/
def OwnDesc (x : Seat) (d : Desc) : Prop :=
  match x.mode with
  | .t => dHdom d = x.hdom ∧ dTid d = x.tid
  | .h => dHdom d = x.hdom
  | .m => True

/-- `n` bytes at offset `off` of window `w` pass every check of R60 for the rights `need` and lie in device memory. -/
def CheckOk (s : State) (i w off n align need : Nat) : Prop :=
  let d := (s.seat i).wx w
  dValid d = true ∧ dLen d ≠ 0 ∧ OwnDesc (s.seat i) d ∧ dRights d &&& need = need ∧ off + n ≤ dLen d ∧ off % align = 0 ∧
  dLoc d = false ∧ dBase d + off + n ≤ s.memSize ∧ ∀ g ∈ spanning (2 ^ 21) (dBase d + off) n, s.tag g = dKtag d

/-- An access that passes the checks and reads pages that return data (R60, R167, R176). -/
def AccessOk (s : State) (i w off n align need : Nat) : Prop :=
  CheckOk s i w off n align need ∧ ∀ p ∈ spanning 2048 (dBase ((s.seat i).wx w) + off) n, s.pageReadable p = true

/-- A write that passes the checks for the W right, to pages whose stacks are there (R60, R176). -/
def WriteOk (s : State) (i w off n align : Nat) : Prop :=
  CheckOk s i w off n align 2 ∧ ∀ p ∈ spanning 2048 (dBase ((s.seat i).wx w) + off) n, s.pageWritable p = true

/-- The byte device memory holds at `a`. -/
def State.byteAt (s : State) (a : Nat) : Byte := sget 0 s.mem a

/-- The canonical form of a byte store: addresses strictly rising, and no entry equal to what an unlisted address reads
    as (0, R655). DESIGN CHOICE (log 7). -/
def Memory.wf (m : SMap Byte) : Bool := swf (fun _ => 0) m

/-- Every byte store of the block, and its registers, are in canonical form. -/
def State.canonical (s : State) : Bool :=
  Memory.wf s.mem && Memory.wf s.store && swf (fun _ => (0xFF : Byte)) s.flash && swf regReset s.regs

end Sys2Proof.Machine
end

