-- ==== Sys2Proof/Certificates/Slice0/Obligations.lean ====
section
/-! DEFINITION. The statements about the block, for the provers. -/

namespace Sys2Proof.Claims
open Sys2Proof.Machine

/-- The two-operand scalar register operations of R81 but the divisions, with their results. -/
def scalarTable : List ((Nat → Nat → Nat → Nat → Instr) × (W64 → W64 → W64)) :=
  [(.add, fun a b => a + b), (.sub, fun a b => a - b), (.and, fun a b => a &&& b), (.or, fun a b => a ||| b),
   (.xor, fun a b => a ^^^ b), (.sll, fun a b => a <<< (b &&& 63).toNat), (.srl, fun a b => a >>> (b &&& 63).toNat),
   (.sra, fun a b => a.sshiftRight (b &&& 63).toNat),
   (.slt, fun a b => if a.toInt < b.toInt then 1 else 0), (.sltu, fun a b => if a.toNat < b.toNat then 1 else 0),
   (.mul, fun a b => BitVec.ofNat 64 (a.toNat * b.toNat)),
   (.mulhs, fun a b => BitVec.ofInt 64 ((a.toInt * b.toInt) / 2 ^ 64)),
   (.mulhu, fun a b => BitVec.ofNat 64 ((a.toNat * b.toNat) / 2 ^ 64)),
   (.min, fun a b => if a.toInt < b.toInt then a else b), (.max, fun a b => if a.toInt < b.toInt then b else a),
   (.minu, fun a b => if a.toNat < b.toNat then a else b), (.maxu, fun a b => if a.toNat < b.toNat then b else a)]
/-- The 16-bit immediate operations of R83 with their results. -/
def immTable : List ((Nat → Nat → Nat → BitVec 16 → Instr) × (W64 → BitVec 16 → W64)) :=
  [(.addi, fun a m => a + BitVec.ofInt 64 m.toInt), (.andi, fun a m => a &&& BitVec.ofNat 64 m.toNat),
   (.ori, fun a m => a ||| BitVec.ofNat 64 m.toNat), (.xori, fun a m => a ^^^ BitVec.ofNat 64 m.toNat),
   (.slti, fun a m => if a.toInt < m.toInt then 1 else 0), (.sltiu, fun a m => if a.toNat < (BitVec.ofInt 64 m.toInt).toNat then 1 else 0)]
/-- The immediate shifts of R83. -/
def shiftTable : List ((Nat → Nat → Nat → BitVec 6 → Instr) × (W64 → Nat → W64)) :=
  [(.slli, fun a n => a <<< n), (.srli, fun a n => a >>> n), (.srai, fun a n => a.sshiftRight n)]

/-- The conditional branches of R84 with their conditions. -/
def branchTable : List ((Nat → Nat → Nat → BitVec 16 → Instr) × (W64 → W64 → Bool)) :=
  [(.beq, fun a b => decide (a = b)), (.bne, fun a b => decide (a ≠ b)), (.blt, fun a b => decide (a.toInt < b.toInt)),
   (.bge, fun a b => decide (b.toInt ≤ a.toInt)), (.bltu, fun a b => decide (a.toNat < b.toNat)), (.bgeu, fun a b => decide (b.toNat ≤ a.toNat))]

/-- The loads of R86 with their size and the value RD takes. -/
def loadTable : List ((Nat → Nat → Nat → Nat → BitVec 12 → Instr) × Nat × (Nat → W64)) :=
  [(.ldb, 1, BitVec.ofNat 64), (.ldh, 2, BitVec.ofNat 64), (.ldw, 4, BitVec.ofNat 64), (.ldd, 8, BitVec.ofNat 64),
   (.ldbs, 1, fun v => BitVec.ofInt 64 (sint 8 v)), (.ldhs, 2, fun v => BitVec.ofInt 64 (sint 16 v)), (.ldws, 4, fun v => BitVec.ofInt 64 (sint 32 v))]
/-- Instruction `c` loads into RD through window `w` at offset `off`: a load of R86 at RA + sign-extended IMM, or LD.AQ at
    s[RA]; `e` is its size and the value RD takes. -/
def LoadForm (e : Nat × (Nat → W64)) (s : State) (i rd w : Nat) (off : W64) (c : Instr) : Prop :=
  (∃ l ∈ loadTable, e = l.2 ∧ ∃ ra imm, c = l.1 i rd w ra imm ∧ off = (s.seat i).sx ra + BitVec.ofInt 64 imm.toInt) ∨
  (∃ wide ra, c = .ldAq i wide rd w ra ∧ off = (s.seat i).sx ra ∧
    e = if wide then (8, fun v => BitVec.ofInt 64 (sint 64 v)) else (4, fun v => BitVec.ofInt 64 (sint 32 v)))

/-- The stores of R86 with their size. -/
def storeTable : List ((Nat → Nat → Nat → Nat → BitVec 12 → Instr) × Nat) := [(.stb, 1), (.sth, 2), (.stw, 4), (.std, 8)]
/-- Instruction `c` stores the low `n` bytes of `v` through window `w` at offset `off`: a store of R86, or ST.RL. -/
def StoreForm (n : Nat) (v : W64) (s : State) (i w : Nat) (off : W64) (c : Instr) : Prop :=
  (∃ l ∈ storeTable, n = l.2 ∧ ∃ rs ra imm, c = l.1 i rs w ra imm ∧ off = (s.seat i).sx ra + BitVec.ofInt 64 imm.toInt ∧ v = (s.seat i).sx rs) ∨
  (∃ wide ra rb, c = .stRl i wide w ra rb ∧ off = (s.seat i).sx ra ∧ v = (s.seat i).sx rb ∧ (n = if wide then 8 else 4) ∧
    ((s.seat i).mode = .t → ∀ o ∈ (s.seat i).outst, o.tmode = false))

/-- The read-modify-write functions of R88: memory becomes a function of the width in bits, the old value, RB and RD. -/
def atomTable : List ((Nat → Bool → BitVec 2 → Nat → Nat → Nat → Nat → Instr) × (Nat → Nat → Nat → Nat → Nat)) :=
  [(.atomSwap, fun _ _ b _ => b), (.atomAdd, fun _ a b _ => a + b), (.atomAnd, fun _ a b _ => a &&& b), (.atomOr, fun _ a b _ => a ||| b),
   (.atomXor, fun _ a b _ => a ^^^ b), (.atomMin, fun k a b _ => if sint k b < sint k a then b else a),
   (.atomMax, fun k a b _ => if sint k a < sint k b then b else a), (.atomMinu, fun _ a b _ => min a b), (.atomMaxu, fun _ a b _ => max a b),
   (.atomCas, fun _ a b d => if a = d then b else a)]

/-- Instruction `c` is a load or a store of R86 of `n` bytes through window `w` at offset `off`, needing rights `need`. -/
def AccessForm (n need : Nat) (k : Kind) (s : State) (i w : Nat) (off : W64) (c : Instr) : Prop :=
  (need = 1 ∧ k = .load ∧ ∃ l ∈ loadTable, n = l.2.1 ∧ ∃ rd ra imm, c = l.1 i rd w ra imm ∧ off = (s.seat i).sx ra + BitVec.ofInt 64 imm.toInt) ∨
  (need = 2 ∧ k = .store ∧ ∃ l ∈ storeTable, n = l.2 ∧ ∃ rs ra imm, c = l.1 i rs w ra imm ∧ off = (s.seat i).sx ra + BitVec.ofInt 64 imm.toInt)

/-- The functions of R90: the element's width in bits and the two elements, as numbers below 2^width. -/
def vopTable : List ((Nat → Nat → Nat → VSrc → Nat → BitVec 2 → Instr) × (Nat → Nat → Nat → Nat)) :=
  [(.vadd, fun w a b => (a + b) % 2 ^ w), (.vsub, fun w a b => (a + 2 ^ w - b) % 2 ^ w), (.vmul, fun w a b => a * b % 2 ^ w),
   (.vmulh, fun w a b => (sint w a * sint w b / 2 ^ w % 2 ^ w).toNat), (.vmulhu, fun w a b => a * b / 2 ^ w),
   (.vand, fun _ a b => a &&& b), (.vor, fun _ a b => a ||| b), (.vxor, fun _ a b => a ^^^ b),
   (.vsll, fun w a b => a * 2 ^ (b % w) % 2 ^ w), (.vsrl, fun w a b => a / 2 ^ (b % w)),
   (.vsra, fun w a b => (sint w a / 2 ^ (b % w) % 2 ^ w).toNat),
   (.vmin, fun w a b => if sint w a < sint w b then a else b), (.vmax, fun w a b => if sint w a < sint w b then b else a),
   (.vminu, fun _ a b => min a b), (.vmaxu, fun _ a b => max a b),
   (.vaddss, fun w a b => (max (-2 ^ (w - 1)) (min (2 ^ (w - 1) - 1) (sint w a + sint w b)) % 2 ^ w).toNat),
   (.vaddsu, fun w a b => min (2 ^ w - 1) (a + b)),
   (.vsubss, fun w a b => (max (-2 ^ (w - 1)) (min (2 ^ (w - 1) - 1) (sint w a - sint w b)) % 2 ^ w).toNat),
   (.vsubsu, fun _ a b => a - b), (.vavgu, fun _ a b => (a + b + 1) / 2), (.vabsdu, fun _ a b => max a b - min a b)]
/-- A vector instruction of `n` bytes on an engine seat with VL within capacity completes: active element `k` of VD becomes
    `f` of the seat as issued, the other elements are kept, and with no active element only pc changes. -/
def VecRuns (c : Instr) (i n vd p : Nat) (ew : BitVec 2) (f : Seat → Nat → Nat) : Prop :=
  ∀ s, Ready s i n → i ≠ plantSeat →
    let x := (issued s i n).seat i
    x.vl ≤ 256 / esize ew →
    Completes c s (fun t =>
      ((∀ k < 256 / esize ew, vactive x p ew k = false) → SeatBecomes (issued s i n) t i (x.advance n)) ∧
      ((∃ k < 256 / esize ew, vactive x p ew k = true) → ∃ v, SeatBecomes (issued s i n) t i ((x.setV vd v).advance n) ∧
        ∀ k < 256 / esize ew, velem v ew k = if vactive x p ew k then f x k else velem (x.vx vd) ew k))

/-- The comparisons of R91. -/
def vcmpTable : List ((Nat → Nat → Nat → Nat → Nat → BitVec 2 → Instr) × (Nat → Nat → Nat → Bool)) :=
  [(.vcmpEq, fun _ a b => decide (a = b)), (.vcmpNe, fun _ a b => decide (a ≠ b)), (.vcmpLt, fun w a b => decide (sint w a < sint w b)),
   (.vcmpGe, fun w a b => decide (sint w b ≤ sint w a)), (.vcmpLtu, fun _ a b => decide (a < b)), (.vcmpGeu, fun _ a b => decide (b ≤ a))]

/-- The moves of R92 that take an index or an amount, with the value of an active element. -/
def vmoveTable : List ((Nat → Nat → Nat → Nat → Nat → BitVec 2 → Instr) × (Seat → Nat → Nat → Nat → BitVec 2 → Nat → Nat)) :=
  [(.vslideup, fun x vd va b ew k => if (x.sx b).toNat ≤ k then velem (x.vx va) ew (k - (x.sx b).toNat) else velem (x.vx vd) ew k),
   (.vslidedn, fun x _ va b ew k => if k + (x.sx b).toNat < x.vl then velem (x.vx va) ew (k + (x.sx b).toNat) else 0),
   (.vperm, fun x _ va b ew k => if velem (x.vx b) ew k < x.vl then velem (x.vx va) ew (velem (x.vx b) ew k) else 0)]
/-- The reductions of R92: what the result is of the active elements. -/
def vredTable : List ((Nat → Nat → Nat → Nat → BitVec 2 → Instr) × (Nat → List Nat → Int → Prop)) :=
  [(.vredsum, fun w l v => v = (l.map (sint w)).sum), (.vredsumu, fun _ l v => v = ((l.sum : Nat) : Int)),
   (.vredmin, fun w l v => v ∈ l.map (sint w) ∧ ∀ y ∈ l.map (sint w), v ≤ y),
   (.vredmax, fun w l v => v ∈ l.map (sint w) ∧ ∀ y ∈ l.map (sint w), y ≤ v),
   (.vredminu, fun _ l v => ∃ n ∈ l, v = (n : Int) ∧ ∀ y ∈ l, n ≤ y), (.vredmaxu, fun _ l v => ∃ n ∈ l, v = (n : Int) ∧ ∀ y ∈ l, y ≤ n)]

/-- The vector loads and stores of R94 with their offset of element `k`. -/
def vmemTable : List ((Nat → Nat → Nat → Nat → Nat → Nat → BitVec 2 → Instr) × (Nat → Nat → Nat → Nat → Nat → Nat → BitVec 2 → Instr) ×
    (Seat → Nat → Nat → BitVec 2 → Nat → W64)) :=
  [(fun i vd w ra _ p ew => .vld i vd w ra p ew, fun i vd w ra _ p ew => .vst i vd w ra p ew,
     fun x ra _ ew k => x.sx ra + BitVec.ofNat 64 (k * esize ew)),
   (.vlds, .vsts, fun x ra b _ k => x.sx ra + BitVec.ofInt 64 (k * (x.sx b).toInt)),
   (.vldx, .vstx, fun x ra b ew k => x.sx ra + BitVec.ofNat 64 (velem (x.vx b) ew k * esize ew))]

/-- The one-word vector instructions (R90 to R94) on given operands. -/
def vectorForms (i a b d r p : Nat) (ew : BitVec 2) : List Instr :=
  vopTable.map (fun e => e.1 i a b (.v d) p ew) ++ vopTable.map (fun e => e.1 i a b (.s d) p ew) ++
  vcmpTable.map (fun e => e.1 i a b d p ew) ++ vmoveTable.map (fun e => e.1 i a b d p ew) ++
  vredTable.map (fun e => e.1 i a b p ew) ++ vmemTable.flatMap (fun e => [e.1 i a b d r p ew, e.2.1 i a b d r p ew]) ++
  [.vmv i a b p ew, .vbcast i a b p ew, .vext i a b d p ew, .vins i a b d p ew]

/-- The seat is in M, or in H with the descriptor its domain's own (R98). -/
def Privileged (x : Seat) (d : Desc) : Prop := x.mode = .m ∨ (x.mode = .h ∧ dHdom d = x.hdom)

/-- The fences of R62 with what they order before them. -/
def fenceTable : List ((Nat → Instr) × FenceKind × (Outst → Prop)) :=
  [(.fenceRw, .rw, fun o => o.io = false), (.fenceStg, .stg, fun o => o.io = false), (.fenceR, .r, fun o => o.io = false ∧ o.store = false),
   (.fenceW, .w, fun o => o.io = false ∧ o.store = true), (.fenceIo, .io, fun _ => True), (.fenceI, .i, fun o => o.store = true)]

/-- What WPOS gives RD for a web, where it completes (R113): by the web's state in POS_STATUS (0 off, 3 LOST). -/
def WposValue (s : State) (target : W64) (web : Nat) (v : W64) : Prop :=
  let st := s.fld Reg.POS_STATUS (2 * web + 1) (2 * web)
  (st = 0 ∧ v = s.reg64 (Reg.POSn_POS_LO web)) ∨ (st = 3 ∧ v = s.reg64 (Reg.POSn_TRUST_LO web)) ∨
  (st ≠ 0 ∧ st ≠ 3 ∧ target.toNat ≤ (s.reg64 (Reg.POSn_POS_LO web)).toNat ∧ v = s.reg64 (Reg.POSn_POS_LO web))

/-- Source `n` raises no record and no safe state: no notification, the first-source record taken, no grace running, its class capped at U. -/
def quiet (s : State) (n : Nat) : Prop :=
  s.classMax n ≤ 1 ∧ (s.source n).grace = .idle ∧ s.bit Reg.FC_FIRST 8 = true ∧ ∀ c, c < 3 → s.bit (Reg.FC_SRCn_CFG n) (12 + c) = false

/-- Counter `a` has counted one more, saturating. -/
def Counted (s t : State) (a : Nat) : Prop := t.reg a = BitVec.ofNat 32 (min (2 ^ 32 - 1) ((s.reg a).toNat + 1))

/-- The oldest work of unit `u` has ended: its record tells `done` lines and the status (R110). -/
def WorkEnded (s t : State) (e u : Nat) (w : Work) (st : WorkStatus) (done : Nat) : Prop :=
  t.queue e u = (s.queue e u).tail ∧ (t.seat w.seat).stgOut = (s.seat w.seat).stgOut - 1 ∧ t.mem = s.mem ∧
  bytesAt t.store (recordPlace w.seat w.seq) 16 = completionRecord s u w.seq done st.code

/-- The oldest work of unit `u` has started. -/
def WorkStarted (t : State) (e u : Nat) (w : Work) : Prop := t.front e u = some { w with started := true }

/-- The WORK_START commands by unit. -/
def startOf (e u : Nat) : Instr :=
  match u with
  | 0 => .lcuWorkStart e | 1 => .ccuWorkStart e | 2 => .scuWorkStart e | 3 => .nmuWorkStart e | 4 => .emuWorkStart e | _ => .icuWorkStart e

/-- The descriptor checks by unit. -/
def descOk (s : State) (e u : Nat) (w : Work) : Bool :=
  match u with
  | 0 => lcuValid w | 1 => ccuValid w | 2 => scuValid w | 3 => nmuValid w
  | 4 => emuValid s w.desc && inSlot (w.slot 1) (emuRcb w.desc) 64
  | _ => icuValid s e w

/-- No record of the spare controller goes anywhere: no press-control domain, and no seat of engine `e` out of OFF. -/
def noSpareRecords (s : State) (e : Nat) : Prop := s.roleDomain 1 = none ∧ ∀ k, k < 96 → (s.seat (128 * e + k)).st = .off

/-- The queue of class `c` of port `p` has one more frame, of RING subtype `sub`. -/
def Queued (s t : State) (p c sub : Nat) : Prop :=
  ∃ q, ((t.link p).cls c).queue = ((s.link p).cls c).queue ++ [q] ∧ leAt q.f.payload 0 1 = sub

/-- The peers of these ports take frames of class `c`. -/
def portsTake (s : State) (ports : List Nat) (c : Nat) : Prop := ∀ p ∈ ports, ((s.link p).peerCredits[c]?).getD 0 ≠ 0

/-- A RING frame is accepted and consumed here by an enabled device, leaving state `v`. -/
def Taken (s v : State) (h : RxHdr) (bs : List Byte) (sub n : Nat) : Prop :=
  ∃ u, ringRx s h bs sub n = (true, u) ∧ ringForward u h bs = (true, v) ∧ v.ringSt ≠ 0

/-- A frame has opened on port `p` at counter value `x`. -/
def Opened (s t : State) (p : Nat) (x : W64) : Prop :=
  t.reg (Reg.SPn_FRAME p) = s.reg (Reg.SPn_FRAME p) + 1 ∧ t.reg64 (Reg.SPn_VTIME_LO p) = x ∧ t.fld (Reg.SPn_STATUS p) 1 0 = 2 ∧
  ∃ g, sget none t.sens.opened p = some g ∧ g.number = s.reg (Reg.SPn_FRAME p) + 1 ∧ g.time = x ∧ g.rows = [] ∧ g.broken = false ∧ g.unit = s.boundUnit p

/-- The open frame `g` of port `p` has closed and is its unit's. -/
def ClosedFrame (s t : State) (p : Nat) (g : SensorFrame) : Prop :=
  sget none t.sens.opened p = none ∧ (∀ u, g.unit = some u → sget [] t.sens.inbox u = sget [] s.sens.inbox u ++ [g]) ∧
  (g.rows.length ≤ 8192 → t.fld (Reg.SPn_LAST p) 13 0 = g.rows.length) ∧
  (if g.broken then Counted s t (Reg.SPn_BROKEN p) ∧ t.bit (Reg.SPn_STATUS p) 8 = true else t.reg (Reg.SPn_BROKEN p) = s.reg (Reg.SPn_BROKEN p)) ∧
  t.fld (Reg.SPn_STATUS p) 1 0 = (if s.bit (Reg.SPn_CFG p) 0 then 1 else 0)

/-- The output image of a frame of thermal unit `n` under table `tb`, with no page in error (R405, R409, R410). -/
def tuImage (s : State) (n w h : Nat) (f : SensorFrame) (tb : TuTable) : List (List (Option Nat)) :=
  let raw := ((f.rows.drop (fbits (f.par (Reg.TUn_GEOM n)) 25 23)).map (fun r => r.map BitVec.toNat)).flatMap id
  let ys := (List.range h).map (fun y => (List.range w).map (fun x => match tb.px[y * w + x]?, raw[y * w + x]? with
    | some q, some r => if q.bad then none else some (tuY q tb.tc tb.tref (tuTfpa n f tb.tref) r)
    | _, _ => none))
  (tuReplace none ys).map (fun row => row.map (tuOut tb.rt (s.fld (Reg.TUn_SHOFS n) 15 0)))

/-- A calibration of unit `n` has ended for a cause, without a result. -/
def CalFailed (s t : State) (n st cause : Nat) : Prop :=
  t.tuState n = st ∧ t.fld (Reg.TUn_STATUS n) 11 9 = cause ∧ Counted s t (Reg.TUn_CALFAIL n) ∧ (t.tu n).closing = none

/-- A DOM register's write: the writer's domain, or from M mode the value; a requester that may not reach it gets a bus error. -/
def DomWrite (s : State) (c : Instr) (who : Requester) (a : Nat) (v : W32) : Prop :=
  (s.controlAllowed who a true = false → Completes c s (fun t => t = { s with out := s.out ++ [Out.busError who] })) ∧
  (s.controlAllowed who a true = true → Completes c s (fun t => RegBecomes s t a (if s.whoM who then v &&& 7 else BitVec.ofNat 32 ((s.whoDomain who).getD 0))))

/-- Engine `n` runs with no override, test signal, notch, tolerance or capture, and nothing to initialise. -/
def plainLoop (s : State) (n : Nat) : Prop :=
  s.leOn n = true ∧ s.safeState = 3 ∧ (∀ b ∈ [3, 5, 6, 7], s.bit (Reg.LEn_STATUS n) b = false) ∧ fbit (s.leCfg n) 4 = false ∧ (s.le n).forced = false ∧
  (s.le n).initDue = false ∧ (s.le n).modelDue = false ∧ s.fld (Reg.LEn_MTOL n) 30 0 = 0 ∧ s.bit Reg.LE_CAP_STATUS 0 = false ∧ (s.le n).q ≤ fbits (s.leCfg n) 2 1

/-- Engine `n` has evaluated feedback `x` by the law of R474. -/
def LawApplied (s t : State) (n : Nat) (x : Int) : Prop :=
  let d0 := sat32 (s.s32 (Reg.LEn_SP n) - x)
  let d := if fbit (s.leCfg n) 3 then sat32 (-d0) else d0
  let e := sat32 (d + sar (s.le n).iacc 16)
  let band : Int := (s.fld (Reg.LEn_BAND n) 30 0 : Nat)
  let st := leStep (s.le n) e band (s.fld (Reg.LEn_DWELL n) 7 0) (fbits (s.leCfg n) 2 1 + 1)
  let held := leHeld st.1.q (fbits (s.leCfg n) 2 1 + 1) e band
  t.reg (Reg.LEn_FB n) = BitVec.ofInt 32 x ∧ t.reg (Reg.LEn_YF n) = BitVec.ofInt 32 x ∧ (t.le n).q = st.1.q ∧ t.bit (Reg.LEn_STATUS n) 10 = held ∧
  (t.le n).iacc = (if held then (s.le n).iacc else leInteg (s.le n).iacc (mulCoef (s.act (Reg.LEn_COEFk n 5)) d) (s.fld (Reg.LEn_ILIM n) 30 0)) ∧
  t.reg (Reg.LEn_ISH n) = BitVec.ofInt 32 (sar (t.le n).iacc 16) ∧ (t.le n).arrived = false ∧ (t.le n).missRun = 0 ∧ t.mem = s.mem ∧
  (if st.2 then Counted s t (Reg.LEn_STEPCNT n) else t.reg (Reg.LEn_STEPCNT n) = s.reg (Reg.LEn_STEPCNT n)) ∧
  (if fbit (s.leCfg n) 5 then t.fld (Reg.LEn_STATUS n) 1 0 = st.1.q else (t.le n).due = true ∧ t.fld (Reg.LEn_STATUS n) 1 0 = s.fld (Reg.LEn_STATUS n) 1 0)

/-- Engine `n` has missed an evaluation (R481). -/
def Missed (s t : State) (n : Nat) : Prop :=
  t.bit (Reg.LEn_STATUS n) 2 = true ∧ Counted s t (Reg.LEn_MISSCNT n) ∧ (t.le n).missRun = (s.le n).missRun + 1 ∧ (t.le n).q = (s.le n).q ∧ (t.le n).iacc = (s.le n).iacc ∧
  (0 < s.fld (Reg.LEn_DWELL n) 15 8 → s.fld (Reg.LEn_DWELL n) 15 8 ≤ (s.le n).missRun + 1 → s.bit (Reg.LEn_STATUS n) 7 = false → t.bit (Reg.LEn_STATUS n) 7 = true ∧ t.live 23 = true)

/-- A sense sample of channel `n` after its trim (R492). -/
def trimmed (s : State) (n : Nat) (raw : BitVec 14) : Int :=
  clampInt (-8192) 8191 (sar ((sint 14 raw.toNat - sint 16 (s.fld (Reg.CAL_Vn_SENSE n) 15 0)) * (s.fld (Reg.CAL_Vn_SENSE n) 31 16 : Nat) + 8192) 14)

/-- The transfer of port `n` has ended with `x`. -/
def XferEnded (t : State) (n x : Nat) : Prop :=
  (t.spi n).xfer = none ∧ t.bit (Reg.SPIn_STATUS n) 0 = false ∧ t.bit (Reg.SPIn_STATUS n) 1 = true ∧ t.fld (Reg.SPIn_STATUS n) 4 2 = x

/-- The words received are in the plant store, and RXCNT tells them. -/
def Stored (t : State) (n : Nat) (x : SpiXfer) (ws : List W32) (bits : Nat) : Prop :=
  let bs := (wordBytes x.wlen ws).take x.len
  bytesAt t.store (plantStore + x.rx) bs.length = bs ∧ t.reg (Reg.SPIn_RXCNT n) = BitVec.ofNat 32 (bs.length + 2 ^ 13 * (bits % 64))

/-- Port `n` has sent a frame. -/
def BusSent (s t : State) (n ty da : Nat) (data : List Byte) : Prop := t.out = s.out ++ [Out.busFrame n ty da (bbMac s n) data]

/-- Port `n`, done with the token, has passed it on, or goes on as the sole master. -/
def TokenDone (s t : State) (n : Nat) : Prop :=
  (s.bb n).tokenCount < 49 → (bbSole s n = true → bbState t n = 2 ∧ t.out = s.out ∧ (t.bb n).frameCount = 0) ∧
    (bbSole s n = false → bbNs s n ≠ bbMac s n → bbState t n = 5 ∧ BusSent s t n 0 (bbNs s n) [] ∧ (t.bb n).retry = 0)

/-- The calibration command has ended with `r`. -/
def CalEnded (t : State) (r : Nat) : Prop :=
  t.fld Reg.CAL_STATUS 4 2 = r ∧ t.bit Reg.CAL_STATUS 0 = false ∧ t.bit Reg.CAL_STATUS 1 = true

/-- A snapshot of source `src` at `x` is latching. -/
def Latching (s t : State) (src : SnapSrc) (x : W64) : Prop :=
  RegsOnly s t ∧ t.bit Reg.SNP_STATUS 0 = false ∧ t.bit Reg.SNP_STATUS 2 = true ∧ t.fld Reg.SNP_STATUS 4 3 = src.code ∧ t.reg64 Reg.SNP_TIME_LO = x ∧
  t.reg Reg.SNP_ISLAND = s.reg Reg.SYS_ISLAND_ON &&& ~~~(s.reg Reg.SYS_ISLAND_FENCE) ∧ t.reg Reg.SNP_FCSTAT_LO = s.reg Reg.FC_STATUS_LO ∧ t.reg Reg.SNP_FCLIVE_HI = s.reg Reg.FC_LIVE_HI ∧
  ∀ w, w < 4 → t.reg (Reg.SNP_WPOSw_LO w) = (if s.islandUp 22 then s.reg (Reg.POSn_POS_LO w) else 0)

/-- A trigger of source `src` at `x` does what SNP_CTL and ARMED say. -/
def Triggers (s : State) (c : Instr) (src : SnapSrc) (x : W64) : Prop :=
  (s.bit Reg.SNP_CTL src.code = false → Completes c s (fun t => t = s)) ∧
  (s.bit Reg.SNP_CTL src.code = true → s.bit Reg.SNP_STATUS 0 = false → Completes c s (fun t => RegsOnly s t ∧ Counted s t Reg.SNP_MISS ∧ ∀ a, a ≠ Reg.SNP_MISS → t.reg a = s.reg a)) ∧
  (s.bit Reg.SNP_CTL src.code = true → s.bit Reg.SNP_STATUS 0 = true → Completes c s (fun t => Latching s t src x))

/-- A debug command is in progress and will return `data` and `status`. -/
def DbgBusy (s t : State) (addr : BitVec 48) (data : W32) (st : DbgStatus) : Prop :=
  t.dbg = { addr := addr, data := s.dbg.data, status := DbgStatus.busy.code, pend := some (data, st.code) }

/-- The invariant: every store is in canonical form, and the part is CLOSED when `k` says so. -/
def Inv (k : Bool) (s : State) : Prop := s.canonical = true ∧ (k = true → s.closed = true)

end Sys2Proof.Claims

open Sys2Proof Sys2Proof.Machine Sys2Proof.Claims

/-- A step is exec of the command in front, on the state with the rest of the queue. -/
def Obligations.StepRunsFrontCommand : Prop :=
  ∀ (c : Instr) (rest : List Instr) (s : State), s.pending = c :: rest → step s = exec c { s with pending := rest }

/-- The model's choice of log entry 1 (DESIGN CHOICE): on an empty queue only ring time moves, by one nanosecond, the unit R367 gives it. -/
def Obligations.IdleStepIsOneTick : Prop :=
  ∀ s : State, s.pending = [] → step s = .next { s with ringTime := s.ringTime + 1 }

/-- Each scalar register operation but the divisions gives RD its result of R81 and moves pc by 4; nothing else changes. Each immediate operation gives RD its result of R83; a long form moves pc by 8. -/
def Obligations.ScalarRegisterOperationsGiveTheirResults : Prop :=
  ((∀ e ∈ scalarTable, ∀ i rd ra rb : Nat, RunsTo (e.1 i rd ra rb) i 4 (fun x => (x.setX rd (e.2 (x.sx ra) (x.sx rb))).advance 4)) ∧
  (∀ i rd ra : Nat, RunsTo (.popc i rd ra) i 4 (fun x => (x.setX rd (BitVec.ofNat 64 ((List.range 64).countP (x.sx ra).getLsbD))).advance 4)) ∧
  (∀ (i rd ra : Nat) (s : State), Ready s i 4 → Completes (.clz i rd ra) s (fun t =>
    ∃ n ≤ 64, ((issued s i 4).seat i).sx ra >>> (64 - n) = 0 ∧ (n < 64 → (((issued s i 4).seat i).sx ra).getLsbD (63 - n) = true) ∧
      SeatBecomes (issued s i 4) t i ((((issued s i 4).seat i).setX rd (BitVec.ofNat 64 n)).advance 4)))) ∧
  ((∀ e ∈ immTable, ∀ (i rd ra : Nat) (imm : BitVec 16), RunsTo (e.1 i rd ra imm) i 4 (fun x => (x.setX rd (e.2 (x.sx ra) imm)).advance 4)) ∧
  (∀ e ∈ shiftTable, ∀ (i rd ra : Nat) (n : BitVec 6), RunsTo (e.1 i rd ra n) i 4 (fun x => (x.setX rd (e.2 (x.sx ra) n.toNat)).advance 4)) ∧
  (∀ (i rd : Nat) (imm : BitVec 16), RunsTo (.lui i rd imm) i 4 (fun x => (x.setX rd (BitVec.ofInt 64 (imm.toInt * 2 ^ 16))).advance 4)) ∧
  (∀ (i rd : Nat) (imm : W32), RunsTo (.liL i rd imm) i 8 (fun x => (x.setX rd (BitVec.ofInt 64 imm.toInt)).advance 8)) ∧
  (∀ (i rd : Nat) (imm : W32), RunsTo (.lihL i rd imm) i 8 (fun x => (x.setX rd (imm ++ (x.sx rd).setWidth 32)).advance 8)) ∧
  (∀ (i rd ra : Nat) (imm : W32), RunsTo (.addiL i rd ra imm) i 8 (fun x => (x.setX rd (x.sx ra + BitVec.ofInt 64 imm.toInt)).advance 8)))

/-- Every division completes with the value of R82's table at an edge and the exact result elsewhere; only RD and pc change. -/
def Obligations.DivisionsSaturateAndNeverTrap : Prop :=
  ∀ (i rd ra rb : Nat) (s : State), Ready s i 4 →
  let x := (issued s i 4).seat i
  let a := x.sx ra
  let b := x.sx rb
  (∃ q, Completes (.div i rd ra rb) s (fun t => SeatBecomes (issued s i 4) t i ((x.setX rd q).advance 4)) ∧
    (b = 0 → 0 ≤ a.toInt → q.toInt = 2 ^ 63 - 1) ∧ (b = 0 → a.toInt < 0 → q.toInt = -2 ^ 63) ∧
    (a.toInt = -2 ^ 63 → b.toInt = -1 → q.toInt = 2 ^ 63 - 1) ∧
    (b ≠ 0 → ¬ (a.toInt = -2 ^ 63 ∧ b.toInt = -1) → q.toInt = a.toInt.tdiv b.toInt)) ∧
  (∃ q, Completes (.divu i rd ra rb) s (fun t => SeatBecomes (issued s i 4) t i ((x.setX rd q).advance 4)) ∧
    (b = 0 → q.toNat = 2 ^ 64 - 1) ∧ (b ≠ 0 → q.toNat = a.toNat / b.toNat)) ∧
  (∃ q, Completes (.rem i rd ra rb) s (fun t => SeatBecomes (issued s i 4) t i ((x.setX rd q).advance 4)) ∧
    (b = 0 → q = 0) ∧ (a.toInt = -2 ^ 63 → b.toInt = -1 → q = 0) ∧
    (b ≠ 0 → ¬ (a.toInt = -2 ^ 63 ∧ b.toInt = -1) → q.toInt = a.toInt - b.toInt * a.toInt.tdiv b.toInt)) ∧
  (∃ q, Completes (.remu i rd ra rb) s (fun t => SeatBecomes (issued s i 4) t i ((x.setX rd q).advance 4)) ∧
    (b = 0 → q = 0) ∧ (b ≠ 0 → q.toNat = a.toNat % b.toNat))

/-- Each branch of R84 moves pc by its offset when its condition holds and by 4 when it does not; JAL links and jumps. -/
def Obligations.BranchesAndJumpsSetPc : Prop :=
  (∀ e ∈ branchTable, ∀ (i ra rb : Nat) (off : BitVec 16), RunsTo (e.1 i ra rb off) i 4 (fun x =>
     { x with pc := if e.2 (x.sx ra) (x.sx rb) then x.pc + BitVec.ofInt 40 (off.toInt * 4) else x.pc + 4 })) ∧
  (∀ (i rd : Nat) (off : BitVec 21), RunsTo (.jal i rd off) i 4 (fun x =>
     { x.setX rd (BitVec.ofNat 64 (x.pc + 4).toNat) with pc := x.pc + BitVec.ofInt 40 (off.toInt * 4) }))

/-- JALR by R85, with both its outcomes. -/
def Obligations.JalrJumpsOrTraps : Prop :=
  ∀ (i rd ra : Nat) (imm : BitVec 16) (s : State), Ready s i 4 →
  let x := (issued s i 4).seat i
  let tgt := ((x.sx ra).toNat + (BitVec.ofInt 64 imm.toInt).toNat) % 2 ^ 40
  (tgt % 4 = 0 → Completes (.jalr i rd ra imm) s (fun t => SeatBecomes (issued s i 4) t i
     { x.setX rd (BitVec.ofNat 64 (x.pc + 4).toNat) with pc := BitVec.ofNat 40 tgt })) ∧
  (tgt % 4 ≠ 0 → Completes (.jalr i rd ra imm) s (fun t => t = trap (issued s i 4) i 0x03 (BitVec.ofNat 64 tgt) ∧
     (t.seat i).x = x.x))

/-- A load reads its bytes when it issues and delivers their extended value, and the next pc, when its access returns (R86, R164). -/
def Obligations.LoadsWaitAndDeliverTheirValue : Prop :=
  ∀ (e : Nat × (Nat → W64)) (s : State) (i rd w : Nat) (off : W64) (c : Instr), LoadForm e s i rd w off c → Ready s i 4 →
  AccessOk (issued s i 4) i w off.toNat e.1 e.1 1 →
  Completes c s (fun t =>
    SeatMoves (issued s i 4) t i { (issued s i 4).seat i with st := .wait, wait := (t.seat i).wait } ∧
    (sget false s.haltReq i = false → ∀ ret ∈ [Instr.seatAccessComplete i [], Instr.tenantAccessReturn i false []],
      ((ret = .seatAccessComplete i []) ↔ ((issued s i 4).seat i).mode ≠ .t) → (((issued s i 4).seat i).mode = .t → ∀ o ∈ ((issued s i 4).seat i).outst, o.tmode = false) →
      Completes ret t (fun u => SeatMoves t u i { (((issued s i 4).seat i).setX rd
        (e.2 (leNat (bytesAt s.mem (dBase (((issued s i 4).seat i).wx w) + off.toNat) e.1)))).advance 4 with wait := .none })))

/-- A store writes its bytes at BASE + offset and nothing else of memory; its seat goes on with the store outstanding (R86, R144). -/
def Obligations.StoresWriteTheirBytesAlone : Prop :=
  ∀ (n : Nat) (v : W64) (s : State) (i w : Nat) (off : W64) (c : Instr), StoreForm n v s i w off c → Ready s i 4 →
  WriteOk (issued s i 4) i w off.toNat n n →
  let x := (issued s i 4).seat i
  let a := dBase (x.wx w) + off.toNat
  Completes c s (fun t =>
    t = { issued s i 4 with mem := t.mem, pages := t.pages, seats := t.seats } ∧
    bytesAt t.mem a n = leBytes n v.toNat ∧ (∀ b, b < a ∨ a + n ≤ b → t.byteAt b = s.byteAt b) ∧
    t.seat i = { x.advance 4 with outst := x.outst ++ [{ store := true, io := false, tmode := x.mode == .t }] } ∧
    ∀ j, j ≠ i → t.seat j = s.seat j)

/-- A read-modify-write function reads and writes in one step; RD will receive the old value (R88). -/
def Obligations.AtomicsReadModifyWriteInOneStep : Prop :=
  ∀ e ∈ atomTable, ∀ (i : Nat) (wide : Bool) (ord : BitVec 2) (rd w ra rb : Nat) (s : State), Ready s i 4 →
  let x := (issued s i 4).seat i
  let n := if wide then 8 else 4
  let off := x.sx ra
  let a := dBase (x.wx w) + off.toNat
  let old := leNat (bytesAt s.mem a n)
  AccessOk (issued s i 4) i w off.toNat n n 3 → WriteOk (issued s i 4) i w off.toNat n n →
  (x.mode = .t → ∀ o ∈ x.outst, o.tmode = false) →
  Completes (e.1 i wide ord rd w ra rb) s (fun t =>
    t = { issued s i 4 with mem := t.mem, pages := t.pages, seats := t.seats, regs := t.regs } ∧
    bytesAt t.mem a n = leBytes n (e.2 (8 * n) old ((x.sx rb).toNat % 2 ^ (8 * n)) ((x.sx rd).toNat % 2 ^ (8 * n))) ∧
    (∀ b, b < a ∨ a + n ≤ b → t.byteAt b = s.byteAt b) ∧
    (∃ f, (t.seat i).wait = .access f ∧ f.result = .x rd (BitVec.ofInt 64 (sint (8 * n) old)) ∧ f.len = 4 ∧
      t.seat i = { x with st := .wait, wait := .access f }) ∧
    (∀ j, j ≠ i → t.seat j = s.seat j) ∧ ∀ b, haltedReg i ≠ some b → t.reg b = (issued s i 4).reg b)

/-- A load or store takes the trap of the first check of R60 that fails, from the state as issued. -/
def Obligations.AccessChecksTrapInOrder : Prop :=
  ∀ (n need : Nat) (k : Kind) (s : State) (i w : Nat) (off : W64) (c : Instr), AccessForm n need k s i w off c → Ready s i 4 →
  let x := (issued s i 4).seat i
  let d := x.wx w
  let traps (cause : Nat) : Prop := Completes c s (fun t => t = trapAccess (issued s i 4) i cause w k n off)
  (dValid d = false → traps 0x04) ∧
  (dValid d = true → dLen d = 0 → traps 0x05) ∧
  (dValid d = true → dLen d ≠ 0 → ¬ OwnDesc x d → traps 0x06) ∧
  (dValid d = true → dLen d ≠ 0 → OwnDesc x d → dRights d &&& need ≠ need → traps 0x07) ∧
  (dValid d = true → dLen d ≠ 0 → OwnDesc x d → dRights d &&& need = need → dLen d < off.toNat + n → traps 0x08) ∧
  (dValid d = true → dLen d ≠ 0 → OwnDesc x d → dRights d &&& need = need → off.toNat + n ≤ dLen d → off.toNat % n ≠ 0 → traps 0x09) ∧
  (dValid d = true → dLen d ≠ 0 → OwnDesc x d → dRights d &&& need = need → off.toNat + n ≤ dLen d → off.toNat % n = 0 →
    dLoc d = false → dBase d + off.toNat + n ≤ s.memSize → (∃ g ∈ spanning (2 ^ 21) (dBase d + off.toNat) n, s.tag g ≠ dKtag d) → traps 0x0A)

/-- What the return of an access does to the seat that waits for it, and to one with stores outstanding (R59, R144, R164). -/
def Obligations.AccessReturnsDeliverOrTrap : Prop :=
  ∀ (i : Nat) (s : State) (f : Flight), (s.seat i).wait = .access f → sget false s.haltReq i = false →
  (f.tmode = true → ∀ o ∈ (s.seat i).outst, o.tmode = false) →
  let ret (late : Bool) : Instr := if f.tmode then .tenantAccessReturn i late [] else .seatAccessComplete i []
  ((∀ g ∈ f.tags, s.tag g.1 = g.2) → Completes (ret false) s (fun t =>
     SeatMoves s t i ((({ s.seat i with wait := .none, st := .run } : Seat).deliver f.result).advance f.len))) ∧
  ((∃ g ∈ f.tags, s.tag g.1 ≠ g.2) → Completes (ret false) s (fun t => ∃ u,
     SeatMoves s u i { s.seat i with wait := .none, st := .run } ∧ t = trapAccess u i 0x0A f.win f.kind f.size f.off)) ∧
  (f.tmode = true → (∀ g ∈ f.tags, s.tag g.1 = g.2) → Completes (ret true) s (fun t =>
     SeatMoves (s.count (Reg.SYS_Dd_TLAT_OVR (s.seat i).hdom) 1) t i ((({ s.seat i with wait := .none, st := .run } : Seat).deliver f.result).advance f.len))) ∧
  (∀ (s : State) (o : Outst) (os : List Outst), (s.seat i).wait = .none → (s.seat i).outst = o :: os → o.tmode = false →
     Completes (.seatAccessComplete i []) s (fun t => SeatBecomes s t i { s.seat i with outst := os })) ∧
  (∀ (s : State) (o : Outst) (os : List Outst), (s.seat i).wait = .none → (s.seat i).outst = o :: os → o.tmode = true →
     Completes (.tenantAccessReturn i false []) s (fun t => SeatBecomes s t i { s.seat i with outst := os }))

/-- Each active element of VD becomes its function; every other element, and everything but pc, is kept (R89, R90, R93). -/
def Obligations.VectorOperationsActOnActiveElements : Prop :=
  (∀ e ∈ vopTable, ∀ (i vd va p : Nat) (vb : VSrc) (ew : BitVec 2), VecRuns (e.1 i vd va vb p ew) i 4 vd p ew (fun x k =>
     e.2 (8 * esize ew) (velem (x.vx va) ew k) (match vb with | .v n => velem (x.vx n) ew k | .s n => (x.sx n).toNat % 2 ^ (8 * esize ew)))) ∧
  (∀ (i vd va vb p : Nat) (ew : BitVec 2) (sh : BitVec 6) (uns sat : Bool), sh.toNat < 8 * esize ew →
     VecRuns (.vmulsrL i vd va vb p ew sh uns sat) i 8 vd p ew (fun x k =>
       let w := 8 * esize ew
       let ext (n : Nat) : Int := if uns then n else sint w n
       let prod := ext (velem (x.vx va) ew k) * ext (velem (x.vx vb) ew k)
       let prod := (if 0 < sh.toNat then prod + 2 ^ (sh.toNat - 1) else prod) / 2 ^ sh.toNat
       let lo : Int := if uns then 0 else -2 ^ (w - 1)
       let hi : Int := if uns then 2 ^ w - 1 else 2 ^ (w - 1) - 1
       (((if sat then max lo (min hi prod) else prod) % 2 ^ w)).toNat)) ∧
  (∀ (i vd va vb p : Nat) (ew : BitVec 2) (sh : BitVec 6) (uns sat : Bool) (s : State), Ready s i 8 → 8 * esize ew ≤ sh.toNat →
     Completes (.vmulsrL i vd va vb p ew sh uns sat) s (fun t => t = trap (issued s i 8) i 0x00
       (wordL 0x08 (vd * 2 ^ 15 + va * 2 ^ 10 + vb * 2 ^ 5 + p * 4 + ew.toNat))))

/-- All E bits of an active element of pd take the comparison; the bits of inactive elements are kept (R91). -/
def Obligations.VectorComparesWriteElementPredicates : Prop :=
  ∀ e ∈ vcmpTable, ∀ (i pd va vb p : Nat) (ew : BitVec 2) (s : State), Ready s i 4 → i ≠ plantSeat →
  let x := (issued s i 4).seat i
  x.vl ≤ 256 / esize ew → (∃ k < 256 / esize ew, vactive x p ew k = true) →
  Completes (e.1 i pd va vb p ew) s (fun t => ∃ q, SeatBecomes (issued s i 4) t i ((x.setP pd q).advance 4) ∧
    ∀ b < 256, q.getLsbD b = if vactive x p ew (b / esize ew)
      then e.2 (8 * esize ew) (velem (x.vx va) ew (b / esize ew)) (velem (x.vx vb) ew (b / esize ew)) else (x.px pd).getLsbD b)

/-- What each VMOVE function writes (R92). -/
def Obligations.VectorMovesAndReductions : Prop :=
  (∀ e ∈ vmoveTable, ∀ (i vd va b p : Nat) (ew : BitVec 2), VecRuns (e.1 i vd va b p ew) i 4 vd p ew (fun x k => e.2 x vd va b ew k)) ∧
  (∀ (i vd va p : Nat) (ew : BitVec 2), VecRuns (.vmv i vd va p ew) i 4 vd p ew (fun x k => velem (x.vx va) ew k) ∧
     VecRuns (.vbcast i vd va p ew) i 4 vd p ew (fun x _ => (x.sx va).toNat % 2 ^ (8 * esize ew))) ∧
  (∀ (i d a b p : Nat) (ew : BitVec 2) (s : State), Ready s i 4 → i ≠ plantSeat →
     let x := (issued s i 4).seat i
     0 < x.vl → x.vl ≤ 256 / esize ew →
     Completes (.vext i d a b p ew) s (fun t => SeatBecomes (issued s i 4) t i
       ((x.setX d (if (x.sx b).toNat < x.vl then BitVec.ofNat 64 (velem (x.vx a) ew (x.sx b).toNat) else 0)).advance 4)) ∧
     Completes (.vins i d a b p ew) s (fun t =>
       (x.vl ≤ (x.sx b).toNat → SeatBecomes (issued s i 4) t i (x.advance 4)) ∧
       ((x.sx b).toNat < x.vl → ∃ v, SeatBecomes (issued s i 4) t i ((x.setV d v).advance 4) ∧ ∀ k < 256 / esize ew,
         velem v ew k = if k = (x.sx b).toNat then (x.sx a).toNat % 2 ^ (8 * esize ew) else velem (x.vx d) ew k))) ∧
  (∀ e ∈ vredTable, ∀ (i sd va p : Nat) (ew : BitVec 2) (s : State), Ready s i 4 → i ≠ plantSeat →
     let x := (issued s i 4).seat i
     let act := (List.range (256 / esize ew)).filter (vactive x p ew)
     x.vl ≤ 256 / esize ew → Completes (e.1 i sd va p ew) s (fun t =>
       (act = [] → SeatBecomes (issued s i 4) t i (x.advance 4)) ∧
       (act ≠ [] → ∃ v : Int, SeatBecomes (issued s i 4) t i ((x.setX sd (BitVec.ofInt 64 v)).advance 4) ∧
         e.2 (8 * esize ew) (act.map (velem (x.vx va) ew)) v)))

/-- What the vector loads and stores of R94 read and write, and the trap of a load's first failing element. -/
def Obligations.VectorMemoryMovesActiveElements : Prop :=
  ∀ f ∈ vmemTable, ∀ (i vd w ra b p : Nat) (ew : BitVec 2) (s : State), Ready s i 4 → i ≠ plantSeat →
  let x := (issued s i 4).seat i
  let cap := 256 / esize ew
  let off (k : Nat) : Nat := (f.2.2 x ra b ew k).toNat
  let adr (k : Nat) : Nat := dBase (x.wx w) + off k
  x.vl ≤ cap → (∃ k < cap, vactive x p ew k = true) →
  ((∀ k < cap, vactive x p ew k = true → AccessOk (issued s i 4) i w (off k) (esize ew) (esize ew) 1) →
    Completes (f.1 i vd w ra b p ew) s (fun t => ∃ g v, SeatMoves (issued s i 4) t i { x with st := .wait, wait := .access g } ∧
      g.result = .v vd v ∧ g.len = 4 ∧ ∀ k < cap, velem v ew k = if vactive x p ew k then leNat (bytesAt s.mem (adr k) (esize ew)) else velem (x.vx vd) ew k)) ∧
  (∀ (m cause : Nat), m < cap → vactive x p ew m = true →
    (∀ k < m, vactive x p ew k = true → AccessOk (issued s i 4) i w (off k) (esize ew) (esize ew) 1) →
    checkAccess (issued s i 4) x false (x.wx w) (off m) (esize ew) (esize ew) 1 false = some cause →
    Completes (f.1 i vd w ra b p ew) s (fun t => t = trapAccess (issued s i 4) i cause w .load (esize ew) (f.2.2 x ra b ew m))) ∧
  ((∀ k < cap, vactive x p ew k = true → WriteOk (issued s i 4) i w (off k) (esize ew) (esize ew)) →
    Completes (f.2.1 i vd w ra b p ew) s (fun t =>
      t = { issued s i 4 with mem := t.mem, pages := t.pages, seats := t.seats } ∧
      t.seat i = { x.advance 4 with outst := x.outst ++ [{ store := true, io := false, tmode := x.mode == .t }] } ∧
      (∀ j, j ≠ i → t.seat j = s.seat j) ∧
      (∀ k < cap, vactive x p ew k = true → (∀ j < cap, k < j → vactive x p ew j = true → adr k + esize ew ≤ adr j ∨ adr j + esize ew ≤ adr k) →
        bytesAt t.mem (adr k) (esize ew) = leBytes (esize ew) (velem (x.vx vd) ew k)) ∧
      ∀ a, (∀ k < cap, vactive x p ew k = true → a < adr k ∨ adr k + esize ew ≤ a) → t.byteAt a = s.byteAt a))

/-- The predicate operations of R95. -/
def Obligations.PredicateOperationsAct : Prop :=
  ∀ i ≠ plantSeat, ∀ (pd pa pb : Nat) (ew : BitVec 2),
  RunsTo (.pand i pd pa pb) i 4 (fun x => (x.setP pd (x.px pa &&& x.px pb)).advance 4) ∧
  RunsTo (.por i pd pa pb) i 4 (fun x => (x.setP pd (x.px pa ||| x.px pb)).advance 4) ∧
  RunsTo (.pxor i pd pa pb) i 4 (fun x => (x.setP pd (x.px pa ^^^ x.px pb)).advance 4) ∧
  RunsTo (.pandn i pd pa pb) i 4 (fun x => (x.setP pd (x.px pa &&& ~~~ x.px pb)).advance 4) ∧
  RunsTo (.pnot i pd pa) i 4 (fun x => (x.setP pd (~~~ x.px pa)).advance 4) ∧
  RunsTo (.pset i pd) i 4 (fun x => (x.setP pd (BitVec.allOnes 256)).advance 4) ∧
  RunsTo (.pclr i pd) i 4 (fun x => (x.setP pd 0).advance 4) ∧
  RunsTo (.pcnt i pd pa ew) i 4 (fun x => (x.setX pd (BitVec.ofNat 64
    ((List.range (min x.vl (256 / esize ew))).countP (fun k => (x.px pa).getLsbD (k * esize ew))))).advance 4) ∧
  (∀ s, Ready s i 4 →
    let x := (issued s i 4).seat i
    let set (k : Nat) : Prop := k < min x.vl (256 / esize ew) ∧ (x.px pa).getLsbD (k * esize ew) = true
    Completes (.pfirst i pd pa ew) s (fun t => ∃ v, SeatBecomes (issued s i 4) t i ((x.setX pd v).advance 4) ∧
      ((∀ k, ¬ set k) → v = BitVec.allOnes 64) ∧ ∀ k, set k → (∀ j < k, ¬ set j) → v = BitVec.ofNat 64 k))

/-- SETVL, VL written by SCWR, and VCOUNT, by R96. -/
def Obligations.SetvlSetsVectorLength : Prop :=
  (∀ i ≠ plantSeat, ∀ (rd ra : Nat) (ew : BitVec 2), RunsTo (.setvl i rd ra ew) i 4 (fun x =>
     ((x.scrSet 0x003 (BitVec.ofNat 64 (min (x.sx ra).toNat (256 / esize ew)))).setX rd
       (BitVec.ofNat 64 (min (x.sx ra).toNat (256 / esize ew)))).advance 4)) ∧
  (∀ (x : Seat) (n : Nat), n ≤ 256 → (x.scrSet 0x003 (BitVec.ofNat 64 n)).vl = n) ∧
  (∀ i ≠ plantSeat, ∀ ra : Nat, RunsTo (.scwr i 0x003 ra) i 4 (fun x => (x.scrSet 0x003 (x.sx ra)).advance 4)) ∧
  (∀ (i a b d r p : Nat) (ew : BitVec 2), i ≠ plantSeat → ∀ c ∈ vectorForms i a b d r p ew, ∀ s : State, Ready s i 4 →
     256 / esize ew < ((issued s i 4).seat i).vl →
     Completes c s (fun t => t = trap (issued s i 4) i 0x0F (BitVec.ofNat 64 ((issued s i 4).seat i).vl))) ∧
  (∀ (i a b d p : Nat) (ew : BitVec 2) (sh : BitVec 6) (uns sat : Bool) (s : State), i ≠ plantSeat → sh.toNat < 8 * esize ew → Ready s i 8 →
     256 / esize ew < ((issued s i 8).seat i).vl →
     Completes (.vmulsrL i a b d p ew sh uns sat) s (fun t => t = trap (issued s i 8) i 0x0F (BitVec.ofNat 64 ((issued s i 8).seat i).vl)))

/-- WSUB by R97, for every source descriptor. -/
def Obligations.WsubNarrowsOrTraps : Prop :=
  ∀ (i wd ws rb rc : Nat) (mask : BitVec 5) (s : State), Ready s i 4 →
  let x := (issued s i 4).seat i
  let d := x.wx ws
  let off := (x.sx rb).toNat
  let len := (x.sx rc).toNat
  (off + len ≤ dLen d → Completes (.wsub i wd ws rb rc mask) s (fun t => ∃ e, SeatBecomes (issued s i 4) t i ((x.setW wd e).advance 4) ∧
     dBase e = (dBase d + off) % 2 ^ 48 ∧ dLen e = len ∧ dRights e = dRights d &&& mask.toNat ∧ dHdom e = dHdom d ∧ dTid e = dTid d ∧
     dKtag e = dKtag d ∧ dLoc e = dLoc d ∧ dValid e = dValid d)) ∧
  (dLen d < off + len → Completes (.wsub i wd ws rb rc mask) s (fun t =>
     t = trap (issued s i 4) i 0x0D (BitVec.ofNat 64 (min (off + len) (2 ^ 64 - 1)))))

/-- What each window operation of R98 writes where it is allowed. KTSET and its retirement (R59, R100). -/
def Obligations.WindowOperationsMoveDescriptors : Prop :=
  ((∀ (i wd wa : Nat), RunsTo (.wmov i wd wa) i 4 (fun x => (x.setW wd (x.wx wa)).advance 4) ∧ RunsTo (.wclr i wd) i 4 (fun x => (x.setW wd 0).advance 4)) ∧
  (∀ (i sd wa : Nat) (f : BitVec 3), RunsTo (.wget i sd wa f) i 4 (fun x =>
     let d := x.wx wa
     let shown := x.mode = .m ∨ (x.mode = .h ∧ dHdom d = x.hdom)
     let v := if f = 0 then (if shown then dBase d else 0) else if f = 1 then dLen d else if f = 2 then dRights d else if f = 3 then dHdom d
       else if f = 4 then dTid d else if f = 5 then (if shown then (dKtag d).toNat else 0) else if f = 6 then b2n (dLoc d) else b2n (dValid d)
     (x.setX sd (BitVec.ofNat 64 v)).advance 4)) ∧
  (∀ (i wd sa sb : Nat), RunsWhen (fun x => Privileged x (x.sx sb ++ x.sx sa) ∧ (dValid (x.sx sb ++ x.sx sa) = true → descInRange (isPlant i) (x.sx sb ++ x.sx sa) = true))
     (.wload i wd sa sb) i 4 (fun x => (x.setW wd (x.sx sb ++ x.sx sa)).advance 4)) ∧
  (∀ (i sd wa : Nat), RunsWhen (fun x => Privileged x (x.wx wa)) (.wrdlo i sd wa) i 4 (fun x => (x.setX sd ((x.wx wa).extractLsb' 0 64)).advance 4) ∧
     RunsWhen (fun x => Privileged x (x.wx wa)) (.wrdhi i sd wa) i 4 (fun x => (x.setX sd ((x.wx wa).extractLsb' 64 64)).advance 4)) ∧
  (∀ (i wa : Nat), RunsWhen (fun x => Privileged x (x.wx wa) ∧ i ≠ plantSeat) (.cwload i wa 0) i 4 (fun x => (x.setCode .t (x.wx wa)).advance 4) ∧
     RunsWhen (fun x => Privileged x (x.wx wa)) (.cwload i wa 1) i 4 (fun x => (x.setCode .h (x.wx wa)).advance 4) ∧
     RunsWhen (fun x => x.mode = .m) (.cwload i wa 2) i 4 (fun x => (x.setCode .m (x.wx wa)).advance 4)) ∧
  (∀ (i wd wa sb : Nat) (s : State), Ready s i 4 →
     let x := (issued s i 4).seat i
     let off := (x.sx sb).toNat
     let d : Desc := BitVec.ofNat 128 (leNat (bytesAt s.mem (dBase (x.wx wa) + off) 16))
     (AccessOk (issued s i 4) i wa off 16 16 1 → Privileged x d → (dValid d = true → descInRange (isPlant i) d = true) →
       Completes (.wldm i wd wa sb) s (fun t => ∃ f, SeatMoves (issued s i 4) t i { x with st := .wait, wait := .access f } ∧ f.result = .w wd d ∧ f.len = 4)) ∧
     (WriteOk (issued s i 4) i wa off 16 16 → Privileged x (x.wx wd) → Completes (.wstm i wd wa sb) s (fun t =>
       t = { issued s i 4 with mem := t.mem, pages := t.pages, seats := t.seats } ∧
       bytesAt t.mem (dBase (x.wx wa) + off) 16 = leBytes 16 (x.wx wd).toNat ∧
       (∀ a, a < dBase (x.wx wa) + off ∨ dBase (x.wx wa) + off + 16 ≤ a → t.byteAt a = s.byteAt a) ∧
       t.seat i = { x.advance 4 with outst := x.outst ++ [{ store := true, io := false, tmode := false }] })))) ∧
  ((∀ (i ra rb : Nat) (s : State), Ready s i 4 →
    let x := (issued s i 4).seat i
    let g := (x.sx ra).toNat / 2 ^ 21
    (g * 2 ^ 21 < s.memSize → (x.mode = .m ∨ (x.mode = .h ∧ (s.domain x.hdom).holds g = true)) →
      Completes (.ktset i ra rb) s (fun t => SeatMoves (issued s i 4) t i { x with st := .wait, wait := .ktset g ((x.sx rb).setWidth 14) })) ∧
    (x.mode = .h → (s.memSize ≤ g * 2 ^ 21 ∨ (s.domain x.hdom).holds g = false) →
      Completes (.ktset i ra rb) s (fun t => t = trap (issued s i 4) i 0x06 (BitVec.ofNat 64 (g * 2 ^ 21))))) ∧
  (∀ (i g : Nat) (tag : BitVec 14) (s : State), (s.seat i).wait = .ktset g tag → sget false s.haltReq i = false →
    Completes (.ktsetRetire i) s (fun t => t.tag g = tag ∧ (∀ h, h ≠ g → t.tag h = s.tag h) ∧
      ∃ u, u = s.setTag g tag ∧ SeatMoves u t i { (s.seat i).advance 4 with st := .run, wait := .none })))

/-- Block copy and fill act as n one-byte moves in ascending order (R101). -/
def Obligations.BlockCopyAndFillMoveBytesInOrder : Prop :=
  ∀ (i rd wd ws rdo rso rv rn : Nat) (s : State), Ready s i 8 →
  let x := (issued s i 8).seat i
  let n := min (x.sx rn).toNat 4096
  let dst := dBase (x.wx wd) + (x.sx rdo).toNat
  let src := dBase (x.wx ws) + (x.sx rso).toNat
  let moved (t : State) : Prop := t = { issued s i 8 with mem := t.mem, pages := t.pages, seats := t.seats, regs := t.regs } ∧
    (∃ f, t.seat i = { x with st := .wait, wait := .access f } ∧ f.result = .x rd (BitVec.ofNat 64 n) ∧ f.len = 8) ∧
    (∀ j, j ≠ i → t.seat j = s.seat j) ∧ (∀ b, haltedReg i ≠ some b → t.reg b = (issued s i 8).reg b) ∧
    ∀ a, a < dst ∨ dst + n ≤ a → t.byteAt a = s.byteAt a
  (n = 0 → Completes (.bcopyL i rd wd ws rdo rso rn []) s (fun t => SeatBecomes (issued s i 8) t i ((x.setX rd 0).advance 8)) ∧
    Completes (.bfillL i rd wd rdo rv rn) s (fun t => SeatBecomes (issued s i 8) t i ((x.setX rd 0).advance 8))) ∧
  (0 < n → WriteOk (issued s i 8) i wd (x.sx rdo).toNat n 1 → Completes (.bfillL i rd wd rdo rv rn) s (fun t => moved t ∧
    ∀ j < n, t.byteAt (dst + j) = (x.sx rv).setWidth 8)) ∧
  (0 < n → WriteOk (issued s i 8) i wd (x.sx rdo).toNat n 1 → AccessOk (issued s i 8) i ws (x.sx rso).toNat n 1 1 →
    Completes (.bcopyL i rd wd ws rdo rso rn []) s (fun t => moved t ∧
      t.mem = (List.range n).foldl (fun m j => sset 0 m (dst + j) (sget 0 m (src + j))) s.mem))

/-- Trap entry as one step (R69, R70), and the double trap of H (R72). The second trap in M puts the seat in HALT with all its state kept (R72). -/
def Obligations.TrapEntrySavesAndRedirects : Prop :=
  (∀ (s : State) (i cause : Nat) (tval : W64) (acc : Option Nat), cause < 64 →
  let x := s.seat i
  let toM := x.mode = .m ∨ (x.scrGet 0x026).getLsbD cause = false ∨ cause = 0x13 ∨ cause = 0x15
  let entered (b : Nat) (md : Mode) (c : Nat) (v : W64) : Prop := ∃ t, takeTrap s i cause tval acc = t ∧
    t = { s with seats := t.seats, freeCount := t.freeCount } ∧ (∀ j, j ≠ i → t.seat j = s.seat j) ∧
    t.seat i = { x with scr := (t.seat i).scr, mode := md, pc := (x.scrGet (b + 4)).setWidth 40 } ∧
    (t.seat i).scrGet b = BitVec.ofNat 64 c ∧ (t.seat i).scrGet (b + 1) = BitVec.ofNat 64 x.pc.toNat ∧ (t.seat i).scrGet (b + 2) = v ∧
    fbits ((t.seat i).scrGet (b + 3)) 1 0 = x.mode.code ∧ ((t.seat i).scrGet (b + 3)).getLsbD 2 = (x.scrGet (b + 5) != 0) ∧
    ((t.seat i).scrGet (b + 3)).getLsbD 3 = true ∧ (t.seat i).scrGet (b + 5) = 0 ∧
    (∀ a, acc = some a → c = cause → fbits ((t.seat i).scrGet (b + 3)) 15 4 = a % 2 ^ 12) ∧
    ∀ n, n ∉ [b, b + 1, b + 2, b + 3, b + 5] → (t.seat i).scrGet n = x.scrGet n
  (toM → x.busy .m = false → entered 0x020 .m cause tval) ∧
  (¬ toM → x.busy .h = false → entered 0x010 .h cause tval) ∧
  (¬ toM → x.busy .h = true → x.busy .m = false → entered 0x020 .m 0x15 (BitVec.ofNat 64 cause))) ∧
  (∀ (s : State) (i cause : Nat) (tval : W64) (acc : Option Nat), i ≠ plantSeat → (s.seat i).mode = .m → (s.seat i).busy .m = true →
  (takeTrap s i cause tval acc).seat i = { s.seat i with st := .halt, faultQ := ((takeTrap s i cause tval acc).seat i).faultQ })

/-- The system operations of R102 to R104. -/
def Obligations.SystemOperationsComplete : Prop :=
  (∀ (i : Nat) (imm : BitVec 12) (s : State), Ready s i 4 →
     (((issued s i 4).seat i).mode = .t → Completes (.call i imm) s (fun t => t = trap (issued s i 4) i 0x12 (imm.setWidth 64))) ∧
     (((issued s i 4).seat i).mode = .h → Completes (.call i imm) s (fun t => t = trap (issued s i 4) i 0x13 (imm.setWidth 64))) ∧
     Completes (.brk i imm) s (fun t => t = trap (issued s i 4) i 0x14 (imm.setWidth 64))) ∧
  (∀ (i : Nat) (s : State), Ready s i 4 →
     let x := (issued s i 4).seat i
     let b := trapBank x.mode
     let pm := fbits (x.scrGet (b + 3)) 1 0
     (x.mode = .m ∧ 1 ≤ pm) ∨ (x.mode = .h ∧ pm = 1) → Completes (.tret i) s (fun t =>
       ∃ y, SeatBecomes (issued s i 4) t i y ∧ y.mode = (if pm = 1 then .h else .m) ∧ y.pc = (x.scrGet (b + 1)).setWidth 40 ∧
       y.scrGet (b + 5) = (if (x.scrGet (b + 3)).getLsbD 2 then 0xFFFFFFFF else 0) ∧ (y.scrGet (b + 3)).getLsbD 3 = false ∧
       y.x = x.x ∧ y.v = x.v ∧ y.p = x.p ∧ y.w = x.w ∧ y.cw = x.cw ∧ ∀ n, n ≠ b + 3 → n ≠ b + 5 → y.scrGet n = x.scrGet n)) ∧
  (∀ i ≠ plantSeat, RunsTo (.yield i) i 4 (fun x => { x.advance 4 with yielded := true })) ∧
  RunsTo (.yield plantSeat) plantSeat 4 (fun x => x.advance 4) ∧
  (∀ (i : Nat) (s : State), Ready s i 4 → i ≠ plantSeat → ((issued s i 4).seat i).mode ≠ .t →
     Completes (.seatstop i) s (fun t => SeatMoves (issued s i 4) t i { ((issued s i 4).seat i).advance 4 with st := .idle })) ∧
  RunsWhen (fun x => x.mode ≠ .t ∧ x.scrGet (trapBank x.mode + 5) ≠ 0) (.seatstop plantSeat) plantSeat 4 (fun x => { x.advance 4 with yielded := true }) ∧
  (∀ s : State, (s.seat plantSeat).yielded = true → s.eventWaits plantSeat = true →
     Completes .plantSeatstopWake s (fun t => SeatBecomes s t plantSeat { s.seat plantSeat with yielded := false })) ∧
  (∀ (i rd : Nat) (s : State), Ready s i 4 →
     Completes (.rdtime i rd) s (fun t => SeatBecomes (issued s i 4) t i ((((issued s i 4).seat i).setX rd s.ringTime).advance 4))) ∧
  (∀ (i rd : Nat) (s : State), Ready s i 4 → ((issued s i 4).seat i).mode = .m →
     Completes (.snap i rd) s (fun t => t.seat i = (((issued s i 4).seat i).setX rd (if (issued s i 4).bit Reg.SNP_STATUS 0 then 0 else 1)).advance 4))

/-- The accesses of seat control registers of R67 and R102. -/
def Obligations.ControlRegistersReadAndWrite : Prop :=
  (∀ (i rd : Nat) (n : BitVec 12), scrListed (isPlant i) n.toNat = true → RunsWhen (fun x => scrReadable x.mode n.toNat = true) (.scrd i rd n) i 4
     (fun x => (x.setX rd (if n = 0 then BitVec.ofNat 64 i else if n = 0x004 ∧ x.mode = .t then x.slotsT else x.scrGet n.toNat)).advance 4)) ∧
  (∀ (i ra : Nat) (n : BitVec 12), scrListed (isPlant i) n.toNat = true → n ∉ [0x001, 0x002, 0x005, 0x006, 0x013, 0x023] →
     RunsWhen (fun x => scrWritable x.mode n.toNat = true) (.scwr i n ra) i 4 (fun x => (x.scrSet n.toNat (x.sx ra &&& scrMask n.toNat)).advance 4) ∧
     RunsWhen (fun x => scrWritable x.mode n.toNat = true) (.scset i n ra) i 4
       (fun x => (x.scrSet n.toNat ((x.scrGet n.toNat ||| x.sx ra) &&& scrMask n.toNat)).advance 4) ∧
     RunsWhen (fun x => scrWritable x.mode n.toNat = true) (.scclr i n ra) i 4
       (fun x => (x.scrSet n.toNat ((x.scrGet n.toNat &&& ~~~ x.sx ra) &&& scrMask n.toNat)).advance 4)) ∧
  (∀ (i r : Nat) (n : BitVec 12) (s : State), Ready s i 4 →
     let x := (issued s i 4).seat i
     (scrListed (isPlant i) n.toNat = false →
       Completes (.scrd i r n) s (fun t => t = trap (issued s i 4) i 0x00 (wordS r 0 8 n.toNat)) ∧
       Completes (.scwr i n r) s (fun t => t = trap (issued s i 4) i 0x00 (wordS 0 r 9 n.toNat))) ∧
     (scrListed (isPlant i) n.toNat = true → x.mode = .t → n ≠ 0x003 →
       Completes (.scwr i n r) s (fun t => t = trap (issued s i 4) i 0x01 (wordS 0 r 9 n.toNat)) ∧
       Completes (.scset i n r) s (fun t => t = trap (issued s i 4) i 0x01 (wordS 0 r 10 n.toNat)) ∧
       Completes (.scclr i n r) s (fun t => t = trap (issued s i 4) i 0x01 (wordS 0 r 11 n.toNat))))

/-- What each fence of R62 waits for, and its completion. -/
def Obligations.FencesWaitForWhatTheyOrder : Prop :=
  ∀ e ∈ fenceTable, ∀ (i : Nat) (s : State),
  (Ready s i 4 →
    let x := (issued s i 4).seat i
    ((∀ o ∈ x.outst, ¬ e.2.2 o) → Completes (e.1 i) s (fun t => SeatBecomes (issued s i 4) t i (x.advance 4))) ∧
    ((∃ o ∈ x.outst, e.2.2 o) → Completes (e.1 i) s (fun t => SeatMoves (issued s i 4) t i { x with st := .wait, wait := .fence e.2.1 }))) ∧
  ((s.seat i).wait = .fence e.2.1 → sget false s.haltReq i = false →
    ((∀ o ∈ (s.seat i).outst, ¬ e.2.2 o) → Completes (.fenceComplete i) s (fun t =>
       SeatMoves s t i { (s.seat i).advance 4 with st := .run, wait := .none })) ∧
    ((∃ o ∈ (s.seat i).outst, e.2.2 o) → Completes (.fenceComplete i) s (fun t => t = s)))

/-- Asynchronous events, the quantum and the timer, the issue frame and the release of a halted seat. -/
def Obligations.EventsAreTakenLowestFirst : Prop :=
  (∀ (i : Nat) (s : State), (s.seat i).st = .run →
     (s.takeable i = none → Completes (.takeAsyncEvent i) s (fun t => t = s)) ∧
     (∀ (c : Nat) (v : W64), s.takeable i = some (c, v) → (∀ md, (s.seat i).busy md = false) → Completes (.takeAsyncEvent i) s (fun t =>
       ∃ b, (b = 0x010 ∨ b = 0x020) ∧ (t.seat i).scrGet b = BitVec.ofNat 64 c ∧ (t.seat i).scrGet (b + 2) = v ∧
       (t.seat i).scrGet (b + 1) = BitVec.ofNat 64 (s.seat i).pc.toNat ∧ (t.seat i).mode ≠ .t ∧ t.mem = s.mem ∧ t.regs = s.regs))) ∧
  (∀ (i : Nat) (s : State) (c d : Nat) (v w : W64), s.takeable i = some (c, v) → (d, w) ∈ s.pendingEvents i → eventEnabled (s.seat i) d = true → c ≤ d) ∧
  (∀ (i : Nat) (s : State), (s.seat i).mode = .t → (s.seat i).st = .run → (s.seat i).scrGet 0x005 = 0 → Completes (.quantumExpiry i) s (fun t =>
     ∃ y, SeatBecomes s t i y ∧ y = { s.seat i with events := y.events } ∧ sget none y.events 0x24 = some (s.seat i).quantumUsed ∧
     ∀ c, c ≠ 0x24 → sget none y.events c = sget none (s.seat i).events c)) ∧
  (∀ (i : Nat) (s : State), (s.seat i).timerArmed = true → (s.seat i).st ≠ .off → Completes (.timerExpiry i) s (fun t =>
     t = { s with seats := t.seats, ringTime := t.ringTime } ∧ ((s.seat i).scrGet 0x006).toNat ≤ t.ringTime.toNat ∧ s.ringTime.toNat ≤ t.ringTime.toNat ∧
     sget none (t.seat i).events 0x20 = some t.ringTime ∧ (t.seat i).timerArmed = false)) ∧
  (∀ (e c : Nat) (s : State), Completes (.issueFrameBoundary e c) s (fun t => t = { s with cores := t.cores, seats := t.seats } ∧
     (sget { share := 0 } t.cores (16 * e + c)).share = min (s.fld (Reg.SEn_TSHAREc e c) 7 0) (s.fld (Reg.SEn_TSHAREc e c) 23 16) ∧
     (∀ k < 8, t.seat (128 * e + 8 * c + k) = { s.seat (128 * e + 8 * c + k) with yielded := false }) ∧
     ∀ j, (j < 128 * e + 8 * c ∨ 128 * e + 8 * c + 8 ≤ j) → t.seat j = s.seat j)) ∧
  (∀ (e : Nat) (p : BitVec 7) (s : State), e < 5 → p.toNat ≤ 95 → (s.seat (128 * e + p.toNat)).st = .halt → Completes (.haltRelease .debug e p) s (fun t =>
     SeatMoves s t (128 * e + p.toNat) { s.seat (128 * e + p.toNat) with st := .idle }))

/-- Acceptance of stage work (R109, R110) and WPOS (R113). -/
def Obligations.StageIssueAcceptsInOrder : Prop :=
  (∀ (i rd ra rc : Nat) (u : BitVec 3) (n : Bool) (wd w0 w1 w2 w3 : Nat) (s : State), Ready s i 8 → i ≠ plantSeat → u.toNat < 6 →
     let x := (issued s i 8).seat i
     x.mode ≠ .t → s.unitPresent u.toNat = true → x.sx rc = 0 →
     (x.stgOut < 64 → Completes (.stgL i rd ra rc u n wd w0 w1 w2 w3) s (fun t =>
       (t.seat i).sx rd = (if rd = 0 then 0 else x.stgSeq.setWidth 64) ∧ (t.seat i).stgSeq = x.stgSeq + 1 ∧ (t.seat i).pc = x.pc + 8 ∧ t.works = s.works ∧
       t.store = putBytes s.store (recordPlace i x.stgSeq) (completionRecord s u.toNat x.stgSeq 0 0) ∧
       (t.seat i).notifyQ = if n ∧ x.st ≠ .off then x.notifyQ ++ [BitVec.ofNat 64 (u.toNat * 2 ^ 32 + x.stgSeq.toNat)] else x.notifyQ)) ∧
     (64 ≤ x.stgOut → Completes (.stgL i rd ra rc u n wd w0 w1 w2 w3) s (fun t => ∃ r, r.rd = rd ∧ r.unit = u.toNat ∧ r.count = 0 ∧
       SeatMoves (issued s i 8) t i { x with st := .wait, wait := .stg r }))) ∧
  (∀ (i : Nat) (r : StgReq) (s : State), (s.seat i).wait = .stg r → sget false s.haltReq i = false → r.count ≠ 0 →
     (s.seat i).stgOut < 64 → (s.queue (seatEngine i) r.unit).length < 64 →
     Completes (.stgAccept i) s (fun t => (t.seat i).sx r.rd = (if r.rd = 0 then 0 else (s.seat i).stgSeq.setWidth 64) ∧
       (t.seat i).stgSeq = (s.seat i).stgSeq + 1 ∧ (t.seat i).stgOut = (s.seat i).stgOut + 1 ∧ (t.seat i).st = .run ∧
       (t.seat i).pc = (s.seat i).pc + 8 ∧ t.mem = s.mem ∧ t.store = s.store ∧
       ∃ w, t.queue (seatEngine i) r.unit = s.queue (seatEngine i) r.unit ++ [w] ∧ w.seat = i ∧ w.seq = (s.seat i).stgSeq ∧
         w.count = r.count ∧ w.desc = r.desc ∧ w.slots = r.slots ∧ w.notify = r.notify)) ∧
  (∀ (i rd ra : Nat) (web : BitVec 2) (s : State), Ready s i 4 → i ≠ plantSeat → ((issued s i 4).seat i).mode ≠ .t →
     let x := (issued s i 4).seat i
     (∀ v, WposValue s (x.sx ra) web.toNat v → Completes (.wpos i rd ra web) s (fun t => SeatBecomes (issued s i 4) t i ((x.setX rd v).advance 4))) ∧
     ((∀ v, ¬ WposValue s (x.sx ra) web.toNat v) → Completes (.wpos i rd ra web) s (fun t =>
       SeatMoves (issued s i 4) t i { x with st := .wait, wait := .wpos rd (x.sx ra) web.toNat }))) ∧
  (∀ (i rd web : Nat) (target v : W64) (s : State), (s.seat i).wait = .wpos rd target web → sget false s.haltReq i = false → WposValue s target web v →
     Completes (.wposComplete i) s (fun t => SeatMoves s t i { ((s.seat i).setX rd v).advance 4 with st := .run, wait := .none }))

/-- What the five control-space commands do to an ordinary, a paired, a staged and a 64-bit register, and to whom they answer a bus error. -/
def Obligations.RegisterWritesReachTheirRegister : Prop :=
  (∀ (who : Requester) (a : Nat) (v : W32) (r : RegRow) (s : State), s.controlAllowed who a true = true → blockNumber a = some 15 → reach s a = .ok →
     regRow a = some r → isLow a = false → isLow (a - 4) = false → isStaged a = false → pairSecond a = none → pairSecond (a - 4) = none →
     Completes (.registerWrite who a v) s (fun t => RegsOnly s t ∧ (∀ b, b ≠ a → t.reg b = s.reg b) ∧
       t.reg a = ((s.reg a &&& ~~~ BitVec.ofNat 32 r.writable) ||| (v &&& BitVec.ofNat 32 r.writable)) &&& ~~~ (v &&& BitVec.ofNat 32 r.clearable))) ∧
  (∀ (who : Requester) (n : Nat) (v : W32) (s : State), n < 4 → s.controlAllowed who (Reg.POSn_PRUN n) true = true → s.islandUp 22 = true →
     Completes (.pairFirstWrite who (Reg.POSn_PRUN n) v) s (fun t => t = { s with pairHeld := t.pairHeld } ∧
       (∃ d, sget none t.pairHeld (Reg.POSn_PRUN n) = some (v &&& regMask (Reg.POSn_PRUN n), d)) ∧
       ∀ b, b ≠ Reg.POSn_PRUN n → sget none t.pairHeld b = sget none s.pairHeld b)) ∧
  (∀ (who : Requester) (n d : Nat) (v first : W32) (s : State), n < 4 → s.controlAllowed who (Reg.POSn_PRUN n + 4) true = true → s.islandUp 22 = true →
     sget none s.pairHeld (Reg.POSn_PRUN n) = some (first, d) →
     Completes (.pairSecondWrite who (Reg.POSn_PRUN n + 4) v) s (fun t => t = { s with regs := t.regs, pairHeld := t.pairHeld } ∧
       t.reg (Reg.POSn_PRUN n) = first ∧ t.reg (Reg.POSn_PRUN n + 4) = v &&& regMask (Reg.POSn_PRUN n + 4) ∧
       sget none t.pairHeld (Reg.POSn_PRUN n) = none ∧
       ∀ b, b ≠ Reg.POSn_PRUN n → b ≠ Reg.POSn_PRUN n + 4 → b ≠ Reg.POSn_STATE n → t.reg b = s.reg b)) ∧
  (∀ (who : Requester) (a d : Nat) (v : W32) (s : State), isStaged a = true → isLow a = false → isLow (a - 4) = false →
     s.controlAllowed who a true = true → reach s a = .ok → pageReach s who a = true → s.stgWriter who = some d →
     stagedOk s a (v &&& regMask a) = true → s.stgHeld d a = false → (s.stgDom d).openSet.length < 512 →
     Completes (.stagedRegisterWrite who a v) s (fun t => t = { s with stg := t.stg, regs := t.regs } ∧
       (t.stgDom d).openSet = sput a (v &&& regMask a) (s.stgDom d).openSet ∧ (∀ b, b ≠ Reg.SNP_STGd_STATUS d → t.reg b = s.reg b))) ∧
  (∀ (who : Requester) (a : Nat) (s : State), isLow a = true → s.controlAllowed who a false = true → reach s a = .ok → pageReach s who a = true →
     a ≠ Reg.AON_CAL_DATE →
     Completes (.reg64LowRead who a) s (fun t => t = { s with out := s.out ++ [Out.readData who ((regView s a).setWidth 64)], hiLatch := t.hiLatch } ∧
       sget none t.hiLatch (a + 4) = some (regView s (a + 4)) ∧ ∀ b, b ≠ a + 4 → sget none t.hiLatch b = sget none s.hiLatch b)) ∧
  (∀ (who : Requester) (a : Nat) (v : W32) (s : State), s.controlAllowed who a true = true → reach s a = .absent →
     Completes (.registerWrite who a v) s (fun t => t = s)) ∧
  (∀ (who : Requester) (a : Nat) (v : W32) (s : State), s.controlAllowed who a true = false →
     Completes (.registerWrite who a v) s (fun t => t = { s with out := s.out ++ [Out.busError who] }))

/-- No control-space command of a seat in T has an effect but its bus error. -/
def Obligations.TenantsNeverReachControlSpace : Prop :=
  ∀ (i a : Nat) (v : W32) (s : State), (s.seat i).mode = .t →
  let refused (c : Instr) : Prop := Completes c s (fun t => t = { s with out := s.out ++ [Out.busError (.seat i)] })
  refused (.registerWrite (.seat i) a v) ∧ (isLow a = true → refused (.reg64LowRead (.seat i) a)) ∧
  (isStaged a = true → refused (.stagedRegisterWrite (.seat i) a v)) ∧
  ((pairSecond a).isSome = true → refused (.pairFirstWrite (.seat i) a v)) ∧
  ((pairSecond (a - 4)).isSome = true → refused (.pairSecondWrite (.seat i) a v))

/-- Performing and completing host requests (R129, R130, R354). -/
def Obligations.HostRequestsAreCheckedAndPerformed : Prop :=
  (∀ (h : RxHdr) (bs : List Byte) (s u : State), receive s h (s.portProf h.link == 1 && decide (h.link < 24)) bs.length = (true, u) →
     let r := hostReq bs
     let reply (t : State) (st done : Nat) (data : List Byte) : State := enqueue t h.link { ftype := 7, cls := 0, dnode := 0, snode := t.fld Reg.RNG_STATUS 19 8, payload := leBytes 2 r.tag ++ leBytes 1 st ++ [0] ++ leBytes 2 done ++ List.replicate 10 0 ++ data } false
     (u.portDomain h.link = none → Completes (.hostRd h bs []) s (fun t => t = reply u 1 0 []) ∧
       (h.posted = false → Completes (.hostWr h bs) s (fun t => t = reply u 1 0 []))) ∧
     (isControl r.addr = false → hostCheck u h.link h.cls r bs.length false = none → r.addr + r.count ≤ u.memSize →
       (∀ p ∈ spanning 2048 r.addr r.count, u.pageReadable p = true) →
       Completes (.hostRd h bs []) s (fun t => t = reply u 0 r.count (bytesAt u.mem r.addr r.count))) ∧
     (isControl r.addr = false → hostCheck u h.link h.cls r bs.length true = none → r.addr + r.count ≤ u.memSize →
       (∀ p ∈ spanning 2048 r.addr r.count, u.pageWritable p = true) →
       Completes (.hostWr h bs) s (fun t => ∃ w, t = (if h.posted then w else reply w 0 r.count []) ∧
         w = { u with mem := w.mem, pages := w.pages } ∧ bytesAt w.mem r.addr r.count = bs.drop 16 ∧
         ∀ b, b < r.addr ∨ r.addr + r.count ≤ b → w.byteAt b = u.byteAt b))) ∧
  (∀ s : State, s.runpg = true → s.attached = false → Completes .hostsAttach s (fun t => t.attached = true ∧ t.fld Reg.SYS_BOOT 3 0 = 10 ∧ t.mem = s.mem ∧ t.owner = s.owner))

/-- The commands of a domain's page (R133 to R137). -/
def Obligations.DoorbellsAndSeatCommandsAct : Prop :=
  ∀ (who : Requester) (d : Nat) (s : State), d < 8 →
  (s.controlAllowed who (Reg.SYS_Dd_DBn d 0) true = false → ∀ (n : BitVec 6) (v : W32),
     Completes (.doorbellWrite who d n v) s (fun t => t = { s with out := s.out ++ [Out.busError who] })) ∧
  (s.controlAllowed who (Reg.SYS_Dd_DBn d 0) true = true →
    (∀ (n : BitVec 6) (v : W32), let r := s.reg (Reg.SYS_Dd_DBROUTEn d n.toNat)
       (fbit r 11 = true → Completes (.doorbellWrite who d n v) s (fun t => t = { s with regs := t.regs, doms := t.doms } ∧
         t.reg (Reg.SYS_Dd_DBVALn d n.toNat) = v ∧ (∀ b, b ≠ Reg.SYS_Dd_DBVALn d n.toNat → t.reg b = s.reg b) ∧
         sget none (t.dom d).doorbells n.toNat = (match sget none (s.dom d).doorbells n.toNat with
           | some i => some i | none => some (if fbit r 10 then plantSeat else fbits r 9 0)))) ∧
       (fbit r 11 = false → Completes (.doorbellWrite who d n v) s (fun t => t = s.count (Reg.SYS_Dd_DB_DROP d) 1))) ∧
    (∀ (n : BitVec 6) (v : W32), fbit v 11 = true → fbit v 10 = false → s.assigned d (fbits v 9 0) = true →
       Completes (.dbrouteWrite who d n v) s (fun t => RegBecomes s t (Reg.SYS_Dd_DBROUTEn d n.toNat) (v &&& 0xFFF))) ∧
    (∀ (i : BitVec 10) (tag : BitVec 11) (entry : BitVec 40), s.fld (Reg.SYS_Dd_SEATCMD_STATUS d) 2 0 ≠ 1 → i.toNat ≠ plantSeat →
       s.assigned d i.toNat = true →
       ((s.seat i.toNat).st = .idle → Completes (.seatcmdStart who d i tag entry) s (fun t =>
         (t.seat i.toNat).st = .run ∧ (t.seat i.toNat).mode = .h ∧ (t.seat i.toNat).pc = entry ∧ (∀ r, (t.seat i.toNat).sx r = 0) ∧
         (t.seat i.toNat).hdom = (s.seat i.toNat).hdom ∧ (t.seat i.toNat).stgSeq = (s.seat i.toNat).stgSeq ∧ t.mem = s.mem ∧
         t.reg (Reg.SYS_Dd_SEATCMD_STATUS d) = BitVec.ofNat 32 (2 ^ 21 * tag.toNat) ∧ ∀ j, j ≠ i.toNat → t.seat j = s.seat j)) ∧
       ((s.seat i.toNat).st = .run → Completes (.seatcmdStop who d i tag) s (fun t => (t.seat i.toNat).stopReq = some (d, tag) ∧
         (t.seat i.toNat).st = .run ∧ t.reg (Reg.SYS_Dd_SEATCMD_STATUS d) = BitVec.ofNat 32 (1 + 2 ^ 21 * tag.toNat))) ∧
       ((s.seat i.toNat).st ≠ .off → Completes (.seatcmdPreempt who d i tag) s (fun t =>
         sget none (t.seat i.toNat).events 0x25 = some (tag.setWidth 64) ∧ (t.seat i.toNat).st = (s.seat i.toNat).st ∧
         t.reg (Reg.SYS_Dd_SEATCMD_STATUS d) = BitVec.ofNat 32 (2 ^ 21 * tag.toNat)))) ∧
    (∀ (cmd : BitVec 3) (i : BitVec 10) (tag : BitVec 11), s.fld (Reg.SYS_Dd_SEATCMD_STATUS d) 2 0 ≠ 1 →
       Completes (.seatcmdUnassigned who d cmd i tag) s (fun t => RegBecomes s t (Reg.SYS_Dd_SEATCMD_STATUS d) (BitVec.ofNat 32 (4 + 2 ^ 21 * tag.toNat)))) ∧
    (∀ v : W32, s.bit (Reg.SYS_Dd_NQ_CTL d) 0 = false → fbit v 0 = true →
       Completes (.nqCtlWrite who d v) s (fun t => RegsOnly s t ∧ t.reg (Reg.SYS_Dd_NQ_CTL d) = v &&& 0xFFFDF ∧
         t.reg (Reg.SYS_Dd_NQ_TAIL d) = t.reg (Reg.SYS_Dd_NQ_HEAD d)))) ∧
  (∀ (i : Nat) (tag : BitVec 11), (s.seat i).stopReq = some (d, tag) → (s.seat i).st = .run → i ≠ plantSeat →
     Completes (.seatStopBoundary i) s (fun t => (t.seat i).st = .idle ∧ (t.seat i).stopReq = none ∧ (t.seat i).pc = (s.seat i).pc ∧
       (t.seat i).x = (s.seat i).x ∧ t.reg (Reg.SYS_Dd_SEATCMD_STATUS d) = BitVec.ofNat 32 (2 ^ 21 * tag.toNat)))

/-- The fabric's commands (R149 to R162) and the channels (R17 to R19). -/
def Obligations.FabricRoutesFencesAndLocks : Prop :=
  (∀ (cls src dst n a b : Nat) (expects : Bool) (s : State), routerIsland s.variant src = some a → routerIsland s.variant dst = some b →
     s.islandUp a = true → s.islandUp 5 = true → 0 < n → n ≤ 65 →
     (∀ path, fabRoute s src dst = some path → s.islandUp b = true → Completes (.fabricMessage cls src dst n expects) s (fun t =>
       t = { s with fabric := t.fabric } ∧ sget 0 t.fabric.flows (48 * (48 * cls + src) + dst) = sget 0 s.fabric.flows (48 * (48 * cls + src) + dst) + 1 ∧
       t.fabric.locks = s.fabric.locks ∧ t.fabric.channels = s.fabric.channels ∧ ∀ k, (t.fabLink k).down = (s.fabLink k).down)) ∧
     (∀ path, fabRoute s src dst = some path → s.islandUp b = false → Completes (.fabricMessage cls src dst n expects) s (fun t =>
       t = s.count (if expects then Reg.FAB_ERRCOMP_CNT else Reg.FAB_DISCARD_CNT) 1))) ∧
  (∀ (k : Nat) (s : State), s.islandUp 5 = true → (s.fabLink k).down = false →
     ((s.fabLink k).fails < 7 → Completes (.linkCellFail k) s (fun t => (t.fabLink k).down = false ∧ (t.fabLink k).fails = (s.fabLink k).fails + 1 ∧
       (t.fabLink k).retries = min (2 ^ 31 - 1) ((s.fabLink k).retries + 1))) ∧
     (7 ≤ (s.fabLink k).fails → Completes (.linkCellFail k) s (fun t => (t.fabLink k).down = true))) ∧
  (∀ (who : Requester) (s : State), s.controlAllowed who Reg.FAB_FENCE_SET true = true → s.variant.island 22 = true →
     Completes (.fabFenceSet who 0x400000) s (fun t => t.fenced 22 = true ∧ t.mem = s.mem ∧ ∀ i < 32, i ≠ 22 → t.fenced i = s.fenced i)) ∧
  (∀ (who : Requester) (s : State), s.controlAllowed who Reg.FAB_FENCE_CLR true = true → s.variant.island 22 = true →
     s.fenced 22 = true → sget false s.fabric.resetDone 22 = true →
     Completes (.fabFenceClr who 0x400000) s (fun t => t.fenced 22 = false ∧ t.mem = s.mem ∧ ∀ i < 32, i ≠ 22 → t.fenced i = s.fenced i)) ∧
  (∀ (p h : Nat) (s : State),
     (s.lock p = none → Completes (.pageLockRequest p h) s (fun t => t = s.setLock p (some { holder := h, waiting := [], ended := [] }))) ∧
     (∀ l, s.lock p = some l → l.holder ≠ 0xFFFF → Completes (.pageLockRequest p h) s (fun t => t = s.setLock p (some { l with waiting := l.waiting ++ [h] }))) ∧
     (∀ l g r, s.lock p = some l → l.holder ≠ 0xFFFF → l.waiting = g :: r →
       Completes (.pageUnlock p l.holder) s (fun t => ∃ m, t.lock p = some m ∧ m.holder = g ∧ m.waiting = r) ∧
       Completes (.pageLockExpiry p) s (fun t => ∃ m, t.lock p = some m ∧ m.holder = g ∧ m.waiting = r ∧ (l.holder ≠ g → l.holder ∈ m.ended))) ∧
     (∀ l, s.lock p = some l → l.holder ≠ h → Completes (.pageUnlock p h) s (fun t => t = s))) ∧
  (∀ (near far : Nat) (w : W64) (s : State), s.islandOn near = true →
     (s.islandUp far = true → Completes (.channelWordSend near far w) s (fun t => t = { s with fabric := t.fabric } ∧
       sget [] t.fabric.channels (32 * near + far) = sget [] s.fabric.channels (32 * near + far) ++ [w])) ∧
     (s.islandUp far = false → near ≠ 5 → Completes (.channelWordSend near far w) s (fun t => t = { s with fabric := t.fabric } ∧
       t.fabric.channels = s.fabric.channels ∧ sget 0 t.fabric.discards near = sget 0 s.fabric.discards near + 1)))

/-- Scrubbing, range passes and mirrored regions (R168 to R176). -/
def Obligations.ScrubbingPassesAndRegionsAct : Prop :=
  (∀ (n : Nat) (s : State), n < 8 → s.islandUp (6 + n) = true → s.stackLost n = false → s.fld Reg.MEM_SCRUB_CTL 12 0 ≠ 0 → (s.stack n).scrubPos + 1 < stackPages →
     Completes (.scrubPage n 0 0) s (fun t => (t.stack n).scrubPos = (s.stack n).scrubPos + 1 ∧
       t = { s with stackRuns := t.stackRuns, regs := t.regs } ∧ t.reg (Reg.MEMn_LAP_POS n) = BitVec.ofNat 32 ((s.stack n).scrubPos + 1) ∧
       ∀ b, b ≠ Reg.MEMn_LAP_POS n → t.reg b = s.reg b)) ∧
  (∀ (who : Requester) (s : State), s.controlAllowed who Reg.MEM_PASS_CMD true = true → s.bit Reg.MEM_PASS_STATUS 0 = false →
     let held := s.whoM who = true ∨ ((s.domain ((s.whoDomain who).getD 0)).holdsRange (2048 * s.passRange.1) (2048 * s.passRange.2) = true ∧
       s.tagsMatch (2048 * s.passRange.1) (2048 * s.passRange.2) (BitVec.ofNat 14 (s.fld Reg.MEM_PASS_BASE_HI 29 16)) = true)
     Completes (.memPassStart who) s (fun t => RegsOnly s t ∧
       t.bit Reg.MEM_PASS_STATUS 0 = (decide (s.passRange.2 ≠ 0) && decide held) ∧ t.bit Reg.MEM_PASS_STATUS 1 = decide (s.passRange.2 = 0) ∧
       t.bit Reg.MEM_PASS_STATUS 3 = (decide (s.passRange.2 ≠ 0) && !decide held) ∧ t.reg Reg.MEM_PASS_CORR = 0 ∧ t.reg Reg.MEM_PASS_UNCORR = 0)) ∧
  (∀ s : State, s.bit Reg.MEM_PASS_STATUS 0 = true → s.pages = [] →
     Completes (.memPassDone []) s (fun t => RegsOnly s t ∧ t.bit Reg.MEM_PASS_STATUS 0 = false ∧ t.bit Reg.MEM_PASS_STATUS 1 = true ∧
       t.reg Reg.MEM_PASS_READ = BitVec.ofNat 32 s.passRange.2) ∧
     (∀ (who : Requester) (v : Nat), s.controlAllowed who Reg.MEM_PASS_CMD true = true → v ≤ s.passRange.2 →
       Completes (.memPassAbort who v []) s (fun t => RegsOnly s t ∧ t.bit Reg.MEM_PASS_STATUS 0 = false ∧ t.bit Reg.MEM_PASS_STATUS 2 = true ∧
         t.reg Reg.MEM_PASS_READ = BitVec.ofNat 32 v))) ∧
  (∀ (who : Requester) (k : Nat) (s : State), k < 16 → s.regionAccess who = true →
     let a := Reg.MEM_RGNk_CFG k
     (s.bit a 2 = false → shadowOk s k = true → Completes (.mirrorEnable who k) s (fun t => RegsOnly s t ∧ t.bit a 2 = true ∧ t.fld a 5 4 = 1 ∧
       t.bit a 7 = false ∧ ∀ b, b ≠ a → t.reg b = s.reg b)) ∧
     (s.bit a 2 = false → shadowOk s k = false → Completes (.mirrorEnable who k) s (fun t => RegBecomes s t a (fsetb (s.reg a) 7 true))) ∧
     (s.bit a 2 = true → Completes (.mirrorDisable who k) s (fun t => RegsOnly s t ∧ t.bit a 2 = false ∧ t.fld a 5 4 = 0 ∧ ∀ b, b ≠ a → t.reg b = s.reg b)) ∧
     (∀ c : BitVec 2, s.fld a 1 0 ≠ c.toNat → Completes (.regionStrengthWrite who k c) s (fun t =>
       RegsOnly s t ∧ t.fld a 1 0 = c.toNat ∧ t.bit a 6 = true ∧ ∀ b, b ≠ a → t.reg b = s.reg b))) ∧
  (∀ (k : Nat) (s : State), k < 16 → let a := Reg.MEM_RGNk_CFG k
     (s.bit a 2 = true → s.fld a 5 4 = 1 → (∀ n < s.variant.stacks, s.stackLost n = false) →
       Completes (.resilverDone k) s (fun t => RegsOnly s t ∧ t.fld a 5 4 = 2 ∧ ∀ b, b ≠ a → t.reg b = s.reg b)) ∧
     (s.bit a 6 = true → Completes (.reencodeDone k) s (fun t => t.bit a 6 = false ∧ t.mem = s.mem ∧
       (∀ g, (s.rgn k).1 ≤ g → g < (s.rgn k).1 + (s.rgn k).2 → sget 1 t.encBase g = BitVec.ofNat 2 (s.fld a 1 0)) ∧
       ∀ g, (g < (s.rgn k).1 ∨ (s.rgn k).1 + (s.rgn k).2 ≤ g) → sget 1 t.encBase g = sget 1 s.encBase g)))

/-- What the resets clear, keep and report (R619, R620, R453). -/
def Obligations.WholeResetsClearAllButAon : Prop :=
  (∀ (s : State) (c : Instr) (k : Nat), s.burn = .none →
     ((c = .porNLow ∧ k = 1 ∧ s.groupP = true) ∨ ((c = .vpltUndervoltage ∨ c = .pltpgFall) ∧ k = 2 ∧ s.groupP = true) ∨
       (∃ who, c = .sysRstCmd who ∧ k = 4 ∧ s.controlAllowed who Reg.SYS_RST_CMD true = true ∧ s.ownerOrM who = true)) →
     Completes c s (fun t => t.power = .reset ∧ t.seats = [] ∧ t.mem = [] ∧ t.store = [] ∧ t.links = [] ∧ t.owner = none ∧ t.attached = false ∧
       t.runen = false ∧ t.ringTime = 0 ∧ t.safeState = 0 ∧ t.reg Reg.SYS_RSTCAUSE = BitVec.ofNat 32 (2 ^ k) ∧
       (∀ a, blockNumber a = some 26 → a ≠ Reg.AON_WAKECFG → t.reg a = s.reg a) ∧
       t.keyFuses = s.keyFuses ∧ t.rollFuses = s.rollFuses ∧ t.uid = s.uid ∧ t.flash = s.flash ∧ t.pending = s.pending ∧ t.out = s.out)) ∧
  (∀ (s : State) (who : Requester), s.burn ≠ .none → s.controlAllowed who Reg.SYS_RST_CMD true = true → s.ownerOrM who = true →
     Completes (.sysRstCmd who) s (fun t => t = { s with resetPending := true })) ∧
  (∀ s : State, s.power ≠ .dead → s.burn = .none → Completes .vaonLoss s (fun t => t.power = .dead ∧ t.regs = [] ∧ t.inForce = [] ∧ t.mem = [] ∧
     t.seats = [] ∧ t.keyFuses = s.keyFuses ∧ t.flash = s.flash ∧ t.uid = s.uid)) ∧
  (∀ s : State, s.power = .dead → Completes .vaonReturn s (fun t => t = { s with power := .reset, regs := t.regs } ∧
     t.reg Reg.SYS_RSTCAUSE = 1 ∧ t.bit Reg.AON_STATUS 3 = true))

/-- Starting and ending a fuse burn (R123). Installing an owner record in service (R127, R128). -/
def Obligations.FusesAndOwnerRecordsFollowTheirRules : Prop :=
  ((∀ (who : Requester) (r : OwnerRec) (s : State), s.owner = some r → s.burn = .none → s.controlAllowed who Reg.SYS_FUSE_CMD true = true →
     s.ownerOrM who = true →
     (s.closed = false → Completes (.burnKey who) s (fun t => t = { s with burn := .key (Config.sha512Head r.key), regs := t.regs } ∧
       t.bit Reg.SYS_TRUST 3 = true ∧ ∀ a, a ≠ Reg.SYS_TRUST → t.reg a = s.reg a)) ∧
     Completes (.burnRollback who) s (fun t => t = { s with burn := .rollback r.rollback, regs := t.regs } ∧
       t.bit Reg.SYS_TRUST 3 = true ∧ ∀ a, a ≠ Reg.SYS_TRUST → t.reg a = s.reg a)) ∧
  (∀ (h : BitVec 256) (s : State), s.burn = .key h → s.resetPending = false → Completes (.fuseBurnEnd true) s (fun t =>
     t = { s with burn := .none, keyFuses := s.keyFuses ||| h, regs := t.regs } ∧ t.bit Reg.SYS_TRUST 3 = false ∧ t.bit Reg.SYS_TRUST 4 = false ∧
     t.bit Reg.SYS_TRUST 0 = t.closed ∧ ∀ a, a ≠ Reg.SYS_TRUST → t.reg a = s.reg a)) ∧
  (∀ (n : Nat) (s : State), n ≤ 64 → s.burn = .rollback n → s.resetPending = false → Completes (.fuseBurnEnd true) s (fun t =>
     t = { s with burn := .none, rollFuses := s.rollFuses ||| BitVec.ofNat 64 (2 ^ n - 1), regs := t.regs })) ∧
  (∀ (who : Requester) (s : State), s.ownerOrM who = false → Completes (.burnKey who) s (fun t => t = { s with out := s.out ++ [Out.busError who] }) ∧
     Completes (.burnRollback who) s (fun t => t = { s with out := s.out ++ [Out.busError who] }))) ∧
  ((∀ (lo hi : W32) (s : State), s.bit Reg.SYS_OWN_STATUS 8 = false →
     let a := lo.toNat + 2 ^ 32 * fbits hi 15 0
     let bs := bytesAt s.mem a 1792
     a + 1792 ≤ s.memSize → s.tagsMatch a 1792 (BitVec.ofNat 14 (fbits hi 29 16)) = true → (∀ p ∈ spanning 2048 a 1792, s.pageReadable p = true) →
     (recordCode s true bs = 0 → pressShrinks s (parseRecord bs) = false → Completes (.ownerInstall .debug lo hi []) s (fun t =>
       t = { s with regs := t.regs, install := some { record := parseRecord bs } } ∧ t.bit Reg.SYS_OWN_STATUS 8 = true ∧ t.fld Reg.SYS_OWN_STATUS 7 0 = 0 ∧
       ∀ b, b ≠ Reg.SYS_OWN_STATUS → t.reg b = s.reg b)) ∧
     (recordCode s true bs ≠ 0 → Completes (.ownerInstall .debug lo hi []) s (fun t => RegsOnly s t ∧
       t.bit Reg.SYS_OWN_STATUS 8 = false ∧ t.fld Reg.SYS_OWN_STATUS 7 0 = recordCode s true bs ∧ ∀ b, b ≠ Reg.SYS_OWN_STATUS → t.reg b = s.reg b))) ∧
  (∀ (i : Install) (s : State), s.install = some i → Completes .ownerInstallApply s (fun t => t.owner = some i.record ∧ t.install = none ∧
     t.keyFuses = s.keyFuses ∧ t.flash = s.flash)) ∧
  (∀ s : State, s.install = none → Completes .ownerInstallApply s (fun t => t = s)))

/-- The commands that move the device between its power states. -/
def Obligations.PowerModesFollowTheirCommands : Prop :=
  (∀ (r0 r1 : Bool) (s : State), s.power = .reset → recordCode s false (s.flashAt 0 1792) ≠ 0 → recordCode s false (s.flashAt 0x10000 1792) ≠ 0 →
     Completes (.supplyGoodBoot r0 r1) s (fun t => t.power = .on ∧ t.owner = none ∧ t.keyFuses = s.keyFuses ∧ t.flash = s.flash)) ∧
  (∀ (tr : BitVec 8) (ps : BitVec 5) (s : State), s.runen = true → s.runpg = false →
     Completes (.runpgRise tr ps) s (fun t => t.runpg = true ∧ t.fld Reg.SYS_BOOT 3 0 = 9)) ∧
  (∀ s : State, s.runen = true → s.runpg = false → Completes .runpgTimeout s (fun t => ∃ u, t = raise u 32 0 false ∧ u.runen = false ∧
     u.fld Reg.SYS_PWR_STATUS 1 0 = 1 ∧ u.bit Reg.SYS_BOOT 7 = true ∧ u = { s with runen := false, regs := u.regs })) ∧
  (∀ (who : Requester) (force : Bool) (s : State), s.pwrAccess who = true → s.fld Reg.SYS_PWR_STATUS 1 0 = 0 → s.install = none →
     (∀ e < s.variant.engines, (s.eng e).emu = none) → Completes (.watchCmd who force) s (fun t =>
       t.runen = false ∧ t.runpg = false ∧ t.mem = [] ∧ t.fld Reg.SYS_PWR_STATUS 1 0 = 1 ∧ t.fld Reg.SYS_PWR_STATUS 4 2 = 0)) ∧
  (∀ (who : Requester) (s : State), s.pwrAccess who = true → s.fld Reg.SYS_PWR_STATUS 1 0 = 1 → s.tmp.tripped = false →
     Completes (.runCmd who) s (fun t => t.fld Reg.SYS_PWR_STATUS 1 0 = 3 ∧ t.fld Reg.SYS_PWR_STATUS 4 2 = 0 ∧ t.mem = s.mem ∧ t.seats = s.seats ∧
       t.runen = (s.runen || s.refOk (s.fld Reg.TMP_CLKSTAT 2 2)))) ∧
  (∀ (who : Requester) (s : State), s.controlAllowed who Reg.AON_HIB_CMD true = true → s.plantOrM who = true → s.fld Reg.SYS_PWR_STATUS 1 0 = 1 →
     (s.reg Reg.AON_WAKE_STATUS &&& s.reg Reg.AON_WAKE_EN) &&& 0x7F = 0 → s.burn = .none →
     Completes (.hibEnter who) s (fun t => t.power = .hibernate ∧ t.mem = [] ∧ t.seats = [] ∧ t.owner = none ∧ t.keyFuses = s.keyFuses ∧
       t.flash = s.flash ∧ t.uid = s.uid ∧ ∀ a, blockNumber a ≠ some 26 → t.reg a = regReset a)) ∧
  (∀ (k : BitVec 3) (active : Bool) (s : State), s.power ≠ .dead → k ≠ 7 → (wakeLevelBit k.toNat = none ∨ active = true) →
     Completes (.wakeSource k active) s (fun t => t.bit Reg.AON_WAKE_STATUS k.toNat = true ∧
       (s.power = .hibernate → s.bit Reg.AON_WAKE_EN k.toNat = true → s.burn = .none → t.power = .reset ∧ t.reg Reg.SYS_RSTCAUSE = 8))) ∧
  (∀ (i : BitVec 1) (s : State), s.power = .on → Completes (.sysrefLock i) s (fun t => t.bit Reg.TMP_CLKSTAT i.toNat = true)) ∧
  (∀ (i : BitVec 1) (s : State), s.refOk i.toNat = true → s.refOk (1 - i.toNat) = true →
     (i.toNat ≠ s.fld Reg.TMP_CLKSTAT 2 2 → Completes (.sysrefLoss i) s (fun t => t = s.setBit Reg.TMP_CLKSTAT i.toNat false)) ∧
     (i.toNat = s.fld Reg.TMP_CLKSTAT 2 2 → s.bit Reg.TMP_CLKCFG 1 = true → Completes (.sysrefLoss i) s (fun t =>
       ∃ u, t = raise u 33 0 false ∧ RegsOnly s u ∧ u.fld Reg.TMP_CLKSTAT 2 2 = 1 - i.toNat ∧ u.bit Reg.TMP_CLKSTAT i.toNat = false))) ∧
  (∀ (w : W64) (n : Nat) (s : State), n < 64 → w.getLsbD n = true → s.sensorThere n = true →
     Completes (.fixedTrip w) s (fun t => t.tmp.tripped = true))

/-- Events, live lines and graces of the fault collector (R544 to R553). -/
def Obligations.FaultEventsCountLatchAndEscalate : Prop :=
  (∀ (n cls : Nat) (s : State), n < 64 → sourceRaises n cls = true → s.sourcePresent n = true →
     let c := min cls (s.classMax n)
     let cnt := Reg.FC_SRCn_CNT n
     let st := Reg.FC_STATUS_LO + 4 * (n / 32)
     s.bit (Reg.FC_SRCn_CFG n) (12 + c) = false → s.bit Reg.FC_FIRST 8 = true →
     Completes (.faultRaise n cls false) s (fun t => RegsOnly s t ∧ t.reg cnt = BitVec.ofNat 32 (min (2 ^ 32 - 1) ((s.reg cnt).toNat + 1)) ∧
       (c = 0 → ∀ a, a ≠ cnt → t.reg a = s.reg a) ∧
       (c ≠ 0 → t.bit st (n % 32) = true ∧ t.bit Reg.FC_FIRST 9 = true ∧ ∀ a, a ≠ cnt → a ≠ st → a ≠ Reg.FC_FIRST → t.reg a = s.reg a))) ∧
  (∀ (n : SrcIx) (s : State), s.live n = true → n ≠ 41 →
     Completes (.liveLineClear n) s (fun t => t.live n = false ∧ t = { s with regs := t.regs, fc := t.fc } ∧
       (safetySource n = false → (t.source n).grace = .idle) ∧ (safetySource n = true → t.source n = { s.source n with clearing := true }))) ∧
  (∀ (n : SrcIx) (s : State), (s.source n).clearing = true → s.live n = false →
     Completes (.safetyClearHold n) s (fun t => t = s.setSource n { grace := .idle, cls := 0, clearing := false })) ∧
  (∀ (n : SrcIx) (s : State), (s.source n).grace = .u → s.live n = true → s.classMax n = 2 → s.bit Reg.FC_FIRST 8 = false → s.fGrace n true ≠ 0 →
     (∀ d, (s.domain d).fnotify = false) → s.bit Reg.FC_NSEAT 11 = false →
     Completes (.ugraceExpiry n) s (fun t => t = s.setSource n { grace := .f, cls := 2, clearing := false })) ∧
  (∀ (n : SrcIx) (s : State), (s.source n).grace = .f → n ≠ 31 →
     Completes (.fgraceExpiry n) s (fun t => t = safeOrder (s.setSource n { s.source n with grace := .done }) (if n = 41 then .safeIn else .escalation) n)) ∧
  (∀ (who : Requester) (src : BitVec 4) (cls : BitVec 2) (s : State), s.controlAllowed who Reg.FC_SWRAISE true = true → cls ≠ 3 →
     Completes (.fcSwraise who src cls true) s (fun t => t = raise s (48 + src.toNat) cls.toNat true)) ∧
  (∀ (who : Requester) (s : State), s.controlAllowed who Reg.FC_FIRST_CLR true = true → Completes (.fcFirstClr who) s (fun t => RegsOnly s t ∧
     t.reg Reg.FC_FIRST = 0 ∧ t.reg64 Reg.FC_FIRST_TIME_LO = 0 ∧ t.reg Reg.FC_FIRST_ISL = 0 ∧ t.reg Reg.FC_FIRST_FENCE = 0)) ∧
  (∀ (i : Nat) (s : State), s.controlAllowed (.seat i) Reg.FC_HANDLING true = true → s.bit Reg.FC_HANDLING 0 = false → i ≠ plantSeat →
     (s.seat i).mode ≠ .m → Completes (.fcHandlingWrite (.seat i) true) s (fun t => RegBecomes s t Reg.FC_HANDLING (BitVec.ofNat 32 (1 + 2 * (s.seat i).hdom))))

/-- The safe state's commands (R554 to R560). -/
def Obligations.SafeStateIsEnteredAndLeftByItsCommands : Prop :=
  (∀ (who : Requester) (s : State), s.controlAllowed who Reg.FC_SAFE_CMD true = true → s.safeState ≠ 0 →
     Completes (.safeEnter who) s (fun t => t.safeState = 0 ∧ t.fld Reg.FC_SAFE 4 2 = 4 ∧ t.power = s.power ∧ t.owner = s.owner)) ∧
  (∀ s : State, s.live 41 = false → Completes .safeInActive s (fun t => t = raise (s.setBit Reg.AON_WAKECFG 17 true) 41 2 true)) ∧
  (∀ s : State, s.bit Reg.FC_HANDLING 0 = true → s.safeState ≠ 0 → Completes (.ietFire 2) s (fun t => t.bit Reg.FC_IET 8 = true ∧
     t.fld Reg.FC_IET 11 9 = 2 ∧ t.safeState = 0)) ∧
  (∀ (who : Requester) (s : State), s.controlAllowed who Reg.FC_IET true = true → s.plantOrM who = true →
     Completes (.fcIetClear who false) s (fun t => RegsOnly s t ∧ t.bit Reg.FC_IET 8 = false ∧ t.fld Reg.FC_IET 11 9 = 0 ∧
       ∀ a, a ≠ Reg.FC_IET → t.reg a = s.reg a)) ∧
  (∀ (who : Requester) (s : State), s.controlAllowed who Reg.FC_SAFE_CMD true = true →
     (s.plantOrM who = true →
       (releaseOk s = false → Completes (.safeRelease who) s (fun t => t = s.setBit Reg.FC_SAFE 11 true)) ∧
       (releaseOk s = true → s.safeState = 0 → s.fld Reg.FC_SAFE 4 2 = 0 → Completes (.safeRelease who) s (fun t => RegsOnly s t ∧ t.safeState = 2 ∧
         ∀ a, a ≠ Reg.FC_SAFE → t.reg a = s.reg a)) ∧
       (releaseOk s = true → s.safeState = 0 → s.fld Reg.FC_SAFE 4 2 ≠ 0 → Completes (.safeRelease who) s (fun t => t.safeState = 1 ∧
         t.plantRestart = some 2 ∧ (t.seat plantSeat).st = .off ∧ (t.seat plantSeat).x = [])) ∧
       (s.safeState = 2 → Completes (.safeResume who) s (fun t => t.safeState = 3 ∧ t.mem = s.mem ∧ t.seats = s.seats)) ∧
       (s.safeState ≠ 2 → Completes (.safeResume who) s (fun t => t = s.setBit Reg.FC_SAFE 11 true))) ∧
     (s.plantOrM who = false → Completes (.safeRelease who) s (fun t => t = { s with out := s.out ++ [Out.busError who] }) ∧
       Completes (.safeResume who) s (fun t => t = { s with out := s.out ++ [Out.busError who] }))) ∧
  (∀ s : State, s.plantRestart = some 2 → Completes .safeRestartDone s (fun t => t = plantRestartDone s)) ∧
  (∀ s : State, s.safeState = 3 → s.bit Reg.FC_PIP 0 = true → Completes .pipHalfPeriod s (fun t => RegsOnly s t ∧
     t.bit Reg.FC_PIP 12 = !s.bit Reg.FC_PIP 12 ∧ ∀ a, a ≠ Reg.FC_PIP → t.reg a = s.reg a))

/-- Die temperature, throttle class A, supply sag and clocks (R569 to R587). What an uncovered choice of the model adds is in log entries of those rules; the values here are the rules'. -/
def Obligations.ThrottleAndSensorCommandsAct : Prop :=
  (∀ (g : Nat) (means : List (Nat × Nat)) (s : State) (th : Throttle) (c : Instr), g < 15 → sget none s.throttles g = some th →
     ((c = .throttleGraceEnd g means ∧ th.enforced = false) ∨ (c = .throttleRemeasure g means ∧ th.enforced = true)) →
     ((∀ m ∈ means, m.2 ≤ th.target) → Completes c s (fun t => t = { s with throttles := t.throttles } ∧
       sget none t.throttles g = some { th with enforced := true } ∧ ∀ j, j ≠ g → sget none t.throttles j = sget none s.throttles j)) ∧
     (∀ k m : Nat, means = [(k, m)] → k ∈ groupCores s g → sget false s.tmp.enforced (60 * g + k) = false → th.target < m →
       sget none s.tmp.capAt k = none → (∀ d, (s.domain d).role ≠ 2) →
       Completes c s (fun t => sget none t.throttles g = some { th with enforced := true } ∧ sget false t.tmp.enforced (60 * g + k) = true ∧
         t.cap k = capTarget t k ∧ t.cap k ≤ th.target ∧ t.mem = s.mem ∧ t.seats = s.seats))) ∧
  (∀ (e c : Nat) (s : State), e < 5 → c < 12 → (∀ d, (s.domain d).role ≠ 2) → sget false s.tmp.capDue (12 * e + c) = true →
     Completes (.capUpdate e c) s (fun t => t.cap (12 * e + c) = capTarget s (12 * e + c) ∧ sget false t.tmp.capDue (12 * e + c) = false ∧
       t = { s with regs := t.regs, tmp := t.tmp })) ∧
  (∀ (g : Nat) (raw : List (BitVec 16)) (s : State), s.fld (Reg.TMP_GRPg_CFG g) 1 0 ≠ 1 → Completes (.tmpSample g raw) s (fun t => t = s) ∧
     (s.fld (Reg.TMP_GRPg_CFG g) 1 0 = 0 → Completes (.tmpSampleCmd g raw) s (fun t => t = s))) ∧
  (∀ (g : Nat) (r : BitVec 16) (s : State) (c : Instr), g < 15 → r ≠ 0x8000 → s.fld (Reg.TMP_GRPg_CFG g) 7 2 = 0 →
     ((c = .tmpSample g [r, r, r, r] ∧ s.fld (Reg.TMP_GRPg_CFG g) 1 0 = 1) ∨ (c = .tmpSampleCmd g [r, r, r, r] ∧ s.fld (Reg.TMP_GRPg_CFG g) 1 0 ≠ 0)) →
     (∀ i, i < 4 → s.sensorUp (4 * g + i) = true ∧ s.fld (Reg.CAL_TSs (4 * g + i)) 15 0 = 0 ∧ s.bit (Reg.TMP_SENSs (4 * g + i)) 16 = false) →
     Completes c s (fun t => t = { s with regs := t.regs, tmp := t.tmp } ∧ (∀ i, i < 4 → t.fld (Reg.TMP_SENSs (4 * g + i)) 15 0 = r.toNat) ∧
       t.fld (Reg.TMP_GRPg_STAT g) 15 0 = r.toNat ∧ (6720 ≤ r.toInt → t.bit Reg.TMP_STATUS (16 + g) = true))) ∧
  (∀ s : State, Completes .tmpHistoryBoundary s (fun t => t = { s with tmp := t.tmp } ∧
     ∀ g, g < 16 → (t.tgroup g).hist = (match (s.tgroup g).last with | some e => (e :: (s.tgroup g).hist).take 64 | none => (s.tgroup g).hist))) ∧
  (∀ (i : Nat) (s : State), i ≤ 24 → s.islandOn i = true →
     Completes (.droopSag i) s (fun t => t = { s with regs := t.regs, tmp := t.tmp } ∧ sget 0 t.tmp.stretch i = 8 ∧ t.bit (Reg.TMP_DROOPi i) 8 = true ∧
       t.bit (Reg.TMP_DROOPi i) 9 = false ∧ t.reg Reg.TMP_SAG_CNT =
         (if sget 0 s.tmp.stretch i = 0 then BitVec.ofNat 32 (min (2 ^ 32 - 1) ((s.reg Reg.TMP_SAG_CNT).toNat + 1)) else s.reg Reg.TMP_SAG_CNT)) ∧
     Completes (.stretchWindowOver i) s (fun t => t = raise (s.count Reg.TMP_STRX_CNT 1) 32 0 false) ∧
     (4 < i → s.tmp.stopped = false → Completes (.clockMonitorWindow i true) s (fun t => ∃ u, t = raise u 33 2 true ∧
       u = { s with tmp := { s.tmp with offFreq := sset false s.tmp.offFreq i true } }) ∧
       (s.live 33 = false → Completes (.clockMonitorWindow i false) s (fun t => t = { s with tmp := t.tmp } ∧ sget false t.tmp.offFreq i = false)))) ∧
  (∀ (i k : Nat) (s : State), sget 0 s.tmp.stretch i = k + 1 → Completes (.stretchRecoverStep i) s (fun t =>
     t = { s with regs := t.regs, tmp := t.tmp } ∧ sget 0 t.tmp.stretch i = k ∧ t.bit (Reg.TMP_DROOPi i) 8 = decide (0 < k) ∧
     t.bit (Reg.TMP_DROOPi i) 9 = decide (0 < k))) ∧
  (∀ (rail : Nat) (high : Bool) (s : State), rail < 10 → (rail < 6 → s.runpg = true) →
     (rail ≠ 6 ∨ high = true → Completes (.railOutOfBand rail high) s (fun t =>
       t = raise (s.setBit Reg.TMP_RAIL (if high then 16 + rail else rail) true) 32 2 true)) ∧
     (rail = 6 ∧ high = false → Completes (.railOutOfBand rail high) s (fun t => t = s))) ∧
  (∀ (v : W32) (s : State), ((∀ e, e < 5 → fbits v (5 * e + 4) (5 * e) ≤ 20) → Completes (.sefreqWrite v) s (fun t => RegBecomes s t Reg.TMP_SEFREQ (v &&& 0x1FFFFFF))) ∧
     (∀ e, e < 5 → 20 < fbits v (5 * e + 4) (5 * e) → Completes (.sefreqWrite v) s (fun t => t = s))) ∧
  (∀ s : State, (s.bit Reg.TMP_CLKSTAT 4 = true → Completes .generatorHoldoverEnd s (fun t => t = { s with regs := t.regs, tmp := t.tmp } ∧
       t.tmp.stopped = true ∧ (∀ i, i < 32 → t.bit Reg.SYS_ISLAND_ON i = (decide (24 ≤ i) && s.bit Reg.SYS_ISLAND_ON i)) ∧
       ∀ a, a ≠ Reg.SYS_ISLAND_ON → t.reg a = s.reg a)) ∧
     (s.bit Reg.TMP_CLKSTAT 4 = false → Completes .generatorHoldoverEnd s (fun t => t = s)))

/-- The plant island's commands (R443 to R460). -/
def Obligations.PlantOutputsAndZonesFollowTheirRules : Prop :=
  (∀ s : State, Completes .lockstepMismatch s (fun t => t = plantRestartBegin (raise s 21 2 true) 1 ∧ t.plantRestart = some 1 ∧
     (t.seat plantSeat).st = .off ∧ ∀ r, (t.seat plantSeat).sx r = 0)) ∧
  (∀ (c load len entry : Nat) (s : State), s.plantRestart = some c → c < 4 → c ≠ 2 → s.plant.machine = some (load, len, entry) →
     Completes .plantRestartDone s (fun t => t.plantRestart = none ∧ (t.seat plantSeat).st = .run ∧ (t.seat plantSeat).mode = .m ∧
       (t.seat plantSeat).pc = BitVec.ofNat 40 entry ∧ (∀ r, (t.seat plantSeat).sx r = 0) ∧ t.fld Reg.PLT_STATUS 2 1 = c ∧
       t.reg Reg.PLT_RESTART_CNT = BitVec.ofNat 32 (min (2 ^ 32 - 1) ((s.reg Reg.PLT_RESTART_CNT).toNat + 1)) ∧ t.live 21 = false ∧ t.mem = s.mem)) ∧
  (∀ s : State, s.plantRestart = none → Completes .plantRestartDone s (fun t => t = s)) ∧
  (∀ (k : Nat) (s : State), k < 32 →
     (s.safeState ≠ 3 → Completes (.soDemandChange k) s (fun t => t = s) ∧
       Completes (.soMinTimeExpiry k) s (fun t => t = { s with plant := { s.plant with soDone := sset false s.plant.soDone k true } })) ∧
     (soMin s k ≠ 0 → sget false s.plant.soDone k = false → Completes (.soDemandChange k) s (fun t => t = s)) ∧
     (∀ (c : Instr) (d : Bool), s.safeState = 3 → soDemand s k = some d →
       (c = .soMinTimeExpiry k ∨ (c = .soDemandChange k ∧ (soMin s k = 0 ∨ sget false s.plant.soDone k = true))) →
       Completes c s (fun t => t = { s with regs := t.regs, plant := t.plant } ∧ t.bit Reg.PLT_SO_STATE k = d ∧
         (∀ j, j < 32 → j ≠ k → t.bit Reg.PLT_SO_STATE j = s.bit Reg.PLT_SO_STATE j) ∧ ∀ a, a ≠ Reg.PLT_SO_STATE → t.reg a = s.reg a))) ∧
  (∀ (m x : Nat) (s : State), m < 8 → s.safeState = 3 → moTarget s m = some x →
     Completes (.moSlewTick m) s (fun t => t = { s with moDuty := t.moDuty } ∧ (∀ j, j ≠ m → t.moDutyOf j = s.moDutyOf j) ∧
       (s.fld (Reg.PLT_MOm_CFG m) 31 16 = 0 → t.moDutyOf m = x) ∧
       (s.fld (Reg.PLT_MOm_CFG m) 31 16 ≠ 0 → t.moDutyOf m = (if s.moDutyOf m ≤ x then min x (s.moDutyOf m + s.fld (Reg.PLT_MOm_CFG m) 31 16)
         else max x (s.moDutyOf m - s.fld (Reg.PLT_MOm_CFG m) 31 16))))) ∧
  (∀ (z : Nat) (s : State), z < 8 → (sget false s.plant.zoneHold z = true → zonePresence s z = false →
       Completes (.occholdExpiry z) s (fun t => t = { s with regs := t.regs, plant := t.plant, pairHeld := t.pairHeld } ∧ t.bit (Reg.PLT_CZz_STAT z) 2 = false ∧ sget false t.plant.zoneHold z = false)) ∧
     (zonePresence s z = true → Completes (.occholdExpiry z) s (fun t => t = s)) ∧
     ∀ v : W32, Completes (.pltCzOvrWrite z v) s (fun t => t = { s with regs := t.regs, plant := t.plant, pairHeld := t.pairHeld } ∧
       t.fld (Reg.PLT_CZz_OVR z) 1 0 = fbits v 1 0 ∧ t.fld (Reg.PLT_CZz_OVR z) 17 4 = fbits v 17 4 ∧
       t.bit (Reg.PLT_CZz_OVR z) 2 = decide (0 < fbits v 17 4) ∧ t.bit (Reg.PLT_CZz_STAT z) 3 = decide (0 < fbits v 17 4))) ∧
  (∀ (who : Requester) (s : State), s.controlAllowed who Reg.PLT_HB true = true →
     (s.plantOrM who = true → s.lapsed = true → s.fld Reg.PLT_HBCFG 15 0 ≠ 0 → Completes (.pltHbWrite who) s (fun t => t.lapsed = false ∧ t.mem = s.mem ∧ t.seats = s.seats)) ∧
     (s.plantOrM who = true → s.fld Reg.PLT_HBCFG 15 0 = 0 → Completes (.pltHbWrite who) s (fun t => t = s)) ∧
     (s.plantOrM who = false → Completes (.pltHbWrite who) s (fun t => t = { s with out := s.out ++ [Out.busError who] }))) ∧
  (∀ s : State, (s.lapsed = true → Completes .heartbeatLapse s (fun t => t = s)) ∧
     (s.lapsed = false → s.bit (Reg.FC_SRCn_CFG 23) 12 = false → Completes .heartbeatLapse s (fun t => t.lapsed = true ∧ t.live 23 = true ∧ t.mem = s.mem)))

/-- The clock, schedule and presence inputs (R449 to R455). That a step of more than one minute forward replays the skipped ones is the rule's; that the alarm check comes at the second is the model's order. -/
def Obligations.ClockScheduleAndPresenceFollowTheirRules : Prop :=
  (∀ s : State, s.power = .on → s.fld Reg.SYS_PWR_STATUS 1 0 ≠ 1 →
     Completes .rtcSecond s (fun t => t.rtcSec = (s.rtcSec + 1) % 2 ^ 40 ∧ t.reg Reg.AON_RTC_SUB = 0 ∧ t.mem = s.mem ∧ t.seats = s.seats)) ∧
  (∀ s : State, s.power = .dead → Completes .rtcSecond s (fun t => t = s)) ∧
  (∀ (v : BitVec 40) (s : State), Completes (.rtcSecWrite v) s (fun t => t = { s with regs := t.regs, plant := t.plant } ∧ t.rtcSec = v.toNat ∧
     t.reg Reg.AON_RTC_SUB = 0 ∧ t.plant.lastMin = some t.localMin ∧
     ∀ a, a ≠ Reg.AON_RTC_SEC_LO → a ≠ Reg.AON_RTC_SEC_LO + 4 → a ≠ Reg.AON_RTC_SUB → t.reg a = s.reg a)) ∧
  (∀ (v : BitVec 16) (s : State), (840 < v.toInt.natAbs → Completes (.aonTzWrite v) s (fun t => t = s)) ∧
     (v.toInt.natAbs ≤ 840 → s.plant.lastMin = none → Completes (.aonTzWrite v) s (fun t => RegBecomes s t Reg.AON_TZ (v.setWidth 32))) ∧
     (∀ l : Int, v.toInt.natAbs ≤ 840 → s.plant.lastMin = some l → s.power = .on → s.fld Reg.SYS_PWR_STATUS 1 0 ≠ 1 →
       s.localMin + 1 < (s.setReg Reg.AON_TZ (v.setWidth 32)).localMin → l < (s.setReg Reg.AON_TZ (v.setWidth 32)).localMin →
       Completes (.aonTzWrite v) s (fun t => t.reg Reg.AON_TZ = v.setWidth 32 ∧ t.plant.lastMin = some t.localMin ∧ t.mem = s.mem))) ∧
  (∀ (who : Requester) (n : Nat) (s : State), s.controlAllowed who Reg.AON_CAL_DATE false = true → s.localSec = (n : Int) → n < 86400 * 36525 →
     Completes (.calDateRead who) s (fun t => t = { s with regs := t.regs, out := s.out ++ [Out.readData who ((t.reg Reg.AON_CAL_DATE).setWidth 64)] } ∧
       t.reg Reg.AON_CAL_DATE = (calendar n).1 ∧ t.fld Reg.AON_CAL_TIME 5 0 = n % 60 ∧ t.fld Reg.AON_CAL_TIME 11 6 = n / 60 % 60 ∧
       t.fld Reg.AON_CAL_TIME 16 12 = n / 3600 % 24)) ∧
  (∀ s : State, s.power = .on → s.fld Reg.SYS_PWR_STATUS 1 0 ≠ 1 → s.localSec % 60 = 0 → minuteDue s s.localMin = true →
     Completes .scheduleMinute s (fun t => t.plant.lastMin = some s.localMin ∧ t.mem = s.mem ∧
       ((∀ k, k < 64 → schFires s s.localMin k = false) → t = { s with plant := { s.plant with lastMin := some s.localMin } }) ∧
       ∀ k z : Nat, k < 64 → z < 8 → schFires s s.localMin k = true → s.bit (Reg.AON_SCHk k) (18 + z) = true →
         (∀ j, k < j → j < 64 → schFires s s.localMin j = true → s.bit (Reg.AON_SCHk j) (18 + z) = false) →
         t.fld Reg.AON_ZMODE (2 * z + 1) (2 * z) = s.fld (Reg.AON_SCHk k) 27 26 ∧ t.bit Reg.AON_STATUS 1 = true)) ∧
  (∀ s : State, s.localSec % 60 ≠ 0 ∨ minuteDue s s.localMin = false → Completes .scheduleMinute s (fun t => t = s)) ∧
  (∀ s : State, (s.power = .on → Completes .oscStop s (fun t => t = raise (s.setBit Reg.AON_STATUS 2 true) 34 0 false)) ∧
     (s.power = .hibernate → Completes .oscStop s (fun t => t = s.setBit Reg.AON_STATUS 2 true))) ∧
  (∀ (levels : BitVec 4) (s : State), s.power = .on → s.fld Reg.SYS_PWR_STATUS 1 0 ≠ 1 →
     Completes (.presSample levels) s (fun t => t.mem = s.mem ∧ ∀ n, n < 4 →
       let b := levels.getLsbD n != s.bit Reg.PLT_PRESCFG n
       t.bit Reg.PLT_PRES n = b ∧ t.bit Reg.PLT_PRES (4 + n) =
         (if s.fld Reg.PLT_PRESCFG 11 4 ≤ sget 0 s.plant.presCount n + 1 then b else s.bit Reg.PLT_PRES (4 + n)))) ∧
  (∀ (levels : BitVec 4) (s : State), s.power ≠ .on → Completes (.presSample levels) s (fun t => t = s))

/-- A web's commands (R182 to R205, R657). A quiet source is one whose event changes only the fault collector's own registers. -/
def Obligations.WebEdgesAndCommandsMoveTheWeb : Prop :=
  (∀ (n : Nat) (a b a0 b0 : Bool) (time : W64) (s : State), n < 4 → s.islandUp 22 = true → s.webSrc n = 0 → (s.web n).levels = (a0, b0) →
     tooSoon (s.web n).lastChange time = false →
     let fwd : Bool := (if a ≠ a0 then a != b else b == a) != fbit (s.act (Reg.POSn_CFG n)) 4
     let r := BitVec.ofNat 80 (s.ratio n)
     (a ≠ a0 → b ≠ b0 → Completes (.encEdge n a b time) s (fun t => Counted s t (Reg.POSn_QERR_CNT n) ∧ (t.web n).acc = (s.web n).acc ∧ (t.web n).levels = (a, b))) ∧
     ((a ≠ a0 ∧ b = b0) ∨ (a = a0 ∧ b ≠ b0) →
       (s.webState n = 1 → Completes (.encEdge n a b time) s (fun t => (t.web n).acc = (if fwd then (s.web n).acc + r else (s.web n).acc - r) ∧
         (t.web n).trusted = (t.web n).acc ∧ (t.web n).tBase = time ∧ t.mem = s.mem)) ∧
       (s.webState n = 2 → fwd = true → s.period n ≤ 2 * (time.toNat - (s.web n).tBase.toNat) → Completes (.encEdge n a b time) s (fun t =>
         (t.web n).acc = (s.web n).acc + r ∧ (t.web n).trusted = (t.web n).acc ∧ t.bit (Reg.POSn_STATE n) 2 = false ∧ t.reg (Reg.POSn_NOISE_CNT n) = s.reg (Reg.POSn_NOISE_CNT n))) ∧
       (s.webState n = 2 → (fwd = false ∨ 2 * (time.toNat - (s.web n).tBase.toNat) < s.period n) → Completes (.encEdge n a b time) s (fun t =>
         Counted s t (Reg.POSn_NOISE_CNT n) ∧ (t.web n).acc = (s.web n).acc ∧ t.webState n = 2)) ∧
       (s.webState n = 3 → Completes (.encEdge n a b time) s (fun t => t.reg (Reg.POSn_LOSTEDGE n) = s.reg (Reg.POSn_LOSTEDGE n) + (if fwd then 1 else -1) ∧
         (t.web n).acc = (s.web n).acc)))) ∧
  (∀ (n : Nat) (time : W64) (s : State), n < 4 → s.islandUp 22 = true → s.webSrc n = 0 → tooSoon (s.web n).lastChange time = false → s.webState n ≠ 0 →
     (s.web n).revOn = true → (s.web n).revBad = false → quiet s 17 →
     Completes (.encIndexEdge n time) s (fun t => t.reg (Reg.POSn_IDX_CNT n) = BitVec.ofInt 32 (s.web n).revNet ∧ (t.web n).revOn = true ∧ (t.web n).revNet = 0 ∧
       ((s.fld (Reg.POSn_REV n) 23 0 = 0 ∨ (s.web n).revNet = (s.fld (Reg.POSn_REV n) 23 0 : Int)) → t.reg (Reg.POSn_IDXERR_CNT n) = s.reg (Reg.POSn_IDXERR_CNT n)) ∧
       (s.fld (Reg.POSn_REV n) 23 0 ≠ 0 → (s.web n).revNet ≠ (s.fld (Reg.POSn_REV n) 23 0 : Int) → Counted s t (Reg.POSn_IDXERR_CNT n)))) ∧
  (∀ (n : Nat) (s : State), n < 4 → s.webSrc n = 0 → s.webState n = 2 → s.period n ≠ 0 →
     ((s.web n).nsyn < 2 → Completes (.edgeSynthesis n) s (fun t => (t.web n).acc = (s.web n).acc + BitVec.ofNat 80 (s.ratio n) ∧
       (t.web n).trusted = (s.web n).trusted ∧ (t.web n).nsyn = (s.web n).nsyn + 1 ∧ t.webState n = 2 ∧ Counted s t (Reg.POSn_SYNTH_CNT n))) ∧
     (2 ≤ (s.web n).nsyn → quiet s 17 → Completes (.edgeSynthesis n) s (fun t => t.webState n = 3 ∧ t.fld (Reg.POSn_STATE n) 8 7 = 1 ∧
       (t.web n).bcast = (s.web n).trusted ∧ t.bit (Reg.POSn_STATE n) 2 = false ∧ t.live 17 = true))) ∧
  (∀ (n : Nat) (s : State), n < 4 →
     (s.bit (Reg.POSn_CTL n) 0 = true → Completes (.webEnable n) s (fun t => t = s)) ∧
     (s.bit (Reg.POSn_CTL n) 0 = false → s.webSrc n = 0 → Completes (.webEnable n) s (fun t => t.bit (Reg.POSn_CTL n) 0 = true ∧ t.webState n = 1 ∧
       (t.web n).acc = (s.web n).acc ∧ t.bcastPos n = s.bcastPos n)) ∧
     Completes (.webDisable n) s (fun t => t.bit (Reg.POSn_CTL n) 0 = false ∧ t.webState n = 0 ∧ t.bit (Reg.POSn_STATE n) 2 = false ∧ t.bcastPos n = s.bcastPos n ∧
       (t.web n).acc = (s.web n).acc) ∧
     (s.webSrc n = 0 → s.webState n ≠ 2 → Completes (.posSet n) s (fun t => t.bcastPos n = (s.reg64 (Reg.POSn_SET_LO n)).toNat ∧
       (t.reg64 (Reg.POSn_TRUST_LO n)) = s.reg64 (Reg.POSn_SET_LO n) ∧ t.reg (Reg.POSn_LOSTEDGE n) = 0 ∧ t.bit (Reg.POSn_STATE n) 9 = false ∧
       t.webState n = if s.webState n = 0 then 0 else 1)) ∧
     (s.webSrc n ≠ 0 ∨ s.webState n = 2 → Completes (.posSet n) s (fun t => t = s.setBit (Reg.POSn_STATE n) 9 true)) ∧
     (s.webSrc n = 0 → s.webState n = 3 → Completes (.posResume n) s (fun t => t.webState n = 1 ∧ t.reg (Reg.POSn_LOSTEDGE n) = 0 ∧
       (t.web n).acc = (s.web n).trusted + BitVec.ofInt 80 ((s.reg (Reg.POSn_LOSTEDGE n)).toInt * (s.ratio n : Int)) ∧ (t.web n).bcast = (t.web n).acc)) ∧
     (s.webSrc n ≠ 0 ∨ s.webState n ≠ 3 → Completes (.posResume n) s (fun t => t = s.setBit (Reg.POSn_STATE n) 9 true)) ∧
     Completes (.posClrcnt n) s (fun t => RegsOnly s t ∧ t.reg (Reg.POSn_NOISE_CNT n) = 0 ∧ t.reg (Reg.POSn_SYNTH_CNT n) = 0 ∧ t.reg (Reg.POSn_QERR_CNT n) = 0 ∧
       t.reg (Reg.POSn_IDXERR_CNT n) = 0 ∧ t.bit (Reg.POSn_STATE n) 9 = false ∧ t.webState n = s.webState n) ∧
     (s.webSrc n = 2 → s.bit (Reg.POSn_CTL n) 0 = true → s.webState n ≠ 3 → quiet s 17 → Completes (.ringSampleTimeout n) s (fun t => t.webState n = 3 ∧
       t.fld (Reg.POSn_STATE n) 8 7 = 3 ∧ (t.web n).sample = none ∧ (t.web n).bcast = (s.web n).trusted)) ∧
     (s.webSrc n ≠ 2 ∨ s.bit (Reg.POSn_CTL n) 0 = false ∨ s.webState n = 3 → Completes (.ringSampleTimeout n) s (fun t => t = s)))

/-- Broadcasts, captures and marks (R191, R195 to R201, R203). -/
def Obligations.CapturesMarksAndBroadcastsFollowTheirRules : Prop :=
  (∀ (n : Nat) (time : W64) (s : State), n < 4 → s.islandUp 22 = true → s.spare.want = false → (∀ e, (s.eng e).emu = none) →
     (∀ d, d < 8 → (s.stgDom d).armedOn = false) → s.bit (Reg.POSn_CTL n) 0 = true → s.webSrc n = 0 →
     (∀ m, m < 4 → m ≠ n → s.bit (Reg.POSn_CTL m) 0 = false) →
     ((∀ k, k < 64 → s.bit (Reg.POS_MKk_CTL k) 0 = false) →
       (s.webState n = 1 → Completes (.positionBroadcast time) s (fun t => t.bcastPos n = (s.web n).acc.toNat / 2 ^ 16 % 2 ^ 64 ∧ t.bit (Reg.POSn_STATE n) 2 = false ∧ t.mem = s.mem)) ∧
       (s.webState n = 2 → Completes (.positionBroadcast time) s (fun t =>
         let b := BitVec.ofNat 80 (max (s.web n).bcast.toNat (webCand s n time.toNat))
         (t.web n).bcast = b ∧ t.bcastPos n = b.toNat / 2 ^ 16 % 2 ^ 64))) ∧
     (∀ k, k < 64 → s.bit (Reg.POS_MKk_CTL k) 0 = true → s.fld (Reg.POS_MKk_CTL k) 6 1 = n + 2 ^ 2 * 3 → s.reg64 (Reg.POS_MKk_PER_LO k) = 0 →
       (∀ j, j < 64 → j ≠ k → s.bit (Reg.POS_MKk_CTL j) 0 = false) → s.webState n = 1 →
       (s.reg64 (Reg.POS_MKk_POS_LO k)).toNat ≤ (s.web n).acc.toNat / 2 ^ 16 % 2 ^ 64 →
       Completes (.positionBroadcast time) s (fun t => t.bit (Reg.POS_MKk_STAT k) 0 = true ∧ t.bit (Reg.POS_MKk_CTL k) 0 = false ∧
         t.fld (Reg.POS_MKk_STAT k) 31 16 = min 65535 (s.fld (Reg.POS_MKk_STAT k) 31 16 + 1)))) ∧
  (∀ (time : W64) (s : State), s.islandUp 22 = false → Completes (.positionBroadcast time) s (fun t => t = s)) ∧
  (∀ (m n : Nat) (time : W64) (s : State), m < 4 → n < 4 → s.islandUp 22 = true → s.bit (Reg.TOFm_CFG m) 0 = true → s.fld (Reg.TOFm_CFG m) 3 2 = n →
     tooSoon (s.tof m).lastChange time = false → (s.tof m).last = none → s.bit (Reg.POSn_CTL n) 0 = true → s.webSrc n = 0 → s.webState n = 1 →
     ((s.tof m).fifo.length < 8 → Completes (.tofEdge m time) s (fun t => (t.tof m).fifo =
       (s.tof m).fifo ++ [(BitVec.ofNat 64 ((s.web n).acc.toNat / 2 ^ 16), BitVec.ofNat 32 (time.toNat / 256))])) ∧
     (8 ≤ (s.tof m).fifo.length → quiet s 17 → Completes (.tofEdge m time) s (fun t => (t.tof m).fifo = (s.tof m).fifo ∧ t.bit (Reg.TOFm_STAT m) 4 = true))) ∧
  (∀ (m : Nat) (s : State), m < 4 → Completes (.tofPop m) s (fun t => t = { s with pos := t.pos, regs := t.regs } ∧ (t.tof m).fifo = (s.tof m).fifo.drop 1 ∧
     t.fld (Reg.TOFm_STAT m) 3 0 = ((s.tof m).fifo.drop 1).length % 16)) ∧
  (∀ (k : Nat) (v : W32) (s : State), k < 64 →
     (fbit v 6 = false → Completes (.markCtlWrite k v) s (fun t => t = { s with pos := t.pos, regs := t.regs } ∧ t.reg (Reg.POS_MKk_CTL k) = v &&& 0x00FF01FF ∧
       ∀ a, a ≠ Reg.POS_MKk_CTL k → t.reg a = s.reg a)) ∧
     (fbit v 6 = true → s.bit (Reg.POS_MKk_CTL k) 6 = false → Completes (.markCtlWrite k v) s (fun t => t.bit (Reg.POS_MKk_CTL k) 0 = false ∧ t.bit (Reg.POS_MKk_CTL k) 6 = true))) ∧
  (∀ (n : Nat) (s : State), fbits (s.act (Reg.POSn_CFG n)) 15 6 = 0 ∨ s.ringSt = 0 → Completes (.psamplePublish n) s (fun t => t = s)) ∧
  (∀ (n : Nat) (s : State), fbits (s.act (Reg.POSn_CFG n)) 15 6 ≠ 0 → s.ringSt ≠ 0 → Completes (.psamplePublish n) s (fun t =>
     t = sendBroadcast s s.treePorts 0x15 (leBytes 8 (s.bcastPos n) ++ leBytes 4 (s.period n) ++ leBytes 1 n ++ leBytes 1 (s.webState n) ++ [0, 0] ++
       leBytes 8 s.ringTime.toNat)))

/-- The staging commands of a domain (R293 to R303). -/
def Obligations.StagingSetsFollowTheirCommands : Prop :=
  ∀ (who : Requester) (d : Nat) (s : State), d < 8 → s.bit (Reg.SYS_Dd_NQ_CTL d) 0 = false →
  (s.stgAccess who d = false → ∀ c ∈ [Instr.stageCommit who d, .stageArm who d, .stageCancel who d, .stageDiscard who d],
     Completes c s (fun t => t = { s with out := s.out ++ [Out.busError who] })) ∧
  (s.stgAccess who d = true →
    ((s.stgDom d).armedOn = false → s.bit (Reg.SNP_STGd_STATUS d) 11 = false → Completes (.stageArm who d) s (fun t =>
       t = { s with stg := t.stg, regs := t.regs } ∧ (t.stgDom d).armed = (s.stgDom d).openSet ∧ (t.stgDom d).openSet = [] ∧ (t.stgDom d).armedOn = true ∧
       t.fld (Reg.SNP_STGd_STATUS d) 14 13 = (if s.listN d = 0 then 2 else 1) ∧ t.fld (Reg.SNP_STGd_STATUS d) 9 0 = 0 ∧
       (∀ e, e ≠ d → t.stgDom e = s.stgDom e) ∧ ∀ a, a ≠ Reg.SNP_STGd_STATUS d → t.reg a = s.reg a)) ∧
    ((s.stgDom d).armedOn = true → Completes (.stageArm who d) s (fun t => t.fld (Reg.SNP_STGd_STATUS d) 19 16 = 4 ∧ t.stg = s.stg ∧ t.inForce = s.inForce)) ∧
    Completes (.stageCancel who d) s (fun t => (t.stgDom d).armedOn = false ∧ (t.stgDom d).armed = [] ∧ (t.stgDom d).list = [] ∧
       (t.stgDom d).openSet = (s.stgDom d).openSet ∧ t.fld (Reg.SNP_STGd_STATUS d) 14 13 = 0 ∧ t.fld (Reg.SNP_STGd_STATUS d) 19 16 = 7 ∧ t.inForce = s.inForce) ∧
    Completes (.stageDiscard who d) s (fun t => t = { s with stg := t.stg, regs := t.regs, pairHeld := t.pairHeld } ∧ (t.stgDom d).openSet = [] ∧
       (t.stgDom d).armed = (s.stgDom d).armed ∧ t.bit (Reg.SNP_STGd_STATUS d) 11 = false ∧ t.fld (Reg.SNP_STGd_STATUS d) 9 0 = 0 ∧
       ∀ e ∈ t.pairHeld, e.2.map (fun x => x.2) ≠ some d) ∧
    (∀ (n : Nat) (v : W32), n < 4 → (s.stgDom d).openSet = [(Reg.POSn_CFG n, v)] → fbits v 1 0 ≠ 3 → (s.stgDom d).armedOn = false →
       s.bit (Reg.SNP_STGd_STATUS d) 11 = false → s.listN d = 0 →
       Completes (.stageCommit who d) s (fun t => t.act (Reg.POSn_CFG n) = v &&& regMask (Reg.POSn_CFG n) ∧ (t.stgDom d).openSet = [] ∧
         (∀ a, a ≠ Reg.POSn_CFG n → t.act a = s.act a) ∧ t.fld (Reg.SNP_STGd_STATUS d) 19 16 = 1 ∧
         t.reg (Reg.SNP_STGd_COUNT d) = s.reg (Reg.SNP_STGd_COUNT d) + 1)) ∧
    ((s.stgDom d).armedOn = true → (s.stgDom d).armed ≠ [] → Completes (.stageCommit who d) s (fun t => t.stg = s.stg ∧ t.inForce = s.inForce ∧
       t.fld (Reg.SNP_STGd_STATUS d) 19 16 = 4))) ∧
  ((s.stgDom d).armedOn = true → s.fld (Reg.SNP_STGd_STATUS d) 14 13 = 1 → ∀ (a : Nat) (tag : BitVec 14), s.ptr (Reg.SNP_STGd_LIST_LO d) = (a, tag) →
    (∀ l, loadEntries s d a tag 0 (s.listN d) = .ok l → Completes (.loadListDone d) s (fun t => t = { s with stg := t.stg, regs := t.regs } ∧
       (t.stgDom d).list = l ∧ (t.stgDom d).armed = (s.stgDom d).armed ∧ t.fld (Reg.SNP_STGd_STATUS d) 14 13 = 2)) ∧
    (∀ k r, loadEntries s d a tag 0 (s.listN d) = .error (k, r) → Completes (.loadListDone d) s (fun t => (t.stgDom d).armedOn = false ∧
       (t.stgDom d).openSet = (s.stgDom d).openSet ∧ t.reg (Reg.SNP_STGd_BADIDX d) = BitVec.ofNat 32 k ∧ t.fld (Reg.SNP_STGd_STATUS d) 19 16 = r.code))) ∧
  ((s.stgDom d).armedOn = false ∨ s.fld (Reg.SNP_STGd_STATUS d) 14 13 ≠ 1 → Completes (.loadListDone d) s (fun t => t = s))

/-- WORK_START of the six stage units (R213, R231, R242, R251, R256, R287). -/
def Obligations.StageUnitsStartAndEndTheirWorks : Prop :=
  ∀ (e : Nat) (w : Work) (s : State), e < 5 →
  (∀ u, u < 6 → (s.front e u = none → Completes (startOf e u) s (fun t => t = s)) ∧
    (s.front e u = some w → w.started = true → Completes (startOf e u) s (fun t => t = s)) ∧
    (s.front e u = some w → w.started = false → descOk s e u w = false → Completes (startOf e u) s (fun t => WorkEnded s t e u w .desc 0))) ∧
  (s.front e 0 = some w → w.started = false → lcuValid w = true →
    (lcuBounds w = false → Completes (.lcuWorkStart e) s (fun t => WorkEnded s t e 0 w .bounds 0)) ∧
    (lcuBounds w = true → (lcuLine0 w.desc = 0 ∨ ∃ bs, slotRead s w.seat (w.slot 1) (lcuDrec w.desc) 16 = .ok bs) →
      Completes (.lcuWorkStart e) s (fun t => WorkStarted t e 0 w ∧ t.bit (Reg.SEn_LCU_STATUS e) 0 = true ∧ t.mem = s.mem)) ∧
    (∀ st, lcuBounds w = true → lcuLine0 w.desc ≠ 0 → slotRead s w.seat (w.slot 1) (lcuDrec w.desc) 16 = .error st →
      Completes (.lcuWorkStart e) s (fun t => WorkEnded s t e 0 w st 0))) ∧
  (s.front e 1 = some w → w.started = false → ccuValid w = true → Completes (.ccuWorkStart e) s (fun t => t = { s with works := t.works } ∧ WorkStarted t e 1 w)) ∧
  (s.front e 2 = some w → w.started = false → scuValid w = true → scuHasEd w.desc = false →
    Completes (.scuWorkStart e) s (fun t => t = { s with works := t.works, regs := t.regs } ∧ WorkStarted t e 2 w ∧ t.bit (Reg.SEn_SCU_STATUS e) 0 = true)) ∧
  (∀ (rcb : List Byte) (depth : Nat), s.front e 3 = some w → w.started = false → nmuValid w = true → s.shadow e = true →
    readRcb s w.seat (w.slot 1) (nmuRcb w.desc) = .ok rcb → depthOf rcb = some (depth, false) → inSlot (w.slot 1) (nmuRing w.desc) (depth * nmuRstride w.desc) = true →
    Completes (.nmuWorkStart e) s (fun t => WorkStarted t e 3 w ∧ (t.eng e).nmuDepth = depth ∧ t.bit (Reg.SEn_NMU_STATUS e) 0 = true ∧ t.mem = s.mem)) ∧
  (∀ (rcb : List Byte) (depth : Nat) (v : State), s.front e 4 = some w → w.started = false → emuValid s w.desc = true → inSlot (w.slot 1) (emuRcb w.desc) 64 = true →
    readRcb s w.seat (w.slot 1) (emuRcb w.desc) = .ok rcb → depthOf rcb = some (depth, false) → inSlot (w.slot 0) (emuRing w.desc) (depth * emuRstride w.desc) = true →
    leAt rcb 8 8 = emuEline0 w.desc → slotWrite s w.seat (w.slot 1) (emuRcb w.desc + 20) (leBytes 4 depth) = .ok v → v.works = s.works → v.islandUp e = true →
    Completes (.emuWorkStart e) s (fun t => WorkStarted t e 4 w ∧ t.mem = v.mem ∧ t.elineOf e = emuEline0 w.desc % 2 ^ 64 ∧
      ∃ r, (t.eng e).emu = some r ∧ r.desc = w.desc ∧ r.count = some w.count ∧ r.due = emuEline0 w.desc ∧ r.depth = depth ∧
        r.next = List.replicate (emuNb w.desc) (emuEline0 w.desc))) ∧
  (∀ hdr : List Byte, s.front e 5 = some w → w.started = false → icuValid s e w = true → slotRead s w.seat (w.slot 2) (icuState w.desc) 8 = .ok hdr →
    icuFresh w.desc = false → leNat hdr = icuFirst w.desc → Completes (.icuWorkStart e) s (fun t => WorkStarted t e 5 w ∧ t.bit (Reg.SEn_ICU_STATUS e) 0 = true ∧
      (t.eng e).icu.streams = List.replicate (icuNstr w.desc) IcuStream.init ∧ (t.eng e).icu.floor = icuFirst w.desc ∧ (t.eng e).icu.adj = s.icuAdj e ∧ t.mem = s.mem))

/-- The line commands of LCU, CCU, SCU and NMU. The hypotheses name what the slot windows answer. -/
def Obligations.StageUnitsPassTheirLines : Prop :=
  ∀ (e : Nat) (w : Work) (s : State), e < 5 → w.started = true → w.done + 1 < w.count →
  (∀ p : Nat, lcuNeeds s e = some (w, p) → s.shadow e = false →
    Completes (.lcuReadyPoll e) s (fun t => t = { s with engines := t.engines } ∧ (t.eng e).lcu.ready = readyNow s e w p ∧ (t.eng e).lcu.decision = (s.eng e).lcu.decision) ∧
    (readyNow s e w p ≠ 2 ^ lcuNlay w.desc - 1 → decPassed s w.desc p = false → Completes (.lcuBoundaryDecision e) s (fun t =>
      t = { s with engines := t.engines, regs := t.regs } ∧ (t.eng e).lcu.decision = (s.eng e).lcu.decision ∧ t.bit (Reg.SEn_LCU_STATUS e) 1 = true)) ∧
    (∀ v : State, readyNow s e w p = 2 ^ lcuNlay w.desc - 1 →
      slotWrite (((((s.setReg64 (Reg.SEn_LCU_PITCH_LO e) (BitVec.ofNat 64 p)).setBit (Reg.SEn_LCU_STATUS e) 1 false).setBit (Reg.SEn_LCU_STATUS e) 2 false).count (Reg.SEn_LCU_LATE_CNT e) 0).modLcu e (fun r => { r with decision := some { pitch := p, used := 2 ^ lcuNlay w.desc - 1, late := 0, err := 0, flags := 0, dropped := 0 } }))
        w.seat (w.slot 1) (lcuDrec w.desc) (leBytes 8 p ++ leBytes 1 (2 ^ lcuNlay w.desc - 1) ++ List.replicate 7 0) = .ok v →
      lcuNlay w.desc ≤ 8 → Completes (.lcuBoundaryDecision e) s (fun t => t.mem = v.mem ∧ t.store = v.store ∧
        (t.eng e).lcu.decision = some { pitch := p, used := 2 ^ lcuNlay w.desc - 1, late := 0, err := 0, flags := 0, dropped := 0 }))) ∧
  (lcuNeeds s e = none → Completes (.lcuReadyPoll e) s (fun t => t = s) ∧ Completes (.lcuBoundaryDecision e) s (fun t => t = s)) ∧
  (∀ (x : Decision) (a : Nat), s.front e 0 = some w → (s.eng e).lcu.decision = some x → x.pitch = (lcuAt w.desc w.done).1 → lcuNlay w.desc = 0 → x.flags = 0 →
    (lcuAt w.desc w.done).2 + 1 ≠ lcuPlen w.desc → 0 < lcuPels w.desc →
    let off := (lcuOline0 w.desc + w.done) % lcuOring w.desc * lcuOstride w.desc
    let n := 8 * pstride (lcuPels w.desc)
    target s w.seat (w.slot 0) off = .memory a → off + n ≤ dLen (w.slot 0) → s.tagsMatch a n (dKtag (w.slot 0)) = true → a + n ≤ s.memSize →
    (∀ p ∈ spanning 2048 a n, s.pageWritable p = true) →
    Completes (.lcuLine e) s (fun t => bytesAt t.mem a n = (List.range 8).flatMap (fun k =>
        padTo (pstride (lcuPels w.desc)) (bytes16 (List.replicate (lcuPels w.desc) (leAt w.desc (48 + 2 * k) 2)))) ∧
      (∀ b, b < a ∨ a + n ≤ b → t.byteAt b = s.byteAt b) ∧ t.front e 0 = some { w with done := w.done + 1 })) ∧
  (∀ (bs : List Byte) (a : Nat), s.front e 1 = some w → ccuGrid w.desc = 0 → ccuCmask w.desc = 0 → (∀ k, k < ccuInks w.desc → ccuSrc w.desc k ≤ 7) →
    0 < ccuInks w.desc → 0 < ccuPels w.desc →
    slotRead s w.seat (w.slot 0) (((leAt w.desc 24 4 + w.done) % leAt w.desc 18 2) * leAt w.desc 20 4) (8 * pstride (ccuPels w.desc)) = .ok bs →
    let off := (leAt w.desc 36 4 + w.done) % leAt w.desc 28 2 * leAt w.desc 32 4
    let n := ccuInks w.desc * pstride (ccuPels w.desc)
    target s w.seat (w.slot 1) off = .memory a → off + n ≤ dLen (w.slot 1) → s.tagsMatch a n (dKtag (w.slot 1)) = true → a + n ≤ s.memSize →
    (∀ p ∈ spanning 2048 a n, s.pageWritable p = true) →
    Completes (.ccuLine e) s (fun t => bytesAt t.mem a n = (List.range (ccuInks w.desc)).flatMap (fun k =>
        padTo (pstride (ccuPels w.desc)) (bytes16 (pels16 (ccuPels w.desc) (bs.drop (ccuSrc w.desc k * pstride (ccuPels w.desc)))))) ∧
      t.front e 1 = some { w with done := w.done + 1 } ∧ t.reg (Reg.SEn_CCU_LINES e) = s.reg (Reg.SEn_CCU_LINES e) + 1)) ∧
  (s.front e 2 = some w → let y := (scuLine0 w.desc + w.done) % 2 ^ 64
    (∀ st, inkLine s w = .error st → Completes (.scuLine e) s (fun t => WorkEnded s t e 2 w st w.done ∧ t.bit (Reg.SEn_SCU_STATUS e) 0 = false)) ∧
    (∀ (v : State) (rows : List (Option (List Int))), screenLine s w y = .ok (v, rows) → (y + 1) % 1024 ≠ 0 →
      Completes (.scuLine e) s (fun t => t.mem = v.mem ∧ t.front e 2 = some { w with done := w.done + 1 } ∧
        t.reg (Reg.SEn_SCU_LINES e) = s.reg (Reg.SEn_SCU_LINES e) + 1))) ∧
  (∀ (rcb line : List Byte) (u v z : State), s.front e 3 = some w → s.shadow e = false → readRcb s w.seat (w.slot 1) (nmuRcb w.desc) = .ok rcb →
    let y := nmuEline0 w.desc + w.done
    let depth := (s.eng e).nmuDepth
    leAt rcb 0 8 ≤ y →
    ((s.reg64 (Reg.POSn_POS_LO (nmuWeb w.desc))).toNat / 2 ^ 16 + depth ≤ y → Completes (.nmuLine e) s (fun t => t = s.setBit (Reg.SEn_NMU_STATUS e) 1 true)) ∧
    (y < (s.reg64 (Reg.POSn_POS_LO (nmuWeb w.desc))).toNat / 2 ^ 16 + depth → nmuCompute s e w y = .ok (u, line) →
      slotWrite u w.seat (w.slot 1) (nmuRing w.desc + (y % depth) * nmuRstride w.desc) line = .ok v →
      slotWrite v w.seat (w.slot 1) (nmuRcb w.desc) (leBytes 8 (y + 1)) = .ok z →
      Completes (.nmuLine e) s (fun t => t.mem = z.mem ∧ t.store = z.store ∧ t.front e 3 = some { w with done := w.done + 1 } ∧
        t.reg (Reg.SEn_NMU_LINES e) = s.reg (Reg.SEn_NMU_LINES e) + 1 ∧ t.bit (Reg.SEn_NMU_STATUS e) 1 = false)))

/-- The emitter's commands (R252 to R257). -/
def Obligations.EmittersSendFireAndStop : Prop :=
  ∀ (e : Nat) (s : State), e < 5 →
  (s.islandUp e = false → Completes (.emuLineDue e) s (fun t => t = s)) ∧
  (∀ web adv pos : Nat, web < 4 → s.islandUp e = true → (s.eng e).emu = none → (s.eng e).emuLast = some (web, adv) → s.webPos web = some pos →
    s.elineOf e ≤ pos / 2 ^ 16 + adv → s.role e = 0 → (s.eng e).episode = none → quiet s 37 →
    Completes (.emuLineDue e) s (fun t => Counted s t (Reg.SEn_EMU_UCNT e) ∧ (t.reg64 (Reg.SEn_EMU_UFIRST_LO e)).toNat = s.elineOf e ∧
      (t.reg64 (Reg.SEn_EMU_ULAST_LO e)).toNat = s.elineOf e ∧ t.elineOf e = (s.elineOf e + 1) % 2 ^ 64 ∧ (t.eng e).episode = some 1 ∧ t.mem = s.mem)) ∧
  (∀ (r : EmuRun) (pos : Nat), s.islandUp e = true → (s.eng e).emu = some r → s.webPos (emuWeb r.desc) = some pos →
    (r.halted = true → Completes (.emuLineDue e) s (fun t => t = s) ∧ ∀ b, Completes (.emuFire e b) s (fun t => t = s)) ∧
    (∀ (n : Nat) (wl bs : List Byte) (v : State), r.halted = false → r.count = some n → r.due < r.eline0 + n → s.spare.handoff = none →
      r.due ≤ pos / 2 ^ 16 + emuAdv r.desc → slotRead s r.seat (slotOf r.slots 1) (emuRcb r.desc) 8 = .ok wl → r.due < leNat wl → r.resendBelow ≤ r.due →
      slotRead s r.seat (slotOf r.slots 0) (emuRing r.desc + (r.due % r.depth) * emuRstride r.desc) (emuInks r.desc * dstride (emuNnoz r.desc)) = .ok bs →
      writeEline (dataSent (sendLine s e r r.due (some bs)) e) e r (r.due + 1) = .ok v →
      Completes (.emuLineDue e) s (fun t => t.mem = v.mem ∧ t.store = v.store ∧ t.links = v.links ∧ (t.eng e).emu = some { r with due := r.due + 1 } ∧
        t.elineOf e = (r.due + 1) % 2 ^ 64)) ∧
    (∀ (i : Nat) (b : Board), r.halted = false → (boardsOf r.desc)[i]? = some b → r.tookAt = none →
      let l := (r.next[i]?).getD 0
      (r.due ≤ l ∨ pos < l * 2 ^ 16 + b.fphase → Completes (.emuFire e i) s (fun t => t = s)) ∧
      (l < r.due → l * 2 ^ 16 + b.fphase ≤ pos → s.spare.handoff = none → s.bit Reg.POS_STATUS (8 + emuWeb r.desc) = false → ∀ n : Nat, r.count = some n → l + 1 < r.eline0 + n → i < r.next.length →
        Completes (.emuFire e i) s (fun t => t.links = (sendDrop s e r.desc b 3 0 0 0 0 l []).links ∧ t.mem = s.mem ∧
          (t.eng e).emu = some { r with next := r.next.modify i (· + 1) })))) ∧
  (∀ r : EmuRun, s.islandUp e = true → (s.eng e).emu = some r → s.webPos (emuWeb r.desc) = none → r.halted = false →
    Completes (.emuWebHalt e) s (fun t => (t.eng e).emu = some { r with halted := true } ∧ t.mem = s.mem ∧ t.fld (Reg.SEn_EMU_STATUS e) 1 0 = 2)) ∧
  ((s.eng e).emu = none → Completes (.emuWebHalt e) s (fun t => t = s) ∧ ∀ b, Completes (.emuFire e b) s (fun t => t = s)) ∧
  Completes (.emuCancel e) s (fun t => (t.eng e).emu = none ∧ t.queue e 4 = [] ∧ t.elineOf e = s.elineOf e ∧ t.mem = s.mem)

/-- The inspection unit's commands (R266 to R290). -/
def Obligations.InspectionCommandsActOnTheWorkInProgress : Prop :=
  ∀ (e : Nat) (s : State), e < 5 →
  (∀ (g : Nat) (d : GvspDatagram), s.ethMode g = true → s.islandUp (14 + ethLane g / 12) = true →
    ((∀ f, icuMatch s f g d = none) → Completes (.gvspPacket g d) s (fun t => t = s.count (Reg.ETHg_NOCLAIM g) 1)) ∧
    (∀ (w : Work) (i : Nat), e < s.variant.engines → icuMatch s e g d = some (w, i) → (∀ f, f ≠ e → icuMatch s f g d = none) → i < (s.eng e).icu.streams.length →
      (d.status ≠ 0 → Completes (.gvspPacket g d) s (fun t => t = s.count (Reg.SEn_ICU_PKTDROP e) 1)) ∧
      (∀ b : Int, d.sound = true → d.status = 0 → d.ext = (icuStream w.desc i).ext →
        d.body = .leader 1 (if icuRgb w.desc then 0x02180014 else 0x01080001) (icuStream w.desc i).npix (icuLpb w.desc) 0 →
        blockStep (icuStream w.desc i) (s.icuStr e i).last d.block = some b →
        Completes (.gvspPacket g d) s (fun t => t = { s with engines := t.engines } ∧ (t.icuStr e i).isOpen = true ∧ (t.icuStr e i).last = b ∧ (t.icuStr e i).row = 0)))) ∧
  (∀ w : Work, s.icuWork e = some w → let y := icuFirst w.desc + w.done
    (∀ u : State, w.done + 1 < w.count → compareLine s e w y = .ok u →
      ((∀ i, i < icuNstr w.desc → partDecided s e i w y = true) → Completes (.icuLineCompare e) s (fun t => t = modWork u e 5 (fun w => { w with done := w.done + 1 }))) ∧
      ((∃ r ∈ (s.eng e).icu.rows, r.2.1 = y) → Completes (.icuLineTimeout e) s (fun t => t = modWork u e 5 (fun w => { w with done := w.done + 1 })))) ∧
    (∀ i, i < icuNstr w.desc → partDecided s e i w y = false → Completes (.icuLineCompare e) s (fun t => t = s)) ∧
    ((∀ r ∈ (s.eng e).icu.rows, r.2.1 ≠ y) → Completes (.icuLineTimeout e) s (fun t => t = s)) ∧
    (∀ wn : Nat, (s.eng e).icu.due = some wn → evaluateBank s w (wn % 2) = .ok [] → Completes (.icuEvaluate e []) s (fun t => t = { s with engines := t.engines } ∧
      (t.eng e).icu = { (s.eng e).icu with due := none })) ∧
    ((s.eng e).icu.evaluating = true → (s.eng e).icu.due = none → (s.eng e).icu.cancel = false → w.done ≠ w.count → Completes (.icuEvaluationDone e) s (fun t =>
      Counted s t (Reg.SEn_ICU_EVAL e) ∧ (t.eng e).icu.evaluating = false ∧ t.bit (Reg.SEn_ICU_STATUS e) 1 = false ∧ t.works = s.works ∧ t.mem = s.mem)) ∧
    (∀ i, i < icuNstr w.desc → i < (s.eng e).icu.streams.length → quiet s e → e < s.variant.engines → Completes (.icuStreamStale e i) s (fun t =>
      (t.icuStr e i).stale = true ∧ t.bit (Reg.SEn_ICU_STATUS e) 4 = true ∧ t.live e = true ∧ t.mem = s.mem))) ∧
  ((s.eng e).icu.lock = none → Completes (.icuLock e) s (fun t => t = { s with engines := t.engines, regs := t.regs } ∧
    (t.eng e).icu.lock = some { left := 256, range := s.fld (Reg.SEn_ICU_LOCKCFG e) 6 0, scores := List.replicate (2 * s.fld (Reg.SEn_ICU_LOCKCFG e) 6 0 + 1) 0 } ∧
    t.bit (Reg.SEn_ICU_STATUS e) 2 = true ∧ t.bit (Reg.SEn_ICU_LOCKRES e) 8 = false)) ∧
  (∀ l : LockRun, (s.eng e).icu.lock = some l → Completes (.icuLock e) s (fun t => t = s) ∧
    (l.left ≠ 0 → Completes (.icuLockDone e) s (fun t => t = s)) ∧
    (l.left = 0 → Completes (.icuLockDone e) s (fun t => (t.eng e).icu.lock = none ∧ t.bit (Reg.SEn_ICU_STATUS e) 2 = false ∧ t.bit (Reg.SEn_ICU_LOCKRES e) 8 = true))) ∧
  (∀ v : W32, Completes (.icuAdjWrite e v) s (fun t => RegsOnly s t ∧ t.fld (Reg.SEn_ICU_ADJ e) 15 0 = fbits v 15 0 ∧ ∀ a, a ≠ Reg.SEn_ICU_ADJ e → t.reg a = s.reg a)) ∧
  ((s.eng e).icu.evaluating = true → Completes (.icuCancel e) s (fun t => t = { s with engines := t.engines } ∧ (t.eng e).icu = { (s.eng e).icu with cancel := true })) ∧
  ((s.eng e).icu.evaluating = false → Completes (.icuCancel e) s (fun t => t.queue e 5 = [] ∧ t.mem = s.mem))

/-- The spare controller and channel timeouts (R19, R305 to R320, R324). -/
def Obligations.SpareControllerFollowsItsCommands : Prop :=
  ∀ (e : Nat) (s : State), e < 5 → s.roleDomain 1 = none →
  (∀ who : Requester, s.sprAccess who = false → ∀ (w : Nat) (lo hi : W32), ∀ c ∈ [Instr.sprRotate who, .sprAbort who, .sprRetest who e, .sprFail who e, .sprRecWrite who w lo hi],
    Completes c s (fun t => t = { s with out := s.out ++ [Out.busError who] })) ∧
  (∀ who : Requester, s.sprAccess who = true →
    (s.spareEngine = none → Completes (.sprRotate who) s (fun t => t = { s with spare := { s.spare with want := true } })) ∧
    (∀ g web pos : Nat, s.spareEngine = some e → s.rotationTarget = some g → g < 5 → s.emuWebOf g = some web → s.webPos web = some pos → 16 ≤ s.fld Reg.TMP_BFACT 4 0 →
      Completes (.sprRotate who) s (fun t => t.role e = 2 ∧ t.fld Reg.SNP_SPR_STATUS 2 0 = 1 ∧ t.sprTarget = g ∧ t.reg Reg.SNP_SPR_COMPARED = 0 ∧ t.spare.shadow = e ∧ t.mem = s.mem)) ∧
    (s.shadowing = false → Completes (.sprAbort who) s (fun t => t = s)) ∧
    (s.shadowing = true → s.spare.shadow = e → Completes (.sprAbort who) s (fun t => t.role e = 1 ∧ t.fld Reg.SNP_SPR_STATUS 2 0 = 0 ∧ t.spare.handoff = none ∧ t.mem = s.mem)) ∧
    (s.role e = 5 → Completes (.sprRetest who e) s (fun t => RegsOnly s t ∧ t.role e = 3)) ∧
    (s.role e ≠ 5 → Completes (.sprRetest who e) s (fun t => t = s)) ∧
    (s.role e ≠ 0 → Completes (.sprFail who e) s (fun t => t = s)) ∧
    (s.role e = 0 → Completes (.sprFail who e) s (fun t => t = engineFailed s e)) ∧
    (∀ (w : Nat) (lo hi : W32), w < s.variant.swaths → Completes (.sprRecWrite who w lo hi) s (fun t => t = { s with regs := t.regs, spare := t.spare } ∧
      t.reg (Reg.SNP_SPR_RECs_LO w) = lo ∧ t.reg (Reg.SNP_SPR_RECs_HI w) = hi &&& 0x3FFFFFFF ∧ t.bit Reg.SNP_SPR_STATUS (9 + w) = (sget none t.spare.standby w).isNone))) ∧
  (s.fld Reg.SNP_SPR_CFG 7 0 = 0 → s.spare.retry = false → Completes .rotationDue s (fun t => t = s)) ∧
  (s.fld Reg.SNP_SPR_CFG 7 0 ≠ 0 ∨ s.spare.retry = true → s.spareEngine = none → Completes .rotationDue s (fun t => t = { s with spare := { s.spare with want := true } })) ∧
  (s.shadowing = true → s.spare.shadow = e → s.spare.handoff = none → Completes .shadowTimeout s (fun t => t.role e = 1 ∧ t.fld Reg.SNP_SPR_STATUS 2 0 = 0 ∧ t.bit Reg.SNP_SPR_STATUS 7 = true)) ∧
  (s.shadowing = false → Completes .shadowTimeout s (fun t => t = s) ∧ Completes .handoff s (fun t => t = s)) ∧
  (∀ h g w : Nat, s.spare.handoff = some h → s.shadowing = true → s.spare.shadow = e → s.sprTarget = g → g < 5 → s.role g = 0 → s.swathOf g = some w → handoffReady s h = true →
    Completes .handoff s (fun t => t.swathEngine w = e ∧ t.role e = 0 ∧ t.role g = 3 ∧ t.fenced g = true ∧ t.spare.handoff = none ∧ sget 0 t.spare.lastHand e = s.ringTime)) ∧
  (s.role e ≠ 3 → ∀ p, Completes (.selfTestEnd e p) s (fun t => t = s)) ∧
  (s.role e = 3 → s.spare.waiting = none → (quiet s e → Completes (.selfTestEnd e false) s (fun t => t.role e = 5 ∧ t.suspect e = s.suspect e)) ∧
    (s.spare.want = false → s.spare.retest ≠ some e → Completes (.selfTestEnd e true) s (fun t => t.role e = 1 ∧ t.fenced e = false ∧ t.mem = s.mem))) ∧
  (s.role e ≠ 0 → s.role e ≠ 4 → Completes (.engineFatalError e) s (fun t => t = s)) ∧
  (s.role e = 0 → noSpareRecords s e → quiet s e → (∀ f, f < 5 → s.role f = 0 ∨ 4 ≤ s.role f) →
    Completes (.engineFatalError e) s (fun t => t.role e = 5 ∧ t.fenced e = true ∧ ∀ w, s.swathOf e = some w → t.swathEngine w = 7)) ∧
  (∀ (r : EmuRun) (pos : Nat), (s.eng e).emu = some r → s.webPos (emuWeb r.desc) = some pos →
    ((∀ x ∈ (boardsOf r.desc).zip r.next, pos < x.2 * 2 ^ 16 + x.1.fphase) → Completes (.emissionWatchdog e) s (fun t => t = s)) ∧
    ((∃ x ∈ (boardsOf r.desc).zip r.next, x.2 * 2 ^ 16 + x.1.fphase ≤ pos) → s.role e = 0 → Completes (.emissionWatchdog e) s (fun t => t = engineFailed s e)) ∧
    (∀ rcb : List Byte, readRcb s r.seat (slotOf r.slots 1) (emuRcb r.desc) = .ok rcb →
      (s.role e = 4 → s.spare.w0 < leAt rcb 0 8 → (s.reg64 (Reg.POSn_POS_LO (emuWeb r.desc))).toNat / 2 ^ 16 + r.depth ≤ leAt rcb 0 8 →
        Completes (.recoverComplete e) s (fun t => RegsOnly s t ∧ t.role e = 0 ∧ t.fld Reg.SNP_SPR_STATUS 2 0 = 0)) ∧
      (s.role e ≠ 4 ∨ leAt rcb 0 8 ≤ s.spare.w0 → Completes (.recoverComplete e) s (fun t => t = s)))) ∧
  (∀ near far n k : Nat, Completes (.channelTimeout near far n k false) s (fun t => t = (s.count Reg.FAB_ERRCOMP_CNT n).discardPosted near k) ∧
    (far < 24 → s.variant.island far = true → 13 < far → Completes (.channelTimeout near far n k true) s (fun t => t.fenced far = true)))

/-- Lanes, bundles and training (R325 to R341). -/
def Obligations.LanesAndBundlesFollowTheirSignals : Prop :=
  (∀ (lane k : Nat) (s : State), lane < 96 → s.laneLink lane = some k →
     (s.islandOn (14 + lane / 12) = true → Completes (.laneSignalDetect lane) s (fun t => RegsOnly s t ∧ t.bit (Reg.UMK_LANEl_STAT lane) 0 = true ∧
       t.linkState k = if s.linkState k = 1 then 2 else s.linkState k)) ∧
     (∀ b : Nat, b < 8 → s.bit (Reg.UMK_LANEl_STAT lane) 0 = true → Completes (.laneLock lane b) s (fun t => RegsOnly s t ∧ t.bit (Reg.UMK_LANEl_STAT lane) 1 = true ∧
       t.fld (Reg.UMK_LANEl_STAT lane) 6 4 = b ∧ t.linkState k = if s.linkState k = 2 then 3 else s.linkState k)) ∧
     (s.bit (Reg.UMK_LANEl_STAT lane) 1 = true → s.linkState k ≠ 5 → Completes (.laneAdaptDone lane) s (fun t => t = { s with regs := t.regs, links := t.links } ∧
       t.bit (Reg.UMK_LANEl_STAT lane) 7 = true ∧ (t.link k).want = fsetb (s.link k).want (s.blane lane) true ∧ t.linkState k = if s.linkState k = 3 then 4 else s.linkState k)) ∧
     (24 ≤ k → Completes (.markerSend lane) s (fun t => t = { s with out := s.out ++ [Out.marker lane { blane := 0, width := 1, want := (s.link k).want.toNat, txmask := ((s.link k).want &&& (s.link k).peerWant).toNat, uidlo := BitVec.ofNat 32 s.uid.toNat }] })) ∧
     (∀ (m : Marker) (inv : Bool), s.bit (Reg.UMK_LANEl_STAT lane) 1 = true →
       (sget 0 s.mcrcBad lane = 0 → Completes (.rxMarker lane m inv false) s (fun t => t = { s with mcrcBad := sset 0 s.mcrcBad lane 1 })) ∧
       (s.linkState k ≠ 5 → m.blane < 8 → Completes (.rxMarker lane m inv true) s (fun t => t.bit (Reg.UMK_LANEl_STAT lane) 2 = inv ∧ t.fld (Reg.UMK_LANEl_STAT lane) 6 4 = m.blane ∧
         (t.link k).peerWant = BitVec.ofNat 8 m.want ∧ (t.link k).mask = (s.link k).want &&& BitVec.ofNat 8 m.want ∧ t.linkState k = s.linkState k))) ∧
     (∀ why : LaneFailure, s.linkState k = 5 → (s.link k).want.getLsbD (s.blane lane) = true → fsetb (s.link k).want (s.blane lane) false &&& (s.link k).peerWant ≠ 0 → quiet s 14 →
       Completes (.laneFail lane why) s (fun t => t.linkState k = 5 ∧ (t.link k).want = fsetb (s.link k).want (s.blane lane) false ∧
         (t.link k).mask = fsetb (s.link k).want (s.blane lane) false &&& (s.link k).peerWant ∧ (k < 24 → Counted s t (Reg.UMK_PORTp_LANEDROP k)) ∧ t.mem = s.mem)) ∧
     (k < 24 → s.fld (Reg.UMK_PORTp_CFG k) 23 16 = 0 → Completes (.laneRejoin lane) s (fun t => t = s)) ∧
     (k < 24 → s.fld (Reg.UMK_PORTp_CFG k) 23 16 ≠ 0 → s.bit (Reg.UMK_LANEl_STAT lane) 1 = true → s.bit (Reg.UMK_LANEl_STAT lane) 7 = true →
       Completes (.laneRejoin lane) s (fun t => t = { s with regs := t.regs, links := t.links } ∧ (t.link k).want = fsetb (s.link k).want (s.blane lane) true))) ∧
  (∀ (k : Nat) (s : State), s.linkState k ≠ 5 → s.linkState k ≠ 0 → (24 ≤ k ∨ s.portProf k = 1) → Completes (.portHoldExpiry k) s (fun t =>
     t = raise (s.setLink k { s.link k with resumable := none }) 14 0 false)) ∧
  (∀ (k : Nat) (s : State), (s.linkState k = 5 ∨ s.linkState k = 0) → Completes (.portHoldExpiry k) s (fun t => t = s)) ∧
  (∀ (c : Nat) (s : State), (c < 8 → s.bit Reg.UMK_REFCFG (8 + c) = true → Completes (.laneRefclkLoss c) s (fun t => t = { s with refMoved := t.refMoved } ∧
       sget false t.refMoved c = !sget false s.refMoved c)) ∧
     (8 ≤ c ∨ s.bit Reg.UMK_REFCFG (8 + c) = false → Completes (.laneRefclkLoss c) s (fun t => t = s))) ∧
  (∀ (k : Nat) (s : State), k < 120 → s.linkState k = 4 → (24 ≤ k ∨ s.portEth k = false) →
     let msg (sub : Nat) : Out := .train k { sub := sub, prof := s.trainProf k, ver := 1, uid := s.uid, node := s.fld Reg.RNG_STATUS 19 8, credits := s.advertised k, expects := (List.range 6).map (fun c => ((s.link k).cls c).expect) }
     ((s.link k).helloRx = false → (s.link k).readyTx = false → Completes (.trainSendTick k) s (fun t => t.out = s.out ++ [msg 1] ∧ t.linkState k = 4 ∧ (t.link k).readyTx = false)) ∧
     ((s.link k).helloRx = true → (s.link k).readyRx = false → Completes (.trainSendTick k) s (fun t => t.out = s.out ++ [msg 2] ∧ t.linkState k = 4 ∧ (t.link k).readyTx = true)) ∧
     ((s.link k).helloRx = true → (s.link k).readyRx = true → Completes (.trainSendTick k) s (fun t => t.out = s.out ++ [msg 2] ∧ t.linkState k = 5 ∧
       ∀ c, c < 6 → ((t.link k).cls c).credits = ((s.link k).peerCredits[c]?).getD 0)) ∧
     (∀ r : Train, r.ver = 1 → (r.sub = 1 ∨ r.sub = 2) → (∀ c ∈ r.credits, c = 0 ∨ 64 < c) →
       (profFits (s.trainProf k) r.prof = false → Completes (.rxTrain k r) s (fun t => t = setProferr s k true)) ∧
       (profFits (s.trainProf k) r.prof = true → (s.link k).readyTx = false → Completes (.rxTrain k r) s (fun t => t.linkState k = 4 ∧ (t.link k).peerUid = r.uid ∧
         (t.link k).peerCredits = r.credits ∧ (t.link k).peerExpects = r.expects ∧ (r.sub = 1 → (t.link k).helloRx = true) ∧ (r.sub = 2 → (t.link k).readyRx = true))))) ∧
  (∀ (k : Nat) (r : Train) (s : State), s.linkState k ≠ 4 → Completes (.rxTrain k r) s (fun t => t = s) ∧ Completes (.trainSendTick k) s (fun t => t = s))

/-- Sequencing, credit and retransmission of links, and the Ethernet groups (R337 to R350, R361 to R365). That frames are exchanged as fields and not as bits is the model's choice. -/
def Obligations.FramesAreNumberedCreditedAndResent : Prop :=
  (∀ (k c : Nat) (s : State), k < 120 → c < 6 → s.linkState k = 5 →
     (∀ (q : QFrame) (rest : List QFrame), nextClass (s.link k) = some c → ((s.link k).cls c).resend = [] → ((s.link k).cls c).queue = q :: rest → (24 ≤ k ∨ s.portEth k = false) →
       Completes (.frameSend k) s (fun t => t = { s with links := t.links, out := t.out } ∧
         (∃ cc cn, t.out = s.out ++ [Out.frame k ((s.link k).cls c).txSeq false cc cn (stamped s.ringTime q.f)]) ∧ ((t.link k).cls c).queue = rest ∧
         ((t.link k).cls c).txSeq = ((s.link k).cls c).txSeq + 1 ∧ ((t.link k).cls c).credits = ((s.link k).cls c).credits - cells (stamped s.ringTime q.f).payload.length ∧
         ((t.link k).cls c).replay = ((s.link k).cls c).replay ++ [(((s.link k).cls c).txSeq, stamped s.ringTime q.f)])) ∧
     (nextClass (s.link k) = none → Completes (.frameSend k) s (fun t => t = s)) ∧
     (∀ n : Nat, Completes (.rxCred k c n) s (fun t => t = { s with links := t.links } ∧ ((t.link k).cls c).lastReport = n ∧
       ((t.link k).cls c).credits = ((s.link k).cls c).credits + (n + 8192 - ((s.link k).cls c).lastReport) % 8192)) ∧
     (∀ seq : W32, Completes (.rxAck k c seq 7 0) s (fun t => t = { s with links := t.links } ∧ ((t.link k).cls c).replay =
         ((s.link k).cls c).replay.filter (fun e => decide (0 < (e.1 - seq).toNat) && decide ((e.1 - seq).toNat < 2 ^ 31))) ∧
       (((s.link k).cls c).replay.any (fun e => e.1 == seq) = true → Completes (.rxNak k c seq 7 0) s (fun t => t = { s with links := t.links } ∧
         ((t.link k).cls c).resend = ((s.link k).cls c).replay.dropWhile (fun e => e.1 != seq) ∧ ((t.link k).cls c).replay = ((s.link k).cls c).replay))) ∧
     (0 < ((s.link k).cls c).unacked → (24 ≤ k ∨ s.portEth k = false) → Completes (.ackSend k c) s (fun t => ((t.link k).cls c).unacked = 0 ∧
       ∃ cc cn, t.out = s.out ++ [Out.control k 1 c (((s.link k).cls c).expect - 1) cc cn])) ∧
     (((s.link k).cls c).unacked = 0 → Completes (.ackSend k c) s (fun t => t = s)) ∧
     (((s.link k).cls c).freed ≠ ((s.link k).cls c).reported → (24 ≤ k ∨ s.portEth k = false) → Completes (.creditReport k c) s (fun t =>
       ((t.link k).cls c).reported = ((s.link k).cls c).freed ∧ t.out = s.out ++ [Out.control k 0 c 0 c ((s.link k).cls c).freed])) ∧
     (((s.link k).cls c).freed = ((s.link k).cls c).reported → Completes (.creditReport k c) s (fun t => t = s)) ∧
     (∀ (x : W32 × Frame) (rest : List (W32 × Frame)), ((s.link k).cls c).replay = x :: rest → s.linkRto k ≠ 0 → Completes (.rtoExpiry k c) s (fun t =>
       t = { s with links := t.links } ∧ ((t.link k).cls c).resend = x :: rest)) ∧
     (s.linkRto k = 0 → Completes (.rtoExpiry k c) s (fun t => t = s)) ∧
     (((s.link k).cls c).nakSent = false → 24 ≤ k → Completes (.rxCorruptFrame k (.trailer c ((s.link k).cls c).expect 7 0)) s (fun t => ((t.link k).cls c).nakSent = true ∧
       ((t.link k).cls c).expect = ((s.link k).cls c).expect ∧ ∃ cc cn, t.out = s.out ++ [Out.control k 2 c ((s.link k).cls c).expect cc cn]))) ∧
  (∀ (k : Nat) (s : State), k < 24 → Completes (.rxCorruptFrame k .header) s (fun t => t = s.count (Reg.UMK_PORTp_CRCERR k) 1) ∧
     Completes (.rxCorruptFrame k (.malformed 7 0)) s (fun t => t = s.count (Reg.UMK_PORTp_BADFRM k) 1)) ∧
  (∀ (k c : Nat) (seq : W32) (s : State), s.linkState k ≠ 5 → ∀ i ∈ [Instr.rxCred k c 0, .rxAck k c seq 7 0, .rxNak k c seq 7 0, .ackSend k c, .creditReport k c, .rtoExpiry k c, .frameSend k],
     Completes i s (fun t => t = s)) ∧
  (∀ (g : Nat) (f : EthFrame) (s : State), g < 16 → (s.ethOn g = false → Completes (.ethFrameRx g f) s (fun t => t = s)) ∧
     (s.ethOn g = true → Completes (.ethFrameRx g f) s (fun t => t = s.count
       (if f.fcsOk = false ∨ f.len < 64 then Reg.ETHg_RXERR g else if 9216 < f.len then Reg.ETHg_RXLONG g
         else if f.otherTag = true ∨ ethAddressed s g f = false ∨ ethTaken s g f = false then Reg.ETHg_RXOTHER g else Reg.ETHg_RXFRM g) 1) ∧
       ∀ (ip : W32) (mac : BitVec 48), (s.bit (Reg.ETHg_CFG g) 4 = true → Completes (.ethArpRequest g (s.reg (Reg.ETHg_IPV4 g)) ip mac) s (fun t => Counted s t (Reg.ETHg_TXFRM g) ∧
           t.out = s.out ++ [Out.arp g (s.reg (Reg.ETHg_IPV4 g)) (BitVec.ofNat 48 (s.mac (Reg.ETHg_MAC_LO g) (Reg.ETHg_MAC_HI g))) ip mac])) ∧
         (s.bit (Reg.ETHg_CFG g) 4 = false → Completes (.ethArpRequest g (s.reg (Reg.ETHg_IPV4 g)) ip mac) s (fun t => t = s))) ∧
     (s.ethOn g = true → Completes (.ethLinkUp g) s (fun t => RegsOnly s t ∧ t.bit (Reg.ETHg_STATUS g) 0 = true ∧
       ∀ p ∈ s.ethPorts g, t.linkState p = if s.linkState p = 1 then 4 else s.linkState p)) ∧
     (s.ethMode g = true → (∀ p ∈ s.ethPorts g, s.linkState p < 2) → quiet s 16 → Completes (.ethLinkDown g) s (fun t => t.bit (Reg.ETHg_STATUS g) 0 = false ∧
       t.bit (Reg.ETHg_STATUS g) 1 = false ∧ ((s.ethPorts g ≠ [] ∧ 0 < s.variant.eth) → Counted s t (Reg.FC_SRCn_CNT 16)))))

/-- The ring layer's enabling, election, links and time (R371 to R392). A received frame's state u is what the link layer leaves when it accepts the frame. -/
def Obligations.RingJoinsElectsAndKeepsTime : Prop :=
  (∀ s : State, (s.bit Reg.RNG_CTL 0 = true → Completes .rngEnable s (fun t => t = s)) ∧
     (s.bit Reg.RNG_CTL 0 = false → s.admitted = false → Completes .rngEnable s (fun t => t.ringSt = 1 ∧ t.bit Reg.RNG_CTL 0 = true ∧ t.bit Reg.RNG_STATUS 3 = true ∧ t.admitted = false)) ∧
     (s.bit Reg.RNG_CTL 0 = false → Completes .rngDisable s (fun t => t = s)) ∧
     (s.bit Reg.RNG_CTL 0 = true → s.admitted = false → Completes .rngDisable s (fun t => t = { s with regs := t.regs, ring := t.ring } ∧ t.ringSt = 0 ∧
       t.bit Reg.RNG_CTL 0 = false ∧ t.bit Reg.RNG_STATUS 3 = false ∧ t.reg Reg.RNG_EPOCH_PEND = 0 ∧ t.reg Reg.RNG_EPOCH = s.reg Reg.RNG_EPOCH)) ∧
     (portsTake s s.ringPorts 3 → Completes .linkSendTick s (fun t => t = { s with links := t.links } ∧ ∀ p ∈ s.ringPorts, Queued s t p 3 0x01)) ∧
     (portsTake s s.ringPorts 1 → Completes .dlyreqSendTick s (fun t => t = { s with links := t.links } ∧ ∀ p ∈ s.ringPorts, Queued s t p 1 0x11)) ∧
     (s.ringSt = 0 → Completes .announceSendTick s (fun t => t = s)) ∧
     (s.ringSt ≠ 0 → portsTake s s.ringPorts 3 → Completes .announceSendTick s (fun t => t = { s with links := t.links, ring := t.ring } ∧ ∀ p ∈ s.ringPorts, Queued s t p 3 0x02)) ∧
     (s.ringSt ≠ 3 → Completes .tsyncSendTick s (fun t => t = s)) ∧
     (s.ringSt = 3 → portsTake s s.ringPorts 1 → Completes .tsyncSendTick s (fun t => t = { s with links := t.links, ring := { s.ring with syncSeq := s.ring.syncSeq + 1 } } ∧
       ∀ p ∈ s.ringPorts, Queued s t p 1 0x10)) ∧
     (s.ringSt ≠ 2 ∨ s.node = 0 → Completes .heartbeatSendTick s (fun t => t = s)) ∧
     (∀ p : Nat, s.ringSt = 2 → s.node ≠ 0 → sget 0 s.ring.routes (s.fld Reg.RNG_KEEPER 11 0) = p + 1 → portsTake s [p] 3 →
       Completes .heartbeatSendTick s (fun t => t = { s with links := t.links } ∧ Queued s t p 3 0x03)) ∧
     (s.ringSt ≠ 2 → Completes .klossExpiry s (fun t => t = s)) ∧
     (s.ringSt = 2 → Completes .klossExpiry s (fun t => t.ringSt = 1 ∧ t.bit Reg.RNG_STATUS 3 = true)) ∧
     (s.ringSt ≠ 1 ∨ s.ownCand = none → Completes .electtExpiry s (fun t => t = s)) ∧
     (∀ c b : Candidate, s.ringSt = 1 → s.ownCand = some c → s.ring.best = some b → (b.better c = true → Completes .electtExpiry s (fun t => t = s)) ∧
       (b.better c = false → Completes .electtExpiry s (fun t => t.ringSt = 3 ∧ t.bit Reg.RNG_STATUS 3 = false))) ∧
     (s.bit Reg.RNG_STATUS 3 = false ∨ s.ringSt = 0 → Completes .holdoverExpiry s (fun t => t = s)) ∧
     (s.bit Reg.RNG_STATUS 3 = true → s.ringSt ≠ 0 → Completes .holdoverExpiry s (fun t => t.ring.holdover = true ∧ t.admitted = false)) ∧
     (∀ n : Nat, Completes (.routeExpiry n) s (fun t => t = { s with ring := t.ring } ∧ sget 0 t.ring.routes n = 0 ∧
       ∀ m, m ≠ n → sget 0 t.ring.routes m = sget 0 s.ring.routes m))) ∧
  (∀ (h : RxHdr) (bs : List Byte) (s u : State), h.link < 24 → u.roleDomain 1 = none → quiet u 15 →
     (ringRx s h bs 0x01 40 = (true, u) → Completes (.rxLink h bs) s (fun t => (t.rport h.link).peerUid = BitVec.ofNat 64 (leAt bs 16 8) ∧
       (t.rport h.link).peerRoot = (leAt bs 26 1 == 1) ∧ t.fld (Reg.RNG_PORTp_STAT h.link) 13 2 = leAt bs 24 2 % 4096)) ∧
     (∀ time : W64, ringRx s h bs 0x11 40 = (true, u) → (h.retx = true → Completes (.rxDlyreq h bs time) s (fun t => t = u)) ∧
       (h.retx = false → portsTake u [h.link] 1 → Completes (.rxDlyreq h bs time) s (fun t => t = { u with links := t.links } ∧ Queued u t h.link 1 0x12))) ∧
     (∀ time : W64, ringRx s h bs 0x12 40 = (true, u) → (h.retx = true → Completes (.rxDlyrsp h bs time) s (fun t => t = u)) ∧
       (h.retx = false → Completes (.rxDlyrsp h bs time) s (fun t => (t.rport h.link).delays =
         ((((time.toNat : Int) - leAt bs 16 8) - ((leAt bs 32 8 : Int) - leAt bs 24 8)) :: (u.rport h.link).delays).take 16))) ∧
     (ringRx s h bs 0x02 44 = (true, u) →
       (BitVec.ofNat 64 (leAt bs 16 8) = u.uid → Completes (.rxAnnounce h bs) s (fun t => t = u)) ∧
       (BitVec.ofNat 64 (leAt bs 16 8) ≠ u.uid → u.ringSt = 1 → h.snode ≠ u.node → bseqFresh u h.snode (bseqOf bs) = true →
         Completes (.rxAnnounce h bs) s (fun t => t.ring.best = (announced bs).foldl bestOf u.ring.best ∧ sget 0 t.ring.lastB h.snode = bseqOf bs))) ∧
     (∀ v : State, ringRx s h bs 0x04 26 = (true, u) → ringForward u h bs = (true, v) → v.ringSt ≠ 0 →
       (v.bit Reg.RNG_CTL 1 = false ∨ leAt bs 16 8 ≠ v.uid.toNat → Completes (.rxAssign h bs) s (fun t => t = v)) ∧
       (v.bit Reg.RNG_CTL 1 = true → leAt bs 16 8 = v.uid.toNat → Completes (.rxAssign h bs) s (fun t => t.node = leAt bs 24 2 % 4096))) ∧
     (∀ time : W64, ringRx s h bs 0x10 56 = (true, u) →
       let k : Candidate := { admitted := (leAt bs 1 1) % 2 == 0, kprio := leAt bs 42 1, uid := BitVec.ofNat 64 (leAt bs 32 8) }
       (acceptsKeeper u k (BitVec.ofNat 32 (leAt bs 8 4)) = false → Completes (.rxTsync h bs time) s (fun t => t = u)) ∧
       (acceptsKeeper u k (BitVec.ofNat 32 (leAt bs 8 4)) = true → u.ringSt ≠ 0 → Completes (.rxTsync h bs time) s (fun t => t.ring.keeper = some k ∧ t.ringSt = 2 ∧
         t.reg Reg.RNG_RINGID = BitVec.ofNat 32 (leAt bs 8 4) ∧ t.fld Reg.RNG_KEEPER 11 0 = leAt bs 40 2 % 4096))))

/-- Membership, epochs and the ring's services (R390 to R397, R399). v is the state in which the frame has been accepted and forwarded. -/
def Obligations.RingMembershipEpochsAndServicesFollowTheirRules : Prop :=
  (∀ (h : RxHdr) (bs : List Byte) (s v : State),
     (Taken s v h bs 0x03 48 → (v.ringSt ≠ 3 → Completes (.rxHeartbeat h bs) s (fun t => t = v)) ∧
       (v.ringSt = 3 → Completes (.rxHeartbeat h bs) s (fun t => sfind h.snode t.ring.members =
         some (BitVec.ofNat 32 (leAt bs 28 4), leAt bs 32 1 == 1, leAt bs 33 1 == 0)))) ∧
     (Taken s v h bs 0x05 33 → let e := BitVec.ofNat 32 (leAt bs 16 4)
       (v.ringSt = 3 ∨ e = v.reg Reg.RNG_EPOCH → Completes (.rxEpochData h bs) s (fun t => t = v)) ∧
       (∀ (d : Nat) (w : State), v.ringSt ≠ 3 → e ≠ v.reg Reg.RNG_EPOCH → v.roleDomain 1 = some d → leAt bs 24 4 ≤ 65536 → leAt bs 20 4 + (bs.drop 32).length ≤ leAt bs 24 4 →
         (startPending v e (leAt bs 24 4)).domWrite d ((epochBank v (!v.actBank)).1 + leAt bs 20 4) (epochBank v (!v.actBank)).2 (bs.drop 32) = some w →
         Completes (.rxEpochData h bs) s (fun t => t.mem = w.mem ∧ t.reg Reg.RNG_EPOCH_PEND = e ∧
           t.ring.pendRanges = addRange (leAt bs 20 4) (leAt bs 20 4 + (bs.drop 32).length) w.ring.pendRanges))) ∧
     (Taken s v h bs 0x06 32 → let e := BitVec.ofNat 32 (leAt bs 16 4)
       (v.ringSt = 3 ∨ e = v.reg Reg.RNG_EPOCH → Completes (.rxEpochCommit h bs) s (fun t => t = v)) ∧
       (v.ringSt ≠ 3 → e ≠ v.reg Reg.RNG_EPOCH → h.dnode = 0 → Completes (.rxEpochCommit h bs) s (fun t => t.ring.apply = some (BitVec.ofNat 64 (leAt bs 24 8)) ∧
         t.ring.pendCrc = some (BitVec.ofNat 32 (leAt bs 20 4)) ∧ t.reg Reg.RNG_EPOCH_PEND = e ∧ t.reg Reg.RNG_EPOCH = v.reg Reg.RNG_EPOCH))) ∧
     (Taken s v h bs 0x07 28 → (v.ringSt ≠ 3 → Completes (.rxEpochReq h bs) s (fun t => t = v)) ∧
       (∀ data : List Byte, v.ringSt = 3 → v.reg Reg.RNG_EPOCH_PEND = 0 → BitVec.ofNat 32 (leAt bs 16 4) = v.reg Reg.RNG_EPOCH → v.reg Reg.RNG_EPOCH ≠ 0 →
         let n := min (leAt bs 24 4) (v.ring.total - leAt bs 20 4)
         0 < n → epochRead v v.actBank (leAt bs 20 4) n = some data → Completes (.rxEpochReq h bs) s (fun t =>
           t = sendEpoch v (v.reg Reg.RNG_EPOCH) v.ring.total (leAt bs 20 4) data (fun s b => (sendUnicast s h.snode 0x05 b).2)))) ∧
     (Taken s v h bs 0x13 28 → let x := BitVec.ofNat 64 (leAt bs 16 8)
       (v.admitted = false → Completes (.rxRingSnap h bs) s (fun t => t = v)) ∧
       (v.admitted = true → x.toNat ≤ v.ringTime.toNat → Completes (.rxRingSnap h bs) s (fun t => t = v.count Reg.RNG_SNAPLATE 1)) ∧
       (v.admitted = true → v.ringTime.toNat < x.toNat → Completes (.rxRingSnap h bs) s (fun t => t = { v with ring := { v.ring with snaps := v.ring.snaps ++ [x] } }))) ∧
     (Taken s v h bs 0x14 35 → (v.admitted = false → Completes (.rxRmark h bs) s (fun t => t = v)) ∧
       (v.admitted = true → (∀ i, i < 16 → v.bit (Reg.RNG_RMKi i) 0 = false) → Completes (.rxRmark h bs) s (fun t => t = v)) ∧
       (v.admitted = true → v.bit (Reg.RNG_RMKi 0) 0 = true → v.fld (Reg.RNG_RMKi 0) 24 13 = 0 → v.fld (Reg.RNG_RMKi 0) 12 5 = leAt bs 33 1 →
         let due := leAt bs 24 8 + v.fld (Reg.RNG_RMKi 0) 31 25 * 10000
         v.ringTime.toNat < due → Completes (.rxRmark h bs) s (fun t => t = { v with ring := { v.ring with rmarks :=
           v.ring.rmarks ++ [(0, BitVec.ofNat 64 (leAt bs 16 8), h.snode, BitVec.ofNat 64 due)] } }))) ∧
     (Taken s v h bs 0x15 40 → (leAt bs 1 1 % 2 = 1 → Completes (.rxPsample h bs) s (fun t => t = v)) ∧
       (∀ n, leAt bs 28 1 = n → n < 4 → leAt bs 1 1 % 2 = 0 → v.webSrc n = 2 → fbits (v.act (Reg.POSn_CFG n)) 27 16 = h.snode → Completes (.rxPsample h bs) s (fun t =>
         t = { v with pos := t.pos } ∧ (t.web n).sample = some (BitVec.ofNat 64 (leAt bs 16 8), BitVec.ofNat 32 (leAt bs 24 4), leAt bs 29 1 % 4, BitVec.ofNat 64 (leAt bs 32 8))))) ∧
     (Taken s v h bs 0x20 33 → v.ring.mail = [] → leAt bs 17 1 < 8 → leAt bs 18 1 < leAt bs 19 1 → 1 < leAt bs 19 1 → leAt bs 19 1 ≤ 16 → leAt bs 24 2 ≤ 3584 →
       Completes (.rxMbx h bs) s (fun t => t = { v with ring := { v.ring with mail := [{ snode := h.snode, sdom := leAt bs 16 1, ddom := leAt bs 17 1, msgid := BitVec.ofNat 32 (leAt bs 20 4), nseg := leAt bs 19 1, mlen := leAt bs 24 2, parts := [(leAt bs 18 1, bs.drop 32)] }] } }))) ∧
  (∀ s : State, (s.ringSt ≠ 3 → Completes .epochDistribute s (fun t => RegsOnly s t ∧ t.fld Reg.RNG_EPOCH_STATUS 4 2 = 5) ∧ Completes .epochAbort s (fun t => t = s) ∧
       Completes .epochCommitTimeout s (fun t => t = s)) ∧
     (s.ringSt = 3 → s.ring.distributing = true → Completes .epochDistribute s (fun t => RegsOnly s t ∧ t.fld Reg.RNG_EPOCH_STATUS 4 2 = 6) ∧
       (quiet s 15 → Completes .epochAbort s (fun t => t.reg Reg.RNG_EPOCH_PEND = 0 ∧ t.ring.distributing = false ∧ t.fld Reg.RNG_EPOCH_STATUS 4 2 = 4 ∧ t.reg Reg.RNG_EPOCH = s.reg Reg.RNG_EPOCH)) ∧
       (∀ crc, epochCrc s (!s.actBank) s.ring.pendTotal = some crc → Completes .epochCommitTimeout s (fun t =>
         t.ring.apply = some (BitVec.ofNat 64 (s.ringTime.toNat + s.fld Reg.RNG_LOSS 31 24 * 100000)) ∧ t.ring.pendCrc = some crc ∧ t.fld Reg.RNG_EPOCH_STATUS 4 2 = 2))) ∧
     (s.ringSt = 3 → s.ring.distributing = false → s.ring.apply = none → s.fld Reg.RNG_EPOCH_LEN 16 0 = 0 → Completes .epochDistribute s (fun t =>
       t.reg Reg.RNG_EPOCH_PEND = s.reg Reg.RNG_EPOCH + 1 ∧ t.reg Reg.RNG_EPOCH = s.reg Reg.RNG_EPOCH ∧ t.mem = s.mem)) ∧
     (s.ring.apply = none → Completes .epochApply s (fun t => t = s)) ∧
     (∀ x : W64, s.ring.apply = some x → (s.bit Reg.RNG_EPOCH_STATUS 1 = true → Completes .epochApply s (fun t => t.reg Reg.RNG_EPOCH = s.reg Reg.RNG_EPOCH_PEND ∧
         t.reg Reg.RNG_EPOCH_PEND = 0 ∧ t.actBank = !s.actBank ∧ t.fld Reg.RNG_EPOCH_STATUS 4 2 = 3 ∧ t.ring.apply = none)) ∧
       (s.bit Reg.RNG_EPOCH_STATUS 1 = false → Completes .epochApply s (fun t => t.reg Reg.RNG_EPOCH = s.reg Reg.RNG_EPOCH ∧ t.reg Reg.RNG_EPOCH_PEND = 0 ∧
         t.actBank = s.actBank ∧ t.ring.apply = none ∧ t.ringTime = BitVec.ofNat 64 (max s.ringTime.toNat x.toNat)))) ∧
     (s.ringSt = 0 → Completes .ringSnapSend s (fun t => t = s)) ∧
     (s.ringSt ≠ 0 → Completes .ringSnapSend s (fun t => t.ring.snapId = s.ring.snapId + 1 ∧ t.mem = s.mem ∧ (s.admitted = true → s.ringTime.toNat < (s.reg64 Reg.RNG_SNAP_TIME_LO).toNat →
       t.ring.snaps = s.ring.snaps ++ [s.reg64 Reg.RNG_SNAP_TIME_LO]))) ∧
     (s.ring.snaps = [] → Completes .ringSnapTime s (fun t => t = s)) ∧
     (∀ x : W64, s.ring.snaps = [x] → Completes .ringSnapTime s (fun t => ∃ u : State, u = { s with ringTime := BitVec.ofNat 64 (max s.ringTime.toNat x.toNat), ring := { s.ring with snaps := [] } } ∧
       t = if s.admitted then snapTrigger u .ring x else u)) ∧
     (s.ring.rmarks = [] → Completes .rmarkAction s (fun t => t = s)) ∧
     (∀ (i n : Nat) (pos x : W64), i < 16 → s.ring.rmarks = [(i, pos, n, x)] → (s.admitted = false → Completes .rmarkAction s (fun t => t.ring.rmarks = [] ∧ t.pos = s.pos)) ∧
       (s.admitted = true → s.fld (Reg.RNG_RMKi i) 2 1 = 2 → Completes .rmarkAction s (fun t => t.ring.rmarks = [] ∧
         sget [] t.pos.nextTags (s.fld (Reg.RNG_RMKi i) 4 3) = sget [] s.pos.nextTags (s.fld (Reg.RNG_RMKi i) 4 3) ++ [BitVec.ofNat 8 (s.fld (Reg.RNG_RMKi i) 12 5)]))) ∧
     (∀ n : Nat, (sfind n s.ring.members = none ∨ s.ringSt ≠ 3 → Completes (.mtabEntryMissing n) s (fun t => t = s)) ∧
       (∀ (d : Nat) (m : W32 × Bool × Bool) (w : State), sfind n s.ring.members = some m → s.ringSt = 3 → s.roleDomain 1 = some d → (s.ptr Reg.RNG_MTAB_LO).1 ≠ 0 →
         s.domWrite d ((s.ptr Reg.RNG_MTAB_LO).1 + 32 * n + 21) (s.ptr Reg.RNG_MTAB_LO).2 (leBytes 1 (3 + 4 * b2n m.2.2)) = some w → Completes (.mtabEntryMissing n) s (fun t => t = w))) ∧
     (∀ (a b d : Nat) (id : W32), d < 8 → (s.ring.mail.any (fun m => m.of a b d id) = false → Completes (.mailboxTimeout a b d id) s (fun t => t = s)) ∧
       (s.ring.mail.any (fun m => m.of a b d id) = true → Completes (.mailboxTimeout a b d id) s (fun t => Counted s t (Reg.RNG_MBd_LOST d) ∧
         t.ring.mail = s.ring.mail.filter (fun m => !m.of a b d id)))) ∧
     (∀ (who : Requester) (d : Nat), d < 8 → (s.whoIs who d = false → Completes (.mailboxSend who d) s (fun t => t = { s with out := s.out ++ [Out.busError who] })) ∧
       (s.whoIs who d = true → s.controlAllowed who (Reg.RNG_MBd_TX_CMD d) true = true → let n := s.fld (Reg.RNG_MBd_TX_DEST d) 26 15
         let status (v : Nat) (t : State) : Prop := t.reg (Reg.RNG_MBd_TX_STATUS d) = BitVec.ofNat 32 (2 * v) ∧ t.mem = s.mem ∧ t.links = s.links
         (n = 0 ∨ 3584 < n → Completes (.mailboxSend who d) s (status 3)) ∧
         (0 < n → n ≤ 3584 → s.domRead d (s.ptr (Reg.RNG_MBd_TX_LO d)).1 n (s.ptr (Reg.RNG_MBd_TX_LO d)).2 = none → Completes (.mailboxSend who d) s (status 1)) ∧
         (∀ bs, 0 < n → n ≤ 3584 → s.domRead d (s.ptr (Reg.RNG_MBd_TX_LO d)).1 n (s.ptr (Reg.RNG_MBd_TX_LO d)).2 = some bs →
           s.fld (Reg.RNG_MBd_TX_DEST d) 11 0 ≠ 0 → sget 0 s.ring.routes (s.fld (Reg.RNG_MBd_TX_DEST d) 11 0) = 0 → Completes (.mailboxSend who d) s (fun t => status 2 t ∧ Counted s t Reg.RNG_NOROUTE)))))

/-- Sensor ports, thermal units and colour pipelines (R402 to R437). The events' page-error lists are empty and the loop engines off, so that nothing outside the sensing island moves. -/
def Obligations.SensingUnitsFollowTheirCommands : Prop :=
  (∀ (p : Nat) (s : State), p < s.variant.sps →
     (∀ v : W32, (s.bit (Reg.SPn_CFG p) 0 = true → Completes (.spEnable p v) s (fun t => t = s)) ∧
       (s.bit (Reg.SPn_CFG p) 0 = false → 8 ≤ fbits v 5 1 → fbits v 5 1 ≤ 16 → Completes (.spEnable p v) s (fun t => RegsOnly s t ∧
         t.reg (Reg.SPn_CFG p) = (v ||| 1) &&& 0xFFF ∧ t.fld (Reg.SPn_STATUS p) 1 0 = 1))) ∧
     (∀ x : W64, (s.bit (Reg.SPn_CFG p) 0 = false → Completes (.spVsyncStart p x) s (fun t => t = s)) ∧
       (s.bit (Reg.SPn_CFG p) 0 = true → sget none s.sens.opened p = none → Completes (.spVsyncStart p x) s (fun t => Opened s t p x)) ∧
       (∀ f, s.bit (Reg.SPn_CFG p) 0 = true → sget none s.sens.opened p = some f → s.bit (Reg.SPn_CFG p) 11 = true → f.rows.length < s.pulseRows p →
         Completes (.spVsyncStart p x) s (fun t => Opened s t p x ∧ Counted s t (Reg.SPn_BROKEN p)))) ∧
     (∀ ws : List (BitVec 16), (s.bit (Reg.SPn_CFG p) 0 = false → Completes (.spRow p ws) s (fun t => t = s)) ∧
       (s.bit (Reg.SPn_CFG p) 0 = true → ws ≠ [] →
         (sget none s.sens.opened p = none → Completes (.spRow p ws) s (fun t => Counted s t (Reg.SPn_ORPHAN p))) ∧
         (∀ f, sget none s.sens.opened p = some f → f.rows.length < 8192 → s.pulseRows p ≠ f.rows.length + 1 →
           let row := (ws.take 8192).map (fun w => w &&& BitVec.ofNat 16 (2 ^ s.fld (Reg.SPn_CFG p) 5 1 - 1))
           Completes (.spRow p ws) s (fun t => sget none t.sens.opened p = some { f with rows := f.rows ++ [row], broken := f.broken || decide (8192 < ws.length) } ∧
             (8192 < ws.length → Counted s t (Reg.SPn_LONGROW p)) ∧ (ws.length ≤ 8192 → t.reg (Reg.SPn_LONGROW p) = s.reg (Reg.SPn_LONGROW p)))) ∧
         (∀ f, sget none s.sens.opened p = some f → f.rows.length < 8192 → s.pulseRows p = f.rows.length + 1 → ws.length ≤ 8192 →
           let row := ws.map (fun w => w &&& BitVec.ofNat 16 (2 ^ s.fld (Reg.SPn_CFG p) 5 1 - 1))
           Completes (.spRow p ws) s (fun t => ClosedFrame s t p { f with rows := f.rows ++ [row] })))) ∧
     (s.bit (Reg.SPn_CFG p) 11 = true ∨ sget none s.sens.opened p = none → Completes (.spFrameClose p) s (fun t => t = s)) ∧
     (sget none s.sens.opened p = none ∨ s.fld (Reg.SPn_FTMO p) 15 0 = 0 → Completes (.spFrameTimeout p) s (fun t => t = s)) ∧
     (s.bit (Reg.SPn_CFG p) 0 = false ∨ s.bit (Reg.SPn_STATUS p) 2 = true → Completes (.spPclkLoss p) s (fun t => t = s)) ∧
     (s.bit (Reg.SPn_CFG p) 0 = true → s.bit (Reg.SPn_STATUS p) 2 = false → Completes (.spPclkLoss p) s (fun t => t.bit (Reg.SPn_STATUS p) 2 = true ∧
       Counted s t (Reg.SPn_CLKLOSS p) ∧ t.live 18 = true ∧ ∀ f, sget none s.sens.opened p = some f → ClosedFrame s t p { f with broken := true })) ∧
     (∀ f, sget none s.sens.opened p = some f →
       (s.bit (Reg.SPn_CFG p) 11 = false → Completes (.spFrameClose p) s (fun t => ClosedFrame s t p f ∧ t.mem = s.mem)) ∧
       (s.fld (Reg.SPn_FTMO p) 15 0 ≠ 0 → Completes (.spFrameTimeout p) s (fun t => Counted s t (Reg.SPn_TIMEOUT p) ∧ ClosedFrame s t p { f with broken := true })))) ∧
  (∀ (n : Nat) (s : State), n < s.variant.tus →
     (s.tuState n = 1 → Completes (.tuCal n) s (fun t => t = { s with sens := t.sens } ∧ (t.tu n).calReq = true)) ∧
     (s.tuState n ≠ 1 → Completes (.tuCal n) s (fun t => RegsOnly s t ∧ t.bit (Reg.TUn_STATUS n) 12 = true ∧ t.tuState n = s.tuState n)) ∧
     (s.tuState n = 2 ∨ s.tuState n = 3 ∨ s.tuState n = 4 → Completes (.tuAbort n) s (fun t => t = { s with regs := t.regs, sens := t.sens } ∧
       CalFailed s t n 5 3 ∧ (t.tu n).pending = none)) ∧
     (s.tuState n < 2 ∨ 4 < s.tuState n → Completes (.tuAbort n) s (fun t => t = s)) ∧
     (s.tuState n ≤ 1 → (s.tu n).loading = false → (s.tu n).saving = false →
       Completes (.tuLoad n) s (fun t => t.tuState n = 8 ∧ (t.tu n).loading = true ∧ sget [] t.sens.inbox n = [] ∧ (t.tu n).table = (s.tu n).table ∧ t.mem = s.mem) ∧
       Completes (.tuSave n) s (fun t => t = { s with sens := t.sens } ∧ (t.tu n).saving = true)) ∧
     (1 < s.tuState n ∨ (s.tu n).loading = true ∨ (s.tu n).saving = true → ∀ c ∈ [Instr.tuLoad n, .tuSave n],
       Completes c s (fun t => RegsOnly s t ∧ t.bit (Reg.TUn_STATUS n) 12 = true ∧ t.tuState n = s.tuState n)) ∧
     ((s.tu n).loading = false → Completes (.tuLoadDone n []) s (fun t => t = s)) ∧
     ((s.tu n).loading = true → let w := s.fld (Reg.TUn_GEOM n) 11 0
       let h := s.fld (Reg.TUn_GEOM n) 22 12
       let img := (s.domRead (s.tuDom n) (s.ptr (Reg.TUn_TBL_LO n)).1 (tuImageLen w h) (s.ptr (Reg.TUn_TBL_LO n)).2).bind (tuTableOf w h)
       (img = none → Completes (.tuLoadDone n []) s (fun t => (t.tu n).table = none ∧ (t.tu n).loading = false ∧ t.tuState n = 0 ∧ t.bit (Reg.TUn_STATUS n) 8 = true ∧ t.live 20 = true)) ∧
       (∀ tb, img = some tb → Completes (.tuLoadDone n []) s (fun t => (t.tu n).table = some tb ∧ (t.tu n).loading = false ∧ t.bit (Reg.TUn_STATUS n) 8 = false ∧
         t.bit (Reg.TUn_STATUS n) 5 = !tb.calib ∧ t.reg (Reg.TUn_TREF n) = BitVec.ofNat 32 (uint 32 tb.tref) ∧ t.reg (Reg.TUn_TC n) = BitVec.ofNat 32 (uint 32 tb.tc) ∧
         (s.portOf n = none → t.tuState n = 0)))) ∧
     ((s.tu n).saving = false → Completes (.tuSaveDone n) s (fun t => t = s)) ∧
     (∀ (tb : TuTable) (w : State), (s.tu n).saving = true → (s.tu n).table = some tb → let bs := tuImageOf tb (tb.calib || (s.tu n).done)
       (s.domain (s.tuDom n)).holdsRange (s.ptr (Reg.TUn_TBL_LO n)).1 bs.length = true → s.tagsMatch (s.ptr (Reg.TUn_TBL_LO n)).1 bs.length (s.ptr (Reg.TUn_TBL_LO n)).2 = true →
       s.memWrite (s.ptr (Reg.TUn_TBL_LO n)).1 bs = some w → Completes (.tuSaveDone n) s (fun t => t.mem = w.mem ∧ (t.tu n).saving = false)) ∧
     (s.tuState n ≠ 2 → Completes (.tuMoveResult n) s (fun t => t = s) ∧ Completes (.tuMoveTimeout n) s (fun t => t = s)) ∧
     (s.tuState n = 2 → (s.tu n).result = none → Completes (.tuMoveResult n) s (fun t => t = s)) ∧
     (s.tuState n = 2 → Completes (.tuMoveTimeout n) s (fun t => CalFailed s t n 1 1)) ∧
     (s.tuState n = 2 → (s.tu n).result = some none → Completes (.tuMoveResult n) s (fun t => CalFailed s t n 1 1)) ∧
     (∀ x, s.tuState n = 2 → (s.tu n).result = some (some x) → Completes (.tuMoveResult n) s (fun t => t = { s with regs := t.regs, sens := t.sens } ∧
       t.reg (Reg.TUn_TMOVE n) = BitVec.ofNat 32 x ∧ (t.tu n).result = none ∧ t.tuState n = (if s.tuSettle n = 0 then 4 else 3) ∧
       (s.tuSettle n = 0 → ∃ u, (t.tu n).sums = some u ∧ u.frames = 0 ∧ u.tsh = s.fld (Reg.TUn_TSH n) 15 0))) ∧
     Completes (.tuHoldoffExpiry n) s (fun t => RegsOnly s t ∧ t.bit (Reg.TUn_STATUS n) 4 = false ∧ t.tuState n = s.tuState n) ∧
     (∀ (who : Requester) (v : W32), DomWrite s (.tuDomWrite who n v) who (Reg.TUn_DOM n) v) ∧
     (∀ (pages : List Nat) (late : Bool), sget [] s.sens.inbox n = [] → Completes (.tuFrame n pages late) s (fun t => t = s)) ∧
     (∀ (f : SensorFrame) (rest : List SensorFrame) (pages : List Nat) (late : Bool), sget [] s.sens.inbox n = f :: rest →
       let w := fbits (f.par (Reg.TUn_GEOM n)) 11 0
       let h := fbits (f.par (Reg.TUn_GEOM n)) 22 12
       let fits := f.broken = false ∧ f.rows.length = fbits (f.par (Reg.TUn_GEOM n)) 25 23 + h ∧ ∀ r ∈ f.rows, r.length = w
       (s.tuState n = 0 ∨ s.tuState n = 8 → Completes (.tuFrame n pages late) s (fun t => t = { s with sens := t.sens } ∧ sget [] t.sens.inbox n = rest)) ∧
       (s.tuState n = 1 → f.st = 1 → w ≠ 0 → h ≠ 0 → ¬ fits → Completes (.tuFrame n pages late) s (fun t => t = { s with regs := t.regs, sens := t.sens } ∧
         Counted s t (Reg.TUn_FRMERR n) ∧ sget [] t.sens.inbox n = rest)) ∧
       (∀ tb : TuTable, s.tuState n = 1 → f.st = 1 → w ≠ 0 → h ≠ 0 → fits → (s.tu n).table = some tb →
         ((s.tu n).calReq = true → Completes (.tuFrame n pages late) s (fun t => t.tuState n = 2 ∧ (t.tu n).closing = some (s.fld (Reg.TUn_SHUT n) 3 0) ∧
           (t.tu n).calReq = false ∧ t.reg (Reg.TUn_FRAME n) = f.number)) ∧
         ((s.tu n).calReq = false → (s.tu n).storeBad = [] → tb.px.length = w * h → s.bit (Reg.TUn_STATUS n) 5 = false → s.fld (Reg.CAL_TUn_DELTA n) 15 0 = 0 →
           (∀ k, s.leOn k = false) → (∀ m, m < 4 → fbit (f.par (Reg.TUn_PZm_CFG n m)) 28 = false) →
           let img := tuImage s n w h f tb
           let tfpa := tuTfpa n f tb.tref
           let unrep := ((img.flatMap id).filter Option.isNone).length
           let N := s.fld (Reg.TUn_FRING_N n) 7 0
           Completes (.tuFrame n [] false) s (fun t => t.tuState n = 1 ∧ t.reg (Reg.TUn_FRAME n) = f.number ∧ t.reg (Reg.TUn_TFPA n) = BitVec.ofNat 32 (uint 32 tfpa) ∧
             t.reg (Reg.TUn_TREF n) = BitVec.ofNat 32 (uint 32 tb.tref) ∧ t.bit (Reg.TUn_STATUS n) 6 = tuNoTemp n f ∧
             (N = 0 → t.mem = s.mem) ∧
             (∀ v : State, N ≠ 0 → frameBuffer s (s.tuDom n) ((s.ptr (Reg.TUn_FRING_LO n)).1 + (f.number.toNat % N) * up4096 (64 + 2 * w * h)) (s.ptr (Reg.TUn_FRING_LO n)).2 f.number
               (tuBuffer s n w h f (4 * b2n (tuNoTemp n f)) tfpa tb.tref unrep ((img.flatMap id).map (fun o => o.getD 0))) false = (v, true) → t.mem = v.mem) ∧
             ∀ z, z < 16 → let rect := f.par (Reg.TUn_ZONEz_RECT n z)
               if fbits rect 15 8 = 0 ∨ fbits rect 31 24 = 0 then t.reg (Reg.TUn_ZONEz_MEAN n z) = s.reg (Reg.TUn_ZONEz_MEAN n z)
               else let st := zoneStats (tuPixelsIn img rect)
                 t.reg (Reg.TUn_ZONEz_MINMAX n z) = BitVec.ofNat 32 (st.1 + 65536 * st.2.2.1) ∧ t.reg (Reg.TUn_ZONEz_MEAN n z) = BitVec.ofNat 32 st.2.1 ∧
                 t.reg (Reg.TUn_ZONEz_COUNT n z) = BitVec.ofNat 32 st.2.2.2.2.2 ∧ t.reg (Reg.TUn_ZONEz_FRAME n z) = f.number))))) ∧
  (∀ (n : Nat) (s : State), n < s.variant.cps →
     ((s.cp n).loading = true → Completes (.cpLoad n) s (fun t => RegsOnly s t ∧ t.bit (Reg.CPn_STATUS n) 6 = true)) ∧
     ((s.cp n).loading = false → Completes (.cpLoad n) s (fun t => t = { s with regs := t.regs, sens := t.sens } ∧ (t.cp n).loading = true ∧ t.bit (Reg.CPn_STATUS n) 1 = true ∧
       (t.cp n).bank = (s.cp n).bank)) ∧
     ((s.cp n).loading = false → Completes (.cpLoadDone n []) s (fun t => t = s)) ∧
     ((s.cp n).loading = true → let img := (s.domRead (s.fld (Reg.CPn_DOM n) 2 0) (s.ptr (Reg.CPn_TBL_LO n)).1 3992 (s.ptr (Reg.CPn_TBL_LO n)).2).bind cpTableOf
       (img = none → Completes (.cpLoadDone n []) s (fun t => (t.cp n).bank = (s.cp n).bank ∧ (t.cp n).next = (s.cp n).next ∧ (t.cp n).loading = false ∧
         t.bit (Reg.CPn_STATUS n) 1 = false ∧ t.bit (Reg.CPn_STATUS n) 3 = true ∧ t.live 19 = true)) ∧
       (∀ tb, img = some tb → Completes (.cpLoadDone n []) s (fun t => (t.cp n).bank = (s.cp n).bank ∧ (t.cp n).next = some tb ∧ (t.cp n).loading = false ∧
         t.bit (Reg.CPn_STATUS n) 1 = false ∧ t.bit (Reg.CPn_STATUS n) 2 = false ∧ t.bit (Reg.CPn_STATUS n) 3 = false))) ∧
     (∀ (who : Requester) (v : W32), DomWrite s (.cpDomWrite who n v) who (Reg.CPn_DOM n) v) ∧
     (∀ lf ls : Bool, sget [] s.sens.inbox (cpUnit n) = [] → Completes (.cpFrame n lf ls) s (fun t => t = s)) ∧
     (∀ (f : SensorFrame) (rest : List SensorFrame) (lf ls : Bool), sget [] s.sens.inbox (cpUnit n) = f :: rest →
       let cfg := f.par (Reg.CPn_CFG n)
       let g := f.par (Reg.CPn_GEOM n)
       let fits := f.broken = false ∧ f.rows.length = fbits g 31 28 + fbits g 27 14 ∧ ∀ r ∈ f.rows, r.length = fbits g 13 0
       fbits cfg 6 4 < 5 → fbits cfg 13 12 ≠ 3 →
       (¬ fits → Completes (.cpFrame n lf ls) s (fun t => t = { s with regs := t.regs, sens := t.sens } ∧ Counted s t (Reg.CPn_FRMERR n) ∧ sget [] t.sens.inbox (cpUnit n) = rest)) ∧
       (fits → s.fld (Reg.CPn_SRING_N n) 7 0 = 0 → let c := cpSetup s n f (fbits cfg 3 1) (s.draw.1.toNat % 65536)
         let r := cpProcess c ((f.rows.drop (fbits g 31 28)).map (fun r => r.map BitVec.toNat))
         let N := s.fld (Reg.CPn_FRING_N n) 7 0
         let fmt := fbits cfg 13 12
         Completes (.cpFrame n false ls) s (fun t => t.reg (Reg.CPn_FRAME n) = f.number ∧
           t.reg (Reg.CPn_DPCNT n) = BitVec.ofNat 32 (min (2 ^ 32 - 1) ((s.reg (Reg.CPn_DPCNT n)).toNat + r.2)) ∧ sget [] t.sens.inbox (cpUnit n) = rest ∧
           (fmt = 0 ∨ N = 0 → t.mem = s.mem) ∧
           (∀ v : State, fmt ≠ 0 → N ≠ 0 → frameBuffer s (s.fld (Reg.CPn_DOM n) 2 0) ((s.ptr (Reg.CPn_FRING_LO n)).1 + (f.number.toNat % N) * up4096 (64 + c.w * c.h * cpChannels c.pat * fmt))
             (s.ptr (Reg.CPn_FRING_LO n)).2 f.number (cpFrameBody c.w c.h c.pat fmt f.time r.1) false = (v, true) → t.mem = v.mem)))))

/-- Plant control, sampled and commanded (R472 to R518). -/
def Obligations.LoopsCoilsAdcAndFansFollowTheirLaws : Prop :=
  (∀ (n : Nat) (x : W32) (s : State), n < s.variant.les →
     (s.leOn n = false → ∀ c ∈ [Instr.leTimedEvaluate n, .leFeedbackArrival n x, .leMissedEvaluation n, .lePublish n, .leTstart n], Completes c s (fun t => t = s)) ∧
     (plainLoop s n →
       (fbit (s.leCfg n) 5 = true → Completes (.leFeedbackArrival n x) s (fun t => LawApplied s t n (sint 32 x.toNat)) ∧
         (fbits (s.leCfg n) 7 6 = 0 → Completes (.leFbinWrite n x) s (fun t => LawApplied s t n (sint 32 x.toNat) ∧ t.reg (Reg.LEn_FBIN n) = x))) ∧
       (fbit (s.leCfg n) 5 = false → Completes (.leFeedbackArrival n x) s (fun t => t = { s with plant := t.plant } ∧ (t.le n).arrived = true ∧ (t.le n).latest = sint 32 x.toNat) ∧
         (0 < s.fld (Reg.LEn_PER n) 23 0 → (s.le n).arrived = true → Completes (.leTimedEvaluate n) s (fun t => LawApplied s t n (s.le n).latest)) ∧
         ((s.le n).due = true → Completes (.lePublish n) s (fun t => t = { s with regs := t.regs, plant := t.plant } ∧ t.fld (Reg.LEn_STATUS n) 1 0 = (s.le n).q ∧ (t.le n).due = false))) ∧
       (0 < s.fld (Reg.LEn_PER n) 23 0 → (s.le n).arrived = false → Completes (.leMissedEvaluation n) s (fun t => Missed s t n) ∧
         (fbit (s.leCfg n) 5 = false → Completes (.leTimedEvaluate n) s (fun t => Missed s t n)))) ∧
     ((s.le n).due = false → Completes (.lePublish n) s (fun t => t = s)) ∧
     (fbits (s.leCfg n) 7 6 ≠ 0 → Completes (.leFbinWrite n x) s (fun t => RegBecomes s t (Reg.LEn_FBIN n) x)) ∧
     Completes (.leCmdReset n) s (fun t => t = { s with regs := t.regs, plant := t.plant } ∧ (t.le n).iacc = 0 ∧ (t.le n).initDue = true ∧ (t.le n).q = (s.le n).q ∧ t.reg (Reg.LEn_ISH n) = 0) ∧
     (s.bit (Reg.LEn_STATUS n) 4 = true → Completes (.leClrpl n) s (fun t => t = s)) ∧
     (s.bit (Reg.LEn_STATUS n) 4 = false → Completes (.leClrpl n) s (fun t => t.bit (Reg.LEn_STATUS n) 3 = false ∧ (t.le n).forced = true ∧ (t.le n).q = (s.le n).q)) ∧
     (s.leOn n = true → s.fld (Reg.LEn_TEST n) 1 0 ≠ 0 → s.fld (Reg.LEn_TEST n) 23 8 ≠ 0 → s.bit (Reg.LEn_STATUS n) 5 = false → Completes (.leTstart n) s (fun t =>
       t.bit (Reg.LEn_STATUS n) 5 = true ∧ (t.le n).tevals = 0 ∧ (t.le n).prbs = 0x7FF ∧ (t.le n).sig = 0 ∧ (t.le n).q = (s.le n).q ∧
       (s.bit Reg.LE_CAP_STATUS 15 = true → s.fld Reg.LE_CAP_CTL 4 0 = n → t.bit Reg.LE_CAP_STATUS 15 = false))) ∧
     (s.bit (Reg.LEn_STATUS n) 5 = false → Completes (.leTstop n) s (fun t => t = s)) ∧
     (s.bit (Reg.LEn_STATUS n) 5 = true → Completes (.leTstop n) s (fun t => t.bit (Reg.LEn_STATUS n) 5 = false ∧ (t.le n).sig = 0 ∧ (t.le n).q = (s.le n).q)) ∧
     Completes .leCapStart s (fun t => t = { s with regs := t.regs, plant := t.plant } ∧
       t.reg Reg.LE_CAP_STATUS = (if s.fld Reg.LE_CAP_CTL 14 7 = 0 then 2 else if s.bit Reg.LE_CAP_CTL 15 then 0x8001 else 1)) ∧
     Completes .leCapStop s (fun t => RegsOnly s t ∧ t.bit Reg.LE_CAP_STATUS 0 = false ∧ t.bit Reg.LE_CAP_STATUS 15 = false ∧ t.fld Reg.LE_CAP_STATUS 14 2 = s.fld Reg.LE_CAP_STATUS 14 2)) ∧
  (∀ (n : Nat) (raw : BitVec 14) (s : State), n < s.variant.vs → s.vRole n = 0 → let x := trimmed s n raw
     ((s.vch n).tripAt = none → (s.vch n).limAt = none → s.bit (Reg.Vn_STATUS n) 1 = false → s.fld (Reg.Vn_OC n) 12 0 ≤ x.natAbs → Completes (.vSenseSample n raw) s (fun t =>
       t.fld (Reg.Vn_SENSE n) 13 0 = uint 14 x ∧ t.bit (Reg.Vn_STATUS n) 1 = true ∧ t.bit (Reg.Vn_STATUS n) 0 = false ∧ (t.vch n).q = 0 ∧ Counted s t (Reg.Vn_TRIPCNT n) ∧ t.live 25 = true)) ∧
     ((s.vch n).tripAt = none → (s.vch n).limAt = none → (s.vch n).det = none → s.bit (Reg.Vn_STATUS n) 1 = false → s.bit (Reg.Vn_STATUS n) 2 = false →
       x.natAbs < s.fld (Reg.Vn_OC n) 12 0 → s.fld (Reg.Vn_DUTY n) 13 0 = 0 → s.fld (Reg.Vn_DITHER n) 12 0 = 0 → s.fld (Reg.Vn_MOVECFG n) 15 0 = 0 → s.safeState = 3 → s.fld (Reg.Vn_CFG n) 2 1 = 0 →
       let a := s.fld (Reg.Vn_SETPT n) 12 0
       let e := sat32 (sat32 ((a : Int) - x) + sar (s.vch n).iacc 16)
       let hyst : Int := (s.fld (Reg.Vn_REG n) 12 0 : Nat)
       let ready := s.fld (Reg.Vn_REG n) 20 13 ≤ (s.vch n).held
       Completes (.vSenseSample n raw) s (fun t => t.fld (Reg.Vn_SENSE n) 13 0 = uint 14 x ∧ t.mem = s.mem ∧ t.bit (Reg.Vn_STATUS n) 3 = false ∧
         (t.bit (Reg.Vn_STATUS n) 0 = true ↔ (t.vch n).q = 1) ∧
         (s.bit (Reg.Vn_CFG n) 0 = false ∨ a = 0 → (t.vch n).q = 0) ∧
         (s.bit (Reg.Vn_CFG n) 0 = true → a ≠ 0 → (e > hyst → (s.vch n).q = 0 → ready → (t.vch n).q = 1) ∧ (e < -hyst → (s.vch n).q = 1 → ready → (t.vch n).q = 0) ∧
           (¬ ready ∨ (-hyst ≤ e ∧ e ≤ hyst) → (t.vch n).q = (s.vch n).q)))) ∧
     ((s.vch n).det = none → Completes (.vMoveWindowEnd n) s (fun t => t = s)) ∧
     (∀ d, (s.vch n).det = some d → Completes (.vMoveWindowEnd n) s (fun t => t.reg (Reg.Vn_MOVE n) = 0x300000 ∧ Counted s t (Reg.Vn_NOMOVECNT n) ∧ t.bit (Reg.Vn_STATUS n) 6 = false ∧
       (t.vch n).det = none ∧ ∀ u, (s.vch n).request = some u → (t.tu u).result = some none)) ∧
     Completes (.vThermalTick n) s (fun t => t = { s with regs := t.regs, plant := t.plant } ∧ t.reg (Reg.Vn_IMEAN n) = (if (s.vch n).msN = 0 then s.reg (Reg.Vn_IMEAN n) else BitVec.ofInt 32 (Int.tdiv (s.vch n).msSum (s.vch n).msN)) ∧
       (t.vch n).msSum = 0 ∧ (t.vch n).msN = 0 ∧ ∀ b, b ≠ Reg.Vn_IMEAN n → t.reg b = s.reg b) ∧
     ((s.vch n).tripAt = none → Completes (.vClrtrip n) s (fun t => RegsOnly s t ∧ t.bit (Reg.Vn_STATUS n) 1 = false ∧ ∀ b, b ≠ Reg.Vn_STATUS n → t.reg b = s.reg b)) ∧
     ((s.vch n).tripAt ≠ none → Completes (.vClrtrip n) s (fun t => t = s)) ∧
     (∀ u : Nat, ((s.tu u).closing ≠ some n → Completes (.vShutterClose n u) s (fun t => t = s)) ∧
       ((s.tu u).closing = some n → s.bit (Reg.Vn_CFG n) 0 = true → s.fld (Reg.Vn_CFG n) 2 1 = 2 → s.bit (Reg.Vn_STATUS n) 1 = false → s.bit (Reg.Vn_STATUS n) 2 = false →
         s.fld (Reg.Vn_MOVECFG n) 15 0 ≠ 0 → (s.vch n).request = none → Completes (.vShutterClose n u) s (fun t => t = { s with plant := t.plant } ∧ (t.vch n).request = some u)) ∧
       ((s.tu u).closing = some n → s.bit (Reg.Vn_CFG n) 0 = false ∨ s.fld (Reg.Vn_CFG n) 2 1 ≠ 2 ∨ s.bit (Reg.Vn_STATUS n) 1 = true ∨ s.bit (Reg.Vn_STATUS n) 2 = true ∨
         s.fld (Reg.Vn_MOVECFG n) 15 0 = 0 → Completes (.vShutterClose n u) s (fun t => t = { s with sens := t.sens } ∧ (t.tu u).result = some none)) ∧
       ((s.vch n).request = some u → (s.tu u).closing ≠ some n → Completes (.vShutterOpen n u) s (fun t => (t.vch n).request = none ∧ (t.vch n).a = 0 ∧ (t.vch n).q = 0 ∧
         t.bit (Reg.Vn_STATUS n) 0 = false ∧ t.mem = s.mem)) ∧
       ((s.vch n).request ≠ some u ∨ (s.tu u).closing = some n → Completes (.vShutterOpen n u) s (fun t => t = s)))) ∧
  (∀ s : State, (∀ v : W32, (16 < fbits v 5 1 → Completes (.adcCtlWrite v) s (fun t => t = s)) ∧
       (fbits v 5 1 ≤ 16 → fbit v 0 = false → Completes (.adcCtlWrite v) s (fun t => t = { s with regs := t.regs, plant := t.plant } ∧ t.reg Reg.ADC_CTL = v &&& 0x7F ∧
         t.bit Reg.ADC_STATUS 0 = false ∧ t.plant.adc.cur = none)) ∧
       (fbits v 5 1 ≤ 16 → fbit v 0 = true → s.bit Reg.ADC_STATUS 0 = true → Completes (.adcCtlWrite v) s (fun t => RegBecomes s t Reg.ADC_CTL (v &&& 0x7F))) ∧
       (0 < fbits v 5 1 → fbits v 5 1 ≤ 16 → fbit v 0 = true → s.bit Reg.ADC_STATUS 0 = false → s.bit Reg.ADC_STATUS 1 = false → s.plant.adc.calWait = false →
         adcCfgBad (s.reg (Reg.ADC_SEQn_CFG 0)) = false → Completes (.adcCtlWrite v) s (fun t => t.bit Reg.ADC_STATUS 0 = true ∧ t.fld Reg.ADC_STATUS 8 5 = 0 ∧
           t.plant.adc.cur = some (s.reg (Reg.ADC_SEQn_CFG 0), s.reg (Reg.ADC_SEQn_TIM 0)) ∧ t.plant.adc.lapStart = s.ringTime))) ∧
     (∀ raw : List (BitVec 24), (s.plant.adc.cur = none → Completes (.adcEntryComplete raw) s (fun t => t = s)) ∧
       (∀ cfg tim, s.plant.adc.cur = some (cfg, tim) → raw.length ≠ 2 ^ fbits tim 19 16 → Completes (.adcEntryComplete raw) s (fun t => t = s)) ∧
       (∀ cfg tim, s.plant.adc.cur = some (cfg, tim) → raw.length = 2 ^ fbits tim 19 16 → (∀ k, s.leOn k = false) → let i := s.fld Reg.ADC_STATUS 8 5
         let r := adcResult s cfg tim (raw.map (fun r => sint 24 r.toNat))
         Completes (.adcEntryComplete raw) s (fun t => t.fld (Reg.ADC_SEQn_RESULT i) 23 0 = uint 24 r.1 ∧ t.bit (Reg.ADC_SEQn_RESULT i) 25 = r.2.1 ∧ t.bit (Reg.ADC_SEQn_RESULT i) 24 = r.2.2 ∧
           t.fld (Reg.ADC_SEQn_RESULT i) 31 27 = (s.fld (Reg.ADC_SEQn_RESULT i) 31 27 + 1) % 32 ∧ t.reg (Reg.ADC_SEQn_TIME i) = BitVec.ofNat 32 s.ringTime.toNat ∧
           sget none t.plant.adc.arrivals i = some s.ringTime))) ∧
     (s.bit Reg.ADC_STATUS 1 = true → Completes .adcCal s (fun t => RegsOnly s t ∧ t.bit Reg.ADC_STATUS 4 = true ∧ t.bit Reg.ADC_STATUS 1 = true)) ∧
     (s.bit Reg.ADC_STATUS 1 = false → s.plant.adc.cur ≠ none → Completes .adcCal s (fun t => t = { s with plant := t.plant } ∧ t.plant.adc.calWait = true ∧ t.plant.adc.cur = s.plant.adc.cur)) ∧
     (s.bit Reg.ADC_STATUS 1 = false → s.plant.adc.cur = none → s.importing = false → Completes .adcCal s (fun t => t.bit Reg.ADC_STATUS 1 = true ∧ t.plant.adc.calWait = false ∧ t.mem = s.mem)) ∧
     (∀ ofs gain : List (BitVec 24), (s.bit Reg.ADC_STATUS 1 = false → Completes (.adcCalDone ofs gain) s (fun t => t = s)) ∧
       (s.bit Reg.ADC_STATUS 1 = true → s.plant.adc.calWait = false →
         (∀ g, g < 8 → adcCalOk ofs gain = true → ofs.length = 8 → gain.length = 8 → Completes (.adcCalDone ofs gain) s (fun t => t.bit Reg.ADC_STATUS 1 = false ∧ t.bit Reg.ADC_STATUS 2 = true ∧
           some (t.reg (Reg.CAL_ADC_OFSg g)) = (ofs[g]?).map (fun v => v.setWidth 32) ∧ some (t.reg (Reg.CAL_ADC_GAINg g)) = (gain[g]?).map (fun v => v.setWidth 32))) ∧
         (adcCalOk ofs gain = false → Completes (.adcCalDone ofs gain) s (fun t => t.bit Reg.ADC_STATUS 1 = false ∧ t.bit Reg.ADC_STATUS 3 = true ∧
           ∀ g, g < 8 → t.reg (Reg.CAL_ADC_OFSg g) = s.reg (Reg.CAL_ADC_OFSg g) ∧ t.reg (Reg.CAL_ADC_GAINg g) = s.reg (Reg.CAL_ADC_GAINg g)))))) ∧
  (∀ (n : Nat) (x : W64) (s : State), n < s.variant.fans →
     ((s.fan n).lastEdge = none → Completes (.fanTachEdge n x) s (fun t => t = { s with plant := t.plant } ∧ (t.fan n).lastEdge = some x)) ∧
     (∀ u, (s.fan n).lastEdge = some u → (x.toNat - u.toNat < 20000 → Completes (.fanTachEdge n x) s (fun t => t = s)) ∧
       (20000 ≤ x.toNat - u.toNat → let iv := ((x.toNat - u.toNat) :: (s.fan n).intervals).take 4
         let ppr := s.fld (Reg.FANn_CFG n) 11 10 + 1
         Completes (.fanTachEdge n x) s (fun t => (t.fan n).lastEdge = some x ∧ (t.fan n).intervals = iv ∧
           t.fanRpm n = (if iv.length < ppr then s.fanRpm n else min (60000000 / ((iv.take ppr).foldl (· + ·) 0 / 1000)) 65535)))) ∧
     Completes (.fanTachTimeout n) s (fun t => RegsOnly s t ∧ t.fanRpm n = 0 ∧ ∀ b, b ≠ Reg.FANn_RPM n → t.reg b = s.reg b) ∧
     (s.fld (Reg.FANn_FAIL n) 23 16 = 0 → Completes (.fanUpdate n) s (fun t => t.fld (Reg.FANn_STATUS n) 2 0 = fanMode s n ∧ t.mem = s.mem ∧
       (fanMode s n = 0 → t.fanDuty n = 0) ∧
       (fanMode s n = 1 → s.fld (Reg.FANn_STATUS n) 2 0 = 1 → t.fanDuty n = (speedStep s n (s.fan n).tr (s.fan n).integ (s.fanDuty n)).2.2 % 2 ^ 16) ∧
       (fanMode s n = 2 → t.fanDuty n = s.fld (Reg.FANn_DUTY n) 15 0) ∧
       (fanMode s n = 3 → t.fanDuty n = if fanTableBad s n || fanStale s n then 65535 else tableDuty (fanPoint s n) (fanInput s n) % 2 ^ 16) ∧
       (fanMode s n = 4 → t.fanDuty n = 65535) ∧ (fanMode s n = 5 → t.fanDuty n = s.fld (Reg.FANn_DUTY n) 31 16))) ∧
     (s.fld (Reg.FANn_FAIL n) 23 16 ≠ 0 → s.fld (Reg.FANn_STATUS n) 2 0 = 2 → s.fanFailed n = false → s.fanRpm n < s.fld (Reg.FANn_FAIL n) 15 0 → 0 < s.fanDuty n →
       s.fld (Reg.FANn_RAMP n) 31 16 ≤ s.fanDuty n → s.fld (Reg.FANn_FAIL n) 23 16 * 10 ≤ (s.fan n).low + 1 → s.bit (Reg.FANn_CFG n) 12 = false → s.bit (Reg.FANn_CFG n) 0 = true → s.safeState = 3 →
       Completes (.fanUpdate n) s (fun t => t.fanFailed n = true ∧ Counted s t (Reg.FANn_FAILCNT n) ∧ t.fld (Reg.FANn_STATUS n) 2 0 = 4 ∧ t.fanDuty n = 65535)) ∧
     Completes (.fanClrfail n) s (fun t => t.fanFailed n = false ∧ (t.fan n).low = 0 ∧ t.mem = s.mem))

/-- SPI ports (R525 to R541). -/
def Obligations.SpiPortsTransferServeAndCastle : Prop :=
  ∀ (n : Nat) (s : State), n < 4 →
  (s.bit (Reg.SPIn_STATUS n) 0 = true ∨ s.bit (Reg.SPIn_CFG n) 0 = false → Completes (.spiGo n) s (fun t => t = s)) ∧
  (s.bit (Reg.SPIn_STATUS n) 0 = false → s.bit (Reg.SPIn_CFG n) 0 = true →
    (s.bit (Reg.SPIn_STATUS n) 11 = true → Completes (.spiGo n) s (fun t => t = { s with plant := t.plant } ∧ (t.spi n).goHeld = true)) ∧
    (s.bit (Reg.SPIn_STATUS n) 11 = false → let len := s.fld (Reg.SPIn_XFER n) 12 0
      let sel := s.fld (Reg.SPIn_XFER n) 14 13
      let badLen := 4096 < len ∨ len % (spiWlen s n / 8) ≠ 0
      let held := n = 0 ∧ sel = 0 ∧ s.bit Reg.SPI0_DXCFG 0 = true
      Completes (.spiGo n) s (fun t =>
        (s.bit (Reg.SPIn_STATUS n) 8 = true → XferEnded t n 4 ∧ t.out = s.out) ∧
        (s.bit (Reg.SPIn_STATUS n) 8 = false → len = 0 → XferEnded t n 0 ∧ t.out = s.out) ∧
        (s.bit (Reg.SPIn_STATUS n) 8 = false → len ≠ 0 → badLen → XferEnded t n 5 ∧ t.out = s.out) ∧
        (s.bit (Reg.SPIn_STATUS n) 8 = false → len ≠ 0 → ¬ badLen → s.bit (Reg.SPIn_SELEN n) sel = false → XferEnded t n 2 ∧ t.out = s.out) ∧
        (s.bit (Reg.SPIn_STATUS n) 8 = false → len ≠ 0 → ¬ badLen → s.bit (Reg.SPIn_SELEN n) sel = true → held → XferEnded t n 6 ∧ t.out = s.out) ∧
        (s.bit (Reg.SPIn_STATUS n) 8 = false → len ≠ 0 → ¬ badLen → s.bit (Reg.SPIn_SELEN n) sel = true → ¬ held → t.bit (Reg.SPIn_STATUS n) 0 = true ∧
          t.out = s.out ++ [Out.spi n sel (s.storeRead (plantStore + s.fld (Reg.SPIn_TXADDR n) 18 0) len)] ∧
          (t.spi n).xfer = some { tx := s.fld (Reg.SPIn_TXADDR n) 18 0, rx := s.fld (Reg.SPIn_RXADDR n) 18 0, len := len, sel := sel, wlen := spiWlen s n, retries := 0, waiting := false })))) ∧
  (∀ (ws : List W32) (bits : Nat) (c : Bool),
    ((s.spi n).xfer = none → Completes (.spiTransferEnd n ws bits c) s (fun t => t = s) ∧ Completes (.spiLeaseExpiry n ws bits) s (fun t => t = s) ∧
      Completes (.spiAbort n ws bits) s (fun t => t = s) ∧ Completes (.spiRwaitExpiry n) s (fun t => t = s)) ∧
    (∀ x, (s.spi n).xfer = some x → x.waiting = true → Completes (.spiTransferEnd n ws bits c) s (fun t => t = s) ∧
      Completes (.spiRwaitExpiry n) s (fun t => t.out = s.out ++ [Out.spi n x.sel (s.storeRead (plantStore + x.tx) x.len)] ∧
        (t.spi n).xfer = some { x with waiting := false, retries := x.retries + 1 } ∧ t.regs = s.regs) ∧
      Completes (.spiAbort n ws bits) s (fun t => XferEnded t n 7 ∧ t.store = s.store)) ∧
    (∀ x, (s.spi n).xfer = some x → x.waiting = false → Completes (.spiRwaitExpiry n) s (fun t => t = s) ∧
      Completes (.spiAbort n ws bits) s (fun t => XferEnded t n 7 ∧ Stored t n x ws bits) ∧
      (let clash := c = true ∧ s.bit (Reg.SPIn_CFG n) 7 = true
       let busy := s.bit (Reg.SPIn_XFER n) 19 = true ∧ (wordBytes x.wlen ws).head? = some 0xB7
       Completes (.spiTransferEnd n ws bits c) s (fun t => Stored t n x ws bits ∧
         (clash → XferEnded t n 3 ∧ t.bit (Reg.SPIn_STATUS n) 5 = true ∧ Counted s t (Reg.SPIn_CONFLICT n)) ∧
         (¬ clash → ¬ busy → XferEnded t n 0) ∧
         (¬ clash → busy → x.retries < s.fld (Reg.SPIn_XFER n) 18 15 → (t.spi n).xfer = some { x with waiting := true }) ∧
         (¬ clash → busy → s.fld (Reg.SPIn_XFER n) 18 15 ≤ x.retries → XferEnded t n 1)))) ∧
    (s.fld (Reg.SPIn_TIMING n) 31 16 = 0 → Completes (.spiLeaseExpiry n ws bits) s (fun t => t = s)) ∧
    (∀ x, s.fld (Reg.SPIn_TIMING n) 31 16 ≠ 0 → (s.spi n).xfer = some x → x.sel < 4 → Completes (.spiLeaseExpiry n ws bits) s (fun t => XferEnded t n 2 ∧
      t.bit (Reg.SPIn_SELEN n) x.sel = false ∧ Counted s t (Reg.SPIn_CUTOFF n) ∧ (x.waiting = false → Stored t n x ws bits)))) ∧
  Completes (.spiReply n) s (fun t => t = { s with plant := t.plant } ∧
    (t.spi n).reply = some (s.storeRead (plantStore + s.fld (Reg.SPIn_REPADDR n) 18 0) (min 256 (s.fld (Reg.SPIn_REPLEN n) 8 0)))) ∧
  (∀ (ws : List W32) (bits : Nat), (s.bit (Reg.SPIn_CFG n) 0 = false ∨ s.bit (Reg.SPIn_STATUS n) 8 = false → Completes (.spiSlaveFrame n ws bits) s (fun t => t = s)) ∧
    (s.bit (Reg.SPIn_CFG n) 0 = true → s.bit (Reg.SPIn_STATUS n) 8 = true → let bs := wordBytes (spiWlen s n) ws
      let busy := (s.spi n).reply.isNone
      let l := s.fld (Reg.SPIn_SRXRING n) 22 19
      let tail := s.fld (Reg.SPIn_SRXTAIL n) 7 0
      let next := (tail + 1) % 2 ^ l
      Completes (.spiSlaveFrame n ws bits) s (fun t => (t.spi n).reply = none ∧
        t.out = s.out ++ [Out.spi n 0 (match (s.spi n).reply with | some r => (r ++ List.replicate bs.length 0).take bs.length | none => List.replicate bs.length 0xB7)] ∧
        (busy = true → Counted s t (Reg.SPIn_BUSYRPL n)) ∧ (busy = false → t.reg (Reg.SPIn_BUSYRPL n) = s.reg (Reg.SPIn_BUSYRPL n)) ∧
        (l = 0 ∨ next = s.fld (Reg.SPIn_SRXHEAD n) 7 0 → Counted s t (Reg.SPIn_LOSTFRM n) ∧ t.store = s.store) ∧
        (l ≠ 0 → next ≠ s.fld (Reg.SPIn_SRXHEAD n) 7 0 → t.fld (Reg.SPIn_SRXTAIL n) 7 0 = next % 2 ^ 8 ∧ t.reg (Reg.SPIn_LOSTFRM n) = s.reg (Reg.SPIn_LOSTFRM n) ∧
          bytesAt t.store (plantStore + s.fld (Reg.SPIn_SRXRING n) 18 0 + 272 * tail) (spiSlot s bs bits busy).length = spiSlot s bs bits busy)))) ∧
  Completes (.spiCastle n) s (fun t => (t.spi n).castleReq = true ∧ t.bit (Reg.SPIn_STATUS n) 10 = true ∧
    t.bit (Reg.SPIn_STATUS n) 11 = (spiCastling s n && (!s.bit (Reg.SPIn_STATUS n) 9 || (s.spi n).peerPull))) ∧
  (spiCastling s n = false → Completes (.spiCreqPulled n) s (fun t => t = s)) ∧
  (spiCastling s n = true → Completes (.spiCreqPulled n) s (fun t => (t.spi n).peerPull = true ∧ t.bit (Reg.SPIn_STATUS n) 11 = true ∧ (t.spi n).castleReq = (s.spi n).castleReq)) ∧
  (∀ (o : Byte) (c : Bool), (s.bit (Reg.SPIn_STATUS n) 11 = false ∨ (s.spi n).xfer ≠ none ∨ s.bit (Reg.SPIn_CFG n) 0 = false → Completes (.spiCastleFrame n o c) s (fun t => t = s)) ∧
    (s.bit (Reg.SPIn_STATUS n) 11 = true → (s.spi n).xfer = none → s.bit (Reg.SPIn_CFG n) 0 = true →
      Completes (.spiCastleFrame n o true) s (fun t => t.bit (Reg.SPIn_STATUS n) 5 = true ∧ Counted s t (Reg.SPIn_CONFLICT n) ∧ (t.spi n).castleReq = (s.spi n).castleReq ∧
        t.bit (Reg.SPIn_STATUS n) 8 = s.bit (Reg.SPIn_STATUS n) 8) ∧
      ((s.spi n).goHeld = false → let mine := (s.spi n).castleReq && !s.bit (Reg.SPIn_STATUS n) 9
        let theirs := o.getLsbD 7
        let pm := s.fld (Reg.SPIn_CFG n) 15 9
        let po := o.toNat % 128
        let master := !s.bit (Reg.SPIn_STATUS n) 8
        let win := mine && (!theirs || decide (pm < po) || (pm == po && master))
        Completes (.spiCastleFrame n o false) s (fun t => Counted s t (Reg.SPIn_CASTLES n) ∧ (t.spi n).castleReq = ((s.spi n).castleReq && s.bit (Reg.SPIn_STATUS n) 9) ∧ (t.spi n).peerPull = false ∧ t.bit (Reg.SPIn_STATUS n) 11 = false ∧
          t.out.take (s.out.length + 1) = s.out ++ [Out.spi n 0 [BitVec.ofNat 8 (128 * b2n mine + pm)]] ∧
          t.bit (Reg.SPIn_STATUS n) 8 = (if mine || theirs then master else s.bit (Reg.SPIn_STATUS n) 8) ∧ (win = true → t.bit (Reg.SPIn_STATUS n) 7 = true) ∧
          ((mine && !win) = true → t.bit (Reg.SPIn_STATUS n) 6 = true ∧ t.bit (Reg.SPIn_STATUS n) 9 = true))))) ∧
  Completes (.spiBackoffEnd n) s (fun t => RegsOnly s t ∧ t.bit (Reg.SPIn_STATUS n) 9 = false ∧
    t.bit (Reg.SPIn_STATUS n) 11 = (spiCastling s n && ((s.spi n).castleReq || (s.spi n).peerPull))) ∧
  (∀ off : Nat, (dxReadable s off = false → Completes (.spiDxMiss off) s (fun t => t = s)) ∧
    (dxReadable s off = true → Completes (.spiDxMiss off) s (fun t => Counted s t Reg.SPI0_DXMISS ∧ (t.spi 0).lines.length ≤ 8 ∧
      (t.spi 0).lines.take 2 = [(off / 32, s.flashAt (32 * (off / 32)) 32), (off / 32 + 1, s.flashAt (32 * (off / 32 + 1)) 32)] ∧ t.flash = s.flash))) ∧
  (s.bit Reg.SPI0_DXCFG 0 = false → Completes .spiDxDisable s (fun t => t = s)) ∧
  (s.bit Reg.SPI0_DXCFG 0 = true → Completes .spiDxDisable s (fun t => t.bit Reg.SPI0_DXCFG 0 = false ∧ (t.spi 0).lines = [] ∧ (t.spi 0).cont = false ∧
    t.out = (if (s.spi 0).cont then s.out ++ [Out.spi 0 0 (leBytes 1 (s.fld Reg.SPI0_DXCFG 31 24))] else s.out)))

/-- The building bus (R461 to R470). The transitions between states are the model's reading of ASHRAE 135 clause 9, which the manual names and does not repeat (PRESUMED, in the assumption log). -/
def Obligations.BuildingBusPortsFollowTheirMachine : Prop :=
  ∀ (n : Nat) (s : State), n < 2 →
  (s.bit (Reg.BBn_CFG n) 0 = true ∨ bbMaxInfo s n = 0 → Completes (.bbEnable n) s (fun t => t = s)) ∧
  (s.bit (Reg.BBn_CFG n) 0 = false → bbMaxInfo s n ≠ 0 → Completes (.bbEnable n) s (fun t => bbState t n = 1 ∧ t.bit (Reg.BBn_CFG n) 0 = true ∧ bbNs t n = bbMac s n ∧ bbSole t n = false ∧
    t.bb n = { ps := bbMac s n, tokenCount := 50, frameCount := 0, retry := 0, asker := none })) ∧
  (∀ (f : BusFrame) (c : Bool), (bbOn s n = false → ∀ i ∈ [Instr.bbFrameRx n f, .bbTokenRx n, .bbFrameTx n c, .bbReplyDelayExpiry n, .bbNoTokenExpiry n, .bbReplyTimeout n, .bbUsageTimeout n,
      .bbFrameAbort n, .bbStuck n], Completes i s (fun t => t = s)) ∧
    (bbOn s n = true →
      (f.hdrOk = false → bbState s n ≠ 3 → Completes (.bbFrameRx n f) s (fun t => RegsOnly s t ∧ Counted s t (Reg.BBn_HDRCRC n) ∧ bbState t n = bbState s n)) ∧
      (f.hdrOk = true → f.dataOk = false → bbState s n ≠ 3 → Completes (.bbFrameRx n f) s (fun t => RegsOnly s t ∧ Counted s t (Reg.BBn_DATACRC n) ∧ bbState t n = bbState s n)) ∧
      (f.hdrOk = true → f.dataOk = true → 8 ≤ f.ftype ∨ 501 < f.data.length → Completes (.bbFrameRx n f) s (fun t => RegsOnly s t ∧ Counted s t (Reg.BBn_DISC n) ∧ bbState t n = bbState s n)) ∧
      (f.hdrOk = true → f.dataOk = true → f.ftype < 8 → f.data.length ≤ 501 → f.da ≠ bbMac s n → f.da ≠ 255 ∨ f.ftype < 3 → Completes (.bbFrameRx n f) s (fun t => RegsOnly s t ∧
        bbState t n = (if bbState s n = 5 ∨ bbState s n = 6 then 1 else bbState s n))) ∧
      (f.hdrOk = true → f.dataOk = true → f.data.length ≤ 501 → f.da = bbMac s n →
        (f.ftype = 0 → Completes (.bbFrameRx n f) s (fun t => bbState t n = 2 ∧ bbSole t n = false ∧ (t.bb n).frameCount = 0)) ∧
        (f.ftype = 1 → Completes (.bbFrameRx n f) s (fun t => bbState t n = 1 ∧ BusSent s t n 2 f.sa [])) ∧
        (f.ftype = 2 → bbState s n = 6 → Completes (.bbFrameRx n f) s (fun t => bbState t n = 5 ∧ bbNs t n = f.sa % 128 ∧ bbSole t n = false ∧ BusSent s t n 0 (f.sa % 128) [])) ∧
        (3 ≤ f.ftype → f.ftype < 8 → bbState s n = 1 → let l := s.fld (Reg.BBn_RXRING n) 22 19
          let tail := s.fld (Reg.BBn_RXTAIL n) 7 0
          let next := (tail + 1) % 2 ^ l
          let ask := f.ftype == 3 || f.ftype == 5
          let slot := bbSlot s f ask
          (l = 0 ∨ next = s.fld (Reg.BBn_RXHEAD n) 7 0 → Completes (.bbFrameRx n f) s (fun t => Counted s t (Reg.BBn_RXOVF n) ∧ bbState t n = 1 ∧ t.store = s.store)) ∧
          (l ≠ 0 → next ≠ s.fld (Reg.BBn_RXHEAD n) 7 0 → Completes (.bbFrameRx n f) s (fun t => t.fld (Reg.BBn_RXTAIL n) 7 0 = next % 2 ^ 8 ∧
            bytesAt t.store (plantStore + s.fld (Reg.BBn_RXRING n) 18 0 + 528 * tail) slot.length = slot ∧
            (if ask then bbState t n = 7 ∧ (t.bb n).asker = some f.sa else bbState t n = 1))))) ∧
      Completes (.bbTokenRx n) s (fun t => bbState t n = 2 ∧ bbSole t n = false ∧ (t.bb n).frameCount = 0 ∧ t.out = s.out) ∧
      (bbState s n ≠ 2 → bbState s n ≠ 7 → Completes (.bbFrameTx n c) s (fun t => t = s)) ∧
      (bbState s n = 2 → (bbNext 256 s n).1 = s → (bbNext 256 s n).2 = none → Completes (.bbFrameTx n c) s (fun t => TokenDone s t n)) ∧
      (∀ (ty da : Nat) (rep : Bool) (data : List Byte), bbNext 256 s n = (s, some (ty, da, rep, data)) → bbState s n = 2 →
        Completes (.bbFrameTx n true) s (fun t => RegsOnly s t ∧ Counted s t (Reg.BBn_COLLIDE n) ∧ t.reg (Reg.BBn_TXHEAD n) = s.reg (Reg.BBn_TXHEAD n) ∧ bbState t n = 2) ∧
        (ty = 3 ∨ ty = 5 → da ≠ 255 → Completes (.bbFrameTx n false) s (fun t => BusSent s t n ty da data ∧ bbState t n = 3 ∧
          t.fld (Reg.BBn_TXHEAD n) 7 0 = (s.fld (Reg.BBn_TXHEAD n) 7 0 + 1) % 2 ^ s.fld (Reg.BBn_TXRING n) 22 19 % 2 ^ 8 ∧ (t.bb n).frameCount = (s.bb n).frameCount + 1)) ∧
        ((ty ≠ 3 ∧ ty ≠ 5) ∨ da = 255 → (s.bb n).frameCount + 1 < bbMaxInfo s n → Completes (.bbFrameTx n false) s (fun t => BusSent s t n ty da data ∧ bbState t n = 2 ∧
          (t.bb n).frameCount = (s.bb n).frameCount + 1))) ∧
      (∀ (ty da : Nat) (data : List Byte), bbNext 256 s n = (s, some (ty, da, true, data)) → bbState s n = 7 →
        Completes (.bbFrameTx n false) s (fun t => BusSent s t n ty da data ∧ bbState t n = 1 ∧ (t.bb n).asker = none)) ∧
      (bbState s n ≠ 7 → Completes (.bbReplyDelayExpiry n) s (fun t => t = s)) ∧
      (∀ a, bbState s n = 7 → (s.bb n).asker = some a → Completes (.bbReplyDelayExpiry n) s (fun t => BusSent s t n 7 a [] ∧ bbState t n = 1 ∧ (t.bb n).asker = none)) ∧
      (bbState s n ≠ 1 → bbState s n ≠ 6 → Completes (.bbNoTokenExpiry n) s (fun t => t = s)) ∧
      (bbState s n = 1 ∨ bbState s n = 6 → Completes (.bbNoTokenExpiry n) s (fun t => Counted s t (Reg.BBn_TOKLOST n) ∧ bbState t n = 6 ∧ bbNs t n = bbMac s n ∧
        BusSent s t n 1 (bbAfter s n (bbMac s n)) [])) ∧
      (bbState s n ≠ 3 → Completes (.bbReplyTimeout n) s (fun t => t = s)) ∧
      (bbState s n = 3 → Completes (.bbReplyTimeout n) s (fun t => TokenDone s t n)) ∧
      (bbState s n ≠ 5 → bbState s n ≠ 6 → Completes (.bbUsageTimeout n) s (fun t => t = s)) ∧
      (bbState s n = 5 → (s.bb n).retry = 0 → Completes (.bbUsageTimeout n) s (fun t => BusSent s t n 0 (bbNs s n) [] ∧ bbState t n = 5 ∧ (t.bb n).retry = 1)) ∧
      (bbState s n = 5 → 0 < (s.bb n).retry → Completes (.bbUsageTimeout n) s (fun t => BusSent s t n 1 (bbAfter s n (bbNs s n)) [] ∧ bbState t n = 6 ∧ bbNs t n = bbMac s n)) ∧
      (bbState s n = 6 → bbSole s n = true → Completes (.bbUsageTimeout n) s (fun t => bbState t n = 2 ∧ t.out = s.out ∧ (t.bb n).frameCount = 0)) ∧
      (bbState s n = 6 → bbSole s n = false → bbNs s n ≠ bbMac s n → Completes (.bbUsageTimeout n) s (fun t => bbState t n = 5 ∧ BusSent s t n 0 (bbNs s n) [])) ∧
      (bbState s n ≠ 3 → Completes (.bbFrameAbort n) s (fun t => RegsOnly s t ∧ Counted s t (Reg.BBn_ABORT n) ∧ bbState t n = bbState s n)) ∧
      Completes (.bbStuck n) s (fun t => t.bit (Reg.BBn_STATUS n) 4 = true ∧ Counted s t (Reg.BBn_STUCK n) ∧ t.live 30 = false))) ∧
  (s.bit (Reg.BBn_STATUS n) 4 = false → Completes (.bbStuckClear n) s (fun t => t = s)) ∧
  (s.bit (Reg.BBn_STATUS n) 4 = true → Completes (.bbStuckClear n) s (fun t => RegsOnly s t ∧ t.bit (Reg.BBn_STATUS n) 4 = false ∧ bbState t n = if s.bit (Reg.BBn_CFG n) 0 then 1 else 0))

/-- Calibration images, snapshots, test access port and debug (R591 to R615). -/
def Obligations.TrimsSnapshotsTapAndDebugActAsCommanded : Prop :=
  ∀ s : State,
  (∀ who : Requester, (s.controlAllowed who Reg.CAL_CMD true = false → ∀ c ∈ [Instr.calExport who, .calImport who], Completes c s (fun t => t = { s with out := s.out ++ [Out.busError who] })) ∧
    (s.controlAllowed who Reg.CAL_CMD true = true →
      (s.cal ≠ none ∨ s.bit Reg.ADC_STATUS 1 = true → ∀ c ∈ [Instr.calExport who, .calImport who], Completes c s (fun t => RegsOnly s t ∧ t.fld Reg.CAL_STATUS 4 2 = 6 ∧ t.bit Reg.CAL_STATUS 1 = true)) ∧
      (s.cal = none → s.bit Reg.ADC_STATUS 1 = false →
        Completes (.calImport who) s (fun t => t = { s with regs := t.regs, cal := t.cal } ∧ t.cal = some { isImport := true, dom := calDomain s who } ∧ t.bit Reg.CAL_STATUS 0 = true) ∧
        (s.fld Reg.CAL_IMGMAX 13 0 < (trimImage s).length → Completes (.calExport who) s (fun t => RegsOnly s t ∧ CalEnded t 4)) ∧
        ((trimImage s).length ≤ s.fld Reg.CAL_IMGMAX 13 0 → Completes (.calExport who) s (fun t => t = { s with regs := t.regs, cal := t.cal } ∧
          t.cal = some { isImport := false, dom := calDomain s who } ∧ t.bit Reg.CAL_STATUS 0 = true))))) ∧
  (s.cal = none → Completes (.calCommandDone []) s (fun t => t = s)) ∧
  (∀ d : Option Nat, (s.cal = some { isImport := false, dom := d } →
      (∀ w, calWrite s d (trimImage s) = some w → Completes (.calCommandDone []) s (fun t => CalEnded t 0 ∧ t.cal = none ∧ t.store = w.store ∧ t.mem = w.mem)) ∧
      (calWrite s d (trimImage s) = none → Completes (.calCommandDone []) s (fun t => CalEnded t 5 ∧ t.cal = none ∧ t.store = s.store ∧ t.mem = s.mem))) ∧
    (s.cal = some { isImport := true, dom := d } → s.plant.adc.calWait = false →
      (calRead s d 0 32 = none → Completes (.calCommandDone []) s (fun t => t = { s with regs := t.regs, cal := t.cal } ∧ CalEnded t 5 ∧ ∀ a, a ≠ Reg.CAL_STATUS → t.reg a = s.reg a)) ∧
      (∀ h bs, calRead s d 0 32 = some h → calRead s d 0 (leAt h 6 2) = some bs →
        ((trimCheck s bs).1 ≠ 0 → Completes (.calCommandDone []) s (fun t => t = { s with regs := t.regs, cal := t.cal } ∧ t.cal = none ∧ CalEnded t (trimCheck s bs).1 ∧
          ∀ a, a ≠ Reg.CAL_STATUS → t.reg a = s.reg a)) ∧
        ((trimCheck s bs).1 = 0 → Completes (.calCommandDone []) s (fun t => t = { s with regs := t.regs, cal := t.cal } ∧ t.cal = none ∧ CalEnded t 0 ∧
          ∀ a, a ≠ Reg.CAL_STATUS → t.reg a = (((trimCheck s bs).2.filter (fun e => trimUnit s e.code e.index)).foldl trimApply s).reg a))))) ∧
  (s.bit Reg.SNP_STATUS 0 = true ∨ s.bit Reg.SNP_STATUS 2 = true → Completes .snpArm s (fun t => t = s)) ∧
  (s.bit Reg.SNP_STATUS 0 = false → s.bit Reg.SNP_STATUS 2 = false → Completes .snpArm s (fun t => RegsOnly s t ∧ t.bit Reg.SNP_STATUS 0 = true ∧ t.bit Reg.SNP_STATUS 1 = false)) ∧
  Triggers s .snpTrig .soft s.ringTime ∧ (∀ x : W64, Triggers s (.snapinEdge x) .snapin x) ∧
  (s.bit Reg.SNP_STATUS 2 = false → Completes .snapshotDone s (fun t => t = s)) ∧
  (s.bit Reg.SNP_STATUS 2 = true → Completes .snapshotDone s (fun t => RegsOnly s t ∧ t.bit Reg.SNP_STATUS 2 = false ∧ t.bit Reg.SNP_STATUS 1 = true)) ∧
  (∀ (who : Requester) (v : W32), let ok := s.controlAllowed who Reg.SNP_DBG true && s.ownerOrM who && (fbits v 7 0 == 0xD5)
    (ok = false → Completes (.snpDbgWrite who v) s (fun t => t = { s with out := s.out ++ [Out.busError who] })) ∧
    (ok = true → Completes (.snpDbgWrite who v) s (fun t => RegBecomes s t Reg.SNP_DBG (fsetb (s.reg Reg.SNP_DBG) 8 (fbit v 8))))) ∧
  (s.power ≠ .on → ∀ c ∈ [Instr.tapReset, .tapIdcode, .tapSamplePreload, .tapExtest, .tapHighz, .tapClamp, .tapDbgacc, .tapBypass], Completes c s (fun t => t = s)) ∧
  (s.power = .on → Completes .tapReset s (fun t => t = { s with tapIr := 1 }) ∧ Completes .tapSamplePreload s (fun t => t = { s with tapIr := 2 }) ∧
    Completes .tapBypass s (fun t => t = { s with tapIr := 0xFF }) ∧ Completes .tapIdcode s (fun t => t = { s with tapIr := 1, out := s.out ++ [Out.readData .debug s.idcode] }) ∧
    (s.debugOn = false → ∀ c ∈ [Instr.tapExtest, .tapHighz, .tapClamp, .tapDbgacc], Completes c s (fun t => t = { s with tapIr := 0xFF })) ∧
    (s.debugOn = true → Completes .tapDbgacc s (fun t => t = { s with tapIr := 0x20 }) ∧
      ∀ c ir, (c, ir) ∈ [(Instr.tapExtest, (3 : BitVec 8)), (.tapHighz, 4), (.tapClamp, 5)] → Completes c s (fun t => t.tapIr = ir ∧ t.safeState = 0 ∧
        (s.safeState ≠ 0 → t.fld Reg.FC_SAFE 4 2 = 4)))) ∧
  Completes .dbgNop s (fun t => t = s) ∧
  (∀ (a : BitVec 48) (v : W32), (s.dbgReady = false → ∀ c ∈ [Instr.dbgRead a [], .dbgWrite a v, .dbgHalt a, .dbgRelease a], Completes c s (fun t => t = s)) ∧
    (s.dbgReady = true → a.toNat % 4 ≠ 0 → ∀ c ∈ [Instr.dbgRead a [], .dbgWrite a v], Completes c s (fun t => t = { s with dbg := t.dbg } ∧ DbgBusy s t a s.dbg.data .bus)) ∧
    (s.dbgReady = true → a.toNat % 4 = 0 → isControl a.toNat = false →
      (∀ bs, s.memRead a.toNat 4 = some bs → Completes (.dbgRead a []) s (fun t => t = { s with dbg := t.dbg } ∧ DbgBusy s t a (BitVec.ofNat 32 (leNat bs)) .ok)) ∧
      (s.memRead a.toNat 4 = none → Completes (.dbgRead a []) s (fun t => t = { s with dbg := t.dbg } ∧ DbgBusy s t a s.dbg.data .bus)) ∧
      (∀ w, s.memWrite a.toNat (leBytes 4 v.toNat) = some w → Completes (.dbgWrite a v) s (fun t => t = { w with dbg := t.dbg } ∧ DbgBusy w t a w.dbg.data .ok)) ∧
      (s.memWrite a.toNat (leBytes 4 v.toNat) = none → Completes (.dbgWrite a v) s (fun t => t = { s with dbg := t.dbg } ∧ DbgBusy s t a s.dbg.data .bus))) ∧
    (s.dbgReady = true → a.toNat % 4 = 0 → isControl a.toNat = true →
      (∀ x w, ctlRead s .debug a.toNat = (some x, w) → Completes (.dbgRead a []) s (fun t => t = { w with dbg := t.dbg } ∧ DbgBusy w t a x .ok)) ∧
      (∀ w, ctlWrite s .debug a.toNat v = (w, true) → Completes (.dbgWrite a v) s (fun t => t = { w with dbg := t.dbg } ∧ DbgBusy w t a w.dbg.data .ok)) ∧
      (∀ w, ctlWrite s .debug a.toNat v = (w, false) → Completes (.dbgWrite a v) s (fun t => t = { w with dbg := t.dbg } ∧ DbgBusy w t a w.dbg.data .bus))) ∧
    (let i := a.toNat % 1024
     (s.dbgReady = true → i = plantSeat → s.safeState ≠ 0 → s.safeState ≠ 2 → Completes (.dbgHalt a) s (fun t => t = { s with dbg := t.dbg } ∧ DbgBusy s t a s.dbg.data .denied)) ∧
     (s.dbgReady = true → i ≠ plantSeat → s.seatNamed i = false → ∀ c ∈ [Instr.dbgHalt a, .dbgRelease a], Completes c s (fun t => t = { s with dbg := t.dbg } ∧ DbgBusy s t a s.dbg.data .bus)) ∧
     (s.dbgReady = true → (i = plantSeat ∧ s.safeState = 0) ∨ (i ≠ plantSeat ∧ s.seatNamed i = true) →
       ((s.seat i).st = .run → Completes (.dbgHalt a) s (fun t => (t.seat i).st = .halt ∧ DbgBusy s t a s.dbg.data .ok ∧ t.mem = s.mem)) ∧
       ((s.seat i).st = .wait → Completes (.dbgHalt a) s (fun t => t = { s with dbg := t.dbg, haltReq := t.haltReq } ∧ sget false t.haltReq i = true ∧ DbgBusy s t a s.dbg.data .ok)) ∧
       ((s.seat i).st = .halt → Completes (.dbgRelease a) s (fun t => (t.seat i).st = (if i = plantSeat then .run else .idle) ∧ DbgBusy s t a s.dbg.data .ok)) ∧
       ((s.seat i).st ≠ .halt → Completes (.dbgRelease a) s (fun t => t = { s with dbg := t.dbg } ∧ DbgBusy s t a s.dbg.data .ok))))) ∧
  (s.dbg.pend = none → Completes .dbgCommandDone s (fun t => t = s)) ∧
  (∀ v st, s.dbg.pend = some (v, st) → Completes .dbgCommandDone s (fun t => t = { s with dbg := { addr := s.dbg.addr, data := v, status := st, pend := none } }))

/-- What reset leaves. The values that the manual gives no reset for are the assumption log's (entries on reset values and on the part modelled). -/
def Obligations.ResetLeavesTheStatedMachine : Prop :=
  State.reset.pending = [] ∧ State.reset.canonical = true ∧ State.reset.closed = false ∧ State.reset.rollFuses = 0 ∧
  (∀ a : Nat, State.reset.byteAt a = 0) ∧ (∀ i : Nat, (State.reset.seat i).st = .off) ∧
  (∀ a : Nat, a ≠ Reg.SYS_RSTCAUSE → State.reset.reg a = regReset a) ∧ State.reset.reg Reg.SYS_RSTCAUSE = 1 ∧
  State.reset.safeState = 0 ∧ State.reset.fld Reg.FC_SAFE 4 2 = 0 ∧ State.reset.owner = none ∧ State.reset.cal = none ∧ State.reset.burn = .none ∧
  State.reset.dbg.pend = none ∧ State.reset.power = .reset ∧ State.reset.out = []

/-- The invariant of R122 over every command, with the canonical form of the stores (the model's representation of R655's reset contents). -/
def Obligations.EveryStepKeepsTheFormsAndTheFuses : Prop :=
  ∀ s t : State, step s = .next t →
  (∀ k, Inv k s → Inv k t) ∧ s.keyFuses &&& t.keyFuses = s.keyFuses ∧ s.rollFuses &&& t.rollFuses = s.rollFuses ∧
  t.variant = s.variant ∧ t.uid = s.uid ∧ t.pending = s.pending.tail
end

