-- ==== Sys2Proof/Laws/Bits.lean ====
section
/-! SUPPORT. Laws of bit fields: what a field or a bit reads after it, or another, is replaced. -/

namespace Sys2Proof.Machine

/-- The number a word becomes when its field is replaced. -/
theorem fset_toNat {n : Nat} (w : BitVec n) (hi lo v : Nat) (h : hi < n) (hl : lo ≤ hi) :
    (fset w hi lo v).toNat = w.toNat - (w.toNat / 2 ^ lo % 2 ^ (hi + 1 - lo)) * 2 ^ lo + (v % 2 ^ (hi + 1 - lo)) * 2 ^ lo := by
  have hm : 2 ^ (hi + 1 - lo) - 1 + 1 = 2 ^ (hi + 1 - lo) := Nat.sub_add_cancel Nat.one_le_two_pow
  simp only [fset, hm, BitVec.toNat_ofNat]
  apply Nat.mod_eq_of_lt
  set p := 2 ^ (hi + 1 - lo) with hp
  set q := 2 ^ lo with hq
  have hpq : p * q * 2 ^ (n - (hi + 1)) = 2 ^ n := by
    rw [hp, hq, ← pow_add, ← pow_add]; congr 1; omega
  have hw : w.toNat < p * q * 2 ^ (n - (hi + 1)) := hpq ▸ w.isLt
  have hv : v % p < p := Nat.mod_lt _ (by positivity)
  have hq0 : 0 < q := by positivity
  have hp0 : 0 < p := by positivity
  have key : w.toNat = (w.toNat / q / p) * (p * q) + (w.toNat / q % p) * q + w.toNat % q := by
    conv_lhs => rw [← Nat.div_add_mod w.toNat q, ← Nat.div_add_mod (w.toNat / q) p]
    ring
  have hA' : w.toNat / q / p < 2 ^ (n - (hi + 1)) := by
    rw [Nat.div_div_eq_div_mul]
    apply Nat.div_lt_of_lt_mul; rw [Nat.mul_comm q p]; exact hw
  generalize hAe : w.toNat / q / p = A at *
  generalize hBe : w.toNat / q % p = B at *
  have hA := hA'
  have hr : w.toNat % q < q := Nat.mod_lt _ hq0
  have e1 : w.toNat - B * q = A * (p * q) + w.toNat % q := by omega
  rw [e1, ← hpq]
  have e2 : (v % p) * q + q ≤ p * q := by nlinarith
  have e3 : A * (p * q) + p * q ≤ p * q * 2 ^ (n - (hi + 1)) := by nlinarith
  omega

/-- A replaced field reads as the new value. -/
theorem fbits_fset_same {n : Nat} (w : BitVec n) (hi lo v : Nat) (h : hi < n) (hl : lo ≤ hi) :
    fbits (fset w hi lo v) hi lo = v % 2 ^ (hi + 1 - lo) := by
  rw [fbits, fset_toNat w hi lo v h hl]
  set p := 2 ^ (hi + 1 - lo)
  set q := 2 ^ lo
  have hq0 : 0 < q := by positivity
  have key : w.toNat = (w.toNat / q / p) * (p * q) + (w.toNat / q % p) * q + w.toNat % q := by
    conv_lhs => rw [← Nat.div_add_mod w.toNat q, ← Nat.div_add_mod (w.toNat / q) p]
    ring
  have hr : w.toNat % q < q := Nat.mod_lt _ hq0
  have e1 : w.toNat - (w.toNat / q % p) * q + (v % p) * q = w.toNat % q + ((w.toNat / q / p) * p + v % p) * q := by
    have : (w.toNat / q / p) * (p * q) = (w.toNat / q / p) * p * q := by ring
    rw [Nat.add_mul]; omega
  rw [e1, Nat.add_mul_div_right _ _ hq0, Nat.div_eq_of_lt hr, Nat.zero_add, Nat.add_comm, Nat.add_mul_mod_self_right, Nat.mod_mod]

/-- A bit that was set or cleared reads so. -/
@[simp] theorem fbit_fsetb_same {n : Nat} (w : BitVec n) (i : Nat) (b : Bool) (h : i < n) : fbit (fsetb w i b) i = b := by
  have e := fbits_fset_same w i i (if b then 1 else 0) h (Nat.le_refl i)
  rw [Nat.add_sub_cancel_left, pow_one] at e
  rw [fbit, fsetb, BitVec.getLsbD, Nat.testBit_eq_decide_div_mod_eq]
  rw [fbits, Nat.add_sub_cancel_left, pow_one] at e
  rw [e]; cases b <;> rfl

/-- Every other bit stays. -/
theorem fbit_fsetb_ne {n : Nat} (w : BitVec n) {i j : Nat} (b : Bool) (h : i < n) (hj : j ≠ i) : fbit (fsetb w i b) j = fbit w j := by
  rw [fbit, fbit, fsetb, BitVec.getLsbD, BitVec.getLsbD, fset_toNat w i i _ h (Nat.le_refl i), Nat.add_sub_cancel_left, pow_one]
  set x := w.toNat
  have hx : x = (x / 2 ^ (i + 1)) * 2 ^ (i + 1) + (x / 2 ^ i % 2) * 2 ^ i + x % 2 ^ i := by
    have h2 : x / 2 ^ (i + 1) = x / 2 ^ i / 2 := by rw [pow_succ, Nat.div_div_eq_div_mul]
    rw [h2]
    conv_lhs => rw [← Nat.div_add_mod x (2 ^ i), ← Nat.div_add_mod (x / 2 ^ i) 2]
    ring
  have hb : ∀ c : Nat, c < 2 → ((x / 2 ^ (i + 1)) * 2 ^ (i + 1) + c * 2 ^ i + x % 2 ^ i).testBit j =
      ((x / 2 ^ (i + 1)) * 2 ^ (i + 1) + x % 2 ^ i).testBit j := by
    intro c hc
    have hr : x % 2 ^ i < 2 ^ i := Nat.mod_lt _ (by positivity)
    have hm : c * 2 ^ i + x % 2 ^ i < 2 ^ (i + 1) := by
      rw [pow_succ]
      rcases (by omega : c = 0 ∨ c = 1) with rfl | rfl <;> omega
    have hm' : x % 2 ^ i < 2 ^ (i + 1) := by rw [pow_succ]; omega
    rw [Nat.add_assoc, Nat.mul_comm (x / 2 ^ (i + 1)), Nat.testBit_two_pow_mul_add _ hm, Nat.testBit_two_pow_mul_add _ hm']
    rcases Nat.lt_or_ge j (i + 1) with hlt | hge
    · have hji : j < i := by omega
      rw [if_pos hlt, if_pos hlt, Nat.mul_comm c, Nat.testBit_two_pow_mul_add _ hr, if_pos hji]
    · rw [if_neg (by omega), if_neg (by omega)]
  have e1 : x - x / 2 ^ i % 2 * 2 ^ i = (x / 2 ^ (i + 1)) * 2 ^ (i + 1) + x % 2 ^ i := by omega
  rw [e1]
  conv_rhs => rw [hx]
  rw [hb _ (Nat.mod_lt _ (by decide)), Nat.add_right_comm, hb _ (Nat.mod_lt _ (by decide))]

end Sys2Proof.Machine
end

