-- ==== Sys2Proof/Laws/Store.lean ====
section
/-! SUPPORT. Laws of the sparse stores: reading after writing, and the canonical form. -/

namespace Sys2Proof.Machine

/-! ### Reading after writing -/

theorem sfind_sput_same {β : Type} (k : Nat) (v : β) (m : SMap β) : sfind k (sput k v m) = some v := by
  induction m with
  | nil => simp [sput, sfind]
  | cons e m ih =>
    obtain ⟨a, w⟩ := e
    unfold sput
    split
    · simp [sfind]
    · split
      · simp [sfind]
      · rename_i h; simp [sfind, Ne.symm h, ih]

theorem sfind_sput_ne {β : Type} {k j : Nat} (h : j ≠ k) (v : β) (m : SMap β) : sfind j (sput k v m) = sfind j m := by
  induction m with
  | nil => simp [sput, sfind, Ne.symm h]
  | cons e m ih =>
    obtain ⟨a, w⟩ := e
    unfold sput
    split
    · simp [sfind, Ne.symm h]
    · split
      · subst_vars; simp [sfind, Ne.symm h]
      · simp [sfind, ih]

theorem sfind_sdel_same {β : Type} (k : Nat) (m : SMap β) : sfind k (sdel k m) = none := by
  induction m with
  | nil => rfl
  | cons e m ih =>
    obtain ⟨a, w⟩ := e
    unfold sdel
    split
    · exact ih
    · rename_i h; simp [sfind, h, ih]

theorem sfind_sdel_ne {β : Type} {k j : Nat} (h : j ≠ k) (m : SMap β) : sfind j (sdel k m) = sfind j m := by
  induction m with
  | nil => rfl
  | cons e m ih =>
    obtain ⟨a, w⟩ := e
    unfold sdel
    split
    · subst_vars; simp [sfind, Ne.symm h, ih]
    · simp [sfind, ih]

theorem sget_eq {β : Type} (d : β) (m : SMap β) (k : Nat) : sget d m k = (sfind k m).getD d := by
  unfold sget; cases sfind k m <;> rfl

/-- A key reads as what was last written to it. -/
@[simp] theorem sget_sset_same {β : Type} [DecidableEq β] (d : β) (m : SMap β) (k : Nat) (v : β) : sget d (sset d m k v) k = v := by
  rw [sget_eq, sset]
  by_cases h : v = d
  · rw [if_pos h, sfind_sdel_same, h]; rfl
  · rw [if_neg h, sfind_sput_same]; rfl

/-- Writing one key leaves what every other key reads as. -/
theorem sget_sset_ne {β : Type} [DecidableEq β] (d e : β) (m : SMap β) {k j : Nat} (h : j ≠ k) (v : β) :
    sget e (sset d m k v) j = sget e m j := by
  rw [sget_eq, sget_eq, sset]
  by_cases hv : v = d
  · rw [if_pos hv, sfind_sdel_ne h]
  · rw [if_neg hv, sfind_sput_ne h]

@[simp] theorem sget_smod_same {β : Type} [DecidableEq β] (d : β) (m : SMap β) (k : Nat) (f : β → β) :
    sget d (smod d m k f) k = f (sget d m k) := sget_sset_same d m k _

theorem sget_smod_ne {β : Type} [DecidableEq β] (d : β) (m : SMap β) {k j : Nat} (h : j ≠ k) (f : β → β) :
    sget d (smod d m k f) j = sget d m j := sget_sset_ne d d m h _

@[simp] theorem sget_nil {β : Type} (d : β) (k : Nat) : sget d [] k = d := rfl

/-! ### The canonical form -/

theorem rising_mono {β : Type} {lo hi : Nat} (h : lo ≤ hi) (m : SMap β) : rising hi m = true → rising lo m = true := by
  cases m with
  | nil => simp [rising]
  | cons e m => obtain ⟨a, v⟩ := e; simp only [rising, Bool.and_eq_true, decide_eq_true_eq]; exact fun hr => ⟨by omega, hr.2⟩

theorem rising_sput {β : Type} (k : Nat) (v : β) (m : SMap β) :
    ∀ lo, lo ≤ k → rising lo m = true → rising lo (sput k v m) = true := by
  induction m with
  | nil => intro lo h _; simp [sput, rising, h]
  | cons e m ih =>
    obtain ⟨a, w⟩ := e
    intro lo h hr
    simp only [rising, Bool.and_eq_true, decide_eq_true_eq] at hr
    unfold sput
    split
    · simp only [rising, Bool.and_eq_true, decide_eq_true_eq]; exact ⟨h, by omega, hr.2⟩
    · split
      · subst_vars; simp only [rising, Bool.and_eq_true, decide_eq_true_eq]; exact ⟨h, hr.2⟩
      · simp only [rising, Bool.and_eq_true, decide_eq_true_eq]
        exact ⟨hr.1, ih (a + 1) (by omega) hr.2⟩

theorem rising_sdel {β : Type} (k : Nat) (m : SMap β) : ∀ lo, rising lo m = true → rising lo (sdel k m) = true := by
  induction m with
  | nil => intro lo _; rfl
  | cons e m ih =>
    obtain ⟨a, w⟩ := e
    intro lo hr
    simp only [rising, Bool.and_eq_true, decide_eq_true_eq] at hr
    unfold sdel
    split
    · exact ih lo (rising_mono (by omega) m hr.2)
    · simp only [rising, Bool.and_eq_true, decide_eq_true_eq]; exact ⟨hr.1, ih (a + 1) hr.2⟩

theorem mem_sput {β : Type} {k : Nat} {v : β} {m : SMap β} {e : Nat × β} : e ∈ sput k v m → e = (k, v) ∨ e ∈ m := by
  induction m with
  | nil => simp [sput]
  | cons x m ih =>
    obtain ⟨a, w⟩ := x
    unfold sput
    split
    · simp
    · split
      · simp only [List.mem_cons]; tauto
      · simp only [List.mem_cons]; tauto

theorem mem_sdel {β : Type} {k : Nat} {m : SMap β} {e : Nat × β} : e ∈ sdel k m → e ∈ m := by
  induction m with
  | nil => simp [sdel]
  | cons x m ih =>
    obtain ⟨a, w⟩ := x
    unfold sdel
    split
    · intro h; exact List.mem_cons_of_mem _ (ih h)
    · simp only [List.mem_cons]; tauto

/-- A write keeps the canonical form: the value an unlisted key reads as removes the entry. -/
theorem swf_sset {β : Type} [DecidableEq β] (f : Nat → β) (m : SMap β) (k : Nat) (v : β) (h : swf f m = true) :
    swf f (sset (f k) m k v) = true := by
  simp only [swf, Bool.and_eq_true, List.all_eq_true, decide_eq_true_eq] at h ⊢
  unfold sset
  split
  · exact ⟨rising_sdel k m 0 h.1, fun e he => h.2 e (mem_sdel he)⟩
  · rename_i hv
    refine ⟨rising_sput k v m 0 (Nat.zero_le _) h.1, fun e he => ?_⟩
    rcases mem_sput he with rfl | he
    · exact hv
    · exact h.2 e he

/-! ### Bytes -/

@[simp] theorem bytesAt_length (m : SMap Byte) (a n : Nat) : (bytesAt m a n).length = n := by
  induction n generalizing a with
  | zero => rfl
  | succ n ih => simp [bytesAt, ih]

/-- A run of bytes leaves the bytes outside it. -/
theorem sget_putBytes_outside (bs : List Byte) : ∀ (m : SMap Byte) (a b : Nat), b < a ∨ a + bs.length ≤ b →
    sget 0 (putBytes m a bs) b = sget 0 m b := by
  induction bs with
  | nil => intro m a b _; rfl
  | cons x bs ih =>
    intro m a b h
    simp only [List.length_cons] at h
    rw [putBytes, ih _ _ _ (by omega), sget_sset_ne _ _ _ (by omega)]

/-- A run of bytes keeps the canonical form. -/
theorem wf_putBytes (bs : List Byte) : ∀ (m : SMap Byte) (a : Nat), Memory.wf m = true → Memory.wf (putBytes m a bs) = true := by
  induction bs with
  | nil => intro m a h; exact h
  | cons x bs ih => intro m a h; exact ih _ _ (swf_sset (fun _ => 0) m a x h)

end Sys2Proof.Machine
end

