-- ==== Sys2Proof/Laws/State.lean ====
section
/-! SUPPORT. Laws of the state's updates: what each leaves alone, one lemma per field, and what a register, a seat, a
domain, a link, a web or a source reads after its own update and after another's. -/

namespace Sys2Proof.Machine

/-! ### setReg leaves every other field -/

@[simp] theorem State.setReg_pending (s : State) (a : Nat) (v : W32) : (s.setReg a v).pending = s.pending := rfl
@[simp] theorem State.setReg_variant (s : State) (a : Nat) (v : W32) : (s.setReg a v).variant = s.variant := rfl
@[simp] theorem State.setReg_uid (s : State) (a : Nat) (v : W32) : (s.setReg a v).uid = s.uid := rfl
@[simp] theorem State.setReg_keyFuses (s : State) (a : Nat) (v : W32) : (s.setReg a v).keyFuses = s.keyFuses := rfl
@[simp] theorem State.setReg_rollFuses (s : State) (a : Nat) (v : W32) : (s.setReg a v).rollFuses = s.rollFuses := rfl
@[simp] theorem State.setReg_ringTime (s : State) (a : Nat) (v : W32) : (s.setReg a v).ringTime = s.ringTime := rfl
@[simp] theorem State.setReg_freeCount (s : State) (a : Nat) (v : W32) : (s.setReg a v).freeCount = s.freeCount := rfl
@[simp] theorem State.setReg_inForce (s : State) (a : Nat) (v : W32) : (s.setReg a v).inForce = s.inForce := rfl
@[simp] theorem State.setReg_loHeld (s : State) (a : Nat) (v : W32) : (s.setReg a v).loHeld = s.loHeld := rfl
@[simp] theorem State.setReg_hiLatch (s : State) (a : Nat) (v : W32) : (s.setReg a v).hiLatch = s.hiLatch := rfl
@[simp] theorem State.setReg_seats (s : State) (a : Nat) (v : W32) : (s.setReg a v).seats = s.seats := rfl
@[simp] theorem State.setReg_cores (s : State) (a : Nat) (v : W32) : (s.setReg a v).cores = s.cores := rfl
@[simp] theorem State.setReg_mem (s : State) (a : Nat) (v : W32) : (s.setReg a v).mem = s.mem := rfl
@[simp] theorem State.setReg_store (s : State) (a : Nat) (v : W32) : (s.setReg a v).store = s.store := rfl
@[simp] theorem State.setReg_storePoison (s : State) (a : Nat) (v : W32) : (s.setReg a v).storePoison = s.storePoison := rfl
@[simp] theorem State.setReg_flash (s : State) (a : Nat) (v : W32) : (s.setReg a v).flash = s.flash := rfl
@[simp] theorem State.setReg_tags (s : State) (a : Nat) (v : W32) : (s.setReg a v).tags = s.tags := rfl
@[simp] theorem State.setReg_pages (s : State) (a : Nat) (v : W32) : (s.setReg a v).pages = s.pages := rfl
@[simp] theorem State.setReg_stackRuns (s : State) (a : Nat) (v : W32) : (s.setReg a v).stackRuns = s.stackRuns := rfl
@[simp] theorem State.setReg_encBase (s : State) (a : Nat) (v : W32) : (s.setReg a v).encBase = s.encBase := rfl
@[simp] theorem State.setReg_fabric (s : State) (a : Nat) (v : W32) : (s.setReg a v).fabric = s.fabric := rfl
@[simp] theorem State.setReg_owner (s : State) (a : Nat) (v : W32) : (s.setReg a v).owner = s.owner := rfl
@[simp] theorem State.setReg_install (s : State) (a : Nat) (v : W32) : (s.setReg a v).install = s.install := rfl
@[simp] theorem State.setReg_burn (s : State) (a : Nat) (v : W32) : (s.setReg a v).burn = s.burn := rfl
@[simp] theorem State.setReg_plantRestart (s : State) (a : Nat) (v : W32) : (s.setReg a v).plantRestart = s.plantRestart := rfl
@[simp] theorem State.setReg_doms (s : State) (a : Nat) (v : W32) : (s.setReg a v).doms = s.doms := rfl
@[simp] theorem State.setReg_throttles (s : State) (a : Nat) (v : W32) : (s.setReg a v).throttles = s.throttles := rfl
@[simp] theorem State.setReg_attached (s : State) (a : Nat) (v : W32) : (s.setReg a v).attached = s.attached := rfl
@[simp] theorem State.setReg_fc (s : State) (a : Nat) (v : W32) : (s.setReg a v).fc = s.fc := rfl
@[simp] theorem State.setReg_moDuty (s : State) (a : Nat) (v : W32) : (s.setReg a v).moDuty = s.moDuty := rfl
@[simp] theorem State.setReg_links (s : State) (a : Nat) (v : W32) : (s.setReg a v).links = s.links := rfl
@[simp] theorem State.setReg_ring (s : State) (a : Nat) (v : W32) : (s.setReg a v).ring = s.ring := rfl
@[simp] theorem State.setReg_pos (s : State) (a : Nat) (v : W32) : (s.setReg a v).pos = s.pos := rfl
@[simp] theorem State.setReg_stg (s : State) (a : Nat) (v : W32) : (s.setReg a v).stg = s.stg := rfl
@[simp] theorem State.setReg_pairHeld (s : State) (a : Nat) (v : W32) : (s.setReg a v).pairHeld = s.pairHeld := rfl
@[simp] theorem State.setReg_refMoved (s : State) (a : Nat) (v : W32) : (s.setReg a v).refMoved = s.refMoved := rfl
@[simp] theorem State.setReg_mcrcBad (s : State) (a : Nat) (v : W32) : (s.setReg a v).mcrcBad = s.mcrcBad := rfl
@[simp] theorem State.setReg_works (s : State) (a : Nat) (v : W32) : (s.setReg a v).works = s.works := rfl
@[simp] theorem State.setReg_engines (s : State) (a : Nat) (v : W32) : (s.setReg a v).engines = s.engines := rfl
@[simp] theorem State.setReg_spare (s : State) (a : Nat) (v : W32) : (s.setReg a v).spare = s.spare := rfl
@[simp] theorem State.setReg_plant (s : State) (a : Nat) (v : W32) : (s.setReg a v).plant = s.plant := rfl
@[simp] theorem State.setReg_sens (s : State) (a : Nat) (v : W32) : (s.setReg a v).sens = s.sens := rfl
@[simp] theorem State.setReg_tmp (s : State) (a : Nat) (v : W32) : (s.setReg a v).tmp = s.tmp := rfl
@[simp] theorem State.setReg_cal (s : State) (a : Nat) (v : W32) : (s.setReg a v).cal = s.cal := rfl
@[simp] theorem State.setReg_tapIr (s : State) (a : Nat) (v : W32) : (s.setReg a v).tapIr = s.tapIr := rfl
@[simp] theorem State.setReg_dbg (s : State) (a : Nat) (v : W32) : (s.setReg a v).dbg = s.dbg := rfl
@[simp] theorem State.setReg_haltReq (s : State) (a : Nat) (v : W32) : (s.setReg a v).haltReq = s.haltReq := rfl
@[simp] theorem State.setReg_power (s : State) (a : Nat) (v : W32) : (s.setReg a v).power = s.power := rfl
@[simp] theorem State.setReg_runen (s : State) (a : Nat) (v : W32) : (s.setReg a v).runen = s.runen := rfl
@[simp] theorem State.setReg_runpg (s : State) (a : Nat) (v : W32) : (s.setReg a v).runpg = s.runpg := rfl
@[simp] theorem State.setReg_resetPending (s : State) (a : Nat) (v : W32) : (s.setReg a v).resetPending = s.resetPending := rfl
@[simp] theorem State.setReg_out (s : State) (a : Nat) (v : W32) : (s.setReg a v).out = s.out := rfl

/-! ### setAct leaves every other field -/

@[simp] theorem State.setAct_pending (s : State) (a : Nat) (v : W32) : (s.setAct a v).pending = s.pending := rfl
@[simp] theorem State.setAct_variant (s : State) (a : Nat) (v : W32) : (s.setAct a v).variant = s.variant := rfl
@[simp] theorem State.setAct_uid (s : State) (a : Nat) (v : W32) : (s.setAct a v).uid = s.uid := rfl
@[simp] theorem State.setAct_keyFuses (s : State) (a : Nat) (v : W32) : (s.setAct a v).keyFuses = s.keyFuses := rfl
@[simp] theorem State.setAct_rollFuses (s : State) (a : Nat) (v : W32) : (s.setAct a v).rollFuses = s.rollFuses := rfl
@[simp] theorem State.setAct_ringTime (s : State) (a : Nat) (v : W32) : (s.setAct a v).ringTime = s.ringTime := rfl
@[simp] theorem State.setAct_freeCount (s : State) (a : Nat) (v : W32) : (s.setAct a v).freeCount = s.freeCount := rfl
@[simp] theorem State.setAct_regs (s : State) (a : Nat) (v : W32) : (s.setAct a v).regs = s.regs := rfl
@[simp] theorem State.setAct_loHeld (s : State) (a : Nat) (v : W32) : (s.setAct a v).loHeld = s.loHeld := rfl
@[simp] theorem State.setAct_hiLatch (s : State) (a : Nat) (v : W32) : (s.setAct a v).hiLatch = s.hiLatch := rfl
@[simp] theorem State.setAct_seats (s : State) (a : Nat) (v : W32) : (s.setAct a v).seats = s.seats := rfl
@[simp] theorem State.setAct_cores (s : State) (a : Nat) (v : W32) : (s.setAct a v).cores = s.cores := rfl
@[simp] theorem State.setAct_mem (s : State) (a : Nat) (v : W32) : (s.setAct a v).mem = s.mem := rfl
@[simp] theorem State.setAct_store (s : State) (a : Nat) (v : W32) : (s.setAct a v).store = s.store := rfl
@[simp] theorem State.setAct_storePoison (s : State) (a : Nat) (v : W32) : (s.setAct a v).storePoison = s.storePoison := rfl
@[simp] theorem State.setAct_flash (s : State) (a : Nat) (v : W32) : (s.setAct a v).flash = s.flash := rfl
@[simp] theorem State.setAct_tags (s : State) (a : Nat) (v : W32) : (s.setAct a v).tags = s.tags := rfl
@[simp] theorem State.setAct_pages (s : State) (a : Nat) (v : W32) : (s.setAct a v).pages = s.pages := rfl
@[simp] theorem State.setAct_stackRuns (s : State) (a : Nat) (v : W32) : (s.setAct a v).stackRuns = s.stackRuns := rfl
@[simp] theorem State.setAct_encBase (s : State) (a : Nat) (v : W32) : (s.setAct a v).encBase = s.encBase := rfl
@[simp] theorem State.setAct_fabric (s : State) (a : Nat) (v : W32) : (s.setAct a v).fabric = s.fabric := rfl
@[simp] theorem State.setAct_owner (s : State) (a : Nat) (v : W32) : (s.setAct a v).owner = s.owner := rfl
@[simp] theorem State.setAct_install (s : State) (a : Nat) (v : W32) : (s.setAct a v).install = s.install := rfl
@[simp] theorem State.setAct_burn (s : State) (a : Nat) (v : W32) : (s.setAct a v).burn = s.burn := rfl
@[simp] theorem State.setAct_plantRestart (s : State) (a : Nat) (v : W32) : (s.setAct a v).plantRestart = s.plantRestart := rfl
@[simp] theorem State.setAct_doms (s : State) (a : Nat) (v : W32) : (s.setAct a v).doms = s.doms := rfl
@[simp] theorem State.setAct_throttles (s : State) (a : Nat) (v : W32) : (s.setAct a v).throttles = s.throttles := rfl
@[simp] theorem State.setAct_attached (s : State) (a : Nat) (v : W32) : (s.setAct a v).attached = s.attached := rfl
@[simp] theorem State.setAct_fc (s : State) (a : Nat) (v : W32) : (s.setAct a v).fc = s.fc := rfl
@[simp] theorem State.setAct_moDuty (s : State) (a : Nat) (v : W32) : (s.setAct a v).moDuty = s.moDuty := rfl
@[simp] theorem State.setAct_links (s : State) (a : Nat) (v : W32) : (s.setAct a v).links = s.links := rfl
@[simp] theorem State.setAct_ring (s : State) (a : Nat) (v : W32) : (s.setAct a v).ring = s.ring := rfl
@[simp] theorem State.setAct_pos (s : State) (a : Nat) (v : W32) : (s.setAct a v).pos = s.pos := rfl
@[simp] theorem State.setAct_stg (s : State) (a : Nat) (v : W32) : (s.setAct a v).stg = s.stg := rfl
@[simp] theorem State.setAct_pairHeld (s : State) (a : Nat) (v : W32) : (s.setAct a v).pairHeld = s.pairHeld := rfl
@[simp] theorem State.setAct_refMoved (s : State) (a : Nat) (v : W32) : (s.setAct a v).refMoved = s.refMoved := rfl
@[simp] theorem State.setAct_mcrcBad (s : State) (a : Nat) (v : W32) : (s.setAct a v).mcrcBad = s.mcrcBad := rfl
@[simp] theorem State.setAct_works (s : State) (a : Nat) (v : W32) : (s.setAct a v).works = s.works := rfl
@[simp] theorem State.setAct_engines (s : State) (a : Nat) (v : W32) : (s.setAct a v).engines = s.engines := rfl
@[simp] theorem State.setAct_spare (s : State) (a : Nat) (v : W32) : (s.setAct a v).spare = s.spare := rfl
@[simp] theorem State.setAct_plant (s : State) (a : Nat) (v : W32) : (s.setAct a v).plant = s.plant := rfl
@[simp] theorem State.setAct_sens (s : State) (a : Nat) (v : W32) : (s.setAct a v).sens = s.sens := rfl
@[simp] theorem State.setAct_tmp (s : State) (a : Nat) (v : W32) : (s.setAct a v).tmp = s.tmp := rfl
@[simp] theorem State.setAct_cal (s : State) (a : Nat) (v : W32) : (s.setAct a v).cal = s.cal := rfl
@[simp] theorem State.setAct_tapIr (s : State) (a : Nat) (v : W32) : (s.setAct a v).tapIr = s.tapIr := rfl
@[simp] theorem State.setAct_dbg (s : State) (a : Nat) (v : W32) : (s.setAct a v).dbg = s.dbg := rfl
@[simp] theorem State.setAct_haltReq (s : State) (a : Nat) (v : W32) : (s.setAct a v).haltReq = s.haltReq := rfl
@[simp] theorem State.setAct_power (s : State) (a : Nat) (v : W32) : (s.setAct a v).power = s.power := rfl
@[simp] theorem State.setAct_runen (s : State) (a : Nat) (v : W32) : (s.setAct a v).runen = s.runen := rfl
@[simp] theorem State.setAct_runpg (s : State) (a : Nat) (v : W32) : (s.setAct a v).runpg = s.runpg := rfl
@[simp] theorem State.setAct_resetPending (s : State) (a : Nat) (v : W32) : (s.setAct a v).resetPending = s.resetPending := rfl
@[simp] theorem State.setAct_out (s : State) (a : Nat) (v : W32) : (s.setAct a v).out = s.out := rfl

/-! ### setSeat leaves every other field -/

@[simp] theorem State.setSeat_pending (s : State) (i : Nat) (t : Seat) : (s.setSeat i t).pending = s.pending := rfl
@[simp] theorem State.setSeat_variant (s : State) (i : Nat) (t : Seat) : (s.setSeat i t).variant = s.variant := rfl
@[simp] theorem State.setSeat_uid (s : State) (i : Nat) (t : Seat) : (s.setSeat i t).uid = s.uid := rfl
@[simp] theorem State.setSeat_keyFuses (s : State) (i : Nat) (t : Seat) : (s.setSeat i t).keyFuses = s.keyFuses := rfl
@[simp] theorem State.setSeat_rollFuses (s : State) (i : Nat) (t : Seat) : (s.setSeat i t).rollFuses = s.rollFuses := rfl
@[simp] theorem State.setSeat_ringTime (s : State) (i : Nat) (t : Seat) : (s.setSeat i t).ringTime = s.ringTime := rfl
@[simp] theorem State.setSeat_freeCount (s : State) (i : Nat) (t : Seat) : (s.setSeat i t).freeCount = s.freeCount := rfl
@[simp] theorem State.setSeat_regs (s : State) (i : Nat) (t : Seat) : (s.setSeat i t).regs = s.regs := rfl
@[simp] theorem State.setSeat_inForce (s : State) (i : Nat) (t : Seat) : (s.setSeat i t).inForce = s.inForce := rfl
@[simp] theorem State.setSeat_loHeld (s : State) (i : Nat) (t : Seat) : (s.setSeat i t).loHeld = s.loHeld := rfl
@[simp] theorem State.setSeat_hiLatch (s : State) (i : Nat) (t : Seat) : (s.setSeat i t).hiLatch = s.hiLatch := rfl
@[simp] theorem State.setSeat_cores (s : State) (i : Nat) (t : Seat) : (s.setSeat i t).cores = s.cores := rfl
@[simp] theorem State.setSeat_mem (s : State) (i : Nat) (t : Seat) : (s.setSeat i t).mem = s.mem := rfl
@[simp] theorem State.setSeat_store (s : State) (i : Nat) (t : Seat) : (s.setSeat i t).store = s.store := rfl
@[simp] theorem State.setSeat_storePoison (s : State) (i : Nat) (t : Seat) : (s.setSeat i t).storePoison = s.storePoison := rfl
@[simp] theorem State.setSeat_flash (s : State) (i : Nat) (t : Seat) : (s.setSeat i t).flash = s.flash := rfl
@[simp] theorem State.setSeat_tags (s : State) (i : Nat) (t : Seat) : (s.setSeat i t).tags = s.tags := rfl
@[simp] theorem State.setSeat_pages (s : State) (i : Nat) (t : Seat) : (s.setSeat i t).pages = s.pages := rfl
@[simp] theorem State.setSeat_stackRuns (s : State) (i : Nat) (t : Seat) : (s.setSeat i t).stackRuns = s.stackRuns := rfl
@[simp] theorem State.setSeat_encBase (s : State) (i : Nat) (t : Seat) : (s.setSeat i t).encBase = s.encBase := rfl
@[simp] theorem State.setSeat_fabric (s : State) (i : Nat) (t : Seat) : (s.setSeat i t).fabric = s.fabric := rfl
@[simp] theorem State.setSeat_owner (s : State) (i : Nat) (t : Seat) : (s.setSeat i t).owner = s.owner := rfl
@[simp] theorem State.setSeat_install (s : State) (i : Nat) (t : Seat) : (s.setSeat i t).install = s.install := rfl
@[simp] theorem State.setSeat_burn (s : State) (i : Nat) (t : Seat) : (s.setSeat i t).burn = s.burn := rfl
@[simp] theorem State.setSeat_plantRestart (s : State) (i : Nat) (t : Seat) : (s.setSeat i t).plantRestart = s.plantRestart := rfl
@[simp] theorem State.setSeat_doms (s : State) (i : Nat) (t : Seat) : (s.setSeat i t).doms = s.doms := rfl
@[simp] theorem State.setSeat_throttles (s : State) (i : Nat) (t : Seat) : (s.setSeat i t).throttles = s.throttles := rfl
@[simp] theorem State.setSeat_attached (s : State) (i : Nat) (t : Seat) : (s.setSeat i t).attached = s.attached := rfl
@[simp] theorem State.setSeat_fc (s : State) (i : Nat) (t : Seat) : (s.setSeat i t).fc = s.fc := rfl
@[simp] theorem State.setSeat_moDuty (s : State) (i : Nat) (t : Seat) : (s.setSeat i t).moDuty = s.moDuty := rfl
@[simp] theorem State.setSeat_links (s : State) (i : Nat) (t : Seat) : (s.setSeat i t).links = s.links := rfl
@[simp] theorem State.setSeat_ring (s : State) (i : Nat) (t : Seat) : (s.setSeat i t).ring = s.ring := rfl
@[simp] theorem State.setSeat_pos (s : State) (i : Nat) (t : Seat) : (s.setSeat i t).pos = s.pos := rfl
@[simp] theorem State.setSeat_stg (s : State) (i : Nat) (t : Seat) : (s.setSeat i t).stg = s.stg := rfl
@[simp] theorem State.setSeat_pairHeld (s : State) (i : Nat) (t : Seat) : (s.setSeat i t).pairHeld = s.pairHeld := rfl
@[simp] theorem State.setSeat_refMoved (s : State) (i : Nat) (t : Seat) : (s.setSeat i t).refMoved = s.refMoved := rfl
@[simp] theorem State.setSeat_mcrcBad (s : State) (i : Nat) (t : Seat) : (s.setSeat i t).mcrcBad = s.mcrcBad := rfl
@[simp] theorem State.setSeat_works (s : State) (i : Nat) (t : Seat) : (s.setSeat i t).works = s.works := rfl
@[simp] theorem State.setSeat_engines (s : State) (i : Nat) (t : Seat) : (s.setSeat i t).engines = s.engines := rfl
@[simp] theorem State.setSeat_spare (s : State) (i : Nat) (t : Seat) : (s.setSeat i t).spare = s.spare := rfl
@[simp] theorem State.setSeat_plant (s : State) (i : Nat) (t : Seat) : (s.setSeat i t).plant = s.plant := rfl
@[simp] theorem State.setSeat_sens (s : State) (i : Nat) (t : Seat) : (s.setSeat i t).sens = s.sens := rfl
@[simp] theorem State.setSeat_tmp (s : State) (i : Nat) (t : Seat) : (s.setSeat i t).tmp = s.tmp := rfl
@[simp] theorem State.setSeat_cal (s : State) (i : Nat) (t : Seat) : (s.setSeat i t).cal = s.cal := rfl
@[simp] theorem State.setSeat_tapIr (s : State) (i : Nat) (t : Seat) : (s.setSeat i t).tapIr = s.tapIr := rfl
@[simp] theorem State.setSeat_dbg (s : State) (i : Nat) (t : Seat) : (s.setSeat i t).dbg = s.dbg := rfl
@[simp] theorem State.setSeat_haltReq (s : State) (i : Nat) (t : Seat) : (s.setSeat i t).haltReq = s.haltReq := rfl
@[simp] theorem State.setSeat_power (s : State) (i : Nat) (t : Seat) : (s.setSeat i t).power = s.power := rfl
@[simp] theorem State.setSeat_runen (s : State) (i : Nat) (t : Seat) : (s.setSeat i t).runen = s.runen := rfl
@[simp] theorem State.setSeat_runpg (s : State) (i : Nat) (t : Seat) : (s.setSeat i t).runpg = s.runpg := rfl
@[simp] theorem State.setSeat_resetPending (s : State) (i : Nat) (t : Seat) : (s.setSeat i t).resetPending = s.resetPending := rfl
@[simp] theorem State.setSeat_out (s : State) (i : Nat) (t : Seat) : (s.setSeat i t).out = s.out := rfl

/-! ### setDom leaves every other field -/

@[simp] theorem State.setDom_pending (s : State) (d : Nat) (x : HostDom) : (s.setDom d x).pending = s.pending := rfl
@[simp] theorem State.setDom_variant (s : State) (d : Nat) (x : HostDom) : (s.setDom d x).variant = s.variant := rfl
@[simp] theorem State.setDom_uid (s : State) (d : Nat) (x : HostDom) : (s.setDom d x).uid = s.uid := rfl
@[simp] theorem State.setDom_keyFuses (s : State) (d : Nat) (x : HostDom) : (s.setDom d x).keyFuses = s.keyFuses := rfl
@[simp] theorem State.setDom_rollFuses (s : State) (d : Nat) (x : HostDom) : (s.setDom d x).rollFuses = s.rollFuses := rfl
@[simp] theorem State.setDom_ringTime (s : State) (d : Nat) (x : HostDom) : (s.setDom d x).ringTime = s.ringTime := rfl
@[simp] theorem State.setDom_freeCount (s : State) (d : Nat) (x : HostDom) : (s.setDom d x).freeCount = s.freeCount := rfl
@[simp] theorem State.setDom_regs (s : State) (d : Nat) (x : HostDom) : (s.setDom d x).regs = s.regs := rfl
@[simp] theorem State.setDom_inForce (s : State) (d : Nat) (x : HostDom) : (s.setDom d x).inForce = s.inForce := rfl
@[simp] theorem State.setDom_loHeld (s : State) (d : Nat) (x : HostDom) : (s.setDom d x).loHeld = s.loHeld := rfl
@[simp] theorem State.setDom_hiLatch (s : State) (d : Nat) (x : HostDom) : (s.setDom d x).hiLatch = s.hiLatch := rfl
@[simp] theorem State.setDom_seats (s : State) (d : Nat) (x : HostDom) : (s.setDom d x).seats = s.seats := rfl
@[simp] theorem State.setDom_cores (s : State) (d : Nat) (x : HostDom) : (s.setDom d x).cores = s.cores := rfl
@[simp] theorem State.setDom_mem (s : State) (d : Nat) (x : HostDom) : (s.setDom d x).mem = s.mem := rfl
@[simp] theorem State.setDom_store (s : State) (d : Nat) (x : HostDom) : (s.setDom d x).store = s.store := rfl
@[simp] theorem State.setDom_storePoison (s : State) (d : Nat) (x : HostDom) : (s.setDom d x).storePoison = s.storePoison := rfl
@[simp] theorem State.setDom_flash (s : State) (d : Nat) (x : HostDom) : (s.setDom d x).flash = s.flash := rfl
@[simp] theorem State.setDom_tags (s : State) (d : Nat) (x : HostDom) : (s.setDom d x).tags = s.tags := rfl
@[simp] theorem State.setDom_pages (s : State) (d : Nat) (x : HostDom) : (s.setDom d x).pages = s.pages := rfl
@[simp] theorem State.setDom_stackRuns (s : State) (d : Nat) (x : HostDom) : (s.setDom d x).stackRuns = s.stackRuns := rfl
@[simp] theorem State.setDom_encBase (s : State) (d : Nat) (x : HostDom) : (s.setDom d x).encBase = s.encBase := rfl
@[simp] theorem State.setDom_fabric (s : State) (d : Nat) (x : HostDom) : (s.setDom d x).fabric = s.fabric := rfl
@[simp] theorem State.setDom_owner (s : State) (d : Nat) (x : HostDom) : (s.setDom d x).owner = s.owner := rfl
@[simp] theorem State.setDom_install (s : State) (d : Nat) (x : HostDom) : (s.setDom d x).install = s.install := rfl
@[simp] theorem State.setDom_burn (s : State) (d : Nat) (x : HostDom) : (s.setDom d x).burn = s.burn := rfl
@[simp] theorem State.setDom_plantRestart (s : State) (d : Nat) (x : HostDom) : (s.setDom d x).plantRestart = s.plantRestart := rfl
@[simp] theorem State.setDom_throttles (s : State) (d : Nat) (x : HostDom) : (s.setDom d x).throttles = s.throttles := rfl
@[simp] theorem State.setDom_attached (s : State) (d : Nat) (x : HostDom) : (s.setDom d x).attached = s.attached := rfl
@[simp] theorem State.setDom_fc (s : State) (d : Nat) (x : HostDom) : (s.setDom d x).fc = s.fc := rfl
@[simp] theorem State.setDom_moDuty (s : State) (d : Nat) (x : HostDom) : (s.setDom d x).moDuty = s.moDuty := rfl
@[simp] theorem State.setDom_links (s : State) (d : Nat) (x : HostDom) : (s.setDom d x).links = s.links := rfl
@[simp] theorem State.setDom_ring (s : State) (d : Nat) (x : HostDom) : (s.setDom d x).ring = s.ring := rfl
@[simp] theorem State.setDom_pos (s : State) (d : Nat) (x : HostDom) : (s.setDom d x).pos = s.pos := rfl
@[simp] theorem State.setDom_stg (s : State) (d : Nat) (x : HostDom) : (s.setDom d x).stg = s.stg := rfl
@[simp] theorem State.setDom_pairHeld (s : State) (d : Nat) (x : HostDom) : (s.setDom d x).pairHeld = s.pairHeld := rfl
@[simp] theorem State.setDom_refMoved (s : State) (d : Nat) (x : HostDom) : (s.setDom d x).refMoved = s.refMoved := rfl
@[simp] theorem State.setDom_mcrcBad (s : State) (d : Nat) (x : HostDom) : (s.setDom d x).mcrcBad = s.mcrcBad := rfl
@[simp] theorem State.setDom_works (s : State) (d : Nat) (x : HostDom) : (s.setDom d x).works = s.works := rfl
@[simp] theorem State.setDom_engines (s : State) (d : Nat) (x : HostDom) : (s.setDom d x).engines = s.engines := rfl
@[simp] theorem State.setDom_spare (s : State) (d : Nat) (x : HostDom) : (s.setDom d x).spare = s.spare := rfl
@[simp] theorem State.setDom_plant (s : State) (d : Nat) (x : HostDom) : (s.setDom d x).plant = s.plant := rfl
@[simp] theorem State.setDom_sens (s : State) (d : Nat) (x : HostDom) : (s.setDom d x).sens = s.sens := rfl
@[simp] theorem State.setDom_tmp (s : State) (d : Nat) (x : HostDom) : (s.setDom d x).tmp = s.tmp := rfl
@[simp] theorem State.setDom_cal (s : State) (d : Nat) (x : HostDom) : (s.setDom d x).cal = s.cal := rfl
@[simp] theorem State.setDom_tapIr (s : State) (d : Nat) (x : HostDom) : (s.setDom d x).tapIr = s.tapIr := rfl
@[simp] theorem State.setDom_dbg (s : State) (d : Nat) (x : HostDom) : (s.setDom d x).dbg = s.dbg := rfl
@[simp] theorem State.setDom_haltReq (s : State) (d : Nat) (x : HostDom) : (s.setDom d x).haltReq = s.haltReq := rfl
@[simp] theorem State.setDom_power (s : State) (d : Nat) (x : HostDom) : (s.setDom d x).power = s.power := rfl
@[simp] theorem State.setDom_runen (s : State) (d : Nat) (x : HostDom) : (s.setDom d x).runen = s.runen := rfl
@[simp] theorem State.setDom_runpg (s : State) (d : Nat) (x : HostDom) : (s.setDom d x).runpg = s.runpg := rfl
@[simp] theorem State.setDom_resetPending (s : State) (d : Nat) (x : HostDom) : (s.setDom d x).resetPending = s.resetPending := rfl
@[simp] theorem State.setDom_out (s : State) (d : Nat) (x : HostDom) : (s.setDom d x).out = s.out := rfl

/-! ### setLink leaves every other field -/

@[simp] theorem State.setLink_pending (s : State) (k : Nat) (l : Link) : (s.setLink k l).pending = s.pending := rfl
@[simp] theorem State.setLink_variant (s : State) (k : Nat) (l : Link) : (s.setLink k l).variant = s.variant := rfl
@[simp] theorem State.setLink_uid (s : State) (k : Nat) (l : Link) : (s.setLink k l).uid = s.uid := rfl
@[simp] theorem State.setLink_keyFuses (s : State) (k : Nat) (l : Link) : (s.setLink k l).keyFuses = s.keyFuses := rfl
@[simp] theorem State.setLink_rollFuses (s : State) (k : Nat) (l : Link) : (s.setLink k l).rollFuses = s.rollFuses := rfl
@[simp] theorem State.setLink_ringTime (s : State) (k : Nat) (l : Link) : (s.setLink k l).ringTime = s.ringTime := rfl
@[simp] theorem State.setLink_freeCount (s : State) (k : Nat) (l : Link) : (s.setLink k l).freeCount = s.freeCount := rfl
@[simp] theorem State.setLink_regs (s : State) (k : Nat) (l : Link) : (s.setLink k l).regs = s.regs := rfl
@[simp] theorem State.setLink_inForce (s : State) (k : Nat) (l : Link) : (s.setLink k l).inForce = s.inForce := rfl
@[simp] theorem State.setLink_loHeld (s : State) (k : Nat) (l : Link) : (s.setLink k l).loHeld = s.loHeld := rfl
@[simp] theorem State.setLink_hiLatch (s : State) (k : Nat) (l : Link) : (s.setLink k l).hiLatch = s.hiLatch := rfl
@[simp] theorem State.setLink_seats (s : State) (k : Nat) (l : Link) : (s.setLink k l).seats = s.seats := rfl
@[simp] theorem State.setLink_cores (s : State) (k : Nat) (l : Link) : (s.setLink k l).cores = s.cores := rfl
@[simp] theorem State.setLink_mem (s : State) (k : Nat) (l : Link) : (s.setLink k l).mem = s.mem := rfl
@[simp] theorem State.setLink_store (s : State) (k : Nat) (l : Link) : (s.setLink k l).store = s.store := rfl
@[simp] theorem State.setLink_storePoison (s : State) (k : Nat) (l : Link) : (s.setLink k l).storePoison = s.storePoison := rfl
@[simp] theorem State.setLink_flash (s : State) (k : Nat) (l : Link) : (s.setLink k l).flash = s.flash := rfl
@[simp] theorem State.setLink_tags (s : State) (k : Nat) (l : Link) : (s.setLink k l).tags = s.tags := rfl
@[simp] theorem State.setLink_pages (s : State) (k : Nat) (l : Link) : (s.setLink k l).pages = s.pages := rfl
@[simp] theorem State.setLink_stackRuns (s : State) (k : Nat) (l : Link) : (s.setLink k l).stackRuns = s.stackRuns := rfl
@[simp] theorem State.setLink_encBase (s : State) (k : Nat) (l : Link) : (s.setLink k l).encBase = s.encBase := rfl
@[simp] theorem State.setLink_fabric (s : State) (k : Nat) (l : Link) : (s.setLink k l).fabric = s.fabric := rfl
@[simp] theorem State.setLink_owner (s : State) (k : Nat) (l : Link) : (s.setLink k l).owner = s.owner := rfl
@[simp] theorem State.setLink_install (s : State) (k : Nat) (l : Link) : (s.setLink k l).install = s.install := rfl
@[simp] theorem State.setLink_burn (s : State) (k : Nat) (l : Link) : (s.setLink k l).burn = s.burn := rfl
@[simp] theorem State.setLink_plantRestart (s : State) (k : Nat) (l : Link) : (s.setLink k l).plantRestart = s.plantRestart := rfl
@[simp] theorem State.setLink_doms (s : State) (k : Nat) (l : Link) : (s.setLink k l).doms = s.doms := rfl
@[simp] theorem State.setLink_throttles (s : State) (k : Nat) (l : Link) : (s.setLink k l).throttles = s.throttles := rfl
@[simp] theorem State.setLink_attached (s : State) (k : Nat) (l : Link) : (s.setLink k l).attached = s.attached := rfl
@[simp] theorem State.setLink_fc (s : State) (k : Nat) (l : Link) : (s.setLink k l).fc = s.fc := rfl
@[simp] theorem State.setLink_moDuty (s : State) (k : Nat) (l : Link) : (s.setLink k l).moDuty = s.moDuty := rfl
@[simp] theorem State.setLink_ring (s : State) (k : Nat) (l : Link) : (s.setLink k l).ring = s.ring := rfl
@[simp] theorem State.setLink_pos (s : State) (k : Nat) (l : Link) : (s.setLink k l).pos = s.pos := rfl
@[simp] theorem State.setLink_stg (s : State) (k : Nat) (l : Link) : (s.setLink k l).stg = s.stg := rfl
@[simp] theorem State.setLink_pairHeld (s : State) (k : Nat) (l : Link) : (s.setLink k l).pairHeld = s.pairHeld := rfl
@[simp] theorem State.setLink_refMoved (s : State) (k : Nat) (l : Link) : (s.setLink k l).refMoved = s.refMoved := rfl
@[simp] theorem State.setLink_mcrcBad (s : State) (k : Nat) (l : Link) : (s.setLink k l).mcrcBad = s.mcrcBad := rfl
@[simp] theorem State.setLink_works (s : State) (k : Nat) (l : Link) : (s.setLink k l).works = s.works := rfl
@[simp] theorem State.setLink_engines (s : State) (k : Nat) (l : Link) : (s.setLink k l).engines = s.engines := rfl
@[simp] theorem State.setLink_spare (s : State) (k : Nat) (l : Link) : (s.setLink k l).spare = s.spare := rfl
@[simp] theorem State.setLink_plant (s : State) (k : Nat) (l : Link) : (s.setLink k l).plant = s.plant := rfl
@[simp] theorem State.setLink_sens (s : State) (k : Nat) (l : Link) : (s.setLink k l).sens = s.sens := rfl
@[simp] theorem State.setLink_tmp (s : State) (k : Nat) (l : Link) : (s.setLink k l).tmp = s.tmp := rfl
@[simp] theorem State.setLink_cal (s : State) (k : Nat) (l : Link) : (s.setLink k l).cal = s.cal := rfl
@[simp] theorem State.setLink_tapIr (s : State) (k : Nat) (l : Link) : (s.setLink k l).tapIr = s.tapIr := rfl
@[simp] theorem State.setLink_dbg (s : State) (k : Nat) (l : Link) : (s.setLink k l).dbg = s.dbg := rfl
@[simp] theorem State.setLink_haltReq (s : State) (k : Nat) (l : Link) : (s.setLink k l).haltReq = s.haltReq := rfl
@[simp] theorem State.setLink_power (s : State) (k : Nat) (l : Link) : (s.setLink k l).power = s.power := rfl
@[simp] theorem State.setLink_runen (s : State) (k : Nat) (l : Link) : (s.setLink k l).runen = s.runen := rfl
@[simp] theorem State.setLink_runpg (s : State) (k : Nat) (l : Link) : (s.setLink k l).runpg = s.runpg := rfl
@[simp] theorem State.setLink_resetPending (s : State) (k : Nat) (l : Link) : (s.setLink k l).resetPending = s.resetPending := rfl
@[simp] theorem State.setLink_out (s : State) (k : Nat) (l : Link) : (s.setLink k l).out = s.out := rfl

/-! ### setWeb leaves every other field -/

@[simp] theorem State.setWeb_pending (s : State) (n : Nat) (w : Web) : (s.setWeb n w).pending = s.pending := rfl
@[simp] theorem State.setWeb_variant (s : State) (n : Nat) (w : Web) : (s.setWeb n w).variant = s.variant := rfl
@[simp] theorem State.setWeb_uid (s : State) (n : Nat) (w : Web) : (s.setWeb n w).uid = s.uid := rfl
@[simp] theorem State.setWeb_keyFuses (s : State) (n : Nat) (w : Web) : (s.setWeb n w).keyFuses = s.keyFuses := rfl
@[simp] theorem State.setWeb_rollFuses (s : State) (n : Nat) (w : Web) : (s.setWeb n w).rollFuses = s.rollFuses := rfl
@[simp] theorem State.setWeb_ringTime (s : State) (n : Nat) (w : Web) : (s.setWeb n w).ringTime = s.ringTime := rfl
@[simp] theorem State.setWeb_freeCount (s : State) (n : Nat) (w : Web) : (s.setWeb n w).freeCount = s.freeCount := rfl
@[simp] theorem State.setWeb_regs (s : State) (n : Nat) (w : Web) : (s.setWeb n w).regs = s.regs := rfl
@[simp] theorem State.setWeb_inForce (s : State) (n : Nat) (w : Web) : (s.setWeb n w).inForce = s.inForce := rfl
@[simp] theorem State.setWeb_loHeld (s : State) (n : Nat) (w : Web) : (s.setWeb n w).loHeld = s.loHeld := rfl
@[simp] theorem State.setWeb_hiLatch (s : State) (n : Nat) (w : Web) : (s.setWeb n w).hiLatch = s.hiLatch := rfl
@[simp] theorem State.setWeb_seats (s : State) (n : Nat) (w : Web) : (s.setWeb n w).seats = s.seats := rfl
@[simp] theorem State.setWeb_cores (s : State) (n : Nat) (w : Web) : (s.setWeb n w).cores = s.cores := rfl
@[simp] theorem State.setWeb_mem (s : State) (n : Nat) (w : Web) : (s.setWeb n w).mem = s.mem := rfl
@[simp] theorem State.setWeb_store (s : State) (n : Nat) (w : Web) : (s.setWeb n w).store = s.store := rfl
@[simp] theorem State.setWeb_storePoison (s : State) (n : Nat) (w : Web) : (s.setWeb n w).storePoison = s.storePoison := rfl
@[simp] theorem State.setWeb_flash (s : State) (n : Nat) (w : Web) : (s.setWeb n w).flash = s.flash := rfl
@[simp] theorem State.setWeb_tags (s : State) (n : Nat) (w : Web) : (s.setWeb n w).tags = s.tags := rfl
@[simp] theorem State.setWeb_pages (s : State) (n : Nat) (w : Web) : (s.setWeb n w).pages = s.pages := rfl
@[simp] theorem State.setWeb_stackRuns (s : State) (n : Nat) (w : Web) : (s.setWeb n w).stackRuns = s.stackRuns := rfl
@[simp] theorem State.setWeb_encBase (s : State) (n : Nat) (w : Web) : (s.setWeb n w).encBase = s.encBase := rfl
@[simp] theorem State.setWeb_fabric (s : State) (n : Nat) (w : Web) : (s.setWeb n w).fabric = s.fabric := rfl
@[simp] theorem State.setWeb_owner (s : State) (n : Nat) (w : Web) : (s.setWeb n w).owner = s.owner := rfl
@[simp] theorem State.setWeb_install (s : State) (n : Nat) (w : Web) : (s.setWeb n w).install = s.install := rfl
@[simp] theorem State.setWeb_burn (s : State) (n : Nat) (w : Web) : (s.setWeb n w).burn = s.burn := rfl
@[simp] theorem State.setWeb_plantRestart (s : State) (n : Nat) (w : Web) : (s.setWeb n w).plantRestart = s.plantRestart := rfl
@[simp] theorem State.setWeb_doms (s : State) (n : Nat) (w : Web) : (s.setWeb n w).doms = s.doms := rfl
@[simp] theorem State.setWeb_throttles (s : State) (n : Nat) (w : Web) : (s.setWeb n w).throttles = s.throttles := rfl
@[simp] theorem State.setWeb_attached (s : State) (n : Nat) (w : Web) : (s.setWeb n w).attached = s.attached := rfl
@[simp] theorem State.setWeb_fc (s : State) (n : Nat) (w : Web) : (s.setWeb n w).fc = s.fc := rfl
@[simp] theorem State.setWeb_moDuty (s : State) (n : Nat) (w : Web) : (s.setWeb n w).moDuty = s.moDuty := rfl
@[simp] theorem State.setWeb_links (s : State) (n : Nat) (w : Web) : (s.setWeb n w).links = s.links := rfl
@[simp] theorem State.setWeb_ring (s : State) (n : Nat) (w : Web) : (s.setWeb n w).ring = s.ring := rfl
@[simp] theorem State.setWeb_stg (s : State) (n : Nat) (w : Web) : (s.setWeb n w).stg = s.stg := rfl
@[simp] theorem State.setWeb_pairHeld (s : State) (n : Nat) (w : Web) : (s.setWeb n w).pairHeld = s.pairHeld := rfl
@[simp] theorem State.setWeb_refMoved (s : State) (n : Nat) (w : Web) : (s.setWeb n w).refMoved = s.refMoved := rfl
@[simp] theorem State.setWeb_mcrcBad (s : State) (n : Nat) (w : Web) : (s.setWeb n w).mcrcBad = s.mcrcBad := rfl
@[simp] theorem State.setWeb_works (s : State) (n : Nat) (w : Web) : (s.setWeb n w).works = s.works := rfl
@[simp] theorem State.setWeb_engines (s : State) (n : Nat) (w : Web) : (s.setWeb n w).engines = s.engines := rfl
@[simp] theorem State.setWeb_spare (s : State) (n : Nat) (w : Web) : (s.setWeb n w).spare = s.spare := rfl
@[simp] theorem State.setWeb_plant (s : State) (n : Nat) (w : Web) : (s.setWeb n w).plant = s.plant := rfl
@[simp] theorem State.setWeb_sens (s : State) (n : Nat) (w : Web) : (s.setWeb n w).sens = s.sens := rfl
@[simp] theorem State.setWeb_tmp (s : State) (n : Nat) (w : Web) : (s.setWeb n w).tmp = s.tmp := rfl
@[simp] theorem State.setWeb_cal (s : State) (n : Nat) (w : Web) : (s.setWeb n w).cal = s.cal := rfl
@[simp] theorem State.setWeb_tapIr (s : State) (n : Nat) (w : Web) : (s.setWeb n w).tapIr = s.tapIr := rfl
@[simp] theorem State.setWeb_dbg (s : State) (n : Nat) (w : Web) : (s.setWeb n w).dbg = s.dbg := rfl
@[simp] theorem State.setWeb_haltReq (s : State) (n : Nat) (w : Web) : (s.setWeb n w).haltReq = s.haltReq := rfl
@[simp] theorem State.setWeb_power (s : State) (n : Nat) (w : Web) : (s.setWeb n w).power = s.power := rfl
@[simp] theorem State.setWeb_runen (s : State) (n : Nat) (w : Web) : (s.setWeb n w).runen = s.runen := rfl
@[simp] theorem State.setWeb_runpg (s : State) (n : Nat) (w : Web) : (s.setWeb n w).runpg = s.runpg := rfl
@[simp] theorem State.setWeb_resetPending (s : State) (n : Nat) (w : Web) : (s.setWeb n w).resetPending = s.resetPending := rfl
@[simp] theorem State.setWeb_out (s : State) (n : Nat) (w : Web) : (s.setWeb n w).out = s.out := rfl

/-! ### setSource leaves every other field -/

@[simp] theorem State.setSource_pending (s : State) (n : Nat) (x : FcSource) : (s.setSource n x).pending = s.pending := rfl
@[simp] theorem State.setSource_variant (s : State) (n : Nat) (x : FcSource) : (s.setSource n x).variant = s.variant := rfl
@[simp] theorem State.setSource_uid (s : State) (n : Nat) (x : FcSource) : (s.setSource n x).uid = s.uid := rfl
@[simp] theorem State.setSource_keyFuses (s : State) (n : Nat) (x : FcSource) : (s.setSource n x).keyFuses = s.keyFuses := rfl
@[simp] theorem State.setSource_rollFuses (s : State) (n : Nat) (x : FcSource) : (s.setSource n x).rollFuses = s.rollFuses := rfl
@[simp] theorem State.setSource_ringTime (s : State) (n : Nat) (x : FcSource) : (s.setSource n x).ringTime = s.ringTime := rfl
@[simp] theorem State.setSource_freeCount (s : State) (n : Nat) (x : FcSource) : (s.setSource n x).freeCount = s.freeCount := rfl
@[simp] theorem State.setSource_regs (s : State) (n : Nat) (x : FcSource) : (s.setSource n x).regs = s.regs := rfl
@[simp] theorem State.setSource_inForce (s : State) (n : Nat) (x : FcSource) : (s.setSource n x).inForce = s.inForce := rfl
@[simp] theorem State.setSource_loHeld (s : State) (n : Nat) (x : FcSource) : (s.setSource n x).loHeld = s.loHeld := rfl
@[simp] theorem State.setSource_hiLatch (s : State) (n : Nat) (x : FcSource) : (s.setSource n x).hiLatch = s.hiLatch := rfl
@[simp] theorem State.setSource_seats (s : State) (n : Nat) (x : FcSource) : (s.setSource n x).seats = s.seats := rfl
@[simp] theorem State.setSource_cores (s : State) (n : Nat) (x : FcSource) : (s.setSource n x).cores = s.cores := rfl
@[simp] theorem State.setSource_mem (s : State) (n : Nat) (x : FcSource) : (s.setSource n x).mem = s.mem := rfl
@[simp] theorem State.setSource_store (s : State) (n : Nat) (x : FcSource) : (s.setSource n x).store = s.store := rfl
@[simp] theorem State.setSource_storePoison (s : State) (n : Nat) (x : FcSource) : (s.setSource n x).storePoison = s.storePoison := rfl
@[simp] theorem State.setSource_flash (s : State) (n : Nat) (x : FcSource) : (s.setSource n x).flash = s.flash := rfl
@[simp] theorem State.setSource_tags (s : State) (n : Nat) (x : FcSource) : (s.setSource n x).tags = s.tags := rfl
@[simp] theorem State.setSource_pages (s : State) (n : Nat) (x : FcSource) : (s.setSource n x).pages = s.pages := rfl
@[simp] theorem State.setSource_stackRuns (s : State) (n : Nat) (x : FcSource) : (s.setSource n x).stackRuns = s.stackRuns := rfl
@[simp] theorem State.setSource_encBase (s : State) (n : Nat) (x : FcSource) : (s.setSource n x).encBase = s.encBase := rfl
@[simp] theorem State.setSource_fabric (s : State) (n : Nat) (x : FcSource) : (s.setSource n x).fabric = s.fabric := rfl
@[simp] theorem State.setSource_owner (s : State) (n : Nat) (x : FcSource) : (s.setSource n x).owner = s.owner := rfl
@[simp] theorem State.setSource_install (s : State) (n : Nat) (x : FcSource) : (s.setSource n x).install = s.install := rfl
@[simp] theorem State.setSource_burn (s : State) (n : Nat) (x : FcSource) : (s.setSource n x).burn = s.burn := rfl
@[simp] theorem State.setSource_plantRestart (s : State) (n : Nat) (x : FcSource) : (s.setSource n x).plantRestart = s.plantRestart := rfl
@[simp] theorem State.setSource_doms (s : State) (n : Nat) (x : FcSource) : (s.setSource n x).doms = s.doms := rfl
@[simp] theorem State.setSource_throttles (s : State) (n : Nat) (x : FcSource) : (s.setSource n x).throttles = s.throttles := rfl
@[simp] theorem State.setSource_attached (s : State) (n : Nat) (x : FcSource) : (s.setSource n x).attached = s.attached := rfl
@[simp] theorem State.setSource_moDuty (s : State) (n : Nat) (x : FcSource) : (s.setSource n x).moDuty = s.moDuty := rfl
@[simp] theorem State.setSource_links (s : State) (n : Nat) (x : FcSource) : (s.setSource n x).links = s.links := rfl
@[simp] theorem State.setSource_ring (s : State) (n : Nat) (x : FcSource) : (s.setSource n x).ring = s.ring := rfl
@[simp] theorem State.setSource_pos (s : State) (n : Nat) (x : FcSource) : (s.setSource n x).pos = s.pos := rfl
@[simp] theorem State.setSource_stg (s : State) (n : Nat) (x : FcSource) : (s.setSource n x).stg = s.stg := rfl
@[simp] theorem State.setSource_pairHeld (s : State) (n : Nat) (x : FcSource) : (s.setSource n x).pairHeld = s.pairHeld := rfl
@[simp] theorem State.setSource_refMoved (s : State) (n : Nat) (x : FcSource) : (s.setSource n x).refMoved = s.refMoved := rfl
@[simp] theorem State.setSource_mcrcBad (s : State) (n : Nat) (x : FcSource) : (s.setSource n x).mcrcBad = s.mcrcBad := rfl
@[simp] theorem State.setSource_works (s : State) (n : Nat) (x : FcSource) : (s.setSource n x).works = s.works := rfl
@[simp] theorem State.setSource_engines (s : State) (n : Nat) (x : FcSource) : (s.setSource n x).engines = s.engines := rfl
@[simp] theorem State.setSource_spare (s : State) (n : Nat) (x : FcSource) : (s.setSource n x).spare = s.spare := rfl
@[simp] theorem State.setSource_plant (s : State) (n : Nat) (x : FcSource) : (s.setSource n x).plant = s.plant := rfl
@[simp] theorem State.setSource_sens (s : State) (n : Nat) (x : FcSource) : (s.setSource n x).sens = s.sens := rfl
@[simp] theorem State.setSource_tmp (s : State) (n : Nat) (x : FcSource) : (s.setSource n x).tmp = s.tmp := rfl
@[simp] theorem State.setSource_cal (s : State) (n : Nat) (x : FcSource) : (s.setSource n x).cal = s.cal := rfl
@[simp] theorem State.setSource_tapIr (s : State) (n : Nat) (x : FcSource) : (s.setSource n x).tapIr = s.tapIr := rfl
@[simp] theorem State.setSource_dbg (s : State) (n : Nat) (x : FcSource) : (s.setSource n x).dbg = s.dbg := rfl
@[simp] theorem State.setSource_haltReq (s : State) (n : Nat) (x : FcSource) : (s.setSource n x).haltReq = s.haltReq := rfl
@[simp] theorem State.setSource_power (s : State) (n : Nat) (x : FcSource) : (s.setSource n x).power = s.power := rfl
@[simp] theorem State.setSource_runen (s : State) (n : Nat) (x : FcSource) : (s.setSource n x).runen = s.runen := rfl
@[simp] theorem State.setSource_runpg (s : State) (n : Nat) (x : FcSource) : (s.setSource n x).runpg = s.runpg := rfl
@[simp] theorem State.setSource_resetPending (s : State) (n : Nat) (x : FcSource) : (s.setSource n x).resetPending = s.resetPending := rfl
@[simp] theorem State.setSource_out (s : State) (n : Nat) (x : FcSource) : (s.setSource n x).out = s.out := rfl

/-! ### setStgDom leaves every other field -/

@[simp] theorem State.setStgDom_pending (s : State) (d : Nat) (g : StgDom) : (s.setStgDom d g).pending = s.pending := rfl
@[simp] theorem State.setStgDom_variant (s : State) (d : Nat) (g : StgDom) : (s.setStgDom d g).variant = s.variant := rfl
@[simp] theorem State.setStgDom_uid (s : State) (d : Nat) (g : StgDom) : (s.setStgDom d g).uid = s.uid := rfl
@[simp] theorem State.setStgDom_keyFuses (s : State) (d : Nat) (g : StgDom) : (s.setStgDom d g).keyFuses = s.keyFuses := rfl
@[simp] theorem State.setStgDom_rollFuses (s : State) (d : Nat) (g : StgDom) : (s.setStgDom d g).rollFuses = s.rollFuses := rfl
@[simp] theorem State.setStgDom_ringTime (s : State) (d : Nat) (g : StgDom) : (s.setStgDom d g).ringTime = s.ringTime := rfl
@[simp] theorem State.setStgDom_freeCount (s : State) (d : Nat) (g : StgDom) : (s.setStgDom d g).freeCount = s.freeCount := rfl
@[simp] theorem State.setStgDom_regs (s : State) (d : Nat) (g : StgDom) : (s.setStgDom d g).regs = s.regs := rfl
@[simp] theorem State.setStgDom_inForce (s : State) (d : Nat) (g : StgDom) : (s.setStgDom d g).inForce = s.inForce := rfl
@[simp] theorem State.setStgDom_loHeld (s : State) (d : Nat) (g : StgDom) : (s.setStgDom d g).loHeld = s.loHeld := rfl
@[simp] theorem State.setStgDom_hiLatch (s : State) (d : Nat) (g : StgDom) : (s.setStgDom d g).hiLatch = s.hiLatch := rfl
@[simp] theorem State.setStgDom_seats (s : State) (d : Nat) (g : StgDom) : (s.setStgDom d g).seats = s.seats := rfl
@[simp] theorem State.setStgDom_cores (s : State) (d : Nat) (g : StgDom) : (s.setStgDom d g).cores = s.cores := rfl
@[simp] theorem State.setStgDom_mem (s : State) (d : Nat) (g : StgDom) : (s.setStgDom d g).mem = s.mem := rfl
@[simp] theorem State.setStgDom_store (s : State) (d : Nat) (g : StgDom) : (s.setStgDom d g).store = s.store := rfl
@[simp] theorem State.setStgDom_storePoison (s : State) (d : Nat) (g : StgDom) : (s.setStgDom d g).storePoison = s.storePoison := rfl
@[simp] theorem State.setStgDom_flash (s : State) (d : Nat) (g : StgDom) : (s.setStgDom d g).flash = s.flash := rfl
@[simp] theorem State.setStgDom_tags (s : State) (d : Nat) (g : StgDom) : (s.setStgDom d g).tags = s.tags := rfl
@[simp] theorem State.setStgDom_pages (s : State) (d : Nat) (g : StgDom) : (s.setStgDom d g).pages = s.pages := rfl
@[simp] theorem State.setStgDom_stackRuns (s : State) (d : Nat) (g : StgDom) : (s.setStgDom d g).stackRuns = s.stackRuns := rfl
@[simp] theorem State.setStgDom_encBase (s : State) (d : Nat) (g : StgDom) : (s.setStgDom d g).encBase = s.encBase := rfl
@[simp] theorem State.setStgDom_fabric (s : State) (d : Nat) (g : StgDom) : (s.setStgDom d g).fabric = s.fabric := rfl
@[simp] theorem State.setStgDom_owner (s : State) (d : Nat) (g : StgDom) : (s.setStgDom d g).owner = s.owner := rfl
@[simp] theorem State.setStgDom_install (s : State) (d : Nat) (g : StgDom) : (s.setStgDom d g).install = s.install := rfl
@[simp] theorem State.setStgDom_burn (s : State) (d : Nat) (g : StgDom) : (s.setStgDom d g).burn = s.burn := rfl
@[simp] theorem State.setStgDom_plantRestart (s : State) (d : Nat) (g : StgDom) : (s.setStgDom d g).plantRestart = s.plantRestart := rfl
@[simp] theorem State.setStgDom_doms (s : State) (d : Nat) (g : StgDom) : (s.setStgDom d g).doms = s.doms := rfl
@[simp] theorem State.setStgDom_throttles (s : State) (d : Nat) (g : StgDom) : (s.setStgDom d g).throttles = s.throttles := rfl
@[simp] theorem State.setStgDom_attached (s : State) (d : Nat) (g : StgDom) : (s.setStgDom d g).attached = s.attached := rfl
@[simp] theorem State.setStgDom_fc (s : State) (d : Nat) (g : StgDom) : (s.setStgDom d g).fc = s.fc := rfl
@[simp] theorem State.setStgDom_moDuty (s : State) (d : Nat) (g : StgDom) : (s.setStgDom d g).moDuty = s.moDuty := rfl
@[simp] theorem State.setStgDom_links (s : State) (d : Nat) (g : StgDom) : (s.setStgDom d g).links = s.links := rfl
@[simp] theorem State.setStgDom_ring (s : State) (d : Nat) (g : StgDom) : (s.setStgDom d g).ring = s.ring := rfl
@[simp] theorem State.setStgDom_pos (s : State) (d : Nat) (g : StgDom) : (s.setStgDom d g).pos = s.pos := rfl
@[simp] theorem State.setStgDom_pairHeld (s : State) (d : Nat) (g : StgDom) : (s.setStgDom d g).pairHeld = s.pairHeld := rfl
@[simp] theorem State.setStgDom_refMoved (s : State) (d : Nat) (g : StgDom) : (s.setStgDom d g).refMoved = s.refMoved := rfl
@[simp] theorem State.setStgDom_mcrcBad (s : State) (d : Nat) (g : StgDom) : (s.setStgDom d g).mcrcBad = s.mcrcBad := rfl
@[simp] theorem State.setStgDom_works (s : State) (d : Nat) (g : StgDom) : (s.setStgDom d g).works = s.works := rfl
@[simp] theorem State.setStgDom_engines (s : State) (d : Nat) (g : StgDom) : (s.setStgDom d g).engines = s.engines := rfl
@[simp] theorem State.setStgDom_spare (s : State) (d : Nat) (g : StgDom) : (s.setStgDom d g).spare = s.spare := rfl
@[simp] theorem State.setStgDom_plant (s : State) (d : Nat) (g : StgDom) : (s.setStgDom d g).plant = s.plant := rfl
@[simp] theorem State.setStgDom_sens (s : State) (d : Nat) (g : StgDom) : (s.setStgDom d g).sens = s.sens := rfl
@[simp] theorem State.setStgDom_tmp (s : State) (d : Nat) (g : StgDom) : (s.setStgDom d g).tmp = s.tmp := rfl
@[simp] theorem State.setStgDom_cal (s : State) (d : Nat) (g : StgDom) : (s.setStgDom d g).cal = s.cal := rfl
@[simp] theorem State.setStgDom_tapIr (s : State) (d : Nat) (g : StgDom) : (s.setStgDom d g).tapIr = s.tapIr := rfl
@[simp] theorem State.setStgDom_dbg (s : State) (d : Nat) (g : StgDom) : (s.setStgDom d g).dbg = s.dbg := rfl
@[simp] theorem State.setStgDom_haltReq (s : State) (d : Nat) (g : StgDom) : (s.setStgDom d g).haltReq = s.haltReq := rfl
@[simp] theorem State.setStgDom_power (s : State) (d : Nat) (g : StgDom) : (s.setStgDom d g).power = s.power := rfl
@[simp] theorem State.setStgDom_runen (s : State) (d : Nat) (g : StgDom) : (s.setStgDom d g).runen = s.runen := rfl
@[simp] theorem State.setStgDom_runpg (s : State) (d : Nat) (g : StgDom) : (s.setStgDom d g).runpg = s.runpg := rfl
@[simp] theorem State.setStgDom_resetPending (s : State) (d : Nat) (g : StgDom) : (s.setStgDom d g).resetPending = s.resetPending := rfl
@[simp] theorem State.setStgDom_out (s : State) (d : Nat) (g : StgDom) : (s.setStgDom d g).out = s.out := rfl

/-! ### Registers -/

@[simp] theorem State.reg_setReg_same (s : State) (a : Nat) (v : W32) : (s.setReg a v).reg a = v := sget_sset_same _ _ _ _
theorem State.reg_setReg_ne (s : State) {a b : Nat} (h : b ≠ a) (v : W32) : (s.setReg a v).reg b = s.reg b :=
  sget_sset_ne _ _ _ h v
@[simp] theorem State.act_setReg (s : State) (a b : Nat) (v : W32) : (s.setReg a v).act b = s.act b := rfl
@[simp] theorem State.seat_setReg (s : State) (a i : Nat) (v : W32) : (s.setReg a v).seat i = s.seat i := rfl
@[simp] theorem State.act_setAct_same (s : State) (a : Nat) (v : W32) : (s.setAct a v).act a = v := sget_sset_same _ _ _ _
theorem State.act_setAct_ne (s : State) {a b : Nat} (h : b ≠ a) (v : W32) : (s.setAct a v).act b = s.act b :=
  sget_sset_ne _ _ _ h v
@[simp] theorem State.reg_setAct (s : State) (a b : Nat) (v : W32) : (s.setAct a v).reg b = s.reg b := rfl

/-- A bit that was written reads so. -/
@[simp] theorem State.bit_setBit_same (s : State) (a i : Nat) (b : Bool) (h : i < 32) : (s.setBit a i b).bit a i = b := by
  simp [State.bit, State.setBit, h]
/-- Another register's bits stay. -/
theorem State.bit_setBit_reg (s : State) {a c : Nat} (h : c ≠ a) (i j : Nat) (b : Bool) : (s.setBit a i b).bit c j = s.bit c j := by
  simp [State.bit, State.setBit, State.reg_setReg_ne _ h]
/-- The register's other bits stay. -/
theorem State.bit_setBit_ne (s : State) (a : Nat) {i j : Nat} (b : Bool) (h : i < 32) (hj : j ≠ i) :
    (s.setBit a i b).bit a j = s.bit a j := by
  simp [State.bit, State.setBit, fbit_fsetb_ne _ b h hj]
/-- A field that was written reads as the value, cut to its width. -/
theorem State.fld_setFld_same (s : State) (a hi lo v : Nat) (h : hi < 32) (hl : lo ≤ hi) :
    (s.setFld a hi lo v).fld a hi lo = v % 2 ^ (hi + 1 - lo) := by
  simp [State.fld, State.setFld, fbits_fset_same _ _ _ _ h hl]
theorem State.reg_setBit_ne (s : State) {a b : Nat} (h : b ≠ a) (i : Nat) (x : Bool) : (s.setBit a i x).reg b = s.reg b :=
  State.reg_setReg_ne _ h _
theorem State.reg_setFld_ne (s : State) {a b : Nat} (h : b ≠ a) (hi lo v : Nat) : (s.setFld a hi lo v).reg b = s.reg b :=
  State.reg_setReg_ne _ h _

/-! ### Seats, domains, links, webs and sources -/

@[simp] theorem State.seat_setSeat_same (s : State) (i : Nat) (t : Seat) : (s.setSeat i t).seat i = t := sget_sset_same _ _ _ _
theorem State.seat_setSeat_ne (s : State) {i j : Nat} (h : j ≠ i) (t : Seat) : (s.setSeat i t).seat j = s.seat j :=
  sget_sset_ne _ _ _ h t
@[simp] theorem State.reg_setSeat (s : State) (i a : Nat) (t : Seat) : (s.setSeat i t).reg a = s.reg a := rfl
@[simp] theorem State.seat_modSeat_same (s : State) (i : Nat) (f : Seat → Seat) : (s.modSeat i f).seat i = f (s.seat i) :=
  State.seat_setSeat_same _ _ _
theorem State.seat_modSeat_ne (s : State) {i j : Nat} (h : j ≠ i) (f : Seat → Seat) : (s.modSeat i f).seat j = s.seat j :=
  State.seat_setSeat_ne _ h _
@[simp] theorem State.reg_modSeat (s : State) (i a : Nat) (f : Seat → Seat) : (s.modSeat i f).reg a = s.reg a := rfl
@[simp] theorem State.dom_setDom_same (s : State) (d : Nat) (x : HostDom) : (s.setDom d x).dom d = x := sget_sset_same _ _ _ _
theorem State.dom_setDom_ne (s : State) {d e : Nat} (h : e ≠ d) (x : HostDom) : (s.setDom d x).dom e = s.dom e :=
  sget_sset_ne _ _ _ h x
@[simp] theorem State.link_setLink_same (s : State) (k : Nat) (l : Link) : (s.setLink k l).link k = l := sget_sset_same _ _ _ _
theorem State.link_setLink_ne (s : State) {k j : Nat} (h : j ≠ k) (l : Link) : (s.setLink k l).link j = s.link j :=
  sget_sset_ne _ _ _ h l
@[simp] theorem State.web_setWeb_same (s : State) (n : Nat) (w : Web) : (s.setWeb n w).web n = w := sget_sset_same _ _ _ _
theorem State.web_setWeb_ne (s : State) {n m : Nat} (h : m ≠ n) (w : Web) : (s.setWeb n w).web m = s.web m :=
  sget_sset_ne _ _ _ h w
@[simp] theorem State.source_setSource_same (s : State) (n : Nat) (x : FcSource) : (s.setSource n x).source n = x :=
  sget_sset_same _ _ _ _
theorem State.source_setSource_ne (s : State) {n m : Nat} (h : m ≠ n) (x : FcSource) : (s.setSource n x).source m = s.source m :=
  sget_sset_ne _ _ _ h x
@[simp] theorem State.stgDom_setStgDom_same (s : State) (d : Nat) (g : StgDom) : (s.setStgDom d g).stgDom d = g :=
  sget_sset_same _ _ _ _
theorem State.stgDom_setStgDom_ne (s : State) {d e : Nat} (h : e ≠ d) (g : StgDom) : (s.setStgDom d g).stgDom e = s.stgDom e :=
  sget_sset_ne _ _ _ h g

/-! ### Memory -/

/-- A byte outside a store to memory stays; the rest of the state may show only what the page codes note (R167). -/
theorem State.storeWrite_mem (s : State) (a : Nat) (bs : List Byte) (h : s.storePoison = []) :
    (s.storeWrite a bs).mem = s.mem := by simp [State.storeWrite, h]

end Sys2Proof.Machine
end

