-- ==== Sys2Proof/Laws/Issue.lean ====
section
/-! SUPPORT. Laws of issue: what a ready seat's instruction runs on, and the shared forms every instruction ends in. -/

namespace Sys2Proof.Machine

/-- An instruction that is ready runs its body on the state as issued (R49, R75). -/
theorem issue_ready {s : State} {i n : Nat} (h : Ready s i n) (b : State → State) : issue s i n b = b (issued s i n) := by
  unfold issue issued; rw [if_neg (by simp [h.1]), if_neg (by simp [h.2.1]), if_neg (by simp [h.2.2])]

/-- A seat's own update is what it becomes; nothing else differs. -/
theorem seatBecomes_setSeat (s : State) (i : Nat) (x : Seat) : SeatBecomes s (s.setSeat i x) i x :=
  ⟨rfl, State.seat_setSeat_same s i x, fun _ h => State.seat_setSeat_ne s h x⟩

theorem seatBecomes_modSeat (s : State) (i : Nat) (f : Seat → Seat) : SeatBecomes s (s.modSeat i f) i (f (s.seat i)) :=
  seatBecomes_setSeat s i _

/-- Retiring changes the seat alone (R75). -/
theorem seatBecomes_retire (s : State) (i n : Nat) (f : Seat → Seat) : SeatBecomes s (retire s i n f) i ((f (s.seat i)).advance n) :=
  seatBecomes_setSeat s i _

/-- A seat that cannot issue stays as it is, and so does everything else (R46, R49). -/
theorem issue_held {s : State} {i : Nat} (h : s.canIssue i = false) (n : Nat) (b : State → State) : issue s i n b = s := by
  unfold issue; rw [if_pos (by simp [h])]

end Sys2Proof.Machine
end

