-- ==== Sys2Proof/Laws/Access.lean ====
section
/-! SUPPORT. Laws of device memory and of one access through a window: what the checks pass, where the access lands, what a
write changes and what a seat that waits or goes on becomes. -/

namespace Sys2Proof.Machine

/-! ### Bytes (R12) -/

theorem leNat_lt (bs : List Byte) : leNat bs < 256 ^ bs.length := by
  induction bs with
  | nil => simp [leNat]
  | cons b bs ih =>
    have : b.toNat < 256 := b.isLt
    simp only [leNat, List.length_cons, pow_succ]; omega

@[simp] theorem leBytes_length (n v : Nat) : (leBytes n v).length = n := by
  induction n generalizing v with
  | zero => rfl
  | succ n ih => simp [leBytes, ih]

/-- Little-endian bytes of a number, read back (R12). -/
theorem leNat_leBytes (n : Nat) : ∀ v, leNat (leBytes n v) = v % 256 ^ n := by
  induction n with
  | zero => intro v; simp [leBytes, leNat, Nat.mod_one]
  | succ n ih =>
    intro v
    have h : 256 ^ (n + 1) = 256 * 256 ^ n := by rw [pow_succ, Nat.mul_comm]
    rw [leBytes, leNat, ih, BitVec.toNat_ofNat, h, Nat.mod_mul]

theorem bytesAt_putBytes_same (bs : List Byte) : ∀ (m : SMap Byte) (a : Nat), bytesAt (putBytes m a bs) a bs.length = bs := by
  induction bs with
  | nil => intro m a; rfl
  | cons b bs ih =>
    intro m a
    rw [List.length_cons, bytesAt, putBytes, ih, sget_putBytes_outside _ _ _ _ (by omega), sget_sset_same]

/-! ### The checks of R60 -/

/-- An access whose bytes lie in device memory is in memory, and its granules carry the tag. -/
theorem checkAccess_none {s : State} {i w off n align need : Nat} (h : CheckOk s i w off n align need) (hn : 0 < n)
    (plant atomic : Bool) : checkAccess s (s.seat i) plant ((s.seat i).wx w) off n align need atomic = none := by
  obtain ⟨hv, hl, ho, hr, hb, ha, hloc, hm, ht⟩ := h
  have howner : ownerOk (s.seat i) ((s.seat i).wx w) = true := by
    unfold ownerOk; unfold OwnDesc at ho; split <;> simp_all
  have hsize : s.memSize < 0xFFFF00000000 := by
    unfold State.memSize; cases s.variant <;> simp [Variant.stacks]
  have hctl : isControl (dBase ((s.seat i).wx w) + off) = false := by simp [isControl]; omega
  have hmin : min n (s.memSize - (dBase ((s.seat i).wx w) + off)) = n := by omega
  have htag : s.tagsMatch (dBase ((s.seat i).wx w) + off) n (dKtag ((s.seat i).wx w)) = true := by
    simp only [State.tagsMatch, List.all_eq_true, beq_iff_eq]; exact ht
  unfold checkAccess
  simp [hv, hl, howner, hasRights, hr, Nat.not_lt.mpr hb, ha, hloc, hctl, hmin, htag]

/-- Such an access lands in device memory. -/
theorem target_memory {s : State} {i w off n align need : Nat} (h : CheckOk s i w off n align need) (hn : 0 < n) :
    target s i ((s.seat i).wx w) off = .memory (dBase ((s.seat i).wx w) + off) := by
  obtain ⟨-, -, -, -, -, -, hloc, hm, -⟩ := h
  unfold target; simp only [hloc]; rw [if_neg (by simp), if_pos (by omega)]

/-- A read of readable pages of device memory returns its bytes (R5, R167). -/
theorem memRead_some {s : State} {a n : Nat} (h : a + n ≤ s.memSize) (hp : ∀ p ∈ spanning 2048 a n, s.pageReadable p = true) :
    s.memRead a n = some (bytesAt s.mem a n) := by
  unfold State.memRead State.inMemory; rw [if_pos]; simp only [h, decide_true, Bool.true_and, List.all_eq_true]; exact hp

/-! ### Writes of device memory -/

/-- Marking cells changes pages alone. -/
theorem markCells_frame (s : State) (a n : Nat) : ∃ ps, s.markCells a n = { s with pages := ps } := by
  unfold State.markCells State.each
  have : ∀ (l : List Nat) (s : State), ∃ ps, l.foldl (fun s c =>
      let q := s.page (c / 32)
      if q.poisoned then
        let cs := q.cells ||| (1 <<< (c % 32))
        if cs = BitVec.allOnes 32 then s.setPage (c / 32) { q with poisoned := false, cells := 0 }
        else s.setPage (c / 32) { q with cells := cs }
      else s) s = { s with pages := ps } := by
    intro l
    induction l with
    | nil => intro s; exact ⟨s.pages, rfl⟩
    | cons c l ih =>
      intro s; simp only [List.foldl_cons]
      obtain ⟨ps, h⟩ := ih _
      refine ⟨ps, h.trans ?_⟩
      split
      · split <;> rfl
      · rfl
  exact this _ _

/-- Encoding pages changes pages alone. -/
theorem encode_frame (l : List Nat) (s : State) : ∃ ps, s.each l State.encode = { s with pages := ps } := by
  unfold State.each
  induction l generalizing s with
  | nil => exact ⟨s.pages, rfl⟩
  | cons c l ih => simp only [List.foldl_cons]; obtain ⟨ps, h⟩ := ih (s.encode c); exact ⟨ps, h.trans rfl⟩

/-- A write to pages whose stacks are there puts its bytes, and changes nothing but memory and what the controllers know
    of its pages (R5, R165, R167). -/
theorem memWrite_some {s : State} {a : Nat} {bs : List Byte} (h : a + bs.length ≤ s.memSize)
    (hp : ∀ p ∈ spanning 2048 a bs.length, s.pageWritable p = true) :
    ∃ ps, s.memWrite a bs = some { s with mem := putBytes s.mem a bs, pages := ps } := by
  unfold State.memWrite State.inMemory
  rw [if_pos (by simp only [h, decide_true, Bool.true_and, List.all_eq_true]; exact hp)]
  obtain ⟨ps, e⟩ := markCells_frame { s with mem := putBytes s.mem a bs } a bs.length
  obtain ⟨qs, f⟩ := encode_frame (spanning 2048 a bs.length) (({ s with mem := putBytes s.mem a bs }).markCells a bs.length)
  exact ⟨qs, by rw [f, e]⟩

/-- A write that is accepted keeps the canonical form of device memory. -/
theorem memWrite_wf {s t : State} {a : Nat} {bs : List Byte} (h : s.memWrite a bs = some t) (hw : Memory.wf s.mem = true) :
    Memory.wf t.mem = true := by
  unfold State.memWrite at h
  split at h
  · obtain ⟨ps, e⟩ := markCells_frame { s with mem := putBytes s.mem a bs } a bs.length
    obtain ⟨qs, f⟩ := encode_frame (spanning 2048 a bs.length) (({ s with mem := putBytes s.mem a bs }).markCells a bs.length)
    rw [f, e] at h; cases h; exact wf_putBytes bs s.mem a hw
  · cases h

/-- A write of a local store keeps the canonical form of the stores. -/
theorem storeWrite_wf (s : State) (a : Nat) (bs : List Byte) (hw : Memory.wf s.store = true) : Memory.wf (s.storeWrite a bs).store = true := by
  have keep : ∀ (l : List Nat) (s : State), (s.each l State.markStore).store = s.store := by
    intro l
    induction l with
    | nil => intro s; rfl
    | cons c l ih =>
      intro s
      refine (ih (s.markStore c)).trans ?_
      unfold State.markStore
      dsimp only
      split
      · rfl
      · split <;> rfl
  unfold State.storeWrite
  dsimp only
  split
  · exact wf_putBytes bs s.store a hw
  · rw [keep]; exact wf_putBytes bs s.store a hw

/-- The memory at reset is in canonical form. -/
theorem reset_canonical : State.reset.canonical = true := by decide

/-! ### One access of a seat -/

theorem seatRead_ok {s : State} {i w off n align need : Nat} (h : AccessOk s i w off n align need) (hn : 0 < n) :
    seatRead s i w off n align need = .ok (bytesAt s.mem (dBase ((s.seat i).wx w) + off) n, s,
      touchOf ((s.seat i).wx w) (.memory (dBase ((s.seat i).wx w) + off)) n) := by
  unfold seatRead
  have hm := h.1.2.2.2.2.2.2.2.1
  simp only [checkAccess_none h.1 hn, target_memory h.1 hn, placeRead, memRead_some hm h.2, Option.map_some]

theorem seatWrite_ok {s : State} {i w off align : Nat} {bs : List Byte} (h : WriteOk s i w off bs.length align) (hn : 0 < bs.length) :
    ∃ ps, seatWrite s i w off align bs =
      .ok ({ s with mem := putBytes s.mem (dBase ((s.seat i).wx w) + off) bs, pages := ps }, false) := by
  obtain ⟨ps, e⟩ := memWrite_some h.1.2.2.2.2.2.2.2.1 h.2
  refine ⟨ps, ?_⟩
  unfold seatWrite
  simp only [checkAccess_none h.1 hn, target_memory h.1 hn, placeWrite, e]

end Sys2Proof.Machine
end

