-- ==== Sys2Proof/Laws/PerInstr.lean ====
section
/-! SUPPORT. The per-command family Words: no word spells the command, since the table gives its row no bits. -/

namespace Sys2Proof.Laws.Words

/-- No word spells `i` (the table of operations and events gives no row any bits). -/
def Statement (i : Instr) : Prop := ∀ nbits w : Nat, decodeTableWord nbits w ≠ some i

theorem registerWrite (who : Requester) (addr : Nat) (value : W32) : Statement (.registerWrite who addr value) := fun _ _ h => nomatch h
theorem reg64LowRead (who : Requester) (addr : Nat) : Statement (.reg64LowRead who addr) := fun _ _ h => nomatch h
theorem pairFirstWrite (who : Requester) (addr : Nat) (value : W32) : Statement (.pairFirstWrite who addr value) := fun _ _ h => nomatch h
theorem pairSecondWrite (who : Requester) (addr : Nat) (value : W32) : Statement (.pairSecondWrite who addr value) := fun _ _ h => nomatch h
theorem channelWordSend (near far : IslandIx) (word : W64) : Statement (.channelWordSend near far word) := fun _ _ h => nomatch h
theorem channelTimeout (near far : IslandIx) (expecting posted : Nat) (allPorts : Bool) : Statement (.channelTimeout near far expecting posted allPorts) := fun _ _ h => nomatch h
theorem add (seat : SeatIx) (rd ra rb : SReg) : Statement (.add seat rd ra rb) := fun _ _ h => nomatch h
theorem sub (seat : SeatIx) (rd ra rb : SReg) : Statement (.sub seat rd ra rb) := fun _ _ h => nomatch h
theorem and (seat : SeatIx) (rd ra rb : SReg) : Statement (.and seat rd ra rb) := fun _ _ h => nomatch h
theorem or (seat : SeatIx) (rd ra rb : SReg) : Statement (.or seat rd ra rb) := fun _ _ h => nomatch h
theorem xor (seat : SeatIx) (rd ra rb : SReg) : Statement (.xor seat rd ra rb) := fun _ _ h => nomatch h
theorem sll (seat : SeatIx) (rd ra rb : SReg) : Statement (.sll seat rd ra rb) := fun _ _ h => nomatch h
theorem srl (seat : SeatIx) (rd ra rb : SReg) : Statement (.srl seat rd ra rb) := fun _ _ h => nomatch h
theorem sra (seat : SeatIx) (rd ra rb : SReg) : Statement (.sra seat rd ra rb) := fun _ _ h => nomatch h
theorem slt (seat : SeatIx) (rd ra rb : SReg) : Statement (.slt seat rd ra rb) := fun _ _ h => nomatch h
theorem sltu (seat : SeatIx) (rd ra rb : SReg) : Statement (.sltu seat rd ra rb) := fun _ _ h => nomatch h
theorem mul (seat : SeatIx) (rd ra rb : SReg) : Statement (.mul seat rd ra rb) := fun _ _ h => nomatch h
theorem mulhs (seat : SeatIx) (rd ra rb : SReg) : Statement (.mulhs seat rd ra rb) := fun _ _ h => nomatch h
theorem mulhu (seat : SeatIx) (rd ra rb : SReg) : Statement (.mulhu seat rd ra rb) := fun _ _ h => nomatch h
theorem div (seat : SeatIx) (rd ra rb : SReg) : Statement (.div seat rd ra rb) := fun _ _ h => nomatch h
theorem divu (seat : SeatIx) (rd ra rb : SReg) : Statement (.divu seat rd ra rb) := fun _ _ h => nomatch h
theorem rem (seat : SeatIx) (rd ra rb : SReg) : Statement (.rem seat rd ra rb) := fun _ _ h => nomatch h
theorem remu (seat : SeatIx) (rd ra rb : SReg) : Statement (.remu seat rd ra rb) := fun _ _ h => nomatch h
theorem min (seat : SeatIx) (rd ra rb : SReg) : Statement (.min seat rd ra rb) := fun _ _ h => nomatch h
theorem max (seat : SeatIx) (rd ra rb : SReg) : Statement (.max seat rd ra rb) := fun _ _ h => nomatch h
theorem minu (seat : SeatIx) (rd ra rb : SReg) : Statement (.minu seat rd ra rb) := fun _ _ h => nomatch h
theorem maxu (seat : SeatIx) (rd ra rb : SReg) : Statement (.maxu seat rd ra rb) := fun _ _ h => nomatch h
theorem clz (seat : SeatIx) (rd ra : SReg) : Statement (.clz seat rd ra) := fun _ _ h => nomatch h
theorem popc (seat : SeatIx) (rd ra : SReg) : Statement (.popc seat rd ra) := fun _ _ h => nomatch h
theorem addi (seat : SeatIx) (rd ra : SReg) (imm : BitVec 16) : Statement (.addi seat rd ra imm) := fun _ _ h => nomatch h
theorem andi (seat : SeatIx) (rd ra : SReg) (imm : BitVec 16) : Statement (.andi seat rd ra imm) := fun _ _ h => nomatch h
theorem ori (seat : SeatIx) (rd ra : SReg) (imm : BitVec 16) : Statement (.ori seat rd ra imm) := fun _ _ h => nomatch h
theorem xori (seat : SeatIx) (rd ra : SReg) (imm : BitVec 16) : Statement (.xori seat rd ra imm) := fun _ _ h => nomatch h
theorem slli (seat : SeatIx) (rd ra : SReg) (amount : BitVec 6) : Statement (.slli seat rd ra amount) := fun _ _ h => nomatch h
theorem srli (seat : SeatIx) (rd ra : SReg) (amount : BitVec 6) : Statement (.srli seat rd ra amount) := fun _ _ h => nomatch h
theorem srai (seat : SeatIx) (rd ra : SReg) (amount : BitVec 6) : Statement (.srai seat rd ra amount) := fun _ _ h => nomatch h
theorem slti (seat : SeatIx) (rd ra : SReg) (imm : BitVec 16) : Statement (.slti seat rd ra imm) := fun _ _ h => nomatch h
theorem sltiu (seat : SeatIx) (rd ra : SReg) (imm : BitVec 16) : Statement (.sltiu seat rd ra imm) := fun _ _ h => nomatch h
theorem lui (seat : SeatIx) (rd : SReg) (imm : BitVec 16) : Statement (.lui seat rd imm) := fun _ _ h => nomatch h
theorem liL (seat : SeatIx) (rd : SReg) (imm : BitVec 32) : Statement (.liL seat rd imm) := fun _ _ h => nomatch h
theorem lihL (seat : SeatIx) (rd : SReg) (imm : BitVec 32) : Statement (.lihL seat rd imm) := fun _ _ h => nomatch h
theorem addiL (seat : SeatIx) (rd ra : SReg) (imm : BitVec 32) : Statement (.addiL seat rd ra imm) := fun _ _ h => nomatch h
theorem beq (seat : SeatIx) (ra rb : SReg) (off : BitVec 16) : Statement (.beq seat ra rb off) := fun _ _ h => nomatch h
theorem bne (seat : SeatIx) (ra rb : SReg) (off : BitVec 16) : Statement (.bne seat ra rb off) := fun _ _ h => nomatch h
theorem blt (seat : SeatIx) (ra rb : SReg) (off : BitVec 16) : Statement (.blt seat ra rb off) := fun _ _ h => nomatch h
theorem bge (seat : SeatIx) (ra rb : SReg) (off : BitVec 16) : Statement (.bge seat ra rb off) := fun _ _ h => nomatch h
theorem bltu (seat : SeatIx) (ra rb : SReg) (off : BitVec 16) : Statement (.bltu seat ra rb off) := fun _ _ h => nomatch h
theorem bgeu (seat : SeatIx) (ra rb : SReg) (off : BitVec 16) : Statement (.bgeu seat ra rb off) := fun _ _ h => nomatch h
theorem jal (seat : SeatIx) (rd : SReg) (off : BitVec 21) : Statement (.jal seat rd off) := fun _ _ h => nomatch h
theorem jalr (seat : SeatIx) (rd ra : SReg) (imm : BitVec 16) : Statement (.jalr seat rd ra imm) := fun _ _ h => nomatch h
theorem ldb (seat : SeatIx) (rd : SReg) (w : WReg) (ra : SReg) (imm : BitVec 12) : Statement (.ldb seat rd w ra imm) := fun _ _ h => nomatch h
theorem ldh (seat : SeatIx) (rd : SReg) (w : WReg) (ra : SReg) (imm : BitVec 12) : Statement (.ldh seat rd w ra imm) := fun _ _ h => nomatch h
theorem ldw (seat : SeatIx) (rd : SReg) (w : WReg) (ra : SReg) (imm : BitVec 12) : Statement (.ldw seat rd w ra imm) := fun _ _ h => nomatch h
theorem ldd (seat : SeatIx) (rd : SReg) (w : WReg) (ra : SReg) (imm : BitVec 12) : Statement (.ldd seat rd w ra imm) := fun _ _ h => nomatch h
theorem ldbs (seat : SeatIx) (rd : SReg) (w : WReg) (ra : SReg) (imm : BitVec 12) : Statement (.ldbs seat rd w ra imm) := fun _ _ h => nomatch h
theorem ldhs (seat : SeatIx) (rd : SReg) (w : WReg) (ra : SReg) (imm : BitVec 12) : Statement (.ldhs seat rd w ra imm) := fun _ _ h => nomatch h
theorem ldws (seat : SeatIx) (rd : SReg) (w : WReg) (ra : SReg) (imm : BitVec 12) : Statement (.ldws seat rd w ra imm) := fun _ _ h => nomatch h
theorem stb (seat : SeatIx) (rs : SReg) (w : WReg) (ra : SReg) (imm : BitVec 12) : Statement (.stb seat rs w ra imm) := fun _ _ h => nomatch h
theorem sth (seat : SeatIx) (rs : SReg) (w : WReg) (ra : SReg) (imm : BitVec 12) : Statement (.sth seat rs w ra imm) := fun _ _ h => nomatch h
theorem stw (seat : SeatIx) (rs : SReg) (w : WReg) (ra : SReg) (imm : BitVec 12) : Statement (.stw seat rs w ra imm) := fun _ _ h => nomatch h
theorem std (seat : SeatIx) (rs : SReg) (w : WReg) (ra : SReg) (imm : BitVec 12) : Statement (.std seat rs w ra imm) := fun _ _ h => nomatch h
theorem atomSwap (seat : SeatIx) (wide : Bool) (ord : BitVec 2) (rd : SReg) (w : WReg) (ra rb : SReg) : Statement (.atomSwap seat wide ord rd w ra rb) := fun _ _ h => nomatch h
theorem atomAdd (seat : SeatIx) (wide : Bool) (ord : BitVec 2) (rd : SReg) (w : WReg) (ra rb : SReg) : Statement (.atomAdd seat wide ord rd w ra rb) := fun _ _ h => nomatch h
theorem atomAnd (seat : SeatIx) (wide : Bool) (ord : BitVec 2) (rd : SReg) (w : WReg) (ra rb : SReg) : Statement (.atomAnd seat wide ord rd w ra rb) := fun _ _ h => nomatch h
theorem atomOr (seat : SeatIx) (wide : Bool) (ord : BitVec 2) (rd : SReg) (w : WReg) (ra rb : SReg) : Statement (.atomOr seat wide ord rd w ra rb) := fun _ _ h => nomatch h
theorem atomXor (seat : SeatIx) (wide : Bool) (ord : BitVec 2) (rd : SReg) (w : WReg) (ra rb : SReg) : Statement (.atomXor seat wide ord rd w ra rb) := fun _ _ h => nomatch h
theorem atomMin (seat : SeatIx) (wide : Bool) (ord : BitVec 2) (rd : SReg) (w : WReg) (ra rb : SReg) : Statement (.atomMin seat wide ord rd w ra rb) := fun _ _ h => nomatch h
theorem atomMax (seat : SeatIx) (wide : Bool) (ord : BitVec 2) (rd : SReg) (w : WReg) (ra rb : SReg) : Statement (.atomMax seat wide ord rd w ra rb) := fun _ _ h => nomatch h
theorem atomMinu (seat : SeatIx) (wide : Bool) (ord : BitVec 2) (rd : SReg) (w : WReg) (ra rb : SReg) : Statement (.atomMinu seat wide ord rd w ra rb) := fun _ _ h => nomatch h
theorem atomMaxu (seat : SeatIx) (wide : Bool) (ord : BitVec 2) (rd : SReg) (w : WReg) (ra rb : SReg) : Statement (.atomMaxu seat wide ord rd w ra rb) := fun _ _ h => nomatch h
theorem atomCas (seat : SeatIx) (wide : Bool) (ord : BitVec 2) (rd : SReg) (w : WReg) (ra rb : SReg) : Statement (.atomCas seat wide ord rd w ra rb) := fun _ _ h => nomatch h
theorem ldAq (seat : SeatIx) (wide : Bool) (rd : SReg) (w : WReg) (ra : SReg) : Statement (.ldAq seat wide rd w ra) := fun _ _ h => nomatch h
theorem stRl (seat : SeatIx) (wide : Bool) (w : WReg) (ra rb : SReg) : Statement (.stRl seat wide w ra rb) := fun _ _ h => nomatch h
theorem vadd (seat : SeatIx) (vd va : VIx) (vb : VSrc) (p : PIx) (ew : BitVec 2) : Statement (.vadd seat vd va vb p ew) := fun _ _ h => nomatch h
theorem vsub (seat : SeatIx) (vd va : VIx) (vb : VSrc) (p : PIx) (ew : BitVec 2) : Statement (.vsub seat vd va vb p ew) := fun _ _ h => nomatch h
theorem vmul (seat : SeatIx) (vd va : VIx) (vb : VSrc) (p : PIx) (ew : BitVec 2) : Statement (.vmul seat vd va vb p ew) := fun _ _ h => nomatch h
theorem vmulh (seat : SeatIx) (vd va : VIx) (vb : VSrc) (p : PIx) (ew : BitVec 2) : Statement (.vmulh seat vd va vb p ew) := fun _ _ h => nomatch h
theorem vmulhu (seat : SeatIx) (vd va : VIx) (vb : VSrc) (p : PIx) (ew : BitVec 2) : Statement (.vmulhu seat vd va vb p ew) := fun _ _ h => nomatch h
theorem vand (seat : SeatIx) (vd va : VIx) (vb : VSrc) (p : PIx) (ew : BitVec 2) : Statement (.vand seat vd va vb p ew) := fun _ _ h => nomatch h
theorem vor (seat : SeatIx) (vd va : VIx) (vb : VSrc) (p : PIx) (ew : BitVec 2) : Statement (.vor seat vd va vb p ew) := fun _ _ h => nomatch h
theorem vxor (seat : SeatIx) (vd va : VIx) (vb : VSrc) (p : PIx) (ew : BitVec 2) : Statement (.vxor seat vd va vb p ew) := fun _ _ h => nomatch h
theorem vsll (seat : SeatIx) (vd va : VIx) (vb : VSrc) (p : PIx) (ew : BitVec 2) : Statement (.vsll seat vd va vb p ew) := fun _ _ h => nomatch h
theorem vsrl (seat : SeatIx) (vd va : VIx) (vb : VSrc) (p : PIx) (ew : BitVec 2) : Statement (.vsrl seat vd va vb p ew) := fun _ _ h => nomatch h
theorem vsra (seat : SeatIx) (vd va : VIx) (vb : VSrc) (p : PIx) (ew : BitVec 2) : Statement (.vsra seat vd va vb p ew) := fun _ _ h => nomatch h
theorem vmin (seat : SeatIx) (vd va : VIx) (vb : VSrc) (p : PIx) (ew : BitVec 2) : Statement (.vmin seat vd va vb p ew) := fun _ _ h => nomatch h
theorem vmax (seat : SeatIx) (vd va : VIx) (vb : VSrc) (p : PIx) (ew : BitVec 2) : Statement (.vmax seat vd va vb p ew) := fun _ _ h => nomatch h
theorem vminu (seat : SeatIx) (vd va : VIx) (vb : VSrc) (p : PIx) (ew : BitVec 2) : Statement (.vminu seat vd va vb p ew) := fun _ _ h => nomatch h
theorem vmaxu (seat : SeatIx) (vd va : VIx) (vb : VSrc) (p : PIx) (ew : BitVec 2) : Statement (.vmaxu seat vd va vb p ew) := fun _ _ h => nomatch h
theorem vaddss (seat : SeatIx) (vd va : VIx) (vb : VSrc) (p : PIx) (ew : BitVec 2) : Statement (.vaddss seat vd va vb p ew) := fun _ _ h => nomatch h
theorem vaddsu (seat : SeatIx) (vd va : VIx) (vb : VSrc) (p : PIx) (ew : BitVec 2) : Statement (.vaddsu seat vd va vb p ew) := fun _ _ h => nomatch h
theorem vsubss (seat : SeatIx) (vd va : VIx) (vb : VSrc) (p : PIx) (ew : BitVec 2) : Statement (.vsubss seat vd va vb p ew) := fun _ _ h => nomatch h
theorem vsubsu (seat : SeatIx) (vd va : VIx) (vb : VSrc) (p : PIx) (ew : BitVec 2) : Statement (.vsubsu seat vd va vb p ew) := fun _ _ h => nomatch h
theorem vavgu (seat : SeatIx) (vd va : VIx) (vb : VSrc) (p : PIx) (ew : BitVec 2) : Statement (.vavgu seat vd va vb p ew) := fun _ _ h => nomatch h
theorem vabsdu (seat : SeatIx) (vd va : VIx) (vb : VSrc) (p : PIx) (ew : BitVec 2) : Statement (.vabsdu seat vd va vb p ew) := fun _ _ h => nomatch h
theorem vcmpEq (seat : SeatIx) (pd : PIx) (va vb : VIx) (p : PIx) (ew : BitVec 2) : Statement (.vcmpEq seat pd va vb p ew) := fun _ _ h => nomatch h
theorem vcmpNe (seat : SeatIx) (pd : PIx) (va vb : VIx) (p : PIx) (ew : BitVec 2) : Statement (.vcmpNe seat pd va vb p ew) := fun _ _ h => nomatch h
theorem vcmpLt (seat : SeatIx) (pd : PIx) (va vb : VIx) (p : PIx) (ew : BitVec 2) : Statement (.vcmpLt seat pd va vb p ew) := fun _ _ h => nomatch h
theorem vcmpGe (seat : SeatIx) (pd : PIx) (va vb : VIx) (p : PIx) (ew : BitVec 2) : Statement (.vcmpGe seat pd va vb p ew) := fun _ _ h => nomatch h
theorem vcmpLtu (seat : SeatIx) (pd : PIx) (va vb : VIx) (p : PIx) (ew : BitVec 2) : Statement (.vcmpLtu seat pd va vb p ew) := fun _ _ h => nomatch h
theorem vcmpGeu (seat : SeatIx) (pd : PIx) (va vb : VIx) (p : PIx) (ew : BitVec 2) : Statement (.vcmpGeu seat pd va vb p ew) := fun _ _ h => nomatch h
theorem vmv (seat : SeatIx) (vd va : VIx) (p : PIx) (ew : BitVec 2) : Statement (.vmv seat vd va p ew) := fun _ _ h => nomatch h
theorem vbcast (seat : SeatIx) (vd : VIx) (sa : SReg) (p : PIx) (ew : BitVec 2) : Statement (.vbcast seat vd sa p ew) := fun _ _ h => nomatch h
theorem vext (seat : SeatIx) (sd : SReg) (va : VIx) (sb : SReg) (p : PIx) (ew : BitVec 2) : Statement (.vext seat sd va sb p ew) := fun _ _ h => nomatch h
theorem vins (seat : SeatIx) (vd : VIx) (sa sb : SReg) (p : PIx) (ew : BitVec 2) : Statement (.vins seat vd sa sb p ew) := fun _ _ h => nomatch h
theorem vslideup (seat : SeatIx) (vd va : VIx) (sb : SReg) (p : PIx) (ew : BitVec 2) : Statement (.vslideup seat vd va sb p ew) := fun _ _ h => nomatch h
theorem vslidedn (seat : SeatIx) (vd va : VIx) (sb : SReg) (p : PIx) (ew : BitVec 2) : Statement (.vslidedn seat vd va sb p ew) := fun _ _ h => nomatch h
theorem vperm (seat : SeatIx) (vd va vb : VIx) (p : PIx) (ew : BitVec 2) : Statement (.vperm seat vd va vb p ew) := fun _ _ h => nomatch h
theorem vredsum (seat : SeatIx) (sd : SReg) (va : VIx) (p : PIx) (ew : BitVec 2) : Statement (.vredsum seat sd va p ew) := fun _ _ h => nomatch h
theorem vredsumu (seat : SeatIx) (sd : SReg) (va : VIx) (p : PIx) (ew : BitVec 2) : Statement (.vredsumu seat sd va p ew) := fun _ _ h => nomatch h
theorem vredmin (seat : SeatIx) (sd : SReg) (va : VIx) (p : PIx) (ew : BitVec 2) : Statement (.vredmin seat sd va p ew) := fun _ _ h => nomatch h
theorem vredmax (seat : SeatIx) (sd : SReg) (va : VIx) (p : PIx) (ew : BitVec 2) : Statement (.vredmax seat sd va p ew) := fun _ _ h => nomatch h
theorem vredminu (seat : SeatIx) (sd : SReg) (va : VIx) (p : PIx) (ew : BitVec 2) : Statement (.vredminu seat sd va p ew) := fun _ _ h => nomatch h
theorem vredmaxu (seat : SeatIx) (sd : SReg) (va : VIx) (p : PIx) (ew : BitVec 2) : Statement (.vredmaxu seat sd va p ew) := fun _ _ h => nomatch h
theorem vmulsrL (seat : SeatIx) (vd va vb : VIx) (p : PIx) (ew : BitVec 2) (sh : BitVec 6) (uns sat : Bool) : Statement (.vmulsrL seat vd va vb p ew sh uns sat) := fun _ _ h => nomatch h
theorem vld (seat : SeatIx) (vd : VIx) (w : WReg) (ra : SReg) (p : PIx) (ew : BitVec 2) : Statement (.vld seat vd w ra p ew) := fun _ _ h => nomatch h
theorem vst (seat : SeatIx) (vd : VIx) (w : WReg) (ra : SReg) (p : PIx) (ew : BitVec 2) : Statement (.vst seat vd w ra p ew) := fun _ _ h => nomatch h
theorem vlds (seat : SeatIx) (vd : VIx) (w : WReg) (ra rb : SReg) (p : PIx) (ew : BitVec 2) : Statement (.vlds seat vd w ra rb p ew) := fun _ _ h => nomatch h
theorem vsts (seat : SeatIx) (vd : VIx) (w : WReg) (ra rb : SReg) (p : PIx) (ew : BitVec 2) : Statement (.vsts seat vd w ra rb p ew) := fun _ _ h => nomatch h
theorem vldx (seat : SeatIx) (vd : VIx) (w : WReg) (ra : SReg) (vb : VIx) (p : PIx) (ew : BitVec 2) : Statement (.vldx seat vd w ra vb p ew) := fun _ _ h => nomatch h
theorem vstx (seat : SeatIx) (vd : VIx) (w : WReg) (ra : SReg) (vb : VIx) (p : PIx) (ew : BitVec 2) : Statement (.vstx seat vd w ra vb p ew) := fun _ _ h => nomatch h
theorem pand (seat : SeatIx) (pd pa pb : PIx) : Statement (.pand seat pd pa pb) := fun _ _ h => nomatch h
theorem por (seat : SeatIx) (pd pa pb : PIx) : Statement (.por seat pd pa pb) := fun _ _ h => nomatch h
theorem pxor (seat : SeatIx) (pd pa pb : PIx) : Statement (.pxor seat pd pa pb) := fun _ _ h => nomatch h
theorem pandn (seat : SeatIx) (pd pa pb : PIx) : Statement (.pandn seat pd pa pb) := fun _ _ h => nomatch h
theorem pnot (seat : SeatIx) (pd pa : PIx) : Statement (.pnot seat pd pa) := fun _ _ h => nomatch h
theorem pset (seat : SeatIx) (pd : PIx) : Statement (.pset seat pd) := fun _ _ h => nomatch h
theorem pclr (seat : SeatIx) (pd : PIx) : Statement (.pclr seat pd) := fun _ _ h => nomatch h
theorem pcnt (seat : SeatIx) (sd : SReg) (pa : PIx) (ew : BitVec 2) : Statement (.pcnt seat sd pa ew) := fun _ _ h => nomatch h
theorem pfirst (seat : SeatIx) (sd : SReg) (pa : PIx) (ew : BitVec 2) : Statement (.pfirst seat sd pa ew) := fun _ _ h => nomatch h
theorem setvl (seat : SeatIx) (rd ra : SReg) (ew : BitVec 2) : Statement (.setvl seat rd ra ew) := fun _ _ h => nomatch h
theorem wsub (seat : SeatIx) (wd ws : WReg) (rb rc : SReg) (mask : BitVec 5) : Statement (.wsub seat wd ws rb rc mask) := fun _ _ h => nomatch h
theorem wload (seat : SeatIx) (wd : WReg) (sa sb : SReg) : Statement (.wload seat wd sa sb) := fun _ _ h => nomatch h
theorem wrdlo (seat : SeatIx) (sd : SReg) (wa : WReg) : Statement (.wrdlo seat sd wa) := fun _ _ h => nomatch h
theorem wrdhi (seat : SeatIx) (sd : SReg) (wa : WReg) : Statement (.wrdhi seat sd wa) := fun _ _ h => nomatch h
theorem wget (seat : SeatIx) (sd : SReg) (wa : WReg) (field : BitVec 3) : Statement (.wget seat sd wa field) := fun _ _ h => nomatch h
theorem wmov (seat : SeatIx) (wd wa : WReg) : Statement (.wmov seat wd wa) := fun _ _ h => nomatch h
theorem wclr (seat : SeatIx) (wd : WReg) : Statement (.wclr seat wd) := fun _ _ h => nomatch h
theorem wldm (seat : SeatIx) (wd wa : WReg) (sb : SReg) : Statement (.wldm seat wd wa sb) := fun _ _ h => nomatch h
theorem wstm (seat : SeatIx) (wd wa : WReg) (sb : SReg) : Statement (.wstm seat wd wa sb) := fun _ _ h => nomatch h
theorem cwload (seat : SeatIx) (wa : WReg) (which : BitVec 2) : Statement (.cwload seat wa which) := fun _ _ h => nomatch h
theorem ktset (seat : SeatIx) (ra rb : SReg) : Statement (.ktset seat ra rb) := fun _ _ h => nomatch h
theorem ktsetRetire (seat : SeatIx) : Statement (.ktsetRetire seat) := fun _ _ h => nomatch h
theorem bcopyL (seat : SeatIx) (rd : SReg) (wd ws : WReg) (rdo rso rn : SReg) (errs : PageErrs) : Statement (.bcopyL seat rd wd ws rdo rso rn errs) := fun _ _ h => nomatch h
theorem bfillL (seat : SeatIx) (rd : SReg) (wd : WReg) (rdo rv rn : SReg) : Statement (.bfillL seat rd wd rdo rv rn) := fun _ _ h => nomatch h
theorem call (seat : SeatIx) (imm : BitVec 12) : Statement (.call seat imm) := fun _ _ h => nomatch h
theorem brk (seat : SeatIx) (imm : BitVec 12) : Statement (.brk seat imm) := fun _ _ h => nomatch h
theorem tret (seat : SeatIx) : Statement (.tret seat) := fun _ _ h => nomatch h
theorem seatstop (seat : SeatIx) : Statement (.seatstop seat) := fun _ _ h => nomatch h
theorem plantSeatstopWake : Statement .plantSeatstopWake := fun _ _ h => nomatch h
theorem yield (seat : SeatIx) : Statement (.yield seat) := fun _ _ h => nomatch h
theorem rdtime (seat : SeatIx) (rd : SReg) : Statement (.rdtime seat rd) := fun _ _ h => nomatch h
theorem snap (seat : SeatIx) (rd : SReg) : Statement (.snap seat rd) := fun _ _ h => nomatch h
theorem scrd (seat : SeatIx) (rd : SReg) (num : BitVec 12) : Statement (.scrd seat rd num) := fun _ _ h => nomatch h
theorem scwr (seat : SeatIx) (num : BitVec 12) (ra : SReg) : Statement (.scwr seat num ra) := fun _ _ h => nomatch h
theorem scset (seat : SeatIx) (num : BitVec 12) (ra : SReg) : Statement (.scset seat num ra) := fun _ _ h => nomatch h
theorem scclr (seat : SeatIx) (num : BitVec 12) (ra : SReg) : Statement (.scclr seat num ra) := fun _ _ h => nomatch h
theorem fenceRw (seat : SeatIx) : Statement (.fenceRw seat) := fun _ _ h => nomatch h
theorem fenceR (seat : SeatIx) : Statement (.fenceR seat) := fun _ _ h => nomatch h
theorem fenceW (seat : SeatIx) : Statement (.fenceW seat) := fun _ _ h => nomatch h
theorem fenceIo (seat : SeatIx) : Statement (.fenceIo seat) := fun _ _ h => nomatch h
theorem fenceStg (seat : SeatIx) : Statement (.fenceStg seat) := fun _ _ h => nomatch h
theorem fenceI (seat : SeatIx) : Statement (.fenceI seat) := fun _ _ h => nomatch h
theorem fenceComplete (seat : SeatIx) : Statement (.fenceComplete seat) := fun _ _ h => nomatch h
theorem stgL (seat : SeatIx) (rd ra rc : SReg) (unit : BitVec 3) (notify : Bool) (wd w0 w1 w2 w3 : WReg) : Statement (.stgL seat rd ra rc unit notify wd w0 w1 w2 w3) := fun _ _ h => nomatch h
theorem stgAccept (seat : SeatIx) : Statement (.stgAccept seat) := fun _ _ h => nomatch h
theorem wpos (seat : SeatIx) (rd ra : SReg) (web : BitVec 2) : Statement (.wpos seat rd ra web) := fun _ _ h => nomatch h
theorem wposComplete (seat : SeatIx) : Statement (.wposComplete seat) := fun _ _ h => nomatch h
theorem tenantAccessReturn (seat : SeatIx) (late : Bool) (errs : PageErrs) : Statement (.tenantAccessReturn seat late errs) := fun _ _ h => nomatch h
theorem takeAsyncEvent (seat : SeatIx) : Statement (.takeAsyncEvent seat) := fun _ _ h => nomatch h
theorem quantumExpiry (seat : SeatIx) : Statement (.quantumExpiry seat) := fun _ _ h => nomatch h
theorem timerExpiry (seat : SeatIx) : Statement (.timerExpiry seat) := fun _ _ h => nomatch h
theorem issueFrameBoundary (e : SeIx) (c : CoreIx) : Statement (.issueFrameBoundary e c) := fun _ _ h => nomatch h
theorem haltRelease (who : Requester) (e : SeIx) (pos : BitVec 7) : Statement (.haltRelease who e pos) := fun _ _ h => nomatch h
theorem supplyGoodBoot (ref0 ref1 : Bool) : Statement (.supplyGoodBoot ref0 ref1) := fun _ _ h => nomatch h
theorem runpgRise (trained : BitVec 8) (pass : BitVec 5) : Statement (.runpgRise trained pass) := fun _ _ h => nomatch h
theorem hostsAttach : Statement .hostsAttach := fun _ _ h => nomatch h
theorem runpgTimeout : Statement .runpgTimeout := fun _ _ h => nomatch h
theorem burnKey (who : Requester) : Statement (.burnKey who) := fun _ _ h => nomatch h
theorem burnRollback (who : Requester) : Statement (.burnRollback who) := fun _ _ h => nomatch h
theorem fuseBurnEnd (ok : Bool) : Statement (.fuseBurnEnd ok) := fun _ _ h => nomatch h
theorem ownerInstall (who : Requester) (lo hi : W32) (errs : PageErrs) : Statement (.ownerInstall who lo hi errs) := fun _ _ h => nomatch h
theorem ownerInstallApply : Statement .ownerInstallApply := fun _ _ h => nomatch h
theorem hostRd (h : RxHdr) (payload : List Byte) (errs : PageErrs) : Statement (.hostRd h payload errs) := fun _ _ h => nomatch h
theorem hostWr (h : RxHdr) (payload : List Byte) : Statement (.hostWr h payload) := fun _ _ h => nomatch h
theorem doorbellWrite (who : Requester) (d : DomIx) (n : BitVec 6) (value : W32) : Statement (.doorbellWrite who d n value) := fun _ _ h => nomatch h
theorem dbrouteWrite (who : Requester) (d : DomIx) (n : BitVec 6) (value : W32) : Statement (.dbrouteWrite who d n value) := fun _ _ h => nomatch h
theorem seatcmdStart (who : Requester) (d : DomIx) (seat : BitVec 10) (tag : BitVec 11) (entry : BitVec 40) : Statement (.seatcmdStart who d seat tag entry) := fun _ _ h => nomatch h
theorem seatcmdStop (who : Requester) (d : DomIx) (seat : BitVec 10) (tag : BitVec 11) : Statement (.seatcmdStop who d seat tag) := fun _ _ h => nomatch h
theorem seatStopBoundary (seat : SeatIx) : Statement (.seatStopBoundary seat) := fun _ _ h => nomatch h
theorem seatcmdPreempt (who : Requester) (d : DomIx) (seat : BitVec 10) (tag : BitVec 11) : Statement (.seatcmdPreempt who d seat tag) := fun _ _ h => nomatch h
theorem seatcmdUnassigned (who : Requester) (d : DomIx) (cmd : BitVec 3) (seat : BitVec 10) (tag : BitVec 11) : Statement (.seatcmdUnassigned who d cmd seat tag) := fun _ _ h => nomatch h
theorem nqCtlWrite (who : Requester) (d : DomIx) (value : W32) : Statement (.nqCtlWrite who d value) := fun _ _ h => nomatch h
theorem throttleGraceEnd (g : GroupIx) (means : List (Nat × Nat)) : Statement (.throttleGraceEnd g means) := fun _ _ h => nomatch h
theorem throttleRemeasure (g : GroupIx) (means : List (Nat × Nat)) : Statement (.throttleRemeasure g means) := fun _ _ h => nomatch h
theorem fabricMessage (cls : ClassIx) (src dst : RouterIx) (cells : Nat) (expects : Bool) : Statement (.fabricMessage cls src dst cells expects) := fun _ _ h => nomatch h
theorem linkCellFail (link : FabLinkIx) : Statement (.linkCellFail link) := fun _ _ h => nomatch h
theorem fabFenceSet (who : Requester) (islands : W32) : Statement (.fabFenceSet who islands) := fun _ _ h => nomatch h
theorem fabFenceClr (who : Requester) (islands : W32) : Statement (.fabFenceClr who islands) := fun _ _ h => nomatch h
theorem pageLockRequest (page : Nat) (holder : HolderIx) : Statement (.pageLockRequest page holder) := fun _ _ h => nomatch h
theorem pageUnlock (page : Nat) (holder : HolderIx) : Statement (.pageUnlock page holder) := fun _ _ h => nomatch h
theorem pageLockExpiry (page : Nat) : Statement (.pageLockExpiry page) := fun _ _ h => nomatch h
theorem scrubPage (stack : StackIx) (errs copyErrs : Nat) : Statement (.scrubPage stack errs copyErrs) := fun _ _ h => nomatch h
theorem memPassStart (who : Requester) : Statement (.memPassStart who) := fun _ _ h => nomatch h
theorem memPassAbort (who : Requester) (visited : Nat) (errs : PageErrs) : Statement (.memPassAbort who visited errs) := fun _ _ h => nomatch h
theorem memPassDone (errs : PageErrs) : Statement (.memPassDone errs) := fun _ _ h => nomatch h
theorem mirrorEnable (who : Requester) (k : RegionIx) : Statement (.mirrorEnable who k) := fun _ _ h => nomatch h
theorem mirrorDisable (who : Requester) (k : RegionIx) : Statement (.mirrorDisable who k) := fun _ _ h => nomatch h
theorem resilverDone (k : RegionIx) : Statement (.resilverDone k) := fun _ _ h => nomatch h
theorem regionStrengthWrite (who : Requester) (k : RegionIx) (strength : BitVec 2) : Statement (.regionStrengthWrite who k strength) := fun _ _ h => nomatch h
theorem reencodeDone (k : RegionIx) : Statement (.reencodeDone k) := fun _ _ h => nomatch h
theorem encEdge (web : WebIx) (a b : Bool) (t : W64) : Statement (.encEdge web a b t) := fun _ _ h => nomatch h
theorem encIndexEdge (web : WebIx) (t : W64) : Statement (.encIndexEdge web t) := fun _ _ h => nomatch h
theorem edgeSynthesis (web : WebIx) : Statement (.edgeSynthesis web) := fun _ _ h => nomatch h
theorem positionBroadcast (t : W64) : Statement (.positionBroadcast t) := fun _ _ h => nomatch h
theorem webEnable (web : WebIx) : Statement (.webEnable web) := fun _ _ h => nomatch h
theorem webDisable (web : WebIx) : Statement (.webDisable web) := fun _ _ h => nomatch h
theorem posSet (web : WebIx) : Statement (.posSet web) := fun _ _ h => nomatch h
theorem posResume (web : WebIx) : Statement (.posResume web) := fun _ _ h => nomatch h
theorem posClrcnt (web : WebIx) : Statement (.posClrcnt web) := fun _ _ h => nomatch h
theorem tofEdge (tof : WebIx) (t : W64) : Statement (.tofEdge tof t) := fun _ _ h => nomatch h
theorem tofPop (tof : WebIx) : Statement (.tofPop tof) := fun _ _ h => nomatch h
theorem markCtlWrite (slot : MarkIx) (value : W32) : Statement (.markCtlWrite slot value) := fun _ _ h => nomatch h
theorem psamplePublish (web : WebIx) : Statement (.psamplePublish web) := fun _ _ h => nomatch h
theorem ringSampleTimeout (web : WebIx) : Statement (.ringSampleTimeout web) := fun _ _ h => nomatch h
theorem lcuWorkStart (e : SeIx) : Statement (.lcuWorkStart e) := fun _ _ h => nomatch h
theorem lcuReadyPoll (e : SeIx) : Statement (.lcuReadyPoll e) := fun _ _ h => nomatch h
theorem lcuBoundaryDecision (e : SeIx) : Statement (.lcuBoundaryDecision e) := fun _ _ h => nomatch h
theorem lcuLine (e : SeIx) : Statement (.lcuLine e) := fun _ _ h => nomatch h
theorem ccuWorkStart (e : SeIx) : Statement (.ccuWorkStart e) := fun _ _ h => nomatch h
theorem ccuLine (e : SeIx) : Statement (.ccuLine e) := fun _ _ h => nomatch h
theorem scuWorkStart (e : SeIx) : Statement (.scuWorkStart e) := fun _ _ h => nomatch h
theorem scuLine (e : SeIx) : Statement (.scuLine e) := fun _ _ h => nomatch h
theorem nmuWorkStart (e : SeIx) : Statement (.nmuWorkStart e) := fun _ _ h => nomatch h
theorem nmuLine (e : SeIx) : Statement (.nmuLine e) := fun _ _ h => nomatch h
theorem emuWorkStart (e : SeIx) : Statement (.emuWorkStart e) := fun _ _ h => nomatch h
theorem emuLineDue (e : SeIx) : Statement (.emuLineDue e) := fun _ _ h => nomatch h
theorem emuFire (e : SeIx) (board : Nat) : Statement (.emuFire e board) := fun _ _ h => nomatch h
theorem emuWebHalt (e : SeIx) : Statement (.emuWebHalt e) := fun _ _ h => nomatch h
theorem emuCancel (e : SeIx) : Statement (.emuCancel e) := fun _ _ h => nomatch h
theorem icuWorkStart (e : SeIx) : Statement (.icuWorkStart e) := fun _ _ h => nomatch h
theorem gvspPacket (group : EthIx) (d : GvspDatagram) : Statement (.gvspPacket group d) := fun _ _ h => nomatch h
theorem icuLineCompare (e : SeIx) : Statement (.icuLineCompare e) := fun _ _ h => nomatch h
theorem icuLineTimeout (e : SeIx) : Statement (.icuLineTimeout e) := fun _ _ h => nomatch h
theorem icuEvaluate (e : SeIx) (stores : List (Nat × Nat × W64)) : Statement (.icuEvaluate e stores) := fun _ _ h => nomatch h
theorem icuLock (e : SeIx) : Statement (.icuLock e) := fun _ _ h => nomatch h
theorem icuLockDone (e : SeIx) : Statement (.icuLockDone e) := fun _ _ h => nomatch h
theorem icuAdjWrite (e : SeIx) (value : W32) : Statement (.icuAdjWrite e value) := fun _ _ h => nomatch h
theorem icuCancel (e : SeIx) : Statement (.icuCancel e) := fun _ _ h => nomatch h
theorem icuStreamStale (e : SeIx) (stream : StreamIx) : Statement (.icuStreamStale e stream) := fun _ _ h => nomatch h
theorem stagedRegisterWrite (who : Requester) (addr : Nat) (value : W32) : Statement (.stagedRegisterWrite who addr value) := fun _ _ h => nomatch h
theorem stageCommit (who : Requester) (d : DomIx) : Statement (.stageCommit who d) := fun _ _ h => nomatch h
theorem stageArm (who : Requester) (d : DomIx) : Statement (.stageArm who d) := fun _ _ h => nomatch h
theorem loadListDone (d : DomIx) : Statement (.loadListDone d) := fun _ _ h => nomatch h
theorem stageCancel (who : Requester) (d : DomIx) : Statement (.stageCancel who d) := fun _ _ h => nomatch h
theorem stageDiscard (who : Requester) (d : DomIx) : Statement (.stageDiscard who d) := fun _ _ h => nomatch h
theorem sprRotate (who : Requester) : Statement (.sprRotate who) := fun _ _ h => nomatch h
theorem rotationDue : Statement .rotationDue := fun _ _ h => nomatch h
theorem sprAbort (who : Requester) : Statement (.sprAbort who) := fun _ _ h => nomatch h
theorem sprRetest (who : Requester) (e : SeIx) : Statement (.sprRetest who e) := fun _ _ h => nomatch h
theorem sprFail (who : Requester) (e : SeIx) : Statement (.sprFail who e) := fun _ _ h => nomatch h
theorem shadowTimeout : Statement .shadowTimeout := fun _ _ h => nomatch h
theorem handoff : Statement .handoff := fun _ _ h => nomatch h
theorem selfTestEnd (e : SeIx) (pass : Bool) : Statement (.selfTestEnd e pass) := fun _ _ h => nomatch h
theorem emissionWatchdog (e : SeIx) : Statement (.emissionWatchdog e) := fun _ _ h => nomatch h
theorem engineFatalError (e : SeIx) : Statement (.engineFatalError e) := fun _ _ h => nomatch h
theorem recoverComplete (e : SeIx) : Statement (.recoverComplete e) := fun _ _ h => nomatch h
theorem sprRecWrite (who : Requester) (swath : WebIx) (lo hi : W32) : Statement (.sprRecWrite who swath lo hi) := fun _ _ h => nomatch h
theorem laneSignalDetect (lane : LaneIx) : Statement (.laneSignalDetect lane) := fun _ _ h => nomatch h
theorem laneLock (lane : LaneIx) (blane : Nat) : Statement (.laneLock lane blane) := fun _ _ h => nomatch h
theorem laneAdaptDone (lane : LaneIx) : Statement (.laneAdaptDone lane) := fun _ _ h => nomatch h
theorem markerSend (lane : LaneIx) : Statement (.markerSend lane) := fun _ _ h => nomatch h
theorem rxMarker (lane : LaneIx) (m : Marker) (inv mcrcOk : Bool) : Statement (.rxMarker lane m inv mcrcOk) := fun _ _ h => nomatch h
theorem laneFail (lane : LaneIx) (why : LaneFailure) : Statement (.laneFail lane why) := fun _ _ h => nomatch h
theorem laneRejoin (lane : LaneIx) : Statement (.laneRejoin lane) := fun _ _ h => nomatch h
theorem portHoldExpiry (link : LinkIx) : Statement (.portHoldExpiry link) := fun _ _ h => nomatch h
theorem trainSendTick (link : LinkIx) : Statement (.trainSendTick link) := fun _ _ h => nomatch h
theorem rxTrain (link : LinkIx) (t : Train) : Statement (.rxTrain link t) := fun _ _ h => nomatch h
theorem rxCorruptFrame (link : LinkIx) (what : Corruption) : Statement (.rxCorruptFrame link what) := fun _ _ h => nomatch h
theorem rxCred (link : LinkIx) (crcls crcount : Nat) : Statement (.rxCred link crcls crcount) := fun _ _ h => nomatch h
theorem rxAck (link : LinkIx) (cls : ClassIx) (seq : W32) (crcls crcount : Nat) : Statement (.rxAck link cls seq crcls crcount) := fun _ _ h => nomatch h
theorem rxNak (link : LinkIx) (cls : ClassIx) (seq : W32) (crcls crcount : Nat) : Statement (.rxNak link cls seq crcls crcount) := fun _ _ h => nomatch h
theorem ackSend (link : LinkIx) (cls : ClassIx) : Statement (.ackSend link cls) := fun _ _ h => nomatch h
theorem creditReport (link : LinkIx) (cls : ClassIx) : Statement (.creditReport link cls) := fun _ _ h => nomatch h
theorem rtoExpiry (link : LinkIx) (cls : ClassIx) : Statement (.rtoExpiry link cls) := fun _ _ h => nomatch h
theorem frameSend (link : LinkIx) : Statement (.frameSend link) := fun _ _ h => nomatch h
theorem ethFrameRx (group : EthIx) (f : EthFrame) : Statement (.ethFrameRx group f) := fun _ _ h => nomatch h
theorem ethArpRequest (group : EthIx) (targetIp senderIp : W32) (senderMac : BitVec 48) : Statement (.ethArpRequest group targetIp senderIp senderMac) := fun _ _ h => nomatch h
theorem ethLinkUp (group : EthIx) : Statement (.ethLinkUp group) := fun _ _ h => nomatch h
theorem ethLinkDown (group : EthIx) : Statement (.ethLinkDown group) := fun _ _ h => nomatch h
theorem laneRefclkLoss (complex : Nat) : Statement (.laneRefclkLoss complex) := fun _ _ h => nomatch h
theorem rngEnable : Statement .rngEnable := fun _ _ h => nomatch h
theorem rngDisable : Statement .rngDisable := fun _ _ h => nomatch h
theorem linkSendTick : Statement .linkSendTick := fun _ _ h => nomatch h
theorem rxLink (h : RxHdr) (payload : List Byte) : Statement (.rxLink h payload) := fun _ _ h => nomatch h
theorem announceSendTick : Statement .announceSendTick := fun _ _ h => nomatch h
theorem rxAnnounce (h : RxHdr) (payload : List Byte) : Statement (.rxAnnounce h payload) := fun _ _ h => nomatch h
theorem heartbeatSendTick : Statement .heartbeatSendTick := fun _ _ h => nomatch h
theorem rxHeartbeat (h : RxHdr) (payload : List Byte) : Statement (.rxHeartbeat h payload) := fun _ _ h => nomatch h
theorem rxAssign (h : RxHdr) (payload : List Byte) : Statement (.rxAssign h payload) := fun _ _ h => nomatch h
theorem rxEpochData (h : RxHdr) (payload : List Byte) : Statement (.rxEpochData h payload) := fun _ _ h => nomatch h
theorem rxEpochCommit (h : RxHdr) (payload : List Byte) : Statement (.rxEpochCommit h payload) := fun _ _ h => nomatch h
theorem rxEpochReq (h : RxHdr) (payload : List Byte) : Statement (.rxEpochReq h payload) := fun _ _ h => nomatch h
theorem tsyncSendTick : Statement .tsyncSendTick := fun _ _ h => nomatch h
theorem rxTsync (h : RxHdr) (payload : List Byte) (t : W64) : Statement (.rxTsync h payload t) := fun _ _ h => nomatch h
theorem dlyreqSendTick : Statement .dlyreqSendTick := fun _ _ h => nomatch h
theorem rxDlyreq (h : RxHdr) (payload : List Byte) (t : W64) : Statement (.rxDlyreq h payload t) := fun _ _ h => nomatch h
theorem rxDlyrsp (h : RxHdr) (payload : List Byte) (t : W64) : Statement (.rxDlyrsp h payload t) := fun _ _ h => nomatch h
theorem rxRingSnap (h : RxHdr) (payload : List Byte) : Statement (.rxRingSnap h payload) := fun _ _ h => nomatch h
theorem rxRmark (h : RxHdr) (payload : List Byte) : Statement (.rxRmark h payload) := fun _ _ h => nomatch h
theorem rxPsample (h : RxHdr) (payload : List Byte) : Statement (.rxPsample h payload) := fun _ _ h => nomatch h
theorem rxMbx (h : RxHdr) (payload : List Byte) : Statement (.rxMbx h payload) := fun _ _ h => nomatch h
theorem klossExpiry : Statement .klossExpiry := fun _ _ h => nomatch h
theorem electtExpiry : Statement .electtExpiry := fun _ _ h => nomatch h
theorem holdoverExpiry : Statement .holdoverExpiry := fun _ _ h => nomatch h
theorem routeExpiry (node : NodeIx) : Statement (.routeExpiry node) := fun _ _ h => nomatch h
theorem epochDistribute : Statement .epochDistribute := fun _ _ h => nomatch h
theorem epochAbort : Statement .epochAbort := fun _ _ h => nomatch h
theorem epochCommitTimeout : Statement .epochCommitTimeout := fun _ _ h => nomatch h
theorem epochApply : Statement .epochApply := fun _ _ h => nomatch h
theorem ringSnapSend : Statement .ringSnapSend := fun _ _ h => nomatch h
theorem ringSnapTime : Statement .ringSnapTime := fun _ _ h => nomatch h
theorem rmarkAction : Statement .rmarkAction := fun _ _ h => nomatch h
theorem mailboxSend (who : Requester) (d : DomIx) : Statement (.mailboxSend who d) := fun _ _ h => nomatch h
theorem mailboxTimeout (snode sdom : Nat) (ddom : DomIx) (msgid : W32) : Statement (.mailboxTimeout snode sdom ddom msgid) := fun _ _ h => nomatch h
theorem tuFrame (n : TuIx) (pages : List Nat) (late : Bool) : Statement (.tuFrame n pages late) := fun _ _ h => nomatch h
theorem tuCal (n : TuIx) : Statement (.tuCal n) := fun _ _ h => nomatch h
theorem tuAbort (n : TuIx) : Statement (.tuAbort n) := fun _ _ h => nomatch h
theorem tuLoad (n : TuIx) : Statement (.tuLoad n) := fun _ _ h => nomatch h
theorem tuSave (n : TuIx) : Statement (.tuSave n) := fun _ _ h => nomatch h
theorem tuLoadDone (n : TuIx) (errs : PageErrs) : Statement (.tuLoadDone n errs) := fun _ _ h => nomatch h
theorem tuSaveDone (n : TuIx) : Statement (.tuSaveDone n) := fun _ _ h => nomatch h
theorem tuMoveResult (n : TuIx) : Statement (.tuMoveResult n) := fun _ _ h => nomatch h
theorem tuMoveTimeout (n : TuIx) : Statement (.tuMoveTimeout n) := fun _ _ h => nomatch h
theorem tuHoldoffExpiry (n : TuIx) : Statement (.tuHoldoffExpiry n) := fun _ _ h => nomatch h
theorem tuDomWrite (who : Requester) (n : TuIx) (value : W32) : Statement (.tuDomWrite who n value) := fun _ _ h => nomatch h
theorem spEnable (port : SpIx) (value : W32) : Statement (.spEnable port value) := fun _ _ h => nomatch h
theorem spVsyncStart (port : SpIx) (t : W64) : Statement (.spVsyncStart port t) := fun _ _ h => nomatch h
theorem spRow (port : SpIx) (words : List (BitVec 16)) : Statement (.spRow port words) := fun _ _ h => nomatch h
theorem spFrameClose (port : SpIx) : Statement (.spFrameClose port) := fun _ _ h => nomatch h
theorem spFrameTimeout (port : SpIx) : Statement (.spFrameTimeout port) := fun _ _ h => nomatch h
theorem spPclkLoss (port : SpIx) : Statement (.spPclkLoss port) := fun _ _ h => nomatch h
theorem cpFrame (n : CpIx) (lateF lateS : Bool) : Statement (.cpFrame n lateF lateS) := fun _ _ h => nomatch h
theorem cpLoad (n : CpIx) : Statement (.cpLoad n) := fun _ _ h => nomatch h
theorem cpLoadDone (n : CpIx) (errs : PageErrs) : Statement (.cpLoadDone n errs) := fun _ _ h => nomatch h
theorem cpDomWrite (who : Requester) (n : CpIx) (value : W32) : Statement (.cpDomWrite who n value) := fun _ _ h => nomatch h
theorem lockstepMismatch : Statement .lockstepMismatch := fun _ _ h => nomatch h
theorem plantRestartDone : Statement .plantRestartDone := fun _ _ h => nomatch h
theorem soDemandChange (so : SoIx) : Statement (.soDemandChange so) := fun _ _ h => nomatch h
theorem soMinTimeExpiry (so : SoIx) : Statement (.soMinTimeExpiry so) := fun _ _ h => nomatch h
theorem moSlewTick (mo : ZoneIx) : Statement (.moSlewTick mo) := fun _ _ h => nomatch h
theorem presSample (levels : BitVec 4) : Statement (.presSample levels) := fun _ _ h => nomatch h
theorem rtcSecond : Statement .rtcSecond := fun _ _ h => nomatch h
theorem rtcSecWrite (value : BitVec 40) : Statement (.rtcSecWrite value) := fun _ _ h => nomatch h
theorem aonTzWrite (value : BitVec 16) : Statement (.aonTzWrite value) := fun _ _ h => nomatch h
theorem calDateRead (who : Requester) : Statement (.calDateRead who) := fun _ _ h => nomatch h
theorem scheduleMinute : Statement .scheduleMinute := fun _ _ h => nomatch h
theorem occholdExpiry (zone : ZoneIx) : Statement (.occholdExpiry zone) := fun _ _ h => nomatch h
theorem pltCzOvrWrite (zone : ZoneIx) (value : W32) : Statement (.pltCzOvrWrite zone value) := fun _ _ h => nomatch h
theorem vaonLoss : Statement .vaonLoss := fun _ _ h => nomatch h
theorem vaonReturn : Statement .vaonReturn := fun _ _ h => nomatch h
theorem oscStop : Statement .oscStop := fun _ _ h => nomatch h
theorem pltHbWrite (who : Requester) : Statement (.pltHbWrite who) := fun _ _ h => nomatch h
theorem heartbeatLapse : Statement .heartbeatLapse := fun _ _ h => nomatch h
theorem bbEnable (port : BbIx) : Statement (.bbEnable port) := fun _ _ h => nomatch h
theorem bbFrameRx (port : BbIx) (f : BusFrame) : Statement (.bbFrameRx port f) := fun _ _ h => nomatch h
theorem bbTokenRx (port : BbIx) : Statement (.bbTokenRx port) := fun _ _ h => nomatch h
theorem bbFrameTx (port : BbIx) (collide : Bool) : Statement (.bbFrameTx port collide) := fun _ _ h => nomatch h
theorem bbReplyDelayExpiry (port : BbIx) : Statement (.bbReplyDelayExpiry port) := fun _ _ h => nomatch h
theorem bbNoTokenExpiry (port : BbIx) : Statement (.bbNoTokenExpiry port) := fun _ _ h => nomatch h
theorem bbReplyTimeout (port : BbIx) : Statement (.bbReplyTimeout port) := fun _ _ h => nomatch h
theorem bbUsageTimeout (port : BbIx) : Statement (.bbUsageTimeout port) := fun _ _ h => nomatch h
theorem bbFrameAbort (port : BbIx) : Statement (.bbFrameAbort port) := fun _ _ h => nomatch h
theorem bbStuck (port : BbIx) : Statement (.bbStuck port) := fun _ _ h => nomatch h
theorem bbStuckClear (port : BbIx) : Statement (.bbStuckClear port) := fun _ _ h => nomatch h
theorem leTimedEvaluate (le : LeIx) : Statement (.leTimedEvaluate le) := fun _ _ h => nomatch h
theorem leFeedbackArrival (le : LeIx) (x : W32) : Statement (.leFeedbackArrival le x) := fun _ _ h => nomatch h
theorem leMissedEvaluation (le : LeIx) : Statement (.leMissedEvaluation le) := fun _ _ h => nomatch h
theorem lePublish (le : LeIx) : Statement (.lePublish le) := fun _ _ h => nomatch h
theorem leFbinWrite (le : LeIx) (x : W32) : Statement (.leFbinWrite le x) := fun _ _ h => nomatch h
theorem leCmdReset (le : LeIx) : Statement (.leCmdReset le) := fun _ _ h => nomatch h
theorem leClrpl (le : LeIx) : Statement (.leClrpl le) := fun _ _ h => nomatch h
theorem leTstart (le : LeIx) : Statement (.leTstart le) := fun _ _ h => nomatch h
theorem leTstop (le : LeIx) : Statement (.leTstop le) := fun _ _ h => nomatch h
theorem leCapStart : Statement .leCapStart := fun _ _ h => nomatch h
theorem leCapStop : Statement .leCapStop := fun _ _ h => nomatch h
theorem vSenseSample (ch : VIxCh) (raw : BitVec 14) : Statement (.vSenseSample ch raw) := fun _ _ h => nomatch h
theorem vMoveWindowEnd (ch : VIxCh) : Statement (.vMoveWindowEnd ch) := fun _ _ h => nomatch h
theorem vThermalTick (ch : VIxCh) : Statement (.vThermalTick ch) := fun _ _ h => nomatch h
theorem vClrtrip (ch : VIxCh) : Statement (.vClrtrip ch) := fun _ _ h => nomatch h
theorem vShutterClose (ch : VIxCh) (unit : TuIx) : Statement (.vShutterClose ch unit) := fun _ _ h => nomatch h
theorem vShutterOpen (ch : VIxCh) (unit : TuIx) : Statement (.vShutterOpen ch unit) := fun _ _ h => nomatch h
theorem adcCtlWrite (value : W32) : Statement (.adcCtlWrite value) := fun _ _ h => nomatch h
theorem adcEntryComplete (raw : List (BitVec 24)) : Statement (.adcEntryComplete raw) := fun _ _ h => nomatch h
theorem adcCal : Statement .adcCal := fun _ _ h => nomatch h
theorem adcCalDone (ofs gain : List (BitVec 24)) : Statement (.adcCalDone ofs gain) := fun _ _ h => nomatch h
theorem fanTachEdge (fan : FanIx) (t : W64) : Statement (.fanTachEdge fan t) := fun _ _ h => nomatch h
theorem fanTachTimeout (fan : FanIx) : Statement (.fanTachTimeout fan) := fun _ _ h => nomatch h
theorem fanUpdate (fan : FanIx) : Statement (.fanUpdate fan) := fun _ _ h => nomatch h
theorem fanClrfail (fan : FanIx) : Statement (.fanClrfail fan) := fun _ _ h => nomatch h
theorem spiGo (port : SpiIx) : Statement (.spiGo port) := fun _ _ h => nomatch h
theorem spiTransferEnd (port : SpiIx) (words : List W32) (bits : Nat) (conflict : Bool) : Statement (.spiTransferEnd port words bits conflict) := fun _ _ h => nomatch h
theorem spiRwaitExpiry (port : SpiIx) : Statement (.spiRwaitExpiry port) := fun _ _ h => nomatch h
theorem spiLeaseExpiry (port : SpiIx) (words : List W32) (bits : Nat) : Statement (.spiLeaseExpiry port words bits) := fun _ _ h => nomatch h
theorem spiAbort (port : SpiIx) (words : List W32) (bits : Nat) : Statement (.spiAbort port words bits) := fun _ _ h => nomatch h
theorem spiReply (port : SpiIx) : Statement (.spiReply port) := fun _ _ h => nomatch h
theorem spiSlaveFrame (port : SpiIx) (words : List W32) (bits : Nat) : Statement (.spiSlaveFrame port words bits) := fun _ _ h => nomatch h
theorem spiCastle (port : SpiIx) : Statement (.spiCastle port) := fun _ _ h => nomatch h
theorem spiCreqPulled (port : SpiIx) : Statement (.spiCreqPulled port) := fun _ _ h => nomatch h
theorem spiCastleFrame (port : SpiIx) (other : Byte) (conflict : Bool) : Statement (.spiCastleFrame port other conflict) := fun _ _ h => nomatch h
theorem spiBackoffEnd (port : SpiIx) : Statement (.spiBackoffEnd port) := fun _ _ h => nomatch h
theorem spiDxMiss (off : Nat) : Statement (.spiDxMiss off) := fun _ _ h => nomatch h
theorem spiDxDisable : Statement .spiDxDisable := fun _ _ h => nomatch h
theorem faultRaise (src : SrcIx) (cls : Nat) (live : Bool) : Statement (.faultRaise src cls live) := fun _ _ h => nomatch h
theorem liveLineClear (src : SrcIx) : Statement (.liveLineClear src) := fun _ _ h => nomatch h
theorem safetyClearHold (src : SrcIx) : Statement (.safetyClearHold src) := fun _ _ h => nomatch h
theorem ugraceExpiry (src : SrcIx) : Statement (.ugraceExpiry src) := fun _ _ h => nomatch h
theorem fgraceExpiry (src : SrcIx) : Statement (.fgraceExpiry src) := fun _ _ h => nomatch h
theorem fcFirstClr (who : Requester) : Statement (.fcFirstClr who) := fun _ _ h => nomatch h
theorem fcHandlingWrite (who : Requester) (h : Bool) : Statement (.fcHandlingWrite who h) := fun _ _ h => nomatch h
theorem fcSwraise (who : Requester) (src : BitVec 4) (cls : BitVec 2) (live : Bool) : Statement (.fcSwraise who src cls live) := fun _ _ h => nomatch h
theorem ietFire (cause : Nat) : Statement (.ietFire cause) := fun _ _ h => nomatch h
theorem fcIetClear (who : Requester) (holds : Bool) : Statement (.fcIetClear who holds) := fun _ _ h => nomatch h
theorem safeInActive : Statement .safeInActive := fun _ _ h => nomatch h
theorem safeEnter (who : Requester) : Statement (.safeEnter who) := fun _ _ h => nomatch h
theorem safeRelease (who : Requester) : Statement (.safeRelease who) := fun _ _ h => nomatch h
theorem safeRestartDone : Statement .safeRestartDone := fun _ _ h => nomatch h
theorem safeResume (who : Requester) : Statement (.safeResume who) := fun _ _ h => nomatch h
theorem pipHalfPeriod : Statement .pipHalfPeriod := fun _ _ h => nomatch h
theorem tmpSample (g : GroupIx) (raw : List (BitVec 16)) : Statement (.tmpSample g raw) := fun _ _ h => nomatch h
theorem tmpSampleCmd (g : GroupIx) (raw : List (BitVec 16)) : Statement (.tmpSampleCmd g raw) := fun _ _ h => nomatch h
theorem tmpHistoryBoundary : Statement .tmpHistoryBoundary := fun _ _ h => nomatch h
theorem fixedTrip (tripped : W64) : Statement (.fixedTrip tripped) := fun _ _ h => nomatch h
theorem capUpdate (e : SeIx) (c : CoreIx) : Statement (.capUpdate e c) := fun _ _ h => nomatch h
theorem droopSag (island : IslandIx) : Statement (.droopSag island) := fun _ _ h => nomatch h
theorem stretchRecoverStep (island : IslandIx) : Statement (.stretchRecoverStep island) := fun _ _ h => nomatch h
theorem stretchWindowOver (island : IslandIx) : Statement (.stretchWindowOver island) := fun _ _ h => nomatch h
theorem railOutOfBand (rail : Nat) (high : Bool) : Statement (.railOutOfBand rail high) := fun _ _ h => nomatch h
theorem sysrefLoss (input : BitVec 1) : Statement (.sysrefLoss input) := fun _ _ h => nomatch h
theorem clockMonitorWindow (island : IslandIx) (off : Bool) : Statement (.clockMonitorWindow island off) := fun _ _ h => nomatch h
theorem sefreqWrite (value : W32) : Statement (.sefreqWrite value) := fun _ _ h => nomatch h
theorem calExport (who : Requester) : Statement (.calExport who) := fun _ _ h => nomatch h
theorem calImport (who : Requester) : Statement (.calImport who) := fun _ _ h => nomatch h
theorem calCommandDone (errs : PageErrs) : Statement (.calCommandDone errs) := fun _ _ h => nomatch h
theorem snpArm : Statement .snpArm := fun _ _ h => nomatch h
theorem snpTrig : Statement .snpTrig := fun _ _ h => nomatch h
theorem snapinEdge (t : W64) : Statement (.snapinEdge t) := fun _ _ h => nomatch h
theorem snapshotDone : Statement .snapshotDone := fun _ _ h => nomatch h
theorem snpDbgWrite (who : Requester) (value : W32) : Statement (.snpDbgWrite who value) := fun _ _ h => nomatch h
theorem tapReset : Statement .tapReset := fun _ _ h => nomatch h
theorem tapIdcode : Statement .tapIdcode := fun _ _ h => nomatch h
theorem tapSamplePreload : Statement .tapSamplePreload := fun _ _ h => nomatch h
theorem tapExtest : Statement .tapExtest := fun _ _ h => nomatch h
theorem tapHighz : Statement .tapHighz := fun _ _ h => nomatch h
theorem tapClamp : Statement .tapClamp := fun _ _ h => nomatch h
theorem tapDbgacc : Statement .tapDbgacc := fun _ _ h => nomatch h
theorem tapBypass : Statement .tapBypass := fun _ _ h => nomatch h
theorem dbgNop : Statement .dbgNop := fun _ _ h => nomatch h
theorem dbgRead (addr : BitVec 48) (errs : PageErrs) : Statement (.dbgRead addr errs) := fun _ _ h => nomatch h
theorem dbgWrite (addr : BitVec 48) (data : W32) : Statement (.dbgWrite addr data) := fun _ _ h => nomatch h
theorem dbgHalt (addr : BitVec 48) : Statement (.dbgHalt addr) := fun _ _ h => nomatch h
theorem dbgRelease (addr : BitVec 48) : Statement (.dbgRelease addr) := fun _ _ h => nomatch h
theorem dbgCommandDone : Statement .dbgCommandDone := fun _ _ h => nomatch h
theorem porNLow : Statement .porNLow := fun _ _ h => nomatch h
theorem vpltUndervoltage : Statement .vpltUndervoltage := fun _ _ h => nomatch h
theorem pltpgFall : Statement .pltpgFall := fun _ _ h => nomatch h
theorem sysRstCmd (who : Requester) : Statement (.sysRstCmd who) := fun _ _ h => nomatch h
theorem watchCmd (who : Requester) (force : Bool) : Statement (.watchCmd who force) := fun _ _ h => nomatch h
theorem runCmd (who : Requester) : Statement (.runCmd who) := fun _ _ h => nomatch h
theorem hibEnter (who : Requester) : Statement (.hibEnter who) := fun _ _ h => nomatch h
theorem wakeSource (src : BitVec 3) (active : Bool) : Statement (.wakeSource src active) := fun _ _ h => nomatch h
theorem seatAccessComplete (seat : SeatIx) (errs : PageErrs) : Statement (.seatAccessComplete seat errs) := fun _ _ h => nomatch h
theorem icuEvaluationDone (e : SeIx) : Statement (.icuEvaluationDone e) := fun _ _ h => nomatch h
theorem mtabEntryMissing (node : NodeIx) : Statement (.mtabEntryMissing node) := fun _ _ h => nomatch h
theorem sysrefLock (input : BitVec 1) : Statement (.sysrefLock input) := fun _ _ h => nomatch h
theorem generatorHoldoverEnd : Statement .generatorHoldoverEnd := fun _ _ h => nomatch h

end Sys2Proof.Laws.Words
end

