-- ==== Sys2Proof/WellFormed.lean ====
section
/-! DEFINITION. The static check of a command: the index ranges of R1, R45 and R77. -/

namespace Sys2Proof

/-- A seat ID names a seat of SE0 to SE4, C0 to C11, S0 to S7, or the plant thread (R45, R67). -/
def SeatIx.ok (i : SeatIx) : Bool :=
  i == 0x3FF || (decide (i / 128 < 5) && decide ((i / 8) % 16 < 12) && decide (i < 1024))

/-- A vector source names one of 32 registers. -/
def VSrc.ok : VSrc → Bool
  | .v n => decide (n < 32)
  | .s n => decide (n < 32)


/-- A received header's link and fields lie in their ranges (R337). -/
def RxHdr.ok (h : RxHdr) : Bool :=
  decide (h.link < 120) && decide (h.cls < 8) && decide (h.dnode < 4096) && decide (h.dport < 32) &&
  decide (h.snode < 4096) && decide (h.crcls < 8) && decide (h.crcount < 8192)

/-- A requester is a seat, a port or the debug path. -/
def Requester.ok : Requester → Bool
  | .seat i => i.ok
  | .host p => decide (p < 24)
  | .debug => true


/-- The static check of a command: every index names a unit, register or slot the largest variant has (R1). -/
def Instr.wf : Instr → Bool
  | .registerWrite who _ _ => Requester.ok who
  | .reg64LowRead who _ => Requester.ok who
  | .pairFirstWrite who _ _ => Requester.ok who
  | .pairSecondWrite who _ _ => Requester.ok who
  | .channelWordSend near far _ => decide (near < 26) && decide (far < 26)
  | .channelTimeout near far _ _ _ => decide (near < 26) && decide (far < 26)
  | .add seat rd ra rb => SeatIx.ok seat && decide (rd < 32) && decide (ra < 32) && decide (rb < 32)
  | .sub seat rd ra rb => SeatIx.ok seat && decide (rd < 32) && decide (ra < 32) && decide (rb < 32)
  | .and seat rd ra rb => SeatIx.ok seat && decide (rd < 32) && decide (ra < 32) && decide (rb < 32)
  | .or seat rd ra rb => SeatIx.ok seat && decide (rd < 32) && decide (ra < 32) && decide (rb < 32)
  | .xor seat rd ra rb => SeatIx.ok seat && decide (rd < 32) && decide (ra < 32) && decide (rb < 32)
  | .sll seat rd ra rb => SeatIx.ok seat && decide (rd < 32) && decide (ra < 32) && decide (rb < 32)
  | .srl seat rd ra rb => SeatIx.ok seat && decide (rd < 32) && decide (ra < 32) && decide (rb < 32)
  | .sra seat rd ra rb => SeatIx.ok seat && decide (rd < 32) && decide (ra < 32) && decide (rb < 32)
  | .slt seat rd ra rb => SeatIx.ok seat && decide (rd < 32) && decide (ra < 32) && decide (rb < 32)
  | .sltu seat rd ra rb => SeatIx.ok seat && decide (rd < 32) && decide (ra < 32) && decide (rb < 32)
  | .mul seat rd ra rb => SeatIx.ok seat && decide (rd < 32) && decide (ra < 32) && decide (rb < 32)
  | .mulhs seat rd ra rb => SeatIx.ok seat && decide (rd < 32) && decide (ra < 32) && decide (rb < 32)
  | .mulhu seat rd ra rb => SeatIx.ok seat && decide (rd < 32) && decide (ra < 32) && decide (rb < 32)
  | .div seat rd ra rb => SeatIx.ok seat && decide (rd < 32) && decide (ra < 32) && decide (rb < 32)
  | .divu seat rd ra rb => SeatIx.ok seat && decide (rd < 32) && decide (ra < 32) && decide (rb < 32)
  | .rem seat rd ra rb => SeatIx.ok seat && decide (rd < 32) && decide (ra < 32) && decide (rb < 32)
  | .remu seat rd ra rb => SeatIx.ok seat && decide (rd < 32) && decide (ra < 32) && decide (rb < 32)
  | .min seat rd ra rb => SeatIx.ok seat && decide (rd < 32) && decide (ra < 32) && decide (rb < 32)
  | .max seat rd ra rb => SeatIx.ok seat && decide (rd < 32) && decide (ra < 32) && decide (rb < 32)
  | .minu seat rd ra rb => SeatIx.ok seat && decide (rd < 32) && decide (ra < 32) && decide (rb < 32)
  | .maxu seat rd ra rb => SeatIx.ok seat && decide (rd < 32) && decide (ra < 32) && decide (rb < 32)
  | .clz seat rd ra => SeatIx.ok seat && decide (rd < 32) && decide (ra < 32)
  | .popc seat rd ra => SeatIx.ok seat && decide (rd < 32) && decide (ra < 32)
  | .addi seat rd ra _ => SeatIx.ok seat && decide (rd < 32) && decide (ra < 32)
  | .andi seat rd ra _ => SeatIx.ok seat && decide (rd < 32) && decide (ra < 32)
  | .ori seat rd ra _ => SeatIx.ok seat && decide (rd < 32) && decide (ra < 32)
  | .xori seat rd ra _ => SeatIx.ok seat && decide (rd < 32) && decide (ra < 32)
  | .slli seat rd ra _ => SeatIx.ok seat && decide (rd < 32) && decide (ra < 32)
  | .srli seat rd ra _ => SeatIx.ok seat && decide (rd < 32) && decide (ra < 32)
  | .srai seat rd ra _ => SeatIx.ok seat && decide (rd < 32) && decide (ra < 32)
  | .slti seat rd ra _ => SeatIx.ok seat && decide (rd < 32) && decide (ra < 32)
  | .sltiu seat rd ra _ => SeatIx.ok seat && decide (rd < 32) && decide (ra < 32)
  | .lui seat rd _ => SeatIx.ok seat && decide (rd < 32)
  | .liL seat rd _ => SeatIx.ok seat && decide (rd < 32)
  | .lihL seat rd _ => SeatIx.ok seat && decide (rd < 32)
  | .addiL seat rd ra _ => SeatIx.ok seat && decide (rd < 32) && decide (ra < 32)
  | .beq seat ra rb _ => SeatIx.ok seat && decide (ra < 32) && decide (rb < 32)
  | .bne seat ra rb _ => SeatIx.ok seat && decide (ra < 32) && decide (rb < 32)
  | .blt seat ra rb _ => SeatIx.ok seat && decide (ra < 32) && decide (rb < 32)
  | .bge seat ra rb _ => SeatIx.ok seat && decide (ra < 32) && decide (rb < 32)
  | .bltu seat ra rb _ => SeatIx.ok seat && decide (ra < 32) && decide (rb < 32)
  | .bgeu seat ra rb _ => SeatIx.ok seat && decide (ra < 32) && decide (rb < 32)
  | .jal seat rd _ => SeatIx.ok seat && decide (rd < 32)
  | .jalr seat rd ra _ => SeatIx.ok seat && decide (rd < 32) && decide (ra < 32)
  | .ldb seat rd w ra _ => SeatIx.ok seat && decide (rd < 32) && decide (w < 16) && decide (ra < 32)
  | .ldh seat rd w ra _ => SeatIx.ok seat && decide (rd < 32) && decide (w < 16) && decide (ra < 32)
  | .ldw seat rd w ra _ => SeatIx.ok seat && decide (rd < 32) && decide (w < 16) && decide (ra < 32)
  | .ldd seat rd w ra _ => SeatIx.ok seat && decide (rd < 32) && decide (w < 16) && decide (ra < 32)
  | .ldbs seat rd w ra _ => SeatIx.ok seat && decide (rd < 32) && decide (w < 16) && decide (ra < 32)
  | .ldhs seat rd w ra _ => SeatIx.ok seat && decide (rd < 32) && decide (w < 16) && decide (ra < 32)
  | .ldws seat rd w ra _ => SeatIx.ok seat && decide (rd < 32) && decide (w < 16) && decide (ra < 32)
  | .stb seat rs w ra _ => SeatIx.ok seat && decide (rs < 32) && decide (w < 16) && decide (ra < 32)
  | .sth seat rs w ra _ => SeatIx.ok seat && decide (rs < 32) && decide (w < 16) && decide (ra < 32)
  | .stw seat rs w ra _ => SeatIx.ok seat && decide (rs < 32) && decide (w < 16) && decide (ra < 32)
  | .std seat rs w ra _ => SeatIx.ok seat && decide (rs < 32) && decide (w < 16) && decide (ra < 32)
  | .atomSwap seat _ _ rd w ra rb => SeatIx.ok seat && decide (rd < 32) && decide (w < 16) && decide (ra < 32) && decide (rb < 32)
  | .atomAdd seat _ _ rd w ra rb => SeatIx.ok seat && decide (rd < 32) && decide (w < 16) && decide (ra < 32) && decide (rb < 32)
  | .atomAnd seat _ _ rd w ra rb => SeatIx.ok seat && decide (rd < 32) && decide (w < 16) && decide (ra < 32) && decide (rb < 32)
  | .atomOr seat _ _ rd w ra rb => SeatIx.ok seat && decide (rd < 32) && decide (w < 16) && decide (ra < 32) && decide (rb < 32)
  | .atomXor seat _ _ rd w ra rb => SeatIx.ok seat && decide (rd < 32) && decide (w < 16) && decide (ra < 32) && decide (rb < 32)
  | .atomMin seat _ _ rd w ra rb => SeatIx.ok seat && decide (rd < 32) && decide (w < 16) && decide (ra < 32) && decide (rb < 32)
  | .atomMax seat _ _ rd w ra rb => SeatIx.ok seat && decide (rd < 32) && decide (w < 16) && decide (ra < 32) && decide (rb < 32)
  | .atomMinu seat _ _ rd w ra rb => SeatIx.ok seat && decide (rd < 32) && decide (w < 16) && decide (ra < 32) && decide (rb < 32)
  | .atomMaxu seat _ _ rd w ra rb => SeatIx.ok seat && decide (rd < 32) && decide (w < 16) && decide (ra < 32) && decide (rb < 32)
  | .atomCas seat _ _ rd w ra rb => SeatIx.ok seat && decide (rd < 32) && decide (w < 16) && decide (ra < 32) && decide (rb < 32)
  | .ldAq seat _ rd w ra => SeatIx.ok seat && decide (rd < 32) && decide (w < 16) && decide (ra < 32)
  | .stRl seat _ w ra rb => SeatIx.ok seat && decide (w < 16) && decide (ra < 32) && decide (rb < 32)
  | .vadd seat vd va vb p _ => SeatIx.ok seat && decide (vd < 32) && decide (va < 32) && VSrc.ok vb && decide (p < 8)
  | .vsub seat vd va vb p _ => SeatIx.ok seat && decide (vd < 32) && decide (va < 32) && VSrc.ok vb && decide (p < 8)
  | .vmul seat vd va vb p _ => SeatIx.ok seat && decide (vd < 32) && decide (va < 32) && VSrc.ok vb && decide (p < 8)
  | .vmulh seat vd va vb p _ => SeatIx.ok seat && decide (vd < 32) && decide (va < 32) && VSrc.ok vb && decide (p < 8)
  | .vmulhu seat vd va vb p _ => SeatIx.ok seat && decide (vd < 32) && decide (va < 32) && VSrc.ok vb && decide (p < 8)
  | .vand seat vd va vb p _ => SeatIx.ok seat && decide (vd < 32) && decide (va < 32) && VSrc.ok vb && decide (p < 8)
  | .vor seat vd va vb p _ => SeatIx.ok seat && decide (vd < 32) && decide (va < 32) && VSrc.ok vb && decide (p < 8)
  | .vxor seat vd va vb p _ => SeatIx.ok seat && decide (vd < 32) && decide (va < 32) && VSrc.ok vb && decide (p < 8)
  | .vsll seat vd va vb p _ => SeatIx.ok seat && decide (vd < 32) && decide (va < 32) && VSrc.ok vb && decide (p < 8)
  | .vsrl seat vd va vb p _ => SeatIx.ok seat && decide (vd < 32) && decide (va < 32) && VSrc.ok vb && decide (p < 8)
  | .vsra seat vd va vb p _ => SeatIx.ok seat && decide (vd < 32) && decide (va < 32) && VSrc.ok vb && decide (p < 8)
  | .vmin seat vd va vb p _ => SeatIx.ok seat && decide (vd < 32) && decide (va < 32) && VSrc.ok vb && decide (p < 8)
  | .vmax seat vd va vb p _ => SeatIx.ok seat && decide (vd < 32) && decide (va < 32) && VSrc.ok vb && decide (p < 8)
  | .vminu seat vd va vb p _ => SeatIx.ok seat && decide (vd < 32) && decide (va < 32) && VSrc.ok vb && decide (p < 8)
  | .vmaxu seat vd va vb p _ => SeatIx.ok seat && decide (vd < 32) && decide (va < 32) && VSrc.ok vb && decide (p < 8)
  | .vaddss seat vd va vb p _ => SeatIx.ok seat && decide (vd < 32) && decide (va < 32) && VSrc.ok vb && decide (p < 8)
  | .vaddsu seat vd va vb p _ => SeatIx.ok seat && decide (vd < 32) && decide (va < 32) && VSrc.ok vb && decide (p < 8)
  | .vsubss seat vd va vb p _ => SeatIx.ok seat && decide (vd < 32) && decide (va < 32) && VSrc.ok vb && decide (p < 8)
  | .vsubsu seat vd va vb p _ => SeatIx.ok seat && decide (vd < 32) && decide (va < 32) && VSrc.ok vb && decide (p < 8)
  | .vavgu seat vd va vb p _ => SeatIx.ok seat && decide (vd < 32) && decide (va < 32) && VSrc.ok vb && decide (p < 8)
  | .vabsdu seat vd va vb p _ => SeatIx.ok seat && decide (vd < 32) && decide (va < 32) && VSrc.ok vb && decide (p < 8)
  | .vcmpEq seat pd va vb p _ => SeatIx.ok seat && decide (pd < 8) && decide (va < 32) && decide (vb < 32) && decide (p < 8)
  | .vcmpNe seat pd va vb p _ => SeatIx.ok seat && decide (pd < 8) && decide (va < 32) && decide (vb < 32) && decide (p < 8)
  | .vcmpLt seat pd va vb p _ => SeatIx.ok seat && decide (pd < 8) && decide (va < 32) && decide (vb < 32) && decide (p < 8)
  | .vcmpGe seat pd va vb p _ => SeatIx.ok seat && decide (pd < 8) && decide (va < 32) && decide (vb < 32) && decide (p < 8)
  | .vcmpLtu seat pd va vb p _ => SeatIx.ok seat && decide (pd < 8) && decide (va < 32) && decide (vb < 32) && decide (p < 8)
  | .vcmpGeu seat pd va vb p _ => SeatIx.ok seat && decide (pd < 8) && decide (va < 32) && decide (vb < 32) && decide (p < 8)
  | .vmv seat vd va p _ => SeatIx.ok seat && decide (vd < 32) && decide (va < 32) && decide (p < 8)
  | .vbcast seat vd sa p _ => SeatIx.ok seat && decide (vd < 32) && decide (sa < 32) && decide (p < 8)
  | .vext seat sd va sb p _ => SeatIx.ok seat && decide (sd < 32) && decide (va < 32) && decide (sb < 32) && decide (p < 8)
  | .vins seat vd sa sb p _ => SeatIx.ok seat && decide (vd < 32) && decide (sa < 32) && decide (sb < 32) && decide (p < 8)
  | .vslideup seat vd va sb p _ => SeatIx.ok seat && decide (vd < 32) && decide (va < 32) && decide (sb < 32) && decide (p < 8)
  | .vslidedn seat vd va sb p _ => SeatIx.ok seat && decide (vd < 32) && decide (va < 32) && decide (sb < 32) && decide (p < 8)
  | .vperm seat vd va vb p _ => SeatIx.ok seat && decide (vd < 32) && decide (va < 32) && decide (vb < 32) && decide (p < 8)
  | .vredsum seat sd va p _ => SeatIx.ok seat && decide (sd < 32) && decide (va < 32) && decide (p < 8)
  | .vredsumu seat sd va p _ => SeatIx.ok seat && decide (sd < 32) && decide (va < 32) && decide (p < 8)
  | .vredmin seat sd va p _ => SeatIx.ok seat && decide (sd < 32) && decide (va < 32) && decide (p < 8)
  | .vredmax seat sd va p _ => SeatIx.ok seat && decide (sd < 32) && decide (va < 32) && decide (p < 8)
  | .vredminu seat sd va p _ => SeatIx.ok seat && decide (sd < 32) && decide (va < 32) && decide (p < 8)
  | .vredmaxu seat sd va p _ => SeatIx.ok seat && decide (sd < 32) && decide (va < 32) && decide (p < 8)
  | .vmulsrL seat vd va vb p _ _ _ _ => SeatIx.ok seat && decide (vd < 32) && decide (va < 32) && decide (vb < 32) && decide (p < 8)
  | .vld seat vd w ra p _ => SeatIx.ok seat && decide (vd < 32) && decide (w < 16) && decide (ra < 32) && decide (p < 8)
  | .vst seat vd w ra p _ => SeatIx.ok seat && decide (vd < 32) && decide (w < 16) && decide (ra < 32) && decide (p < 8)
  | .vlds seat vd w ra rb p _ => SeatIx.ok seat && decide (vd < 32) && decide (w < 16) && decide (ra < 32) && decide (rb < 32) && decide (p < 8)
  | .vsts seat vd w ra rb p _ => SeatIx.ok seat && decide (vd < 32) && decide (w < 16) && decide (ra < 32) && decide (rb < 32) && decide (p < 8)
  | .vldx seat vd w ra vb p _ => SeatIx.ok seat && decide (vd < 32) && decide (w < 16) && decide (ra < 32) && decide (vb < 32) && decide (p < 8)
  | .vstx seat vd w ra vb p _ => SeatIx.ok seat && decide (vd < 32) && decide (w < 16) && decide (ra < 32) && decide (vb < 32) && decide (p < 8)
  | .pand seat pd pa pb => SeatIx.ok seat && decide (pd < 8) && decide (pa < 8) && decide (pb < 8)
  | .por seat pd pa pb => SeatIx.ok seat && decide (pd < 8) && decide (pa < 8) && decide (pb < 8)
  | .pxor seat pd pa pb => SeatIx.ok seat && decide (pd < 8) && decide (pa < 8) && decide (pb < 8)
  | .pandn seat pd pa pb => SeatIx.ok seat && decide (pd < 8) && decide (pa < 8) && decide (pb < 8)
  | .pnot seat pd pa => SeatIx.ok seat && decide (pd < 8) && decide (pa < 8)
  | .pset seat pd => SeatIx.ok seat && decide (pd < 8)
  | .pclr seat pd => SeatIx.ok seat && decide (pd < 8)
  | .pcnt seat sd pa _ => SeatIx.ok seat && decide (sd < 32) && decide (pa < 8)
  | .pfirst seat sd pa _ => SeatIx.ok seat && decide (sd < 32) && decide (pa < 8)
  | .setvl seat rd ra _ => SeatIx.ok seat && decide (rd < 32) && decide (ra < 32)
  | .wsub seat wd ws rb rc _ => SeatIx.ok seat && decide (wd < 16) && decide (ws < 16) && decide (rb < 32) && decide (rc < 32)
  | .wload seat wd sa sb => SeatIx.ok seat && decide (wd < 16) && decide (sa < 32) && decide (sb < 32)
  | .wrdlo seat sd wa => SeatIx.ok seat && decide (sd < 32) && decide (wa < 16)
  | .wrdhi seat sd wa => SeatIx.ok seat && decide (sd < 32) && decide (wa < 16)
  | .wget seat sd wa _ => SeatIx.ok seat && decide (sd < 32) && decide (wa < 16)
  | .wmov seat wd wa => SeatIx.ok seat && decide (wd < 16) && decide (wa < 16)
  | .wclr seat wd => SeatIx.ok seat && decide (wd < 16)
  | .wldm seat wd wa sb => SeatIx.ok seat && decide (wd < 16) && decide (wa < 16) && decide (sb < 32)
  | .wstm seat wd wa sb => SeatIx.ok seat && decide (wd < 16) && decide (wa < 16) && decide (sb < 32)
  | .cwload seat wa _ => SeatIx.ok seat && decide (wa < 16)
  | .ktset seat ra rb => SeatIx.ok seat && decide (ra < 32) && decide (rb < 32)
  | .ktsetRetire seat => SeatIx.ok seat
  | .bcopyL seat rd wd ws rdo rso rn _ => SeatIx.ok seat && decide (rd < 32) && decide (wd < 16) && decide (ws < 16) && decide (rdo < 32) && decide (rso < 32) && decide (rn < 32)
  | .bfillL seat rd wd rdo rv rn => SeatIx.ok seat && decide (rd < 32) && decide (wd < 16) && decide (rdo < 32) && decide (rv < 32) && decide (rn < 32)
  | .call seat _ => SeatIx.ok seat
  | .brk seat _ => SeatIx.ok seat
  | .tret seat => SeatIx.ok seat
  | .seatstop seat => SeatIx.ok seat
  | .plantSeatstopWake => true
  | .yield seat => SeatIx.ok seat
  | .rdtime seat rd => SeatIx.ok seat && decide (rd < 32)
  | .snap seat rd => SeatIx.ok seat && decide (rd < 32)
  | .scrd seat rd _ => SeatIx.ok seat && decide (rd < 32)
  | .scwr seat _ ra => SeatIx.ok seat && decide (ra < 32)
  | .scset seat _ ra => SeatIx.ok seat && decide (ra < 32)
  | .scclr seat _ ra => SeatIx.ok seat && decide (ra < 32)
  | .fenceRw seat => SeatIx.ok seat
  | .fenceR seat => SeatIx.ok seat
  | .fenceW seat => SeatIx.ok seat
  | .fenceIo seat => SeatIx.ok seat
  | .fenceStg seat => SeatIx.ok seat
  | .fenceI seat => SeatIx.ok seat
  | .fenceComplete seat => SeatIx.ok seat
  | .stgL seat rd ra rc _ _ wd w0 w1 w2 w3 => SeatIx.ok seat && decide (rd < 32) && decide (ra < 32) && decide (rc < 32) && decide (wd < 16) && decide (w0 < 16) && decide (w1 < 16) && decide (w2 < 16) && decide (w3 < 16)
  | .stgAccept seat => SeatIx.ok seat
  | .wpos seat rd ra _ => SeatIx.ok seat && decide (rd < 32) && decide (ra < 32)
  | .wposComplete seat => SeatIx.ok seat
  | .tenantAccessReturn seat _ _ => SeatIx.ok seat
  | .takeAsyncEvent seat => SeatIx.ok seat
  | .quantumExpiry seat => SeatIx.ok seat
  | .timerExpiry seat => SeatIx.ok seat
  | .issueFrameBoundary e c => decide (e < 5) && decide (c < 12)
  | .haltRelease who e _ => Requester.ok who && decide (e < 5)
  | .supplyGoodBoot _ _ => true
  | .runpgRise _ _ => true
  | .hostsAttach => true
  | .runpgTimeout => true
  | .burnKey who => Requester.ok who
  | .burnRollback who => Requester.ok who
  | .fuseBurnEnd _ => true
  | .ownerInstall who _ _ _ => Requester.ok who
  | .ownerInstallApply => true
  | .hostRd h _ _ => RxHdr.ok h
  | .hostWr h _ => RxHdr.ok h
  | .doorbellWrite who d _ _ => Requester.ok who && decide (d < 8)
  | .dbrouteWrite who d _ _ => Requester.ok who && decide (d < 8)
  | .seatcmdStart who d _ _ _ => Requester.ok who && decide (d < 8)
  | .seatcmdStop who d _ _ => Requester.ok who && decide (d < 8)
  | .seatStopBoundary seat => SeatIx.ok seat
  | .seatcmdPreempt who d _ _ => Requester.ok who && decide (d < 8)
  | .seatcmdUnassigned who d _ _ _ => Requester.ok who && decide (d < 8)
  | .nqCtlWrite who d _ => Requester.ok who && decide (d < 8)
  | .throttleGraceEnd g _ => decide (g < 16)
  | .throttleRemeasure g _ => decide (g < 16)
  | .fabricMessage cls src dst _ _ => decide (cls < 6) && decide (src < 48) && decide (dst < 48)
  | .linkCellFail link => decide (link < 192)
  | .fabFenceSet who _ => Requester.ok who
  | .fabFenceClr who _ => Requester.ok who
  | .pageLockRequest _ holder => decide (holder < 208)
  | .pageUnlock _ holder => decide (holder < 208)
  | .pageLockExpiry _ => true
  | .scrubPage stack _ _ => decide (stack < 8)
  | .memPassStart who => Requester.ok who
  | .memPassAbort who _ _ => Requester.ok who
  | .memPassDone _ => true
  | .mirrorEnable who k => Requester.ok who && decide (k < 16)
  | .mirrorDisable who k => Requester.ok who && decide (k < 16)
  | .resilverDone k => decide (k < 16)
  | .regionStrengthWrite who k _ => Requester.ok who && decide (k < 16)
  | .reencodeDone k => decide (k < 16)
  | .encEdge web _ _ _ => decide (web < 4)
  | .encIndexEdge web _ => decide (web < 4)
  | .edgeSynthesis web => decide (web < 4)
  | .positionBroadcast _ => true
  | .webEnable web => decide (web < 4)
  | .webDisable web => decide (web < 4)
  | .posSet web => decide (web < 4)
  | .posResume web => decide (web < 4)
  | .posClrcnt web => decide (web < 4)
  | .tofEdge tof _ => decide (tof < 4)
  | .tofPop tof => decide (tof < 4)
  | .markCtlWrite slot _ => decide (slot < 64)
  | .psamplePublish web => decide (web < 4)
  | .ringSampleTimeout web => decide (web < 4)
  | .lcuWorkStart e => decide (e < 5)
  | .lcuReadyPoll e => decide (e < 5)
  | .lcuBoundaryDecision e => decide (e < 5)
  | .lcuLine e => decide (e < 5)
  | .ccuWorkStart e => decide (e < 5)
  | .ccuLine e => decide (e < 5)
  | .scuWorkStart e => decide (e < 5)
  | .scuLine e => decide (e < 5)
  | .nmuWorkStart e => decide (e < 5)
  | .nmuLine e => decide (e < 5)
  | .emuWorkStart e => decide (e < 5)
  | .emuLineDue e => decide (e < 5)
  | .emuFire e _ => decide (e < 5)
  | .emuWebHalt e => decide (e < 5)
  | .emuCancel e => decide (e < 5)
  | .icuWorkStart e => decide (e < 5)
  | .gvspPacket group _ => decide (group < 16)
  | .icuLineCompare e => decide (e < 5)
  | .icuLineTimeout e => decide (e < 5)
  | .icuEvaluate e _ => decide (e < 5)
  | .icuLock e => decide (e < 5)
  | .icuLockDone e => decide (e < 5)
  | .icuAdjWrite e _ => decide (e < 5)
  | .icuCancel e => decide (e < 5)
  | .icuStreamStale e stream => decide (e < 5) && decide (stream < 4)
  | .stagedRegisterWrite who _ _ => Requester.ok who
  | .stageCommit who d => Requester.ok who && decide (d < 8)
  | .stageArm who d => Requester.ok who && decide (d < 8)
  | .loadListDone d => decide (d < 8)
  | .stageCancel who d => Requester.ok who && decide (d < 8)
  | .stageDiscard who d => Requester.ok who && decide (d < 8)
  | .sprRotate who => Requester.ok who
  | .rotationDue => true
  | .sprAbort who => Requester.ok who
  | .sprRetest who e => Requester.ok who && decide (e < 5)
  | .sprFail who e => Requester.ok who && decide (e < 5)
  | .shadowTimeout => true
  | .handoff => true
  | .selfTestEnd e _ => decide (e < 5)
  | .emissionWatchdog e => decide (e < 5)
  | .engineFatalError e => decide (e < 5)
  | .recoverComplete e => decide (e < 5)
  | .sprRecWrite who swath _ _ => Requester.ok who && decide (swath < 4)
  | .laneSignalDetect lane => decide (lane < 96)
  | .laneLock lane _ => decide (lane < 96)
  | .laneAdaptDone lane => decide (lane < 96)
  | .markerSend lane => decide (lane < 96)
  | .rxMarker lane _ _ _ => decide (lane < 96)
  | .laneFail lane _ => decide (lane < 96)
  | .laneRejoin lane => decide (lane < 96)
  | .portHoldExpiry link => decide (link < 120)
  | .trainSendTick link => decide (link < 120)
  | .rxTrain link _ => decide (link < 120)
  | .rxCorruptFrame link _ => decide (link < 120)
  | .rxCred link _ _ => decide (link < 120)
  | .rxAck link cls _ _ _ => decide (link < 120) && decide (cls < 6)
  | .rxNak link cls _ _ _ => decide (link < 120) && decide (cls < 6)
  | .ackSend link cls => decide (link < 120) && decide (cls < 6)
  | .creditReport link cls => decide (link < 120) && decide (cls < 6)
  | .rtoExpiry link cls => decide (link < 120) && decide (cls < 6)
  | .frameSend link => decide (link < 120)
  | .ethFrameRx group _ => decide (group < 16)
  | .ethArpRequest group _ _ _ => decide (group < 16)
  | .ethLinkUp group => decide (group < 16)
  | .ethLinkDown group => decide (group < 16)
  | .laneRefclkLoss _ => true
  | .rngEnable => true
  | .rngDisable => true
  | .linkSendTick => true
  | .rxLink h _ => RxHdr.ok h
  | .announceSendTick => true
  | .rxAnnounce h _ => RxHdr.ok h
  | .heartbeatSendTick => true
  | .rxHeartbeat h _ => RxHdr.ok h
  | .rxAssign h _ => RxHdr.ok h
  | .rxEpochData h _ => RxHdr.ok h
  | .rxEpochCommit h _ => RxHdr.ok h
  | .rxEpochReq h _ => RxHdr.ok h
  | .tsyncSendTick => true
  | .rxTsync h _ _ => RxHdr.ok h
  | .dlyreqSendTick => true
  | .rxDlyreq h _ _ => RxHdr.ok h
  | .rxDlyrsp h _ _ => RxHdr.ok h
  | .rxRingSnap h _ => RxHdr.ok h
  | .rxRmark h _ => RxHdr.ok h
  | .rxPsample h _ => RxHdr.ok h
  | .rxMbx h _ => RxHdr.ok h
  | .klossExpiry => true
  | .electtExpiry => true
  | .holdoverExpiry => true
  | .routeExpiry node => decide (node < 4096)
  | .epochDistribute => true
  | .epochAbort => true
  | .epochCommitTimeout => true
  | .epochApply => true
  | .ringSnapSend => true
  | .ringSnapTime => true
  | .rmarkAction => true
  | .mailboxSend who d => Requester.ok who && decide (d < 8)
  | .mailboxTimeout _ _ ddom _ => decide (ddom < 8)
  | .tuFrame n _ _ => decide (n < 8)
  | .tuCal n => decide (n < 8)
  | .tuAbort n => decide (n < 8)
  | .tuLoad n => decide (n < 8)
  | .tuSave n => decide (n < 8)
  | .tuLoadDone n _ => decide (n < 8)
  | .tuSaveDone n => decide (n < 8)
  | .tuMoveResult n => decide (n < 8)
  | .tuMoveTimeout n => decide (n < 8)
  | .tuHoldoffExpiry n => decide (n < 8)
  | .tuDomWrite who n _ => Requester.ok who && decide (n < 8)
  | .spEnable port _ => decide (port < 8)
  | .spVsyncStart port _ => decide (port < 8)
  | .spRow port _ => decide (port < 8)
  | .spFrameClose port => decide (port < 8)
  | .spFrameTimeout port => decide (port < 8)
  | .spPclkLoss port => decide (port < 8)
  | .cpFrame n _ _ => decide (n < 4)
  | .cpLoad n => decide (n < 4)
  | .cpLoadDone n _ => decide (n < 4)
  | .cpDomWrite who n _ => Requester.ok who && decide (n < 4)
  | .lockstepMismatch => true
  | .plantRestartDone => true
  | .soDemandChange so => decide (so < 32)
  | .soMinTimeExpiry so => decide (so < 32)
  | .moSlewTick mo => decide (mo < 8)
  | .presSample _ => true
  | .rtcSecond => true
  | .rtcSecWrite _ => true
  | .aonTzWrite _ => true
  | .calDateRead who => Requester.ok who
  | .scheduleMinute => true
  | .occholdExpiry zone => decide (zone < 8)
  | .pltCzOvrWrite zone _ => decide (zone < 8)
  | .vaonLoss => true
  | .vaonReturn => true
  | .oscStop => true
  | .pltHbWrite who => Requester.ok who
  | .heartbeatLapse => true
  | .bbEnable port => decide (port < 2)
  | .bbFrameRx port _ => decide (port < 2)
  | .bbTokenRx port => decide (port < 2)
  | .bbFrameTx port _ => decide (port < 2)
  | .bbReplyDelayExpiry port => decide (port < 2)
  | .bbNoTokenExpiry port => decide (port < 2)
  | .bbReplyTimeout port => decide (port < 2)
  | .bbUsageTimeout port => decide (port < 2)
  | .bbFrameAbort port => decide (port < 2)
  | .bbStuck port => decide (port < 2)
  | .bbStuckClear port => decide (port < 2)
  | .leTimedEvaluate le => decide (le < 32)
  | .leFeedbackArrival le _ => decide (le < 32)
  | .leMissedEvaluation le => decide (le < 32)
  | .lePublish le => decide (le < 32)
  | .leFbinWrite le _ => decide (le < 32)
  | .leCmdReset le => decide (le < 32)
  | .leClrpl le => decide (le < 32)
  | .leTstart le => decide (le < 32)
  | .leTstop le => decide (le < 32)
  | .leCapStart => true
  | .leCapStop => true
  | .vSenseSample ch _ => decide (ch < 16)
  | .vMoveWindowEnd ch => decide (ch < 16)
  | .vThermalTick ch => decide (ch < 16)
  | .vClrtrip ch => decide (ch < 16)
  | .vShutterClose ch unit => decide (ch < 16) && decide (unit < 8)
  | .vShutterOpen ch unit => decide (ch < 16) && decide (unit < 8)
  | .adcCtlWrite _ => true
  | .adcEntryComplete _ => true
  | .adcCal => true
  | .adcCalDone _ _ => true
  | .fanTachEdge fan _ => decide (fan < 12)
  | .fanTachTimeout fan => decide (fan < 12)
  | .fanUpdate fan => decide (fan < 12)
  | .fanClrfail fan => decide (fan < 12)
  | .spiGo port => decide (port < 4)
  | .spiTransferEnd port _ _ _ => decide (port < 4)
  | .spiRwaitExpiry port => decide (port < 4)
  | .spiLeaseExpiry port _ _ => decide (port < 4)
  | .spiAbort port _ _ => decide (port < 4)
  | .spiReply port => decide (port < 4)
  | .spiSlaveFrame port _ _ => decide (port < 4)
  | .spiCastle port => decide (port < 4)
  | .spiCreqPulled port => decide (port < 4)
  | .spiCastleFrame port _ _ => decide (port < 4)
  | .spiBackoffEnd port => decide (port < 4)
  | .spiDxMiss _ => true
  | .spiDxDisable => true
  | .faultRaise src _ _ => decide (src < 64)
  | .liveLineClear src => decide (src < 64)
  | .safetyClearHold src => decide (src < 64)
  | .ugraceExpiry src => decide (src < 64)
  | .fgraceExpiry src => decide (src < 64)
  | .fcFirstClr who => Requester.ok who
  | .fcHandlingWrite who _ => Requester.ok who
  | .fcSwraise who _ _ _ => Requester.ok who
  | .ietFire _ => true
  | .fcIetClear who _ => Requester.ok who
  | .safeInActive => true
  | .safeEnter who => Requester.ok who
  | .safeRelease who => Requester.ok who
  | .safeRestartDone => true
  | .safeResume who => Requester.ok who
  | .pipHalfPeriod => true
  | .tmpSample g _ => decide (g < 16)
  | .tmpSampleCmd g _ => decide (g < 16)
  | .tmpHistoryBoundary => true
  | .fixedTrip _ => true
  | .capUpdate e c => decide (e < 5) && decide (c < 12)
  | .droopSag island => decide (island < 26)
  | .stretchRecoverStep island => decide (island < 26)
  | .stretchWindowOver island => decide (island < 26)
  | .railOutOfBand _ _ => true
  | .sysrefLoss _ => true
  | .clockMonitorWindow island _ => decide (island < 26)
  | .sefreqWrite _ => true
  | .calExport who => Requester.ok who
  | .calImport who => Requester.ok who
  | .calCommandDone _ => true
  | .snpArm => true
  | .snpTrig => true
  | .snapinEdge _ => true
  | .snapshotDone => true
  | .snpDbgWrite who _ => Requester.ok who
  | .tapReset => true
  | .tapIdcode => true
  | .tapSamplePreload => true
  | .tapExtest => true
  | .tapHighz => true
  | .tapClamp => true
  | .tapDbgacc => true
  | .tapBypass => true
  | .dbgNop => true
  | .dbgRead _ _ => true
  | .dbgWrite _ _ => true
  | .dbgHalt _ => true
  | .dbgRelease _ => true
  | .dbgCommandDone => true
  | .porNLow => true
  | .vpltUndervoltage => true
  | .pltpgFall => true
  | .sysRstCmd who => Requester.ok who
  | .watchCmd who _ => Requester.ok who
  | .runCmd who => Requester.ok who
  | .hibEnter who => Requester.ok who
  | .wakeSource _ _ => true
  | .seatAccessComplete seat _ => SeatIx.ok seat
  | .icuEvaluationDone e => decide (e < 5)
  | .mtabEntryMissing node => decide (node < 4096)
  | .sysrefLock _ => true
  | .generatorHoldoverEnd => true

end Sys2Proof
end

