-- ==== Sys2Proof/Tests/Slice0.lean ====
section
/-! SUPPORT. Tests: the static check's refusals, a state for the hypotheses of each statement, and results taken from the
manual's rules and tables. Expected values are worked out by hand from the rule a test's section names. -/

namespace Sys2Proof.Tests

open Sys2Proof Sys2Proof.Machine Sys2Proof.Claims

set_option Elab.async false

/-! ### States of the tests -/

/-- The code window of the tests. -/
def code : Desc := mkDesc 0 0x10000 7 0 0 0 false true
/-- A data window over memory from 0x4000. -/
def data : Desc := mkDesc 0x4000 0x1000 7 0 0 0 false true
/-- A seat that runs in mode `md` at offset 0 of its code window. -/
def seatIn (md : Mode) : Seat :=
  { Seat.init with st := .run, mode := md, pc := 0, cw := [(0, code), (1, code), (2, code)],
                   w := [(0, data), (1, mkDesc 0x8000 0x1000 7 0 0 0 false true), (2, 0), (3, mkDesc 0 0 7 0 0 0 false true),
                         (4, mkDesc 0x4000 16 1 5 9 0 false true), (5, mkDesc 0x4000 16 0 0 0 0 false true),
                         (6, mkDesc 0x4000 16 7 0 0 5 false true)],
                   x := [(1, 0x10), (2, 0xFFFFFFFF80000001), (3, 5), (5, 1), (6, 0x8000000000000000), (7, 0xFFFFFFFFFFFFFFFF)],
                   scr := [(3, 4), (5, 10)] }
/-- The part powered, its islands on, its stacks trained, with more registers set. -/
def dev (rs : List (Nat × W32)) : State :=
  rs.foldl (fun s r => s.setReg r.1 r.2)
    { State.reset with power := .on, cores := [(0, { share := 10 })],
                       regs := [(Reg.SYS_RSTCAUSE, 1), (Reg.SYS_ISLAND_ON, 0x3FFFFFF), (Reg.MEM_STATUS, 0xFF)] }
/-- Seat 0 runs as `x`. -/
def run (x : Seat) : State := { dev [] with seats := [(0, x)] }
/-- The plant thread runs as `x`. -/
def runPlant (x : Seat) : State := { dev [] with seats := [(plantSeat, x)] }
/-- What the state after a command satisfies. -/
def after (c : Instr) (s : State) (p : State → Bool) : Bool :=
  match exec c s with
  | .next t => p t
  | _ => false
/-- `Ready` as a Bool. -/
def readyB (s : State) (i n : Nat) : Bool := s.canIssue i && (s.seat i).pc.toNat % 4 == 0 && fetchOk s i n
/-- What `Ready` asks. -/
theorem ready_of {s : State} {i n : Nat} (h : readyB s i n = true) : Ready s i n := by
  simp only [readyB, Bool.and_eq_true, beq_iff_eq] at h
  exact ⟨h.1.1, h.1.2, h.2⟩
/-- `CheckOk` and readable pages, as a Bool. -/
def accessB (s : State) (i w off n align need : Nat) : Bool :=
  let x := s.seat i
  let d := x.wx w
  dValid d && dLen d != 0 && (x.mode == .m || (dHdom d == x.hdom && (x.mode == .h || dTid d == x.tid))) &&
  (dRights d &&& need) == need && decide (off + n ≤ dLen d) && off % align == 0 && !dLoc d && decide (dBase d + off + n ≤ s.memSize) &&
  (spanning (2 ^ 21) (dBase d + off) n).all (fun g => s.tag g == dKtag d) &&
  (spanning 2048 (dBase d + off) n).all (fun p => s.pageReadable p && s.pageWritable p)

/-- A received header within range. -/
def hdr (link cls dnode snode : Nat) : RxHdr :=
  { link := link, cls := cls, seq := 0, retx := false, posted := false, dnode := dnode, dport := 0, snode := snode, crcls := 7, crcount := 0 }
/-- A datagram. -/
def gram : GvspDatagram := { sound := true, srcIp := 0, port := 0, ext := false, status := 0, block := 1, packet := 0, body := .other }
/-- A bus frame of type `ty` for station `da`. -/
def busFrame (ty da sa : Nat) (bs : List Byte) : BusFrame := { ftype := ty, da := da, sa := sa, data := bs, hdrOk := true, dataOk := true }

/-- A domain with every grant and memory granules 0 to 7. -/
def domOne : Domain := { Domain.none with role := 1, ports := 1, blocks := 0x3FFFFFFFFFFFFF, mem := [(0, 8)], fnotify := false }
/-- Domain 0 is the press-control domain with every grant and memory granules 0 to 7. -/
def owned (s : State) : State :=
  { s with attached := true, owner := some { version := 1, rollback := 3, key := [], domains := [domOne], seatmap := [0x08, 0x18], tmax := [] } }
/-- A host request's header. -/
def hostHead (addr count : Nat) : List Byte := leBytes 2 7 ++ leBytes 2 0 ++ leBytes 6 addr ++ leBytes 2 count ++ leBytes 4 0
/-- Port 0 is UP and its peer takes frames of class 0. -/
def linked (s : State) : State := (s.setFld (Reg.UMK_PORTp_STATE 0) 2 0 5).setLink 0 { Link.init with peerCredits := List.replicate 6 100 }
/-- A seat with two vectors, a predicate that skips element 1 of words, and VL 4. -/
def vseat (md : Mode) : Seat := { seatIn md with v := [(1, 0x00000004800000000000000200000001), (2, 0x00000004FFFFFFFF0000000200000003)], p := [(1, 0xF0F)] }

/-- A clause of `quiet`, as a Bool. -/
def quietB (s : State) (n : Nat) : Bool :=
  decide (s.classMax n ≤ 1) && (s.source n).grace == .idle && s.bit Reg.FC_FIRST 8 && (List.range 3).all (fun c => !s.bit (Reg.FC_SRCn_CFG n) (12 + c))
/-- A device whose first-source record is taken and whose source `n` is capped at class U, with more registers set. -/
def calm (n : Nat) (rs : List (Nat × W32)) : State := dev ([(Reg.FC_FIRST, 0x100), (Reg.FC_SRCn_CFG n, 0x400)] ++ rs)

/-- `after`, on the state the command reaches. -/
def andThen (s : State) (c : Instr) : State := match exec c s with | .next t => t | _ => s


/-! ### The queue, issue and the scalar instructions (R40, R49, R75 to R85) -/

theorem test_step_takes_the_front : (match step { run (seatIn .m) with pending := [.add 0 4 1 3, .webEnable 0] } with
    | .next t => (t.seat 0).sx 4 == 0x15 && t.pending == [.webEnable 0] | _ => false) = true := by decide +kernel
theorem test_step_idles : (match step (dev []) with | .next t => decide (t = { dev [] with ringTime := 1 }) | _ => false) = true := by decide +kernel
/-- Ready: a seat in each mode, the plant thread, and an instruction of two words. -/
theorem test_witness_Ready_t : Ready (run (seatIn .t)) 0 4 := ready_of (by decide +kernel)
theorem test_witness_Ready_h : Ready (run (seatIn .h)) 0 4 := ready_of (by decide +kernel)
theorem test_witness_Ready_m : Ready (run (seatIn .m)) 0 8 := ready_of (by decide +kernel)
theorem test_witness_Ready_plant : Ready (runPlant (seatIn .m)) plantSeat 4 := ready_of (by decide +kernel)
theorem test_scalar_results : after (.mulhs 0 4 2 3) (run (seatIn .m)) (fun t => (t.seat 0).sx 4 == 0xFFFFFFFFFFFFFFFF && (t.seat 0).pc == 4) &&
    after (.sra 0 4 6 3) (run (seatIn .m)) (fun t => (t.seat 0).sx 4 == 0xFC00000000000000) &&
    after (.sltu 0 4 1 2) (run (seatIn .m)) (fun t => (t.seat 0).sx 4 == 1) &&
    after (.add 0 0 1 1) (run (seatIn .m)) (fun t => (t.seat 0).sx 0 == 0) &&
    after (.clz 0 4 3) (run (seatIn .m)) (fun t => (t.seat 0).sx 4 == 61) = true := by decide +kernel
theorem test_immediates : after (.addi 0 4 1 0xFFFF) (run (seatIn .m)) (fun t => (t.seat 0).sx 4 == 0xF) &&
    after (.lihL 0 3 7) (run (seatIn .m)) (fun t => (t.seat 0).sx 3 == 0x700000005 && (t.seat 0).pc == 8) &&
    after (.lui 0 4 0x8000) (run (seatIn .m)) (fun t => (t.seat 0).sx 4 == 0xFFFFFFFF80000000) = true := by decide +kernel
/-- DivisionsSaturateAndNeverTrap: a zero divisor of either sign, the overflow, and an exact pair. -/
theorem test_division_edges : after (.div 0 4 1 0) (run (seatIn .m)) (fun t => (t.seat 0).sx 4 == 0x7FFFFFFFFFFFFFFF) &&
    after (.div 0 4 2 0) (run (seatIn .m)) (fun t => (t.seat 0).sx 4 == 0x8000000000000000) &&
    after (.div 0 4 6 7) (run (seatIn .m)) (fun t => (t.seat 0).sx 4 == 0x7FFFFFFFFFFFFFFF) &&
    after (.rem 0 4 6 7) (run (seatIn .m)) (fun t => (t.seat 0).sx 4 == 0) &&
    after (.div 0 4 1 3) (run (seatIn .m)) (fun t => (t.seat 0).sx 4 == 3) &&
    after (.rem 0 4 2 3) (run (seatIn .m)) (fun t => (t.seat 0).sx 4 == 0xFFFFFFFFFFFFFFFE) &&
    after (.divu 0 4 1 0) (run (seatIn .m)) (fun t => (t.seat 0).sx 4 == 0xFFFFFFFFFFFFFFFF) &&
    after (.remu 0 4 1 0) (run (seatIn .m)) (fun t => (t.seat 0).sx 4 == 0) = true := by decide +kernel
theorem test_branch_back : after (.bne 0 1 2 0x7FFF) (run { seatIn .m with pc := 0x40 }) (fun t => (t.seat 0).pc == 0x2003C) = true := by decide +kernel
theorem test_branch_falls : after (.beq 0 1 2 0x8000) (run (seatIn .m)) (fun t => (t.seat 0).pc == 4) = true := by decide +kernel
/-- JalrJumpsOrTraps: a target that is a multiple of 4, and one that is not. -/
theorem test_jalr : after (.jalr 0 1 1 4) (run (seatIn .m)) (fun t => (t.seat 0).pc == 0x14 && (t.seat 0).sx 1 == 4) &&
    after (.jalr 0 1 1 6) (run (seatIn .t)) (fun t => (t.seat 0).mode == .h && (t.seat 0).sx 1 == 0x10) =
    true := by decide +kernel

/-! ### Memory (R55 to R66, R86 to R88) -/

/-- LoadsWaitAndDeliverTheirValue, StoresWriteTheirBytesAlone and AtomicsReadModifyWriteInOneStep: the last eight bytes of a
    window, in each mode. -/
theorem test_witness_accesses : (∀ md ∈ [Mode.t, .h, .m], readyB (run (seatIn md)) 0 4 = true ∧
    accessB (issued (run (seatIn md)) 0 4) 0 0 0xFF8 8 8 3 = true ∧ (seatIn md).outst = []) := by decide +kernel
theorem test_load_returns : after (.ldbs 0 4 0 1 0) { run (seatIn .m) with mem := [(0x4010, 0x80)] } (fun t => (t.seat 0).st == .wait &&
    after (.seatAccessComplete 0 []) t (fun u => (u.seat 0).sx 4 == 0xFFFFFFFFFFFFFF80 && (u.seat 0).pc == 4 && (u.seat 0).st == .run)) = true := by decide +kernel
theorem test_tenant_load_returns : after (.ldd 0 4 0 1 0) { run (seatIn .t) with mem := [(0x4011, 0x80)] } (fun t =>
    after (.tenantAccessReturn 0 false []) t (fun u => (u.seat 0).sx 4 == 0x8000)) = true := by decide +kernel
theorem test_store_little_endian : after (.std 0 2 0 1 0) (run (seatIn .m)) (fun t => t.mem == [(0x4010, 0x01#8), (0x4013, 0x80#8), (0x4014, 0xFF#8), (0x4015, 0xFF#8),
    (0x4016, 0xFF#8), (0x4017, 0xFF#8)] && (t.seat 0).outst.length == 1) = true := by decide +kernel
theorem test_atomic_cas : after (.atomCas 0 false 0 3 0 1 7) { run (seatIn .m) with mem := [(0x4010, 5)] } (fun t => t.mem == [(0x4010, 0xFF#8), (0x4011, 0xFF#8),
    (0x4012, 0xFF#8), (0x4013, 0xFF#8)]) = true := by decide +kernel
/-- AccessChecksTrapInOrder: a window for each cause, and an offset for 0x08 and 0x09. -/
theorem test_access_traps : ([(2, 0, 0x04), (3, 0, 0x05), (4, 0, 0x06), (5, 0, 0x07), (6, 16, 0x08), (0, 1, 0x09), (6, 0, 0x0A)] : List (Nat × BitVec 12 × W64)).all
    (fun c => after (.ldw 0 4 c.1 0 c.2.1) (run (seatIn .h)) (fun t => (t.seat 0).scrGet 0x010 == c.2.2 && (t.seat 0).scrGet 0x012 == c.2.1.setWidth 64)) = true := by
  decide +kernel
/-- AccessReturnsDeliverOrTrap: a load whose tag changed, a late return, and the outstanding store of a seat that runs. -/
theorem test_returns : after (.ldw 0 4 0 1 0) (run (seatIn .t)) (fun t =>
      after (.tenantAccessReturn 0 false []) (t.setTag 0 9) (fun u => (u.seat 0).scrGet 0x020 == 0 && (u.seat 0).scrGet 0x010 == 0x0A) &&
      after (.tenantAccessReturn 0 true []) t (fun u => u.reg (Reg.SYS_Dd_TLAT_OVR 0) == 1)) &&
    after (.stw 0 1 0 1 0) (run (seatIn .m)) (fun t => after (.seatAccessComplete 0 []) t (fun u => (u.seat 0).outst == [])) &&
    after (.stw 0 1 0 1 0) (run (seatIn .t)) (fun t => after (.tenantAccessReturn 0 false []) t (fun u => (u.seat 0).outst == [])) = true := by decide +kernel

/-! ### Vectors (R89 to R96) -/

/-- The vector statements: VL within capacity, an active and an inactive element, and SH below and at the width. -/
theorem test_witness_vectors : readyB (run (vseat .h)) 0 8 = true ∧ (vseat .h).vl ≤ 256 / esize 2 ∧ vactive (vseat .h) 1 2 0 = true ∧
    vactive (vseat .h) 1 2 1 = false ∧ (∀ k < 64, vactive { vseat .h with scr := [] } 1 2 k = false) ∧ (31 : BitVec 6).toNat < 8 * esize 2 ∧
    8 * esize 2 ≤ (32 : BitVec 6).toNat ∧ 256 / esize 3 < ({ vseat .h with scr := [(3, 33)] } : Seat).vl := by decide +kernel
theorem test_vadd : after (.vaddss 0 3 1 (.v 2) 1 2) (run (vseat .h)) (fun t => velem ((t.seat 0).vx 3) 2 0 == 4 && velem ((t.seat 0).vx 3) 2 1 == 0 &&
    velem ((t.seat 0).vx 3) 2 2 == 0x80000000) = true := by decide +kernel
theorem test_vcmp : after (.vcmpLt 0 2 1 2 0 2) (run (vseat .h)) (fun t => (t.seat 0).px 2 == 0xF0F) = true := by decide +kernel
theorem test_vredmin : after (.vredmin 0 4 1 0 2) (run (vseat .h)) (fun t => (t.seat 0).sx 4 == 0xFFFFFFFF80000000) = true := by decide +kernel
theorem test_vst_skips : after (.vst 0 1 0 1 1 2) (run (vseat .h)) (fun t => t.mem == [(0x4010, 1#8), (0x401B, 0x80#8)]) = true := by decide +kernel
theorem test_vld_first_failure : accessB (issued (run (vseat .h)) 0 4) 0 0 0xFF8 4 4 1 = true ∧
    checkAccess (issued (run (vseat .h)) 0 4) (vseat .h) false ((vseat .h).wx 0) 0x1000 4 4 1 false = some 0x08 := by decide +kernel
theorem test_setvl : after (.setvl 0 4 1 3) (run (vseat .h)) (fun t => (t.seat 0).sx 4 == 16 && (t.seat 0).vl == 16) &&
    after (.vmv 0 3 1 0 3) (run { vseat .t with scr := [(3, 33), (5, 9)] }) (fun t => (t.seat 0).mode == .h) = true := by decide +kernel
theorem test_pfirst : after (.pfirst 0 4 1 2) (run (vseat .h)) (fun t => (t.seat 0).sx 4 == 0) &&
    after (.pcnt 0 4 1 2) (run (vseat .h)) (fun t => (t.seat 0).sx 4 == 2) = true := by decide +kernel

/-! ### The static check: an ill-formed command for each of its checks -/

theorem test_ill_formed_registers : ([.add 0x60 0 0 0, .add 640 0 0 0, .add 0 32 0 0, .add 0 0 32 0, .add 0 0 0 32, .ldb 0 0 16 0 0, .stb 0 32 0 0 0,
    .vadd 0 32 0 (.v 0) 0 0, .vadd 0 0 32 (.v 0) 0 0, .vadd 0 0 0 (.v 32) 0 0, .vadd 0 0 0 (.s 32) 0 0, .vadd 0 0 0 (.v 0) 8 0, .vcmpEq 0 8 0 0 0 0,
    .vcmpEq 0 0 0 32 0 0, .vbcast 0 0 32 0 0, .vext 0 32 0 0 0 0, .vext 0 0 0 32 0 0, .pand 0 0 8 0, .pand 0 0 0 8, .wsub 0 16 0 0 0 0, .wsub 0 0 16 0 0 0,
    .wsub 0 0 0 0 32 0, .wrdlo 0 0 16, .bcopyL 0 0 0 0 32 0 0 [], .bcopyL 0 0 0 0 0 32 0 [], .bcopyL 0 0 0 0 0 0 32 [], .bfillL 0 0 0 0 32 0,
    .stgL 0 0 0 0 0 false 0 16 0 0 0, .stgL 0 0 0 0 0 false 0 0 16 0 0, .stgL 0 0 0 0 0 false 0 0 0 16 0, .stgL 0 0 0 0 0 false 0 0 0 0 16] :
    List Instr).all (fun c => !c.wf) = true := by decide +kernel
theorem test_ill_formed_units : ([.registerWrite (.seat 0x60) 0 0, .registerWrite (.host 24) 0 0, .channelWordSend 26 0 0, .channelWordSend 0 26 0,
    .issueFrameBoundary 5 0, .issueFrameBoundary 0 12, .hostRd (hdr 120 0 0 0) [] [], .hostRd (hdr 0 8 0 0) [] [], .hostRd (hdr 0 0 4096 0) [] [],
    .hostRd { hdr 0 0 0 0 with dport := 32 } [] [], .hostRd (hdr 0 0 0 4096) [] [], .hostRd { hdr 0 0 0 0 with crcls := 8 } [] [],
    .hostRd { hdr 0 0 0 0 with crcount := 8192 } [] [], .doorbellWrite .debug 8 0 0, .throttleGraceEnd 16 [], .fabricMessage 6 0 0 1 false,
    .fabricMessage 0 48 0 1 false, .fabricMessage 0 0 48 1 false, .linkCellFail 192, .pageLockRequest 0 208, .scrubPage 8 0 0, .mirrorEnable .debug 16] :
    List Instr).all (fun c => !c.wf) = true := by decide +kernel
theorem test_ill_formed_places : ([.webEnable 4, .tofPop 4, .markCtlWrite 64 0, .gvspPacket 16 gram, .icuStreamStale 0 4, .sprRecWrite .debug 4 0 0,
    .laneSignalDetect 96, .portHoldExpiry 120, .routeExpiry 4096, .mailboxTimeout 0 0 8 0, .tuCal 8, .spFrameClose 8, .cpLoad 4, .soDemandChange 32, .moSlewTick 8,
    .occholdExpiry 8, .bbEnable 2, .lePublish 32, .vThermalTick 16, .vShutterClose 0 8, .fanUpdate 12, .spiGo 4, .faultRaise 64 0 false, .droopSag 26] :
    List Instr).all (fun c => !c.wf) = true := by decide +kernel
theorem test_well_formed : ([.add 0x3FF 31 31 31, .add 607 0 0 0, .vadd 0 31 31 (.s 31) 7 3, .wsub 0 15 15 31 31 31, .registerWrite (.host 23) 0 0, .webEnable 3,
    .laneSignalDetect 95, .portHoldExpiry 119, .mailboxTimeout 4095 7 7 0, .droopSag 25, .faultRaise 63 2 true, .hostRd (hdr 119 5 4095 4095) [] []] :
    List Instr).all Instr.wf = true := by decide +kernel

/-! ### Windows, traps and system instructions (R54 to R74, R97 to R113) -/

theorem test_wsub : after (.wsub 0 7 0 1 3 5) (run (seatIn .t)) (fun t => (t.seat 0).wx 7 == mkDesc 0x4010 5 5 0 0 0 false true) &&
    after (.wsub 0 7 3 1 3 5) (run (seatIn .t)) (fun t => (t.seat 0).mode == .h && (t.seat 0).wx 7 == 0) = true := by decide +kernel
/-- WindowOperationsMoveDescriptors: WLOAD's own descriptor in H, a granule of the seat's domain and one that is not, and a KTSET that waits. -/
theorem test_witness_windows : Privileged (seatIn .m) data ∧ Privileged (seatIn .h) data ∧ descInRange false data = true ∧ isPlant 0 = false ∧
    accessB (issued (run (seatIn .m)) 0 4) 0 0 0xFF0 16 16 3 = true ∧ (owned (run (seatIn .h))).domain 0 = domOne ∧ domOne.holds 7 = true ∧
    domOne.holds 8 = false ∧ 8 * 2 ^ 21 < (run (seatIn .m)).memSize := ⟨Or.inl rfl, Or.inr ⟨rfl, by decide +kernel⟩, by decide +kernel⟩
theorem test_ktset : after (.ktset 0 1 3) (owned (run (seatIn .h))) (fun t => after (.ktsetRetire 0) t (fun u => u.tag 0 == 5 && (u.seat 0).pc == 4)) &&
    after (.ktset 0 6 3) (owned (run (seatIn .h))) (fun t => (t.seat 0).wait == .none) = true := by decide +kernel
theorem test_bfill : after (.bfillL 0 4 0 1 3 3) (run (seatIn .m)) (fun t => t.mem == [(0x4010, 5#8), (0x4011, 5#8), (0x4012, 5#8), (0x4013, 5#8), (0x4014, 5#8)]) &&
    after (.bfillL 0 4 0 1 3 0) (run (seatIn .m)) (fun t => t.mem == [] && (t.seat 0).pc == 8) &&
    after (.bcopyL 0 4 0 0 1 0 3 []) { run (seatIn .m) with mem := [(0x4000, 1), (0x4010, 2)] } (fun t => t.mem == [(0x4000, 1#8), (0x4010, 1#8)]) = true := by decide +kernel
/-- TrapEntrySavesAndRedirects: a cause passed to H, one taken in M, H busy, and M busy. -/
theorem test_witness_traps : (fun x : Seat => x.mode ≠ .m ∧ (x.scrGet 0x026).getLsbD 4 = true ∧ x.busy .h = false ∧ x.busy .m = false) (seatIn .t) ∧
    ((seatIn .h).scrGet 0x026).getLsbD 0x13 = false ∧ ({ seatIn .h with scr := [(0x013, 8)] } : Seat).busy .h = true ∧
    ({ seatIn .m with scr := [(0x023, 8)] } : Seat).busy .m = true := by decide +kernel
theorem test_system : after (.call 0 7) (run (seatIn .t)) (fun t => (t.seat 0).mode == .h) &&
    after (.seatstop 0) (run (seatIn .h)) (fun t => (t.seat 0).st == .idle && (t.seat 0).pc == 4) &&
    after (.yield 0) (run (seatIn .h)) (fun t => (t.seat 0).yielded) &&
    after (.tret 0) (run { seatIn .h with scr := [(0x011, 0x40), (0x013, 1)] }) (fun t => (t.seat 0).mode == .h && (t.seat 0).pc == 0x40) &&
    after .plantSeatstopWake (runPlant { seatIn .m with yielded := true, scr := [(0x025, 1)], events := [(0x20, some 9)] }) (fun t => !(t.seat plantSeat).yielded) = true := by
  decide +kernel
theorem test_control_registers : scrListed false 0x006 = true ∧ scrReadable .t 0x003 = true ∧ scrWritable .h 0x012 = true ∧ scrWritable .t 0x002 = false ∧
    scrListed false 0x007 = false ∧
    after (.scrd 0 4 0) (run (seatIn .h)) (fun t => (t.seat 0).sx 4 == 0) = true ∧
    after (.scset 0 0x015 2) (run (seatIn .h)) (fun t => (t.seat 0).scrGet 0x015 == 0x80000001) = true := by decide +kernel
/-- FencesWaitForWhatTheyOrder: a store outstanding, and none. -/
theorem test_fence : after (.fenceW 0) (run { seatIn .h with outst := [{ store := true, io := false, tmode := false }] }) (fun t => (t.seat 0).st == .wait &&
      after (.fenceComplete 0) t (fun u => (u.seat 0).st == .wait) &&
      after (.seatAccessComplete 0 []) t (fun u => (u.seat 0).st == .wait)) &&
    after (.fenceR 0) (run { seatIn .h with outst := [{ store := true, io := false, tmode := false }] }) (fun t => (t.seat 0).pc == 4) = true := by decide +kernel
/-- EventsAreTakenLowestFirst: two events enabled, the quantum, an armed timer, a yield that a frame ends, and a halted seat. -/
theorem test_events : (run { seatIn .h with events := [(0x20, some 7), (0x25, some 1)], scr := [(0x015, 0x21)] }).takeable 0 = some (0x20, 7) ∧
    (run { seatIn .h with events := [(0x20, some 7)] }).takeable 0 = none ∧
    after (.quantumExpiry 0) (run { seatIn .t with scr := [], quantumUsed := 3 }) (fun t => sget none (t.seat 0).events 0x24 == some 3) = true ∧
    after (.timerExpiry 0) (run { seatIn .h with scr := [(6, 50)], timerArmed := true }) (fun t => sget none (t.seat 0).events 0x20 == some 50 && t.ringTime == 50) = true ∧
    after (.issueFrameBoundary 0 0) (run { seatIn .h with yielded := true }) (fun t => !(t.seat 0).yielded && (sget { share := 0 } t.cores 0).share == 0) = true ∧
    after (.haltRelease .debug 0 0) (run { seatIn .h with st := .halt }) (fun t => (t.seat 0).st == .idle) = true := by decide +kernel
/-- StageIssueAcceptsInOrder: work of count 0, a full seat, a waiting request with room, and WPOS on an idle web and a running one. -/
theorem test_stage : after (.stgL 0 4 0 0 1 true 0 0 0 0 0) (run (seatIn .h)) (fun t => (t.seat 0).stgSeq == 1 && (t.seat 0).notifyQ == [0x100000000]) &&
    after (.stgL 0 4 0 0 1 true 0 0 0 0 0) (run { seatIn .h with stgOut := 64 }) (fun t => (t.seat 0).st == .wait) &&
    after (.stgAccept 0) (run { seatIn .h with st := .wait, wait := .stg { rd := 4, unit := 0, notify := false, count := 2, desc := [], slots := [] } })
      (fun t => (t.queue 0 0).length == 1 && (t.seat 0).stgOut == 1 && (t.seat 0).pc == 8) &&
    after (.wpos 0 4 1 0) (run (seatIn .h)) (fun t => (t.seat 0).pc == 4) &&
    after (.wpos 0 4 1 0) { dev [(Reg.POS_STATUS, 2)] with seats := [(0, seatIn .h)] } (fun t => (t.seat 0).st == .wait &&
      after (.wposComplete 0) (t.setReg (Reg.POSn_POS_LO 0) 0x10) (fun u => (u.seat 0).sx 4 == 0x10)) = true := by decide +kernel

/-! ### Registers, hosts and domains (R12, R13, R115 to R146, R293, R352 to R354) -/

theorem test_witness_register_write : (dev []).controlAllowed .debug (Reg.SPn_FTMO 0) true = true ∧ blockNumber (Reg.SPn_FTMO 0) = some 16 ∧
    reach (dev []) (Reg.SPn_FTMO 0) = .ok ∧ (regRow (Reg.SPn_FTMO 0)).isSome = true ∧ isLow (Reg.SPn_FTMO 0) = false ∧ isLow (Reg.SPn_FTMO 0 - 4) = false ∧
    isStaged (Reg.SPn_FTMO 0) = false ∧ pairSecond (Reg.SPn_FTMO 0) = none ∧ pairSecond (Reg.SPn_FTMO 0 - 4) = none ∧
    after (.registerWrite .debug (Reg.SPn_FTMO 0) 0xFFFFFFFF) (dev []) (fun t => t.reg (Reg.SPn_FTMO 0) == 0xFFFF) = true := by decide +kernel
theorem test_pair : after (.pairFirstWrite .debug (Reg.POSn_PRUN 0) 7) (dev []) (fun t => t.reg (Reg.POSn_PRUN 0) == regReset (Reg.POSn_PRUN 0) &&
    after (.pairSecondWrite .debug (Reg.POSn_PRUN 0 + 4) 9) t (fun u => u.reg (Reg.POSn_PRUN 0) == 7 && u.reg (Reg.POSn_PRUN 0 + 4) == 9)) = true := by decide +kernel
theorem test_staged : (owned (dev [])).stgWriter .debug = some 0 ∧ isStaged (Reg.POSn_CFG 0) = true ∧ stagedOk (owned (dev [])) (Reg.POSn_CFG 0) 1 = true ∧
    (owned (dev [])).stgHeld 0 (Reg.POSn_CFG 0) = false ∧
    after (.stagedRegisterWrite .debug (Reg.POSn_CFG 0) 1) (owned (dev [])) (fun t => (t.stgDom 0).openSet == [(Reg.POSn_CFG 0, 1)]) = true := by decide +kernel
theorem test_reg64 : isLow (Reg.POSn_SET_LO 0) = true ∧ pageReach (dev []) .debug (Reg.POSn_SET_LO 0) = true ∧
    after (.reg64LowRead .debug (Reg.POSn_SET_LO 0)) (dev [(Reg.POSn_SET_LO 0, 3), (Reg.POSn_SET_LO 0 + 4, 5)])
      (fun t => t.out == [.readData .debug 3] && sget none t.hiLatch (Reg.POSn_SET_LO 0 + 4) == some 5) = true := by decide +kernel
theorem test_absent_and_denied : reach { dev [] with variant := .aly9107 } (Reg.CPn_CFG 0) = .absent ∧
    after (.registerWrite .debug (Reg.CPn_CFG 0) 1) { dev [] with variant := .aly9107 } (fun t => t.regs == (dev []).regs) = true ∧
    after (.registerWrite (.seat 0) (Reg.POSn_FILT 0) 1) (run (seatIn .t)) (fun t => t.out == [.busError (.seat 0)]) = true ∧
    after (.registerWrite (.host 3) (Reg.POSn_FILT 0) 1) (dev []) (fun t => t.out == [.busError (.host 3)]) = true := by decide +kernel
theorem test_host_read : after (.hostRd (hdr 0 4 0 0) (hostHead 0x4000 4) []) (linked (owned { dev [] with mem := [(0x4001, 9)] }))
      (fun t => (((t.link 0).cls 0).queue.map (fun q => q.f.payload)) == [leBytes 2 7 ++ [0, 0] ++ leBytes 2 4 ++ List.replicate 10 0 ++ [0, 9, 0, 0]]) &&
    after (.hostRd (hdr 0 4 0 0) (hostHead 0x4000 4) []) (linked (dev [])) (fun t => (((t.link 0).cls 0).queue.map (fun q => (q.f.payload.drop 2).take 1)) == [[1]]) = true := by
  decide +kernel
theorem test_host_write : after (.hostWr (hdr 0 4 0 0) (hostHead 0x4000 2 ++ [1, 2])) (linked (owned (dev []))) (fun t => t.mem == [(0x4000, 1#8), (0x4001, 2#8)] &&
      ((t.link 0).cls 0).queue.length == 1) &&
    after (.hostWr { hdr 0 4 0 0 with posted := true } (hostHead 0x4000 2 ++ [1, 2])) (linked (owned (dev []))) (fun t => ((t.link 0).cls 0).queue == []) &&
    after .hostsAttach { dev [] with runpg := true } (fun t => t.attached && t.fld Reg.SYS_BOOT 3 0 == 10) = true := by decide +kernel
theorem test_doorbells : after (.doorbellWrite .debug 0 5 77) (dev [(Reg.SYS_Dd_DBROUTEn 0 5, 0x801)]) (fun t => t.reg (Reg.SYS_Dd_DBVALn 0 5) == 77 &&
      sget none (t.dom 0).doorbells 5 == some 1) &&
    after (.doorbellWrite .debug 0 5 77) (dev []) (fun t => t.reg (Reg.SYS_Dd_DB_DROP 0) == 1) &&
    after (.doorbellWrite (.host 0) 7 5 77) (owned (dev [])) (fun t => t.out == [.busError (.host 0)]) &&
    after (.dbrouteWrite .debug 0 5 0x800) (owned (dev [])) (fun t => t.reg (Reg.SYS_Dd_DBROUTEn 0 5) == 0x800) &&
    after (.nqCtlWrite .debug 0 0xFFF) (dev []) (fun t => t.reg (Reg.SYS_Dd_NQ_CTL 0) == 0xFDF) = true := by decide +kernel
theorem test_seat_commands : after (.seatcmdStart .debug 0 0 3 0x40) (owned (run { Seat.init with st := .idle })) (fun t => (t.seat 0).st == .run && (t.seat 0).pc == 0x40 && (t.seat 0).mode == .h) &&
    after (.seatcmdStop .debug 0 0 3) (owned (run (seatIn .h))) (fun t => t.reg (Reg.SYS_Dd_SEATCMD_STATUS 0) == 0x600001 &&
      after (.seatStopBoundary 0) t (fun u => (u.seat 0).st == .idle && u.reg (Reg.SYS_Dd_SEATCMD_STATUS 0) == 0x600000)) &&
    after (.seatcmdPreempt .debug 0 0 3) (owned (run (seatIn .h))) (fun t => sget none (t.seat 0).events 0x25 == some 3) &&
    after (.seatcmdUnassigned .debug 0 0 9 3) (owned (dev [])) (fun t => t.reg (Reg.SYS_Dd_SEATCMD_STATUS 0) == 0x600004) = true := by decide +kernel

/-! ### Fabric, memory, resets, fuses, power and faults (R17 to R19, R121 to R136, R148 to R176, R544 to R587, R618 to R635) -/

/-- FabricRoutesFencesAndLocks: a route to an island that is up and to one that is not, the last failure and the one before it. -/
theorem test_witness_fabric : [routerIsland (dev []).variant 0 == some 6, routerIsland (dev []).variant 47 == some 13, (fabRoute (dev []) 0 47).isSome,
    after (.fabricMessage 5 0 47 65 true) (dev []) (fun t => sget 0 t.fabric.flows (48 * (48 * 5 + 0) + 47) == 1),
    after (.fabricMessage 0 0 47 1 true) (dev [(Reg.SYS_ISLAND_ON, 0x3FFDFFF)]) (fun t => t.reg Reg.FAB_ERRCOMP_CNT == 1),
    after (.fabricMessage 0 0 47 1 false) (dev [(Reg.SYS_ISLAND_ON, 0x3FFDFFF)]) (fun t => t.reg Reg.FAB_DISCARD_CNT == 1),
    after (.linkCellFail 191) ((dev []).setFabLink 191 { down := false, fails := 6, retries := 0 }) (fun t => !(t.fabLink 191).down && (t.fabLink 191).fails == 7),
    after (.linkCellFail 0) ((dev []).setFabLink 0 { down := false, fails := 7, retries := 7 }) (fun t => (t.fabLink 0).down),
    (dev []).controlAllowed .debug Reg.FAB_FENCE_SET true, (dev []).variant.island 22,
    after (.fabFenceClr .debug 0x400000) { dev [(Reg.SYS_ISLAND_FENCE, 0x600000)] with fabric := { State.reset.fabric with resetDone := [(22, true)] } }
      (fun t => !t.fenced 22 && t.fenced 21)].all id = true := by decide +kernel
theorem test_witness_locks : [after (.pageLockRequest 3 7) (dev []) (fun t => (t.lock 3).map (fun l => l.holder) == some 7),
    after (.pageLockRequest 3 8) ((dev []).setLock 3 (some { holder := 7, waiting := [], ended := [] })) (fun t => (t.lock 3).map (fun l => l.waiting) == some [8]),
    after (.pageUnlock 3 7) ((dev []).setLock 3 (some { holder := 7, waiting := [8], ended := [] })) (fun t => (t.lock 3).map (fun l => l.holder) == some 8),
    after (.pageUnlock 3 8) ((dev []).setLock 3 (some { holder := 7, waiting := [], ended := [] })) (fun t => (t.lock 3).map (fun l => l.holder) == some 7),
    after (.pageLockExpiry 3) ((dev []).setLock 3 (some { holder := 7, waiting := [8], ended := [] })) (fun t => (t.lock 3).map (fun l => (l.holder, l.ended)) == some (8, [7])),
    after (.channelWordSend 21 5 9) (dev []) (fun t => sget [] t.fabric.channels (32 * 21 + 5) == [9]),
    after (.channelWordSend 21 22 9) (dev [(Reg.SYS_ISLAND_FENCE, 0x400000)]) (fun t => sget 0 t.fabric.discards 21 == 1)].all id = true := by decide +kernel
/-- ScrubbingPassesAndRegionsAct: the last page but one, a pass that runs, is empty or is refused, and a mirrored region. -/
theorem test_witness_memory : [after (.scrubPage 7 0 0) ({ dev [(Reg.MEM_SCRUB_CTL, 1)] with stackRuns := [(7, { (dev []).stack 7 with scrubPos := stackPages - 2 })] })
      (fun t => (t.stack 7).scrubPos == stackPages - 1),
    !(dev []).stackLost 7,
    after (.memPassStart .debug) (dev [(Reg.MEM_PASS_LEN, 4)]) (fun t => t.bit Reg.MEM_PASS_STATUS 0),
    after (.memPassStart .debug) (dev []) (fun t => t.bit Reg.MEM_PASS_STATUS 1),
    after (.memPassStart (.seat 0)) (owned { dev [(Reg.MEM_PASS_LEN, 4), (Reg.MEM_PASS_BASE_LO, 0x01000000)] with seats := [(0, seatIn .h)] }) (fun t => t.bit Reg.MEM_PASS_STATUS 3),
    after (.memPassStart (.seat 0)) (owned { dev [(Reg.MEM_PASS_LEN, 4), (Reg.MEM_PASS_BASE_LO, 0x00FFE000)] with seats := [(0, seatIn .h)] }) (fun t => t.bit Reg.MEM_PASS_STATUS 0),
    after (.memPassDone []) (dev [(Reg.MEM_PASS_LEN, 4), (Reg.MEM_PASS_STATUS, 1)]) (fun t => t.bit Reg.MEM_PASS_STATUS 1 && t.reg Reg.MEM_PASS_READ == 4),
    after (.memPassAbort .debug 4 []) (dev [(Reg.MEM_PASS_LEN, 4), (Reg.MEM_PASS_STATUS, 1)]) (fun t => t.bit Reg.MEM_PASS_STATUS 2 && t.reg Reg.MEM_PASS_READ == 4)].all id =
    true := by decide +kernel
theorem test_witness_regions : [after (.mirrorEnable .debug 15) (dev [(Reg.MEM_RGNk_COUNT 15, 1), (Reg.MEM_RGNk_SHADOW 15, 1)]) (fun t => t.bit (Reg.MEM_RGNk_CFG 15) 2 && t.fld (Reg.MEM_RGNk_CFG 15) 5 4 == 1),
    after (.mirrorEnable .debug 15) (dev [(Reg.MEM_RGNk_COUNT 15, 1)]) (fun t => !t.bit (Reg.MEM_RGNk_CFG 15) 2 && t.bit (Reg.MEM_RGNk_CFG 15) 7),
    after (.mirrorDisable .debug 0) (dev [(Reg.MEM_RGNk_CFG 0, 0x14)]) (fun t => !t.bit (Reg.MEM_RGNk_CFG 0) 2),
    after (.regionStrengthWrite .debug 0 2) (dev []) (fun t => t.fld (Reg.MEM_RGNk_CFG 0) 1 0 == 2 && t.bit (Reg.MEM_RGNk_CFG 0) 6),
    after (.resilverDone 0) (dev [(Reg.MEM_RGNk_CFG 0, 0x14)]) (fun t => t.fld (Reg.MEM_RGNk_CFG 0) 5 4 == 2),
    (List.range (dev []).variant.stacks).all (fun n => !(dev []).stackLost n),
    after (.reencodeDone 0) (dev [(Reg.MEM_RGNk_CFG 0, 0x42), (Reg.MEM_RGNk_BASE 0, 3), (Reg.MEM_RGNk_COUNT 0, 1)])
      (fun t => sget 1 t.encBase 3 == 2 && sget 1 t.encBase 4 == 1 && !t.bit (Reg.MEM_RGNk_CFG 0) 6)].all id = true := by decide +kernel
/-- WholeResetsClearAllButAon: each reset, one during a burn, and the loss and return of VAON. -/
theorem test_witness_resets : [after .porNLow (run (seatIn .h)) (fun t => t.power == .reset && t.reg Reg.SYS_RSTCAUSE == 2 && t.seats == []),
    after .vpltUndervoltage (run (seatIn .h)) (fun t => t.reg Reg.SYS_RSTCAUSE == 4 && t.reg Reg.AON_WAKECFG == regReset Reg.AON_WAKECFG),
    after .pltpgFall (run (seatIn .h)) (fun t => t.reg Reg.SYS_RSTCAUSE == 4),
    after (.sysRstCmd .debug) { dev [] with mem := [(1, 1)] } (fun t => t.reg Reg.SYS_RSTCAUSE == 16 && t.mem == []),
    after (.sysRstCmd .debug) { dev [] with burn := .rollback 1 } (fun t => t.resetPending && t.power == .on),
    after .vaonLoss (dev []) (fun t => t.power == .dead && t.regs == []),
    after .vaonReturn { dev [] with power := .dead } (fun t => t.power == .reset && t.bit Reg.AON_STATUS 3)].all id = true := by decide +kernel
/-- FusesAndOwnerRecordsFollowTheirRules: the burns, an owner that is not M mode's, a record that is refused, and one installed. -/
theorem test_witness_fuses : [after (.burnRollback .debug) (owned (dev [])) (fun t => t.burn == .rollback 3 && t.bit Reg.SYS_TRUST 3),
    !(dev []).closed, after (.burnKey .debug) (owned (dev [])) (fun t => t.bit Reg.SYS_TRUST 3),
    after (.fuseBurnEnd true) { dev [(Reg.SYS_TRUST, 0x18)] with burn := .key 6, keyFuses := 1 } (fun t => t.keyFuses == 7 && t.closed && t.reg Reg.SYS_TRUST == 1),
    after (.fuseBurnEnd true) { dev [] with burn := .rollback 64, rollFuses := 1 } (fun t => t.rollFuses == 0xFFFFFFFFFFFFFFFF),
    after (.burnKey (.seat 0)) (run (seatIn .t)) (fun t => t.out == [.busError (.seat 0)]),
    (spanning 2048 0x4000 1792).all (fun p => (dev []).pageReadable p), (dev []).tagsMatch 0x4000 1792 0, recordCode (dev []) true (bytesAt [] 0x4000 1792) != 0,
    after (.ownerInstall .debug 0x4000 0 []) (dev []) (fun t => t.fld Reg.SYS_OWN_STATUS 7 0 == 1 && !t.bit Reg.SYS_OWN_STATUS 8),
    after .ownerInstallApply { dev [] with install := some { record := { version := 1, rollback := 9, key := [], domains := [], seatmap := [], tmax := [] } } }
      (fun t => (t.owner.map (fun r => r.rollback)) == some 9 && t.install == none)].all id = true := by decide +kernel
/-- PowerModesFollowTheirCommands: a state for each clause. -/
theorem test_witness_power : [recordCode { dev [] with power := .reset } false (({ dev [] with power := .reset } : State).flashAt 0 1792) != 0,
    recordCode { dev [] with power := .reset } false (({ dev [] with power := .reset } : State).flashAt 0x10000 1792) != 0,
    after (.supplyGoodBoot false false) { dev [] with power := .reset } (fun t => t.power == .on && t.owner == none),
    !(dev []).runpg,
    after .runpgTimeout { dev [] with runen := true } (fun t => !t.runen && t.fld Reg.SYS_PWR_STATUS 1 0 == 1 && t.reg (Reg.FC_SRCn_CNT 32) == 1),
    (List.range 5).all (fun e => ((dev []).eng e).emu == none),
    (dev []).pwrAccess .debug, (dev []).fld Reg.SYS_PWR_STATUS 1 0 == 0, (dev []).install == none,
    after (.runCmd .debug) (dev [(Reg.SYS_PWR_STATUS, 1), (Reg.TMP_CLKSTAT, 1)]) (fun t => t.fld Reg.SYS_PWR_STATUS 1 0 == 3 && t.runen),
    after (.hibEnter .debug) (dev [(Reg.SYS_PWR_STATUS, 1)]) (fun t => t.power == .hibernate && t.reg Reg.SYS_PWR_STATUS == regReset Reg.SYS_PWR_STATUS),
    wakeLevelBit 6 == some 21, wakeLevelBit 1 == none,
    after (.wakeSource 6 true) { dev [(Reg.AON_WAKE_EN, 0x40)] with power := .hibernate } (fun t => t.bit Reg.AON_WAKE_STATUS 6 && t.power == .reset && t.reg Reg.SYS_RSTCAUSE == 8),
    after (.sysrefLock 1) (dev []) (fun t => t.bit Reg.TMP_CLKSTAT 1),
    after (.sysrefLoss 1) (dev [(Reg.TMP_CLKSTAT, 3)]) (fun t => t.reg Reg.TMP_CLKSTAT == 1),
    after (.sysrefLoss 0) (dev [(Reg.TMP_CLKSTAT, 3), (Reg.TMP_CLKCFG, 2)]) (fun t => t.fld Reg.TMP_CLKSTAT 2 2 == 1 && !t.bit Reg.TMP_CLKSTAT 0),
    (dev []).sensorThere 63].all id = true := by decide +kernel
/-- FaultEventsCountLatchAndEscalate: an event of class C and one of class U capped, the two live lines, each grace, and the record. -/
theorem test_witness_faults : [sourceRaises 63 0, (dev []).sourcePresent 63,
    after (.faultRaise 63 0 false) (calm 63 [(Reg.FC_SRCn_CNT 63, 0xFFFFFFFF)]) (fun t => t.reg (Reg.FC_SRCn_CNT 63) == 0xFFFFFFFF && !t.bit (Reg.FC_STATUS_LO + 4) 31),
    after (.faultRaise 63 2 false) (calm 63 []) (fun t => t.reg (Reg.FC_SRCn_CNT 63) == 1 && t.bit (Reg.FC_STATUS_LO + 4) 31 && t.bit Reg.FC_FIRST 9),
    (andThen (calm 22 []) (.faultRaise 22 1 true)).live 22,
    after (.liveLineClear 22) (andThen (calm 22 []) (.faultRaise 22 1 true)) (fun t => !t.live 22 && (t.source 22).grace == .idle),
    after (.liveLineClear 24) (andThen (dev []) (.faultRaise 24 1 true)) (fun t => !t.live 24 && (t.source 24).clearing &&
      after (.safetyClearHold 24) t (fun u => (u.source 24).grace == .idle)),
    (fun s : State => (s.source 48).grace == .u && s.live 48 && s.classMax 48 == 2 && !s.bit Reg.FC_FIRST 8 && s.fGrace 48 true != 0 && !s.bit Reg.FC_NSEAT 11 &&
        after (.ugraceExpiry 48) s (fun t => (t.source 48).grace == .f && after (.fgraceExpiry 48) t (fun u => u.safeState == 0)))
      (((dev [(Reg.FC_SRCn_CFG 48, 0x885), (Reg.FC_SAFE, 3)]).setSource 48 { grace := .u, cls := 1, clearing := false }).setLive 48 true),
    after (.fcSwraise .debug 15 2 true) (dev []) (fun t => t.live 63 && t.reg (Reg.FC_SRCn_CNT 63) == 1),
    after (.fcFirstClr .debug) (calm 0 []) (fun t => t.reg Reg.FC_FIRST == 0),
    after (.fcHandlingWrite (.seat 0) true) (owned (run (seatIn .h))) (fun t => t.reg Reg.FC_HANDLING == 1)].all id = true := by decide +kernel
theorem test_witness_no_notification : ∀ d, ((dev []).domain d).fnotify = false ∧ ((dev []).domain d).role ≠ 2 := fun _ => (by decide : false = false ∧ (0 : Nat) ≠ 2)
/-- SafeStateIsEnteredAndLeftByItsCommands: entry from RUN, the timer, a release that is refused, to READY, and with a restart. -/
theorem test_witness_safe_state : [after (.safeEnter .debug) (dev [(Reg.FC_SAFE, 3)]) (fun t => t.safeState == 0 && t.fld Reg.FC_SAFE 4 2 == 4),
    after .safeInActive (dev [(Reg.FC_SAFE, 3)]) (fun t => t.live 41 && t.safeState == 0),
    after (.ietFire 2) (dev [(Reg.FC_SAFE, 3), (Reg.FC_HANDLING, 1)]) (fun t => t.bit Reg.FC_IET 8 && t.safeState == 0),
    after (.fcIetClear .debug false) (dev [(Reg.FC_IET, 0x500)]) (fun t => t.reg Reg.FC_IET == 0),
    !releaseOk ((dev []).setLive 41 true), after (.safeRelease .debug) ((dev []).setLive 41 true) (fun t => t.bit Reg.FC_SAFE 11),
    releaseOk (dev []), after (.safeRelease .debug) (dev [(Reg.FC_SAFE, 0)]) (fun t => t.safeState == 2),
    after (.safeRelease .debug) (dev [(Reg.FC_SAFE, 0x10)]) (fun t => t.safeState == 1 && t.plantRestart == some 2 && after .safeRestartDone t (fun u => u.plantRestart == none)),
    after (.safeResume .debug) (dev [(Reg.FC_SAFE, 2)]) (fun t => t.safeState == 3),
    after (.safeResume .debug) (dev [(Reg.FC_SAFE, 0)]) (fun t => t.bit Reg.FC_SAFE 11),
    after (.safeRelease (.seat 0)) (owned (run (seatIn .h))) (fun t => t.out == [.busError (.seat 0)]), !(owned (run (seatIn .h))).plantOrM (.seat 0),
    after .pipHalfPeriod (dev [(Reg.FC_SAFE, 3), (Reg.FC_PIP, 1)]) (fun t => t.bit Reg.FC_PIP 12)].all id = true := by decide +kernel
/-- A throttle at TARGET 100. -/
def throttled (enf : Bool) : State := { dev [] with throttles := [(14, some { cores := 0, target := 100, enforced := enf })] }
/-- ThrottleAndSensorCommandsAct: means at TARGET and above it, a sample at 105 degrees, the last island, each rail, and the clocks. -/
theorem test_witness_throttle : [after (.throttleGraceEnd 14 [(3, 100)]) (throttled false) (fun t => sget none t.throttles 14 == some { cores := 0, target := 100, enforced := true } && t.cap 3 == (dev []).cap 3),
    (groupCores (throttled true) 14).contains 59,
    after (.throttleRemeasure 14 [(59, 101)]) (throttled true) (fun t => t.cap 59 == 100 && sget false t.tmp.enforced (60 * 14 + 59)),
    after (.capUpdate 4 11) { dev [(Reg.SEn_TSHAREc 4 11, 0x640000)] with tmp := { (dev []).tmp with capDue := [(59, true)] } } (fun t => t.cap 59 == 192 && !sget false t.tmp.capDue 59),
    after (.tmpSample 14 [0x1A40, 0x1A40, 0x1A40, 0x1A40]) (dev [(Reg.TMP_GRPg_CFG 14, 1)]) (fun t => t.fld (Reg.TMP_GRPg_STAT 14) 15 0 == 0x1A40 && t.bit Reg.TMP_STATUS 30),
    after (.tmpSampleCmd 0 [0x1A3F, 0x1A3F, 0x1A3F, 0x1A3F]) (dev [(Reg.TMP_GRPg_CFG 0, 2)]) (fun t => t.fld (Reg.TMP_GRPg_STAT 0) 15 0 == 0x1A3F && !t.bit Reg.TMP_STATUS 16),
    after (.tmpSampleCmd 0 [5, 5, 5, 5]) (dev [(Reg.TMP_GRPg_CFG 0, 0)]) (fun t => t.fld (Reg.TMP_GRPg_STAT 0) 15 0 == (dev []).fld (Reg.TMP_GRPg_STAT 0) 15 0),
    after (.droopSag 24) (dev []) (fun t => sget 0 t.tmp.stretch 24 == 8 && t.reg Reg.TMP_SAG_CNT == 1 &&
      after (.stretchRecoverStep 24) t (fun u => sget 0 u.tmp.stretch 24 == 7 && u.bit (Reg.TMP_DROOPi 24) 9)),
    after (.stretchRecoverStep 24) { dev [] with tmp := { (dev []).tmp with stretch := [(24, 1)] } } (fun t => !t.bit (Reg.TMP_DROOPi 24) 8),
    after (.stretchWindowOver 0) (dev []) (fun t => t.reg Reg.TMP_STRX_CNT == 1),
    after (.clockMonitorWindow 5 true) (dev []) (fun t => t.live 33 && sget false t.tmp.offFreq 5),
    after (.clockMonitorWindow 5 false) { dev [] with tmp := { (dev []).tmp with offFreq := [(5, true)] } } (fun t => !sget false t.tmp.offFreq 5),
    after (.railOutOfBand 9 true) (dev []) (fun t => t.bit Reg.TMP_RAIL 25), after (.railOutOfBand 6 false) (dev []) (fun t => !t.bit Reg.TMP_RAIL 6),
    after (.sefreqWrite 0x1494A5) (dev []) (fun t => t.reg Reg.TMP_SEFREQ == 0x1494A5), after (.sefreqWrite 21) (dev []) (fun t => t.reg Reg.TMP_SEFREQ == regReset Reg.TMP_SEFREQ),
    after .generatorHoldoverEnd (dev [(Reg.TMP_CLKSTAT, 0x10)]) (fun t => t.reg Reg.SYS_ISLAND_ON == 0x3000000 && t.tmp.stopped)].all id = true := by decide +kernel

/-! ### The plant's outputs and clock, the webs, captures, marks and staging (R182 to R205, R293 to R303, R443 to R460, R657) -/

/-- A device in RUN of the safe state, with more registers set. -/
def running (rs : List (Nat × W32)) : State := dev ([(Reg.FC_SAFE, 3)] ++ rs)
/-- PlantOutputsAndZonesFollowTheirRules: the last output before and after its minimum time, a slew of 0 and a slew, a zone that empties. -/
theorem test_witness_plant_outputs : [after .lockstepMismatch (runPlant (seatIn .m)) (fun t => t.plantRestart == some 1 && (t.seat plantSeat).st == .off),
    after .plantRestartDone { dev [] with plantRestart := some 1, plant := { (dev []).plant with machine := some (0, 16, 8) } } (fun t =>
      t.plantRestart == none && (t.seat plantSeat).pc == 8 && t.fld Reg.PLT_STATUS 2 1 == 1 && t.reg Reg.PLT_RESTART_CNT == 1),
    after (.soDemandChange 31) (running [(Reg.PLT_SO_OUT, 0x80000000), (Reg.PLT_SOk_CFG 31, 0)]) (fun t => t.reg Reg.PLT_SO_STATE == 0x80000000),
    soMin (running [(Reg.PLT_SO_OUT, 1), (Reg.PLT_SOk_CFG 0, 0x05000000)]) 0 == 5,
    after (.soDemandChange 0) (running [(Reg.PLT_SO_OUT, 1), (Reg.PLT_SOk_CFG 0, 0x05000000)]) (fun t => t.reg Reg.PLT_SO_STATE == 0),
    after (.soMinTimeExpiry 0) (running [(Reg.PLT_SO_OUT, 1), (Reg.PLT_SOk_CFG 0, 0x05000000)]) (fun t => t.reg Reg.PLT_SO_STATE == 1),
    after (.soMinTimeExpiry 0) (dev [(Reg.FC_SAFE, 0)]) (fun t => sget false t.plant.soDone 0),
    after (.moSlewTick 7) (running [(Reg.PLT_MOm_VAL 7, 900)]) (fun t => t.moDutyOf 7 == 900),
    after (.moSlewTick 7) (running [(Reg.PLT_MOm_VAL 7, 900), (Reg.PLT_MOm_CFG 7, 0x00640000)]) (fun t => t.moDutyOf 7 == 100),
    after (.moSlewTick 0) { running [(Reg.PLT_MOm_VAL 0, 50), (Reg.PLT_MOm_CFG 0, 0x00640000)] with moDuty := [(0, 120)] } (fun t => t.moDutyOf 0 == 50),
    after (.occholdExpiry 7) { dev [(Reg.PLT_CZz_STAT 7, 4)] with plant := { (dev []).plant with zoneHold := [(7, true)] } } (fun t => !t.bit (Reg.PLT_CZz_STAT 7) 2),
    zonePresence (dev [(Reg.PLT_CZz_CFG 7, 0x10000), (Reg.PLT_PRES, 0x80)]) 7,
    after (.pltCzOvrWrite 7 0x32) (dev []) (fun t => t.fld (Reg.PLT_CZz_OVR 7) 17 4 == 3 && t.bit (Reg.PLT_CZz_OVR 7) 2 && t.bit (Reg.PLT_CZz_STAT 7) 3),
    after (.pltHbWrite .debug) (dev [(Reg.PLT_HBCFG, 1), (Reg.PLT_STATUS, 1)]) (fun t => !t.lapsed),
    after .heartbeatLapse (dev [(Reg.PLT_STATUS, 0)]) (fun t => t.lapsed && t.live 23)].all id = true := by decide +kernel
/-- A minute of a fixed local time: 600 s after 1970, with schedule entry 63 at that minute on Thursday for zone 7. -/
def clocked (rs : List (Nat × W32)) : State := dev ([(Reg.AON_RTC_SEC_LO, 600), (Reg.AON_RTC_SEC_LO + 4, 0), (Reg.AON_TZ, 0)] ++ rs)
/-- ClockScheduleAndPresenceFollowTheirRules: a second, a dead device, the zone at 840 and 841 minutes, a minute with and without an entry. -/
theorem test_witness_clock : [after .rtcSecond (clocked []) (fun t => t.rtcSec == 601), after .rtcSecond { dev [] with power := .dead } (fun t => t.regs == (dev []).regs),
    after (.rtcSecWrite 0xFFFFFFFFFF) (clocked []) (fun t => t.rtcSec == 0xFFFFFFFFFF && t.reg (Reg.AON_RTC_SEC_LO + 4) == 0xFF),
    after (.aonTzWrite 841) (clocked []) (fun t => t.reg Reg.AON_TZ == 0), after (.aonTzWrite 840) (clocked []) (fun t => t.reg Reg.AON_TZ == 840),
    after (.aonTzWrite 0xFCB8) (clocked []) (fun t => t.reg Reg.AON_TZ == 0xFCB8),
    after (.aonTzWrite 2) { clocked [] with plant := { (dev []).plant with lastMin := some 10 } } (fun t => t.reg Reg.AON_TZ == 2 && t.plant.lastMin == some 12),
    after (.calDateRead .debug) (clocked []) (fun t => t.reg Reg.AON_CAL_DATE == (calendar 600).1 && t.fld Reg.AON_CAL_TIME 11 6 == 10 && t.out == [.readData .debug ((t.reg Reg.AON_CAL_DATE).setWidth 64)]),
    (clocked []).localSec == 600, minuteDue (clocked []) 10,
    after .scheduleMinute (clocked []) (fun t => t.plant.lastMin == some 10 && t.reg Reg.AON_ZMODE == (dev []).reg Reg.AON_ZMODE),
    (List.range 7).any (fun w => (fun s : State => schFires s 10 63 && after .scheduleMinute s (fun t => t.fld Reg.AON_ZMODE 15 14 == 2 && t.bit Reg.AON_STATUS 1))
      (clocked [(Reg.AON_SCHk 63, BitVec.ofNat 32 (2 ^ 29 + 2 ^ 27 + 2 ^ 25 + 2 ^ (11 + w) + 10))])),
    after .scheduleMinute (clocked [(Reg.AON_RTC_SEC_LO, 601)]) (fun t => t.plant.lastMin == none),
    after .oscStop (dev []) (fun t => t.bit Reg.AON_STATUS 2 && t.reg (Reg.FC_SRCn_CNT 34) == 1),
    after .oscStop { dev [] with power := .hibernate } (fun t => t.bit Reg.AON_STATUS 2 && t.reg (Reg.FC_SRCn_CNT 34) == 0),
    after (.presSample 8) (dev [(Reg.PLT_PRESCFG, 0x10)]) (fun t => t.bit Reg.PLT_PRES 3 && t.bit Reg.PLT_PRES 7 && !t.bit Reg.PLT_PRES 0),
    after (.presSample 8) (dev [(Reg.PLT_PRESCFG, 0x20)]) (fun t => t.bit Reg.PLT_PRES 3 && !t.bit Reg.PLT_PRES 7)].all id = true := by decide +kernel
/-- Web 3 in state `st`, enabled, of ratio 1 and period 4096 / 256 ns, with its state `w`. -/
def webIn (st : Nat) (w : Web) : State :=
  (((calm 17 [(Reg.POSn_CTL 3, 1), (Reg.POSn_STATE 3, BitVec.ofNat 32 st), (Reg.POSn_PERIOD 3, 4096), (Reg.POS_STATUS, BitVec.ofNat 32 (st * 64))]).setAct (Reg.POSn_RATIO_LO 3) 0x10000).setAct
    (Reg.POSn_RATIO_LO 3 + 4) 0).setWeb 3 w
/-- WebEdgesAndCommandsMoveTheWeb: an edge of both inputs, one forward and one backward, at half a period and before it, and LOST. -/
theorem test_witness_edges : [(webIn 1 Web.init).webState 3 == 1, (webIn 1 Web.init).webSrc 3 == 0, (webIn 1 Web.init).ratio 3 == 0x10000, (webIn 1 Web.init).islandUp 22,
    after (.encEdge 3 true true 9) (webIn 1 Web.init) (fun t => t.reg (Reg.POSn_QERR_CNT 3) == 1 && (t.web 3).acc == 0),
    after (.encEdge 3 true false 9) (webIn 1 { Web.init with acc := 0x30000 }) (fun t => (t.web 3).acc == 0x40000 && (t.web 3).tBase == 9),
    after (.encEdge 3 false true 9) (webIn 1 { Web.init with acc := 0x30000 }) (fun t => (t.web 3).acc == 0x20000),
    after (.encEdge 3 true false 2048) (webIn 2 { Web.init with acc := 0x30000 }) (fun t => (t.web 3).acc == 0x40000 && t.reg (Reg.POSn_NOISE_CNT 3) == 0),
    after (.encEdge 3 true false 2047) (webIn 2 { Web.init with acc := 0x30000 }) (fun t => (t.web 3).acc == 0x30000 && t.reg (Reg.POSn_NOISE_CNT 3) == 1),
    after (.encEdge 3 false true 9999) (webIn 2 { Web.init with acc := 0x30000 }) (fun t => (t.web 3).acc == 0x30000 && t.reg (Reg.POSn_NOISE_CNT 3) == 1),
    after (.encEdge 3 false true 9) (webIn 3 Web.init) (fun t => t.reg (Reg.POSn_LOSTEDGE 3) == 0xFFFFFFFF),
    quietB (webIn 1 Web.init) 17,
    after (.encIndexEdge 3 9) ((webIn 1 { Web.init with revOn := true, revNet := 5 }).setReg (Reg.POSn_REV 3) 5) (fun t => t.reg (Reg.POSn_IDX_CNT 3) == 5 && t.reg (Reg.POSn_IDXERR_CNT 3) == 0),
    after (.encIndexEdge 3 9) ((webIn 1 { Web.init with revOn := true, revNet := 4 }).setReg (Reg.POSn_REV 3) 5) (fun t => t.reg (Reg.POSn_IDX_CNT 3) == 4 && t.reg (Reg.POSn_IDXERR_CNT 3) == 1),
    after (.edgeSynthesis 3) (webIn 2 { Web.init with nsyn := 1 }) (fun t => (t.web 3).acc == 0x10000 && (t.web 3).nsyn == 2 && t.reg (Reg.POSn_SYNTH_CNT 3) == 1),
    after (.edgeSynthesis 3) (webIn 2 { Web.init with nsyn := 2, trusted := 7 }) (fun t => t.webState 3 == 3 && t.fld (Reg.POSn_STATE 3) 8 7 == 1 && (t.web 3).bcast == 7 && t.live 17)].all id =
    true := by decide +kernel
theorem test_witness_web_commands : [after (.webEnable 0) (calm 17 []) (fun t => t.webState 0 == 1 && t.bit (Reg.POSn_CTL 0) 0), after (.webDisable 3) (webIn 2 Web.init) (fun t => t.webState 3 == 0),
    after (.posSet 3) ((webIn 1 Web.init).setReg64 (Reg.POSn_SET_LO 3) 0x123456789) (fun t => t.bcastPos 3 == 0x123456789 && t.webState 3 == 1),
    after (.posSet 3) (webIn 2 Web.init) (fun t => t.bit (Reg.POSn_STATE 3) 9),
    after (.posResume 3) ((webIn 3 { Web.init with trusted := 0x50000 }).setReg (Reg.POSn_LOSTEDGE 3) 0xFFFFFFFE) (fun t => t.webState 3 == 1 && (t.web 3).acc == 0x30000),
    after (.posResume 3) (webIn 1 Web.init) (fun t => t.bit (Reg.POSn_STATE 3) 9),
    after (.posClrcnt 3) ((webIn 1 Web.init).setReg (Reg.POSn_QERR_CNT 3) 4) (fun t => t.reg (Reg.POSn_QERR_CNT 3) == 0),
    after (.ringSampleTimeout 3) ((webIn 2 Web.init).setAct (Reg.POSn_CFG 3) 2) (fun t => t.webState 3 == 3 && t.fld (Reg.POSn_STATE 3) 8 7 == 3),
    after (.ringSampleTimeout 3) (webIn 2 Web.init) (fun t => t.webState 3 == 2)].all id = true := by decide +kernel
/-- CapturesMarksAndBroadcastsFollowTheirRules: a broadcast in SLOW and in RUN, a mark at its position, a FIFO with room and a full one. -/
theorem test_witness_captures : [(List.range 5).all (fun e => ((dev []).eng e).emu == none), (List.range 8).all (fun d => !((dev []).stgDom d).armedOn),
    (List.range 64).all (fun k => !(dev []).bit (Reg.POS_MKk_CTL k) 0), !(dev []).spare.want,
    after (.positionBroadcast 4096) (webIn 1 { Web.init with acc := 0x50000 }) (fun t => t.bcastPos 3 == 5),
    after (.positionBroadcast 2048) (webIn 2 { Web.init with acc := 0x50000, bcast := 0x1000 }) (fun t => (t.web 3).bcast == 0x58000 && t.bcastPos 3 == 5),
    after (.positionBroadcast 4096) (((webIn 1 { Web.init with acc := 0x50000 }).setReg (Reg.POS_MKk_CTL 63) 0x1F).setReg (Reg.POS_MKk_POS_LO 63) 5)
      (fun t => t.bit (Reg.POS_MKk_STAT 63) 0 && !t.bit (Reg.POS_MKk_CTL 63) 0 && t.fld (Reg.POS_MKk_STAT 63) 31 16 == 1),
    after (.positionBroadcast 4096) (dev [(Reg.SYS_ISLAND_ON, 0)]) (fun t => t.regs == (dev [(Reg.SYS_ISLAND_ON, 0)]).regs),
    after (.tofEdge 3 512) ((webIn 1 { Web.init with acc := 0x50000 }).setReg (Reg.TOFm_CFG 3) 0xD) (fun t => (t.tof 3).fifo == [(5, 2)] && after (.tofPop 3) t (fun u => (u.tof 3).fifo == [])),
    after (.tofEdge 3 512) (((webIn 1 Web.init).setReg (Reg.TOFm_CFG 3) 0xD).setTof 3 { fifo := List.replicate 8 (1, 1), last := none, lastChange := none })
      (fun t => (t.tof 3).fifo.length == 8 && t.bit (Reg.TOFm_STAT 3) 4),
    after (.markCtlWrite 63 0xFFFFFFBF) (dev []) (fun t => t.reg (Reg.POS_MKk_CTL 63) == 0xFF01BF), after (.markCtlWrite 63 0x41) (dev []) (fun t => t.reg (Reg.POS_MKk_CTL 63) == 0x40),
    after (.psamplePublish 0) (dev []) (fun t => t.links == []), fbits (((dev [(Reg.RNG_STATUS, 1)]).setAct (Reg.POSn_CFG 0) 0x40).act (Reg.POSn_CFG 0)) 15 6 == 1,
    (dev [(Reg.RNG_STATUS, 1)]).ringSt == 1].all id = true := by decide +kernel
/-- Domain 0's set: open and armed. -/
def staged (x : StgDom) : State := { owned (dev []) with stg := [(0, x)] }
/-- StagingSetsFollowTheirCommands: an arm, a second one, a commit of one register, and an armed set whose list has loaded and has not. -/
theorem test_witness_staging : [(staged StgDom.init).stgAccess .debug 0, !(staged StgDom.init).stgAccess (.host 5) 0, !(staged StgDom.init).bit (Reg.SYS_Dd_NQ_CTL 0) 0,
    after (.stageArm .debug 0) (staged { StgDom.init with openSet := [(Reg.POSn_CFG 3, 1)] }) (fun t => (t.stgDom 0).armed == [(Reg.POSn_CFG 3, 1)] && (t.stgDom 0).openSet == [] &&
      t.fld (Reg.SNP_STGd_STATUS 0) 14 13 == 2 && after (.stageArm .debug 0) t (fun u => u.fld (Reg.SNP_STGd_STATUS 0) 19 16 == 4) &&
      after (.stageCommit .debug 0) t (fun u => u.fld (Reg.SNP_STGd_STATUS 0) 19 16 == 4) && after (.stageCancel .debug 0) t (fun u => !(u.stgDom 0).armedOn)),
    after (.stageDiscard .debug 0) (staged { StgDom.init with openSet := [(Reg.POSn_CFG 3, 1)] }) (fun t => (t.stgDom 0).openSet == []),
    after (.stageCommit .debug 0) (staged { StgDom.init with openSet := [(Reg.POSn_CFG 3, 2)] }) (fun t => t.act (Reg.POSn_CFG 3) == 2 && t.fld (Reg.SNP_STGd_STATUS 0) 19 16 == 1),
    after (.stageCommit (.host 5) 0) (staged StgDom.init) (fun t => t.out == [.busError (.host 5)]),
    (fun s : State => loadEntries s 0 0x4000 0 0 1 == .ok [(Reg.POSn_CFG 3, 1)] && s.ptr (Reg.SNP_STGd_LIST_LO 0) == (0x4000, 0) && s.listN 0 == 1 &&
        after (.loadListDone 0) s (fun t => t.fld (Reg.SNP_STGd_STATUS 0) 14 13 == 2))
      { (staged { StgDom.init with armedOn := true }).setReg (Reg.SNP_STGd_STATUS 0) 0x2000 |>.setReg (Reg.SNP_STGd_LIST_LO 0) 0x4000 |>.setReg (Reg.SNP_STGd_LIST_N 0) 1 with
          mem := ((List.range 9).zip (leBytes 8 (Reg.POSn_CFG 3) ++ [1])).filterMap (fun p => if p.2 = 0 then none else some (0x4000 + p.1, p.2)) }].all id = true := by
  decide +kernel

/-! ### The stage units, the emitter and the inspection unit (R207 to R292) -/

/-- A descriptor of `n` bytes, its fields as offset, width and value. -/
def fields (n : Nat) (fs : List (Nat × Nat × Nat)) : List Byte :=
  fs.foldl (fun d f => d.take f.1 ++ leBytes f.2.1 f.2.2 ++ d.drop (f.1 + f.2.1)) (List.replicate n 0)
/-- Two windows over memory, and one over the engine's store. -/
def inWin : Desc := mkDesc 0x4000 0x4000 7 0 0 0 false true
def outWin : Desc := mkDesc 0x8000 0x8000 7 0 0 0 false true
def locWin : Desc := mkDesc 0 0x4000 7 0 0 0 true true
/-- A work of seat 0 with two lines. -/
def work (started : Bool) (desc : List Byte) (slots : List Desc) : Work :=
  { seat := 0, seq := 4, notify := false, count := 2, desc := desc, slots := slots, started := started, done := 0 }
/-- Engine 4's unit `u` has the work. -/
def at4 (u : Nat) (w : Work) (s : State) : State := s.setQueue 4 u [w]
/-- A descriptor of each unit: an empty pitch from pitch 5, a copy of one pel, and one ink of one pel. -/
def lcuD : List Byte := fields 112 [(2, 1, 7), (3, 1, 0x0A), (8, 8, 5), (24, 4, 16), (28, 2, 32), (32, 2, 1), (34, 2, 1), (36, 4, 2048)]
def ccuD : List Byte := fields 64 [(2, 1, 4), (3, 1, 9), (4, 1, 1), (16, 2, 1), (18, 2, 1), (20, 4, 2048), (28, 2, 1), (32, 4, 256)]
def scuD : List Byte := fields 96 [(2, 1, 6), (3, 1, 0x29), (4, 1, 1), (6, 2, 1), (16, 2, 1), (20, 4, 256), (28, 4, 1), (32, 4, 256), (48, 8, 0x200), (56, 8, 0x400)]
def nmuD : List Byte := fields 112 [(2, 1, 7), (3, 1, 0x19), (4, 1, 1), (6, 2, 1), (8, 2, 1), (12, 4, 1), (16, 4, 256), (20, 4, 256), (32, 8, 0x100)]
def emuD : List Byte := fields 80 [(2, 1, 5), (3, 1, 0x0B), (5, 1, 1), (6, 1, 1), (7, 1, 1), (16, 4, 256), (20, 2, 64), (66, 1, 1), (70, 2, 64)]
def icuD : List Byte := fields 192 [(2, 1, 12), (3, 1, 0x69), (4, 1, 0x11), (6, 2, 1), (8, 2, 1), (12, 4, 1), (16, 4, 256), (64, 8, 0x100), (72, 8, 0x800), (94, 2, 1), (162, 2, 1), (170, 2, 1), (176, 8, 1)]
def lcuW (b : Bool) : Work := work b lcuD [outWin, outWin]
def ccuW (b : Bool) : Work := work b ccuD [inWin, outWin]
def scuW (b : Bool) : Work := work b scuD [inWin, outWin, outWin]
def nmuW (b : Bool) : Work := work b nmuD [inWin, outWin, inWin]
def emuW (b : Bool) : Work := work b emuD [inWin, outWin]
def icuW (b : Bool) : Work := work b icuD [inWin, locWin, locWin, inWin]
/-- The state of the emitter and inspection tests: web 0 in SLOW at 0, lane 0 a drop stream and lane group 0 Ethernet or not, ring depth 64 and WLINE 1. -/
def press (eth : Bool) : State :=
  { dev [(Reg.UMK_LANEl_CFG 0, if eth then 3 else 2), (Reg.POS_STATUS, 1), (Reg.SNP_SPR_ROLES, 0)] with mem := [(0x8000, 1), (0x8010, 64)] }
theorem test_witness_stage_start : [lcuValid (lcuW false), lcuBounds (lcuW false), !lcuBounds { lcuW false with slots := [data] }, ccuValid (ccuW false), scuValid (scuW false), !scuHasEd scuD,
    nmuValid (nmuW false), emuValid (press false) emuD, icuValid (press true) 4 (icuW false),
    after (.lcuWorkStart 4) (at4 0 (lcuW false) (press false)) (fun t => t.front 4 0 == some (lcuW true) && t.bit (Reg.SEn_LCU_STATUS 4) 0),
    after (.lcuWorkStart 4) (at4 0 (lcuW true) (press false)) (fun t => t.bit (Reg.SEn_LCU_STATUS 4) 0 == false),
    after (.lcuWorkStart 4) (at4 0 { lcuW false with slots := [mkDesc 0 2047 7 0 0 0 false true, outWin] } (press false)) (fun t => t.queue 4 0 == []),
    after (.ccuWorkStart 4) (at4 1 (ccuW false) (press false)) (fun t => t.front 4 1 == some (ccuW true)),
    after (.ccuWorkStart 4) (at4 1 { ccuW false with desc := [] } (press false)) (fun t => t.queue 4 1 == []),
    after (.scuWorkStart 4) (at4 2 (scuW false) (press false)) (fun t => t.front 4 2 == some (scuW true) && t.bit (Reg.SEn_SCU_STATUS 4) 0),
    after (.nmuWorkStart 4) ((at4 3 (nmuW false) (press false)).setReg Reg.SNP_SPR_ROLES 0x20000) (fun t => t.front 4 3 == some (nmuW true) && (t.eng 4).nmuDepth == 64),
    after (.icuWorkStart 4) (at4 5 (icuW false) (press true)) (fun t => t.front 4 5 == some (icuW true) && t.bit (Reg.SEn_ICU_STATUS 4) 0)].all id = true := by decide +kernel
/-- The ring of the emitter's work lies in slot 0 and ends at its last byte. -/
theorem test_witness_emu_start : after (.emuWorkStart 4) (at4 4 (emuW false) ({ press false with mem := [(0x8010, 64)] })) (fun t => t.front 4 4 == some (emuW true) &&
    ((t.eng 4).emu.map (fun r => (r.due, r.depth, r.next))) == some (0, 64, [0])) = true := by decide +kernel
/-- StageUnitsPassTheirLines: a pitch ready and not ready, a line of an empty pitch, of one pel, of one ink, and one the NMU waits for. -/
theorem test_witness_stage_lines : [lcuNeeds (at4 0 (lcuW true) (press false)) 4 == some (lcuW true, 5),
    after (.lcuReadyPoll 4) (at4 0 (lcuW true) (press false)) (fun t => (t.eng 4).lcu.ready == 0),
    after (.lcuBoundaryDecision 4) (at4 0 (lcuW true) (press false)) (fun t => ((t.eng 4).lcu.decision.map (fun x => (x.pitch, x.flags))) == some (5, 0) && bytesAt t.mem 0x8000 1 == [5]),
    (fun w : Work => readyNow (at4 0 w (press false)) 4 w 5 != 1 && !decPassed (dev []) w.desc 5 &&
      after (.lcuBoundaryDecision 4) (at4 0 w (dev [])) (fun t => (t.eng 4).lcu.decision == none && t.bit (Reg.SEn_LCU_STATUS 4) 1))
      (work true (fields 192 [(8, 8, 5), (24, 4, 16), (30, 1, 4), (32, 2, 1), (112, 1, 1), (115, 1, 1), (152, 8, 0x100)]) [outWin, outWin]),
    target (press false) 0 outWin 0 == .memory 0x8000, decide (2048 ≤ dLen outWin), (press false).tagsMatch 0x8000 2048 0,
    (spanning 2048 0x8000 2048).all (fun p => (press false).pageWritable p),
    after (.ccuLine 4) (at4 1 (ccuW true) { press false with mem := [(0x4000, 0x34), (0x4001, 0x12)] }) (fun t => bytesAt t.mem 0x8000 3 == [0x34, 0x12, 0] && (t.front 4 1).map (fun w => w.done) == some 1),
    after (.scuLine 4) (at4 2 (scuW true) (press false)) (fun t => (t.front 4 2).map (fun w => w.done) == some 1 && t.reg (Reg.SEn_SCU_LINES 4) == 1),
    after (.scuLine 4) (at4 2 { scuW true with slots := [] } (press false)) (fun t => t.queue 4 2 == []),
    after (.nmuLine 4) (at4 3 (nmuW true) { press false with mem := [] }) (fun t => t.bit (Reg.SEn_NMU_STATUS 4) 1),
    after (.nmuLine 4) ((at4 3 (nmuW true) { press false with mem := [(0x8010, 64)] }).setEng 4 { EngineRun.init with nmuDepth := 64 })
      (fun t => (t.front 4 3).map (fun w => w.done) == some 1 && t.reg (Reg.SEn_NMU_LINES 4) == 1)].all id = true := by decide +kernel
/-- Engine 4 emits: the data of line `due`, the board's next line `next`. -/
def emitting (due next : Nat) (halted : Bool) : State :=
  (press false).setEng 4 { EngineRun.init with emu := some { desc := emuD, slots := [inWin, outWin], seat := 0, count := some 3, eline0 := 0, depth := 64, due := due, next := [next], halted := halted, resendBelow := 0, boardData := [], tookAt := none } }
/-- EmittersSendFireAndStop: an underrun, a line that is due, a board that fires and one that waits, a halt and a cancel. -/
theorem test_witness_emitter : [quietB (calm 37 []) 37,
    after (.emuLineDue 4) ((calm 37 [(Reg.POS_STATUS, 1)]).setEng 4 { EngineRun.init with emuLast := some (0, 1) }) (fun t => t.reg (Reg.SEn_EMU_UCNT 4) == 1 && t.elineOf 4 == 1 && (t.eng 4).episode == some 1),
    after (.emuLineDue 4) (emitting 0 0 false) (fun t => ((t.eng 4).emu.map (fun r => r.due)) == some 1 && t.elineOf 4 == 1),
    after (.emuLineDue 4) (emitting 0 0 true) (fun t => ((t.eng 4).emu.map (fun r => r.due)) == some 0),
    after (.emuFire 4 0) (emitting 1 0 false) (fun t => ((t.eng 4).emu.map (fun r => r.next)) == some [1]),
    after (.emuFire 4 0) (emitting 1 1 false) (fun t => ((t.eng 4).emu.map (fun r => r.next)) == some [1]),
    after (.emuWebHalt 4) ((emitting 1 0 false).setReg Reg.POS_STATUS 0) (fun t => ((t.eng 4).emu.map (fun r => r.halted)) == some true && t.fld (Reg.SEn_EMU_STATUS 4) 1 0 == 2),
    after (.emuCancel 4) (emitting 1 0 false) (fun t => (t.eng 4).emu == none)].all id = true := by decide +kernel
/-- Engine 4 inspects one stream, with `f` done to its run. -/
def inspecting (f : IcuRun → IcuRun) : State :=
  (at4 5 (icuW true) (press true)).setEng 4 { EngineRun.init with icu := f { EngineRun.init.icu with streams := [IcuStream.init] } }
/-- A leader of block 1 for port 1. -/
def leader : GvspDatagram := { gram with port := 1, body := .leader 1 0x01080001 1 1 0 }
/-- InspectionCommandsActOnTheWorkInProgress: a datagram no stream claims, a leader, a dropped one, lines, the evaluation and the lock. -/
theorem test_witness_inspection : [after (.gvspPacket 0 gram) (press true) (fun t => t.reg (Reg.ETHg_NOCLAIM 0) == 1), icuMatch (inspecting id) 4 0 leader == some (icuW true, 0),
    after (.gvspPacket 0 { leader with status := 1 }) (inspecting id) (fun t => t.reg (Reg.SEn_ICU_PKTDROP 4) == 1),
    blockStep (icuStream icuD 0) (-1) 1 == some 0, after (.gvspPacket 0 leader) (inspecting id) (fun t => (t.icuStr 4 0).isOpen && (t.icuStr 4 0).last == 0),
    partDecided (inspecting (fun r => { r with rows := [(0, 0, [7])] })) 4 0 (icuW true) 0,
    (match compareLine (inspecting (fun r => { r with rows := [(0, 0, [7])] })) 4 (icuW true) 0 with | .ok _ => true | _ => false),
    after (.icuLineCompare 4) (inspecting (fun r => { r with rows := [(0, 0, [7])] })) (fun t => (t.front 4 5).map (fun w => w.done) == some 1),
    after (.icuLineTimeout 4) (inspecting (fun r => { r with rows := [(0, 0, [7])] })) (fun t => (t.front 4 5).map (fun w => w.done) == some 1),
    after (.icuLineCompare 4) (inspecting id) (fun t => (t.front 4 5).map (fun w => w.done) == some 0),
    evaluateBank (inspecting id) (icuW true) 1 == .ok [],
    after (.icuEvaluate 4 []) (inspecting (fun r => { r with due := some 1 })) (fun t => (t.eng 4).icu.due == none),
    after (.icuEvaluationDone 4) (inspecting (fun r => { r with evaluating := true })) (fun t => !(t.eng 4).icu.evaluating && t.reg (Reg.SEn_ICU_EVAL 4) == 1),
    after (.icuStreamStale 4 0) ((inspecting id).setReg Reg.FC_FIRST 0x100 |>.setReg (Reg.FC_SRCn_CFG 4) 0x400) (fun t => (t.icuStr 4 0).stale && t.live 4),
    after (.icuLock 4) (inspecting id) (fun t => t.bit (Reg.SEn_ICU_STATUS 4) 2 && after (.icuLockDone 4) t (fun u => u.bit (Reg.SEn_ICU_STATUS 4) 2)),
    after (.icuLockDone 4) (inspecting (fun r => { r with lock := some { left := 0, range := 0, scores := [0] } })) (fun t => t.bit (Reg.SEn_ICU_LOCKRES 4) 8),
    after (.icuAdjWrite 4 0x8001) (dev []) (fun t => t.fld (Reg.SEn_ICU_ADJ 4) 15 0 == 0x8001),
    after (.icuCancel 4) (inspecting (fun r => { r with evaluating := true })) (fun t => (t.eng 4).icu.cancel), after (.icuCancel 4) (inspecting id) (fun t => t.queue 4 5 == [])].all id =
    true := by decide +kernel

/-! ### The spare controller, links and the ring (R19, R25, R305 to R399) -/

/-- Roles of the engines 0 to 4, lowest first. -/
def roles (r : List Nat) (rs : List (Nat × W32)) : State :=
  dev ([(Reg.SNP_SPR_ROLES, BitVec.ofNat 32 (r.foldr (fun x v => 16 * v + x) 0)), (Reg.FC_FIRST, 0x100)] ++ (List.range 5).map (fun e => (Reg.FC_SRCn_CFG e, 0x400)) ++ rs)
/-- Engine 0 shadows engine 1; engine 2 is in BIST, engine 3 FAILED, engine 4 a SPARE. -/
def sparing (rs : List (Nat × W32)) : State := roles [2, 0, 3, 5, 1] ([(Reg.SNP_SPR_STATUS, 0x09), (Reg.SNP_SPR_SWATH, 0xFF9)] ++ rs)
/-- SpareControllerFollowsItsCommands: a host that may not, a rotation with and without a spare, and every role's command. -/
theorem test_witness_spare : [(sparing []).roleDomain 1 == none, !(sparing []).sprAccess (.host 5), (sparing []).sprAccess .debug, (sparing []).shadowing,
    after (.sprRotate (.host 5)) (sparing []) (fun t => t.out == [.busError (.host 5)]),
    after (.sprRotate .debug) (roles [0, 0, 0, 0, 0] []) (fun t => t.spare.want),
    after (.sprRotate .debug) ((roles [0, 0, 0, 0, 1] [(Reg.POS_STATUS, 1), (Reg.TMP_BFACT, 16)]).setEng 0 { EngineRun.init with emuLast := some (0, 1) })
      (fun t => t.role 4 == 2 && t.sprTarget == 0 && t.fld Reg.SNP_SPR_STATUS 2 0 == 1),
    after (.sprAbort .debug) (sparing []) (fun t => t.role 0 == 1 && t.fld Reg.SNP_SPR_STATUS 2 0 == 0), after (.sprAbort .debug) (roles [0] []) (fun t => t.role 0 == 0),
    after (.sprRetest .debug 3) (sparing []) (fun t => t.role 3 == 3), after (.sprRetest .debug 4) (sparing []) (fun t => t.role 4 == 1),
    after (.sprFail .debug 4) (sparing []) (fun t => t.role 4 == 1), (sparing []).role 1 == 0,
    after (.sprRecWrite .debug 3 5 0xFFFFFFFF) (sparing []) (fun t => t.reg (Reg.SNP_SPR_RECs_LO 3) == 5 && t.reg (Reg.SNP_SPR_RECs_HI 3) == 0x3FFFFFFF),
    after .rotationDue (roles [0] [(Reg.SNP_SPR_CFG, 0)]) (fun t => !t.spare.want), after .rotationDue (roles [0] [(Reg.SNP_SPR_CFG, 1)]) (fun t => t.spare.want),
    after .shadowTimeout (sparing []) (fun t => t.role 0 == 1 && t.bit Reg.SNP_SPR_STATUS 7), after .shadowTimeout (roles [0] []) (fun t => !t.bit Reg.SNP_SPR_STATUS 7)].all id = true := by decide +kernel
theorem test_witness_handoff : [(sparing []).swathOf 1 == some 0, handoffReady (sparing []) 9, (sparing []).sprTarget == 1,
    after (.selfTestEnd 4 true) (sparing []) (fun t => t.role 4 == 1), quietB (sparing []) 2, after (.selfTestEnd 2 false) (sparing []) (fun t => t.role 2 == 5),
    after (.selfTestEnd 2 true) (sparing []) (fun t => t.role 2 == 1 && !t.fenced 2), after (.engineFatalError 4) (sparing []) (fun t => t.role 4 == 1),
    (List.range 96).all (fun k => ((roles [0, 0, 0, 0, 0] []).seat (128 + k)).st == .off), quietB (roles [0, 0, 0, 0, 0] []) 1,
    after (.emissionWatchdog 4) (emitting 1 1 false) (fun t => t.role 4 == 0), (emitting 1 0 false).role 4 == 0,
    after (.recoverComplete 4) ({ emitting 1 1 false with mem := [(0x8000, 64), (0x8010, 64)] }.setReg Reg.SNP_SPR_ROLES 0x40000) (fun t => t.role 4 == 0),
    after (.recoverComplete 4) (emitting 1 1 false) (fun t => t.role 4 == 0),
    after (.channelTimeout 21 22 7 2 false) (dev []) (fun t => t.reg Reg.FAB_ERRCOMP_CNT == 7 && sget 0 t.fabric.discards 21 == 2), (dev []).variant.island 14].all id = true := by decide +kernel
/-- Lane 4 of port 3 in state `st`, its link with `l`. -/
def lanes (st : Nat) (l : Link) (rs : List (Nat × W32)) : State :=
  ((calm 14 ([(Reg.UMK_LANEl_CFG 4, 1), (Reg.UMK_PORTp_STATE 3, BitVec.ofNat 32 st)] ++ rs)).setAct (Reg.UMK_PORTp_LANES 3) 0x4010).setLink 3 l
def mark : Marker := { blane := 7, width := 8, want := 0xFE, txmask := 0, uidlo := 0 }
/-- LanesAndBundlesFollowTheirSignals: each signal from the state before it and from another, a marker, a lane lost and rejoined. -/
theorem test_witness_lanes : [(lanes 1 Link.init []).laneLink 4 == some 3, after (.laneSignalDetect 4) (lanes 1 Link.init []) (fun t => t.linkState 3 == 2), after (.laneSignalDetect 4) (lanes 3 Link.init []) (fun t => t.linkState 3 == 3),
    after (.laneLock 4 7) (lanes 2 Link.init [(Reg.UMK_LANEl_STAT 4, 1)]) (fun t => t.linkState 3 == 3 && t.fld (Reg.UMK_LANEl_STAT 4) 6 4 == 7),
    after (.laneAdaptDone 4) (lanes 3 Link.init [(Reg.UMK_LANEl_STAT 4, 2)]) (fun t => t.linkState 3 == 4 && (t.link 3).want == 1),
    (dev [(Reg.UMK_LANEl_CFG 4, 2)]).laneLink 4 == some 28, after (.markerSend 4) (dev [(Reg.UMK_LANEl_CFG 4, 2)]) (fun t => t.out.length == 1),
    after (.rxMarker 4 mark true false) (lanes 4 Link.init [(Reg.UMK_LANEl_STAT 4, 2)]) (fun t => sget 0 t.mcrcBad 4 == 1),
    after (.rxMarker 4 mark true true) (lanes 4 { Link.init with want := 3 } [(Reg.UMK_LANEl_STAT 4, 2)]) (fun t => (t.link 3).mask == 2 && t.fld (Reg.UMK_LANEl_STAT 4) 6 4 == 7 && t.bit (Reg.UMK_LANEl_STAT 4) 2),
    quietB (lanes 5 Link.init []) 14,
    after (.laneFail 4 .signal) (lanes 5 { Link.init with want := 3, peerWant := 3, mask := 3 } []) (fun t => t.linkState 3 == 5 && (t.link 3).mask == 2 && t.reg (Reg.UMK_PORTp_LANEDROP 3) == 1),
    after (.laneRejoin 4) (lanes 5 Link.init [(Reg.UMK_PORTp_CFG 3, 0)]) (fun t => (t.link 3).want == 0),
    after (.laneRejoin 4) (lanes 5 Link.init [(Reg.UMK_PORTp_CFG 3, 0x10000), (Reg.UMK_LANEl_STAT 4, 0x82)]) (fun t => (t.link 3).want == 1),
    after (.portHoldExpiry 119) ((dev [(Reg.UMK_LANEl_STAT 95, 0x100)]).setLink 119 { Link.init with resumable := some 5 }) (fun t => (t.link 119).resumable == none && t.reg (Reg.FC_SRCn_CNT 14) == 1),
    after (.portHoldExpiry 3) (lanes 5 { Link.init with resumable := some 5 } []) (fun t => (t.link 3).resumable == some 5),
    after (.laneRefclkLoss 7) (dev [(Reg.UMK_REFCFG, 0x8000)]) (fun t => sget false t.refMoved 7), after (.laneRefclkLoss 7) (dev [(Reg.UMK_REFCFG, 0)]) (fun t => !sget false t.refMoved 7)].all id =
    true := by decide +kernel
/-- A HELLO of a profile 1 peer. -/
def hello (prof : Nat) : Train := { sub := 1, prof := prof, ver := 1, uid := 9, node := 0, credits := [65, 0, 65, 65, 65, 65], expects := [0, 0, 0, 0, 0, 0] }
theorem test_witness_training : [(lanes 4 Link.init []).trainProf 3 == 1, profFits 1 0, !profFits 1 2,
    after (.trainSendTick 3) (lanes 4 Link.init []) (fun t => t.out.length == 1 && t.linkState 3 == 4), after (.trainSendTick 3) (lanes 4 { Link.init with helloRx := true } []) (fun t => (t.link 3).readyTx),
    after (.trainSendTick 3) (lanes 4 { Link.init with helloRx := true, readyRx := true, peerCredits := [65] } []) (fun t => t.linkState 3 == 5 && ((t.link 3).cls 0).credits == 65),
    after (.rxTrain 3 (hello 0)) (lanes 4 Link.init []) (fun t => (t.link 3).helloRx && (t.link 3).peerUid == 9 && t.linkState 3 == 4),
    after (.rxTrain 3 (hello 2)) (lanes 4 Link.init []) (fun t => !(t.link 3).helloRx), after (.rxTrain 3 (hello 0)) (lanes 5 Link.init []) (fun t => !(t.link 3).helloRx)].all id = true := by decide +kernel
/-- A frame of class 5, and port 3 in UP with class 5 in state `c`. -/
def frame : Frame := { ftype := 4, cls := 5, dnode := 0, snode := 0, payload := [1, 2] }
def sending (c : LinkClass) : State := lanes 5 { Link.init with peerCredits := List.replicate 6 100, classes := [(5, c)] } [(Reg.UMK_PORTp_CFG 3, 1)]
/-- FramesAreNumberedCreditedAndResent: a frame with credit, reports, acknowledgements at the wrap of the sequence, and an Ethernet group. -/
theorem test_witness_frames : [nextClass ((sending { LinkClass.init with queue := [{ f := frame, fwd := false }], credits := 9 }).link 3) == some 5,
    after (.frameSend 3) (sending { LinkClass.init with queue := [{ f := frame, fwd := false }], credits := 9, txSeq := 0xFFFFFFFF }) (fun t => ((t.link 3).cls 5).txSeq == 0 && ((t.link 3).cls 5).credits == 7 && t.out.length == 1),
    after (.frameSend 3) (sending LinkClass.init) (fun t => t.out == []), after (.rxCred 3 5 1) (sending { LinkClass.init with lastReport := 8191 }) (fun t => ((t.link 3).cls 5).credits == 2),
    after (.rxAck 3 5 0xFFFFFFFF 7 0) (sending { LinkClass.init with replay := [(0xFFFFFFFF, frame), (0, frame)] }) (fun t => ((t.link 3).cls 5).replay == [(0, frame)]),
    after (.rxNak 3 5 0 7 0) (sending { LinkClass.init with replay := [(0xFFFFFFFF, frame), (0, frame)] }) (fun t => ((t.link 3).cls 5).resend == [(0, frame)]),
    after (.ackSend 3 5) (sending { LinkClass.init with unacked := 1 }) (fun t => ((t.link 3).cls 5).unacked == 0 && t.out.length == 1), after (.ackSend 3 5) (sending LinkClass.init) (fun t => t.out == []),
    after (.creditReport 3 5) (sending { LinkClass.init with freed := 1 }) (fun t => ((t.link 3).cls 5).reported == 1 && t.out.length == 1), after (.creditReport 3 5) (sending LinkClass.init) (fun t => t.out == []),
    after (.rtoExpiry 3 5) (sending { LinkClass.init with replay := [(0, frame)] }) (fun t => ((t.link 3).cls 5).resend == [(0, frame)]), (dev [(Reg.UMK_CFG, 0)]).linkRto 24 == 0,
    after (.rxCorruptFrame 119 (.trailer 5 0 7 0)) (dev [(Reg.UMK_LANEl_STAT 95, 0x500)]) (fun t => ((t.link 119).cls 5).nakSent && t.out.length == 1),
    after (.rxCorruptFrame 23 .header) (dev []) (fun t => t.reg (Reg.UMK_PORTp_CRCERR 23) == 1), after (.rxCorruptFrame 23 (.malformed 7 0)) (dev []) (fun t => t.reg (Reg.UMK_PORTp_BADFRM 23) == 1),
    after (.rxCred 3 5 1) (lanes 4 Link.init []) (fun t => ((t.link 3).cls 5).credits == 0)].all id = true := by decide +kernel
/-- Lane group 15 as an Ethernet group, used by port 3. -/
def ether (rs : List (Nat × W32)) : State :=
  (calm 16 ([(Reg.UMK_LANEl_CFG (ethLane 15), 3), (Reg.ETHg_CFG 15, 0x11), (Reg.UMK_PORTp_STATE 3, 1)] ++ rs)).setAct (Reg.UMK_PORTp_LANES 3) 0x7E00
def ethFrame (len et : Nat) : EthFrame := { dst := 0, src := 0, tag := none, otherTag := false, etherType := et, len := len, fcsOk := true }
theorem test_witness_ethernet : [(ether []).ethOn 15, (ether []).ethPorts 15 == [3], !(dev []).ethOn 15, quietB (ether []) 16,
    after (.ethFrameRx 15 (ethFrame 63 0x800)) (ether []) (fun t => t.reg (Reg.ETHg_RXERR 15) == 1), after (.ethFrameRx 15 (ethFrame 64 0x800)) (ether []) (fun t => t.reg (Reg.ETHg_RXFRM 15) == 1),
    after (.ethFrameRx 15 (ethFrame 9216 0x801)) (ether []) (fun t => t.reg (Reg.ETHg_RXOTHER 15) == 1), after (.ethFrameRx 15 (ethFrame 9217 0x800)) (ether []) (fun t => t.reg (Reg.ETHg_RXLONG 15) == 1),
    after (.ethArpRequest 15 0 1 2) (ether []) (fun t => t.reg (Reg.ETHg_TXFRM 15) == 1 && t.out.length == 1), after (.ethArpRequest 15 0 1 2) (ether [(Reg.ETHg_CFG 15, 1)]) (fun t => t.out == []),
    after (.ethLinkUp 15) (ether []) (fun t => t.linkState 3 == 4 && t.bit (Reg.ETHg_STATUS 15) 0),
    after (.ethLinkDown 15) (ether [(Reg.ETHg_STATUS 15, 3)]) (fun t => t.fld (Reg.ETHg_STATUS 15) 1 0 == 0 && t.reg (Reg.FC_SRCn_CNT 16) == 1)].all id = true := by decide +kernel
/-- A ring device in state `st` as node 5: port 3 is an UP tree port, its peer's UID is 9. -/
def ringIn (st : Nat) (rs : List (Nat × W32)) : State :=
  ((((calm 15 ([(Reg.RNG_CTL, 0x6403), (Reg.RNG_STATUS, BitVec.ofNat 32 (st + 0x500)), (Reg.UMK_PORTp_STATE 3, 5)] ++ rs)).setAct (Reg.UMK_PORTp_LANES 3) 0x8010).setLink 3
    { Link.init with peerCredits := List.replicate 6 100 }).setRport 3 { RingPort.init with peerRoot := true }).modRing (fun r => { r with routes := [(9, 4)] })
/-- A RING frame for port 3 from node 9. -/
def ringHdr (cls : Nat) : RxHdr := hdr 3 cls 0 9
def ringMsg (n sub : Nat) (fs : List (Nat × Nat × Nat)) : List Byte := fields n ([(0, 1, sub), (4, 4, 1)] ++ fs)
/-- RingJoinsElectsAndKeepsTime: the ticks in a state that sends and in one that does not, the expiries, and each frame. -/
theorem test_witness_ring_ticks : [(ringIn 2 []).ringPorts == [3], (ringIn 2 []).node == 5,
    after .rngEnable (dev []) (fun t => t.ringSt == 1), after .rngEnable (ringIn 2 []) (fun t => t.ringSt == 2), after .rngDisable (dev []) (fun t => t.ringSt == 0), after .rngDisable (ringIn 2 []) (fun t => t.ringSt == 0),
    after .linkSendTick (ringIn 2 []) (fun t => ((t.link 3).cls 3).queue.length == 1), after .dlyreqSendTick (ringIn 2 []) (fun t => ((t.link 3).cls 1).queue.length == 1),
    after .announceSendTick (ringIn 1 []) (fun t => ((t.link 3).cls 3).queue.length == 1), after .announceSendTick (dev []) (fun t => t.links == []),
    after .tsyncSendTick (ringIn 3 []) (fun t => ((t.link 3).cls 1).queue.length == 1 && t.ring.syncSeq == 1), after .tsyncSendTick (ringIn 2 []) (fun t => t.ring.syncSeq == 0),
    after .heartbeatSendTick (ringIn 2 [(Reg.RNG_KEEPER, 9)]) (fun t => ((t.link 3).cls 3).queue.length == 1), after .heartbeatSendTick (ringIn 3 []) (fun t => ((t.link 3).cls 3).queue == []),
    after .klossExpiry (ringIn 2 []) (fun t => t.ringSt == 1 && t.bit Reg.RNG_STATUS 3), after .klossExpiry (ringIn 3 []) (fun t => t.ringSt == 3),
    (ringIn 1 []).ownCand == some { admitted := false, kprio := 0x64, uid := 0 }, !({ admitted := false, kprio := 254, uid := 0 } : Candidate).better { admitted := false, kprio := 0x64, uid := 0 },
    after .electtExpiry ((ringIn 1 []).modRing (fun r => { r with best := some { admitted := true, kprio := 0, uid := 0 } })) (fun t => t.ringSt == 1),
    after .holdoverExpiry (ringIn 2 [(Reg.RNG_STATUS, 0x50A)]) (fun t => t.ring.holdover), after .holdoverExpiry (ringIn 2 []) (fun t => !t.ring.holdover),
    after (.routeExpiry 9) (ringIn 2 []) (fun t => sget 0 t.ring.routes 9 == 0)].all id = true := by decide +kernel
theorem test_witness_ring_frames : [(ringIn 2 []).roleDomain 1 == none, quietB (ringIn 2 []) 15,
    (ringRx (ringIn 2 []) (ringHdr 3) (ringMsg 40 0x01 [(16, 8, 9), (24, 2, 9), (26, 1, 1)]) 0x01 40).1,
    after (.rxLink (ringHdr 3) (ringMsg 40 0x01 [(16, 8, 9), (24, 2, 9), (26, 1, 1)])) (ringIn 2 []) (fun t => (t.rport 3).peerUid == 9 && t.fld (Reg.RNG_PORTp_STAT 3) 13 2 == 9),
    (ringRx (ringIn 2 []) (ringHdr 1) (ringMsg 40 0x11 []) 0x11 40).1,
    after (.rxDlyreq (ringHdr 1) (ringMsg 40 0x11 []) 7) (ringIn 2 []) (fun t => ((t.link 3).cls 1).queue.length == 1),
    after (.rxDlyreq { ringHdr 1 with retx := true } (ringMsg 40 0x11 []) 7) (ringIn 2 []) (fun t => ((t.link 3).cls 1).queue == []),
    after (.rxDlyrsp (ringHdr 1) (ringMsg 40 0x12 [(16, 8, 10), (24, 8, 20), (32, 8, 25)]) 47) (ringIn 2 []) (fun t => (t.rport 3).delays == [32]),
    (ringRx (ringIn 1 []) (ringHdr 3) (ringMsg 44 0x02 [(16, 8, 9)]) 0x02 44).1, bseqFresh (ringIn 1 []) 9 1,
    after (.rxAnnounce (ringHdr 3) (ringMsg 44 0x02 [(16, 8, 9), (26, 1, 7), (36, 1, 255)])) (ringIn 1 []) (fun t => (t.ring.best.map (fun c => c.uid)) == some 9 && sget 0 t.ring.lastB 9 == 1),
    after (.rxAssign (ringHdr 3) (ringMsg 26 0x04 [(16, 8, 77), (24, 2, 12)])) { ringIn 2 [] with uid := 77 } (fun t => t.node == 12),
    after (.rxAssign (ringHdr 3) (ringMsg 26 0x04 [(16, 8, 78), (24, 2, 12)])) { ringIn 2 [] with uid := 77 } (fun t => t.node == 5)].all id = true := by decide +kernel

/-- A ring device whose press-control domain is domain 0, with its epoch buffers at 0x4000. -/
def member (st : Nat) (rs : List (Nat × W32)) : State :=
  owned (ringIn st ([(Reg.RNG_STATUS, BitVec.ofNat 32 (st + 0x504)), (Reg.RNG_EBUF_LO, 0x4000)] ++ rs))
/-- What a received frame leaves when it is accepted and forwarded. -/
def takenBy (s : State) (cls sub n : Nat) (bs : List Byte) : Bool × State :=
  match ringRx s (ringHdr cls) bs sub n with
  | (true, u) => ringForward u (ringHdr cls) bs
  | r => (false, r.2)
theorem taken_of {s : State} {cls sub n : Nat} {bs : List Byte} (h : (takenBy s cls sub n bs).1 = true) (k : (takenBy s cls sub n bs).2.ringSt ≠ 0) :
    Taken s (takenBy s cls sub n bs).2 (ringHdr cls) bs sub n := by
  unfold takenBy at h k ⊢
  split at h
  · rename_i u e; exact ⟨u, e, by simp only [← h], by simpa only [e] using k⟩
  · cases h
/-- RingMembershipEpochsAndServicesFollowTheirRules: an accepted frame of each subtype, at the keeper and at a follower. -/
theorem test_witness_taken : (∀ c ∈ [(3, 0x03, 48), (3, 0x05, 33), (3, 0x06, 32), (3, 0x07, 28), (1, 0x13, 28), (1, 0x14, 35), (1, 0x15, 40), (5, 0x20, 33)], ∀ st ∈ [2, 3],
    (takenBy (member st []) c.1 c.2.1 c.2.2 (ringMsg c.2.2 c.2.1 [])).1 = true ∧ (takenBy (member st []) c.1 c.2.1 c.2.2 (ringMsg c.2.2 c.2.1 [])).2.ringSt = st) := by decide +kernel
theorem test_witness_membership : [after (.rxHeartbeat (ringHdr 3) (ringMsg 48 0x03 [(28, 4, 6), (32, 1, 1)])) (member 3 []) (fun t => sfind 9 t.ring.members == some (6, true, true)),
    after (.rxHeartbeat (ringHdr 3) (ringMsg 48 0x03 [(28, 4, 6)])) (member 2 []) (fun t => t.ring.members == []),
    after (.rxEpochData (ringHdr 3) (ringMsg 33 0x05 [(16, 4, 2), (24, 4, 1), (32, 1, 0x55)])) (member 2 [(Reg.RNG_EPOCH, 1)]) (fun t => t.reg Reg.RNG_EPOCH_PEND == 2 && t.mem == [(0x14000, 0x55#8)]),
    after (.rxEpochData (ringHdr 3) (ringMsg 33 0x05 [(16, 4, 1), (24, 4, 1)])) (member 2 [(Reg.RNG_EPOCH, 1)]) (fun t => t.reg Reg.RNG_EPOCH_PEND == 0),
    after (.rxEpochCommit (ringHdr 3) (ringMsg 32 0x06 [(16, 4, 2), (20, 4, 9), (24, 8, 77)])) (member 2 [(Reg.RNG_EPOCH, 1)]) (fun t => t.ring.apply == some 77 && t.ring.pendCrc == some 9 && t.reg Reg.RNG_EPOCH == 1),
    after (.rxEpochReq (ringHdr 3) (ringMsg 28 0x07 [(16, 4, 1), (24, 4, 1)])) ((member 3 [(Reg.RNG_EPOCH, 1)]).modRing (fun r => { r with total := 1 })) (fun t => ((t.link 3).cls 3).queue.length == 1),
    epochRead (member 3 []) false 0 1 == some [0],
    after (.rxRingSnap (ringHdr 1) (ringMsg 28 0x13 [(16, 8, 5)])) (member 2 []) (fun t => t.ring.snaps == [5]), after (.rxRingSnap (ringHdr 1) (ringMsg 28 0x13 [])) (member 2 []) (fun t => t.reg Reg.RNG_SNAPLATE == 1),
    after (.rxRmark (ringHdr 1) (ringMsg 35 0x14 [(16, 8, 3), (24, 8, 4), (33, 1, 6)])) (member 2 [(Reg.RNG_RMKi 0, 0x020000C1)]) (fun t => t.ring.rmarks == [(0, 3, 9, 10004)]),
    after (.rxRmark (ringHdr 1) (ringMsg 35 0x14 [])) (member 2 []) (fun t => t.ring.rmarks == []),
    after (.rxPsample (ringHdr 1) (ringMsg 40 0x15 [(16, 8, 3), (24, 4, 4), (28, 1, 3), (29, 1, 2), (32, 8, 5)])) ((member 2 []).setAct (Reg.POSn_CFG 3) 0x90002) (fun t => (t.web 3).sample == some (3, 4, 2, 5)),
    after (.rxMbx (ringHdr 5) (ringMsg 33 0x20 [(17, 1, 7), (18, 1, 15), (19, 1, 16), (24, 2, 3584)])) (member 2 []) (fun t => t.ring.mail.length == 1)].all id = true := by decide +kernel
theorem test_witness_epochs : [after .epochDistribute (member 2 []) (fun t => t.fld Reg.RNG_EPOCH_STATUS 4 2 == 5), after .epochDistribute ((member 3 []).modRing (fun r => { r with distributing := true })) (fun t => t.fld Reg.RNG_EPOCH_STATUS 4 2 == 6),
    after .epochDistribute (member 3 []) (fun t => t.reg Reg.RNG_EPOCH_PEND == 1 && t.reg Reg.RNG_EPOCH == 0),
    after .epochAbort ((member 3 [(Reg.RNG_EPOCH_PEND, 1)]).modRing (fun r => { r with distributing := true })) (fun t => t.reg Reg.RNG_EPOCH_PEND == 0 && t.fld Reg.RNG_EPOCH_STATUS 4 2 == 4), quietB (member 3 []) 15,
    (epochCrc (member 3 []) true 0).isSome, after .epochCommitTimeout ((member 3 [(Reg.RNG_EPOCH_PEND, 1)]).modRing (fun r => { r with distributing := true })) (fun t => t.ring.apply.isSome && t.fld Reg.RNG_EPOCH_STATUS 4 2 == 2),
    after .epochApply ((member 3 [(Reg.RNG_EPOCH_PEND, 2), (Reg.RNG_EPOCH_STATUS, 2)]).modRing (fun r => { r with apply := some 9 })) (fun t => t.reg Reg.RNG_EPOCH == 2 && t.actBank),
    after .epochApply ((member 2 [(Reg.RNG_EPOCH, 1), (Reg.RNG_EPOCH_PEND, 2)]).modRing (fun r => { r with apply := some 9 })) (fun t => t.reg Reg.RNG_EPOCH == 1 && t.reg Reg.RNG_EPOCH_PEND == 0 && t.ringTime == 9),
    after .ringSnapSend (member 2 [(Reg.RNG_SNAP_TIME_LO, 5)]) (fun t => t.ring.snaps == [5] && t.ring.snapId == 1), after .ringSnapSend (dev []) (fun t => t.ring.snapId == 0),
    after .ringSnapTime ((member 2 []).modRing (fun r => { r with snaps := [5] })) (fun t => t.ring.snaps == [] && t.ringTime == 5), after .ringSnapTime (member 2 []) (fun t => t.ringTime == 0),
    after .rmarkAction ((member 2 [(Reg.RNG_RMKi 15, 0xDD)]).modRing (fun r => { r with rmarks := [(15, 3, 9, 4)] })) (fun t => sget [] t.pos.nextTags 3 == [6] && t.ring.rmarks == []),
    after .rmarkAction ((ringIn 2 []).modRing (fun r => { r with rmarks := [(15, 3, 9, 4)] })) (fun t => t.pos.nextTags == [] && t.ring.rmarks == []),
    after (.mtabEntryMissing 9) ((member 3 [(Reg.RNG_MTAB_LO, 0x8000)]).modRing (fun r => { r with members := [(9, (0, false, true))] })) (fun t => t.mem == [(0x8000 + 32 * 9 + 21, 7#8)]),
    after (.mtabEntryMissing 9) (member 3 [(Reg.RNG_MTAB_LO, 0x8000)]) (fun t => t.mem == []),
    after (.mailboxTimeout 9 1 7 3) ((member 2 []).modRing (fun r => { r with mail := [{ snode := 9, sdom := 1, ddom := 7, msgid := 3, nseg := 2, mlen := 4, parts := [] }] })) (fun t => t.ring.mail == [] && t.reg (Reg.RNG_MBd_LOST 7) == 1)].all
    id = true := by decide +kernel
/-- A message that is empty, one that cannot be read, and one with no route, from a seat of domain 0. -/
theorem test_witness_mailbox : [after (.mailboxSend (.seat 0) 1) { member 2 [] with seats := [(0, seatIn .h)] } (fun t => t.out == [.busError (.seat 0)]),
    after (.mailboxSend (.seat 0) 0) { member 2 [] with seats := [(0, seatIn .h)] } (fun t => t.reg (Reg.RNG_MBd_TX_STATUS 0) == 6),
    after (.mailboxSend (.seat 0) 0) { member 2 [(Reg.RNG_MBd_TX_DEST 0, 0x7000008), (Reg.RNG_MBd_TX_LO 0, 0x1000000)] with seats := [(0, seatIn .h)] } (fun t => t.reg (Reg.RNG_MBd_TX_STATUS 0) == 2),
    after (.mailboxSend (.seat 0) 0) { member 2 [(Reg.RNG_MBd_TX_DEST 0, 0x8008), (Reg.RNG_MBd_TX_LO 0, 0x4000)] with seats := [(0, seatIn .h)] } (fun t => t.reg (Reg.RNG_MBd_TX_STATUS 0) == 4 && t.reg Reg.RNG_NOROUTE == 1)].all
    id = true := by decide +kernel

/-! ### Sensors, thermal units, colour pipelines, loops, coils, the ADC and fans (R402 to R437, R472 to R518) -/

/-- The sensing block `x` over a device. -/
def sensing (f : Sensing → Sensing) (rs : List (Nat × W32)) : State := (fun s : State => { s with sens := f s.sens }) (dev ([(Reg.FC_SAFE, 3)] ++ rs))
/-- A frame of the given rows, bound to `u`. -/
def sframe (rows : List (List (BitVec 16))) (u : Option Nat) (ps : List (Nat × W32)) : SensorFrame := { number := 6, time := 7, rows := rows, broken := false, unit := u, params := ps, st := 1 }
/-- Port 7 holds an open frame of one row for unit 7. -/
def portOpen (rs : List (Nat × W32)) : State := sensing (fun x => { x with opened := [(7, some (sframe [[1]] (some 7) []))] }) ([(Reg.SPn_CFG 7, 0x21)] ++ rs)
/-- SensingUnitsFollowTheirCommands: widths 8, 16 and 17, a row of an open frame, of none and the last one, closes and timeouts. -/
theorem test_witness_ports : [after (.spEnable 7 0x20) (sensing id [(Reg.SPn_CFG 7, 0)]) (fun t => t.reg (Reg.SPn_CFG 7) == 0x21 && t.fld (Reg.SPn_STATUS 7) 1 0 == 1),
    after (.spEnable 7 0x10) (sensing id [(Reg.SPn_CFG 7, 0)]) (fun t => t.reg (Reg.SPn_CFG 7) == 0x11), after (.spEnable 7 0x21) (portOpen []) (fun t => t.fld (Reg.SPn_STATUS 7) 1 0 == 0),
    after (.spVsyncStart 7 9) (sensing id [(Reg.SPn_CFG 7, 0x21)]) (fun t => t.reg (Reg.SPn_FRAME 7) == 1 && t.fld (Reg.SPn_STATUS 7) 1 0 == 2 && t.reg64 (Reg.SPn_VTIME_LO 7) == 9),
    (portOpen [(Reg.SPn_CFG 7, 0x821), (Reg.SPn_ROWS 7, 2)]).pulseRows 7 == 2,
    after (.spVsyncStart 7 9) (portOpen [(Reg.SPn_CFG 7, 0x821), (Reg.SPn_ROWS 7, 2)]) (fun t => t.reg (Reg.SPn_BROKEN 7) == 1 && t.reg (Reg.SPn_FRAME 7) == 1),
    after (.spRow 7 [3]) (sensing id [(Reg.SPn_CFG 7, 0x21)]) (fun t => t.reg (Reg.SPn_ORPHAN 7) == 1), after (.spRow 7 [3]) (sensing id [(Reg.SPn_CFG 7, 0x20)]) (fun t => t.reg (Reg.SPn_ORPHAN 7) == 0),
    after (.spRow 7 [0xFFFF, 2]) (portOpen [(Reg.SPn_CFG 7, 0x11)]) (fun t => ((sget none t.sens.opened 7).map (fun g => g.rows)) == some [[1], [0xFF, 2]]),
    after (.spRow 7 [3]) (portOpen [(Reg.SPn_CFG 7, 0x821), (Reg.SPn_ROWS 7, 2)]) (fun t => sget none t.sens.opened 7 == none && (sget [] t.sens.inbox 7).length == 1 && t.fld (Reg.SPn_LAST 7) 13 0 == 2),
    after (.spFrameClose 7) (portOpen []) (fun t => (sget [] t.sens.inbox 7).length == 1 && t.reg (Reg.SPn_BROKEN 7) == 0), after (.spFrameClose 7) (sensing id []) (fun t => t.sens.inbox == []),
    after (.spFrameTimeout 7) (portOpen [(Reg.SPn_FTMO 7, 1)]) (fun t => t.reg (Reg.SPn_TIMEOUT 7) == 1 && t.reg (Reg.SPn_BROKEN 7) == 1), after (.spFrameTimeout 7) (portOpen []) (fun t => t.reg (Reg.SPn_TIMEOUT 7) == 0),
    after (.spPclkLoss 7) (portOpen []) (fun t => t.bit (Reg.SPn_STATUS 7) 2 && t.reg (Reg.SPn_CLKLOSS 7) == 1 && t.live 18 && t.reg (Reg.SPn_BROKEN 7) == 1),
    after (.spPclkLoss 7) (portOpen [(Reg.SPn_STATUS 7, 4)]) (fun t => t.reg (Reg.SPn_CLKLOSS 7) == 0)].all id = true := by decide +kernel
/-- Thermal unit 7 in state `st` with its run changed by `f`. -/
def thermal (st : Nat) (f : TuRun → TuRun) (rs : List (Nat × W32)) : State := (owned (sensing id ([(Reg.TUn_STATUS 7, BitVec.ofNat 32 st), (Reg.TUn_SHUT 7, 0x25)] ++ rs))).modTu 7 f
def pixel : TuPixel := { ofs := 0, gain := 0x4000, a1 := 0, a2 := 0, bad := false, autobad := false }
/-- A table of one pixel, and the unit's inbox with a frame of one pixel. -/
def tab1 : TuTable := { width := 1, height := 1, tc := 0, tref := 0, calib := true, rt := (List.range 1025).map (fun k => 64 * k), px := [pixel] }
def thermalFrame (st : Nat) (f : TuRun → TuRun) (g : SensorFrame) : State := (fun s : State => { s with sens := { s.sens with inbox := [(7, [g])] } }) (thermal st f [])
def geom1 : List (Nat × W32) := [(Reg.TUn_GEOM 7, 0x1001)]
theorem test_witness_thermal : [after (.tuCal 7) (thermal 1 id []) (fun t => (t.tu 7).calReq), after (.tuCal 7) (thermal 2 id []) (fun t => t.bit (Reg.TUn_STATUS 7) 12 && t.tuState 7 == 2),
    after (.tuAbort 7) (thermal 4 id []) (fun t => t.tuState 7 == 5 && t.fld (Reg.TUn_STATUS 7) 11 9 == 3 && t.reg (Reg.TUn_CALFAIL 7) == 1), after (.tuAbort 7) (thermal 5 id []) (fun t => t.reg (Reg.TUn_CALFAIL 7) == 0),
    after (.tuLoad 7) (thermal 1 id []) (fun t => t.tuState 7 == 8 && (t.tu 7).loading && after (.tuLoadDone 7 []) t (fun u => u.tuState 7 == 0 && u.bit (Reg.TUn_STATUS 7) 8 && u.live 20)),
    after (.tuLoad 7) (thermal 2 id []) (fun t => t.bit (Reg.TUn_STATUS 7) 12), after (.tuSave 7) (thermal 1 id []) (fun t => (t.tu 7).saving),
    after (.tuLoadDone 7 []) (thermal 1 id []) (fun t => !t.live 20), after (.tuMoveTimeout 7) (thermal 2 id []) (fun t => t.tuState 7 == 1 && t.fld (Reg.TUn_STATUS 7) 11 9 == 1),
    after (.tuMoveResult 7) (thermal 2 (fun r => { r with result := some none }) []) (fun t => t.tuState 7 == 1), after (.tuMoveResult 7) (thermal 1 (fun r => { r with result := some none }) []) (fun t => t.reg (Reg.TUn_CALFAIL 7) == 0),
    after (.tuMoveResult 7) (thermal 2 (fun r => { r with result := some (some 9) }) []) (fun t => t.tuState 7 == 3 && t.reg (Reg.TUn_TMOVE 7) == 9),
    after (.tuMoveResult 7) (thermal 2 (fun r => { r with result := some (some 9) }) [(Reg.TUn_SHUT 7, 5)]) (fun t => t.tuState 7 == 4 && (t.tu 7).sums.isSome),
    after (.tuHoldoffExpiry 7) (thermal 1 id [(Reg.TUn_STATUS 7, 0x11)]) (fun t => t.reg (Reg.TUn_STATUS 7) == 1), after (.tuDomWrite .debug 7 0xF) (thermal 1 id []) (fun t => t.reg (Reg.TUn_DOM 7) == 7),
    after (.tuDomWrite (.host 5) 7 0xF) (thermal 1 id []) (fun t => t.out == [.busError (.host 5)]), after (.tuFrame 7 [] false) (thermal 1 id []) (fun t => t.reg (Reg.TUn_FRMERR 7) == 0),
    after (.tuFrame 7 [] false) (thermalFrame 0 id (sframe [[1]] none geom1)) (fun t => t.sens.inbox == [] && t.reg (Reg.TUn_FRAME 7) == 0),
    after (.tuFrame 7 [] false) (thermalFrame 1 id (sframe [[1, 2]] none geom1)) (fun t => t.reg (Reg.TUn_FRMERR 7) == 1),
    after (.tuFrame 7 [] false) (thermalFrame 1 (fun r => { r with table := some tab1, calReq := true }) (sframe [[1]] none geom1)) (fun t => t.tuState 7 == 2 && (t.tu 7).closing == some 5 && t.reg (Reg.TUn_FRAME 7) == 6),
    (List.range 32).all (fun k => !(thermal 1 id []).leOn k)].all id = true := by decide +kernel
/-- A frame of one pixel runs through its unit: zone 0 of one by one pixel, and no output ring. -/
theorem test_witness_thermal_frame : after (.tuFrame 7 [] false) (thermalFrame 1 (fun r => { r with table := some tab1 }) (sframe [[0x40]] none (geom1 ++ [(Reg.TUn_ZONEz_RECT 7 0, 0x1000100)])))
    (fun t => t.tuState 7 == 1 && t.reg (Reg.TUn_FRAME 7) == 6 && t.sens.inbox == [] && t.mem == []) = true := by decide +kernel
theorem test_witness_pipelines : [after (.cpLoad 3) (sensing id []) (fun t => (t.cp 3).loading && t.bit (Reg.CPn_STATUS 3) 1 && after (.cpLoad 3) t (fun u => u.bit (Reg.CPn_STATUS 3) 6) &&
      after (.cpLoadDone 3 []) t (fun u => u.bit (Reg.CPn_STATUS 3) 3 && u.live 19)),
    after (.cpLoadDone 3 []) (sensing id []) (fun t => !t.live 19), after (.cpDomWrite .debug 3 8) (sensing id []) (fun t => t.reg (Reg.CPn_DOM 3) == 0), after (.cpFrame 3 false false) (sensing id []) (fun t => t.reg (Reg.CPn_FRMERR 3) == 0),
    after (.cpFrame 3 false false) (sensing (fun x => { x with inbox := [(19, [sframe [[1]] none []])] }) []) (fun t => t.reg (Reg.CPn_FRMERR 3) == 1),
    after (.cpFrame 3 false false) (sensing (fun x => { x with inbox := [(19, [sframe [[1]] none [(Reg.CPn_GEOM 3, 0x4001)]])] }) []) (fun t => t.reg (Reg.CPn_FRAME 3) == 6)].all id = true := by decide +kernel
/-- Loop engine 31 enabled with CFG `c`, in RUN. -/
def looping (c : W32) (f : LeRun → LeRun) (rs : List (Nat × W32)) : State := ((running rs).setAct (Reg.LEn_CFG 31) c).modLe 31 (fun r => f { r with initDue := false })
/-- LoopsCoilsAdcAndFansFollowTheirLaws: `plainLoop`, an event-driven engine, a timed one, a missed evaluation, and each command. -/
theorem test_witness_loops : [(looping 0x21 id []).leOn 31, [3, 5, 6, 7].all (fun b => !(looping 0x21 id []).bit (Reg.LEn_STATUS 31) b), (looping 0x21 id []).fld (Reg.LEn_MTOL 31) 30 0 == 0, !(looping 0x21 id []).bit Reg.LE_CAP_STATUS 0,
    after (.leFeedbackArrival 31 0xFFFFFFFF) (looping 0x21 id []) (fun t => t.reg (Reg.LEn_FB 31) == 0xFFFFFFFF && !(t.le 31).arrived), after (.leFbinWrite 31 5) (looping 0x21 id []) (fun t => t.reg (Reg.LEn_FB 31) == 5),
    after (.leFeedbackArrival 31 5) (looping 1 id []) (fun t => (t.le 31).arrived && (t.le 31).latest == 5),
    after (.leTimedEvaluate 31) (looping 1 (fun r => { r with arrived := true, latest := 5 }) [(Reg.LEn_PER 31, 1)]) (fun t => t.reg (Reg.LEn_FB 31) == 5 && (t.le 31).due && after (.lePublish 31) t (fun u => !(u.le 31).due)),
    after (.leMissedEvaluation 31) (looping 0x21 id [(Reg.LEn_PER 31, 1), (Reg.LEn_DWELL 31, 0x100)]) (fun t => t.bit (Reg.LEn_STATUS 31) 7 && t.live 23 && t.reg (Reg.LEn_MISSCNT 31) == 1),
    after (.leTimedEvaluate 31) (looping 1 id [(Reg.LEn_PER 31, 1)]) (fun t => t.bit (Reg.LEn_STATUS 31) 2), after (.lePublish 31) (looping 1 id []) (fun t => !(t.le 31).due),
    after (.leFbinWrite 31 5) (looping 0x41 id []) (fun t => t.reg (Reg.LEn_FBIN 31) == 5 && t.reg (Reg.LEn_FB 31) == 0),
    after (.leCmdReset 31) (looping 1 (fun r => { r with iacc := 5 }) []) (fun t => (t.le 31).iacc == 0 && (t.le 31).initDue), after (.leClrpl 31) (looping 1 id [(Reg.LEn_STATUS 31, 8)]) (fun t => !t.bit (Reg.LEn_STATUS 31) 3 && (t.le 31).forced),
    after (.leTstart 31) (looping 1 id [(Reg.LEn_TEST 31, 0x101)]) (fun t => t.bit (Reg.LEn_STATUS 31) 5 && after (.leTstop 31) t (fun u => !u.bit (Reg.LEn_STATUS 31) 5)), after (.leTstop 31) (looping 1 id []) (fun t => !t.bit (Reg.LEn_STATUS 31) 5),
    after .leCapStart (dev [(Reg.LE_CAP_CTL, 0)]) (fun t => t.reg Reg.LE_CAP_STATUS == 2), after .leCapStart (dev [(Reg.LE_CAP_CTL, 0x8080)]) (fun t => t.reg Reg.LE_CAP_STATUS == 0x8001 && after .leCapStop t (fun u => u.reg Reg.LE_CAP_STATUS == 0))].all
    id = true := by decide +kernel
/-- Solenoid channel 7 with OC 100 and a regulator of hysteresis 2 and 3 samples, its state `f`. -/
def coil (f : VRun → VRun) (rs : List (Nat × W32)) : State :=
  (running ([(Reg.Vn_OC 7, 100), (Reg.Vn_REG 7, 0x6002), (Reg.Vn_CFG 7, 1), (Reg.Vn_SETPT 7, 50), (Reg.CAL_Vn_SENSE 7, 0x40000000), (Reg.Vn_DUTY 7, 0), (Reg.Vn_MOVECFG 7, 0), (Reg.Vn_STATUS 7, 0)] ++ rs)).modVch 7 f
theorem test_witness_coils : [(coil id []).vRole 7 == 0, trimmed (coil id []) 7 100 == 100, (coil id []).fld (Reg.Vn_DITHER 7) 12 0 == 0,
    after (.vSenseSample 7 100) (coil (fun r => { r with q := 1 }) []) (fun t => t.bit (Reg.Vn_STATUS 7) 1 && (t.vch 7).q == 0 && t.reg (Reg.Vn_TRIPCNT 7) == 1 && t.live 25),
    after (.vSenseSample 7 0x3F9C) (coil id []) (fun t => t.bit (Reg.Vn_STATUS 7) 1),
    after (.vSenseSample 7 47) (coil (fun r => { r with held := 3 }) []) (fun t => (t.vch 7).q == 1 && t.bit (Reg.Vn_STATUS 7) 0), after (.vSenseSample 7 47) (coil (fun r => { r with held := 2 }) []) (fun t => (t.vch 7).q == 0),
    after (.vSenseSample 7 53) (coil (fun r => { r with held := 3, q := 1 }) []) (fun t => (t.vch 7).q == 0), after (.vSenseSample 7 52) (coil (fun r => { r with held := 3, q := 1 }) []) (fun t => (t.vch 7).q == 1),
    after (.vSenseSample 7 47) (coil (fun r => { r with held := 3 }) [(Reg.Vn_CFG 7, 0)]) (fun t => (t.vch 7).q == 0),
    after (.vMoveWindowEnd 7) (coil (fun r => { r with request := some 2, det := some { n := 1, runMax := none, dip := false, runMin := 0, minAt := 0 } }) []) (fun t => t.reg (Reg.Vn_MOVE 7) == 0x300000 && (t.tu 2).result == some none),
    after (.vMoveWindowEnd 7) (coil id []) (fun t => t.reg (Reg.Vn_NOMOVECNT 7) == 0), after (.vThermalTick 7) (coil (fun r => { r with msSum := -9, msN := 2 }) []) (fun t => t.reg (Reg.Vn_IMEAN 7) == 0xFFFFFFFC),
    after (.vClrtrip 7) (coil id [(Reg.Vn_STATUS 7, 2)]) (fun t => !t.bit (Reg.Vn_STATUS 7) 1), after (.vClrtrip 7) (coil (fun r => { r with tripAt := some 5 }) [(Reg.Vn_STATUS 7, 2)]) (fun t => t.bit (Reg.Vn_STATUS 7) 1),
    after (.vShutterClose 7 2) ((coil id [(Reg.Vn_CFG 7, 5), (Reg.Vn_MOVECFG 7, 1)]).modTu 2 (fun r => { r with closing := some 7 })) (fun t => (t.vch 7).request == some 2),
    after (.vShutterClose 7 2) ((coil id []).modTu 2 (fun r => { r with closing := some 7 })) (fun t => (t.tu 2).result == some none), after (.vShutterClose 7 2) (coil id []) (fun t => (t.tu 2).result == none),
    after (.vShutterOpen 7 2) (coil (fun r => { r with request := some 2, q := 1 }) []) (fun t => (t.vch 7).request == none && (t.vch 7).q == 0), after (.vShutterOpen 7 2) (coil (fun r => { r with q := 1 }) []) (fun t => (t.vch 7).q == 1)].all id =
    true := by decide +kernel
/-- The sequencer runs entry 0 alone, with two samples averaged, on inputs 0 and 1. -/
def converting (rs : List (Nat × W32)) : State :=
  (fun s : State => { s with plant := { s.plant with adc := { s.plant.adc with cur := some (0x20, 0x10000) } } })
    (running ([(Reg.ADC_SEQn_CFG 0, 0x20), (Reg.ADC_SEQn_TIM 0, 0x10000), (Reg.ADC_CTL, 3), (Reg.ADC_STATUS, 1)] ++ rs))
theorem test_witness_adc : [after (.adcCtlWrite 3) (running [(Reg.ADC_SEQn_CFG 0, 0x20), (Reg.ADC_SEQn_TIM 0, 0x10000)]) (fun t => t.bit Reg.ADC_STATUS 0 && t.plant.adc.cur == some (0x20, 0x10000)), !adcCfgBad 0x20, after (.adcCtlWrite 35) (converting []) (fun t => t.reg Reg.ADC_CTL == 3),
    after (.adcCtlWrite 33) (converting []) (fun t => t.reg Reg.ADC_CTL == 33), after (.adcCtlWrite 2) (converting []) (fun t => t.plant.adc.cur == none),
    after (.adcEntryComplete [0, 0]) (converting []) (fun t => t.fld (Reg.ADC_SEQn_RESULT 0) 31 27 == 1 && sget none t.plant.adc.arrivals 0 == some 0), after (.adcEntryComplete [0]) (converting []) (fun t => t.fld (Reg.ADC_SEQn_RESULT 0) 31 27 == 0),
    after (.adcEntryComplete []) (running []) (fun t => t.fld (Reg.ADC_SEQn_RESULT 0) 31 27 == 0), (List.range 32).all (fun k => !(converting []).leOn k), !(running []).importing,
    after .adcCal (converting []) (fun t => t.plant.adc.calWait), after .adcCal (running []) (fun t => t.bit Reg.ADC_STATUS 1 && after .adcCal t (fun u => u.bit Reg.ADC_STATUS 4) &&
      after (.adcCalDone (List.replicate 8 0x100000) (List.replicate 8 0x500000)) t (fun u => u.bit Reg.ADC_STATUS 2 && u.reg (Reg.CAL_ADC_GAINg 7) == 0x500000) &&
      after (.adcCalDone (List.replicate 8 0x100000) (List.replicate 8 0x500001)) t (fun u => u.bit Reg.ADC_STATUS 3)),
    after (.adcCalDone [] []) (running []) (fun t => !t.bit Reg.ADC_STATUS 2)].all id = true := by decide +kernel
/-- Fan 11 with its state `f`, CFG `c`, and the heartbeat alive. -/
def fanning (c : W32) (f : FanRun → FanRun) (rs : List (Nat × W32)) : State := (running ([(Reg.PLT_STATUS, 0), (Reg.FANn_CFG 11, c), (Reg.FANn_FAIL 11, 0)] ++ rs)).modFan 11 f
theorem test_witness_fans : [decide (11 < (dev []).variant.fans), after (.fanTachEdge 11 9) (fanning 1 id []) (fun t => (t.fan 11).lastEdge == some 9),
    after (.fanTachEdge 11 20008) (fanning 1 (fun r => { r with lastEdge := some 9 }) []) (fun t => (t.fan 11).lastEdge == some 9),
    after (.fanTachEdge 11 20000009) (fanning 1 (fun r => { r with lastEdge := some 9 }) []) (fun t => t.fanRpm 11 == 3000 && (t.fan 11).intervals == [20000000]),
    after (.fanTachTimeout 11) (fanning 1 id [(Reg.FANn_RPM 11, 9)]) (fun t => t.fanRpm 11 == 0), fanMode (fanning 0 id []) 11 == 0, fanMode (fanning 1 id []) 11 == 1, fanMode (fanning 3 id []) 11 == 2, fanMode (fanning 1 id [(Reg.PLT_STATUS, 1)]) 11 == 3,
    fanMode (fanning 1 id [(Reg.FC_SAFE, 0)]) 11 == 5,
    after (.fanUpdate 11) (fanning 0 id []) (fun t => t.fanDuty 11 == 0), after (.fanUpdate 11) (fanning 3 id [(Reg.FANn_DUTY 11, 0x50007)]) (fun t => t.fanDuty 11 == 7), after (.fanUpdate 11) (fanning 1 id [(Reg.FC_SAFE, 0), (Reg.FANn_DUTY 11, 0x50007)]) (fun t => t.fanDuty 11 == 5),
    after (.fanUpdate 11) (fanning 1 id [(Reg.FANn_STATUS 11, 1)]) (fun t => t.fld (Reg.FANn_STATUS 11) 2 0 == 1), after (.fanUpdate 11) (fanning 1 id [(Reg.PLT_STATUS, 1)]) (fun t => t.fld (Reg.FANn_STATUS 11) 2 0 == 3),
    after (.fanUpdate 11) ((fanning 3 (fun r => { r with low := 9 }) [(Reg.FANn_FAIL 11, 0x10001), (Reg.FANn_STATUS 11, 2), (Reg.FANn_DUTYACT 11, 2), (Reg.FANn_RAMP 11, 0x20000)])) (fun t => t.fanFailed 11 && t.reg (Reg.FANn_FAILCNT 11) == 1 && t.fanDuty 11 == 65535),
    after (.fanClrfail 11) (fanning 1 (fun r => { r with low := 9 }) []) (fun t => (t.fan 11).low == 0)].all id = true := by decide +kernel

/-! ### SPI, the building bus, trims, snapshots, the test port, debug and reset (R462 to R470, R525 to R541, R591 to R615, R655) -/

/-- SPI port 3 enabled as a master of 8-bit words with select 0, its run `f`. -/
def spiOn (f : SpiRun → SpiRun) (rs : List (Nat × W32)) : State :=
  ({ dev ([(Reg.SPIn_CFG 3, 0x181), (Reg.SPIn_SELEN 3, 1), (Reg.SPIn_STATUS 3, 0), (Reg.SPIn_XFER 3, 2), (Reg.SPIn_TIMING 3, 0)] ++ rs) with store := [(plantStore, 0xAA)] }).modSpi 3 f
def spiMid (w : Bool) : SpiRun → SpiRun := fun r => { r with xfer := some { tx := 0, rx := 16, len := 2, sel := 0, wlen := 8, retries := 0, waiting := w } }
/-- SpiPortsTransferServeAndCastle: each refusal, a transfer, its ends, a slave frame with and without a reply, and the castle. -/
theorem test_witness_spi : [after (.spiGo 3) (spiOn id []) (fun t => t.bit (Reg.SPIn_STATUS 3) 0 && t.out == [.spi 3 0 [0xAA, 0]]), after (.spiGo 3) (spiOn id [(Reg.SPIn_STATUS 3, 0x800)]) (fun t => (t.spi 3).goHeld),
    after (.spiGo 3) (spiOn id [(Reg.SPIn_STATUS 3, 0x100)]) (fun t => t.fld (Reg.SPIn_STATUS 3) 4 2 == 4), after (.spiGo 3) (spiOn id [(Reg.SPIn_XFER 3, 0)]) (fun t => t.fld (Reg.SPIn_STATUS 3) 4 1 == 1),
    after (.spiGo 3) (spiOn id [(Reg.SPIn_XFER 3, 0x1001)]) (fun t => t.fld (Reg.SPIn_STATUS 3) 4 2 == 5), after (.spiGo 3) (spiOn id [(Reg.SPIn_XFER 3, 0x2001)]) (fun t => t.fld (Reg.SPIn_STATUS 3) 4 2 == 2),
    after (.spiGo 0) (dev [(Reg.SPIn_CFG 0, 1), (Reg.SPIn_SELEN 0, 1), (Reg.SPIn_STATUS 0, 0), (Reg.SPIn_XFER 0, 1), (Reg.SPI0_DXCFG, 1)]) (fun t => t.fld (Reg.SPIn_STATUS 0) 4 2 == 6),
    after (.spiGo 3) (spiOn id [(Reg.SPIn_CFG 3, 0)]) (fun t => t.out == []), after (.spiTransferEnd 3 [] 0 false) (spiOn id []) (fun t => !t.bit (Reg.SPIn_STATUS 3) 1),
    after (.spiTransferEnd 3 [1, 2] 16 false) (spiOn (spiMid false) []) (fun t => (t.spi 3).xfer == none && bytesAt t.store (plantStore + 16) 2 == [1, 2] && t.fld (Reg.SPIn_STATUS 3) 4 2 == 0),
    after (.spiTransferEnd 3 [1, 2] 16 true) (spiOn (spiMid false) []) (fun t => t.fld (Reg.SPIn_STATUS 3) 5 2 == 11),
    after (.spiTransferEnd 3 [0xB7, 2] 16 false) (spiOn (spiMid false) [(Reg.SPIn_XFER 3, 0x88002)]) (fun t => ((t.spi 3).xfer.map (fun x => x.waiting)) == some true && after (.spiRwaitExpiry 3) t (fun u => ((u.spi 3).xfer.map (fun x => x.retries)) == some 1)),
    after (.spiTransferEnd 3 [0xB7, 2] 16 false) (spiOn (spiMid false) [(Reg.SPIn_XFER 3, 0x80002)]) (fun t => t.fld (Reg.SPIn_STATUS 3) 4 2 == 1),
    after (.spiAbort 3 [1] 9) (spiOn (spiMid false) []) (fun t => t.fld (Reg.SPIn_STATUS 3) 4 2 == 7), after (.spiAbort 3 [1] 9) (spiOn (spiMid true) []) (fun t => t.fld (Reg.SPIn_STATUS 3) 4 2 == 7 && t.store == [(plantStore, 0xAA#8)]),
    after (.spiLeaseExpiry 3 [1] 9) (spiOn (spiMid false) [(Reg.SPIn_TIMING 3, 0x10000)]) (fun t => t.fld (Reg.SPIn_STATUS 3) 4 2 == 2 && !t.bit (Reg.SPIn_SELEN 3) 0 && t.reg (Reg.SPIn_CUTOFF 3) == 1),
    after (.spiLeaseExpiry 3 [1] 9) (spiOn (spiMid false) []) (fun t => (t.spi 3).xfer.isSome)].all id = true := by decide +kernel
theorem test_witness_spi_slave : [after (.spiReply 3) (spiOn id [(Reg.SPIn_REPLEN 3, 1)]) (fun t => (t.spi 3).reply == some [0xAA]),
    after (.spiSlaveFrame 3 [1, 2] 16) (spiOn (fun r => { r with reply := some [7] }) [(Reg.SPIn_STATUS 3, 0x100), (Reg.SPIn_SRXRING 3, 0x80100)]) (fun t => t.out == [.spi 3 0 [7, 0]] && t.fld (Reg.SPIn_SRXTAIL 3) 7 0 == 1),
    after (.spiSlaveFrame 3 [1, 2] 16) (spiOn id [(Reg.SPIn_STATUS 3, 0x100)]) (fun t => t.out == [.spi 3 0 [0xB7, 0xB7]] && t.reg (Reg.SPIn_LOSTFRM 3) == 1 && t.reg (Reg.SPIn_BUSYRPL 3) == 1),
    after (.spiSlaveFrame 3 [1, 2] 16) (spiOn id []) (fun t => t.out == []), spiCastling (spiOn id []) 3, !spiCastling (dev []) 3,
    after (.spiCastle 3) (spiOn id []) (fun t => (t.spi 3).castleReq && t.bit (Reg.SPIn_STATUS 3) 11), after (.spiCreqPulled 3) (spiOn id []) (fun t => (t.spi 3).peerPull), after (.spiCreqPulled 3) (dev []) (fun t => !(t.spi 3).peerPull),
    after (.spiCastleFrame 3 0 false) (spiOn (fun r => { r with castleReq := true }) [(Reg.SPIn_STATUS 3, 0x800)]) (fun t => t.bit (Reg.SPIn_STATUS 3) 8 && t.bit (Reg.SPIn_STATUS 3) 7 && t.reg (Reg.SPIn_CASTLES 3) == 1),
    after (.spiCastleFrame 3 0x80 false) (spiOn (fun r => { r with castleReq := true }) [(Reg.SPIn_STATUS 3, 0x800), (Reg.SPIn_CFG 3, 0x381)]) (fun t => t.bit (Reg.SPIn_STATUS 3) 6 && t.bit (Reg.SPIn_STATUS 3) 9),
    after (.spiCastleFrame 3 0x80 false) (spiOn (fun r => { r with castleReq := true }) [(Reg.SPIn_STATUS 3, 0xA00)]) (fun t => (t.spi 3).castleReq && !t.bit (Reg.SPIn_STATUS 3) 7),
    after (.spiCastleFrame 3 0 true) (spiOn (fun r => { r with castleReq := true }) [(Reg.SPIn_STATUS 3, 0x800)]) (fun t => t.bit (Reg.SPIn_STATUS 3) 5 && (t.spi 3).castleReq),
    after (.spiCastleFrame 3 0 false) (spiOn id []) (fun t => t.reg (Reg.SPIn_CASTLES 3) == 0), after (.spiBackoffEnd 3) (spiOn id [(Reg.SPIn_STATUS 3, 0x200)]) (fun t => !t.bit (Reg.SPIn_STATUS 3) 9),
    dxReadable (dev [(Reg.SPI0_DXCFG, 1), (Reg.SPIn_CFG 0, 0x1000001), (Reg.SPIn_SELEN 0, 1)]) 0xFFFFFF, !dxReadable (dev [(Reg.SPI0_DXCFG, 1), (Reg.SPIn_CFG 0, 0x1000001), (Reg.SPIn_SELEN 0, 1)]) 0x1000000,
    after (.spiDxMiss 65) { dev [(Reg.SPI0_DXCFG, 1), (Reg.SPIn_CFG 0, 0x1000001), (Reg.SPIn_SELEN 0, 1)] with flash := [(64, 9)] } (fun t => ((t.spi 0).lines.map (fun l => l.1)) == [2, 3] && ((t.spi 0).lines.map (fun l => l.2.head?)).head? == some (some 9)),
    after .spiDxDisable ((dev [(Reg.SPI0_DXCFG, 0xFF000001)]).modSpi 0 (fun r => { r with cont := true })) (fun t => t.out == [.spi 0 0 [0xFF]] && t.reg Reg.SPI0_DXCFG == 0xFF000000)].all id = true := by decide +kernel
/-- Building-bus port 1, station 5 of at most 9, two frames a token, in state `st` with next station `ns`. -/
def busIn (st ns : Nat) (f : BbRun → BbRun) (rs : List (Nat × W32)) : State :=
  ({ dev ([(Reg.BBn_CFG 1, 0x2090B), (Reg.BBn_STATUS 1, BitVec.ofNat 32 (st + 64 * ns))] ++ rs) with store := [(plantStore, 6), (plantStore + 1, 8), (plantStore + 4, 1), (plantStore + 16, 0x77)] }).modBb 1 f
/-- The port's queue holds one frame of type `ty` for station 8. -/
def queued (ty : Nat) (rep : Bool) (s : State) : State :=
  { s.setReg (Reg.BBn_TXRING 1) 0x80000 |>.setReg (Reg.BBn_TXTAIL 1) 1 with
      store := [(plantStore, BitVec.ofNat 8 ty), (plantStore + 1, 8)] ++ (if rep then [(plantStore + 3, 2)] else []) ++ [(plantStore + 4, 1), (plantStore + 16, 0x77)] }
/-- BuildingBusPortsFollowTheirMachine: every frame type and state, a token with a frame queued and with none, and each timer. -/
theorem test_witness_bus : [after (.bbEnable 1) (dev [(Reg.BBn_CFG 1, 0x2090A)]) (fun t => bbState t 1 == 1 && bbNs t 1 == 5 && (t.bb 1).tokenCount == 50), after (.bbEnable 1) (dev [(Reg.BBn_CFG 1, 0xA)]) (fun t => bbState t 1 == 0),
    bbOn (busIn 1 5 id []) 1, after (.bbFrameRx 1 (busFrame 0 5 8 [])) (busIn 1 5 id [(Reg.BBn_CFG 1, 0)]) (fun t => bbState t 1 == 1),
    after (.bbFrameRx 1 { busFrame 0 5 8 [] with hdrOk := false }) (busIn 1 5 id []) (fun t => t.reg (Reg.BBn_HDRCRC 1) == 1), after (.bbFrameRx 1 { busFrame 0 5 8 [] with dataOk := false }) (busIn 1 5 id []) (fun t => t.reg (Reg.BBn_DATACRC 1) == 1),
    after (.bbFrameRx 1 (busFrame 8 5 8 [])) (busIn 1 5 id []) (fun t => t.reg (Reg.BBn_DISC 1) == 1), after (.bbFrameRx 1 (busFrame 7 4 8 [])) (busIn 5 6 id []) (fun t => bbState t 1 == 1),
    after (.bbFrameRx 1 (busFrame 0 5 8 [])) (busIn 1 5 id []) (fun t => bbState t 1 == 2), after (.bbFrameRx 1 (busFrame 1 5 8 [])) (busIn 1 5 id []) (fun t => t.out == [.busFrame 1 2 8 5 []]),
    after (.bbFrameRx 1 (busFrame 2 5 8 [])) (busIn 6 5 id []) (fun t => bbState t 1 == 5 && bbNs t 1 == 8 && t.out == [.busFrame 1 0 8 5 []]),
    after (.bbFrameRx 1 (busFrame 3 5 8 [9])) (busIn 1 5 id []) (fun t => t.reg (Reg.BBn_RXOVF 1) == 1), after (.bbFrameRx 1 (busFrame 3 5 8 [9])) (busIn 1 5 id [(Reg.BBn_RXRING 1, 0x80400)]) (fun t => bbState t 1 == 7 && (t.bb 1).asker == some 8 && t.fld (Reg.BBn_RXTAIL 1) 7 0 == 1),
    after (.bbFrameRx 1 (busFrame 7 5 8 [9])) (busIn 1 5 id [(Reg.BBn_RXRING 1, 0x80400)]) (fun t => bbState t 1 == 1 && t.fld (Reg.BBn_RXTAIL 1) 7 0 == 1),
    after (.bbTokenRx 1) (busIn 1 5 id []) (fun t => bbState t 1 == 2), after (.bbFrameTx 1 false) (busIn 1 5 id []) (fun t => t.out == []),
    after (.bbFrameTx 1 false) (busIn 2 6 id []) (fun t => bbState t 1 == 5 && t.out == [.busFrame 1 0 6 5 []]),
    after (.bbFrameTx 1 true) (queued 6 false (busIn 2 6 id [])) (fun t => t.reg (Reg.BBn_COLLIDE 1) == 1 && bbState t 1 == 2),
    after (.bbFrameTx 1 false) (queued 5 false (busIn 2 6 id [])) (fun t => bbState t 1 == 3 && t.out == [.busFrame 1 5 8 5 [0x77]] && t.fld (Reg.BBn_TXHEAD 1) 7 0 == 1),
    after (.bbFrameTx 1 false) (queued 6 false (busIn 2 6 id [])) (fun t => bbState t 1 == 2 && (t.bb 1).frameCount == 1), after (.bbFrameTx 1 false) (queued 6 true (busIn 7 6 (fun r => { r with asker := some 8 }) [])) (fun t => bbState t 1 == 1 && (t.bb 1).asker == none),
    after (.bbReplyDelayExpiry 1) (busIn 7 6 (fun r => { r with asker := some 8 }) []) (fun t => t.out == [.busFrame 1 7 8 5 []]), after (.bbReplyDelayExpiry 1) (busIn 1 6 id []) (fun t => t.out == []),
    after (.bbNoTokenExpiry 1) (busIn 1 6 id []) (fun t => bbState t 1 == 6 && t.out == [.busFrame 1 1 6 5 []] && t.reg (Reg.BBn_TOKLOST 1) == 1), after (.bbNoTokenExpiry 1) (busIn 2 6 id []) (fun t => t.out == []),
    after (.bbReplyTimeout 1) (busIn 3 6 id []) (fun t => bbState t 1 == 5), after (.bbReplyTimeout 1) (busIn 1 6 id []) (fun t => bbState t 1 == 1), after (.bbUsageTimeout 1) (busIn 5 6 id []) (fun t => (t.bb 1).retry == 1),
    after (.bbUsageTimeout 1) (busIn 5 6 (fun r => { r with retry := 1 }) []) (fun t => bbState t 1 == 6 && t.out == [.busFrame 1 1 7 5 []]), after (.bbUsageTimeout 1) (busIn 6 6 id [(Reg.BBn_STATUS 1, 0x18E)]) (fun t => bbState t 1 == 2),
    after (.bbUsageTimeout 1) (busIn 6 6 id []) (fun t => bbState t 1 == 5), after (.bbFrameAbort 1) (busIn 1 6 id []) (fun t => t.reg (Reg.BBn_ABORT 1) == 1), after (.bbStuck 1) (busIn 1 6 id []) (fun t => t.bit (Reg.BBn_STATUS 1) 4 &&
      after (.bbStuckClear 1) t (fun u => !u.bit (Reg.BBn_STATUS 1) 4 && bbState u 1 == 1)), after (.bbStuckClear 1) (busIn 2 6 id []) (fun t => bbState t 1 == 2)].all id = true := by decide +kernel
/-- A calibration command in progress, without a domain. -/
def calIn (imp : Bool) (rs : List (Nat × W32)) : State := { dev rs with cal := some { isImport := imp, dom := none } }
/-- TrimsSnapshotsTapAndDebugActAsCommanded: an image that fits and one that does not, a refused import, and each trigger. -/
theorem test_witness_trims : [after (.calImport (.host 5)) (dev []) (fun t => t.out == [.busError (.host 5)]), after (.calImport .debug) (calIn true []) (fun t => t.fld Reg.CAL_STATUS 4 2 == 6),
    after (.calImport .debug) (dev []) (fun t => t.cal == some { isImport := true, dom := none } && t.bit Reg.CAL_STATUS 0), after (.calExport .debug) (dev [(Reg.CAL_IMGMAX, 31)]) (fun t => t.fld Reg.CAL_STATUS 4 2 == 4),
    after (.calExport .debug) (dev [(Reg.CAL_IMGMAX, 0x3FFF)]) (fun t => t.cal == some { isImport := false, dom := none }), after (.calCommandDone []) (dev []) (fun t => !t.bit Reg.CAL_STATUS 1),
    calWrite (dev [(Reg.CAL_IMG_LO, 0x7FFFF), (Reg.CAL_IMG_HI, 0)]) none (trimImage (dev [])) == none,
    after (.calCommandDone []) (calIn false [(Reg.CAL_IMG_LO, 0x7FFFF), (Reg.CAL_IMG_HI, 0)]) (fun t => t.fld Reg.CAL_STATUS 4 2 == 5 && t.cal == none),
    after (.calCommandDone []) (calIn true [(Reg.CAL_IMG_LO, 0x80000)]) (fun t => t.fld Reg.CAL_STATUS 4 2 == 5), (trimCheck (dev []) []).1 != 0,
    after (.calCommandDone []) (calIn true []) (fun t => t.cal == none && t.fld Reg.CAL_STATUS 4 2 == (trimCheck (dev []) []).1),
    after .snpArm (dev []) (fun t => t.bit Reg.SNP_STATUS 0), after .snpArm (dev [(Reg.SNP_STATUS, 4)]) (fun t => !t.bit Reg.SNP_STATUS 0), after .snpTrig (dev [(Reg.SNP_CTL, 0)]) (fun t => t.reg Reg.SNP_MISS == 0),
    after .snpTrig (dev [(Reg.SNP_CTL, 15)]) (fun t => t.reg Reg.SNP_MISS == 1), after (.snapinEdge 9) (dev [(Reg.SNP_CTL, 15), (Reg.SNP_STATUS, 1)]) (fun t => t.bit Reg.SNP_STATUS 2 && t.reg64 Reg.SNP_TIME_LO == 9 &&
      after .snapshotDone t (fun u => u.bit Reg.SNP_STATUS 1)),
    after (.snpDbgWrite .debug 0x1D5) (owned (dev [])) (fun t => t.bit Reg.SNP_DBG 8), after (.snpDbgWrite .debug 0x1D4) (owned (dev [])) (fun t => t.out == [.busError .debug])].all id = true := by decide +kernel
/-- The debug register is selected, with the seats given. -/
def debugging (ss : SMap Seat) : State := { dev [] with tapIr := 0x20, seats := ss, mem := [(0x4000, 5)] }
theorem test_witness_debug : [after .tapExtest { dev [(Reg.FC_SAFE, 3)] with keyFuses := 1 } (fun t => t.tapIr == 0xFF), after .tapExtest (dev [(Reg.FC_SAFE, 3)]) (fun t => t.tapIr == 3 && t.safeState == 0 && t.fld Reg.FC_SAFE 4 2 == 4),
    after .tapHighz (dev []) (fun t => t.tapIr == 4), after .tapClamp (dev []) (fun t => t.tapIr == 5), after .tapDbgacc (dev []) (fun t => t.tapIr == 0x20), after .tapReset (dev []) (fun t => t.tapIr == 1),
    after .tapBypass { dev [] with power := .hibernate } (fun t => t.tapIr == (dev []).tapIr), after .tapIdcode (dev []) (fun t => t.out == [.readData .debug (dev []).idcode]),
    after (.dbgRead 0x4000 []) (debugging []) (fun t => t.dbg.pend == some (5, DbgStatus.ok.code) && after .dbgCommandDone t (fun u => u.dbg.data == 5 && u.dbg.pend == none)), after (.dbgRead 0x4000 []) (dev []) (fun t => t.dbg.pend == none),
    after (.dbgRead 0x4002 []) (debugging []) (fun t => t.dbg.pend == some ((dev []).dbg.data, DbgStatus.bus.code)), after (.dbgWrite 0x4000 0x100) (debugging []) (fun t => t.mem == [(0x4001, 1#8)]),
    after (.dbgRead 0xFFFE00000000 []) (debugging []) (fun t => t.dbg.pend == some ((dev []).dbg.data, DbgStatus.bus.code)), isControl (Reg.SPn_FTMO 0),
    after (.dbgWrite (BitVec.ofNat 48 (Reg.SPn_FTMO 0)) 7) (debugging []) (fun t => t.reg (Reg.SPn_FTMO 0) == 7),
    after (.dbgHalt 0x3FF) ((debugging []).setReg Reg.FC_SAFE 3) (fun t => t.dbg.pend == some ((dev []).dbg.data, DbgStatus.denied.code)), !(debugging []).seatNamed 640,
    after (.dbgHalt 640) (debugging []) (fun t => t.dbg.pend == some ((dev []).dbg.data, DbgStatus.bus.code)), after (.dbgHalt 0) (debugging [(0, seatIn .t)]) (fun t => (t.seat 0).st == .halt),
    after (.dbgHalt 0) (debugging [(0, { seatIn .t with st := .wait })]) (fun t => sget false t.haltReq 0), after (.dbgRelease 0) (debugging [(0, { seatIn .t with st := .halt })]) (fun t => (t.seat 0).st == .idle),
    after (.dbgRelease 0) (debugging [(0, seatIn .t)]) (fun t => (t.seat 0).st == .run)].all id = true := by decide +kernel
/-- EveryStepKeepsTheFormsAndTheFuses: the invariant holds at reset, and of a CLOSED part. -/
theorem test_witness_invariant : Inv false State.reset ∧ Inv true { State.reset with keyFuses := 1 } :=
  ⟨⟨by decide +kernel, fun h => absurd h (by decide)⟩, by decide +kernel, fun _ => by decide +kernel⟩

end Sys2Proof.Tests
end

section
/-! PROOFS. The commands that write and read control-space registers (R3, R12, R13, R131, R293, R294). First the rules: what
each command runs, which branch of `ctlWrite` an access takes, and what that branch does to the state. Then the statements
O1 and O27, assembled from them. -/

namespace Sys2Proof.Machine

/-! ### The commands -/

theorem exec_registerWrite (w : Requester) (a : Nat) (v : W32) (s : State) :
    exec (.registerWrite w a v) s = .next (respond w (ctlAccess s w a v)) := rfl

theorem exec_stagedRegisterWrite {w : Requester} {a : Nat} (v : W32) (s : State) (h : isStaged a = true) :
    exec (.stagedRegisterWrite w a v) s = .next (respond w (ctlAccess s w a v)) :=
  congrArg Host.Outcome.next (if_pos h)

theorem exec_pairFirstWrite {w : Requester} {a : Nat} (v : W32) (s : State) (h : (pairSecond a).isSome = true) :
    exec (.pairFirstWrite w a v) s = .next (respond w (ctlAccess s w a v)) :=
  congrArg Host.Outcome.next (if_pos h)

theorem exec_pairSecondWrite {w : Requester} {a : Nat} (v : W32) (s : State) (h : (pairSecond (a - 4)).isSome = true) :
    exec (.pairSecondWrite w a v) s = .next (respond w (ctlAccess s w a v)) :=
  congrArg Host.Outcome.next (if_pos h)

@[simp] theorem respond_done (w : Requester) (s : State) : respond w (s, true) = s := rfl

@[simp] theorem respond_refused (w : Requester) (s : State) :
    respond w (s, false) = { s with out := s.out ++ [.busError w] } := rfl

/-! ### The branches of an access (R3, R131) -/

theorem ctlAccess_allowed {s : State} {w : Requester} {a : Nat} (v : W32) (h : s.controlAllowed w a true = true) :
    ctlAccess s w a v = ctlWrite s w a v := if_pos h

theorem ctlAccess_denied {s : State} {w : Requester} {a : Nat} (v : W32) (h : s.controlAllowed w a true = false) :
    ctlAccess s w a v = (s, false) := if_neg (by simp [h])

theorem ctlWrite_absent {s : State} {a : Nat} (w : Requester) (v : W32) (h : reach s a = .absent) :
    ctlWrite s w a v = (s, true) := by simp [ctlWrite, h]

/-- Only the staging and the mailbox pages belong to one domain (R323, R399). -/
theorem pageReach_of_block {s : State} {a b : Nat} (w : Requester) (hb : blockNumber a = some b) (h4 : b ≠ 4) (h14 : b ≠ 14) :
    pageReach s w a = true := by simp [pageReach, hb, h4, h14]

/-- A requester that gets through to an address finds it in a block. -/
theorem blockNumber_of_reach {s : State} {a : Nat} (h : reach s a = .ok) : ∃ b, blockNumber a = some b := by
  cases hb : blockNumber a with
  | some b => exact ⟨b, rfl⟩
  | none => simp [reach, hb] at h

theorem ctlWrite_staged {s : State} {w : Requester} {a : Nat} (v : W32) (hr : reach s a = .ok) (hp : pageReach s w a = true)
    (hs : isStaged a = true) : ctlWrite s w a v = stagedWrite s w a v := by
  obtain ⟨b, hb⟩ := blockNumber_of_reach hr
  simp [ctlWrite, hr, hb, hp, hs]

theorem ctlWrite_pairFirst {s : State} {w : Requester} {a : Nat} (v : W32) (hr : reach s a = .ok) (hp : pageReach s w a = true)
    (hs : isStaged a = false) (h : (pairSecond a).isSome = true) (hw : s.pairAllowed w a = true) :
    ctlWrite s w a v = (pairFirst s w a v, true) := by
  obtain ⟨b, hb⟩ := blockNumber_of_reach hr
  simp [ctlWrite, hr, hb, hp, hs, h, hw]

theorem ctlWrite_pairSecond {s : State} {w : Requester} {a : Nat} (v : W32) (hr : reach s a = .ok) (hp : pageReach s w a = true)
    (hs : isStaged a = false) (h₁ : pairSecond a = none) (h : (pairSecond (a - 4)).isSome = true) (hw : s.pairAllowed w a = true) :
    ctlWrite s w a v = (pairSecondWrite s a v, true) := by
  obtain ⟨b, hb⟩ := blockNumber_of_reach hr
  simp [ctlWrite, hr, hb, hp, hs, h₁, h, hw]

theorem ctlWrite_block {s : State} {w : Requester} {a b : Nat} (v : W32) (hr : reach s a = .ok) (hb : blockNumber a = some b)
    (hp : pageReach s w a = true) (hs : isStaged a = false) (h₁ : pairSecond a = none) (h₂ : pairSecond (a - 4) = none) :
    ctlWrite s w a v = blockWrite s w b a v := by
  simp [ctlWrite, hr, hb, hp, hs, h₁, h₂]

/-! ### A plain register (R12, R13) -/

/-- A register's own update is what it becomes; nothing else differs. -/
theorem regBecomes_setReg (s : State) (a : Nat) (v : W32) : RegBecomes s (s.setReg a v) a v :=
  ⟨rfl, State.reg_setReg_same s a v, fun _ h => State.reg_setReg_ne s h v⟩

theorem store_of_not_wide {s : State} {a : Nat} (v : W32) (h : isLow a = false) (h' : isLow (a - 4) = false) :
    store s a v = plainWrite s a v := by simp [store, h, h']

/-- A register takes the value's writable bits, and loses the clearable bits written 1. -/
theorem regBecomes_plainWrite {a : Nat} {r : RegRow} (s : State) (v : W32) (h : regRow a = some r) :
    RegBecomes s (plainWrite s a v) a
      (mergeMask (s.reg a) v (BitVec.ofNat 32 r.writable) &&& ~~~(v &&& BitVec.ofNat 32 r.clearable)) := by
  simp only [plainWrite, h]; exact regBecomes_setReg s a _

/-- The Ethernet block's registers have no rule beyond their rows. -/
theorem blockWrite_ethernet (s : State) (w : Requester) (a : Nat) (v : W32) : blockWrite s w 15 a v = (store s a v, true) := rfl

/-! ### The PRUN pair of a web (R187, R293) -/

/-- Web `n`'s PRUN and PSLOW lie in the positions block, in the web's own part of it. -/
theorem Reg.POSn_PRUN_place : ∀ n < 4, blockNumber (Reg.POSn_PRUN n) = some 12 ∧ blockNumber (Reg.POSn_PRUN n + 4) = some 12 ∧
    (Reg.POSn_PRUN n % 0x1000000 - 0x100) / 0x80 = n := by decide

theorem Reg.isStaged_POSn_PRUN : ∀ n < 4, isStaged (Reg.POSn_PRUN n) = false ∧ isStaged (Reg.POSn_PRUN n + 4) = false := by
  decide

theorem Reg.pairSecond_POSn_PRUN : ∀ n < 4, (pairSecond (Reg.POSn_PRUN n)).isSome = true ∧ pairSecond (Reg.POSn_PRUN n + 4) = none := by
  decide

/-- Every variant has the sensing island, and its block answers while it is up (R1, R37). -/
theorem reach_positions {s : State} {a : Nat} (hb : blockNumber a = some 12) (hu : s.islandUp 22 = true) : reach s a = .ok := by
  have hi : s.variant.island 22 = true := by cases s.variant <;> rfl
  simp [reach, hb, islandReach, hi, hu]

theorem pairAllowed_positions {s : State} {a : Nat} (w : Requester) (hb : blockNumber a = some 12) : s.pairAllowed w a = true := by
  simp [State.pairAllowed, hb]

@[simp] theorem pairFirst_pairHeld (s : State) (w : Requester) (a : Nat) (v : W32) :
    (pairFirst s w a v).pairHeld = sset none s.pairHeld a (some (v &&& regMask a, s.pairWriter w)) := rfl

/-- A first member is held with its writer; nothing else differs (R293). -/
theorem pairFirst_holds (s : State) (w : Requester) (a : Nat) (v : W32) :
    pairFirst s w a v = { s with pairHeld := (pairFirst s w a v).pairHeld } ∧
    sget none (pairFirst s w a v).pairHeld a = some (v &&& regMask a, s.pairWriter w) ∧
    ∀ b, b ≠ a → sget none (pairFirst s w a v).pairHeld b = sget none s.pairHeld b := by
  refine ⟨rfl, ?_, fun b h => ?_⟩
  · rw [pairFirst_pairHeld, sget_sset_same]
  · rw [pairFirst_pairHeld, sget_sset_ne _ _ _ h]

/-- A second member takes effect with the first member that is pending, which is then held no more (R293). -/
theorem pairSecondWrite_of_held {s : State} {a d : Nat} {first : W32} (v : W32) (h : sget none s.pairHeld a = some (first, d)) :
    pairSecondWrite s (a + 4) v = pairTake { s with pairHeld := sdel a s.pairHeld } a first (v &&& regMask (a + 4)) := by
  simp [pairSecondWrite, h]

/-- PRUN and PSLOW take effect at once, and besides them only the web's STATE, with CFGERR, can differ (R187). -/
theorem pairTake_PRUN {n : Nat} (s : State) (first second : W32) (hn : n < 4) :
    RegsOnly s (pairTake s (Reg.POSn_PRUN n) first second) ∧
    (pairTake s (Reg.POSn_PRUN n) first second).reg (Reg.POSn_PRUN n) = first ∧
    (pairTake s (Reg.POSn_PRUN n) first second).reg (Reg.POSn_PRUN n + 4) = second ∧
    ∀ b, b ≠ Reg.POSn_PRUN n → b ≠ Reg.POSn_PRUN n + 4 → b ≠ Reg.POSn_STATE n →
      (pairTake s (Reg.POSn_PRUN n) first second).reg b = s.reg b := by
  obtain ⟨hb, -, hk⟩ := Reg.POSn_PRUN_place n hn
  have hfirst : Reg.POSn_PRUN n ≠ Reg.POSn_STATE n := by simp only [Reg.POSn_PRUN, Reg.POSn_STATE]; omega
  have hsecond : Reg.POSn_PRUN n + 4 ≠ Reg.POSn_STATE n := by simp only [Reg.POSn_PRUN, Reg.POSn_STATE]; omega
  simp only [pairTake, hb, hk]
  refine ⟨rfl, ?_, ?_, fun b h₁ h₂ h₃ => ?_⟩
  · rw [State.reg_setBit_ne _ hfirst, State.reg_setReg_ne _ (by omega), State.reg_setReg_same]
  · rw [State.reg_setBit_ne _ hsecond, State.reg_setReg_same]
  · rw [State.reg_setBit_ne _ h₃, State.reg_setReg_ne _ h₂, State.reg_setReg_ne _ h₁]

/-! ### Staged registers (R294 to R296) -/

theorem stagedWrite_of_ok {s : State} {w : Requester} {a d : Nat} {v : W32} (hd : s.stgWriter w = some d)
    (hv : stagedOk s a (v &&& regMask a) = true) (h : isLow a = false) (h' : isLow (a - 4) = false) :
    stagedWrite s w a v = stageChange s d a (v &&& regMask a) := by simp [stagedWrite, hd, hv, h, h']

/-- A domain's open set takes a change while there is room in it and no other domain's set holds the register. -/
theorem stageChange_enters {s : State} {d a : Nat} (v : W32) (hh : s.stgHeld d a = false) (hl : (s.stgDom d).openSet.length < 512) :
    stageChange s d a v =
      (stgCount (s.setStgDom d { s.stgDom d with openSet := sput a v (s.stgDom d).openSet }) d, true) := by
  simp [stageChange, hh, Nat.not_le.mpr hl]

/-- OPEN_N lies in the domain's STATUS; no other register follows the open set. -/
theorem reg_stgCount_ne (s : State) {d b : Nat} (h : b ≠ Reg.SNP_STGd_STATUS d) : (stgCount s d).reg b = s.reg b :=
  State.reg_setFld_ne s h _ _ _

/-! ### Reading the low word of a 64-bit register (R12) -/

/-- A low word is answered as it reads, and its high word is latched as it reads then. -/
theorem ctlRead_low {s : State} {w : Requester} {a : Nat} (hr : reach s a = .ok) (hp : pageReach s w a = true)
    (hl : isLow a = true) (hc : a ≠ Reg.AON_CAL_DATE) :
    ctlRead s w a = (some (regView s a), { s with hiLatch := sset none s.hiLatch (a + 4) (some (regView s (a + 4))) }) := by
  simp [ctlRead, hr, hp, hl, hc]

/-- A low-word read that goes through answers its requester with the word. -/
theorem exec_reg64LowRead {s t : State} {w : Requester} {a : Nat} {v : W32} (hl : isLow a = true)
    (ha : s.controlAllowed w a false = true) (hr : ctlRead s w a = (some v, t)) :
    exec (.reg64LowRead w a) s = .next { t with out := t.out ++ [.readData w (v.setWidth 64)] } := by
  change execReg64LowRead w a s = _
  simp [execReg64LowRead, hl, ha, hr]

/-! ### What the commands run, under the hypotheses of the statement -/

/-- A write of a plain register of the Ethernet block is a write of its row. -/
theorem exec_registerWrite_ethernet {w : Requester} {a : Nat} (v : W32) {s : State} (hg : s.controlAllowed w a true = true)
    (hb : blockNumber a = some 15) (hr : reach s a = .ok) (hl : isLow a = false) (hh : isLow (a - 4) = false)
    (hs : isStaged a = false) (h₁ : pairSecond a = none) (h₂ : pairSecond (a - 4) = none) :
    exec (.registerWrite w a v) s = .next (plainWrite s a v) := by
  have hp := pageReach_of_block (s := s) w hb (by decide) (by decide)
  rw [exec_registerWrite, ctlAccess_allowed v hg, ctlWrite_block v hr hb hp hs h₁ h₂, blockWrite_ethernet,
    store_of_not_wide v hl hh, respond_done]

/-- A web's PRUN is held pending, with its writer. -/
theorem exec_pairFirstWrite_PRUN {w : Requester} {n : Nat} (v : W32) {s : State} (hn : n < 4)
    (hg : s.controlAllowed w (Reg.POSn_PRUN n) true = true) (hu : s.islandUp 22 = true) :
    exec (.pairFirstWrite w (Reg.POSn_PRUN n) v) s = .next (pairFirst s w (Reg.POSn_PRUN n) v) := by
  obtain ⟨hb, -, -⟩ := Reg.POSn_PRUN_place n hn
  obtain ⟨hs, -⟩ := Reg.isStaged_POSn_PRUN n hn
  obtain ⟨hm, -⟩ := Reg.pairSecond_POSn_PRUN n hn
  rw [exec_pairFirstWrite v s hm, ctlAccess_allowed v hg, ctlWrite_pairFirst v (reach_positions hb hu)
    (pageReach_of_block w hb (by decide) (by decide)) hs hm (pairAllowed_positions w hb), respond_done]

/-- A web's PSLOW brings in the pair with the PRUN that is pending. -/
theorem exec_pairSecondWrite_PRUN {w : Requester} {n d : Nat} (v : W32) {first : W32} {s : State} (hn : n < 4)
    (hg : s.controlAllowed w (Reg.POSn_PRUN n + 4) true = true) (hu : s.islandUp 22 = true)
    (hp : sget none s.pairHeld (Reg.POSn_PRUN n) = some (first, d)) :
    exec (.pairSecondWrite w (Reg.POSn_PRUN n + 4) v) s = .next (pairTake { s with pairHeld := sdel (Reg.POSn_PRUN n) s.pairHeld }
      (Reg.POSn_PRUN n) first (v &&& regMask (Reg.POSn_PRUN n + 4))) := by
  obtain ⟨-, hb, -⟩ := Reg.POSn_PRUN_place n hn
  obtain ⟨-, hs⟩ := Reg.isStaged_POSn_PRUN n hn
  obtain ⟨hfirst, hnone⟩ := Reg.pairSecond_POSn_PRUN n hn
  have hm : (pairSecond (Reg.POSn_PRUN n + 4 - 4)).isSome = true := by rw [Nat.add_sub_cancel]; exact hfirst
  rw [exec_pairSecondWrite v s hm, ctlAccess_allowed v hg, ctlWrite_pairSecond v (reach_positions hb hu)
    (pageReach_of_block w hb (by decide) (by decide)) hs hnone hm (pairAllowed_positions w hb), pairSecondWrite_of_held v hp,
    respond_done]

/-- A 32-bit staged register's value enters the open set of its writer. -/
theorem exec_stagedRegisterWrite_enters {w : Requester} {a d : Nat} {v : W32} {s : State} (hs : isStaged a = true)
    (hl : isLow a = false) (hh : isLow (a - 4) = false) (hg : s.controlAllowed w a true = true) (hr : reach s a = .ok)
    (hp : pageReach s w a = true) (hd : s.stgWriter w = some d) (hv : stagedOk s a (v &&& regMask a) = true)
    (hc : s.stgHeld d a = false) (hn : (s.stgDom d).openSet.length < 512) :
    exec (.stagedRegisterWrite w a v) s =
      .next (stgCount (s.setStgDom d { s.stgDom d with openSet := sput a (v &&& regMask a) (s.stgDom d).openSet }) d) := by
  rw [exec_stagedRegisterWrite v s hs, ctlAccess_allowed v hg, ctlWrite_staged v hr hp hs, stagedWrite_of_ok hd hv hl hh,
    stageChange_enters _ hc hn, respond_done]

end Sys2Proof.Machine

namespace Sys2Proof.Claims
open Sys2Proof.Machine

/-- Settles O1: `step` is a match on the queue, and its second arm is the statement. -/
theorem stepRunsFrontCommand : Obligations.StepRunsFrontCommand := by
  intro c rest s h
  simp only [step, h]

/-- Settles O27: each clause follows the one branch of `ctlWrite` or `ctlRead` that its hypotheses leave open. -/
theorem registerWritesReachTheirRegister : Obligations.RegisterWritesReachTheirRegister := by
  refine ⟨?plain, ?first, ?second, ?staged, ?low, ?absent, ?denied⟩
  case plain =>
    intro w a v r s hg hb hr hrow hl hh hs h₁ h₂
    obtain ⟨hregs, hval, hother⟩ := regBecomes_plainWrite s v hrow
    exact ⟨_, exec_registerWrite_ethernet v hg hb hr hl hh hs h₁ h₂, hregs, hother, hval⟩
  case first =>
    intro w n v s hn hg hu
    obtain ⟨hframe, hheld, hother⟩ := pairFirst_holds s w (Reg.POSn_PRUN n) v
    exact ⟨_, exec_pairFirstWrite_PRUN v hn hg hu, hframe, ⟨_, hheld⟩, hother⟩
  case second =>
    intro w n d v first s hn hg hu hp
    obtain ⟨hregs, hfirst, hsecond, hother⟩ := pairTake_PRUN { s with pairHeld := sdel (Reg.POSn_PRUN n) s.pairHeld } first
      (v &&& regMask (Reg.POSn_PRUN n + 4)) hn
    have hheld := congrArg State.pairHeld hregs
    refine ⟨_, exec_pairSecondWrite_PRUN v hn hg hu hp, ?_, hfirst, hsecond, ?_, hother⟩
    · rw [hheld]; exact hregs
    · rw [hheld, sget_eq, sfind_sdel_same]; rfl
  case staged =>
    intro w a d v s hs hl hh hg hr hp hd hv hc hn
    exact ⟨_, exec_stagedRegisterWrite_enters hs hl hh hg hr hp hd hv hc hn, rfl,
      congrArg StgDom.openSet (State.stgDom_setStgDom_same s d _), fun _ h => reg_stgCount_ne _ h⟩
  case low =>
    intro w a s hl hg hr hp hc
    exact ⟨_, exec_reg64LowRead hl hg (ctlRead_low hr hp hl hc), rfl, by rw [sget_sset_same],
      fun _ h => by rw [sget_sset_ne _ _ _ h]⟩
  case absent =>
    intro w a v s hg hr
    exact ⟨_, by rw [exec_registerWrite, ctlAccess_allowed v hg, ctlWrite_absent w v hr, respond_done], rfl⟩
  case denied =>
    intro w a v s hg
    exact ⟨_, by rw [exec_registerWrite, ctlAccess_denied v hg, respond_refused], rfl⟩

end Sys2Proof.Claims
end

section
/-! PROOFS. What an issued instruction acts on, and the forms it ends in: the fetch touches the prefetch buffer alone, a seat
stalls, a seat's stall is over (R46, R47, R67, R538). -/

namespace Sys2Proof.Machine

/-! ### The fetch (R538) -/

/-- A list of changes keeps a relation that each of them keeps. -/
theorem each_keeps {α : Type} {R : State → State → Prop} (hr : ∀ s, R s s) (ht : ∀ s t u, R s t → R t u → R s u)
    {f : State → α → State} (hf : ∀ s a, R s (f s a)) (l : List α) : ∀ s : State, R s (s.each l f) := by
  induction l with
  | nil => exact hr
  | cons a l ih => exact fun s => ht _ _ _ (hf s a) (ih _)

/-- Only the prefetch buffer and its two counters differ. -/
def PrefetchOnly (s t : State) : Prop :=
  t = { s with plant := t.plant, regs := t.regs } ∧ ∀ a, a ≠ Reg.SPI0_DXHIT → a ≠ Reg.SPI0_DXMISS → t.reg a = s.reg a

theorem PrefetchOnly.refl (s : State) : PrefetchOnly s s := ⟨rfl, fun _ _ _ => rfl⟩

theorem PrefetchOnly.trans {s t u : State} (h : PrefetchOnly s t) (k : PrefetchOnly t u) : PrefetchOnly s u := by
  obtain ⟨h₁, hreg⟩ := h
  obtain ⟨k₁, kreg⟩ := k
  exact ⟨by rw [k₁, h₁], fun a ha hb => (kreg a ha hb).trans (hreg a ha hb)⟩

theorem dxTouchLine_prefetchOnly (s : State) (a : Nat) : PrefetchOnly s (dxTouchLine s a) := by
  unfold dxTouchLine
  split
  · exact ⟨rfl, fun b hb _ => State.reg_setReg_ne _ hb _⟩
  · exact ⟨rfl, fun b _ hb => State.reg_setReg_ne _ hb _⟩

theorem fetchTouch_prefetchOnly (s : State) (i n : Nat) : PrefetchOnly s (fetchTouch s i n) := by
  unfold fetchTouch
  split
  · exact each_keeps .refl (fun _ _ _ => .trans) dxTouchLine_prefetchOnly _ s
  · exact .refl s

/-- An engine seat fetches from no flash (R55). -/
theorem fetchTouch_engine (s : State) {i : Nat} (h : i ≠ plantSeat) (n : Nat) : fetchTouch s i n = s := by
  unfold fetchTouch target
  simp only [if_neg h]
  split_ifs <;> rfl

/-! ### The state as issued -/

theorem issued_engine (s : State) {i : Nat} (h : i ≠ plantSeat) (n : Nat) : issued s i n = s.modSeat i chargeSlot :=
  fetchTouch_engine _ h n

theorem issued_frame (s : State) (i n : Nat) : issued s i n =
    { s with seats := (issued s i n).seats, plant := (issued s i n).plant, regs := (issued s i n).regs } := by
  have h := (fetchTouch_prefetchOnly (s.modSeat i chargeSlot) i n).1
  rw [issued, h]; rfl

theorem issued_seats (s : State) (i n : Nat) : (issued s i n).seats = (s.modSeat i chargeSlot).seats :=
  by
  rw [issued, (fetchTouch_prefetchOnly (s.modSeat i chargeSlot) i n).1]

theorem issued_seat_same (s : State) (i n : Nat) : (issued s i n).seat i = chargeSlot (s.seat i) := by
  rw [State.seat, issued_seats]; exact State.seat_modSeat_same s i chargeSlot

theorem issued_seat_ne (s : State) {i j : Nat} (h : j ≠ i) (n : Nat) : (issued s i n).seat j = s.seat j := by
  rw [State.seat, issued_seats]; exact State.seat_modSeat_ne s h chargeSlot

theorem issued_reg (s : State) (i n : Nat) {a : Nat} (h : a ≠ Reg.SPI0_DXHIT) (h' : a ≠ Reg.SPI0_DXMISS) :
    (issued s i n).reg a = s.reg a := (fetchTouch_prefetchOnly (s.modSeat i chargeSlot) i n).2 a h h'

@[simp] theorem issued_mem (s : State) (i n : Nat) : (issued s i n).mem = s.mem := by rw [issued_frame]
@[simp] theorem issued_store (s : State) (i n : Nat) : (issued s i n).store = s.store := by rw [issued_frame]
@[simp] theorem issued_tags (s : State) (i n : Nat) : (issued s i n).tags = s.tags := by rw [issued_frame]
@[simp] theorem issued_variant (s : State) (i n : Nat) : (issued s i n).variant = s.variant :=
  by rw [issued_frame]
@[simp] theorem issued_owner (s : State) (i n : Nat) : (issued s i n).owner = s.owner := by rw [issued_frame]
@[simp] theorem issued_works (s : State) (i n : Nat) : (issued s i n).works = s.works := by rw [issued_frame]
@[simp] theorem issued_ringTime (s : State) (i n : Nat) : (issued s i n).ringTime = s.ringTime :=
  by rw [issued_frame]
@[simp] theorem issued_haltReq (s : State) (i n : Nat) : (issued s i n).haltReq = s.haltReq :=
  by rw [issued_frame]
@[simp] theorem issued_byteAt (s : State) (i n a : Nat) : (issued s i n).byteAt a = s.byteAt a := by
  rw [State.byteAt, issued_mem, State.byteAt]
@[simp] theorem issued_memSize (s : State) (i n : Nat) : (issued s i n).memSize = s.memSize := by
  rw [State.memSize, issued_variant, State.memSize]

/-- Charging a slot changes SLOTS, QUANTUM and their counts alone (R67). -/
theorem chargeSlot_frame (t : Seat) : chargeSlot t =
    { t with scr := (chargeSlot t).scr, slotsT := (chargeSlot t).slotsT, quantumUsed := (chargeSlot t).quantumUsed } := by
  unfold chargeSlot; dsimp only; split <;> rfl

@[simp] theorem chargeSlot_st (t : Seat) : (chargeSlot t).st = t.st := by rw [chargeSlot_frame]
@[simp] theorem chargeSlot_mode (t : Seat) : (chargeSlot t).mode = t.mode := by rw [chargeSlot_frame]
@[simp] theorem chargeSlot_outst (t : Seat) : (chargeSlot t).outst = t.outst := by rw [chargeSlot_frame]
@[simp] theorem chargeSlot_sx (t : Seat) (n : Nat) : (chargeSlot t).sx n = t.sx n := by
  rw [chargeSlot_frame]; rfl

/-- A seat that issues runs (R49). -/
theorem Ready.st_run {s : State} {i n : Nat} (h : Ready s i n) : ((issued s i n).seat i).st = .run := by
  obtain ⟨hc, -⟩ := h
  simp only [State.canIssue, Bool.and_eq_true, beq_iff_eq] at hc
  rw [issued_seat_same, chargeSlot_st]
  exact hc.1.1.1.1.1.1

/-! ### The forms an instruction ends in -/

/-- An instruction that retires by `f` makes its seat `f` of it, past the instruction. -/
theorem runsTo_retire {c : Instr} {i n : Nat} {f : Seat → Seat}
    (h : ∀ s, exec c s = .next (issue s i n (fun s => retire s i n f))) : RunsTo c i n (fun x => (f x).advance n) :=
  fun s hs => ⟨_, h s, by rw [issue_ready hs]; exact seatBecomes_retire _ i n f⟩

/-- A seat that changes and takes a state other than HALT moves. -/
theorem seatMoves_setSeatSt (s : State) (i : Nat) (f : Seat → Seat) {st : SeatSt} (h : st ≠ .halt) :
    SeatMoves s ((s.modSeat i f).setSeatSt i st) i { f (s.seat i) with st := st } := by
  have hb : (st == SeatSt.halt) = false := by simpa using h
  have hseat : ∀ j, ((s.modSeat i f).modSeat i (fun t => { t with st := st })).seat j =
      if j = i then { f (s.seat i) with st := st } else s.seat j := by
    intro j
    split
    · next e => rw [e, State.seat_modSeat_same, State.seat_modSeat_same]
    · next e => rw [State.seat_modSeat_ne _ e, State.seat_modSeat_ne _ e]
  unfold State.setSeatSt SeatMoves haltedReg
  dsimp only
  by_cases hi : i = plantSeat
  · rw [if_pos hi]
    exact ⟨rfl, by simp [hseat], fun j hj => by simp [hseat, hj], fun b => by simp [hi]⟩
  · rw [if_neg hi]
    refine ⟨rfl, (hseat i).trans (if_pos rfl), fun j hj => (hseat j).trans (if_neg hj), fun b => ?_⟩
    rw [if_neg hi, hb]
    split
    · next e => obtain rfl := Option.some_inj.mp e; exact State.reg_setReg_same _ _ _
    · next e => exact State.reg_setBit_ne _ (fun h => e (congrArg some h.symm)) _ _

/-- A seat that stalls is in WAIT for what it waits for (R46). -/
theorem seatMoves_stall (s : State) (i : Nat) (w : Wait) : SeatMoves s (stall s i w) i { s.seat i with st := .wait, wait := w } :=
  seatMoves_setSeatSt s i (fun t => { t with wait := w }) (by decide)

/-- A stalled seat that no debugger halts goes on in RUN (R46). -/
theorem seatMoves_unstall (s : State) (i : Nat) (f : Seat → Seat) (h : sget false s.haltReq i = false) :
    SeatMoves s (unstall s i f) i { f { s.seat i with wait := .none } with st := .run } := by
  have m := seatMoves_setSeatSt s i (fun t => f { t with wait := .none }) (st := .run) (by decide)
  have hreq := congrArg State.haltReq m.1
  unfold unstall
  dsimp only
  rw [if_neg (by rw [hreq]; simp [h])]
  exact m

end Sys2Proof.Machine
end

section
/-! PROOFS. The scalar operations (R81, R83). -/

namespace Sys2Proof.Machine

/-! ### What the model's words compute -/

theorem and_63 (b : W64) : (b &&& 63).toNat = b.toNat % 64 := by
  rw [BitVec.toNat_and]; exact Nat.and_two_pow_sub_one_eq_mod b.toNat 6

theorem flag64_slt (a b : W64) : flag64 (a.slt b) = if a.toInt < b.toInt then 1 else 0 := by
  simp [flag64, BitVec.slt]

theorem flag64_ult (a b : W64) : flag64 (a.ult b) = if a.toNat < b.toNat then 1 else 0 := by
  simp [flag64, BitVec.ult]

/-- The ones below bit `n` are the bits below it that are set. -/
theorem onesBelow_eq (a : W64) (n : Nat) : onesBelow a n = (List.range n).countP a.getLsbD := by
  induction n with
  | zero => rfl
  | succ n ih =>
    rw [onesBelow, ih, List.range_succ, List.countP_append, List.countP_singleton, Nat.add_comm]
    rfl

/-- Below bit `n` the leading zeros are clear bits, and a set bit follows them unless they reach bit 0. -/
theorem leadingZeros_spec (a : W64) (n : Nat) : leadingZeros a n ≤ n ∧ (∀ k, n - leadingZeros a n ≤ k → k < n → a.getLsbD k = false) ∧
    (leadingZeros a n < n → a.getLsbD (n - 1 - leadingZeros a n) = true) := by
  induction n with
  | zero => simp [leadingZeros]
  | succ n ih =>
    obtain ⟨hle, hclear, hset⟩ := ih
    unfold leadingZeros
    split
    next h => exact ⟨by omega, fun k _ _ => by omega, fun _ => h⟩
    next h =>
      refine ⟨by omega, fun k hk hn => ?_, fun hlt => ?_⟩
      · rcases Nat.lt_succ_iff_lt_or_eq.mp hn with hk' | rfl
        · exact hclear k (by omega) hk'
        · simpa using h
      · have := hset (by omega)
        rwa [show n + 1 - 1 - (1 + leadingZeros a n) = n - 1 - leadingZeros a n by omega]

theorem leadingZeros_shift (a : W64) : a >>> (64 - leadingZeros a 64) = 0 := by
  obtain ⟨hle, hclear, -⟩ := leadingZeros_spec a 64
  refine BitVec.eq_of_getLsbD_eq fun k hk => ?_
  rw [BitVec.getLsbD_ushiftRight, BitVec.ofNat_eq_ofNat, BitVec.getLsbD_zero]
  rcases Nat.lt_or_ge (64 - leadingZeros a 64 + k) 64 with h | h
  · exact hclear _ (by omega) h
  · exact BitVec.getLsbD_of_ge _ _ h

theorem zeroExtend_eq_ofNat (m : BitVec 16) : m.zeroExtend 64 = BitVec.ofNat 64 m.toNat :=
  BitVec.eq_of_toNat_eq (by simp)

/-- A sign-extended immediate shifted left is its value times the power of two. -/
theorem lui_value (m : BitVec 16) : m.signExtend 64 <<< 16 = BitVec.ofInt 64 (m.toInt * 2 ^ 16) := by
  rw [← BitVec.mul_twoPow_eq_shiftLeft, BitVec.ofInt_mul]; rfl

/-! ### What the commands run -/

/-- The command of `e` runs `aluRR` of the function of `e`. -/
def ComputesRR (e : (Nat → Nat → Nat → Nat → Instr) × (W64 → W64 → W64)) : Prop :=
  ∃ f, (∀ i rd ra rb s, exec (e.1 i rd ra rb) s = .next (aluRR i rd ra rb f s)) ∧ ∀ a b, f a b = e.2 a b

/-- The command of `e`, with an immediate, runs `aluR` of the function of `e`. -/
def ComputesRI {ι κ : Type} (v : ι → κ) (e : (Nat → Nat → Nat → ι → Instr) × (W64 → κ → W64)) : Prop :=
  ∃ f : ι → W64 → W64, (∀ i rd ra m s, exec (e.1 i rd ra m) s = .next (aluR i 4 rd ra (f m) s)) ∧ ∀ m a, f m a = e.2 a (v m)

theorem ComputesRR.runsTo {e : (Nat → Nat → Nat → Nat → Instr) × (W64 → W64 → W64)} (h : ComputesRR e) (i rd ra rb : Nat) :
    RunsTo (e.1 i rd ra rb) i 4 (fun x => (x.setX rd (e.2 (x.sx ra) (x.sx rb))).advance 4) := by
  obtain ⟨f, he, hf⟩ := h
  rw [← funext₂ hf]
  exact runsTo_retire (he i rd ra rb)

theorem ComputesRI.runsTo {ι κ : Type} {v : ι → κ} {e : (Nat → Nat → Nat → ι → Instr) × (W64 → κ → W64)}
    (h : ComputesRI v e) (i rd ra : Nat) (m : ι) :
    RunsTo (e.1 i rd ra m) i 4 (fun x => (x.setX rd (e.2 (x.sx ra) (v m))).advance 4) := by
  obtain ⟨f, he, hf⟩ := h
  simp only [← hf]
  exact runsTo_retire (he i rd ra m)

end Sys2Proof.Machine

namespace Sys2Proof.Claims
open Sys2Proof.Machine

theorem scalarTable_computes : ∀ e ∈ scalarTable, ComputesRR e := by
  simp only [scalarTable, List.forall_mem_cons, List.not_mem_nil, false_imp_iff, implies_true, and_true]
  refine ⟨?add, ?sub, ?and, ?or, ?xor, ?sll, ?srl, ?sra, ?slt, ?sltu, ?mul, ?mulhs, ?mulhu, ?min, ?max, ?minu, ?maxu⟩ <;>
    refine ⟨_, fun _ _ _ _ _ => rfl, fun a b => ?_⟩ <;> dsimp only
  case mulhs | mulhu => rfl
  case sll | srl | sra => rw [and_63]
  case slt => exact flag64_slt a b
  case sltu => exact flag64_ult a b
  case mul => exact BitVec.eq_of_toNat_eq (by simp)
  case min | max => simp [BitVec.slt]
  case minu | maxu => simp [BitVec.ult]

theorem immTable_computes : ∀ e ∈ immTable, ComputesRI id e := by
  simp only [immTable, List.forall_mem_cons, List.not_mem_nil, false_imp_iff, implies_true, and_true]
  refine ⟨?addi, ?andi, ?ori, ?xori, ?slti, ?sltiu⟩ <;> refine ⟨fun _ => _, fun _ _ _ _ _ => rfl, fun m a => ?_⟩ <;>
    dsimp only [id]
  case addi => rfl
  case andi | ori | xori => rw [zeroExtend_eq_ofNat]
  case slti => rw [flag64_slt, BitVec.toInt_signExtend_of_le (by decide)]
  case sltiu => exact flag64_ult a _

theorem shiftTable_computes : ∀ e ∈ shiftTable, ComputesRI BitVec.toNat e := by
  simp only [shiftTable, List.forall_mem_cons, List.not_mem_nil, false_imp_iff, implies_true, and_true]
  refine ⟨?slli, ?srli, ?srai⟩ <;> exact ⟨fun _ => _, fun _ _ _ _ _ => rfl, fun _ _ => rfl⟩

/-- CLZ gives RD the number of zero bits above the highest set one (R81). -/
theorem clz_counts (i rd ra : Nat) (s : State) (hs : Ready s i 4) : Completes (.clz i rd ra) s (fun t =>
    ∃ n ≤ 64, ((issued s i 4).seat i).sx ra >>> (64 - n) = 0 ∧ (n < 64 → (((issued s i 4).seat i).sx ra).getLsbD (63 - n) = true) ∧
      SeatBecomes (issued s i 4) t i ((((issued s i 4).seat i).setX rd (BitVec.ofNat 64 n)).advance 4)) := by
  obtain ⟨t, he, ht⟩ := runsTo_retire (c := .clz i rd ra) (fun _ => rfl) s hs
  obtain ⟨hle, -, hset⟩ := leadingZeros_spec (((issued s i 4).seat i).sx ra) 64
  exact ⟨t, he, _, hle, leadingZeros_shift _, hset, ht⟩

/-- Settles O3: every operation is `aluRR` or `aluR` of a function that computes the table's result. -/
theorem scalarRegisterOperationsGiveTheirResults : Obligations.ScalarRegisterOperationsGiveTheirResults := by
  refine ⟨⟨fun e he => (scalarTable_computes e he).runsTo, ?popc, clz_counts⟩, fun e he => (immTable_computes e he).runsTo,
    fun e he => (shiftTable_computes e he).runsTo, ?lui, ?liL, ?lihL, ?addiL⟩
  case popc => intro i rd ra; simp only [← onesBelow_eq]; exact runsTo_retire fun _ => rfl
  case lui => intro i rd imm; rw [← lui_value]; exact runsTo_retire fun _ => rfl
  case liL => exact fun i rd imm => runsTo_retire fun _ => rfl
  case lihL => exact fun i rd imm => runsTo_retire fun _ => rfl
  case addiL => exact fun i rd ra imm => runsTo_retire fun _ => rfl

end Sys2Proof.Claims
end

section
/-! PROOFS. The fences (R62, R65, R105), and what reset leaves (R46, R122, R558, R620, R655). -/

namespace Sys2Proof.Machine

theorem exec_fenceComplete {i : Nat} {k : FenceKind} {s : State} (h : (s.seat i).wait = .fence k) :
    exec (.fenceComplete i) s =
      .next (if fenceDone k (s.seat i).outst then unstall s i (fun t => t.advance 4) else s) := by
  change execFenceComplete i s = _
  simp only [execFenceComplete, h]

end Sys2Proof.Machine

namespace Sys2Proof.Claims
open Sys2Proof.Machine

/-- A fence of R62 issues as `fence` of its kind, and is done when nothing it orders is outstanding. -/
theorem fenceTable_runs : ∀ e ∈ fenceTable, (∀ i s, exec (e.1 i) s = .next (fence i e.2.1 s)) ∧
    ∀ l, fenceDone e.2.1 l = true ↔ ∀ o ∈ l, ¬ e.2.2 o := by
  simp only [fenceTable, List.forall_mem_cons, List.not_mem_nil, false_imp_iff, implies_true, and_true]
  refine ⟨?rw, ?stg, ?r, ?w, ?io, ?i⟩ <;> refine ⟨fun _ _ => rfl, fun l => ?_⟩
  case io => simp [fenceDone, List.eq_nil_iff_forall_not_mem]
  case rw | stg | i => simp [fenceDone]
  case r | w => simp [fenceDone, or_iff_not_imp_left]

/-- Settles O24: a fence, and its completion, test `fenceDone`. -/
theorem fencesWaitForWhatTheyOrder : Obligations.FencesWaitForWhatTheyOrder := by
  intro e he i s
  obtain ⟨hrun, hdone⟩ := fenceTable_runs e he
  have held : ∀ {l}, (∃ o ∈ l, e.2.2 o) → ¬ fenceDone e.2.1 l = true := fun ⟨o, ho, hp⟩ h => (hdone _).mp h o ho hp
  refine ⟨fun hs => ⟨fun hnone => ?done, fun hsome => ?stalls⟩, fun hw hh => ⟨fun hnone => ?completes, fun hsome => ?waits⟩⟩
  case done =>
    refine ⟨_, hrun i s, ?_⟩
    rw [fence, issue_ready hs, if_pos ((hdone _).mpr hnone)]
    exact seatBecomes_retire _ i 4 id
  case stalls =>
    refine ⟨_, hrun i s, ?_⟩
    rw [fence, issue_ready hs, if_neg (held hsome)]
    exact seatMoves_stall _ i _
  case completes =>
    refine ⟨_, exec_fenceComplete hw, ?_⟩
    rw [if_pos ((hdone _).mpr hnone)]
    exact seatMoves_unstall s i _ hh
  case waits => exact ⟨_, exec_fenceComplete hw, if_neg (held hsome)⟩

/-- At reset every register but SYS_RSTCAUSE is unlisted, and so reads its reset value (R620). -/
theorem reset_reg_ne {a : Nat} (h : a ≠ Reg.SYS_RSTCAUSE) : State.reset.reg a = regReset a := by
  change sget (regReset a) [(Reg.SYS_RSTCAUSE, 1)] a = regReset a
  simp [sget, sfind, h.symm]

theorem reset_reg_RSTCAUSE : State.reset.reg Reg.SYS_RSTCAUSE = 1 := rfl

/-- Settles O58: reset lists one register and no other entry of any store. -/
theorem resetLeavesTheStatedMachine : Obligations.ResetLeavesTheStatedMachine := by
  have safe : State.reset.reg Reg.FC_SAFE = 0 := (reset_reg_ne (by decide)).trans (by decide)
  refine ⟨rfl, reset_canonical, rfl, rfl, fun _ => rfl, fun _ => rfl, fun _ => reset_reg_ne, reset_reg_RSTCAUSE, ?_, ?_,
    rfl, rfl, rfl, rfl, rfl, rfl⟩
  · rw [State.safeState, State.fld, safe]; rfl
  · rw [State.fld, safe]; rfl

end Sys2Proof.Claims
end

section
/-! PROOFS. Loads, stores and atomics of device memory: the checks of an access in their order, the access at its issue, and
its return (R60, R86, R88, R144, R164). -/

namespace Sys2Proof.Machine

/-! ### The checks of an access (R60) -/

theorem ownerOk_iff (t : Seat) (d : Desc) : ownerOk t d = true ↔ OwnDesc t d := by
  unfold ownerOk OwnDesc; cases t.mode <;> simp

theorem seatRead_refused {s : State} {i w off n align need c : Nat}
    (h : checkAccess s (s.seat i) (isPlant i) ((s.seat i).wx w) off n align need false = some c) :
    seatRead s i w off n align need = .error c := by
  simp only [seatRead, h]

theorem seatWrite_refused {s : State} {i w off align c : Nat} {bs : List Byte}
    (h : checkAccess s (s.seat i) (isPlant i) ((s.seat i).wx w) off bs.length align 2 false = some c) :
    seatWrite s i w off align bs = .error c := by
  simp only [seatWrite, h]

theorem loadAt_refused {s : State} {i rd w n c : Nat} {off : W64} {f : Nat → W64}
    (h : checkAccess s (s.seat i) (isPlant i) ((s.seat i).wx w) off.toNat n n 1 false = some c) :
    loadAt s i rd w n off f = trapAccess s i c w .load n off := by
  simp only [loadAt, seatRead_refused h]

theorem storeAt_refused {s : State} {i w n c : Nat} {off v : W64}
    (h : checkAccess s (s.seat i) (isPlant i) ((s.seat i).wx w) off.toNat n n 2 false = some c) :
    storeAt s i w n off v = trapAccess s i c w .store n off := by
  rw [storeAt, seatWrite_refused (by rwa [leBytes_length])]

/-! ### An access that is performed -/

/-- Whatever is awaited, the seat stalls for a flight that carries it. -/
theorem await_stall (s : State) (i len win : Nat) (off : W64) (kind : Kind) (size : Nat) (touch : Touch) (r : Result) :
    ∃ f : Flight, await s i len win off kind size touch r = stall s i (.access f) ∧ f.result = r ∧ f.len = len ∧
      f.tags = touch.tags ∧ f.tmode = ((s.seat i).mode == .t) := ⟨_, rfl, rfl, rfl, rfl, rfl⟩

/-- A load waits with the value its bytes hold. -/
theorem loadAt_ok {s : State} {i w n : Nat} {off : W64} (rd : Nat) (f : Nat → W64) (h : AccessOk s i w off.toNat n n 1) (hn : 0 < n) :
    loadAt s i rd w n off f = await s i 4 w off .load n (touchOf ((s.seat i).wx w) (.memory (dBase ((s.seat i).wx w) + off.toNat)) n)
      (.x rd (f (leNat (bytesAt s.mem (dBase ((s.seat i).wx w) + off.toNat) n)))) := by
  simp only [loadAt, seatRead_ok h hn]

/-- A store puts its bytes and goes on. -/
theorem storeAt_ok {s : State} {i w n : Nat} {off : W64} (v : W64) (h : WriteOk s i w off.toNat n n) (hn : 0 < n) :
    ∃ ps, storeAt s i w n off v = storeOut { s with
      mem := putBytes s.mem (dBase ((s.seat i).wx w) + off.toNat) (leBytes n v.toNat), pages := ps } i 4 false := by
  obtain ⟨ps, e⟩ := seatWrite_ok (bs := leBytes n v.toNat) (by rwa [leBytes_length]) (by rwa [leBytes_length])
  exact ⟨ps, by simp only [storeAt, e]⟩

/-- An instruction that nothing orders after earlier stores issues as any other (R144). -/
theorem orderedIssue_returned {s : State} {i : Nat} (h : (s.seat i).mode = .t → ∀ o ∈ (s.seat i).outst, o.tmode = false)
    (n : Nat) (b : State → State) : orderedIssue s i n b = issue s i n b := by
  refine if_neg fun hb => ?_
  simp only [Bool.and_eq_true, beq_iff_eq, List.any_eq_true] at hb
  obtain ⟨hm, o, ho, ht⟩ := hb
  simp [h hm o ho] at ht

/-- An atomic reads and writes its bytes in one step, and waits with the old value (R88). -/
theorem atom_ok {s : State} {i w rb ra : Nat} (f : Nat → Nat → Nat → Nat → Nat) (wide : Bool) (rd : Nat) (hs : Ready s i 4)
    (ho : (s.seat i).mode = .t → ∀ o ∈ (s.seat i).outst, o.tmode = false) :
    let u := issued s i 4
    let x := u.seat i
    let n := atomSize wide
    let a := dBase (x.wx w) + (x.sx ra).toNat
    let old := leNat (bytesAt s.mem a n)
    let bs := leBytes n (f (8 * n) old ((x.sx rb).toNat % 2 ^ (8 * n)) ((x.sx rd).toNat % 2 ^ (8 * n)))
    AccessOk u i w (x.sx ra).toNat n n 3 → WriteOk u i w (x.sx ra).toNat n n →
    ∃ (v : State) (g : Flight), atom f i wide rd w ra rb s = stall v i (.access g) ∧ g.result = .x rd (sextBytes n old) ∧ g.len = 4 ∧
      v = { u with mem := putBytes s.mem a bs, pages := v.pages } := by
  intro u x n a old bs hr hw
  have hn : 0 < n := by simp only [n, atomSize]; split <;> decide
  obtain ⟨hcheck, hpages⟩ := hr
  obtain ⟨-, -, -, -, -, -, -, hin, -⟩ := id hcheck
  have hlen : bs.length = n := leBytes_length _ _
  obtain ⟨ps, e⟩ := memWrite_some (s := u) (a := a) (hlen.symm ▸ hin) (hlen.symm ▸ hw.2)
  obtain ⟨g, hg, hresult, hflen, -⟩ := await_stall { u with mem := putBytes s.mem a bs, pages := ps } i 4 w (x.sx ra) .atomic n
    (touchOf (x.wx w) (.memory a) n) (.x rd (sextBytes n old))
  refine ⟨{ u with mem := putBytes s.mem a bs, pages := ps }, g, ?_, hresult, hflen, rfl⟩
  rw [atom, orderedIssue_returned ho, issue_ready hs]
  have hread : placeRead u i (.memory a) n = some (bytesAt s.mem a n, u) := by
    rw [placeRead, memRead_some hin hpages, issued_mem]; rfl
  have hplace : placeWrite u i (.memory a) bs = _ := e
  dsimp only
  rw [checkAccess_none hcheck hn]
  dsimp only
  rw [target_memory hcheck hn, hread]
  dsimp only
  rw [hplace, issued_mem]
  exact hg

/-! ### The return of an access (R59, R144, R164) -/

/-- A return that finds no error and no changed tag delivers its result. -/
theorem accessReturn_delivers {s : State} {f : Flight} (i : Nat) (h : ∀ g ∈ f.tags, s.tag g.1 = g.2) :
    accessReturn s i f [] = unstall s i (fun t => (t.deliver f.result).advance f.len) := by
  have htags : f.tags.any (fun g => s.tag g.1 != g.2) = false := by
    simpa only [List.any_eq_false, bne_iff_ne, ne_eq, not_not] using h
  have hbad : (f.pages.filter (fun p => !s.pageBad p)).any s.pageBad = false := by simp
  simp only [accessReturn, htags, Bool.false_eq_true, if_false, List.filter_nil, State.each, List.foldl_nil, hbad]

/-- The access a seat waits for returns by the command of its mode. -/
theorem exec_return {s : State} {i : Nat} {f : Flight} {ret : Instr} (hw : (s.seat i).wait = .access f)
    (hret : ret ∈ [Instr.seatAccessComplete i [], Instr.tenantAccessReturn i false []])
    (hm : ret = .seatAccessComplete i [] ↔ f.tmode = false) (ho : f.tmode = true → ∀ o ∈ (s.seat i).outst, o.tmode = false) :
    exec ret s = .next (accessReturn s i f []) := by
  rcases List.mem_pair.mp hret with rfl | rfl
  · change execSeatAccessComplete i [] s = _
    simp [execSeatAccessComplete, hw, hm.mp rfl]
  · have ht : f.tmode = true := by simpa using mt hm.mpr (by simp)
    have hany : (s.seat i).outst.any (fun o => o.tmode) = false := by simpa [List.any_eq_false] using ho ht
    change execTenantAccessReturn i false [] s = _
    simp [execTenantAccessReturn, hw, ht, hany]

/-- A running seat that stalled and has its result is the seat with its result. -/
theorem delivered_seat {x : Seat} (h : x.st = .run) (rd n : Nat) (v : W64) :
    ({ (({ x with st := .wait, wait := .none } : Seat).setX rd v).advance n with st := .run } : Seat) =
      { (x.setX rd v).advance n with wait := .none } := by
  cases x; cases h; unfold Seat.setX; split <;> rfl

end Sys2Proof.Machine

namespace Sys2Proof.Claims
open Sys2Proof.Machine

/-! ### What the loads and stores run -/

theorem loadTable_runs : ∀ l ∈ loadTable, (∀ i rd w ra imm s, exec (l.1 i rd w ra imm) s = .next (load i rd w ra imm l.2.1 l.2.2 s)) ∧
    0 < l.2.1 := by
  simp only [loadTable, List.forall_mem_cons, List.not_mem_nil, false_imp_iff, implies_true, and_true]
  refine ⟨?b, ?h, ?w, ?d, ?bs, ?hs, ?ws⟩ <;> exact ⟨fun _ _ _ _ _ _ => rfl, by decide⟩

theorem storeTable_runs : ∀ l ∈ storeTable, (∀ i rs w ra imm s, exec (l.1 i rs w ra imm) s = .next (storeOp i rs w ra imm l.2 s)) ∧
    0 < l.2 := by
  simp only [storeTable, List.forall_mem_cons, List.not_mem_nil, false_imp_iff, implies_true, and_true]
  refine ⟨?b, ?h, ?w, ?d⟩ <;> exact ⟨fun _ _ _ _ _ _ => rfl, by decide⟩

theorem atomTable_runs : ∀ e ∈ atomTable, ∀ i wide ord rd w ra rb s,
    exec (e.1 i wide ord rd w ra rb) s = .next (atom e.2 i wide rd w ra rb s) := by
  simp only [atomTable, List.forall_mem_cons, List.not_mem_nil, false_imp_iff, implies_true, and_true]
  refine ⟨?swap, ?add, ?and, ?or, ?xor, ?min, ?max, ?minu, ?maxu, ?cas⟩ <;> exact fun _ _ _ _ _ _ _ _ => rfl

theorem memOff_issued (s : State) (i n ra : Nat) (imm : BitVec 12) :
    memOff ((issued s i n).seat i) ra imm = (s.seat i).sx ra + BitVec.ofInt 64 imm.toInt := by
  rw [memOff, issued_seat_same, chargeSlot_sx]; rfl

theorem exec_load {s : State} {i ra : Nat} {imm : BitVec 12} {off : W64}
    {l : (Nat → Nat → Nat → Nat → BitVec 12 → Instr) × Nat × (Nat → W64)} (hl : l ∈ loadTable) (rd w : Nat) (hs : Ready s i 4)
    (ho : off = (s.seat i).sx ra + BitVec.ofInt 64 imm.toInt) :
    exec (l.1 i rd w ra imm) s = .next (loadAt (issued s i 4) i rd w l.2.1 off l.2.2) := by
  rw [(loadTable_runs l hl).1, load, issue_ready hs, memOff_issued, ho]

theorem exec_store {s : State} {i ra : Nat} {imm : BitVec 12} {off : W64}
    {l : (Nat → Nat → Nat → Nat → BitVec 12 → Instr) × Nat} (hl : l ∈ storeTable) (rs w : Nat) (hs : Ready s i 4)
    (ho : off = (s.seat i).sx ra + BitVec.ofInt 64 imm.toInt) :
    exec (l.1 i rs w ra imm) s = .next (storeAt (issued s i 4) i w l.2 off ((s.seat i).sx rs)) := by
  rw [(storeTable_runs l hl).1, storeOp, issue_ready hs, memOff_issued, issued_seat_same, chargeSlot_sx, ho]

theorem LoadForm.exec {e : Nat × (Nat → W64)} {s : State} {i rd w : Nat} {off : W64} {c : Instr} (h : LoadForm e s i rd w off c)
    (hs : Ready s i 4) : exec c s = .next (loadAt (issued s i 4) i rd w e.1 off e.2) ∧ 0 < e.1 := by
  rcases h with ⟨l, hl, rfl, ra, imm, rfl, ho⟩ | ⟨wide, ra, rfl, rfl, rfl⟩
  · exact ⟨exec_load hl rd w hs ho, (loadTable_runs l hl).2⟩
  · have hrun : Machine.exec (.ldAq i wide rd w ra) s = .next (issue s i 4 (fun s =>
        loadAt s i rd w (atomSize wide) ((s.seat i).sx ra) (sextBytes (atomSize wide)))) := rfl
    rw [hrun, issue_ready hs, issued_seat_same, chargeSlot_sx]
    cases wide <;> exact ⟨rfl, by decide⟩

theorem StoreForm.exec {n : Nat} {v : W64} {s : State} {i w : Nat} {off : W64} {c : Instr} (h : StoreForm n v s i w off c)
    (hs : Ready s i 4) : exec c s = .next (storeAt (issued s i 4) i w n off v) ∧ 0 < n := by
  rcases h with ⟨l, hl, rfl, rs, ra, imm, rfl, ho, rfl⟩ | ⟨wide, ra, rb, rfl, rfl, rfl, rfl, ho⟩
  · exact ⟨exec_store hl rs w hs ho, (storeTable_runs l hl).2⟩
  · have hrun : Machine.exec (.stRl i wide w ra rb) s = .next (orderedIssue s i 4 (fun s =>
        storeAt s i w (atomSize wide) ((s.seat i).sx ra) ((s.seat i).sx rb))) := rfl
    rw [hrun, orderedIssue_returned ho, issue_ready hs, issued_seat_same, chargeSlot_sx, chargeSlot_sx]
    cases wide <;> exact ⟨rfl, by decide⟩

/-- A load or a store that a check refuses takes the check's trap. -/
theorem AccessForm.exec_refused {n need : Nat} {k : Kind} {s : State} {i w cause : Nat} {off : W64} {c : Instr}
    (h : AccessForm n need k s i w off c) (hs : Ready s i 4)
    (hc : checkAccess (issued s i 4) ((issued s i 4).seat i) (isPlant i) (((issued s i 4).seat i).wx w) off.toNat n n need false = some cause) :
    exec c s = .next (trapAccess (issued s i 4) i cause w k n off) := by
  rcases h with ⟨rfl, rfl, l, hl, rfl, rd, ra, imm, rfl, ho⟩ | ⟨rfl, rfl, l, hl, rfl, rs, ra, imm, rfl, ho⟩
  · rw [exec_load hl rd w hs ho, loadAt_refused hc]
  · rw [exec_store hl rs w hs ho, storeAt_refused hc]

theorem AccessForm.size_pos {n need : Nat} {k : Kind} {s : State} {i w : Nat} {off : W64} {c : Instr}
    (h : AccessForm n need k s i w off c) : 0 < n := by
  rcases h with ⟨-, -, l, hl, rfl, -⟩ | ⟨-, -, l, hl, rfl, -⟩
  · exact (loadTable_runs l hl).2
  · exact (storeTable_runs l hl).2

/-! ### The statements -/

/-- Settles O7: a load waits with its value, and its return, of which no tag has changed, delivers it. -/
theorem loadsWaitAndDeliverTheirValue : Obligations.LoadsWaitAndDeliverTheirValue := by
  intro e s i rd w off c hform hs hok
  obtain ⟨hrun, hn⟩ := hform.exec hs
  rw [loadAt_ok rd e.2 hok hn, issued_mem] at hrun
  obtain ⟨-, -, -, -, -, -, -, -, htag⟩ := hok.1
  obtain ⟨f, hf, hresult, hlen, htags, hmode⟩ := await_stall (issued s i 4) i 4 w off .load e.1 _ _
  rw [hf] at hrun
  refine ⟨_, hrun, ?_⟩
  have hmoves := seatMoves_stall (issued s i 4) i (.access f)
  obtain ⟨hframe, hseat, -, -⟩ := id hmoves
  have hwait := congrArg Seat.wait hseat
  have hout := congrArg Seat.outst hseat
  have hsame : ∀ g, (stall (issued s i 4) i (.access f)).tag g = (issued s i 4).tag g := fun g => by rw [hframe]; rfl
  refine ⟨by rw [hwait]; exact hmoves, fun hh ret hret hm ho => ?_⟩
  refine ⟨_, exec_return hwait hret (by simpa [hmode] using hm) (by simpa [hmode, hout] using ho), ?_⟩
  rw [accessReturn_delivers i (by rw [htags]; simpa [touchOf, hsame] using htag), hresult, hlen, ← delivered_seat hs.st_run]
  have hgo := seatMoves_unstall (stall (issued s i 4) i (.access f)) i (fun x => (x.deliver (.x rd
    (e.2 (leNat (bytesAt s.mem (dBase (((issued s i 4).seat i).wx w) + off.toNat) e.1))))).advance 4) (by rw [hframe]; simpa using hh)
  rw [hseat] at hgo
  exact hgo

/-- Settles O8: a store's bytes reach memory at its issue, and its seat goes on. -/
theorem storesWriteTheirBytesAlone : Obligations.StoresWriteTheirBytesAlone := by
  intro n v s i w off c hform hs hok x a
  obtain ⟨hrun, hn⟩ := hform.exec hs
  obtain ⟨ps, e⟩ := storeAt_ok v hok hn
  have hbytes := bytesAt_putBytes_same (leBytes n v.toNat) s.mem a
  rw [leBytes_length] at hbytes
  rw [e, issued_mem] at hrun
  refine ⟨_, hrun, rfl, hbytes, fun b hb => ?_, State.seat_modSeat_same _ _ _, fun j hj => ?_⟩
  · exact sget_putBytes_outside _ _ _ _ (by rwa [leBytes_length])
  · exact (State.seat_modSeat_ne _ hj _).trans (issued_seat_ne s hj 4)

/-- Settles O9: an atomic's bytes reach memory at its issue, and its seat waits with the old value. -/
theorem atomicsReadModifyWriteInOneStep : Obligations.AtomicsReadModifyWriteInOneStep := by
  intro e he i wide ord rd w ra rb s hs x n off a old hr hw ho
  have ho' : (s.seat i).mode = .t → ∀ o ∈ (s.seat i).outst, o.tmode = false := by
    simpa only [x, issued_seat_same, chargeSlot_mode, chargeSlot_outst] using ho
  obtain ⟨v, f, hatom, hresult, hlen, hv⟩ := atom_ok e.2 wide rd hs ho' hr hw (rb := rb)
  have hrun := atomTable_runs e he i wide ord rd w ra rb s
  rw [hatom] at hrun
  obtain ⟨hframe, hseat, hothers, hregs⟩ := seatMoves_stall v i (.access f)
  have hvseat : ∀ j, v.seat j = (issued s i 4).seat j := fun j => by rw [hv]; rfl
  have hvreg : ∀ b, v.reg b = (issued s i 4).reg b := fun b => by rw [hv]; rfl
  have hmem : (stall v i (.access f)).mem = putBytes s.mem a
      (leBytes n (e.2 (8 * n) old ((x.sx rb).toNat % 2 ^ (8 * n)) ((x.sx rd).toNat % 2 ^ (8 * n)))) := by rw [hframe, hv]; rfl
  rw [hvseat] at hseat
  refine ⟨_, hrun, ?frame, ?bytes, fun b hb => ?outside, ⟨f, congrArg Seat.wait hseat, hresult, hlen, hseat⟩, fun j hj => ?others,
    fun b hb => ?regs⟩
  case frame => rw [hframe, hv]
  case bytes =>
    have hbytes := bytesAt_putBytes_same
      (leBytes n (e.2 (8 * n) old ((x.sx rb).toNat % 2 ^ (8 * n)) ((x.sx rd).toNat % 2 ^ (8 * n)))) s.mem a
    rw [leBytes_length] at hbytes
    rw [hmem]; exact hbytes
  case outside => rw [State.byteAt, hmem]; exact sget_putBytes_outside _ _ _ _ (by rwa [leBytes_length])
  case others => rw [hothers j hj, hvseat, issued_seat_ne s hj]
  case regs => rw [hregs b, if_neg hb, hvreg]

/-- Settles O10: `checkAccess` answers the first check that fails, and a refused access is its trap. -/
theorem accessChecksTrapInOrder : Obligations.AccessChecksTrapInOrder := by
  intro n need k s i w off c hform hs x d traps
  have hn := hform.size_pos
  have refused : ∀ cause, checkAccess (issued s i 4) x (isPlant i) d off.toNat n n need false = some cause → traps cause :=
    fun cause h => ⟨_, hform.exec_refused hs h, rfl⟩
  refine ⟨fun hv => refused _ ?invalid, fun hv hl => refused _ ?empty, fun hv hl ho => refused _ ?owner,
    fun hv hl ho hr => refused _ ?rights, fun hv hl ho hr hb => refused _ ?bounds, fun hv hl ho hr hb ha => refused _ ?align,
    fun hv hl ho hr hb ha hloc hm ht => refused _ ?tag⟩
  case invalid => simp [checkAccess, hv]
  case empty => simp [checkAccess, hv, hl]
  case owner => simp [checkAccess, hv, hl, Bool.eq_false_iff.mpr (mt (ownerOk_iff x d).mp ho)]
  case rights => simp [checkAccess, hv, hl, (ownerOk_iff x d).mpr ho, hasRights, hr]
  case bounds => simp [checkAccess, hv, hl, (ownerOk_iff x d).mpr ho, hasRights, hr, hb]
  case align => simp [checkAccess, hv, hl, (ownerOk_iff x d).mpr ho, hasRights, hr, Nat.not_lt.mpr hb, ha]
  case tag =>
    have hin : (issued s i 4).inMemory (dBase d + off.toNat) 1 = true := by simp [State.inMemory]; omega
    have hmin : min n (s.memSize - (dBase d + off.toNat)) = n := by omega
    have htags : (issued s i 4).tagsMatch (dBase d + off.toNat) n (dKtag d) = false := by
      obtain ⟨g, hg, hne⟩ := ht
      rw [State.tagsMatch, List.all_eq_false]
      exact ⟨g, hg, by simpa [State.tag] using hne⟩
    simp [checkAccess, hv, hl, (ownerOk_iff x d).mpr ho, hasRights, hr, Nat.not_lt.mpr hb, ha, hloc, hin, hmin, htags]

end Sys2Proof.Claims
end

section
/-! PROOFS. Vector operations, comparisons, moves and reductions (R41, R66, R89 to R93). First the bits of a replaced field
and the elements of a vector, then the active elements, then what an instruction that issues does to them. -/

namespace Sys2Proof.Machine

/-! ### Bits and elements (R41, R89) -/

/-- A replaced field shows the new value's bits and leaves the others. -/
theorem getLsbD_fset {n : Nat} (w : BitVec n) (hi lo v k : Nat) (h : hi < n) (hl : lo ≤ hi) :
    (fset w hi lo v).getLsbD k = if lo ≤ k ∧ k ≤ hi then v.testBit (k - lo) else w.getLsbD k := by
  set m := hi + 1 - lo with hm
  have hpow : 2 ^ (hi + 1) = 2 ^ lo * 2 ^ m := by rw [← pow_add]; congr 1; omega
  have hr : w.toNat % 2 ^ lo < 2 ^ lo := Nat.mod_lt _ (by positivity)
  have field : ∀ b, 2 ^ lo * (b % 2 ^ m) + w.toNat % 2 ^ lo < 2 ^ (hi + 1) := fun b => by
    have : b % 2 ^ m + 1 ≤ 2 ^ m := Nat.mod_lt _ (by positivity)
    calc _ < 2 ^ lo * (b % 2 ^ m + 1) := by rw [Nat.mul_add]; omega
      _ ≤ 2 ^ (hi + 1) := hpow ▸ Nat.mul_le_mul_left _ this
  have split : w.toNat = 2 ^ (hi + 1) * (w.toNat / 2 ^ (hi + 1)) + (2 ^ lo * (w.toNat / 2 ^ lo % 2 ^ m) + w.toNat % 2 ^ lo) := by
    conv_lhs => rw [← Nat.div_add_mod w.toNat (2 ^ lo), ← Nat.div_add_mod (w.toNat / 2 ^ lo) (2 ^ m)]
    rw [hpow, Nat.div_div_eq_div_mul]; ring
  have replaced : (fset w hi lo v).toNat =
      2 ^ (hi + 1) * (w.toNat / 2 ^ (hi + 1)) + (2 ^ lo * (v % 2 ^ m) + w.toNat % 2 ^ lo) := by
    rw [fset_toNat w hi lo v h hl, ← hm, Nat.mul_comm (_ % _) (2 ^ lo), Nat.mul_comm (v % _) (2 ^ lo)]
    omega
  rw [BitVec.getLsbD, BitVec.getLsbD, replaced, Nat.testBit_two_pow_mul_add _ (field v), Nat.testBit_two_pow_mul_add _ hr,
    Nat.testBit_mod_two_pow, Nat.testBit_mod_two_pow, Nat.testBit_div_two_pow]
  by_cases h₁ : k < lo
  · rw [if_pos (by omega), if_pos h₁, if_neg (by omega), decide_eq_true h₁, Bool.true_and]
  · by_cases h₂ : k ≤ hi
    · rw [if_pos (by omega), if_neg h₁, if_pos ⟨by omega, h₂⟩, decide_eq_true (by omega), Bool.true_and]
    · rw [if_neg (by omega), if_neg (by omega), Nat.sub_add_cancel (by omega)]

theorem esize_cases (ew : BitVec 2) : esize ew = 1 ∨ esize ew = 2 ∨ esize ew = 4 ∨ esize ew = 8 := by
  revert ew; decide

theorem esize_pos (ew : BitVec 2) : 0 < esize ew := Nat.two_pow_pos _

/-- An element below the capacity lies within the register. -/
theorem elem_within {ew : BitVec 2} {k : Nat} (h : k < 256 / esize ew) : esize ew * (k + 1) ≤ 256 :=
  (Nat.mul_le_mul_left _ h).trans (Nat.mul_div_le 256 (esize ew))

theorem velem_lt (v : VReg) (ew : BitVec 2) (k : Nat) : velem v ew k < 2 ^ (8 * esize ew) := Nat.mod_lt _ (Nat.two_pow_pos _)

theorem testBit_velem (v : VReg) (ew : BitVec 2) (k j : Nat) :
    (velem v ew k).testBit j = (decide (j < 8 * esize ew) && v.getLsbD (8 * esize ew * k + j)) := by
  rw [velem, Nat.testBit_mod_two_pow, Nat.testBit_div_two_pow, BitVec.getLsbD, Nat.add_comm]

/-- An element that was replaced, and the others. -/
theorem velem_vput {v : VReg} {ew : BitVec 2} {i k : Nat} (x : Nat) (hi : i < 256 / esize ew) :
    velem (vput v ew i x) ew k = if k = i then x % 2 ^ (8 * esize ew) else velem v ew k := by
  have hw : 8 * esize ew * (i + 1) ≤ 2048 := by have := elem_within hi; rw [Nat.mul_assoc]; omega
  have hpos := esize_pos ew
  have hnext : 8 * esize ew * (i + 1) = 8 * esize ew * i + 8 * esize ew := Nat.mul_succ _ _
  refine Nat.eq_of_testBit_eq fun j => ?_
  rw [testBit_velem, vput, getLsbD_fset _ _ _ _ _ (by omega) (by omega)]
  by_cases hj : j < 8 * esize ew
  swap
  · rw [decide_eq_false hj, Bool.false_and]
    split
    · rw [Nat.testBit_mod_two_pow, decide_eq_false hj, Bool.false_and]
    · rw [testBit_velem, decide_eq_false hj, Bool.false_and]
  rcases Nat.lt_trichotomy k i with h | rfl | h
  · have := Nat.mul_le_mul_left (8 * esize ew) h
    rw [if_neg (by rw [Nat.mul_succ] at this; omega), if_neg (by omega), testBit_velem]
  · rw [if_pos (by omega), if_pos rfl, Nat.testBit_mod_two_pow, Nat.add_sub_cancel_left]
  · have := Nat.mul_le_mul_left (8 * esize ew) h
    rw [if_neg (by rw [Nat.mul_succ] at this; omega), if_neg (by omega), testBit_velem]

/-- The elements of `vmap`: the listed ones take their function, the others are those of `old`. -/
theorem velem_vmap {ew : BitVec 2} (f : Nat → Nat) (k : Nat) : ∀ (act : List Nat) (old : VReg), (∀ a ∈ act, a < 256 / esize ew) →
    velem (vmap old ew act f) ew k = if k ∈ act then f k % 2 ^ (8 * esize ew) else velem old ew k := by
  intro act
  induction act with
  | nil => intro old _; simp [vmap]
  | cons a act ih =>
    intro old h
    obtain ⟨ha, hact⟩ := List.forall_mem_cons.mp h
    rw [vmap, List.foldl_cons, ← vmap, ih _ hact, velem_vput _ ha]
    by_cases hk : k ∈ act
    · simp [hk]
    · by_cases hka : k = a <;> simp [hk, hka]

/-! ### The active elements (R41, R77) -/

/-- An active element lies below VL. -/
theorem vactive_lt {t : Seat} {p : Nat} {ew : BitVec 2} {k : Nat} (h : vactive t p ew k = true) : k < t.vl := by
  simp only [vactive, Bool.and_eq_true, decide_eq_true_eq] at h; exact h.1

/-- The active elements are those of the capacity that are active. -/
theorem vactives_eq (t : Seat) (p : Nat) (ew : BitVec 2) : vactives t p ew = (List.range (256 / esize ew)).filter (vactive t p ew) := by
  obtain ⟨d, hd⟩ := Nat.exists_eq_add_of_le (Nat.min_le_right t.vl (vcap ew))
  have hover : ((List.range d).map (min t.vl (vcap ew) + ·)).filter (vactive t p ew) = [] := by
    simp only [List.filter_eq_nil_iff, List.mem_map, List.mem_range]
    rintro _ ⟨k, hk, rfl⟩ h
    have := vactive_lt h
    omega
  change _ = (List.range (vcap ew)).filter (vactive t p ew)
  rw [vactives, hd, List.range_add, List.filter_append, ← hd, hover, List.append_nil]

theorem mem_vactives {t : Seat} {p : Nat} {ew : BitVec 2} {k : Nat} :
    k ∈ vactives t p ew ↔ k < 256 / esize ew ∧ vactive t p ew k = true := by
  rw [vactives_eq, List.mem_filter, List.mem_range]

theorem vactives_lt {t : Seat} {p : Nat} {ew : BitVec 2} : ∀ k ∈ vactives t p ew, k < 256 / esize ew := fun _ h => (mem_vactives.mp h).1

theorem vactives_eq_nil {t : Seat} {p : Nat} {ew : BitVec 2} :
    vactives t p ew = [] ↔ ∀ k < 256 / esize ew, vactive t p ew k = false := by
  simp [vactives_eq, List.filter_eq_nil_iff]

theorem vactives_ne_nil {t : Seat} {p : Nat} {ew : BitVec 2} (h : ∃ k < 256 / esize ew, vactive t p ew k = true) :
    vactives t p ew ≠ [] := fun e => by
  obtain ⟨k, hk, hsome⟩ := h
  simp [vactives_eq_nil.mp e k hk] at hsome

/-! ### A vector instruction that issues (R39, R41, R66) -/

theorem isPlant_engine {i : Nat} (h : i ≠ plantSeat) : isPlant i = false := beq_eq_false_iff_ne.mpr h

theorem zvOnly_engine {s : State} {i : Nat} (h : i ≠ plantSeat) (w : W64) (b : State → State) : zvOnly s i w b = b s := by
  rw [zvOnly, isPlant_engine h]; rfl

/-- A vector instruction changes its seat by `f` of the active elements, and with none only pc. -/
theorem vecIssue_ready {s : State} {i n : Nat} {ew : BitVec 2} (w : W64) (p : Nat) (f : Seat → List Nat → Seat) (hs : Ready s i n)
    (hi : i ≠ plantSeat) (hvl : ((issued s i n).seat i).vl ≤ 256 / esize ew) :
    let x := (issued s i n).seat i
    vecIssue i n w p ew f s =
      (issued s i n).setSeat i ((if vactives x p ew = [] then x else f x (vactives x p ew)).advance n) := by
  intro x
  rw [vecIssue, issue_ready hs]
  dsimp only
  rw [zvOnly_engine hi, if_neg (show ¬ _ > vcap ew from Nat.not_lt.mpr hvl)]
  change (match vactives x p ew with | [] => _ | act => _) = _
  split
  next h => rw [if_pos h]; rfl
  next h => rw [if_neg h]; rfl

/-- An instruction that gives the active elements their function `g` does what R89 says. -/
theorem vecRuns_of {c : Instr} {i n vd p : Nat} {ew : BitVec 2} {w : W64} {f : Seat → List Nat → Seat} {g : Seat → Nat → Nat}
    (hrun : ∀ s, exec c s = .next (vecIssue i n w p ew f s))
    (hf : ∀ x : Seat, ∃ v, f x (vactives x p ew) = x.setV vd v ∧
      ∀ k < 256 / esize ew, velem v ew k = if vactive x p ew k then g x k else velem (x.vx vd) ew k) :
    Claims.VecRuns c i n vd p ew g := by
  intro s hs hi x hvl
  refine ⟨_, hrun s, ?_⟩
  rw [vecIssue_ready w p f hs hi hvl]
  have hbecomes := fun y => seatBecomes_setSeat (issued s i n) i y
  refine ⟨fun hnone => ?_, fun hsome => ?_⟩
  · rw [if_pos (vactives_eq_nil.mpr hnone)]; exact hbecomes _
  · obtain ⟨v, hv, helems⟩ := hf x
    rw [if_neg (vactives_ne_nil hsome), hv]
    exact ⟨v, hbecomes _, helems⟩

/-- An instruction that writes `vmap` of VD gives each active element its function, cut to the width. -/
theorem vecRuns_vmap {c : Instr} {i n vd p : Nat} {ew : BitVec 2} {w : W64} {h g : Seat → Nat → Nat}
    (hrun : ∀ s, exec c s = .next (vecIssue i n w p ew (fun t act => t.setV vd (vmap (t.vx vd) ew act (h t))) s))
    (hg : ∀ x k, h x k % 2 ^ (8 * esize ew) = g x k) : Claims.VecRuns c i n vd p ew g := by
  refine vecRuns_of hrun fun x => ⟨_, rfl, fun k hk => ?_⟩
  rw [velem_vmap _ _ _ _ vactives_lt, hg]
  simp only [mem_vactives, hk, true_and]

/-! ### What the functions of R90 and R93 compute -/

theorem uint_mod (w : Nat) (z : Int) : uint w z % 2 ^ w = (z % 2 ^ w).toNat := by
  have h := Int.emod_lt_of_pos z (b := 2 ^ w) (by positivity)
  have h' := Int.emod_nonneg z (b := 2 ^ w) (by positivity)
  have hz : uint w z = (z % 2 ^ w).toNat := by rw [uint]; push_cast; rfl
  rw [hz, Nat.mod_eq_of_lt]
  zify; rwa [Int.toNat_of_nonneg h']

theorem clampInt_eq {lo hi : Int} (h : lo ≤ hi) (v : Int) : clampInt lo hi v = max lo (min hi v) := by
  unfold clampInt; split_ifs <;> omega

theorem clampInt_signed {w : Nat} (v : Int) : clampInt (loS w) (hiS w) v = max (-2 ^ (w - 1)) (min (2 ^ (w - 1) - 1) v) := by
  have h : (1 : Int) ≤ 2 ^ (w - 1) := one_le_pow₀ (by decide)
  have hlo : loS w = -2 ^ (w - 1) := by rw [loS]; push_cast; rfl
  have hhi : hiS w = 2 ^ (w - 1) - 1 := by rw [hiS]; push_cast; rfl
  rw [hlo, hhi, clampInt_eq (by omega)]

/-- VMULSR.L's function: the exact product, rounded half up, shifted, and saturated or wrapped (R93). -/
theorem mulsr_mod (w sh : Nat) (uns sat : Bool) (a b : Nat) : mulsr w sh uns sat a b % 2 ^ w =
    (let ext (n : Nat) : Int := if uns then n else sint w n
     let prod := ext a * ext b
     let prod := (if 0 < sh then prod + 2 ^ (sh - 1) else prod) / 2 ^ sh
     let lo : Int := if uns then 0 else -2 ^ (w - 1)
     let hi : Int := if uns then 2 ^ w - 1 else 2 ^ (w - 1) - 1
     ((if sat then max lo (min hi prod) else prod) % 2 ^ w).toNat) := by
  have h : (1 : Int) ≤ 2 ^ w := one_le_pow₀ (by decide)
  have round : ∀ z : Int, (if sh = 0 then z else z + 2 ^ (sh - 1)) = if 0 < sh then z + 2 ^ (sh - 1) else z := by
    intro z
    rcases Nat.eq_zero_or_pos sh with h0 | h0
    · rw [if_pos h0, if_neg (by omega)]
    · rw [if_neg (by omega), if_pos h0]
  rw [mulsr]
  dsimp only
  rw [uint_mod, round]
  cases uns <;> cases sat <;> simp [clampInt_signed, clampInt_eq (show (0 : Int) ≤ 2 ^ w - 1 by omega)]

end Sys2Proof.Machine

namespace Sys2Proof.Claims
open Sys2Proof.Machine

/-- The instruction of `e` is `vop` of a function that, cut to the width, is that of `e`. -/
def VopRow (e : (Nat → Nat → Nat → VSrc → Nat → BitVec 2 → Instr) × (Nat → Nat → Nat → Nat)) : Prop :=
  ∃ fn op, (∀ i vd va vb p ew s, exec (e.1 i vd va vb p ew) s = .next (vop fn op i vd va vb p ew s)) ∧
    ∀ w a b, a < 2 ^ w → b < 2 ^ w → op w a b % 2 ^ w = e.2 w a b

theorem vopTable_rows : ∀ e ∈ vopTable, VopRow e := by
  simp only [vopTable, List.forall_mem_cons, List.not_mem_nil, false_imp_iff, implies_true, and_true]
  refine ⟨?add, ?sub, ?mul, ?mulh, ?mulhu, ?and, ?or, ?xor, ?sll, ?srl, ?sra, ?min, ?max, ?minu, ?maxu, ?addss, ?addsu, ?subss,
    ?subsu, ?avgu, ?absdu⟩ <;> refine ⟨_, _, fun _ _ _ _ _ _ _ => rfl, fun w a b ha hb => ?_⟩ <;> dsimp only
  case sub => rw [Nat.add_sub_assoc hb.le]
  case mulh | sra => exact uint_mod w _
  case mulhu => exact Nat.mod_eq_of_lt (Nat.div_lt_of_lt_mul (Nat.mul_lt_mul'' ha hb))
  case and => exact Nat.mod_eq_of_lt (Nat.and_lt_two_pow a hb)
  case or => exact Nat.mod_eq_of_lt (Nat.or_lt_two_pow ha hb)
  case xor => exact Nat.mod_eq_of_lt (Nat.xor_lt_two_pow ha hb)
  case srl => exact Nat.mod_eq_of_lt ((Nat.div_le_self _ _).trans_lt ha)
  case min | max => split <;> exact Nat.mod_eq_of_lt ‹_›
  case addss | subss => rw [uint_mod, clampInt_signed]
  case minu | maxu | addsu | subsu | avgu | absdu => exact Nat.mod_eq_of_lt (by omega)

theorem vsrc_lt (x : Seat) (ew : BitVec 2) (vb : VSrc) (k : Nat) : vsrc x ew vb k < 2 ^ (8 * esize ew) := by
  cases vb with
  | v n => exact velem_lt _ ew k
  | s n => exact Nat.mod_lt _ (Nat.two_pow_pos _)

/-- VMULSR.L with SH of the element width or more is unassigned, on every seat (R93). -/
theorem vmulsrL_unassigned (i vd va vb p : Nat) (ew : BitVec 2) (sh : BitVec 6) (uns sat : Bool) (s : State) (hs : Ready s i 8)
    (hsh : 8 * esize ew ≤ sh.toNat) : Completes (.vmulsrL i vd va vb p ew sh uns sat) s (fun t => t = trap (issued s i 8) i 0x00
      (wordL 0x08 (vd * 2 ^ 15 + va * 2 ^ 10 + vb * 2 ^ 5 + p * 4 + ew.toNat))) := by
  refine ⟨_, rfl, ?_⟩
  by_cases hi : isPlant i = true
  · rw [if_pos (by rw [hi]; rfl), vecIssue, issue_ready hs]
    dsimp only
    rw [zvOnly, if_pos hi]
  · rw [if_neg (by simp [hi, Nat.not_lt.mpr hsh]), issue_ready hs]

/-- Settles O12: each instruction writes `vmap` of VD, of a function that is the table's when cut to the width. -/
theorem vectorOperationsActOnActiveElements : Obligations.VectorOperationsActOnActiveElements := by
  refine ⟨fun e he i vd va p vb ew => ?vop, fun i vd va vb p ew sh uns sat hsh => ?mulsr, vmulsrL_unassigned⟩
  case vop =>
    obtain ⟨fn, op, hrun, hop⟩ := vopTable_rows e he
    refine vecRuns_vmap (fun s => hrun i vd va vb p ew s) fun x k => ?_
    rw [hop _ _ _ (velem_lt _ ew k) (vsrc_lt x ew vb k)]
    cases vb <;> rfl
  case mulsr =>
    refine vecRuns_vmap (h := fun t k => mulsr (8 * esize ew) sh.toNat uns sat (velem (t.vx va) ew k) (velem (t.vx vb) ew k))
      (w := wordL 0x08 (vd * 2 ^ 15 + va * 2 ^ 10 + vb * 2 ^ 5 + p * 4 + ew.toNat)) (fun s => ?_) fun x k => mulsr_mod _ _ _ _ _ _
    exact congrArg Host.Outcome.next (if_pos (by rw [decide_eq_true hsh, Bool.or_true]))

/-! ### Comparisons (R91) -/

/-- The predicate bits of one element, and the others. -/
theorem getLsbD_pfill {q : PReg} {lo n : Nat} (b : Bool) (k : Nat) (hn : 0 < n) (h : lo + n ≤ 256) :
    (pfill q lo n b).getLsbD k = if lo ≤ k ∧ k < lo + n then b else q.getLsbD k := by
  rw [pfill, getLsbD_fset _ _ _ _ _ (by omega) (by omega)]
  have hrange : lo ≤ k ∧ k ≤ lo + n - 1 ↔ lo ≤ k ∧ k < lo + n := by omega
  rw [if_congr hrange rfl rfl]
  split
  next hk =>
    cases b
    · simp
    · rw [if_pos rfl, Nat.testBit_two_pow_sub_one, decide_eq_true (by omega)]
  next => rfl

/-- The predicate a comparison writes: the E bits of each listed element take its result, the others are those of `q`. -/
theorem getLsbD_pfills {ew : BitVec 2} (f : Nat → Bool) (b : Nat) : ∀ (act : List Nat) (q : PReg), (∀ a ∈ act, a < 256 / esize ew) →
    (act.foldl (fun q k => pfill q (k * esize ew) (esize ew) (f k)) q).getLsbD b =
      if b / esize ew ∈ act then f (b / esize ew) else q.getLsbD b := by
  intro act
  induction act with
  | nil => intro q _; simp
  | cons a act ih =>
    intro q h
    obtain ⟨ha, hact⟩ := List.forall_mem_cons.mp h
    have hbits : a * esize ew ≤ b ∧ b < a * esize ew + esize ew ↔ b / esize ew = a := by
      have := esize_pos ew
      rw [Nat.div_eq_iff this]; omega
    rw [List.foldl_cons, ih _ hact, getLsbD_pfill _ _ (esize_pos ew) (by have := elem_within ha; rw [Nat.mul_succ, Nat.mul_comm] at this; exact this),
      if_congr hbits rfl rfl]
    by_cases hb : b / esize ew ∈ act
    · simp [hb]
    · by_cases hba : b / esize ew = a <;> simp [hb, hba]

/-- The instruction of `e` is `vcmp` of the comparison of `e`. -/
def VcmpRow (e : (Nat → Nat → Nat → Nat → Nat → BitVec 2 → Instr) × (Nat → Nat → Nat → Bool)) : Prop :=
  ∃ fn op, (∀ i pd va vb p ew s, exec (e.1 i pd va vb p ew) s = .next (vcmp fn op i pd va vb p ew s)) ∧ ∀ w a b, op w a b = e.2 w a b

theorem vcmpTable_rows : ∀ e ∈ vcmpTable, VcmpRow e := by
  simp only [vcmpTable, List.forall_mem_cons, List.not_mem_nil, false_imp_iff, implies_true, and_true]
  refine ⟨?eq, ?ne, ?lt, ?ge, ?ltu, ?geu⟩ <;> refine ⟨_, _, fun _ _ _ _ _ _ _ => rfl, fun w a b => ?_⟩
  case eq => exact beq_eq_decide a b
  case ne => exact Bool.eq_iff_iff.mpr (by simp)
  case lt | ge | ltu | geu => rfl

/-- A predicate bit belongs to an element of the capacity. -/
theorem bit_elem_lt {ew : BitVec 2} {b : Nat} (h : b < 256) : b / esize ew < 256 / esize ew := by
  rw [Nat.div_lt_iff_lt_mul (esize_pos ew)]
  rcases esize_cases ew with e | e | e | e <;> rw [e] <;> omega

/-- Settles O13: a comparison fills the bits of each active element of pd with its result. -/
theorem vectorComparesWriteElementPredicates : Obligations.VectorComparesWriteElementPredicates := by
  intro e he i pd va vb p ew s hs hi x hvl hact
  obtain ⟨fn, op, hrun, hop⟩ := vcmpTable_rows e he
  refine ⟨_, hrun i pd va vb p ew s, ?_⟩
  rw [vcmp, vecIssue_ready _ _ _ hs hi hvl, if_neg (vactives_ne_nil hact)]
  refine ⟨_, seatBecomes_setSeat _ i _, fun b hb => ?_⟩
  rw [getLsbD_pfills _ _ _ _ vactives_lt, hop]
  simp only [mem_vactives, bit_elem_lt hb, true_and, x]

/-! ### Moves (R92) -/

theorem velem_mod (v : VReg) (ew : BitVec 2) (k : Nat) : velem v ew k % 2 ^ (8 * esize ew) = velem v ew k :=
  Nat.mod_eq_of_lt (velem_lt v ew k)

theorem velem_or_zero_mod (c : Prop) [Decidable c] (v : VReg) (ew : BitVec 2) (k : Nat) :
    (if c then velem v ew k else 0) % 2 ^ (8 * esize ew) = if c then velem v ew k else 0 := by
  split
  · exact velem_mod v ew k
  · exact Nat.zero_mod _

theorem vslideup_runs (i vd va b p : Nat) (ew : BitVec 2) : VecRuns (.vslideup i vd va b p ew) i 4 vd p ew (fun x k =>
    if (x.sx b).toNat ≤ k then velem (x.vx va) ew (k - (x.sx b).toNat) else velem (x.vx vd) ew k) := by
  refine vecRuns_of (f := fun t act => t.setV vd (vmap (t.vx vd) ew (act.filter (fun k => decide ((t.sx b).toNat ≤ k)))
    (fun k => velem (t.vx va) ew (k - (t.sx b).toNat)))) (fun _ => rfl) fun x => ⟨_, rfl, fun k hk => ?_⟩
  rw [velem_vmap _ _ _ _ fun a ha => vactives_lt a (List.mem_of_mem_filter ha), velem_mod]
  simp only [List.mem_filter, mem_vactives, hk, true_and, decide_eq_true_eq, ite_and]

theorem vmoveTable_runs : ∀ e ∈ vmoveTable, ∀ (i vd va b p : Nat) (ew : BitVec 2),
    VecRuns (e.1 i vd va b p ew) i 4 vd p ew (fun x k => e.2 x vd va b ew k) := by
  simp only [vmoveTable, List.forall_mem_cons, List.not_mem_nil, false_imp_iff, implies_true, and_true]
  refine ⟨vslideup_runs, fun i vd va b p ew => ?slidedn, fun i vd va b p ew => ?perm⟩
  case slidedn =>
    exact vecRuns_vmap (h := fun t k => if k + (t.sx b).toNat < t.vl then velem (t.vx va) ew (k + (t.sx b).toNat) else 0)
      (fun _ => rfl) fun x k => velem_or_zero_mod _ _ _ _
  case perm =>
    exact vecRuns_vmap (h := fun t k => if velem (t.vx b) ew k < t.vl then velem (t.vx va) ew (velem (t.vx b) ew k) else 0)
      (fun _ => rfl) fun x k => velem_or_zero_mod _ _ _ _

/-- With VL above 0 and no predicate, element 0 is active. -/
theorem vactives_unmasked {t : Seat} {ew : BitVec 2} (h : 0 < t.vl) : vactives t 0 ew ≠ [] := by
  refine vactives_ne_nil ⟨0, ?_, by simp [vactive, h]⟩
  rcases esize_cases ew with e | e | e | e <;> rw [e] <;> decide

theorem vext_completes (i d a b p : Nat) (ew : BitVec 2) (s : State) (hs : Ready s i 4) (hi : i ≠ plantSeat) :
    let x := (issued s i 4).seat i
    0 < x.vl → x.vl ≤ 256 / esize ew → Completes (.vext i d a b p ew) s (fun t => SeatBecomes (issued s i 4) t i
      ((x.setX d (if (x.sx b).toNat < x.vl then BitVec.ofNat 64 (velem (x.vx a) ew (x.sx b).toNat) else 0)).advance 4)) := by
  intro x hpos hvl
  refine ⟨_, rfl, ?_⟩
  rw [vecIssue_ready _ _ _ hs hi hvl, if_neg (vactives_unmasked hpos)]
  exact seatBecomes_setSeat _ i _

theorem vins_completes (i d a b p : Nat) (ew : BitVec 2) (s : State) (hs : Ready s i 4) (hi : i ≠ plantSeat) :
    let x := (issued s i 4).seat i
    0 < x.vl → x.vl ≤ 256 / esize ew → Completes (.vins i d a b p ew) s (fun t =>
      (x.vl ≤ (x.sx b).toNat → SeatBecomes (issued s i 4) t i (x.advance 4)) ∧
      ((x.sx b).toNat < x.vl → ∃ v, SeatBecomes (issued s i 4) t i ((x.setV d v).advance 4) ∧ ∀ k < 256 / esize ew,
        velem v ew k = if k = (x.sx b).toNat then (x.sx a).toNat % 2 ^ (8 * esize ew) else velem (x.vx d) ew k)) := by
  intro x hpos hvl
  refine ⟨_, rfl, ?_⟩
  rw [vecIssue_ready _ _ _ hs hi hvl, if_neg (vactives_unmasked hpos)]
  refine ⟨fun hge => ?_, fun hlt => ?_⟩
  · rw [if_neg (Nat.not_lt.mpr hge)]; exact seatBecomes_setSeat _ i _
  · rw [if_pos hlt]
    exact ⟨_, seatBecomes_setSeat _ i _, fun k _ => velem_vput _ (hlt.trans_le hvl)⟩

/-! ### Reductions (R92) -/

/-- The best of a list: a member that is at least as good as every other. -/
theorem best_spec {α : Type} {lt : α → α → Bool} {le : α → α → Prop} (hrefl : ∀ a, le a a) (htrans : ∀ {a b c}, le a b → le b c → le a c)
    (hlt : ∀ {a b}, lt a b = true → le a b) (hge : ∀ {a b}, lt a b = false → le b a) (d : α) {l : List α} (hl : l ≠ []) :
    best lt d l ∈ l ∧ ∀ y ∈ l, le (best lt d l) y := by
  have run : ∀ (xs : List α) (x : α), xs.foldl (fun m y => if lt y m then y else m) x ∈ x :: xs ∧
      ∀ y ∈ x :: xs, le (xs.foldl (fun m y => if lt y m then y else m) x) y := by
    intro xs
    induction xs with
    | nil => intro x; simpa using hrefl x
    | cons z xs ih =>
      intro x
      rw [List.foldl_cons]
      cases h : lt z x with
      | true =>
        obtain ⟨hmem, hall⟩ := ih z
        exact ⟨List.mem_cons_of_mem _ hmem, List.forall_mem_cons.mpr ⟨htrans (hall z List.mem_cons_self) (hlt h), hall⟩⟩
      | false =>
        obtain ⟨hmem, hall⟩ := ih x
        obtain ⟨hx, hxs⟩ := List.forall_mem_cons.mp hall
        refine ⟨?_, List.forall_mem_cons.mpr ⟨hx, List.forall_mem_cons.mpr ⟨htrans hx (hge h), hxs⟩⟩⟩
        rcases List.mem_cons.mp hmem with e | e
        · exact List.mem_cons.mpr (.inl e)
        · exact List.mem_cons_of_mem _ (List.mem_cons_of_mem _ e)
  cases l with
  | nil => exact absurd rfl hl
  | cons x xs => exact run xs x

theorem best_least {α : Type} [LinearOrder α] (d : α) {l : List α} (h : l ≠ []) :
    best (fun a b => decide (a < b)) d l ∈ l ∧ ∀ y ∈ l, best (fun a b => decide (a < b)) d l ≤ y :=
  best_spec le_refl le_trans (fun h => (of_decide_eq_true h).le) (fun h => not_lt.mp (of_decide_eq_false h)) d h

theorem best_greatest {α : Type} [LinearOrder α] (d : α) {l : List α} (h : l ≠ []) :
    best (fun a b => decide (b < a)) d l ∈ l ∧ ∀ y ∈ l, y ≤ best (fun a b => decide (b < a)) d l :=
  best_spec (le := fun a b => b ≤ a) le_refl (fun h k => k.trans h) (fun h => (of_decide_eq_true h).le)
    (fun h => not_lt.mp (of_decide_eq_false h)) d h

theorem vsigned_eq (t : Seat) (va : Nat) (ew : BitVec 2) (act : List Nat) :
    vsigned t va ew act = (act.map (velem (t.vx va) ew)).map (sint (8 * esize ew)) := by
  rw [List.map_map]; rfl

/-- The instruction of `e` gives SD a value `r` of the active elements, and it is what `e` says. -/
def VredRow (e : (Nat → Nat → Nat → Nat → BitVec 2 → Instr) × (Nat → List Nat → Int → Prop)) : Prop :=
  ∃ (fn : Nat) (r : Seat → Nat → BitVec 2 → List Nat → W64),
    (∀ i sd va p ew s, exec (e.1 i sd va p ew) s =
      .next (vecIssue i 4 (wordV 0x23 sd va 0 p ew.toNat fn) p ew (fun t act => t.setX sd (r t va ew act)) s)) ∧
    ∀ t va ew act, act ≠ [] → ∃ v, r t va ew act = BitVec.ofInt 64 v ∧ e.2 (8 * esize ew) (act.map (velem (t.vx va) ew)) v

theorem vredTable_rows : ∀ e ∈ vredTable, VredRow e := by
  simp only [vredTable, List.forall_mem_cons, List.not_mem_nil, false_imp_iff, implies_true, and_true]
  refine ⟨?sum, ?sumu, ?min, ?max, ?minu, ?maxu⟩ <;>
    refine ⟨_, fun _ _ _ _ => _, fun _ _ _ _ _ _ => rfl, fun t va ew act hact => ?_⟩
  case sum => exact ⟨_, rfl, by rw [vsigned_eq]; exact List.sum_eq_foldl.symm⟩
  case sumu => exact ⟨_, (BitVec.ofInt_natCast 64 _).symm, congrArg Nat.cast List.sum_eq_foldl.symm⟩
  case min => exact ⟨_, rfl, by rw [vsigned_eq]; exact best_least 0 (by simpa using hact)⟩
  case max => exact ⟨_, rfl, by rw [vsigned_eq]; exact best_greatest 0 (by simpa using hact)⟩
  case minu =>
    obtain ⟨hmem, hall⟩ := best_least 0 (l := vunsigned t va ew act) (by simpa [vunsigned] using hact)
    exact ⟨_, (BitVec.ofInt_natCast 64 _).symm, _, hmem, rfl, hall⟩
  case maxu =>
    obtain ⟨hmem, hall⟩ := best_greatest 0 (l := vunsigned t va ew act) (by simpa [vunsigned] using hact)
    exact ⟨_, (BitVec.ofInt_natCast 64 _).symm, _, hmem, rfl, hall⟩

/-- Settles O14: the moves write `vmap` of VD, VEXT and VINS ignore the predicate, and a reduction folds the active elements. -/
theorem vectorMovesAndReductions : Obligations.VectorMovesAndReductions := by
  refine ⟨vmoveTable_runs, fun i vd va p ew => ⟨?mv, ?bcast⟩, ?scalars, ?reductions⟩
  case mv => exact vecRuns_vmap (h := fun t => velem (t.vx va) ew) (fun _ => rfl) fun x k => velem_mod _ _ _
  case bcast => exact vecRuns_vmap (h := fun t _ => (t.sx va).toNat) (fun _ => rfl) fun _ _ => rfl
  case scalars =>
    intro i d a b p ew s hs hi x hpos hvl
    exact ⟨vext_completes i d a b p ew s hs hi hpos hvl, vins_completes i d a b p ew s hs hi hpos hvl⟩
  case reductions =>
    intro e he i sd va p ew s hs hi x act hvl
    obtain ⟨fn, r, hrun, hr⟩ := vredTable_rows e he
    have hact : act = vactives x p ew := (vactives_eq x p ew).symm
    refine ⟨_, hrun i sd va p ew s, ?_⟩
    rw [vecIssue_ready _ _ _ hs hi hvl, hact]
    refine ⟨fun hnone => ?_, fun hsome => ?_⟩
    · rw [if_pos hnone]; exact seatBecomes_setSeat _ i _
    · obtain ⟨v, hv, hspec⟩ := hr x va ew _ hsome
      rw [if_neg hsome, hv]
      exact ⟨v, seatBecomes_setSeat _ i _, hspec⟩

end Sys2Proof.Claims
end

section
/-! PROOFS. Vector loads and stores (R74, R94): the elements in ascending order, what a load gathers and a store scatters, and
the first element that fails. -/

namespace Sys2Proof.Machine

/-! ### The active elements in order -/

theorem vactives_sorted (t : Seat) (p : Nat) (ew : BitVec 2) : (vactives t p ew).Pairwise (· < ·) :=
  List.pairwise_lt_range.filter _

/-- Before an active element stand the active ones below it. -/
theorem vactives_split {t : Seat} {p : Nat} {ew : BitVec 2} {m : Nat} (hm : m < 256 / esize ew) (ha : vactive t p ew m = true) :
    ∃ rest, vactives t p ew = (List.range m).filter (vactive t p ew) ++ m :: rest := by
  obtain ⟨d, hd⟩ := Nat.exists_eq_add_of_lt hm
  rw [vactives_eq, hd, Nat.add_assoc, List.range_add, List.filter_append, List.range_succ_eq_map, List.map_cons,
    List.filter_cons_of_pos (by simpa using ha)]
  exact ⟨_, rfl⟩

/-- A vector memory instruction with an active element acts on the active elements. -/
theorem vmemIssue_ready {s : State} {i : Nat} {ew : BitVec 2} (w : W64) (p : Nat) (f : State → List Nat → State) (hs : Ready s i 4)
    (hi : i ≠ plantSeat) (hvl : ((issued s i 4).seat i).vl ≤ 256 / esize ew)
    (hact : ∃ k < 256 / esize ew, vactive ((issued s i 4).seat i) p ew k = true) :
    vmemIssue i w p ew f s = f (issued s i 4) (vactives ((issued s i 4).seat i) p ew) := by
  rw [vmemIssue, issue_ready hs]
  dsimp only
  rw [zvOnly_engine hi, if_neg (show ¬ _ > vcap ew from Nat.not_lt.mpr hvl)]
  split
  next h => exact absurd h (vactives_ne_nil hact)
  next => rfl

/-! ### Loads -/

/-- The elements of a load are gathered when each passes the checks. -/
theorem vloadGo_ok {s : State} {i w n : Nat} (ew : BitVec 2) {off : Nat → W64} (hn : 0 < n) : ∀ (l : List Nat) (v : VReg) (t : Touch),
    (∀ k ∈ l, AccessOk s i w (off k).toNat n n 1) → ∃ u, vloadGo i w n ew off l s v t =
      .ok (s, vmap v ew l (fun k => leNat (bytesAt s.mem (dBase ((s.seat i).wx w) + (off k).toNat) n)), u) := by
  intro l
  induction l with
  | nil => exact fun v t _ => ⟨t, rfl⟩
  | cons k l ih =>
    intro v t h
    obtain ⟨hk, hl⟩ := List.forall_mem_cons.mp h
    rw [vloadGo, seatRead_ok hk hn]
    exact ih _ _ hl

/-- The first element that a check refuses ends a load, whatever the elements before it gathered. -/
theorem vloadGo_refused {s : State} {i w n m c : Nat} {ew : BitVec 2} {off : Nat → W64} (hn : 0 < n) (rest : List Nat)
    (hc : checkAccess s (s.seat i) (isPlant i) ((s.seat i).wx w) (off m).toNat n n 1 false = some c) :
    ∀ (l : List Nat) (v : VReg) (t : Touch), (∀ k ∈ l, AccessOk s i w (off k).toNat n n 1) →
      vloadGo i w n ew off (l ++ m :: rest) s v t = .error (off m, c) := by
  intro l
  induction l with
  | nil => intro v t _; rw [List.nil_append, vloadGo, seatRead_refused hc]
  | cons k l ih =>
    intro v t h
    obtain ⟨hk, hl⟩ := List.forall_mem_cons.mp h
    rw [List.cons_append, vloadGo, seatRead_ok hk hn]
    exact ih _ _ hl

/-! ### Stores -/

/-- A byte store after the bytes `bs k` were written at `a k`, for each `k` of a list in turn. -/
def scatter (m : SMap Byte) (a : Nat → Nat) (bs : Nat → List Byte) (l : List Nat) : SMap Byte :=
  l.foldl (fun m k => putBytes m (a k) (bs k)) m

theorem bytesAt_congr {m m' : SMap Byte} {n : Nat} : ∀ {a : Nat}, (∀ b, a ≤ b → b < a + n → sget 0 m b = sget 0 m' b) →
    bytesAt m a n = bytesAt m' a n := by
  induction n with
  | zero => intro a _; rfl
  | succ n ih => intro a h; rw [bytesAt, bytesAt, h a (by omega) (by omega), ih fun b _ _ => h b (by omega) (by omega)]

theorem sget_scatter_outside {a : Nat → Nat} {bs : Nat → List Byte} {n b : Nat} (hn : ∀ k, (bs k).length = n) :
    ∀ (l : List Nat) (m : SMap Byte), (∀ k ∈ l, b < a k ∨ a k + n ≤ b) → sget 0 (scatter m a bs l) b = sget 0 m b := by
  intro l
  induction l with
  | nil => intro m _; rfl
  | cons k l ih =>
    intro m h
    obtain ⟨hk, hl⟩ := List.forall_mem_cons.mp h
    rw [scatter, List.foldl_cons, ← scatter, ih _ hl, sget_putBytes_outside _ _ _ _ (by rwa [hn])]

/-- Bytes that no later write overlaps stand. -/
theorem bytesAt_scatter {a : Nat → Nat} {bs : Nat → List Byte} {n k : Nat} (hn : ∀ k, (bs k).length = n) :
    ∀ (l : List Nat) (m : SMap Byte), l.Pairwise (· < ·) → k ∈ l → (∀ j ∈ l, k < j → a k + n ≤ a j ∨ a j + n ≤ a k) →
      bytesAt (scatter m a bs l) (a k) n = bs k := by
  intro l
  induction l with
  | nil => intro m _ hk _; cases hk
  | cons h l ih =>
    intro m hsorted hk hapart
    obtain ⟨hlt, hl⟩ := List.pairwise_cons.mp hsorted
    obtain ⟨-, hrest⟩ := List.forall_mem_cons.mp hapart
    rw [scatter, List.foldl_cons, ← scatter]
    rcases List.mem_cons.mp hk with rfl | hk
    · have keep : ∀ b, a k ≤ b → b < a k + n → sget 0 (scatter (putBytes m (a k) (bs k)) a bs l) b = sget 0 (putBytes m (a k) (bs k)) b :=
        fun b _ _ => sget_scatter_outside hn l _ fun j hj => by have := hrest j hj (hlt j hj); omega
      have hput := bytesAt_putBytes_same (bs k) m (a k)
      rw [hn] at hput
      rw [bytesAt_congr keep, hput]
    · exact ih _ hl hk hrest

/-- The elements of a store are scattered when each passes the checks: no write changes what the checks look at. -/
theorem vstoreGo_ok {i w n : Nat} (ew : BitVec 2) {off : Nat → W64} (v : VReg) (hn : 0 < n) : ∀ (l : List Nat) (s : State) (io : Bool),
    (∀ k ∈ l, WriteOk s i w (off k).toNat n n) → ∃ ps, vstoreGo i w n ew off v l s io = ({ s with
      mem := scatter s.mem (fun k => dBase ((s.seat i).wx w) + (off k).toNat) (fun k => leBytes n (velem v ew k)) l, pages := ps }, io, none) := by
  intro l
  induction l with
  | nil => exact fun s io _ => ⟨s.pages, rfl⟩
  | cons k l ih =>
    intro s io h
    obtain ⟨hk, hl⟩ := List.forall_mem_cons.mp h
    obtain ⟨ps, e⟩ := seatWrite_ok (bs := leBytes n (velem v ew k)) (by rwa [leBytes_length]) (by rwa [leBytes_length])
    rw [vstoreGo, e]
    obtain ⟨qs, e'⟩ := ih { s with mem := putBytes s.mem (dBase ((s.seat i).wx w) + (off k).toNat) (leBytes n (velem v ew k)), pages := ps }
      (io || false) hl
    exact ⟨qs, e'.trans (by rw [Bool.or_false]; rfl)⟩

end Sys2Proof.Machine

namespace Sys2Proof.Claims
open Sys2Proof.Machine

/-- The instructions of `f` are `vload` and `vstore` of the offsets of `f`. -/
def VmemRow (f : (Nat → Nat → Nat → Nat → Nat → Nat → BitVec 2 → Instr) × (Nat → Nat → Nat → Nat → Nat → Nat → BitVec 2 → Instr) ×
    (Seat → Nat → Nat → BitVec 2 → Nat → W64)) : Prop :=
  ∃ (ml ms : Nat) (field : Nat → Nat) (off : Nat → Nat → BitVec 2 → Seat → Nat → W64),
    (∀ i vd w ra b p ew s, exec (f.1 i vd w ra b p ew) s = .next (vload ml i vd w ra (field b) p ew (off ra b ew) s)) ∧
    (∀ i vd w ra b p ew s, exec (f.2.1 i vd w ra b p ew) s = .next (vstore ms i vd w ra (field b) p ew (off ra b ew) s)) ∧
    ∀ x ra b ew k, off ra b ew x k = f.2.2 x ra b ew k

/-- A stride's multiple is the same whether the stride is read signed or not. -/
theorem stride_mul (k : Nat) (b : W64) : BitVec.ofNat 64 k * b = BitVec.ofInt 64 (k * b.toInt) := by
  rw [BitVec.ofInt_mul, BitVec.ofInt_toInt, BitVec.ofInt_natCast]

theorem vmemTable_rows : ∀ f ∈ vmemTable, VmemRow f := by
  simp only [vmemTable, List.forall_mem_cons, List.not_mem_nil, false_imp_iff, implies_true, and_true]
  refine ⟨?unit, ?stride, ?index⟩
  case unit => exact ⟨_, _, fun _ => _, fun _ _ _ => _, fun _ _ _ _ _ _ _ _ => rfl, fun _ _ _ _ _ _ _ _ => rfl, fun _ _ _ _ _ => rfl⟩
  case stride =>
    exact ⟨_, _, fun _ => _, fun _ _ _ => _, fun _ _ _ _ _ _ _ _ => rfl, fun _ _ _ _ _ _ _ _ => rfl,
      fun x ra b ew k => congrArg (x.sx ra + ·) (stride_mul k (x.sx b))⟩
  case index => exact ⟨_, _, fun _ => _, fun _ _ _ => _, fun _ _ _ _ _ _ _ _ => rfl, fun _ _ _ _ _ _ _ _ => rfl, fun _ _ _ _ _ => rfl⟩

/-- Settles O15: a load gathers and a store scatters its active elements in ascending order. -/
theorem vectorMemoryMovesActiveElements : Obligations.VectorMemoryMovesActiveElements := by
  intro f hf i vd w ra b p ew s hs hi x cap off adr hvl hact
  obtain ⟨ml, ms, field, offset, hload, hstore, hoff⟩ := vmemTable_rows f hf
  have hn := esize_pos ew
  have hoffs : ∀ k, (offset ra b ew x k).toNat = off k := fun k => by rw [hoff]
  have hall : ∀ {P : Nat → Prop}, (∀ k < cap, vactive x p ew k = true → P k) → ∀ k ∈ vactives x p ew, P k :=
    fun h k hk => h k (mem_vactives.mp hk).1 (mem_vactives.mp hk).2
  refine ⟨fun hok => ?gather, fun m cause hm ham hbefore hcause => ?refused, fun hok => ?scatter⟩
  case gather =>
    obtain ⟨u, e⟩ := vloadGo_ok (off := offset ra b ew x) ew hn (vactives x p ew) (x.vx vd) ⟨[], []⟩ (by simpa only [hoffs] using hall hok)
    have hrun := hload i vd w ra b p ew s
    rw [vload, vmemIssue_ready _ _ _ hs hi hvl hact] at hrun
    dsimp only at hrun
    rw [e] at hrun
    obtain ⟨g, hg, hresult, hlen, -, -⟩ := await_stall (issued s i 4) i 4 w
      (offset ra b ew x ((vactives x p ew).headD 0)) .load (esize ew) u (.v vd _)
    refine ⟨_, hrun.trans (congrArg _ hg), g, _, seatMoves_stall _ i _, hresult, hlen, fun k hk => ?_⟩
    rw [velem_vmap _ _ _ _ vactives_lt, hoffs, issued_mem]
    simp only [mem_vactives, show k < 256 / esize ew from hk, true_and]
    have hlt := leNat_lt (bytesAt s.mem (adr k) (esize ew))
    rw [bytesAt_length, show (256 : Nat) = 2 ^ 8 from rfl, ← pow_mul] at hlt
    rw [Nat.mod_eq_of_lt hlt]
  case refused =>
    obtain ⟨rest, hsplit⟩ := vactives_split hm ham
    have hrun := hload i vd w ra b p ew s
    rw [vload, vmemIssue_ready _ _ _ hs hi hvl hact] at hrun
    dsimp only at hrun
    rw [hsplit, vloadGo_refused hn rest (by rw [isPlant_engine hi, hoffs]; exact hcause) _ _ _ ?before] at hrun
    case before =>
      intro k hk
      obtain ⟨hkm, hka⟩ := List.mem_filter.mp hk
      rw [hoffs]; exact hbefore k (List.mem_range.mp hkm) hka
    exact ⟨_, hrun, by rw [hoff]⟩
  case scatter =>
    obtain ⟨ps, e⟩ := vstoreGo_ok (off := offset ra b ew x) ew (x.vx vd) hn (vactives x p ew) (issued s i 4) false
      (by simpa only [hoffs] using hall hok)
    have hrun := hstore i vd w ra b p ew s
    rw [vstore, vmemIssue_ready _ _ _ hs hi hvl hact] at hrun
    dsimp only at hrun
    rw [e] at hrun
    simp only [hoffs, issued_mem] at hrun
    have hlen : ∀ k, (leBytes (esize ew) (velem (x.vx vd) ew k)).length = esize ew := fun k => leBytes_length _ _
    refine ⟨_, hrun, rfl, State.seat_modSeat_same _ _ _, fun j hj => ?_, fun k hk hka hapart => ?_, fun a ha => ?_⟩
    · exact (State.seat_modSeat_ne _ hj _).trans (issued_seat_ne s hj 4)
    · exact bytesAt_scatter hlen _ _ (vactives_sorted x p ew) (mem_vactives.mpr ⟨hk, hka⟩) fun j hj hkj =>
        hapart j (mem_vactives.mp hj).1 hkj (mem_vactives.mp hj).2
    · exact sget_scatter_outside hlen _ _ (hall ha)

end Sys2Proof.Claims
end

section
/-! PROOFS. Window operations and granule tags (R55, R57, R59, R98 to R100). -/

namespace Sys2Proof.Machine

/-! ### Descriptors in scalars (R54, R98) -/

/-- Two scalars make a descriptor, the second its high half. -/
theorem desc_of_halves (lo hi : W64) : BitVec.ofNat 128 (lo.toNat + 2 ^ 64 * hi.toNat) = hi ++ lo := by
  refine BitVec.eq_of_toNat_eq ?_
  have hlo := lo.isLt
  have hhi := hi.isLt
  rw [BitVec.toNat_append, Nat.shiftLeft_eq, Nat.mul_comm _ (2 ^ 64), ← Nat.two_pow_add_eq_or_of_lt hlo, BitVec.toNat_ofNat,
    Nat.add_comm, Nat.mod_eq_of_lt (by omega)]

theorem half_of_desc (d : Desc) (lo : Nat) : BitVec.ofNat 64 (fbits d (lo + 63) lo) = d.extractLsb' lo 64 := by
  refine BitVec.eq_of_toNat_eq ?_
  rw [fbits, show lo + 63 + 1 - lo = 64 by omega, BitVec.toNat_ofNat, Nat.mod_mod, BitVec.extractLsb'_toNat, Nat.shiftRight_eq_div_pow]

/-! ### Whose descriptor it is (R57, R98) -/

theorem hmOnly_of_ne {s : State} {i : Nat} (h : (s.seat i).mode ≠ .t) (w : W64) (b : State → State) : hmOnly s i w b = b s :=
  if_neg (by simpa using h)

theorem privileged_mode {x : Seat} {d : Desc} (h : Claims.Privileged x d) : x.mode ≠ .t := by
  rcases h with h | ⟨h, -⟩ <;> rw [h] <;> decide

theorem privileged_own {x : Seat} {d : Desc} (h : Claims.Privileged x d) : ownHdom x d = true := by
  rcases h with h | ⟨h, hd⟩ <;> simp [ownHdom, *]

/-- BASE and KTAG are shown in M, and in H of the domain's own descriptors. -/
theorem wget_shown (t : Seat) (d : Desc) (v : Nat) : (if t.mode == .t || !ownHdom t d then 0 else v) =
    if t.mode = .m ∨ (t.mode = .h ∧ dHdom d = t.hdom) then v else 0 := by
  unfold ownHdom; cases t.mode <;> simp

theorem wgetField_eq (t : Seat) (d : Desc) (f : BitVec 3) : wgetField t d f.toNat =
    (let shown := t.mode = .m ∨ (t.mode = .h ∧ dHdom d = t.hdom)
     if f = 0 then (if shown then dBase d else 0) else if f = 1 then dLen d else if f = 2 then dRights d else if f = 3 then dHdom d
       else if f = 4 then dTid d else if f = 5 then (if shown then (dKtag d).toNat else 0) else if f = 6 then b2n (dLoc d) else b2n (dValid d)) := by
  have hf : f = 0 ∨ f = 1 ∨ f = 2 ∨ f = 3 ∨ f = 4 ∨ f = 5 ∨ f = 6 ∨ f = 7 := by revert f; decide
  dsimp only
  rw [← wget_shown, ← wget_shown]
  rcases hf with rfl | rfl | rfl | rfl | rfl | rfl | rfl | rfl <;> rfl

/-! ### The state as issued -/

theorem issued_domain (s : State) (i n d : Nat) : (issued s i n).domain d = s.domain d := by
  have h : (issued s i n).recovery = s.recovery := by
    rw [State.recovery, State.bit, issued_reg s i n (by decide) (by decide)]; rfl
  rw [State.domain, issued_owner, h]; rfl

end Sys2Proof.Machine

namespace Sys2Proof.Claims
open Sys2Proof.Machine

/-! ### Operations on window registers (R98, R99) -/

theorem wget_runs (i sd wa : Nat) (f : BitVec 3) : RunsTo (.wget i sd wa f) i 4 (fun x =>
    (x.setX sd (BitVec.ofNat 64 (wgetField x (x.wx wa) f.toNat))).advance 4) := runsTo_retire fun _ => rfl

theorem wload_runs (i wd sa sb : Nat) : RunsWhen (fun x => Privileged x (x.sx sb ++ x.sx sa) ∧
      (dValid (x.sx sb ++ x.sx sa) = true → descInRange (isPlant i) (x.sx sb ++ x.sx sa) = true))
    (.wload i wd sa sb) i 4 (fun x => (x.setW wd (x.sx sb ++ x.sx sa)).advance 4) := by
  rintro s hs ⟨hp, hr⟩
  refine ⟨_, rfl, ?_⟩
  rw [issue_ready hs]
  dsimp only
  rw [hmOnly_of_ne (privileged_mode hp), desc_of_halves, if_neg (by simp [privileged_own hp]), if_neg (by simpa using hr)]
  exact seatBecomes_retire _ i 4 _

theorem wrd_runs {c : Instr} {i sd wa fn lo : Nat} (h : ∀ s, exec c s = .next (wrd i sd wa fn lo s)) :
    RunsWhen (fun x => Privileged x (x.wx wa)) c i 4 (fun x => (x.setX sd ((x.wx wa).extractLsb' lo 64)).advance 4) := by
  intro s hs hp
  refine ⟨_, h s, ?_⟩
  rw [wrd, issue_ready hs]
  dsimp only
  rw [hmOnly_of_ne (privileged_mode hp), if_neg (by simp [privileged_own hp])]
  simp only [half_of_desc]
  exact seatBecomes_retire _ i 4 _

/-- CWLOAD of a code window that the profile has, by a seat that may load it. -/
theorem cwload_runs {i : Nat} (wa : Nat) {which : BitVec 2} {h : Seat → Prop} (hsel : which ≠ 3 ∧ (which = 0 → isPlant i = false))
    (hp : ∀ x, h x → x.mode ≠ .t ∧ (x.mode = .h → which ≠ 2 ∧ ownHdom x (x.wx wa) = true)) :
    RunsWhen h (.cwload i wa which) i 4
      (fun x => (x.setCode (if which = 0 then .t else if which = 1 then .h else .m) (x.wx wa)).advance 4) := by
  intro s hs hx
  obtain ⟨hmode, hown⟩ := hp _ hx
  have hhas : (which = 3 || (isPlant i && which == 0)) = false := by
    by_cases h0 : which = 0
    · rw [h0, hsel.2 h0]; rfl
    · simpa using ⟨hsel.1, fun _ => h0⟩
  refine ⟨_, rfl, ?_⟩
  rw [issue_ready hs]
  dsimp only
  rw [if_neg (by rw [hhas]; exact Bool.false_ne_true), hmOnly_of_ne hmode, if_neg (by simpa using hown)]
  exact seatBecomes_retire _ i 4 _

theorem cwload_runs_all (i wa : Nat) :
    RunsWhen (fun x => Privileged x (x.wx wa) ∧ i ≠ plantSeat) (.cwload i wa 0) i 4 (fun x => (x.setCode .t (x.wx wa)).advance 4) ∧
    RunsWhen (fun x => Privileged x (x.wx wa)) (.cwload i wa 1) i 4 (fun x => (x.setCode .h (x.wx wa)).advance 4) ∧
    RunsWhen (fun x => x.mode = .m) (.cwload i wa 2) i 4 (fun x => (x.setCode .m (x.wx wa)).advance 4) := by
  refine ⟨fun s hs hx => ?_, ?_, ?_⟩
  · exact cwload_runs wa (h := fun x => Privileged x (x.wx wa)) ⟨by decide, fun _ => isPlant_engine hx.2⟩
      (fun x h => ⟨privileged_mode h, fun _ => ⟨by decide, privileged_own h⟩⟩) s hs hx.1
  · exact cwload_runs wa ⟨by decide, fun h => absurd h (by decide)⟩ fun x h => ⟨privileged_mode h, fun _ => ⟨by decide, privileged_own h⟩⟩
  · exact cwload_runs wa ⟨by decide, fun h => absurd h (by decide)⟩ fun x h => ⟨by rw [h]; decide, fun h' => by rw [h] at h'; cases h'⟩

/-! ### Descriptors in memory (R98) -/

theorem wldm_waits (i wd wa sb : Nat) (s : State) (hs : Ready s i 4) :
    let x := (issued s i 4).seat i
    let off := (x.sx sb).toNat
    let d : Desc := BitVec.ofNat 128 (leNat (bytesAt s.mem (dBase (x.wx wa) + off) 16))
    AccessOk (issued s i 4) i wa off 16 16 1 → Privileged x d → (dValid d = true → descInRange (isPlant i) d = true) →
      Completes (.wldm i wd wa sb) s (fun t =>
        ∃ f, SeatMoves (issued s i 4) t i { x with st := .wait, wait := .access f } ∧ f.result = .w wd d ∧ f.len = 4) := by
  intro x off d hok hp hr
  have hrun : exec (.wldm i wd wa sb) s = .next _ := rfl
  rw [issue_ready hs] at hrun
  dsimp only at hrun
  rw [hmOnly_of_ne (privileged_mode hp), seatRead_ok hok (by decide), issued_mem] at hrun
  dsimp only at hrun
  rw [if_neg (by simpa using privileged_own hp), if_neg (by simpa using hr)] at hrun
  obtain ⟨f, hf, hresult, hlen, -, -⟩ := await_stall (issued s i 4) i 4 wa (x.sx sb) .load 16
    (touchOf (x.wx wa) (.memory (dBase (x.wx wa) + off)) 16) (.w wd d)
  exact ⟨_, hrun.trans (congrArg _ hf), f, seatMoves_stall _ i _, hresult, hlen⟩

theorem wstm_stores (i wd wa sb : Nat) (s : State) (hs : Ready s i 4) :
    let x := (issued s i 4).seat i
    let off := (x.sx sb).toNat
    WriteOk (issued s i 4) i wa off 16 16 → Privileged x (x.wx wd) → Completes (.wstm i wd wa sb) s (fun t =>
      t = { issued s i 4 with mem := t.mem, pages := t.pages, seats := t.seats } ∧
      bytesAt t.mem (dBase (x.wx wa) + off) 16 = leBytes 16 (x.wx wd).toNat ∧
      (∀ a, a < dBase (x.wx wa) + off ∨ dBase (x.wx wa) + off + 16 ≤ a → t.byteAt a = s.byteAt a) ∧
      t.seat i = { x.advance 4 with outst := x.outst ++ [{ store := true, io := false, tmode := false }] }) := by
  intro x off hok hp
  have hlen := leBytes_length 16 (x.wx wd).toNat
  obtain ⟨ps, e⟩ := seatWrite_ok (bs := leBytes 16 (x.wx wd).toNat) (by rwa [hlen]) (by rw [hlen]; decide)
  have hrun : exec (.wstm i wd wa sb) s = .next _ := rfl
  rw [issue_ready hs] at hrun
  dsimp only at hrun
  rw [hmOnly_of_ne (privileged_mode hp), checkAccess_none hok.1 (by decide)] at hrun
  dsimp only at hrun
  rw [if_neg (by simpa using privileged_own hp), e, issued_mem] at hrun
  have hbytes := bytesAt_putBytes_same (leBytes 16 (x.wx wd).toNat) s.mem (dBase (x.wx wa) + off)
  rw [hlen] at hbytes
  have hmode : (x.mode == .t) = false := beq_eq_false_iff_ne.mpr (privileged_mode hp)
  refine ⟨_, hrun, rfl, hbytes, fun a ha => ?_, ?_⟩
  · exact sget_putBytes_outside _ _ _ _ (by rwa [hlen])
  · rw [← hmode]; exact State.seat_modSeat_same _ _ _

/-! ### Granule tags (R59, R100) -/

theorem ktset_cases (i ra rb : Nat) (s : State) (hs : Ready s i 4) :
    let x := (issued s i 4).seat i
    let g := (x.sx ra).toNat / 2 ^ 21
    (g * 2 ^ 21 < s.memSize → (x.mode = .m ∨ (x.mode = .h ∧ (s.domain x.hdom).holds g = true)) →
      Completes (.ktset i ra rb) s (fun t => SeatMoves (issued s i 4) t i { x with st := .wait, wait := .ktset g ((x.sx rb).setWidth 14) })) ∧
    (x.mode = .h → (s.memSize ≤ g * 2 ^ 21 ∨ (s.domain x.hdom).holds g = false) →
      Completes (.ktset i ra rb) s (fun t => t = trap (issued s i 4) i 0x06 (BitVec.ofNat 64 (g * 2 ^ 21)))) := by
  intro x g
  have hhere : (issued s i 4).inMemory (granule (x.sx ra).toNat * 2 ^ 21) 1 = decide (g * 2 ^ 21 < s.memSize) := by
    rw [State.inMemory, issued_memSize]; rfl
  have htag : BitVec.ofNat 14 (x.sx rb).toNat = (x.sx rb).setWidth 14 := BitVec.eq_of_toNat_eq (by simp)
  refine ⟨fun hin hmode => ⟨_, rfl, ?_⟩, fun hmode hout => ⟨_, rfl, ?_⟩⟩ <;> rw [issue_ready hs] <;> dsimp only
  · have hne : x.mode ≠ .t := by rcases hmode with h | ⟨h, -⟩ <;> rw [h] <;> decide
    have hown : (x.mode == .h && !(decide (g * 2 ^ 21 < s.memSize) && (s.domain x.hdom).holds g)) = false := by
      rcases hmode with h | ⟨h, hg⟩
      · rw [h]; rfl
      · rw [decide_eq_true hin, hg]; exact Bool.and_false _
    rw [hmOnly_of_ne hne, hhere, issued_domain]
    split
    next h => exact absurd (hown.symm.trans h) Bool.false_ne_true
    next =>
      rw [decide_eq_true hin, Bool.not_true, if_neg Bool.false_ne_true, htag]
      exact seatMoves_stall _ i _
  · have hown : (x.mode == .h && !(decide (g * 2 ^ 21 < s.memSize) && (s.domain x.hdom).holds g)) = true := by
      rw [hmode]
      rcases hout with h | h
      · rw [decide_eq_false (Nat.not_lt.mpr h)]; rfl
      · rw [h, Bool.and_false]; rfl
    rw [hmOnly_of_ne (by rw [hmode]; decide), hhere, issued_domain]
    exact if_pos hown

theorem ktsetRetire_retags (i g : Nat) (tag : BitVec 14) (s : State) (hw : (s.seat i).wait = .ktset g tag)
    (hh : sget false s.haltReq i = false) : Completes (.ktsetRetire i) s (fun t => t.tag g = tag ∧ (∀ h, h ≠ g → t.tag h = s.tag h) ∧
      ∃ u, u = s.setTag g tag ∧ SeatMoves u t i { (s.seat i).advance 4 with st := .run, wait := .none }) := by
  have hrun : exec (.ktsetRetire i) s = .next (unstall (s.setTag g tag) i (fun t => t.advance 4)) := by
    change execKtsetRetire i s = _
    simp only [execKtsetRetire, hw]
  have hmoves := seatMoves_unstall (s.setTag g tag) i (fun t => t.advance 4) hh
  have htags : (unstall (s.setTag g tag) i (fun t => t.advance 4)).tags = sset 0 s.tags g tag := by rw [hmoves.1]; rfl
  refine ⟨_, hrun, ?_, fun h hne => ?_, _, rfl, hmoves⟩
  · rw [State.tag, htags, sget_sset_same]
  · rw [State.tag, htags, sget_sset_ne _ _ _ hne]; rfl

/-- Settles O19: each window operation writes its register where `Privileged` holds, and KTSET's retirement sets the tag. -/
theorem windowOperationsMoveDescriptors : Obligations.WindowOperationsMoveDescriptors := by
  refine ⟨⟨fun i wd wa => ⟨runsTo_retire fun _ => rfl, runsTo_retire fun _ => rfl⟩, fun i sd wa f => ?wget, wload_runs,
    fun i sd wa => ⟨wrd_runs fun _ => rfl, wrd_runs fun _ => rfl⟩, cwload_runs_all, fun i wd wa sb s hs => ?memory⟩,
    ktset_cases, ktsetRetire_retags⟩
  case wget =>
    have h := wget_runs i sd wa f
    simp only [wgetField_eq] at h
    exact h
  case memory => exact ⟨wldm_waits i wd wa sb s hs, wstm_stores i wd wa sb s hs⟩

end Sys2Proof.Claims
end

section
/-! PROOFS. Trap entry and the second trap in M: what raising a fault leaves of the seats, and what a trap writes (R69, R70, R72,
R544 to R562). -/

namespace Sys2Proof.Machine

/-! ### Records, snapshots and safe outputs change no seat (R146, R356, R448, R606) -/

/-- No seat differs. -/
def SameSeats (s t : State) : Prop := t.seats = s.seats

theorem SameSeats.refl (s : State) : SameSeats s s := rfl

theorem SameSeats.trans {s t u : State} (h : SameSeats s t) (k : SameSeats t u) : SameSeats s u := Eq.trans k h

theorem SameSeats.setReg {s t : State} (h : SameSeats s t) {a : Nat} {v : W32} : SameSeats s (t.setReg a v) := h

theorem SameSeats.each {α : Type} {s t : State} (h : SameSeats s t) {f : State → α → State} (hf : ∀ s a, SameSeats s (f s a))
    {l : List α} : SameSeats s (t.each l f) := h.trans (each_keeps SameSeats.refl (fun _ _ _ => SameSeats.trans) hf l t)

theorem enqueue_sameSeats (s : State) (k : Nat) (f : Frame) (fwd : Bool) : SameSeats s (enqueue s k f fwd) := by
  unfold enqueue; split_ifs <;> rfl

theorem evtFrame_sameSeats (s : State) (d rtype : Nat) (seq : W32) : SameSeats s (evtFrame s d rtype seq) := by
  unfold evtFrame
  split
  · rfl
  · split
    · exact enqueue_sameSeats _ _ _ _
    · rfl

theorem memWrite_sameSeats {s t : State} {a : Nat} {bs : List Byte} (h : s.memWrite a bs = some t) : SameSeats s t := by
  unfold State.memWrite at h
  split at h
  · obtain ⟨ps, e⟩ := markCells_frame { s with mem := putBytes s.mem a bs } a bs.length
    obtain ⟨qs, f⟩ := encode_frame (spanning 2048 a bs.length) (({ s with mem := putBytes s.mem a bs }).markCells a bs.length)
    rw [f, e] at h; cases h; rfl
  · cases h

theorem notify_sameSeats (s : State) (d rtype : Nat) (body : List Byte) : SameSeats s (notify s d rtype body) := by
  unfold notify
  dsimp only
  have kept : SameSeats s (s.setDom d { s.dom d with seq := nextSeq (s.dom d).seq }) := rfl
  split_ifs
  · exact kept.setReg
  · exact kept.setReg.setReg
  · split
    · next h => exact (kept.trans (memWrite_sameSeats h)).setReg.trans (evtFrame_sameSeats _ d rtype _)
    · exact kept.setReg.setReg
  · exact kept.setReg.setReg

theorem snapEntry_sameSeats (s : State) (isl dst src : Nat) : SameSeats s (snapEntry s isl dst src) := SameSeats.setReg rfl

theorem snapLatch_sameSeats (s : State) : SameSeats s (snapLatch s) :=
  have webs : ∀ (s : State) (w : Nat), SameSeats s (snapEntry (snapEntry s 22 (Reg.SNP_WPOSw_LO w) (Reg.POSn_POS_LO w)) 22
      (Reg.SNP_WPOSw_HI w) (Reg.POSn_POS_HI w)) := fun s _ => (snapEntry_sameSeats s _ _ _).trans (snapEntry_sameSeats _ _ _ _)
  ((((((SameSeats.refl s).setReg.trans (snapEntry_sameSeats _ _ _ _)).each webs).setReg.setReg.setReg.setReg).each
    fun s _ => snapEntry_sameSeats s _ _ _).each fun s _ => snapEntry_sameSeats s _ _ _).setReg.setReg

theorem snapTrigger_sameSeats (s : State) (src : SnapSrc) (t : W64) : SameSeats s (snapTrigger s src t) := by
  unfold snapTrigger
  split_ifs
  · rfl
  · rfl
  · exact ((SameSeats.refl s).setReg.setReg.setReg).trans (snapLatch_sameSeats _)

theorem latchFirst_sameSeats (s : State) (n cls : Nat) : SameSeats s (latchFirst s n cls) := by
  unfold latchFirst
  split
  · exact (SameSeats.refl s).setReg
  · extract_lets r latched isles fences
    have kept : SameSeats s fences := (SameSeats.refl s).setReg.setReg.setReg.setReg.setReg
    exact kept.trans (snapTrigger_sameSeats fences _ _)

theorem safeOutputs_sameSeats (s : State) : SameSeats s (safeOutputs s) := by
  unfold safeOutputs
  dsimp only
  refine SameSeats.each (SameSeats.each (SameSeats.each (SameSeats.refl s).setReg.setReg ?_) ?_) ?_
  · exact fun s _ => (SameSeats.refl s).setReg
  · exact fun s _ => rfl
  · intro s n
    split
    · rfl
    · rfl

/-! ### Raising an event changes no more of a seat than its FAULT_NOTIFY sources (R544 to R562) -/

/-- Every seat is as it was, but for the source numbers FAULT_NOTIFY has queued for it. -/
def SeatsButFaults (s t : State) : Prop := ∀ j, t.seat j = { s.seat j with faultQ := (t.seat j).faultQ }

theorem SameSeats.butFaults {s t : State} (h : SameSeats s t) : SeatsButFaults s t := fun j => by
  rw [show t.seat j = s.seat j by rw [State.seat, State.seat, h]]

theorem SeatsButFaults.refl (s : State) : SeatsButFaults s s := fun _ => rfl

theorem SameSeats.andThen {s t u : State} (h : SameSeats s t) (k : SeatsButFaults t u) : SeatsButFaults s u := fun j => by
  rw [k j, show t.seat j = s.seat j by rw [State.seat, State.seat, h]]

theorem SeatsButFaults.trans {s t u : State} (h : SeatsButFaults s t) (k : SeatsButFaults t u) : SeatsButFaults s u :=
  fun j => by rw [k j, h j]

theorem faultNotifySeat_seats (s : State) (n : Nat) : SeatsButFaults s (faultNotifySeat s n) := by
  intro j
  unfold faultNotifySeat
  dsimp only
  split
  · by_cases hj : j = if fbit (s.reg Reg.FC_NSEAT) 10 then plantSeat else fbits (s.reg Reg.FC_NSEAT) 9 0
    · rw [hj, State.seat_modSeat_same]
    · rw [State.seat_modSeat_ne _ hj]
  · rfl

theorem faultRecord_seats (s : State) (src cls event cause : Nat) : SeatsButFaults s (faultRecord s src cls event cause) := by
  unfold faultRecord
  refine ((SameSeats.refl s).each fun s d => ?_).andThen (faultNotifySeat_seats _ src)
  split
  · exact notify_sameSeats s d _ _
  · rfl

theorem safeOrder_seats (s : State) (c : SafeCause) (src : Nat) : SeatsButFaults s (safeOrder s c src) := by
  unfold safeOrder
  split
  · exact (safeOutputs_sameSeats s).butFaults
  · exact ((SameSeats.refl s).setReg.trans (safeOutputs_sameSeats _)).andThen (faultRecord_seats _ _ _ _ _)

theorem endF_seats (s : State) (n : Nat) : SeatsButFaults s (endF s n) :=
  SameSeats.andThen (t := s.setSource n { s.source n with grace := .done }) rfl (safeOrder_seats _ _ _)

theorem startF_seats (s : State) (n : Nat) (escalated : Bool) : SeatsButFaults s (startF s n escalated) := by
  unfold startF
  extract_lets was t
  have kept : SameSeats s t := rfl
  split
  · exact kept.andThen (endF_seats t n)
  · exact kept.butFaults

theorem escalate_seats (s : State) (n : Nat) : SeatsButFaults s (escalate s n) := by
  have noted (b : Bool) : SameSeats s (if b then s.setBit Reg.FC_FIRST 10 true else s) := by
    split
    · exact (SameSeats.refl s).setReg
    · exact .refl s
  unfold escalate
  split
  · exact .refl s
  · extract_lets t
    exact (show SameSeats s t from noted _).andThen (.trans (faultRecord_seats t n 2 1 0) (startF_seats _ n true))

theorem liveOn_seats (s : State) (n cls : Nat) : SeatsButFaults s (liveOn s n cls) := by
  unfold liveOn
  extract_lets was lit f t src u
  have kept : SameSeats s t := rfl
  split
  · exact kept.butFaults
  · split
    · exact kept.andThen (endF_seats t n)
    · exact kept.butFaults
    · split
      · exact kept.andThen (startF_seats t n false)
      · have kept : SameSeats s u := rfl
        split
        · exact kept.andThen (escalate_seats u n)
        · exact kept.butFaults
    · split
      · exact kept.andThen (startF_seats t n false)
      · exact kept.butFaults

theorem raise_seats (s : State) (n cls : Nat) (live : Bool) : SeatsButFaults s (raise s n cls live) := by
  have counted (t : State) (c : Nat) (h : SameSeats s t) : SeatsButFaults s (if c = 0 then t else
      latchFirst (t.setBit (srcBit Reg.FC_STATUS_LO n).1 (srcBit Reg.FC_STATUS_LO n).2 true) n c) := by
    split
    · exact h.butFaults
    · exact (h.setReg.trans (latchFirst_sameSeats _ n c)).butFaults
  have recorded (s : State) (c : Nat) (b : Bool) : SeatsButFaults s (if b then faultRecord s n c 0 0 else s) := by
    split
    · exact faultRecord_seats s n c 0 0
    · exact .refl s
  have lit (s : State) (c : Nat) : SeatsButFaults s (if live then liveOn s n c else s) := by
    split
    · exact liveOn_seats s n c
    · exact .refl s
  unfold raise
  dsimp only
  split
  · exact .refl s
  · exact .trans (.trans (counted _ _ (SameSeats.refl s).setReg) (recorded _ _ _)) (lit _ _)

theorem liveOff_sameSeats (s : State) (n : Nat) : SameSeats s (liveOff s n) := by
  unfold liveOff
  dsimp only
  split <;> rfl

/-- The second trap in M halts an engine seat and keeps the rest of it (R72). -/
theorem doubleHalt_seat (s : State) {i : Nat} (h : i ≠ plantSeat) :
    (doubleHalt s i).seat i = { s.seat i with st := .halt, faultQ := ((doubleHalt s i).seat i).faultQ } := by
  have halted : (s.setSeatSt i .halt).seat i = { s.seat i with st := .halt } := by
    unfold State.setSeatSt
    dsimp only
    rw [if_neg h]
    exact State.seat_modSeat_same s i (fun t => { t with st := .halt })
  have raised : SeatsButFaults (s.setSeatSt i .halt) (doubleHalt s i) := by
    unfold doubleHalt
    dsimp only
    rw [if_neg h]
    exact .trans (raise_seats _ _ _ _) (((notify_sameSeats _ _ _ _).trans (liveOff_sameSeats _ _)).butFaults)
  rw [raised i, halted]

/-! ### What a trap writes (R67, R70) -/

theorem scrGet_scrSet (t : Seat) (n m : Nat) (v : W64) : (t.scrSet n v).scrGet m = if m = n then v else t.scrGet m := by
  split
  · next h => rw [h]; exact sget_sset_same _ _ _ _
  · next h => exact sget_sset_ne _ _ _ h _

theorem scrSet_frame {x y : Seat} {n : Nat} {v : W64} (h : ∃ z, y = { x with scr := z }) : ∃ z, y.scrSet n v = { x with scr := z } := by
  obtain ⟨z, rfl⟩ := h
  exact ⟨_, rfl⟩

/-- Seat `x` with its bank written as entry to mode `md` writes it (R70). -/
def trapBanked (x : Seat) (md : Mode) (c : Nat) (pc : Pc) (v : W64) (a : Nat) : Seat :=
  ((((x.scrSet (trapBank md) (BitVec.ofNat 64 c)).scrSet (trapBank md + 1) (BitVec.ofNat 64 pc.toNat)).scrSet (trapBank md + 2) v).scrSet
    (trapBank md + 3) (trapState x md a)).scrSet (trapBank md + 5) 0

/-- A trap's bank after its entry; every other control register is kept (R70). -/
theorem trapBanked_scr (x : Seat) (md : Mode) (c : Nat) (pc : Pc) (v : W64) (a n : Nat) : (trapBanked x md c pc v a).scrGet n =
    (let b := trapBank md
     if n = b + 5 then 0 else if n = b + 3 then trapState x md a else if n = b + 2 then v
     else if n = b + 1 then BitVec.ofNat 64 pc.toNat else if n = b then BitVec.ofNat 64 c else x.scrGet n) := by
  simp only [trapBanked, scrGet_scrSet]

theorem trapEntry_eq (x : Seat) (md : Mode) (c : Nat) (pc : Pc) (v : W64) (a : Nat) : trapEntry x md c pc v a =
    { x with scr := (trapBanked x md c pc v a).scr, mode := md, pc := (x.scrGet (trapBank md + 4)).setWidth 40 } := by
  have tvec : (trapBanked x md c pc v a).scrGet (trapBank md + 4) = x.scrGet (trapBank md + 4) := by simp [trapBanked_scr]
  obtain ⟨z, hx⟩ : ∃ z, trapBanked x md c pc v a = { x with scr := z } :=
    scrSet_frame (scrSet_frame (scrSet_frame (scrSet_frame (scrSet_frame ⟨x.scr, rfl⟩))))
  calc trapEntry x md c pc v a
      = { trapBanked x md c pc v a with mode := md, pc := BitVec.ofNat 40 ((trapBanked x md c pc v a).scrGet (trapBank md + 4)).toNat } := rfl
    _ = _ := by rw [tvec, BitVec.ofNat_toNat, hx]

theorem trapEntry_scr (x : Seat) (md : Mode) (c : Nat) (pc : Pc) (v : W64) (a n : Nat) :
    (trapEntry x md c pc v a).scrGet n = (trapBanked x md c pc v a).scrGet n := by
  simp only [trapEntry_eq, Seat.scrGet]

/-- TSTATE's fields as trap entry writes them (R67). -/
theorem trapState_fields (x : Seat) (md : Mode) (a : Nat) :
    fbits (trapState x md a) 1 0 = x.mode.code ∧ (trapState x md a).getLsbD 2 = (x.scrGet (trapBank md + 5) != 0) ∧
    (trapState x md a).getLsbD 3 = true ∧ fbits (trapState x md a) 15 4 = a % 2 ^ 12 := by
  have hcode : x.mode.code < 4 := by cases x.mode <;> decide
  have ha : a % 2 ^ 12 < 4096 := Nat.mod_lt _ (by decide)
  have bit (k : Nat) (p : Bool) (h : (x.mode.code + 4 * b2n (x.scrGet (trapBank md + 5) != 0) + 8 + 16 * (a % 2 ^ 12)) % 2 ^ 64 / 2 ^ k % 2 =
      b2n p) : (trapState x md a).getLsbD k = p := by
    rw [trapState, BitVec.getLsbD, Nat.testBit_eq_decide_div_mod_eq, BitVec.toNat_ofNat, h]
    cases p <;> rfl
  have hie : b2n (x.scrGet (trapBank md + 5) != 0) < 2 := by cases (x.scrGet (trapBank md + 5) != 0) <;> decide
  refine ⟨?_, bit 2 _ (by omega), bit 3 true (show _ = 1 by omega), ?_⟩ <;>
  · rw [trapState, fbits, BitVec.toNat_ofNat]; omega

end Sys2Proof.Machine

namespace Sys2Proof.Claims
open Sys2Proof.Machine

/-- The trap of a seat with state `x` enters mode `md` in `t` with cause `c` and TVAL `v`, saving into the bank at `b` (R70). -/
def TrapEntered (s t : State) (i : Nat) (x : Seat) (cause : Nat) (acc : Option Nat) (b : Nat) (md : Mode) (c : Nat) (v : W64) : Prop :=
  t = { s with seats := t.seats, freeCount := t.freeCount } ∧ (∀ j, j ≠ i → t.seat j = s.seat j) ∧
    t.seat i = { x with scr := (t.seat i).scr, mode := md, pc := (x.scrGet (b + 4)).setWidth 40 } ∧
    (t.seat i).scrGet b = BitVec.ofNat 64 c ∧ (t.seat i).scrGet (b + 1) = BitVec.ofNat 64 x.pc.toNat ∧ (t.seat i).scrGet (b + 2) = v ∧
    fbits ((t.seat i).scrGet (b + 3)) 1 0 = x.mode.code ∧ ((t.seat i).scrGet (b + 3)).getLsbD 2 = (x.scrGet (b + 5) != 0) ∧
    ((t.seat i).scrGet (b + 3)).getLsbD 3 = true ∧ (t.seat i).scrGet (b + 5) = 0 ∧
    (∀ a, acc = some a → c = cause → fbits ((t.seat i).scrGet (b + 3)) 15 4 = a % 2 ^ 12) ∧
    ∀ n, n ∉ [b, b + 1, b + 2, b + 3, b + 5] → (t.seat i).scrGet n = x.scrGet n

theorem trapEntered_setSeat {s t : State} {i : Nat} {x : Seat} {cause : Nat} {acc : Option Nat} {md : Mode} {c : Nat} {v : W64} (k a : Nat)
    (ht : t = { s with freeCount := k }.setSeat i (trapEntry x md c x.pc v a)) (ha : ∀ w, acc = some w → c = cause → a = w) :
    TrapEntered s t i x cause acc (trapBank md) md c v := by
  have hseat : t.seat i = trapEntry x md c x.pc v a := by rw [ht]; exact State.seat_setSeat_same _ _ _
  have hscr := fun n => (trapEntry_scr x md c x.pc v a n).trans (trapBanked_scr x md c x.pc v a n)
  obtain ⟨pm, pie, busy, access⟩ := trapState_fields x md a
  have hstate : (trapEntry x md c x.pc v a).scrGet (trapBank md + 3) = trapState x md a := by simp [hscr]
  unfold TrapEntered
  rw [hseat, hstate]
  refine ⟨by rw [ht]; rfl, fun j hj => by rw [ht]; exact State.seat_setSeat_ne _ hj _, by rw [trapEntry_eq], ?_, ?_, ?_, pm, pie,
    busy, ?_, fun w hw hc => by rw [access, ha w hw hc], fun n hn => ?_⟩
  · simp [hscr]
  · simp [hscr]
  · simp [hscr]
  · simp [hscr]
  · simp only [List.mem_cons, List.not_mem_nil, or_false, not_or] at hn
    obtain ⟨h0, h1, h2, h3, h5⟩ := hn
    rw [hscr]
    dsimp only
    rw [if_neg h5, if_neg h3, if_neg h2, if_neg h1, if_neg h0]

/-- A trap whose mode is not BUSY enters it (R69, R70). -/
theorem takeTrap_enters {s : State} {i cause : Nat} {md : Mode} (tval : W64) (acc : Option Nat) (hm : trapMode (s.seat i) cause = md)
    (hb : (s.seat i).busy md = false) :
    TrapEntered s (takeTrap s i cause tval acc) i (s.seat i) cause acc (trapBank md) md cause tval := by
  have hdbl : (md == .h && (s.seat i).busy .h) = false := by
    cases md with
    | h => exact hb
    | t | m => rfl
  have hhalt : (md == .m && (s.seat i).busy .m) = false := by
    cases md with
    | m => exact hb
    | t | h => rfl
  have hgo : takeTrap s i cause tval acc = acc.elim
      (s.draw.2.setSeat i (trapEntry (s.seat i) md cause (s.seat i).pc tval (s.draw.1.toNat % 2 ^ 12)))
      (fun a => s.setSeat i (trapEntry (s.seat i) md cause (s.seat i).pc tval a)) := by
    unfold takeTrap
    dsimp only
    rw [hm, hdbl, if_neg Bool.false_ne_true, if_neg Bool.false_ne_true, if_neg Bool.false_ne_true, hhalt, if_neg Bool.false_ne_true]
    cases acc <;> rfl
  cases acc with
  | none => exact trapEntered_setSeat (s.freeCount + 1) _ hgo fun _ h => by cases h
  | some w => exact trapEntered_setSeat s.freeCount w hgo fun _ h _ => Option.some_inj.mp h

/-- A trap to H while H is BUSY enters M as DOUBLE_TRAP (R72). -/
theorem takeTrap_doubles {s : State} {i cause : Nat} (tval : W64) (acc : Option Nat) (hm : trapMode (s.seat i) cause = .h)
    (hb : (s.seat i).busy .h = true) (hbm : (s.seat i).busy .m = false) (hc : 0x15 ≠ cause) :
    TrapEntered s (takeTrap s i cause tval acc) i (s.seat i) cause acc 0x020 .m 0x15 (BitVec.ofNat 64 cause) := by
  refine trapEntered_setSeat (md := .m) (s.freeCount + 1) (s.draw.1.toNat % 2 ^ 12) ?_ fun _ _ h => absurd h hc
  have hdbl : (Mode.h == .h && (s.seat i).busy .h) = true := hb
  have hhalt : (Mode.m == .m && (s.seat i).busy .m) = false := hbm
  unfold takeTrap
  dsimp only
  rw [hm, hdbl, if_pos rfl, if_pos rfl, if_pos rfl, hhalt, if_neg Bool.false_ne_true]
  cases acc <;> rfl

/-- Where a trap goes before R72 looks at BUSY (R69). -/
theorem trapMode_eq (x : Seat) (cause : Nat) : trapMode x cause =
    if x.mode = .m ∨ (x.scrGet 0x026).getLsbD cause = false ∨ cause = 0x13 ∨ cause = 0x15 then .m else .h := by
  unfold trapMode
  simp only [Bool.or_eq_true, beq_iff_eq, Bool.not_eq_true', or_assoc]

/-- Settles O21: entry writes one bank by `trapBanked_scr`, and the second trap in M by `doubleHalt_seat`. -/
theorem trapEntrySavesAndRedirects : Obligations.TrapEntrySavesAndRedirects := by
  refine ⟨fun s i cause tval acc _ => ?entry, fun s i cause tval acc hi hm hb => ?second⟩
  case entry =>
    have hmode := trapMode_eq (s.seat i) cause
    refine ⟨fun hto hb => ?_, fun hto hb => ?_, fun hto hb hbm => ?_⟩
    · exact ⟨_, rfl, takeTrap_enters (md := .m) tval acc (hmode.trans (if_pos hto)) hb⟩
    · exact ⟨_, rfl, takeTrap_enters (md := .h) tval acc (hmode.trans (if_neg hto)) hb⟩
    · exact ⟨_, rfl, takeTrap_doubles tval acc (hmode.trans (if_neg hto)) hb hbm fun h => hto (.inr (.inr (.inr h.symm)))⟩
  case second =>
    have hmode : trapMode (s.seat i) cause = .m := (trapMode_eq _ _).trans (if_pos (.inl hm))
    have hhalt : takeTrap s i cause tval acc = doubleHalt s i := by
      unfold takeTrap
      dsimp only
      rw [hmode]
      exact if_pos hb
    rw [hhalt]
    exact doubleHalt_seat s hi

end Sys2Proof.Claims
end

section
/-! PROOFS. Stage issue and waiting for web position: what acceptance does to its seat, its record and its queue (R108 to R110,
R113). -/

namespace Sys2Proof.Machine

/-! ### Completion records (R110, R112, R444) -/

/-- Only the poison of local store pages differs. -/
def PoisonOnly (s t : State) : Prop := t = { s with storePoison := t.storePoison }

theorem markStore_poisonOnly (s : State) (a : Nat) : PoisonOnly s (s.markStore a) := by
  unfold State.markStore PoisonOnly
  dsimp only
  split
  · rfl
  · split <;> rfl

/-- A store write puts its bytes, and rewrites what it covers of poisoned pages. -/
theorem storeWrite_eq (s : State) (a : Nat) (bs : List Byte) :
    ∃ ps, s.storeWrite a bs = { s with store := putBytes s.store a bs, storePoison := ps } := by
  unfold State.storeWrite
  dsimp only
  split
  · exact ⟨s.storePoison, rfl⟩
  · have marked : PoisonOnly { s with store := putBytes s.store a bs } _ :=
      each_keeps (R := PoisonOnly) (fun _ => rfl) (fun _ _ _ h k => k.trans (by rw [h])) markStore_poisonOnly
        ((List.range bs.length).map (fun i => a + i)) { s with store := putBytes s.store a bs }
    exact ⟨_, marked⟩

/-- STG_NOTIFY queues for a seat that has asked for it and is not OFF (R112). -/
def notified (t : Seat) (u : Nat) (seq : W32) (n : Bool) : Seat :=
  if n && t.st != .off then { t with notifyQ := t.notifyQ ++ [BitVec.ofNat 64 (u * 2 ^ 32 + seq.toNat)] } else t

theorem notified_frame (t : Seat) (u : Nat) (seq : W32) (n : Bool) :
    notified t u seq n = { t with notifyQ := (notified t u seq n).notifyQ } := by
  unfold notified; split <;> rfl

theorem notified_sx (t : Seat) (u : Nat) (seq : W32) (n : Bool) (k : Nat) : (notified t u seq n).sx k = t.sx k := by
  rw [notified_frame]; rfl

theorem notified_queue (t : Seat) (u : Nat) (seq : W32) (n : Bool) : (notified t u seq n).notifyQ =
    if n ∧ t.st ≠ .off then t.notifyQ ++ [BitVec.ofNat 64 (u * 2 ^ 32 + seq.toNat)] else t.notifyQ := by
  unfold notified
  simp only [Bool.and_eq_true, bne_iff_ne]
  split <;> rfl

theorem writeRecord_eq (s : State) (i u : Nat) (seq : W32) (n : Bool) (done status : Nat) : ∃ ps ts,
    writeRecord s i u seq n done status =
      { s with store := putBytes s.store (recordPlace i seq) (completionRecord s u seq done status), storePoison := ps, seats := ts } ∧
    (writeRecord s i u seq n done status).seat i = notified (s.seat i) u seq n := by
  obtain ⟨ps, h⟩ := storeWrite_eq s (recordPlace i seq) (completionRecord s u seq done status)
  unfold writeRecord notified
  dsimp only
  rw [h]
  split
  · next hn => exact ⟨ps, _, rfl, (State.seat_modSeat_same _ i _).trans (if_pos hn).symm⟩
  · next hn => exact ⟨ps, s.seats, rfl, (if_neg hn).symm⟩

/-! ### Acceptance (R66, R109) -/

/-- The seat that has had its work accepted, before the work counts as outstanding. -/
def accepted (t : Seat) (rd : Nat) : Seat :=
  ({ t with stgSeq := t.stgSeq + 1 }.setX rd (t.stgSeq.setWidth 64)).advance 8

theorem accepted_frame (t : Seat) (rd : Nat) : accepted t rd =
    { t with stgSeq := t.stgSeq + 1, x := (accepted t rd).x, pc := t.pc + 8 } := by
  unfold accepted Seat.setX Seat.advance; split <;> rfl

theorem accepted_sx (t : Seat) (rd : Nat) : (accepted t rd).sx rd = if rd = 0 then 0 else t.stgSeq.setWidth 64 := by
  unfold accepted Seat.setX Seat.advance Seat.sx
  split
  · rfl
  · exact sget_sset_same _ _ _ _

/-- Work of count 0 completes at once with a record of no lines done. -/
theorem stgAccept_empty (s : State) (i : Nat) {r : StgReq} (h : r.count = 0) : ∃ ps ts, stgAccept s i r =
      { s with store := putBytes s.store (recordPlace i (s.seat i).stgSeq) (completionRecord s r.unit (s.seat i).stgSeq 0 0),
               storePoison := ps, seats := ts } ∧
    (stgAccept s i r).seat i = notified (accepted (s.seat i) r.rd) r.unit (s.seat i).stgSeq r.notify := by
  have hgo : stgAccept s i r = writeRecord (s.setSeat i (accepted (s.seat i) r.rd)) i r.unit (s.seat i).stgSeq r.notify 0 0 := by
    unfold stgAccept
    dsimp only
    rw [if_pos h, BitVec.ofNat_toNat]
    rfl
  obtain ⟨ps, ts, heq, hseat⟩ := writeRecord_eq (s.setSeat i (accepted (s.seat i) r.rd)) i r.unit (s.seat i).stgSeq r.notify 0 0
  exact ⟨ps, ts, hgo.trans heq, by rw [hgo, hseat, State.seat_setSeat_same]⟩

/-- The work a request of the seat becomes. -/
def workOf (i : Nat) (seq : W32) (r : StgReq) : Work where
  seat := i
  seq := seq
  notify := r.notify
  count := r.count
  desc := r.desc
  slots := r.slots
  started := false
  done := 0

/-- Work of lines joins its unit's queue at the end and counts as outstanding. -/
theorem stgAccept_queues (s : State) (i : Nat) {r : StgReq} (h : r.count ≠ 0) : ∃ ts,
    stgAccept s i r = State.setQueue { s with seats := ts } (seatEngine i) r.unit
      (s.queue (seatEngine i) r.unit ++ [workOf i (s.seat i).stgSeq r]) ∧
    (stgAccept s i r).seat i = { accepted (s.seat i) r.rd with stgOut := (s.seat i).stgOut + 1 } := by
  have hout : (accepted (s.seat i) r.rd).stgOut = (s.seat i).stgOut := by rw [accepted_frame]
  unfold stgAccept
  dsimp only
  rw [if_neg h, BitVec.ofNat_toNat]
  refine ⟨_, rfl, ?_⟩
  change ((s.setSeat i (accepted (s.seat i) r.rd)).modSeat i (fun t => { t with stgOut := t.stgOut + 1 })).seat i = _
  rw [State.seat_modSeat_same, State.seat_setSeat_same, hout]

end Sys2Proof.Machine

namespace Sys2Proof.Claims
open Sys2Proof.Machine

/-! ### STG.L and its acceptance (R108 to R110) -/

/-- STG.L with no lines, from a seat that may stage on a unit that is there, is a request of count 0. -/
theorem exec_stgL_empty {i rd ra rc : Nat} {u : BitVec 3} {n : Bool} {wd w0 w1 w2 w3 : Nat} {s : State} (hs : Ready s i 8) (hi : i ≠ plantSeat)
    (hu : u.toNat < 6) (hmode : ((issued s i 8).seat i).mode ≠ .t) (hunit : s.unitPresent u.toNat = true)
    (hrc : ((issued s i 8).seat i).sx rc = 0) : exec (.stgL i rd ra rc u n wd w0 w1 w2 w3) s =
      .next (stgSubmit (issued s i 8) i { rd := rd, unit := u.toNat, notify := n, count := 0, desc := [], slots := [] }) := by
  have hlegal : ¬ (isPlant i || decide (6 ≤ u.toNat)) = true := by rw [isPlant_engine hi]; simpa using hu
  have hpresent : ¬ (!(issued s i 8).unitPresent u.toNat) = true := by
    rw [State.unitPresent, issued_variant, ← State.unitPresent, hunit]; decide
  change execStgL i rd ra rc u n wd w0 w1 w2 w3 s = _
  unfold execStgL
  rw [issue_ready hs]
  dsimp only
  rw [if_neg hlegal, hmOnly_of_ne hmode, if_neg hpresent, hrc]
  rfl

theorem stgL_accepts (i rd ra rc : Nat) (u : BitVec 3) (n : Bool) (wd w0 w1 w2 w3 : Nat) (s : State) (hs : Ready s i 8) (hi : i ≠ plantSeat)
    (hu : u.toNat < 6) :
    let x := (issued s i 8).seat i
    x.mode ≠ .t → s.unitPresent u.toNat = true → x.sx rc = 0 →
     (x.stgOut < 64 → Completes (.stgL i rd ra rc u n wd w0 w1 w2 w3) s (fun t =>
       (t.seat i).sx rd = (if rd = 0 then 0 else x.stgSeq.setWidth 64) ∧ (t.seat i).stgSeq = x.stgSeq + 1 ∧ (t.seat i).pc = x.pc + 8 ∧ t.works = s.works ∧
       t.store = putBytes s.store (recordPlace i x.stgSeq) (completionRecord s u.toNat x.stgSeq 0 0) ∧
       (t.seat i).notifyQ = if n ∧ x.st ≠ .off then x.notifyQ ++ [BitVec.ofNat 64 (u.toNat * 2 ^ 32 + x.stgSeq.toNat)] else x.notifyQ)) ∧
     (64 ≤ x.stgOut → Completes (.stgL i rd ra rc u n wd w0 w1 w2 w3) s (fun t => ∃ r, r.rd = rd ∧ r.unit = u.toNat ∧ r.count = 0 ∧
       SeatMoves (issued s i 8) t i { x with st := .wait, wait := .stg r })) := by
  intro x hmode hunit hrc
  have hrun := exec_stgL_empty (rd := rd) (ra := ra) (n := n) (wd := wd) (w0 := w0) (w1 := w1) (w2 := w2) (w3 := w3) hs hi hu hmode hunit hrc
  set r : StgReq := { rd := rd, unit := u.toNat, notify := n, count := 0, desc := [], slots := [] }
  refine ⟨fun hroom => ⟨_, hrun, ?_⟩, fun hfull => ⟨_, hrun, r, rfl, rfl, rfl, ?_⟩⟩
  · have hsub : stgSubmit (issued s i 8) i r = stgAccept (issued s i 8) i r := if_pos (by simpa [stgRoom, r] using hroom)
    obtain ⟨ps, ts, heq, hseat⟩ := stgAccept_empty (issued s i 8) i (r := r) rfl
    rw [hsub]
    refine ⟨?_, ?_, ?_, ?_, ?_, ?_⟩
    · rw [hseat, notified_sx]; exact accepted_sx x rd
    · rw [hseat, notified_frame, accepted_frame]
    · rw [hseat, notified_frame, accepted_frame]
    · rw [heq]; exact issued_works s i 8
    · rw [heq]; simp only [issued_store, completionRecord, issued_ringTime]; rfl
    · rw [hseat, notified_queue, accepted_frame]
  · have hsub : stgSubmit (issued s i 8) i r = stall (issued s i 8) i (.stg r) := if_neg (by simpa [stgRoom, r] using hfull)
    rw [hsub]
    exact seatMoves_stall _ i _

theorem stgAccept_joins (i : Nat) (r : StgReq) (s : State) (hw : (s.seat i).wait = .stg r) (hh : sget false s.haltReq i = false)
    (hc : r.count ≠ 0) (hout : (s.seat i).stgOut < 64) (hq : (s.queue (seatEngine i) r.unit).length < 64) :
    Completes (.stgAccept i) s (fun t => (t.seat i).sx r.rd = (if r.rd = 0 then 0 else (s.seat i).stgSeq.setWidth 64) ∧
       (t.seat i).stgSeq = (s.seat i).stgSeq + 1 ∧ (t.seat i).stgOut = (s.seat i).stgOut + 1 ∧ (t.seat i).st = .run ∧
       (t.seat i).pc = (s.seat i).pc + 8 ∧ t.mem = s.mem ∧ t.store = s.store ∧
       ∃ w, t.queue (seatEngine i) r.unit = s.queue (seatEngine i) r.unit ++ [w] ∧ w.seat = i ∧ w.seq = (s.seat i).stgSeq ∧
         w.count = r.count ∧ w.desc = r.desc ∧ w.slots = r.slots ∧ w.notify = r.notify) := by
  have hroom : stgRoom s i r = true := by simp [stgRoom, hout, hq]
  have hrun : exec (.stgAccept i) s = .next (stgAccept (unstall s i id) i r) := by
    change execStgAccept i s = _
    simp only [execStgAccept, hw]
    rw [if_pos hroom]
  obtain ⟨hframe, hseat, -, -⟩ := seatMoves_unstall s i id hh
  obtain ⟨ts, heq, hnew⟩ := stgAccept_queues (unstall s i id) i hc
  have hqueue : (unstall s i id).queue (seatEngine i) r.unit = s.queue (seatEngine i) r.unit := by rw [hframe]; rfl
  have hseq : ((unstall s i id).seat i).stgSeq = (s.seat i).stgSeq := by rw [hseat]; rfl
  refine ⟨_, hrun, ?_, ?_, ?_, ?_, ?_, ?_, ?_, workOf i (s.seat i).stgSeq r, ?_, rfl, rfl, rfl, rfl, rfl, rfl⟩
  · rw [hnew, ← hseq]; exact accepted_sx _ _
  · rw [hnew, accepted_frame, hseat]; rfl
  · rw [hnew, hseat]; rfl
  · rw [hnew, accepted_frame, hseat]
  · rw [hnew, accepted_frame, hseat]; rfl
  · rw [heq]; exact (by rw [hframe] : (unstall s i id).mem = s.mem)
  · rw [heq]; exact (by rw [hframe] : (unstall s i id).store = s.store)
  · rw [heq, ← hqueue, ← hseq]; exact sget_sset_same _ _ _ _

/-! ### WPOS (R113) -/

theorem wposResult_some (s : State) (target : W64) (web : Nat) (v : W64) : wposResult s target web = some v ↔ WposValue s target web v := by
  unfold wposResult WposValue
  dsimp only
  split_ifs with h0 h3 hp
  · simp [h0, eq_comm]
  · simp [h3, eq_comm]
  · simp [h0, h3, hp, eq_comm]
  · simp [h0, h3, hp]

theorem exec_wpos {i : Nat} (rd ra : Nat) (web : BitVec 2) {s : State} (hs : Ready s i 4) (hi : i ≠ plantSeat)
    (hmode : ((issued s i 4).seat i).mode ≠ .t) : exec (.wpos i rd ra web) s =
      .next ((wposResult s (((issued s i 4).seat i).sx ra) web.toNat).elim
        (stall (issued s i 4) i (.wpos rd (((issued s i 4).seat i).sx ra) web.toNat))
        (fun v => retire (issued s i 4) i 4 (fun t => t.setX rd v))) := by
  have hpos : wposResult (issued s i 4) = wposResult s := by rw [issued_engine s hi]; rfl
  change execWpos i rd ra web s = _
  unfold execWpos
  rw [issue_ready hs]
  dsimp only
  rw [zvOnly_engine hi, hmOnly_of_ne hmode, hpos]
  cases wposResult s (((issued s i 4).seat i).sx ra) web.toNat <;> rfl

theorem wpos_returns_or_waits (i rd ra : Nat) (web : BitVec 2) (s : State) (hs : Ready s i 4) (hi : i ≠ plantSeat)
    (hmode : ((issued s i 4).seat i).mode ≠ .t) :
    let x := (issued s i 4).seat i
    (∀ v, WposValue s (x.sx ra) web.toNat v → Completes (.wpos i rd ra web) s (fun t => SeatBecomes (issued s i 4) t i ((x.setX rd v).advance 4))) ∧
    ((∀ v, ¬ WposValue s (x.sx ra) web.toNat v) → Completes (.wpos i rd ra web) s (fun t =>
      SeatMoves (issued s i 4) t i { x with st := .wait, wait := .wpos rd (x.sx ra) web.toNat })) := by
  intro x
  have hrun := exec_wpos rd ra web hs hi hmode
  refine ⟨fun v hv => ?_, fun hv => ?_⟩
  · rw [(wposResult_some s _ _ v).mpr hv] at hrun
    exact ⟨_, hrun, seatBecomes_retire _ i 4 _⟩
  · have hnone : wposResult s (x.sx ra) web.toNat = none :=
      Option.eq_none_iff_forall_ne_some.mpr fun v h => hv v ((wposResult_some s _ _ v).mp h)
    rw [hnone] at hrun
    exact ⟨_, hrun, seatMoves_stall _ i _⟩

theorem wposComplete_returns (i rd web : Nat) (target v : W64) (s : State) (hw : (s.seat i).wait = .wpos rd target web)
    (hh : sget false s.haltReq i = false) (hv : WposValue s target web v) :
    Completes (.wposComplete i) s (fun t => SeatMoves s t i { ((s.seat i).setX rd v).advance 4 with st := .run, wait := .none }) := by
  have hrun : exec (.wposComplete i) s = .next (unstall s i (fun t => (t.setX rd v).advance 4)) := by
    change execWposComplete i s = _
    simp only [execWposComplete, hw, (wposResult_some s target web v).mpr hv]
  have hseat : ({ s.seat i with wait := .none }.setX rd v).advance 4 = { ((s.seat i).setX rd v).advance 4 with wait := .none } := by
    unfold Seat.setX Seat.advance; split <;> rfl
  have hmoves := seatMoves_unstall s i (fun t => (t.setX rd v).advance 4) hh
  rw [hseat] at hmoves
  exact ⟨_, hrun, hmoves⟩

/-- Settles O26: STG.L submits a request, which `stgAccept` takes by its count, and WPOS returns by `wposResult_some`. -/
theorem stageIssueAcceptsInOrder : Obligations.StageIssueAcceptsInOrder :=
  ⟨stgL_accepts, stgAccept_joins, wpos_returns_or_waits, wposComplete_returns⟩

end Sys2Proof.Claims
end

section
/-! PROOFS. The divisions (R82), the branches and jumps (R84), and JALR with its trap (R85). -/

namespace Sys2Proof.Machine

/-! ### What the divisions compute (R82) -/

/-- A word whose signed value is −1 is all ones. -/
theorem eq_allOnes_iff (b : W64) : b = BitVec.allOnes 64 ↔ b.toInt = -1 := by
  rw [← BitVec.toInt_inj, BitVec.toInt_allOnes]; rfl

theorem eq_minS64_iff (a : W64) : a = minS64 ↔ a.toInt = -2 ^ 63 := by
  rw [← BitVec.toInt_inj]; rfl

/-- The pair that overflows the signed quotient (R82). -/
theorem overflows_iff (a b : W64) : (a = minS64 && b = BitVec.allOnes 64) = true ↔ a.toInt = -2 ^ 63 ∧ b.toInt = -1 := by
  simp only [Bool.and_eq_true, decide_eq_true_eq, eq_minS64_iff, eq_allOnes_iff]

theorem divS_zero (a : W64) : divS a 0 = if a.toInt < 0 then minS64 else maxS64 := by
  simp [divS, BitVec.slt]

theorem divS_overflow {a b : W64} (ha : a.toInt = -2 ^ 63) (hb : b.toInt = -1) : divS a b = maxS64 := by
  have hne : b ≠ 0 := by rintro rfl; cases hb
  rw [divS, if_neg hne, if_pos ((overflows_iff a b).mpr ⟨ha, hb⟩)]

theorem divS_exact {a b : W64} (hb : b ≠ 0) (h : ¬ (a.toInt = -2 ^ 63 ∧ b.toInt = -1)) : (divS a b).toInt = a.toInt.tdiv b.toInt := by
  rw [divS, if_neg hb, if_neg (mt (overflows_iff a b).mp h), BitVec.toInt_sdiv_of_ne_or_ne]
  rw [ne_eq, ne_eq, ← not_and_or]
  have hmin : minS64 = BitVec.intMin 64 := by decide
  have hones : BitVec.allOnes 64 = -1#64 := by decide
  rwa [← eq_minS64_iff, ← eq_allOnes_iff, hmin, hones] at h

theorem remS_zero (a : W64) : remS a 0 = 0 := if_pos rfl

theorem remS_overflow {a b : W64} (ha : a.toInt = -2 ^ 63) (hb : b.toInt = -1) : remS a b = 0 := by
  have hne : b ≠ 0 := by rintro rfl; cases hb
  rw [remS, if_neg hne, if_pos ((overflows_iff a b).mpr ⟨ha, hb⟩)]

theorem remS_exact {a b : W64} (hb : b ≠ 0) (h : ¬ (a.toInt = -2 ^ 63 ∧ b.toInt = -1)) :
    (remS a b).toInt = a.toInt - b.toInt * a.toInt.tdiv b.toInt := by
  rw [remS, if_neg hb, if_neg (mt (overflows_iff a b).mp h), BitVec.toInt_srem, Int.tmod_def]

theorem divU_exact {a b : W64} (hb : b ≠ 0) : (divU a b).toNat = a.toNat / b.toNat := by
  rw [divU, if_neg hb, BitVec.toNat_udiv]

theorem remU_exact {a b : W64} (hb : b ≠ 0) : (remU a b).toNat = a.toNat % b.toNat := by
  rw [remU, if_neg hb, BitVec.toNat_umod]

/-! ### Branches and jumps (R84) -/

/-- An offset counts words. -/
theorem offset_words {n : Nat} (off : BitVec n) : off.signExtend 40 * 4 = BitVec.ofInt 40 (off.toInt * 4) := by
  rw [BitVec.ofInt_mul]; rfl

/-- The instruction of `e` is `branch` on a comparison that is the condition of `e`. -/
def BranchRow (e : (Nat → Nat → Nat → BitVec 16 → Instr) × (W64 → W64 → Bool)) : Prop :=
  ∃ c, (∀ i ra rb off s, exec (e.1 i ra rb off) s = .next (branch i ra rb off c s)) ∧ ∀ a b, c a b = e.2 a b

theorem BranchRow.runsTo {e : (Nat → Nat → Nat → BitVec 16 → Instr) × (W64 → W64 → Bool)} (h : BranchRow e) (i ra rb : Nat)
    (off : BitVec 16) : RunsTo (e.1 i ra rb off) i 4 (fun x =>
      { x with pc := if e.2 (x.sx ra) (x.sx rb) then x.pc + BitVec.ofInt 40 (off.toInt * 4) else x.pc + 4 }) := by
  obtain ⟨c, hrun, hc⟩ := h
  intro s hs
  have htaken (x : Seat) : { x with pc := if e.2 (x.sx ra) (x.sx rb) then x.pc + BitVec.ofInt 40 (off.toInt * 4) else x.pc + 4 } =
      if c (x.sx ra) (x.sx rb) then { x with pc := x.pc + off.signExtend 40 * 4 } else x.advance 4 := by
    rw [hc, offset_words]
    split <;> rfl
  refine ⟨_, hrun i ra rb off s, ?_⟩
  rw [branch, issue_ready hs]
  dsimp only
  rw [htaken]
  exact seatBecomes_modSeat (issued s i 4) i _

/-! ### A trap leaves the scalar registers (R70, R72) -/

theorem setSeatSt_x (s : State) (i : Nat) (st : SeatSt) : ((s.setSeatSt i st).seat i).x = (s.seat i).x := by
  have hmod : ((s.modSeat i (fun t => { t with st := st })).seat i).x = (s.seat i).x := by rw [State.seat_modSeat_same]
  unfold State.setSeatSt
  dsimp only
  split
  · exact hmod
  · exact hmod

theorem SeatsButFaults.plantRestart {s t : State} (h : SeatsButFaults s t) (r : Option Nat) : SeatsButFaults s { t with plantRestart := r } := h

theorem doubleHalt_x (s : State) (i : Nat) : ((doubleHalt s i).seat i).x = (s.seat i).x := by
  have raised : SeatsButFaults (s.setSeatSt i .halt) (doubleHalt s i) := by
    unfold doubleHalt
    dsimp only
    split
    · exact (raise_seats _ _ _ _).plantRestart _
    · exact .trans (raise_seats _ _ _ _) (((notify_sameSeats _ _ _ _).trans (liveOff_sameSeats _ _)).butFaults)
  exact (congrArg Seat.x (raised i)).trans (setSeatSt_x s i .halt)

theorem takeTrap_x (s : State) (i cause : Nat) (tval : W64) (acc : Option Nat) : ((takeTrap s i cause tval acc).seat i).x = (s.seat i).x := by
  have entered (t : State) (md : Mode) (c : Nat) (v : W64) (a : Nat) :
      ((t.setSeat i (trapEntry (s.seat i) md c (s.seat i).pc v a)).seat i).x = (s.seat i).x := by
    rw [State.seat_setSeat_same, trapEntry_eq]
  unfold takeTrap
  extract_lets t x dbl x' cause' tval'
  split
  · exact doubleHalt_x s i
  · clear_value dbl
    cases acc with
    | none => exact entered s.draw.2 _ _ _ _
    | some a =>
      cases dbl with
      | true => exact entered s.draw.2 _ _ _ _
      | false => exact entered s _ _ _ _

/-! ### JALR (R85) -/

/-- The target of a jump through a register, cut to the width of pc. -/
theorem jalr_target (a m : W64) : (BitVec.ofNat 40 (a + m).toNat).toNat = (a.toNat + m.toNat) % 2 ^ 40 := by
  rw [BitVec.toNat_ofNat, BitVec.toNat_add, Nat.mod_mod_of_dvd _ (by decide)]

end Sys2Proof.Machine

namespace Sys2Proof.Claims
open Sys2Proof.Machine

theorem aluRR_completes {c : Instr} {i rd ra rb : Nat} {f : W64 → W64 → W64} (h : ∀ s, exec c s = .next (aluRR i rd ra rb f s)) {s : State}
    (hs : Ready s i 4) : Completes c s (fun t => SeatBecomes (issued s i 4) t i
      ((((issued s i 4).seat i).setX rd (f (((issued s i 4).seat i).sx ra) (((issued s i 4).seat i).sx rb))).advance 4)) :=
  runsTo_retire h s hs

/-- Settles O4: each division is `aluRR` of its function of R82, which has its edges and is exact elsewhere. -/
theorem divisionsSaturateAndNeverTrap : Obligations.DivisionsSaturateAndNeverTrap := by
  intro i rd ra rb s hs x a b
  refine ⟨⟨divS a b, aluRR_completes (fun _ => rfl) hs, ?pos, ?neg, ?overflow, divS_exact⟩,
    ⟨divU a b, aluRR_completes (fun _ => rfl) hs, fun h => ?_, divU_exact⟩,
    ⟨remS a b, aluRR_completes (fun _ => rfl) hs, fun h => ?_, remS_overflow, remS_exact⟩,
    ⟨remU a b, aluRR_completes (fun _ => rfl) hs, fun h => if_pos h, remU_exact⟩⟩
  case pos => intro hb ha; rw [hb, divS_zero, if_neg (Int.not_lt.mpr ha)]; rfl
  case neg => intro hb ha; rw [hb, divS_zero, if_pos ha]; rfl
  case overflow => intro ha hb; rw [divS_overflow ha hb]; rfl
  · rw [divU, if_pos h]; rfl
  · rw [h]; exact remS_zero a

theorem branchTable_rows : ∀ e ∈ branchTable, BranchRow e := by
  simp only [branchTable, List.forall_mem_cons, List.not_mem_nil, false_imp_iff, implies_true, and_true]
  refine ⟨?beq, ?bne, ?blt, ?bge, ?bltu, ?bgeu⟩ <;> refine ⟨_, fun _ _ _ _ _ => rfl, fun a b => ?_⟩
  case beq => exact beq_eq_decide a b
  case bne => exact Bool.eq_iff_iff.mpr (by simp)
  case blt | bltu => rfl
  case bge | bgeu => exact Bool.eq_iff_iff.mpr (by simp [BitVec.slt, BitVec.ult])

/-- Settles O5: a branch is `branch` on its condition, and JAL links before it jumps. -/
theorem branchesAndJumpsSetPc : Obligations.BranchesAndJumpsSetPc := by
  refine ⟨fun e he => (branchTable_rows e he).runsTo, fun i rd off s hs => ⟨_, rfl, ?_⟩⟩
  rw [issue_ready hs, ← offset_words]
  exact seatBecomes_modSeat _ i _

/-- Settles O6: the target's alignment decides between the jump and the trap, which `takeTrap_x` follows. -/
theorem jalrJumpsOrTraps : Obligations.JalrJumpsOrTraps := by
  intro i rd ra imm s hs x tgt
  have htgt : (BitVec.ofNat 40 (x.sx ra + imm.signExtend 64).toNat).toNat = tgt := jalr_target _ _
  have hpc : BitVec.ofNat 40 (x.sx ra + imm.signExtend 64).toNat = BitVec.ofNat 40 tgt := by
    rw [← htgt, BitVec.ofNat_toNat, BitVec.ofNat_toNat, BitVec.setWidth_eq]
  refine ⟨fun h => ⟨_, rfl, ?_⟩, fun h => ⟨_, rfl, ?_⟩⟩ <;> rw [issue_ready hs] <;> dsimp only
  · rw [if_neg (by rw [htgt]; exact not_not.mpr h), hpc]
    exact seatBecomes_modSeat _ i _
  · rw [if_pos (by rw [htgt]; exact h), pcValue, htgt]
    exact ⟨rfl, takeTrap_x _ i _ _ _⟩

end Sys2Proof.Claims
end

section
/-! PROOFS. The predicate operations (R95), VL and VCOUNT (R41, R96), and WSUB (R97). -/

namespace Sys2Proof.Machine

/-! ### Operations of an engine seat on its own state (R39, R95, R96) -/

/-- A predicate operation, or SETVL, on an engine seat changes the seat by `f` and moves past its word. -/
theorem predOp_runs {c : Instr} {i : Nat} {w : W64} {f : Seat → Seat} (hi : i ≠ plantSeat)
    (h : ∀ s, exec c s = .next (predOp i w f s)) : RunsTo c i 4 (fun x => (f x).advance 4) := by
  intro s hs
  refine ⟨_, h s, ?_⟩
  rw [predOp, issue_ready hs, zvOnly_engine hi]
  exact seatBecomes_retire _ i 4 f

/-! ### The set elements below VL (R95) -/

theorem mem_pset {t : Seat} {pa : Nat} {ew : BitVec 2} {k : Nat} :
    k ∈ pset t pa ew ↔ k < min t.vl (256 / esize ew) ∧ (t.px pa).getLsbD (k * esize ew) = true := by
  rw [pset, List.mem_filter, List.mem_range]; rfl

theorem pset_sorted (t : Seat) (pa : Nat) (ew : BitVec 2) : (pset t pa ew).Pairwise (· < ·) :=
  List.pairwise_lt_range.filter _

/-- An element of an ascending list with no lower one in it stands at its head. -/
theorem head_of_least {k₀ k : Nat} {l : List Nat} (hl : (k₀ :: l).Pairwise (· < ·)) (hk : k ∈ k₀ :: l)
    (hleast : ∀ j < k, j ∉ k₀ :: l) : k₀ = k := by
  rcases List.mem_cons.mp hk with h | h
  · exact h.symm
  · exact absurd List.mem_cons_self (hleast k₀ (List.rel_of_pairwise_cons hl h))

/-! ### VL and capacity (R41, R96) -/

/-- VL has no mask, no reserved value and no effect but its own. -/
theorem scrStore_vl (s : State) (i : Nat) (v : W64) : scrStore s i 0x003 v = s.modSeat i (fun t => t.scrSet 0x003 v) := by
  have hvalue : scrValue 0x003 v = v := BitVec.and_allOnes
  unfold scrStore
  rw [hvalue]
  rfl

/-- SCWR of VL: the register is listed on an engine seat and writable in every mode. -/
theorem scwrVl_runs (i ra : Nat) (hi : i ≠ plantSeat) :
    RunsTo (.scwr i 0x003 ra) i 4 (fun x => (x.scrSet 0x003 (x.sx ra)).advance 4) := by
  intro s hs
  have hnum : (0x003 : BitVec 12).toNat = 0x003 := rfl
  have hlisted : (!scrListed (isPlant i) 0x003) = false := by rw [isPlant_engine hi]; rfl
  have hwritable (md : Mode) : (!scrWritable md 0x003) = false := by cases md <;> rfl
  refine ⟨_, rfl, ?_⟩
  rw [scrUpdate, issue_ready hs]
  dsimp only
  rw [hnum, hlisted, if_neg Bool.false_ne_true, hwritable, if_neg Bool.false_ne_true, if_neg (by simp), scrStore_vl]
  obtain ⟨hframe, hseat, hothers⟩ := seatBecomes_retire ((issued s i 4).modSeat i (fun t => t.scrSet 0x003 (((issued s i 4).seat i).sx ra))) i 4 id
  refine ⟨hframe, ?_, fun j hj => (hothers j hj).trans (State.seat_modSeat_ne _ hj _)⟩
  rw [hseat, State.seat_modSeat_same]
  rfl

theorem vecIssue_above {s : State} {i n : Nat} {ew : BitVec 2} (w : W64) (p : Nat) (f : Seat → List Nat → Seat) (hs : Ready s i n)
    (hi : i ≠ plantSeat) (hvl : 256 / esize ew < ((issued s i n).seat i).vl) :
    vecIssue i n w p ew f s = trap (issued s i n) i 0x0F (BitVec.ofNat 64 ((issued s i n).seat i).vl) := by
  rw [vecIssue, issue_ready hs, zvOnly_engine hi]
  exact if_pos hvl

theorem vmemIssue_above {s : State} {i : Nat} {ew : BitVec 2} (w : W64) (p : Nat) (f : State → List Nat → State) (hs : Ready s i 4)
    (hi : i ≠ plantSeat) (hvl : 256 / esize ew < ((issued s i 4).seat i).vl) :
    vmemIssue i w p ew f s = trap (issued s i 4) i 0x0F (BitVec.ofNat 64 ((issued s i 4).seat i).vl) := by
  rw [vmemIssue, issue_ready hs, zvOnly_engine hi]
  exact if_pos hvl

/-! ### A descriptor's fields (R54) -/

section Fields
variable (base len rights hdom tid ktag : Nat) (loc valid : Bool)

theorem mkDesc_toNat : (mkDesc base len rights hdom tid ktag loc valid).toNat =
    base % 2 ^ 48 + (len % 2 ^ 40) * 2 ^ 48 + (rights % 32) * 2 ^ 88 + (hdom % 8) * 2 ^ 93 + (tid % 2 ^ 16) * 2 ^ 96 +
      (ktag % 2 ^ 14) * 2 ^ 112 + b2n loc * 2 ^ 126 + b2n valid * 2 ^ 127 := by
  have hloc : b2n loc ≤ 1 := by cases loc <;> decide
  have hvalid : b2n valid ≤ 1 := by cases valid <;> decide
  rw [mkDesc, BitVec.toNat_ofNat, Nat.mod_eq_of_lt (by omega)]

theorem dBase_mkDesc : dBase (mkDesc base len rights hdom tid ktag loc valid) = base % 2 ^ 48 := by
  rw [dBase, fbits, mkDesc_toNat]; omega

theorem dLen_mkDesc : dLen (mkDesc base len rights hdom tid ktag loc valid) = len % 2 ^ 40 := by
  rw [dLen, fbits, mkDesc_toNat]; omega

theorem dRights_mkDesc : dRights (mkDesc base len rights hdom tid ktag loc valid) = rights % 32 := by
  rw [dRights, fbits, mkDesc_toNat]; omega

theorem dHdom_mkDesc : dHdom (mkDesc base len rights hdom tid ktag loc valid) = hdom % 8 := by
  rw [dHdom, fbits, mkDesc_toNat]; omega

theorem dTid_mkDesc : dTid (mkDesc base len rights hdom tid ktag loc valid) = tid % 2 ^ 16 := by
  rw [dTid, fbits, mkDesc_toNat]; omega

theorem dKtag_mkDesc : dKtag (mkDesc base len rights hdom tid ktag loc valid) = BitVec.ofNat 14 ktag := by
  refine BitVec.eq_of_toNat_eq ?_
  rw [dKtag, fbits, mkDesc_toNat, BitVec.toNat_ofNat, BitVec.toNat_ofNat]; omega

theorem dLoc_mkDesc : dLoc (mkDesc base len rights hdom tid ktag loc valid) = loc := by
  have hloc : b2n loc ≤ 1 := by cases loc <;> decide
  have hvalid : b2n valid ≤ 1 := by cases valid <;> decide
  have hbit : (mkDesc base len rights hdom tid ktag loc valid).toNat / 2 ^ 126 % 2 = b2n loc := by rw [mkDesc_toNat]; omega
  rw [dLoc, fbit, BitVec.getLsbD, Nat.testBit_eq_decide_div_mod_eq, hbit]
  cases loc <;> rfl

theorem dValid_mkDesc : dValid (mkDesc base len rights hdom tid ktag loc valid) = valid := by
  have hloc : b2n loc ≤ 1 := by cases loc <;> decide
  have hvalid : b2n valid ≤ 1 := by cases valid <;> decide
  have hbit : (mkDesc base len rights hdom tid ktag loc valid).toNat / 2 ^ 127 % 2 = b2n valid := by rw [mkDesc_toNat]; omega
  rw [dValid, fbit, BitVec.getLsbD, Nat.testBit_eq_decide_div_mod_eq, hbit]
  cases valid <;> rfl

end Fields

end Sys2Proof.Machine

namespace Sys2Proof.Claims
open Sys2Proof.Machine

/-- PFIRST's value is the head of the set elements, which ascend, or all ones. -/
theorem pfirst_completes (i pd pa : Nat) (ew : BitVec 2) (s : State) (hi : i ≠ plantSeat) (hs : Ready s i 4) :
    let x := (issued s i 4).seat i
    let set (k : Nat) : Prop := k < min x.vl (256 / esize ew) ∧ (x.px pa).getLsbD (k * esize ew) = true
    Completes (.pfirst i pd pa ew) s (fun t => ∃ v, SeatBecomes (issued s i 4) t i ((x.setX pd v).advance 4) ∧
      ((∀ k, ¬ set k) → v = BitVec.allOnes 64) ∧ ∀ k, set k → (∀ j < k, ¬ set j) → v = BitVec.ofNat 64 k) := by
  intro x set
  have hset (k : Nat) : set k ↔ k ∈ pset x pa ew := mem_pset.symm
  obtain ⟨t, hrun, ht⟩ := predOp_runs (c := .pfirst i pd pa ew) hi (fun _ => rfl) s hs
  refine ⟨t, hrun, _, ht, ?_⟩
  simp only [hset]
  split
  next k₀ l hl =>
    rw [show pset x pa ew = k₀ :: l from hl]
    refine ⟨fun hnone => absurd List.mem_cons_self (hnone k₀), fun k hk hleast => ?_⟩
    rw [head_of_least (hl ▸ pset_sorted x pa ew) hk hleast]
  next hl =>
    rw [show pset x pa ew = [] from hl]
    exact ⟨fun _ => rfl, fun k hk => absurd hk List.not_mem_nil⟩

/-- Settles O16: each is `predOp` of its function; PCNT and PFIRST look at the list `pset`. -/
theorem predicateOperationsAct : Obligations.PredicateOperationsAct := by
  intro i hi pd pa pb ew
  refine ⟨predOp_runs hi fun _ => rfl, predOp_runs hi fun _ => rfl, predOp_runs hi fun _ => rfl, predOp_runs hi fun _ => rfl,
    predOp_runs hi fun _ => rfl, predOp_runs hi fun _ => rfl, predOp_runs hi fun _ => rfl, ?pcnt,
    fun s hs => pfirst_completes i pd pa ew s hi hs⟩
  case pcnt =>
    simp only [List.countP_eq_length_filter]
    exact predOp_runs hi fun _ => rfl

/-- On an engine seat whose VL is above capacity, `c` of `n` bytes takes VCOUNT with TVAL VL (R41). -/
def TakesVcount (c : Instr) (i n : Nat) (ew : BitVec 2) : Prop :=
  ∀ s, Ready s i n → 256 / esize ew < ((issued s i n).seat i).vl →
    Completes c s (fun t => t = trap (issued s i n) i 0x0F (BitVec.ofNat 64 ((issued s i n).seat i).vl))

theorem takesVcount_of_vecIssue {c : Instr} {i n p : Nat} {ew : BitVec 2} {w : W64} {f : Seat → List Nat → Seat} (hi : i ≠ plantSeat)
    (hrun : ∀ s, exec c s = .next (vecIssue i n w p ew f s)) : TakesVcount c i n ew :=
  fun s hs hvl => ⟨_, hrun s, vecIssue_above w p f hs hi hvl⟩

theorem takesVcount_of_vmemIssue {c : Instr} {i p : Nat} {ew : BitVec 2} {w : W64} {f : State → State → List Nat → State}
    (hi : i ≠ plantSeat) (hrun : ∀ s, exec c s = .next (vmemIssue i w p ew (f s) s)) : TakesVcount c i 4 ew :=
  fun s hs hvl => ⟨_, hrun s, vmemIssue_above w p _ hs hi hvl⟩

theorem vectorForms_takeVcount (i a b d r p : Nat) (ew : BitVec 2) (hi : i ≠ plantSeat) :
    ∀ c ∈ vectorForms i a b d r p ew, TakesVcount c i 4 ew := by
  simp only [vectorForms, List.forall_mem_append, List.forall_mem_map, List.mem_flatMap, forall_exists_index, and_imp]
  refine ⟨⟨⟨⟨⟨⟨fun e he => ?vv, fun e he => ?vs⟩, fun e he => ?cmp⟩, ?move⟩, fun e he => ?red⟩, ?mem⟩, ?rest⟩
  case vv | vs =>
    obtain ⟨fn, op, hrun, -⟩ := vopTable_rows e he
    exact takesVcount_of_vecIssue hi fun s => hrun _ _ _ _ _ _ s
  case cmp =>
    obtain ⟨fn, op, hrun, -⟩ := vcmpTable_rows e he
    exact takesVcount_of_vecIssue hi fun s => hrun _ _ _ _ _ _ s
  case move =>
    simp only [vmoveTable, List.forall_mem_cons, List.not_mem_nil, false_imp_iff, implies_true, and_true]
    exact ⟨takesVcount_of_vecIssue hi fun _ => rfl, takesVcount_of_vecIssue hi fun _ => rfl, takesVcount_of_vecIssue hi fun _ => rfl⟩
  case red =>
    obtain ⟨fn, r, hrun, -⟩ := vredTable_rows e he
    exact takesVcount_of_vecIssue hi fun s => hrun _ _ _ _ _ s
  case mem =>
    intro c e he hc
    obtain ⟨ml, ms, field, off, hload, hstore, -⟩ := vmemTable_rows e he
    rcases List.mem_pair.mp hc with rfl | rfl
    · exact takesVcount_of_vmemIssue (f := fun _ => _) hi fun s => hload _ _ _ _ _ _ _ s
    · exact takesVcount_of_vmemIssue (f := fun _ => _) hi fun s => hstore _ _ _ _ _ _ _ s
  case rest =>
    simp only [List.forall_mem_cons, List.not_mem_nil, false_imp_iff, implies_true, and_true]
    exact ⟨takesVcount_of_vecIssue hi fun _ => rfl, takesVcount_of_vecIssue hi fun _ => rfl,
      takesVcount_of_vecIssue hi fun _ => rfl, takesVcount_of_vecIssue hi fun _ => rfl⟩

/-- Settles O17: SETVL is `predOp`, SCWR stores VL as it is, and each vector instruction looks at VL before its elements. -/
theorem setvlSetsVectorLength : Obligations.SetvlSetsVectorLength := by
  refine ⟨fun i hi rd ra ew => predOp_runs hi fun _ => rfl, fun x n hn => ?vl, fun i hi ra => scwrVl_runs i ra hi,
    fun i a b d r p ew hi => vectorForms_takeVcount i a b d r p ew hi, fun i a b d p ew sh uns sat s hi hsh => ?mulsr⟩
  case vl =>
    rw [Seat.vl, scrGet_scrSet, if_pos rfl, BitVec.toNat_ofNat, Nat.mod_eq_of_lt (by omega)]
  case mulsr =>
    refine takesVcount_of_vecIssue (p := p) (w := wordL 0x08 (a * 2 ^ 15 + b * 2 ^ 10 + d * 2 ^ 5 + p * 4 + ew.toNat)) (f := fun t act =>
      t.setV a (vmap (t.vx a) ew act (fun k => mulsr (8 * esize ew) sh.toNat uns sat (velem (t.vx b) ew k) (velem (t.vx d) ew k))))
      hi (fun s => ?_) s
    exact congrArg Host.Outcome.next (if_pos (by rw [decide_eq_true hsh, Bool.or_true]))

/-- Settles O18: the sum against LENGTH decides between the narrower descriptor and the trap. -/
theorem wsubNarrowsOrTraps : Obligations.WsubNarrowsOrTraps := by
  intro i wd ws rb rc mask s hs x d off len
  refine ⟨fun h => ⟨_, rfl, ?_⟩, fun h => ⟨_, rfl, ?_⟩⟩ <;> rw [issue_ready hs] <;> dsimp only
  · have hlen : dLen d < 2 ^ 40 := Nat.mod_lt _ (Nat.two_pow_pos _)
    have hrights : dRights d &&& mask.toNat < 32 := Nat.and_lt_two_pow (n := 5) _ mask.isLt
    have hhdom : dHdom d < 8 := Nat.mod_lt _ (Nat.two_pow_pos _)
    have htid : dTid d < 2 ^ 16 := Nat.mod_lt _ (Nat.two_pow_pos _)
    rw [if_neg (Nat.not_lt.mpr h)]
    refine ⟨_, seatBecomes_retire _ i 4 _, dBase_mkDesc .., ?_, ?_, ?_, ?_, ?_, dLoc_mkDesc .., dValid_mkDesc ..⟩
    · rw [dLen_mkDesc]; exact Nat.mod_eq_of_lt (((Nat.le_add_left _ _).trans h).trans_lt hlen)
    · rw [dRights_mkDesc]; exact Nat.mod_eq_of_lt hrights
    · rw [dHdom_mkDesc]; exact Nat.mod_eq_of_lt hhdom
    · rw [dTid_mkDesc]; exact Nat.mod_eq_of_lt htid
    · rw [dKtag_mkDesc, BitVec.ofNat_toNat]; exact BitVec.setWidth_eq _
  · rw [if_pos h]

end Sys2Proof.Claims
end

section
/-! PROOFS. Block copy and fill (R101): one byte of a checked range after the other, in ascending order. -/

namespace Sys2Proof.Machine

/-! ### One byte of a checked range (R58, R60) -/

theorem mem_spanning {d a n p : Nat} : p ∈ spanning d a n ↔ 0 < n ∧ a / d ≤ p ∧ p ≤ (a + n - 1) / d := by
  unfold spanning
  split
  next h => simp [h]
  next h =>
    have hle : a / d ≤ (a + n - 1) / d := Nat.div_le_div_right (by omega)
    simp only [List.mem_map, List.mem_range]
    constructor
    · rintro ⟨k, hk, rfl⟩; omega
    · rintro ⟨-, h1, h2⟩; exact ⟨p - a / d, by omega, by omega⟩

theorem spanning_byte {d a n j p : Nat} (hj : j < n) (h : p ∈ spanning d (a + j) 1) : p ∈ spanning d a n := by
  obtain ⟨-, hlo, hhi⟩ := mem_spanning.mp h
  exact mem_spanning.mpr ⟨by omega, (Nat.div_le_div_right (by omega)).trans hlo, hhi.trans (Nat.div_le_div_right (by omega))⟩

theorem checkOk_inMemory {s : State} {i w off n align need : Nat} (h : CheckOk s i w off n align need) :
    dBase ((s.seat i).wx w) + off + n ≤ s.memSize := by
  obtain ⟨-, -, -, -, -, -, -, hm, -⟩ := h
  exact hm

theorem checkOk_byte {s : State} {i w off n need j : Nat} (h : CheckOk s i w off n 1 need) (hj : j < n) :
    CheckOk s i w (off + j) 1 1 need := by
  obtain ⟨hv, hl, ho, hr, hb, -, hloc, hm, ht⟩ := h
  exact ⟨hv, hl, ho, hr, by omega, Nat.mod_one _, hloc, by omega, fun g hg => ht g (spanning_byte hj (by rwa [← Nat.add_assoc] at hg))⟩

theorem accessOk_byte {s : State} {i w off n need j : Nat} (h : AccessOk s i w off n 1 need) (hj : j < n) :
    AccessOk s i w (off + j) 1 1 need :=
  ⟨checkOk_byte h.1 hj, fun p hp => h.2 p (spanning_byte hj (by rwa [← Nat.add_assoc] at hp))⟩

theorem writeOk_byte {s : State} {i w off n j : Nat} (h : WriteOk s i w off n 1) (hj : j < n) : WriteOk s i w (off + j) 1 1 :=
  ⟨checkOk_byte h.1 hj, fun p hp => h.2 p (spanning_byte hj (by rwa [← Nat.add_assoc] at hp))⟩

/-- An offset of a checked range does not wrap. -/
theorem offset_toNat {s : State} {i w n align need j : Nat} {off : W64} (h : CheckOk s i w off.toNat n align need) (hj : j < n) :
    (off + BitVec.ofNat 64 j).toNat = off.toNat + j := by
  obtain ⟨-, -, -, -, hb, -⟩ := h
  have hlen : dLen ((s.seat i).wx w) < 2 ^ 40 := Nat.mod_lt _ (Nat.two_pow_pos _)
  rw [BitVec.toNat_add, BitVec.toNat_ofNat]
  omega

/-! ### A write poisons no page (R167) -/

/-- The state with other memory and other page states: what a write of device memory leaves. -/
def State.withMem (s : State) (m : SMap Byte) (ps : SMap Page) : State := { s with mem := m, pages := ps }

/-- Every page that is whole before is whole after. -/
def KeepsWhole (s t : State) : Prop := ∀ p, (s.page p).poisoned = false → (t.page p).poisoned = false

theorem keepsWhole_setPage (s : State) (p : Nat) (q : Page) (h : (s.page p).poisoned = false → q.poisoned = false) :
    KeepsWhole s (s.setPage p q) := by
  intro k hk
  by_cases hkp : k = p
  · rw [hkp] at hk ⊢
    rw [State.page, State.setPage, sget_sset_same]
    exact h hk
  · rw [State.page, State.setPage, sget_sset_ne _ _ _ hkp]
    exact hk

theorem keepsWhole_each {α : Type} (f : State → α → State) (hf : ∀ s x, KeepsWhole s (f s x)) (l : List α) (s : State) :
    KeepsWhole s (s.each l f) :=
  each_keeps (fun _ _ h => h) (fun _ _ _ h k p hp => k p (h p hp)) hf l s

theorem markCells_keepsWhole (s : State) (a n : Nat) : KeepsWhole s (s.markCells a n) := by
  refine keepsWhole_each _ (fun s c => ?_) _ s
  dsimp only
  split
  next h =>
    split
    · exact keepsWhole_setPage s _ _ fun _ => rfl
    · exact keepsWhole_setPage s _ _ id
  next => exact fun _ h => h

theorem encode_keepsWhole (s : State) (l : List Nat) : KeepsWhole s (s.each l State.encode) :=
  keepsWhole_each State.encode (fun s p => keepsWhole_setPage s p _ id) l s

theorem memWrite_keepsWhole {s t : State} {a : Nat} {bs : List Byte} (h : s.memWrite a bs = some t) : KeepsWhole s t := by
  unfold State.memWrite at h
  split at h
  · cases h
    exact fun p hp => encode_keepsWhole _ _ p (markCells_keepsWhole { s with mem := putBytes s.mem a bs } a bs.length p hp)
  · cases h

/-- A byte written where a write is accepted. -/
theorem seatWrite_byte {s : State} {i w off : Nat} (b : Byte) (h : WriteOk s i w off 1 1) : ∃ ps,
    seatWrite s i w off 1 [b] = .ok (s.withMem (sset 0 s.mem (dBase ((s.seat i).wx w) + off) b) ps, false) ∧
    KeepsWhole s (s.withMem (sset 0 s.mem (dBase ((s.seat i).wx w) + off) b) ps) := by
  obtain ⟨ps, e⟩ := memWrite_some (bs := [b]) (checkOk_inMemory h.1) h.2
  refine ⟨ps, ?_, memWrite_keepsWhole e⟩
  unfold seatWrite
  simp only [checkAccess_none (n := [b].length) h.1 Nat.one_pos, target_memory h.1 Nat.one_pos, placeWrite, e]
  rfl

/-- What a read needs is kept by a change of memory and pages that poisons none. -/
theorem accessOk_keepsWhole {s : State} {i w off n align need : Nat} {m : SMap Byte} {ps : SMap Page} (h : AccessOk s i w off n align need)
    (hw : KeepsWhole s (s.withMem m ps)) : AccessOk (s.withMem m ps) i w off n align need := by
  refine ⟨h.1, fun p hp => ?_⟩
  have hread := h.2 p hp
  unfold State.pageReadable at hread ⊢
  obtain ⟨hwhole, hstack⟩ := Bool.and_eq_true_iff.mp hread
  exact Bool.and_eq_true_iff.mpr ⟨by rw [hw p (by simpa using hwhole)]; rfl, hstack⟩

/-- The page of a byte that can be read is not bad. -/
theorem accessOk_pages {s : State} {i w off align need : Nat} (h : AccessOk s i w off 1 align need) :
    (touchOf ((s.seat i).wx w) (.memory (dBase ((s.seat i).wx w) + off)) 1).pages.any s.pageBad = false := by
  refine List.any_eq_false.mpr fun p hp => ?_
  have hread := h.2 p hp
  have hsize : s.memSize < 2 ^ 51 := by unfold State.memSize; cases s.variant <;> simp [Variant.stacks]
  have hm := checkOk_inMemory h.1
  have hlt : p < storePages := by
    obtain ⟨-, -, hhi⟩ := mem_spanning.mp (show p ∈ spanning 2048 _ 1 from hp)
    rw [storePages]; omega
  rw [State.pageBad, if_pos hlt]
  unfold State.pageReadable at hread
  simpa using (Bool.and_eq_true_iff.mp hread).1

/-! ### Bytes one after another -/

/-- Memory after the bytes at `dst + j` are written in turn, each `f` of the memory so far and `j`. -/
def moveBytes (dst : Nat) (f : SMap Byte → Nat → Byte) (l : List Nat) (m : SMap Byte) : SMap Byte :=
  l.foldl (fun m j => sset 0 m (dst + j) (f m j)) m

theorem sget_moveBytes_outside {dst a : Nat} {f : SMap Byte → Nat → Byte} : ∀ {l : List Nat} {m : SMap Byte}, (∀ j ∈ l, a ≠ dst + j) →
    sget 0 (moveBytes dst f l m) a = sget 0 m a
  | [], _, _ => rfl
  | j :: l, m, h => by
    obtain ⟨hj, hl⟩ := List.forall_mem_cons.mp h
    exact (sget_moveBytes_outside (m := sset 0 m (dst + j) (f m j)) hl).trans (sget_sset_ne _ _ _ hj _)

theorem sget_moveBytes_const {dst j : Nat} {b : Byte} {l : List Nat} (hj : j ∈ l) : ∀ m : SMap Byte,
    sget 0 (moveBytes dst (fun _ _ => b) l m) (dst + j) = b := by
  induction l with
  | nil => cases hj
  | cons k l ih =>
    intro m
    rw [moveBytes, List.foldl_cons, ← moveBytes]
    by_cases hl : j ∈ l
    · exact ih hl _
    · obtain rfl : j = k := (List.mem_cons.mp hj).resolve_right hl
      rw [sget_moveBytes_outside fun q hq e => hl (by rwa [Nat.add_left_cancel e]), sget_sset_same]

theorem moveBytes_cons (dst j : Nat) (f : SMap Byte → Nat → Byte) (l : List Nat) (m : SMap Byte) :
    moveBytes dst f (j :: l) m = moveBytes dst f l (sset 0 m (dst + j) (f m j)) := rfl

/-- The bytes `l` of a block at offset `off`: none of their offsets wraps, and each alone has what `P` asks. -/
def Each (P : Nat → Prop) (off : W64) (l : List Nat) : Prop := ∀ k ∈ l, (off + BitVec.ofNat 64 k).toNat = off.toNat + k ∧ P (off.toNat + k)

theorem fillGo_ok {i wd : Nat} {dst : W64} (b : Byte) (n : Nat) : ∀ (j : Nat) (s : State),
    Each (fun o => WriteOk s i wd o 1 1) dst (List.range' j n) →
    ∃ ps, fillGo i wd dst b n j s =
      (s.withMem (moveBytes (dBase ((s.seat i).wx wd) + dst.toNat) (fun _ _ => b) (List.range' j n) s.mem) ps, none) := by
  induction n with
  | zero => exact fun j s _ => ⟨s.pages, rfl⟩
  | succ n ih =>
    intro j s h
    rw [List.range'_succ] at h
    obtain ⟨⟨hoff, hok⟩, hrest⟩ := List.forall_mem_cons.mp h
    obtain ⟨ps, e, -⟩ := seatWrite_byte b hok
    rw [fillGo, hoff, e, List.range'_succ, moveBytes_cons, Nat.add_assoc]
    exact ih (j + 1) (s.withMem _ ps) hrest

theorem copyGo_ok {i wd ws : Nat} {dst src : W64} (n : Nat) : ∀ (j : Nat) (s : State),
    Each (fun o => WriteOk s i wd o 1 1) dst (List.range' j n) → Each (fun o => AccessOk s i ws o 1 1 1) src (List.range' j n) →
    ∃ ps, copyGo i wd ws dst src [] n j s = (s.withMem (moveBytes (dBase ((s.seat i).wx wd) + dst.toNat)
      (fun m k => sget 0 m (dBase ((s.seat i).wx ws) + src.toNat + k)) (List.range' j n) s.mem) ps, none) := by
  induction n with
  | zero => exact fun j s _ _ => ⟨s.pages, rfl⟩
  | succ n ih =>
    intro j s hw hr
    rw [List.range'_succ] at hw hr
    obtain ⟨⟨hdst, hwrite⟩, hwrites⟩ := List.forall_mem_cons.mp hw
    obtain ⟨⟨hsrc, hread⟩, hreads⟩ := List.forall_mem_cons.mp hr
    obtain ⟨ps, e, hwhole⟩ := seatWrite_byte (sget 0 s.mem (dBase ((s.seat i).wx ws) + (src.toNat + j))) hwrite
    rw [copyGo, hsrc, seatRead_ok hread Nat.one_pos]
    simp only [List.filter_nil, State.each, List.foldl_nil, accessOk_pages hread, Bool.false_eq_true, if_false]
    rw [hdst, bytesAt, bytesAt, e, List.range'_succ, moveBytes_cons,
      Nat.add_assoc (dBase ((s.seat i).wx wd)), Nat.add_assoc (dBase ((s.seat i).wx ws))]
    exact ih (j + 1) (s.withMem _ ps) hwrites fun k hk => ⟨(hreads k hk).1, accessOk_keepsWhole (hreads k hk).2 hwhole⟩

end Sys2Proof.Machine

namespace Sys2Proof.Claims
open Sys2Proof.Machine

/-- In `t` seat `i` waits for the end of a block instruction of `n` bytes that wrote no byte outside its destination. -/
def BlockMoved (s t : State) (i rd dst n : Nat) : Prop :=
  t = { issued s i 8 with mem := t.mem, pages := t.pages, seats := t.seats, regs := t.regs } ∧
  (∃ f, t.seat i = { (issued s i 8).seat i with st := .wait, wait := .access f } ∧ f.result = .x rd (BitVec.ofNat 64 n) ∧ f.len = 8) ∧
  (∀ j, j ≠ i → t.seat j = s.seat j) ∧ (∀ b, haltedReg i ≠ some b → t.reg b = (issued s i 8).reg b) ∧
  ∀ a, a < dst ∨ dst + n ≤ a → t.byteAt a = s.byteAt a

/-- The end of a block instruction none of whose bytes failed: memory holds what was moved. -/
theorem blockEnd_moved (s : State) (i rd n wd dst : Nat) (off : W64) (f : SMap Byte → Nat → Byte) (ps : SMap Page) :
    let m := moveBytes dst f (List.range' 0 n) s.mem
    let t := blockEnd ((issued s i 8).withMem m ps, none) i rd n wd off
    BlockMoved s t i rd dst n ∧ t.mem = m := by
  intro m t
  obtain ⟨g, hg, hresult, hlen, -, -⟩ := await_stall ((issued s i 8).withMem m ps) i 8 wd off .store 1
    { tags := [], pages := [] } (.x rd (BitVec.ofNat 64 n))
  obtain ⟨hframe, hseat, hothers, hregs⟩ := seatMoves_stall ((issued s i 8).withMem m ps) i (.access g)
  rw [← hg] at hframe hseat hothers hregs
  have hmem : t.mem = m := congrArg State.mem hframe
  refine ⟨⟨?_, ⟨g, hseat, hresult, hlen⟩, fun j hj => (hothers j hj).trans (issued_seat_ne s hj 8), fun b hb => ?_, fun a ha => ?_⟩, hmem⟩
  · rw [hmem, show t.pages = ps from congrArg State.pages hframe]
    exact hframe
  · exact (hregs b).trans (if_neg hb)
  · rw [State.byteAt, hmem]
    refine sget_moveBytes_outside fun j hj => ?_
    have := List.mem_range'_1.mp hj
    omega

/-- Settles O20: `fillGo_ok` and `copyGo_ok` give memory after the bytes, `blockEnd_moved` the rest. -/
theorem blockCopyAndFillMoveBytesInOrder : Obligations.BlockCopyAndFillMoveBytesInOrder := by
  intro i rd wd ws rdo rso rv rn s hs x n dst src moved
  have hmem : (issued s i 8).mem = s.mem := issued_mem s i 8
  have hlt {k : Nat} (hk : k ∈ List.range' 0 n) : k < n := by have := List.mem_range'_1.mp hk; omega
  have hwrites (hw : WriteOk (issued s i 8) i wd (x.sx rdo).toNat n 1) :
      Each (fun o => WriteOk (issued s i 8) i wd o 1 1) (x.sx rdo) (List.range' 0 n) :=
    fun k hk => ⟨offset_toNat hw.1 (hlt hk), writeOk_byte hw (hlt hk)⟩
  have hreads (hr : AccessOk (issued s i 8) i ws (x.sx rso).toNat n 1 1) :
      Each (fun o => AccessOk (issued s i 8) i ws o 1 1 1) (x.sx rso) (List.range' 0 n) :=
    fun k hk => ⟨offset_toNat hr.1 (hlt hk), accessOk_byte hr (hlt hk)⟩
  refine ⟨fun h0 => ⟨⟨_, rfl, ?none⟩, ⟨_, rfl, ?none'⟩⟩, fun hpos hw => ⟨_, rfl, ?fill⟩, fun hpos hw hr => ⟨_, rfl, ?copy⟩⟩ <;>
    rw [issue_ready hs] <;> dsimp only
  case none | none' => rw [if_pos (show blockLen x rn = 0 from h0)]; exact seatBecomes_retire _ i 8 _
  case fill =>
    obtain ⟨ps, e⟩ := fillGo_ok ((x.sx rv).setWidth 8) n 0 (issued s i 8) (hwrites hw)
    have hgo : fillGo i wd (x.sx rdo) ((x.sx rv).setWidth 8) (blockLen x rn) 0 (issued s i 8) = _ := e
    rw [if_neg (show ¬ blockLen x rn = 0 from hpos.ne'), hgo, hmem]
    obtain ⟨hmoved, hm⟩ := blockEnd_moved s i rd n wd dst (x.sx rdo) (fun _ _ => (x.sx rv).setWidth 8) ps
    exact ⟨hmoved, fun j hj => (congrArg (sget 0 · (dst + j)) hm).trans
      (sget_moveBytes_const (List.mem_range'_1.mpr ⟨Nat.zero_le j, by omega⟩) s.mem)⟩
  case copy =>
    obtain ⟨ps, e⟩ := copyGo_ok n 0 (issued s i 8) (hwrites hw) (hreads hr)
    have hgo : copyGo i wd ws (x.sx rdo) (x.sx rso) [] (blockLen x rn) 0 (issued s i 8) = _ := e
    rw [if_neg (show ¬ blockLen x rn = 0 from hpos.ne'), hgo, hmem]
    obtain ⟨hmoved, hm⟩ := blockEnd_moved s i rd n wd dst (x.sx rdo) (fun m j => sget 0 m (src + j)) ps
    exact ⟨hmoved, hm.trans (by rw [moveBytes, List.range_eq_range'])⟩

end Sys2Proof.Claims
end

section
/-! PROOFS. The works of the stage units (R109 to R111, R213, R231, R242, R251, R256, R287): the oldest work of a queue, how it
ends and how it begins. -/

namespace Sys2Proof.Machine

/-! ### Registers of the engines' blocks -/

/-- The address lies above the island and the memory registers, as the engines' blocks do. -/
def EngineReg (a : Nat) : Prop := 0xFFFF08000000 ≤ a

theorem engineReg_lcuStatus (e : Nat) : EngineReg (Reg.SEn_LCU_STATUS e) := by unfold EngineReg Reg.SEn_LCU_STATUS; omega
theorem engineReg_ccuLines (e : Nat) : EngineReg (Reg.SEn_CCU_LINES e) := by unfold EngineReg Reg.SEn_CCU_LINES; omega
theorem engineReg_scuStatus (e : Nat) : EngineReg (Reg.SEn_SCU_STATUS e) := by unfold EngineReg Reg.SEn_SCU_STATUS; omega
theorem engineReg_scuLines (e : Nat) : EngineReg (Reg.SEn_SCU_LINES e) := by unfold EngineReg Reg.SEn_SCU_LINES; omega
theorem engineReg_nmuStatus (e : Nat) : EngineReg (Reg.SEn_NMU_STATUS e) := by unfold EngineReg Reg.SEn_NMU_STATUS; omega
theorem engineReg_nmuLostdrop (e : Nat) : EngineReg (Reg.SEn_NMU_LOSTDROP e) := by unfold EngineReg Reg.SEn_NMU_LOSTDROP; omega
theorem engineReg_nmuPcolerr (e : Nat) : EngineReg (Reg.SEn_NMU_PCOLERR e) := by unfold EngineReg Reg.SEn_NMU_PCOLERR; omega
theorem engineReg_nmuLines (e : Nat) : EngineReg (Reg.SEn_NMU_LINES e) := by unfold EngineReg Reg.SEn_NMU_LINES; omega
theorem engineReg_emuStatus (e : Nat) : EngineReg (Reg.SEn_EMU_STATUS e) := by unfold EngineReg Reg.SEn_EMU_STATUS; omega
theorem engineReg_emuEline (e : Nat) : EngineReg (Reg.SEn_EMU_ELINE_LO e) := by unfold EngineReg Reg.SEn_EMU_ELINE_LO; omega
theorem engineReg_icuStatus (e : Nat) : EngineReg (Reg.SEn_ICU_STATUS e) := by unfold EngineReg Reg.SEn_ICU_STATUS; omega

theorem EngineReg.high {a : Nat} (h : EngineReg a) : EngineReg (a + 4) := Nat.le_add_right_of_le h

theorem islandUp_setReg (s : State) {a : Nat} (h : EngineReg a) (v : W32) (e : Nat) : (s.setReg a v).islandUp e = s.islandUp e := by
  unfold EngineReg at h
  have hon : Reg.SYS_ISLAND_ON ≠ a := by unfold Reg.SYS_ISLAND_ON; omega
  have hfence : Reg.SYS_ISLAND_FENCE ≠ a := by unfold Reg.SYS_ISLAND_FENCE; omega
  unfold State.islandUp State.islandOn State.fenced State.bit
  rw [State.reg_setReg_ne s hon, State.reg_setReg_ne s hfence]

theorem front_setReg (s : State) {a : Nat} (h : EngineReg a) (v : W32) (e u : Nat) : (s.setReg a v).front e u = s.front e u := by
  unfold State.front
  rw [islandUp_setReg s h]
  rfl

theorem front_setBit (s : State) {a : Nat} (h : EngineReg a) (i : Nat) (b : Bool) (e u : Nat) : (s.setBit a i b).front e u = s.front e u :=
  front_setReg s h _ e u

theorem front_setReg64 (s : State) {a : Nat} (h : EngineReg a) (v : W64) (e u : Nat) : (s.setReg64 a v).front e u = s.front e u :=
  (front_setReg _ h.high _ e u).trans (front_setReg s h _ e u)

theorem reg64_setReg64 (s : State) (a : Nat) (v : W64) : (s.setReg64 a v).reg64 a = v := by
  have hne : a ≠ a + 4 := by omega
  refine BitVec.eq_of_toNat_eq ?_
  unfold State.reg64 State.setReg64
  rw [State.reg_setReg_same, State.reg_setReg_ne _ hne, State.reg_setReg_same, BitVec.toNat_ofNat, BitVec.toNat_ofNat, BitVec.toNat_ofNat]
  omega

/-! ### An engine's stage units -/

@[simp] theorem eng_setEng (s : State) (e : Nat) (r : EngineRun) : (s.setEng e r).eng e = r := sget_sset_same _ _ _ _

@[simp] theorem eng_setReg (s : State) (a : Nat) (v : W32) (e : Nat) : (s.setReg a v).eng e = s.eng e := rfl

theorem front_setEng (s : State) (k : Nat) (r : EngineRun) (e u : Nat) : (s.setEng k r).front e u = s.front e u := rfl

@[simp] theorem setEng_mem (s : State) (k : Nat) (r : EngineRun) : (s.setEng k r).mem = s.mem := rfl

theorem queue_setQueue (s : State) (e u : Nat) (q : List Work) : (s.setQueue e u q).queue e u = q := by
  unfold State.queue State.setQueue
  exact sget_sset_same _ _ _ _

/-! ### The oldest work of a unit (R109, R110) -/

theorem front_queue {s : State} {e u : Nat} {w : Work} (h : s.front e u = some w) : s.islandUp e = true ∧ ∃ rest, s.queue e u = w :: rest := by
  unfold State.front at h
  split at h
  next hup => exact ⟨hup, List.head?_eq_some_iff.mp h⟩
  next => cases h

theorem modWork_eq {s : State} {e u : Nat} {w : Work} (h : s.front e u = some w) (f : Work → Work) :
    modWork s e u f = s.setQueue e u (f w :: (s.queue e u).tail) := by
  obtain ⟨-, rest, hq⟩ := front_queue h
  unfold modWork
  rw [hq]
  rfl

/-- A change of the oldest work leaves it in its place. -/
theorem front_modWork {s : State} {e u : Nat} {w : Work} (h : s.front e u = some w) (f : Work → Work) :
    (modWork s e u f).front e u = some (f w) := by
  have hup : (s.setQueue e u (f w :: (s.queue e u).tail)).islandUp e = true := (front_queue h).1
  rw [modWork_eq h, State.front, if_pos hup, queue_setQueue]
  rfl

/-- Only the units' queues and registers differ. -/
def WorksRegs (s t : State) : Prop := t = { s with works := t.works, regs := t.regs }

theorem WorksRegs.mem {s t : State} (h : WorksRegs s t) : t.mem = s.mem := by rw [h]
theorem WorksRegs.engines {s t : State} (h : WorksRegs s t) : t.engines = s.engines := by rw [h]

/-- The oldest work has changed and a bit of its unit's registers shows it: nothing else differs. -/
theorem modWork_shown {s : State} {e u a i : Nat} {w : Work} (h : s.front e u = some w) (f : Work → Work) (ha : EngineReg a) (hi : i < 32) (b : Bool) :
    ((modWork s e u f).setBit a i b).front e u = some (f w) ∧ ((modWork s e u f).setBit a i b).bit a i = b ∧
    WorksRegs s ((modWork s e u f).setBit a i b) ∧ ∀ c, c ≠ a → ((modWork s e u f).setBit a i b).reg c = s.reg c := by
  refine ⟨(front_setBit _ ha i b e u).trans (front_modWork h f), State.bit_setBit_same _ _ _ _ hi, ?_, fun c hc => ?_⟩
  · rw [WorksRegs, modWork_eq h]; rfl
  · rw [State.reg_setBit_ne _ hc, modWork_eq h]; rfl

@[simp] theorem completionRecord_length (s : State) (u : Nat) (seq : W32) (done status : Nat) : (completionRecord s u seq done status).length = 16 := by
  simp [completionRecord]

end Sys2Proof.Machine

namespace Sys2Proof.Claims
open Sys2Proof.Machine

/-- The oldest work ends with its record (R110). -/
theorem completeWork_ended {s : State} {e u : Nat} {w : Work} (h : s.front e u = some w) (st : WorkStatus) (done : Nat) :
    WorkEnded s (completeWork s e u st done) e u w st done := by
  obtain ⟨-, rest, hq⟩ := front_queue h
  set v := (s.setQueue e u rest).modSeat w.seat (fun t => { t with stgOut := t.stgOut - 1 })
  have hgo : completeWork s e u st done = writeRecord v w.seat u w.seq w.notify done st.code := by unfold completeWork; rw [hq]
  obtain ⟨ps, ts, heq, hseat⟩ := writeRecord_eq v w.seat u w.seq w.notify done st.code
  have hv : v.seat w.seat = { s.seat w.seat with stgOut := (s.seat w.seat).stgOut - 1 } := State.seat_modSeat_same _ _ _
  have hbytes := bytesAt_putBytes_same (completionRecord v u w.seq done st.code) v.store (recordPlace w.seat w.seq)
  rw [completionRecord_length] at hbytes
  refine ⟨?queue, ?out, ?mem, ?record⟩
  case queue => rw [hgo, heq, hq]; exact queue_setQueue s e u rest
  case out => rw [hgo, hseat, notified_frame, hv]
  case mem => rw [hgo, heq]; rfl
  case record => rw [hgo, heq]; exact hbytes

/-- The registers a unit shows its end in do not touch its work's end. -/
theorem endWork_ended {s : State} {e u : Nat} {w : Work} (h : s.front e u = some w) (st : WorkStatus) (done status : Nat) :
    WorkEnded s (endWork s e u st done status) e u w st done := completeWork_ended h st done

/-! ### What WORK_START does in every unit -/

/-- The meaning of the WORK_START command of unit `u`. -/
def startMeaning (e u : Nat) (s : State) : Host.Outcome State Fault Refusal :=
  match u with
  | 0 => execLcuWorkStart e s | 1 => execCcuWorkStart e s | 2 => execScuWorkStart e s | 3 => execNmuWorkStart e s
  | 4 => execEmuWorkStart e s | _ => execIcuWorkStart e s

theorem exec_startOf (e : Nat) {u : Nat} (hu : u < 6) (s : State) : exec (startOf e u) s = startMeaning e u s := by
  interval_cases u <;> rfl

theorem start_none {s : State} {e u : Nat} (h : s.front e u = none) (hu : u < 6) : startMeaning e u s = .next s := by
  interval_cases u
  · simp only [startMeaning, execLcuWorkStart, h]
  · simp only [startMeaning, execCcuWorkStart, h]
  · simp only [startMeaning, execScuWorkStart, h]
  · simp only [startMeaning, execNmuWorkStart, h]
  · simp only [startMeaning, execEmuWorkStart, h]
  · simp only [startMeaning, execIcuWorkStart, h]

theorem start_started {s : State} {e u : Nat} {w : Work} (h : s.front e u = some w) (hw : w.started = true) (hu : u < 6) :
    startMeaning e u s = .next s := by
  interval_cases u
  · simp only [startMeaning, execLcuWorkStart, h, hw, if_true]
  · simp only [startMeaning, execCcuWorkStart, h, hw, if_true]
  · simp only [startMeaning, execScuWorkStart, h, hw, if_true]
  · simp only [startMeaning, execNmuWorkStart, h, hw, if_true]
  · simp only [startMeaning, execEmuWorkStart, h, hw, if_true]
  · simp only [startMeaning, execIcuWorkStart, h, hw, if_true]

theorem start_refused {s : State} {e u : Nat} {w : Work} (h : s.front e u = some w) (hw : w.started = false) (hd : descOk s e u w = false)
    (hu : u < 6) : startMeaning e u s = .next (completeWork s e u .desc 0) := by
  interval_cases u
  · have hd : lcuValid w = false := hd
    simp only [startMeaning, execLcuWorkStart, h, hw, hd, Bool.false_eq_true, if_false, Bool.not_false, if_true]
  · have hd : ccuValid w = false := hd
    simp only [startMeaning, execCcuWorkStart, h, hw, hd, Bool.false_eq_true, if_false, Bool.not_false, if_true]
  · have hd : scuValid w = false := hd
    simp only [startMeaning, execScuWorkStart, h, hw, hd, Bool.false_eq_true, if_false, Bool.not_false, if_true]
  · have hd : nmuValid w = false := hd
    simp only [startMeaning, execNmuWorkStart, h, hw, hd, Bool.false_eq_true, if_false, Bool.not_false, if_true]
  · have hd : (emuValid s w.desc && inSlot (w.slot 1) (emuRcb w.desc) 64) = false := hd
    simp only [startMeaning, execEmuWorkStart, h, hw, ← Bool.not_and, hd, Bool.false_eq_true, if_false, Bool.not_false, if_true]
  · have hd : icuValid s e w = false := hd
    simp only [startMeaning, execIcuWorkStart, h, hw, hd, Bool.false_eq_true, if_false, Bool.not_false, if_true]

end Sys2Proof.Claims
end

section
/-! PROOFS. WORK_START of the six stage units past their descriptor checks (R213, R218, R231, R237, R242, R249, R251, R256, R287). -/

namespace Sys2Proof.Claims
open Sys2Proof.Machine

section Starts
variable {s : State} {e : Nat} {w : Work}

/-! ### LCU and CCU -/

/-- What becomes of an LCU work past its checks, by the record it takes up in mid-pitch. -/
theorem exec_lcuWorkStart (h : s.front e 0 = some w) (hw : w.started = false) (hv : lcuValid w = true) (hb : lcuBounds w = true)
    {r : Except WorkStatus (List Byte)} (hr : (if lcuLine0 w.desc = 0 then .ok [] else slotRead s w.seat (w.slot 1) (lcuDrec w.desc) 16) = r) :
    (∀ st, r = .error st → exec (.lcuWorkStart e) s = .next (completeWork s e 0 st 0)) ∧
    (∀ bs, r = .ok bs → ∃ f, exec (.lcuWorkStart e) s =
      .next (((modWork s e 0 (fun w => { w with started := true })).setBit (Reg.SEn_LCU_STATUS e) 0 true).modLcu e f)) := by
  subst hr
  change (∀ st, _ → execLcuWorkStart e s = _) ∧ (∀ bs, _ → ∃ f, execLcuWorkStart e s = _)
  simp only [execLcuWorkStart, h, hw, hv, hb, Bool.false_eq_true, if_false, Bool.not_true]
  refine ⟨fun st hst => by rw [hst], fun bs hbs => ?_⟩
  rw [hbs]
  exact ⟨_, rfl⟩

theorem lcuWork_starts (h : s.front e 0 = some w) (hw : w.started = false) (hv : lcuValid w = true) :
    (lcuBounds w = false → Completes (.lcuWorkStart e) s (fun t => WorkEnded s t e 0 w .bounds 0)) ∧
    (lcuBounds w = true → (lcuLine0 w.desc = 0 ∨ ∃ bs, slotRead s w.seat (w.slot 1) (lcuDrec w.desc) 16 = .ok bs) →
      Completes (.lcuWorkStart e) s (fun t => WorkStarted t e 0 w ∧ t.bit (Reg.SEn_LCU_STATUS e) 0 = true ∧ t.mem = s.mem)) ∧
    (∀ st, lcuBounds w = true → lcuLine0 w.desc ≠ 0 → slotRead s w.seat (w.slot 1) (lcuDrec w.desc) 16 = .error st →
      Completes (.lcuWorkStart e) s (fun t => WorkEnded s t e 0 w st 0)) := by
  refine ⟨fun hb => ⟨completeWork s e 0 .bounds 0, ?_, completeWork_ended h _ _⟩, fun hb hr => ?_, fun st hb h0 hr => ?_⟩
  · change execLcuWorkStart e s = _
    simp only [execLcuWorkStart, h, hw, hv, hb, Bool.false_eq_true, if_false, Bool.not_true, Bool.not_false, if_true]
  · obtain ⟨bs, hbs⟩ : ∃ bs, (if lcuLine0 w.desc = 0 then .ok [] else slotRead s w.seat (w.slot 1) (lcuDrec w.desc) 16) = Except.ok bs := by
      rcases hr with h0 | ⟨bs, hbs⟩
      · exact ⟨[], if_pos h0⟩
      · by_cases h0 : lcuLine0 w.desc = 0
        · exact ⟨[], if_pos h0⟩
        · exact ⟨bs, (if_neg h0).trans hbs⟩
    obtain ⟨f, hrun⟩ := (exec_lcuWorkStart h hw hv hb hbs).2 bs rfl
    obtain ⟨hstarted, hbusy, hframe, -⟩ := modWork_shown h (fun w => { w with started := true }) (engineReg_lcuStatus e) (i := 0) (by decide) true
    generalize (modWork s e 0 (fun w => { w with started := true })).setBit (Reg.SEn_LCU_STATUS e) 0 true = v at *
    exact ⟨_, hrun, hstarted, hbusy, hframe.mem⟩
  · exact ⟨_, (exec_lcuWorkStart h hw hv hb ((if_neg h0).trans hr)).1 st rfl, completeWork_ended h _ _⟩

theorem ccuWork_starts (h : s.front e 1 = some w) (hw : w.started = false) (hv : ccuValid w = true) :
    Completes (.ccuWorkStart e) s (fun t => t = { s with works := t.works } ∧ WorkStarted t e 1 w) := by
  refine ⟨modWork s e 1 (fun w => { w with started := true }), ?_, ?_, front_modWork h _⟩
  · change execCcuWorkStart e s = _
    simp only [execCcuWorkStart, h, hw, hv, Bool.false_eq_true, if_false, Bool.not_true]
  · rw [modWork_eq h]
    rfl

/-! ### SCU and NMU -/

theorem scuWork_starts (h : s.front e 2 = some w) (hw : w.started = false) (hv : scuValid w = true) (hed : scuHasEd w.desc = false) :
    Completes (.scuWorkStart e) s (fun t =>
      t = { s with works := t.works, regs := t.regs } ∧ WorkStarted t e 2 w ∧ t.bit (Reg.SEn_SCU_STATUS e) 0 = true) := by
  obtain ⟨hstarted, hbusy, hframe, -⟩ := modWork_shown h (fun w => { w with started := true }) (engineReg_scuStatus e) (i := 0) (by decide) true
  refine ⟨_, ?_, hframe, hstarted, hbusy⟩
  change execScuWorkStart e s = _
  simp only [execScuWorkStart, h, hw, hv, hed, Bool.false_eq_true, if_false, Bool.not_true, Bool.not_false, if_true]

theorem nmuWork_starts {rcb : List Byte} {depth : Nat} (h : s.front e 3 = some w) (hw : w.started = false) (hv : nmuValid w = true)
    (hshadow : s.shadow e = true) (hrcb : readRcb s w.seat (w.slot 1) (nmuRcb w.desc) = .ok rcb) (hdepth : depthOf rcb = some (depth, false))
    (hring : inSlot (w.slot 1) (nmuRing w.desc) (depth * nmuRstride w.desc) = true) :
    Completes (.nmuWorkStart e) s (fun t =>
      WorkStarted t e 3 w ∧ (t.eng e).nmuDepth = depth ∧ t.bit (Reg.SEn_NMU_STATUS e) 0 = true ∧ t.mem = s.mem) := by
  have hfront : (s.setEng e { s.eng e with nmuDepth := depth }).front e 3 = some w := h
  obtain ⟨hstarted, hbusy, hframe, -⟩ := modWork_shown hfront (fun w => { w with started := true }) (engineReg_nmuStatus e) (i := 0) (by decide) true
  have hrun : exec (.nmuWorkStart e) s = .next ((modWork (s.setEng e { s.eng e with nmuDepth := depth }) e 3
      (fun w => { w with started := true })).setBit (Reg.SEn_NMU_STATUS e) 0 true) := by
    change execNmuWorkStart e s = _
    simp only [execNmuWorkStart, h, hw, hv, hrcb, hdepth, hring, hshadow, Bool.false_eq_true, if_false, Bool.not_true, Bool.false_and, Bool.or_false,
      if_true]
  generalize (modWork (s.setEng e { s.eng e with nmuDepth := depth }) e 3 (fun w => { w with started := true })).setBit
    (Reg.SEn_NMU_STATUS e) 0 true = v at *
  have heng : v.eng e = { s.eng e with nmuDepth := depth } := by
    rw [State.eng, hframe.engines]
    exact eng_setEng s e _
  exact ⟨v, hrun, hstarted, congrArg EngineRun.nmuDepth heng, hbusy, hframe.mem⟩

/-! ### EMU and ICU -/

/-- The record of an EMU work that starts. -/
def emuRunOf (v : State) (w : Work) (depth : Nat) : EmuRun where
  desc := w.desc
  slots := w.slots
  seat := w.seat
  count := some w.count
  eline0 := emuEline0 w.desc
  depth := depth
  due := emuEline0 w.desc
  next := List.replicate (emuNb w.desc) (emuEline0 w.desc)
  halted := (v.webPos (emuWeb w.desc)).isNone
  resendBelow := emuEline0 w.desc
  boardData := []
  tookAt := none

theorem emuStatus_regs (s : State) (e : Nat) : ∃ a b, emuStatus s e = (s.setFld (Reg.SEn_EMU_STATUS e) 1 0 a).setBit (Reg.SEn_EMU_STATUS e) 3 b :=
  ⟨_, _, rfl⟩

/-- A run of the EMU set and its first line shown: the queues and memory are kept. -/
theorem setEmu_showEline (v : State) (e l : Nat) (r : EmuRun) : ∃ t, (v.setEmu e (some r)).showEline e l = t ∧
    (∀ u, t.front e u = v.front e u) ∧ t.mem = v.mem ∧ t.elineOf e = l % 2 ^ 64 ∧ (t.eng e).emu = some r := by
  obtain ⟨a, b, hx⟩ := emuStatus_regs (v.setEng e { v.eng e with emu := some r }) e
  have hset : v.setEmu e (some r) = _ := hx
  refine ⟨_, rfl, fun u => ?front, ?mem, ?eline, ?eng⟩
  case front =>
    rw [State.showEline, front_setReg64 _ (engineReg_emuEline e), hset, front_setBit _ (engineReg_emuStatus e), State.setFld,
      front_setReg _ (engineReg_emuStatus e), front_setEng]
  case mem => rw [hset]; simp [State.showEline, State.setReg64, State.setBit, State.setFld]
  case eline => rw [State.elineOf, State.showEline, reg64_setReg64, BitVec.toNat_ofNat]
  case eng => rw [hset]; simp [State.showEline, State.setReg64, State.setBit, State.setFld]

theorem emuWork_starts {rcb : List Byte} {depth : Nat} {v : State} (h : s.front e 4 = some w) (hw : w.started = false) (hv : emuValid s w.desc = true)
    (hin : inSlot (w.slot 1) (emuRcb w.desc) 64 = true) (hrcb : readRcb s w.seat (w.slot 1) (emuRcb w.desc) = .ok rcb)
    (hdepth : depthOf rcb = some (depth, false)) (hring : inSlot (w.slot 0) (emuRing w.desc) (depth * emuRstride w.desc) = true)
    (hline : leAt rcb 8 8 = emuEline0 w.desc) (hwrite : slotWrite s w.seat (w.slot 1) (emuRcb w.desc + 20) (leBytes 4 depth) = .ok v)
    (hworks : v.works = s.works) (hup : v.islandUp e = true) :
    Completes (.emuWorkStart e) s (fun t => WorkStarted t e 4 w ∧ t.mem = v.mem ∧ t.elineOf e = emuEline0 w.desc % 2 ^ 64 ∧
      ∃ r, (t.eng e).emu = some r ∧ r.desc = w.desc ∧ r.count = some w.count ∧ r.due = emuEline0 w.desc ∧ r.depth = depth ∧
        r.next = List.replicate (emuNb w.desc) (emuEline0 w.desc)) := by
  have hfront : v.front e 4 = some w := by
    rw [State.front, if_pos hup, State.queue, hworks, ← State.queue]
    rwa [State.front, if_pos (front_queue h).1] at h
  have hstarted := front_modWork hfront (fun w => { w with started := true })
  have hmem : (modWork v e 4 (fun w => { w with started := true })).mem = v.mem := by rw [modWork_eq hfront]; rfl
  have hrun : exec (.emuWorkStart e) s = .next
      ((((modWork v e 4 (fun w => { w with started := true })).setEng e { (modWork v e 4 (fun w => { w with started := true })).eng e with
        emuLast := some (emuWeb w.desc, emuAdv w.desc) }).setEmu e (some (emuRunOf v w depth))).showEline e (emuEline0 w.desc)) := by
    change execEmuWorkStart e s = _
    simp only [execEmuWorkStart, h, hw, hv, hin, hrcb, hdepth, hring, hline, hwrite, Bool.false_eq_true, if_false, Bool.not_true, Bool.or_false,
      bne_self_eq_false]
    rfl
  generalize modWork v e 4 (fun w => { w with started := true }) = u at *
  obtain ⟨t, ht, hkeep, hmemory, heline, hrunning⟩ := setEmu_showEline (u.setEng e { u.eng e with emuLast := some (emuWeb w.desc, emuAdv w.desc) }) e
    (emuEline0 w.desc) (emuRunOf v w depth)
  exact ⟨t, hrun.trans (congrArg _ ht), (hkeep 4).trans hstarted, hmemory.trans hmem, heline, emuRunOf v w depth, hrunning, rfl, rfl, rfl, rfl, rfl⟩

/-- The ICU's record of a work that starts, with ADJ as written. -/
def icuBegun (w : Work) (adj : Int) (r : IcuRun) : IcuRun :=
  { r with streams := List.replicate (icuNstr w.desc) IcuStream.init, rows := [], adj := adj, floor := icuFirst w.desc, due := none,
           evaluating := false, cancel := false }

theorem icuWork_starts {hdr : List Byte} (h : s.front e 5 = some w) (hw : w.started = false) (hv : icuValid s e w = true)
    (hread : slotRead s w.seat (w.slot 2) (icuState w.desc) 8 = .ok hdr) (hfresh : icuFresh w.desc = false) (hfirst : leNat hdr = icuFirst w.desc) :
    Completes (.icuWorkStart e) s (fun t => WorkStarted t e 5 w ∧ t.bit (Reg.SEn_ICU_STATUS e) 0 = true ∧
      (t.eng e).icu.streams = List.replicate (icuNstr w.desc) IcuStream.init ∧ (t.eng e).icu.floor = icuFirst w.desc ∧
      (t.eng e).icu.adj = s.icuAdj e ∧ t.mem = s.mem) := by
  obtain ⟨hstarted, hbusy, hframe, hregs⟩ := modWork_shown h (fun w => { w with started := true }) (engineReg_icuStatus e) (i := 0) (by decide) true
  have hrun : exec (.icuWorkStart e) s = .next (((modWork s e 5 (fun w => { w with started := true })).setBit (Reg.SEn_ICU_STATUS e) 0 true).modIcu e
      (icuBegun w (((modWork s e 5 (fun w => { w with started := true })).setBit (Reg.SEn_ICU_STATUS e) 0 true).icuAdj e))) := by
    change execIcuWorkStart e s = _
    simp only [execIcuWorkStart, h, hw, hv, hread, hfresh, hfirst, Bool.false_eq_true, if_false, Bool.not_true, Bool.not_false, Bool.true_and,
      beq_self_eq_true, if_true]
    rfl
  generalize (modWork s e 5 (fun w => { w with started := true })).setBit (Reg.SEn_ICU_STATUS e) 0 true = v at *
  have hicu : ((v.modIcu e (icuBegun w (v.icuAdj e))).eng e).icu = icuBegun w (v.icuAdj e) (v.eng e).icu := congrArg EngineRun.icu (eng_setEng v e _)
  have hkept : v.icuAdj e = s.icuAdj e := by
    unfold State.icuAdj State.fld
    rw [hregs _ (by unfold Reg.SEn_ICU_ADJ Reg.SEn_ICU_STATUS; omega)]
  exact ⟨_, hrun, hstarted, hbusy, by rw [hicu]; rfl, by rw [hicu]; rfl, by rw [hicu, hkept]; rfl, hframe.mem⟩

end Starts

/-- Settles O44: the shared checks by unit, then each unit's own start. -/
theorem stageUnitsStartAndEndTheirWorks : Obligations.StageUnitsStartAndEndTheirWorks := by
  intro e w s _
  refine ⟨fun u hu => ?_, fun h hw hv => lcuWork_starts h hw hv, fun h hw hv => ccuWork_starts h hw hv,
    fun h hw hv hed => scuWork_starts h hw hv hed,
    fun rcb depth h hw hv hs hr hd hin => nmuWork_starts h hw hv hs hr hd hin,
    fun rcb depth v h hw hv hin hr hd hring hline hwrite hworks hup => emuWork_starts h hw hv hin hr hd hring hline hwrite hworks hup,
    fun hdr h hw hv hread hfresh hfirst => icuWork_starts h hw hv hread hfresh hfirst⟩
  have hrun := exec_startOf e hu s
  refine ⟨fun h => ⟨s, hrun.trans (start_none h hu), rfl⟩, fun h hw => ⟨s, hrun.trans (start_started h hw hu), rfl⟩,
    fun h hw hd => ⟨_, hrun.trans (start_refused h hw hd hu), completeWork_ended h _ _⟩⟩

end Sys2Proof.Claims
end

section
/-! PROOFS. What the stage units' lines are made of: writes through slot windows (R110, R111), padded planes (R208), and the
decision that uses every layer (R217, R218). -/

namespace Sys2Proof.Machine

/-! ### What a unit's line shows of itself -/

theorem WorksRegs.store {s t : State} (h : WorksRegs s t) : t.store = s.store := by rw [h]

theorem reg_countMod_same (s : State) (a : Nat) : (s.countMod a 1).reg a = s.reg a + 1 := by
  rw [State.countMod, State.reg_setReg_same, BitVec.ofNat_add, BitVec.ofNat_toNat, BitVec.setWidth_eq]
  rfl

theorem front_countMod (s : State) {a : Nat} (h : EngineReg a) (n e u : Nat) : (s.countMod a n).front e u = s.front e u :=
  front_setReg s h _ e u

/-! ### Writes through a slot window (R110, R111) -/

/-- Only what memory and the local stores hold differs, and what is known of their pages. -/
def StoresOnly (s t : State) : Prop := t = { s with mem := t.mem, store := t.store, storePoison := t.storePoison, pages := t.pages }

theorem StoresOnly.trans {s t u : State} (h : StoresOnly s t) (k : StoresOnly t u) : StoresOnly s u := by
  unfold StoresOnly at *
  rw [k, h]

theorem StoresOnly.front {s t : State} (h : StoresOnly s t) (e u : Nat) : t.front e u = s.front e u := by rw [h]; rfl
theorem StoresOnly.reg {s t : State} (h : StoresOnly s t) (a : Nat) : t.reg a = s.reg a := by rw [h]; rfl
theorem StoresOnly.eng {s t : State} (h : StoresOnly s t) (e : Nat) : t.eng e = s.eng e := by rw [h]; rfl

theorem memWrite_storesOnly {s t : State} {a : Nat} {bs : List Byte} (h : s.memWrite a bs = some t) : StoresOnly s t := by
  unfold State.memWrite at h
  split at h
  · obtain ⟨ps, e⟩ := markCells_frame { s with mem := putBytes s.mem a bs } a bs.length
    obtain ⟨qs, f⟩ := encode_frame (spanning 2048 a bs.length) (({ s with mem := putBytes s.mem a bs }).markCells a bs.length)
    rw [f, e] at h
    cases h
    rfl
  · cases h

theorem storeWrite_storesOnly (s : State) (a : Nat) (bs : List Byte) : StoresOnly s (s.storeWrite a bs) := by
  obtain ⟨ps, h⟩ := storeWrite_eq s a bs
  rw [h]
  rfl

theorem slotWrite_storesOnly {s t : State} {seat off : Nat} {d : Desc} {bs : List Byte} (h : slotWrite s seat d off bs = .ok t) :
    StoresOnly s t := by
  unfold slotWrite at h
  split at h
  · cases h; rfl
  split at h
  · cases h
  split at h
  · split at h
    · cases h
    split at h
    next hw => cases h; exact memWrite_storesOnly hw
    next => cases h
  · cases h; exact storeWrite_storesOnly s _ bs
  · cases h

/-- A write through a window of device memory whose bytes carry its tag and whose pages take writes. -/
theorem slotWrite_memory {s : State} {seat off a : Nat} {d : Desc} {bs : List Byte} (hpos : 0 < bs.length) (ht : target s seat d off = .memory a)
    (hin : off + bs.length ≤ dLen d) (htag : s.tagsMatch a bs.length (dKtag d) = true) (hm : a + bs.length ≤ s.memSize)
    (hp : ∀ p ∈ spanning 2048 a bs.length, s.pageWritable p = true) :
    ∃ ps, slotWrite s seat d off bs = .ok (s.withMem (putBytes s.mem a bs) ps) := by
  obtain ⟨ps, e⟩ := memWrite_some hm hp
  have hne : ¬ bs.isEmpty = true := by simpa using List.length_pos_iff.mp hpos
  refine ⟨ps, ?_⟩
  unfold slotWrite
  rw [if_neg hne, if_neg (Nat.not_lt.mpr hin), ht]
  dsimp only
  rw [htag, e]
  rfl

/-! ### Which pages take writes (R172, R176) -/

theorem region_setReg (s : State) {a : Nat} (h : EngineReg a) (v : W32) (g : Nat) : (s.setReg a v).region g = s.region g := by
  unfold EngineReg at h
  unfold State.region State.fld
  refine List.find?_congr fun k hk => ?_
  have hk := List.mem_range.mp hk
  have hbase : Reg.MEM_RGNk_BASE k ≠ a := by unfold Reg.MEM_RGNk_BASE; omega
  have hcount : Reg.MEM_RGNk_COUNT k ≠ a := by unfold Reg.MEM_RGNk_COUNT; omega
  rw [State.reg_setReg_ne s hbase, State.reg_setReg_ne s hcount]

theorem stackLost_setReg (s : State) {a : Nat} (h : EngineReg a) (v : W32) (n : Nat) : (s.setReg a v).stackLost n = s.stackLost n := by
  unfold EngineReg at h
  have hstatus : Reg.MEM_STATUS ≠ a := by unfold Reg.MEM_STATUS; omega
  unfold State.stackLost State.bit
  rw [State.reg_setReg_ne s hstatus]

theorem mirrored_setReg (s : State) {a : Nat} (h : EngineReg a) (v : W32) (p : Nat) : (s.setReg a v).mirrored p = s.mirrored p := by
  unfold State.mirrored
  rw [region_setReg s h]
  split
  next k hk =>
    have hk := List.mem_range.mp (List.mem_of_find?_eq_some hk)
    have hcfg : Reg.MEM_RGNk_CFG k ≠ a := by unfold EngineReg at h; unfold Reg.MEM_RGNk_CFG; omega
    unfold State.fld
    rw [State.reg_setReg_ne s hcfg]
  next => rfl

theorem pageWritable_setReg (s : State) {a : Nat} (h : EngineReg a) (v : W32) (p : Nat) : (s.setReg a v).pageWritable p = s.pageWritable p := by
  unfold State.pageWritable
  simp only [stackLost_setReg s h, mirrored_setReg s h]
  rfl

/-! ### Planes (R208) -/

theorem pels16_length : ∀ (n : Nat) (bs : List Byte), (pels16 n bs).length = n
  | 0, _ => rfl
  | n + 1, a :: b :: bs => by rw [pels16, List.length_cons, pels16_length n bs]
  | n + 1, [a] => by rw [pels16, List.length_cons, List.length_replicate]
  | n + 1, [] => by rw [pels16, List.length_replicate]

theorem length_flatMap_const {α β : Type} {f : α → List β} {n : Nat} : ∀ {l : List α},
    (∀ x ∈ l, (f x).length = n) → (l.flatMap f).length = l.length * n
  | [], _ => by simp
  | x :: l, h => by
    obtain ⟨hx, hl⟩ := List.forall_mem_cons.mp h
    rw [List.flatMap_cons, List.length_append, hx, length_flatMap_const hl, List.length_cons, Nat.succ_mul, Nat.add_comm]

/-- A plane of a line, padded to its stride. -/
def planeBytes (n : Nat) (q : List Nat) : List Byte := padTo (pstride n) (bytes16 q)

theorem planeBytes_length {n : Nat} {q : List Nat} (h : q.length = n) : (planeBytes n q).length = pstride n := by
  have hbytes : (bytes16 q).length = 2 * n := by
    rw [bytes16, length_flatMap_const (n := 2) fun _ _ => leBytes_length 2 _, h, Nat.mul_comm]
  have hstride : 2 * n ≤ pstride n := by unfold pstride up256; omega
  rw [planeBytes, padTo, List.length_append, List.length_replicate, hbytes]
  omega

theorem pstride_pos {n : Nat} (h : 0 < n) : 0 < pstride n := by unfold pstride up256; omega

/-! ### The decision that uses every layer (R217, R218) -/

theorem hasBit_allOnes {n i : Nat} (h : i < n) : hasBit (2 ^ n - 1) i = true := by
  have hbit := Nat.testBit_two_pow_sub_one n i
  rw [Nat.testBit_eq_decide_div_mod_eq, decide_eq_true h] at hbit
  rw [hasBit, of_decide_eq_true hbit]
  rfl

/-- No layer satisfies `f`. -/
theorem layerBits_none {d : List Byte} {f : Nat → Layer → Bool} (h : ∀ i l, i < lcuNlay d → f i l = false) : layerBits d f = 0 := by
  have hfold : ∀ q : List (Layer × Nat), (∀ x ∈ q, f x.2 x.1 = false) → q.foldl (fun m x => if f x.2 x.1 then m + 2 ^ x.2 else m) 0 = 0 := by
    intro q
    induction q with
    | nil => intro _; rfl
    | cons x q ih =>
      intro hq
      obtain ⟨hx, hq⟩ := List.forall_mem_cons.mp hq
      rw [List.foldl_cons, hx]
      exact ih hq
  refine hfold _ fun x hx => h x.2 x.1 ?_
  have hlt := List.snd_lt_of_mem_zipIdx hx
  simpa [lcuLayers] using hlt

/-- The decision of a pitch for which all `n` layers are ready. -/
def allUsed (p n : Nat) : Decision := { pitch := p, used := 2 ^ n - 1, late := 0, err := 0, flags := 0, dropped := 0 }

theorem decide'_allReady (s : State) (w : Work) (p : Nat) : decide' s w p (2 ^ lcuNlay w.desc - 1) 0 = allUsed p (lcuNlay w.desc) := by
  have hlate : layerBits w.desc (fun i _ => !hasBit (2 ^ lcuNlay w.desc - 1) i) = 0 :=
    layerBits_none fun i l hi => by rw [hasBit_allOnes hi]; rfl
  have hzero (i : Nat) : hasBit 0 i = false := by simp [hasBit]
  have hrepeat : layerBits w.desc (fun i l => hasBit 0 i && l.policy == 0) = 0 := layerBits_none fun i l _ => by rw [hzero]; rfl
  have hfall : layerBits w.desc (fun i l => hasBit 0 i && l.policy == 1 && !retainedValid s w l p) = 0 :=
    layerBits_none fun i l _ => by rw [hzero]; rfl
  unfold decide'
  dsimp only
  rw [hlate, hfall, hrepeat]
  rfl

/-- The state in which a decision is written: the registers and the unit show it (R218, R232). -/
def decided (s : State) (e : Nat) (x : Decision) : State :=
  ((((s.setReg64 (Reg.SEn_LCU_PITCH_LO e) (BitVec.ofNat 64 x.pitch)).setBit (Reg.SEn_LCU_STATUS e) 1 false).setBit (Reg.SEn_LCU_STATUS e) 2
    (x.flags % 2 == 1)).count (Reg.SEn_LCU_LATE_CNT e) ((List.range 8).filter (hasBit x.late)).length).modLcu e (fun r => { r with decision := some x })

/-- A decision without a late layer, once written, is all there is to do. -/
theorem applyDecision_written {s v : State} {e : Nat} {w : Work} {x : Decision} (hlate : x.late = 0) (h : decisionRecord (decided s e x) w x = .ok v) :
    applyDecision s e w x = v := by
  unfold decided at h
  unfold applyDecision
  dsimp only
  rw [h]
  exact if_pos hlate

theorem decisionRecord_allUsed (s : State) (w : Work) (p n : Nat) : decisionRecord s w (allUsed p n) =
    slotWrite s w.seat (w.slot 1) (lcuDrec w.desc) (leBytes 8 p ++ leBytes 1 (2 ^ n - 1) ++ List.replicate 7 0) := by
  have hzeros : leBytes 1 0 ++ (leBytes 1 0 ++ (leBytes 1 0 ++ [0, 0, 0, 0])) = (List.replicate 7 0 : List Byte) := by decide
  rw [← hzeros, decisionRecord]
  simp only [allUsed, List.append_assoc]

theorem decided_allUsed (s : State) (e p n : Nat) : decided s e (allUsed p n) =
    ((((s.setReg64 (Reg.SEn_LCU_PITCH_LO e) (BitVec.ofNat 64 p)).setBit (Reg.SEn_LCU_STATUS e) 1 false).setBit (Reg.SEn_LCU_STATUS e) 2 false).count
      (Reg.SEn_LCU_LATE_CNT e) 0).modLcu e (fun r => { r with decision := some (allUsed p n) }) := by
  have hlate : ((List.range 8).filter (hasBit (allUsed p n).late)).length = 0 :=
    (by decide : ((List.range 8).filter (hasBit 0)).length = 0)
  have hspoil : ((allUsed p n).flags % 2 == 1) = false := rfl
  rw [decided, hlate, hspoil]
  rfl

theorem lcu_modLcu (s : State) (e : Nat) (f : LcuRun → LcuRun) : ((s.modLcu e f).eng e).lcu = f (s.eng e).lcu := by
  rw [State.modLcu, eng_setEng]

end Sys2Proof.Machine
end

section
/-! PROOFS. The line commands of LCU, CCU, SCU and NMU (R215 to R218, R222, R226, R234, R240, R245, R250). -/

namespace Sys2Proof.Machine

theorem modWork_mem {s : State} {e u : Nat} {w : Work} (h : s.front e u = some w) (f : Work → Work) : (modWork s e u f).mem = s.mem := by
  rw [modWork_eq h]; rfl

theorem modWork_reg {s : State} {e u : Nat} {w : Work} (h : s.front e u = some w) (f : Work → Work) (a : Nat) :
    (modWork s e u f).reg a = s.reg a := by
  rw [modWork_eq h]; rfl

theorem front_withMem (s : State) (m : SMap Byte) (ps : SMap Page) (e u : Nat) : (s.withMem m ps).front e u = s.front e u := rfl

/-! ### CCU lines without table and curves (R226) -/

theorem mapM_ok {α β ε : Type} {f : α → Except ε β} {g : α → β} : ∀ {l : List α}, (∀ a ∈ l, f a = .ok (g a)) → l.mapM f = .ok (l.map g)
  | [], _ => rfl
  | a :: l, h => by
    obtain ⟨ha, hl⟩ := List.forall_mem_cons.mp h
    rw [List.mapM_cons, ha, mapM_ok hl]
    rfl

/-- A list read at each of its places. -/
theorem map_getD_range {α : Type} (d : α) {l : List α} {n : Nat} (h : l.length = n) : (List.range n).map (fun i => (l[i]?).getD d) = l := by
  subst h
  refine List.ext_getElem (by simp) fun i _ hi => ?_
  simp [List.getElem?_eq_getElem hi]

theorem convertPel_planes {w : Work} (hgrid : ccuGrid w.desc = 0) (hmask : ccuCmask w.desc = 0) (hsrc : ∀ k, k < ccuInks w.desc → ccuSrc w.desc k ≤ 7)
    (s : State) (x : List Nat) : convertPel s w x = .ok ((List.range (ccuInks w.desc)).map (fun k => (x[ccuSrc w.desc k]?).getD 0)) := by
  have hzero (k : Nat) : hasBit 0 k = false := by simp [hasBit]
  unfold convertPel
  dsimp only
  rw [if_pos hgrid]
  refine mapM_ok fun k hk => ?_
  rw [if_pos (hsrc k (List.mem_range.mp hk)), hmask, hzero]
  rfl

theorem convertLine_planes {s : State} {w : Work} {bs : List Byte} (hgrid : ccuGrid w.desc = 0) (hmask : ccuCmask w.desc = 0)
    (hsrc : ∀ k, k < ccuInks w.desc → ccuSrc w.desc k ≤ 7)
    (hread : slotRead s w.seat (w.slot 0) (((leAt w.desc 24 4 + w.done) % leAt w.desc 18 2) * leAt w.desc 20 4) (8 * pstride (ccuPels w.desc)) = .ok bs) :
    convertLine s w = .ok ((List.range (ccuInks w.desc)).flatMap (fun k =>
      planeBytes (ccuPels w.desc) (pels16 (ccuPels w.desc) (bs.drop (ccuSrc w.desc k * pstride (ccuPels w.desc)))))) := by
  unfold convertLine
  dsimp only
  rw [hread]
  dsimp only
  rw [mapM_ok fun i _ => convertPel_planes hgrid hmask hsrc s _]
  refine congrArg Except.ok (List.flatMap_congr fun k hk => congrArg (planeBytes (ccuPels w.desc)) ?_)
  have hk := List.mem_range.mp hk
  have hplane : ccuSrc w.desc k < 8 := Nat.lt_succ_of_le (hsrc k hk)
  rw [List.map_map, ← map_getD_range 0 (pels16_length (ccuPels w.desc) (bs.drop (ccuSrc w.desc k * pstride (ccuPels w.desc))))]
  refine List.map_congr_left fun i _ => ?_
  simp [hk, hplane]

/-! ### SCU lines (R234, R237) -/

theorem writeRows_storesOnly {w : Work} {base : Nat} {hdr : List Byte} : ∀ {l : List (Nat × List Int)} {s t : State},
    writeRows s w base hdr l = .ok t → StoresOnly s t
  | [], _, _, h => slotWrite_storesOnly h
  | (k, r) :: l, s, t, h => by
    unfold writeRows at h
    split at h
    next hv => exact (slotWrite_storesOnly hv).trans (writeRows_storesOnly h)
    next => cases h

theorem screenLine_storesOnly {s v : State} {w : Work} {y : Nat} {rows : List (Option (List Int))} (h : screenLine s w y = .ok (v, rows)) :
    StoresOnly s v := by
  unfold screenLine at h
  dsimp only at h
  split at h
  · cases h
  split at h
  · cases h
  split at h
  · cases h
  next u hu =>
    split at h
    · split at h
      · cases h
      next hrows => cases h; exact (slotWrite_storesOnly hu).trans (writeRows_storesOnly hrows)
    · cases h
      exact slotWrite_storesOnly hu

/-! ### NMU lines (R245, R246) -/

/-- A computed line counts drops and entries, and changes nothing else. -/
theorem nmuCompute_counts {s u : State} {e y : Nat} {w : Work} {line : List Byte} (h : nmuCompute s e w y = .ok (u, line)) :
    ∃ n m, u = (s.count (Reg.SEn_NMU_LOSTDROP e) n).count (Reg.SEn_NMU_PCOLERR e) m := by
  unfold nmuCompute at h
  split at h
  · cases h
  · cases h
    exact ⟨_, _, rfl⟩

end Sys2Proof.Machine

namespace Sys2Proof.Claims
open Sys2Proof.Machine

section Lines
variable {s : State} {e : Nat} {w : Work}

/-! ### The LCU's decision (R215, R217, R218) -/

theorem lcu_waits {p : Nat} (h : lcuNeeds s e = some (w, p)) (hshadow : s.shadow e = false) :
    Completes (.lcuReadyPoll e) s (fun t => t = { s with engines := t.engines } ∧ (t.eng e).lcu.ready = readyNow s e w p ∧
      (t.eng e).lcu.decision = (s.eng e).lcu.decision) ∧
    (readyNow s e w p ≠ 2 ^ lcuNlay w.desc - 1 → decPassed s w.desc p = false → Completes (.lcuBoundaryDecision e) s (fun t =>
      t = { s with engines := t.engines, regs := t.regs } ∧ (t.eng e).lcu.decision = (s.eng e).lcu.decision ∧ t.bit (Reg.SEn_LCU_STATUS e) 1 = true)) := by
  have hnoted := lcu_modLcu s e (fun r => { r with readyFor := p, ready := readyNow s e w p })
  refine ⟨⟨s.modLcu e (fun r => { r with readyFor := p, ready := readyNow s e w p }), ?poll, rfl, ?_, ?_⟩, fun hready hdec =>
    ⟨(s.modLcu e (fun r => { r with readyFor := p, ready := readyNow s e w p })).setBit (Reg.SEn_LCU_STATUS e) 1 true, ?wait, rfl, ?_,
      State.bit_setBit_same _ _ _ _ (by decide)⟩⟩
  case poll =>
    change execLcuReadyPoll e s = _
    simp only [execLcuReadyPoll, h]
  case wait =>
    change execLcuBoundaryDecision e s = _
    simp only [execLcuBoundaryDecision, h, hshadow, hready, hdec, Bool.false_eq_true, if_false]
  · rw [hnoted]
  · rw [hnoted]
  · rw [State.setBit, eng_setReg, hnoted]

theorem lcu_usesAll {p : Nat} {v : State} (h : lcuNeeds s e = some (w, p)) (hshadow : s.shadow e = false)
    (hready : readyNow s e w p = 2 ^ lcuNlay w.desc - 1)
    (hwrite : decisionRecord (decided s e (allUsed p (lcuNlay w.desc))) w (allUsed p (lcuNlay w.desc)) = .ok v) :
    Completes (.lcuBoundaryDecision e) s (fun t => t.mem = v.mem ∧ t.store = v.store ∧ (t.eng e).lcu.decision = some (allUsed p (lcuNlay w.desc))) := by
  have hv : StoresOnly (decided s e (allUsed p (lcuNlay w.desc))) v := slotWrite_storesOnly hwrite
  refine ⟨v, ?_, rfl, rfl, ?_⟩
  · change execLcuBoundaryDecision e s = _
    simp only [execLcuBoundaryDecision, h, hshadow, hready, Bool.false_eq_true, if_false, if_true]
    rw [decide'_allReady, applyDecision_written rfl hwrite]
  · rw [hv.eng, decided, lcu_modLcu]

theorem lcu_idle (h : lcuNeeds s e = none) :
    Completes (.lcuReadyPoll e) s (fun t => t = s) ∧ Completes (.lcuBoundaryDecision e) s (fun t => t = s) := by
  refine ⟨⟨s, ?_, rfl⟩, ⟨s, ?_, rfl⟩⟩
  · change execLcuReadyPoll e s = _
    simp only [execLcuReadyPoll, h]
  · change execLcuBoundaryDecision e s = _
    simp only [execLcuBoundaryDecision, h]

/-! ### LCU lines (R208, R222) -/

/-- The base planes of an LCU line without layers. -/
def basePlanes (d : List Byte) : List (List Nat) := (List.range 8).map (fun k => List.replicate (lcuPels d) (leAt d (48 + 2 * k) 2))

/-- A pitch that is not spoiled keeps its planes as they are. -/
theorem spoilMark_none {x : Decision} (h : x.flags = 0) (d : List Byte) (y : Nat) (planes : List (List Nat)) : spoilMark d x y planes = planes := by
  unfold spoilMark
  exact if_neg (by simp [h])

/-- A line without layers, written inside its pitch and its work, passes. -/
theorem exec_lcuLine_base {x : Decision} {v : State} (h : s.front e 0 = some w) (hw : w.started = true) (hlast : w.done + 1 < w.count)
    (hx : (s.eng e).lcu.decision = some x) (hpitch : x.pitch = (lcuAt w.desc w.done).1) (hnlay : lcuNlay w.desc = 0) (hflags : x.flags = 0)
    (hend : (lcuAt w.desc w.done).2 + 1 ≠ lcuPlen w.desc)
    (hwrite : slotWrite ((s.modLcu e (fun r => { r with decision := some x })).setBit (Reg.SEn_LCU_STATUS e) 2 (x.flags % 2 == 1)) w.seat (w.slot 0)
      ((lcuOline0 w.desc + w.done) % lcuOring w.desc * lcuOstride w.desc) ((basePlanes w.desc).flatMap (planeBytes (lcuPels w.desc))) = .ok v) :
    exec (.lcuLine e) s = .next (modWork v e 0 (fun w => { w with done := w.done + 1 })) := by
  have hlayers : lcuLayers w.desc = [] := by rw [lcuLayers, hnlay]; rfl
  unfold planeBytes basePlanes at hwrite
  change execLcuLine e s = _
  simp only [execLcuLine, h, hx, hw, hpitch, hlayers, composeLayers, spoilMark_none hflags, hwrite, hend, hlast.ne, Bool.not_true, Bool.false_or,
    ne_eq, not_true_eq_false, decide_false, Bool.false_eq_true, if_false]

theorem lcuLine_base {x : Decision} {a : Nat} (h : s.front e 0 = some w) (hw : w.started = true) (hlast : w.done + 1 < w.count)
    (hx : (s.eng e).lcu.decision = some x) (hpitch : x.pitch = (lcuAt w.desc w.done).1) (hnlay : lcuNlay w.desc = 0) (hflags : x.flags = 0)
    (hend : (lcuAt w.desc w.done).2 + 1 ≠ lcuPlen w.desc) (hpels : 0 < lcuPels w.desc) :
    let off := (lcuOline0 w.desc + w.done) % lcuOring w.desc * lcuOstride w.desc
    let n := 8 * pstride (lcuPels w.desc)
    target s w.seat (w.slot 0) off = .memory a → off + n ≤ dLen (w.slot 0) → s.tagsMatch a n (dKtag (w.slot 0)) = true → a + n ≤ s.memSize →
    (∀ p ∈ spanning 2048 a n, s.pageWritable p = true) →
    Completes (.lcuLine e) s (fun t => bytesAt t.mem a n = (List.range 8).flatMap (fun k =>
        padTo (pstride (lcuPels w.desc)) (bytes16 (List.replicate (lcuPels w.desc) (leAt w.desc (48 + 2 * k) 2)))) ∧
      (∀ b, b < a ∨ a + n ≤ b → t.byteAt b = s.byteAt b) ∧ t.front e 0 = some { w with done := w.done + 1 }) := by
  intro off n ht hin htag hm hp
  set line := (basePlanes w.desc).flatMap (planeBytes (lcuPels w.desc))
  have hline : line.length = n := by
    rw [length_flatMap_const fun q hq => ?_, basePlanes, List.length_map, List.length_range]
    obtain ⟨k, -, rfl⟩ := List.mem_map.mp hq
    exact planeBytes_length List.length_replicate
  have hfront : ((s.modLcu e (fun r => { r with decision := some x })).setBit (Reg.SEn_LCU_STATUS e) 2 (x.flags % 2 == 1)).front e 0 = some w :=
    (front_setBit _ (engineReg_lcuStatus e) _ _ e 0).trans h
  have hpos : 0 < line.length := by have := pstride_pos hpels; omega
  obtain ⟨ps, hwrite⟩ := slotWrite_memory
    (s := (s.modLcu e (fun r => { r with decision := some x })).setBit (Reg.SEn_LCU_STATUS e) 2 (x.flags % 2 == 1)) (seat := w.seat) hpos ht
    (hline ▸ hin) (hline ▸ htag) (hline ▸ hm) (fun p hk => (pageWritable_setReg _ (engineReg_lcuStatus e) _ p).trans (hp p (hline ▸ hk)))
  have hrun := exec_lcuLine_base h hw hlast hx hpitch hnlay hflags hend hwrite
  have hmem : ((s.modLcu e (fun r => { r with decision := some x })).setBit (Reg.SEn_LCU_STATUS e) 2 (x.flags % 2 == 1)).mem = s.mem := rfl
  generalize (s.modLcu e (fun r => { r with decision := some x })).setBit (Reg.SEn_LCU_STATUS e) 2 (x.flags % 2 == 1) = u at *
  have hfront' : (u.withMem (putBytes u.mem a line) ps).front e 0 = some w := (front_withMem _ _ _ e 0).trans hfront
  have hput : (modWork (u.withMem (putBytes u.mem a line) ps) e 0 (fun w => { w with done := w.done + 1 })).mem = putBytes s.mem a line :=
    (modWork_mem hfront' _).trans (congrArg (putBytes · a line) hmem)
  refine ⟨_, hrun, ?_, fun b hb => ?_, front_modWork hfront' _⟩
  · rw [hput, ← hline, bytesAt_putBytes_same]
    exact List.flatMap_map _ _ _
  · rw [State.byteAt, hput]
    exact sget_putBytes_outside _ _ _ _ (hline ▸ hb)

/-! ### CCU lines (R226) -/

theorem exec_ccuLine {v : State} {line : List Byte} (h : s.front e 1 = some w) (hw : w.started = true) (hlast : w.done + 1 < w.count)
    (hline : convertLine s w = .ok line)
    (hwrite : slotWrite s w.seat (w.slot 1) (((leAt w.desc 36 4 + w.done) % leAt w.desc 28 2) * leAt w.desc 32 4) line = .ok v) :
    exec (.ccuLine e) s = .next ((modWork v e 1 (fun w => { w with done := w.done + 1 })).countMod (Reg.SEn_CCU_LINES e) 1) := by
  change execCcuLine e s = _
  simp only [execCcuLine, h, hw, hline, hwrite, hlast.ne, Bool.not_true, Bool.false_eq_true, if_false]

theorem ccuLine_planes {bs : List Byte} {a : Nat} (h : s.front e 1 = some w) (hw : w.started = true) (hlast : w.done + 1 < w.count)
    (hgrid : ccuGrid w.desc = 0) (hmask : ccuCmask w.desc = 0) (hsrc : ∀ k, k < ccuInks w.desc → ccuSrc w.desc k ≤ 7)
    (hinks : 0 < ccuInks w.desc) (hpels : 0 < ccuPels w.desc)
    (hread : slotRead s w.seat (w.slot 0) (((leAt w.desc 24 4 + w.done) % leAt w.desc 18 2) * leAt w.desc 20 4) (8 * pstride (ccuPels w.desc)) = .ok bs) :
    let off := (leAt w.desc 36 4 + w.done) % leAt w.desc 28 2 * leAt w.desc 32 4
    let n := ccuInks w.desc * pstride (ccuPels w.desc)
    target s w.seat (w.slot 1) off = .memory a → off + n ≤ dLen (w.slot 1) → s.tagsMatch a n (dKtag (w.slot 1)) = true → a + n ≤ s.memSize →
    (∀ p ∈ spanning 2048 a n, s.pageWritable p = true) →
    Completes (.ccuLine e) s (fun t => bytesAt t.mem a n = (List.range (ccuInks w.desc)).flatMap (fun k =>
        padTo (pstride (ccuPels w.desc)) (bytes16 (pels16 (ccuPels w.desc) (bs.drop (ccuSrc w.desc k * pstride (ccuPels w.desc)))))) ∧
      t.front e 1 = some { w with done := w.done + 1 } ∧ t.reg (Reg.SEn_CCU_LINES e) = s.reg (Reg.SEn_CCU_LINES e) + 1) := by
  intro off n ht hin htag hm hp
  have hconvert := convertLine_planes hgrid hmask hsrc hread
  set line := (List.range (ccuInks w.desc)).flatMap (fun k =>
    planeBytes (ccuPels w.desc) (pels16 (ccuPels w.desc) (bs.drop (ccuSrc w.desc k * pstride (ccuPels w.desc)))))
  have hline : line.length = n := by
    rw [length_flatMap_const fun k _ => planeBytes_length (pels16_length _ _), List.length_range]
  have hpos : 0 < line.length := hline ▸ Nat.mul_pos hinks (pstride_pos hpels)
  obtain ⟨ps, hwrite⟩ := slotWrite_memory hpos ht (hline ▸ hin) (hline ▸ htag) (hline ▸ hm) (fun p hk => hp p (hline ▸ hk))
  have hfront : (s.withMem (putBytes s.mem a line) ps).front e 1 = some w := h
  refine ⟨_, exec_ccuLine h hw hlast hconvert hwrite, ?_, ?_, ?_⟩
  · rw [State.countMod, State.setReg_mem, modWork_mem hfront, ← hline]
    exact bytesAt_putBytes_same line s.mem a
  · rw [front_countMod _ (engineReg_ccuLines e)]
    exact front_modWork hfront _
  · rw [reg_countMod_same, modWork_reg hfront]
    rfl

/-! ### SCU lines (R234, R240) -/

theorem scuLine_passes (h : s.front e 2 = some w) (hw : w.started = true) (hlast : w.done + 1 < w.count) :
    let y := (scuLine0 w.desc + w.done) % 2 ^ 64
    (∀ st, inkLine s w = .error st → Completes (.scuLine e) s (fun t => WorkEnded s t e 2 w st w.done ∧ t.bit (Reg.SEn_SCU_STATUS e) 0 = false)) ∧
    (∀ (v : State) (rows : List (Option (List Int))), screenLine s w y = .ok (v, rows) → (y + 1) % 1024 ≠ 0 →
      Completes (.scuLine e) s (fun t => t.mem = v.mem ∧ t.front e 2 = some { w with done := w.done + 1 } ∧
        t.reg (Reg.SEn_SCU_LINES e) = s.reg (Reg.SEn_SCU_LINES e) + 1)) := by
  intro y
  refine ⟨fun st hst => ⟨endWork s e 2 st w.done (Reg.SEn_SCU_STATUS e), ?_, endWork_ended h _ _ _, State.bit_setBit_same _ _ _ _ (by decide)⟩,
    fun v rows hv hck => ?_⟩
  · have hscreen : screenLine s w y = .error st := by rw [screenLine, hst]
    change execScuLine e s = _
    simp only [execScuLine, h, hw, show screenLine s w ((scuLine0 w.desc + w.done) % 2 ^ 64) = .error st from hscreen, Bool.not_true,
      Bool.false_eq_true, if_false]
  · have hstores := screenLine_storesOnly hv
    have hfront : v.front e 2 = some w := (hstores.front e 2).trans h
    have hv' : screenLine s w ((scuLine0 w.desc + w.done) % 2 ^ 64) = .ok (v, rows) := hv
    have hck' : ¬ ((scuLine0 w.desc + w.done) % 2 ^ 64 + 1) % 1024 = 0 := hck
    refine ⟨(modWork v e 2 (fun w => { w with done := w.done + 1 })).countMod (Reg.SEn_SCU_LINES e) 1, ?_, ?_, ?_, ?_⟩
    · change execScuLine e s = _
      simp only [execScuLine, h, hw, hv', hck', hlast.ne, Bool.not_true, Bool.false_eq_true, if_false]
    · rw [State.countMod, State.setReg_mem, modWork_mem hfront]
    · rw [front_countMod _ (engineReg_scuLines e)]
      exact front_modWork hfront _
    · rw [reg_countMod_same, modWork_reg hfront, hstores.reg]

/-! ### NMU lines (R245, R250) -/

theorem nmuLine_passes {rcb line : List Byte} {u v z : State} (h : s.front e 3 = some w) (hw : w.started = true) (hlast : w.done + 1 < w.count)
    (hshadow : s.shadow e = false) (hrcb : readRcb s w.seat (w.slot 1) (nmuRcb w.desc) = .ok rcb) :
    let y := nmuEline0 w.desc + w.done
    let depth := (s.eng e).nmuDepth
    leAt rcb 0 8 ≤ y →
    ((s.reg64 (Reg.POSn_POS_LO (nmuWeb w.desc))).toNat / 2 ^ 16 + depth ≤ y →
      Completes (.nmuLine e) s (fun t => t = s.setBit (Reg.SEn_NMU_STATUS e) 1 true)) ∧
    (y < (s.reg64 (Reg.POSn_POS_LO (nmuWeb w.desc))).toNat / 2 ^ 16 + depth → nmuCompute s e w y = .ok (u, line) →
      slotWrite u w.seat (w.slot 1) (nmuRing w.desc + (y % depth) * nmuRstride w.desc) line = .ok v →
      slotWrite v w.seat (w.slot 1) (nmuRcb w.desc) (leBytes 8 (y + 1)) = .ok z →
      Completes (.nmuLine e) s (fun t => t.mem = z.mem ∧ t.store = z.store ∧ t.front e 3 = some { w with done := w.done + 1 } ∧
        t.reg (Reg.SEn_NMU_LINES e) = s.reg (Reg.SEn_NMU_LINES e) + 1 ∧ t.bit (Reg.SEn_NMU_STATUS e) 1 = false)) := by
  intro y depth hwline
  have hown : exec (.nmuLine e) s = .next (nmuOwn s e w y (leAt rcb 0 8) depth) := by
    change execNmuLine e s = _
    simp only [execNmuLine, h, hw, hrcb, hshadow, Bool.not_true, Bool.false_eq_true, if_false]
    rfl
  refine ⟨fun hfar => ⟨_, hown, ?_⟩, fun hnear hcompute hslot hwrite => ?_⟩
  · unfold nmuOwn
    dsimp only
    rw [if_neg (Nat.not_lt.mpr hwline), if_pos hfar]
  · obtain ⟨n, m, hu⟩ := nmuCompute_counts hcompute
    have hstores := (slotWrite_storesOnly hslot).trans (slotWrite_storesOnly hwrite)
    have hlost : Reg.SEn_NMU_LINES e ≠ Reg.SEn_NMU_LOSTDROP e := by unfold Reg.SEn_NMU_LINES Reg.SEn_NMU_LOSTDROP; omega
    have hpcol : Reg.SEn_NMU_LINES e ≠ Reg.SEn_NMU_PCOLERR e := by unfold Reg.SEn_NMU_LINES Reg.SEn_NMU_PCOLERR; omega
    have hstatus : Reg.SEn_NMU_LINES e ≠ Reg.SEn_NMU_STATUS e := by unfold Reg.SEn_NMU_LINES Reg.SEn_NMU_STATUS; omega
    have hcounted : z.reg (Reg.SEn_NMU_LINES e) = s.reg (Reg.SEn_NMU_LINES e) := by
      rw [hstores.reg, hu, State.count, State.reg_setReg_ne _ hpcol, State.count, State.reg_setReg_ne _ hlost]
    have hfront : (z.countMod (Reg.SEn_NMU_LINES e) 1).front e 3 = some w := by
      rw [front_countMod _ (engineReg_nmuLines e), hstores.front, hu, State.count, front_setReg _ (engineReg_nmuPcolerr e), State.count,
        front_setReg _ (engineReg_nmuLostdrop e), h]
    obtain ⟨hdone, hbit, hframe, hregs⟩ := modWork_shown hfront (fun w => { w with done := w.done + 1 }) (engineReg_nmuStatus e) (i := 1) (by decide) false
    refine ⟨_, hown, ?_⟩
    unfold nmuOwn nmuNext
    dsimp only
    rw [if_neg (Nat.not_lt.mpr hwline), if_neg (Nat.not_le.mpr hnear), hcompute]
    dsimp only
    rw [hslot]
    dsimp only
    rw [hwrite]
    dsimp only
    rw [if_neg hlast.ne]
    exact ⟨hframe.mem, hframe.store, hdone, by rw [hregs _ hstatus, reg_countMod_same, hcounted], hbit⟩

end Lines

/-- Settles O45: each unit's line, from what its slot windows answer. -/
theorem stageUnitsPassTheirLines : Obligations.StageUnitsPassTheirLines := by
  intro e w s _ hw hlast
  refine ⟨fun p h hshadow => ?decision, lcu_idle,
    fun x a h hx hpitch hnlay hflags hend hpels => lcuLine_base h hw hlast hx hpitch hnlay hflags hend hpels,
    fun bs a h hgrid hmask hsrc hinks hpels hread => ccuLine_planes h hw hlast hgrid hmask hsrc hinks hpels hread,
    fun h => scuLine_passes h hw hlast,
    fun rcb line u v z h hshadow hrcb => nmuLine_passes h hw hlast hshadow hrcb⟩
  case decision =>
    obtain ⟨hpoll, hwait⟩ := lcu_waits h hshadow
    refine ⟨hpoll, hwait, fun v hready hwrite _ => lcu_usesAll h hshadow hready ?_⟩
    rw [decisionRecord_allUsed, decided_allUsed]
    exact hwrite

end Sys2Proof.Claims
end

section
/-! PROOFS. What every step keeps (R122, R123, R655): canonical stores, burned fuses and the part's identity. `Kept o s` says it of
a state `s` reached from `o`. First the rules for the shapes that the model's definitions take (a choice, an answer, a walk over
a list), then one lemma per function of the model, `Kept.<function>`, in the model's order, then every command and the step.
Statement O59. -/

namespace Sys2Proof.Machine

/-! ### The relation -/

/-- `t` keeps what `o` had: the stores' canonical form, the burned fuses, the variant and the UID, and the queue. -/
def Kept (o t : State) : Prop :=
  (o.canonical = true → Memory.wf t.mem = true ∧ Memory.wf t.store = true ∧ swf (fun _ => (0xFF : Byte)) t.flash = true ∧
    swf regReset t.regs = true) ∧
  o.keyFuses &&& t.keyFuses = o.keyFuses ∧ o.rollFuses &&& t.rollFuses = o.rollFuses ∧
  t.variant = o.variant ∧ t.uid = o.uid ∧ t.pending = o.pending

/-- Where the answer `r` is one, the state `st` finds in it keeps what `o` had. -/
def ExcKept (o : State) {ε α : Type} (st : α → State) (r : Except ε α) : Prop := ∀ a, r = .ok a → Kept o (st a)

/-- `ExcKept` for an answer that is an option. -/
def OptKept (o : State) {α : Type} (st : α → State) (r : Option α) : Prop := ∀ a, r = some a → Kept o (st a)

/-- `ExcKept` for what a command answers. -/
def NextKept (o : State) (r : Host.Outcome State Fault Refusal) : Prop := ∀ t, r = .next t → Kept o t

theorem canonical_iff (s : State) : s.canonical = true ↔ Memory.wf s.mem = true ∧ Memory.wf s.store = true ∧
    swf (fun _ => (0xFF : Byte)) s.flash = true ∧ swf regReset s.regs = true := by
  simp only [State.canonical, Bool.and_eq_true, and_assoc]

theorem Kept.refl (s : State) : Kept s s :=
  ⟨(canonical_iff s).mp, BitVec.and_self, BitVec.and_self, rfl, rfl, rfl⟩

/-! ### Choices, answers and walks -/

section
variable {o s : State}

section Choices
variable {c : Prop} [Decidable c] {t t' : State}

theorem Kept.ite (h : Kept o t) (h' : Kept o t') : Kept o (if c then t else t') := by split <;> assumption

theorem Kept.when (h : Kept o s) (ht : Kept o s → Kept o t) : Kept o (if c then t else s) := (ht h).ite h

theorem Kept.unless (h : Kept o s) (ht : Kept o s → Kept o t) : Kept o (if c then s else t) := h.ite (ht h)

theorem Kept.fork (h : Kept o s) (ht : Kept o s → Kept o t) (ht' : Kept o s → Kept o t') :
    Kept o (if c then t else t') := (ht h).ite (ht' h)

theorem Kept.iteFst {α : Type} {x y : State × α} (h : Kept o x.1) (h' : Kept o y.1) :
    Kept o (if c then x else y).1 := by split <;> assumption

theorem Kept.iteSnd {α : Type} {x y : α × State} (h : Kept o x.2) (h' : Kept o y.2) :
    Kept o (if c then x else y).2 := by split <;> assumption

end Choices

theorem Kept.ofFst {α : Type} {r : State × α} {t a} (h : Kept o r.1) (e : r = (t, a)) : Kept o t := by
  subst e; exact h

theorem Kept.ofSnd {α : Type} {r : α × State} {t a} (h : Kept o r.2) (e : r = (a, t)) : Kept o t := by
  subst e; exact h

section Answers
variable {ε α : Type} {st : α → State} {c : Prop} [Decidable c]

theorem ExcKept.ok {a : α} (h : Kept o (st a)) : ExcKept o st (Except.ok a : Except ε α) := by
  rintro _ ⟨⟩; exact h

theorem ExcKept.error {x : ε} : ExcKept o st (Except.error x) := by rintro _ ⟨⟩

theorem ExcKept.ite {x y : Except ε α} (h : ExcKept o st x) (h' : ExcKept o st y) :
    ExcKept o st (if c then x else y) := by split <;> assumption

theorem ExcKept.of {x : Except ε α} {a} (h : ExcKept o st x) (e : x = .ok a) : Kept o (st a) := h a e

theorem ExcKept.from (st : α → State) {x : Except ε α} {a} (e : x = .ok a) (h : ExcKept o st x) : Kept o (st a) := h a e

theorem OptKept.some {a : α} (h : Kept o (st a)) : OptKept o st (some a) := by
  rintro _ ⟨⟩; exact h

theorem OptKept.none : OptKept o st (none : Option α) := by rintro _ ⟨⟩

theorem OptKept.ite {x y : Option α} (h : OptKept o st x) (h' : OptKept o st y) :
    OptKept o st (if c then x else y) := by split <;> assumption

theorem OptKept.of {x : Option α} {a} (h : OptKept o st x) (e : x = .some a) : Kept o (st a) := h a e

theorem OptKept.getD {x : Option State} (hx : OptKept o id x) (h : Kept o s) : Kept o (x.getD s) := by
  cases x with
  | none => exact h
  | some t => exact hx t rfl

end Answers

section Steps
variable {r r' : Host.Outcome State Fault Refusal} {c : Prop} [Decidable c]

theorem NextKept.next {t : State} (h : Kept o t) : NextKept o (.next t) := by
  rintro _ ⟨⟩; exact h

theorem NextKept.fault {x : Fault} : NextKept o (.fault x) := by rintro _ ⟨⟩

theorem NextKept.refused {x : Refusal} : NextKept o (.refused x) := by rintro _ ⟨⟩

theorem NextKept.ite (h : NextKept o r) (h' : NextKept o r') : NextKept o (if c then r else r') := by
  split <;> assumption

end Steps

theorem ExcKept.foldlM {ε β : Type} {f : State → β → Except ε State} (hf : ∀ t x, Kept o t → ExcKept o id (f t x)) :
    ∀ (l : List β) {s : State}, Kept o s → ExcKept o id (l.foldlM f s) := by
  intro l
  induction l with
  | nil => exact fun h => .ok h
  | cons x l ih =>
    intro s h
    rw [List.foldlM_cons]
    intro t e
    cases hx : f s x with
    | error y => rw [hx] at e; cases e
    | ok u => rw [hx] at e; exact ih ((hf s x h).of hx) t e

/-! ### Fuses and filtered maps -/

theorem and_or_of_and_eq {n : Nat} {a b c : BitVec n} (h : a &&& b = a) : a &&& (b ||| c) = a := by
  rw [BitVec.and_or_distrib_left, h]
  ext i hi
  simp +contextual

theorem rising_filter {β : Type} (p : Nat × β → Bool) (m : SMap β) :
    ∀ lo, rising lo m = true → rising lo (m.filter p) = true := by
  induction m with
  | nil => exact fun _ h => h
  | cons e m ih =>
    intro lo h
    simp only [rising, Bool.and_eq_true, decide_eq_true_eq] at h
    rw [List.filter_cons]
    split
    · simp only [rising, Bool.and_eq_true, decide_eq_true_eq]
      exact ⟨h.1, ih _ h.2⟩
    · exact ih lo (rising_mono (by omega) m h.2)

theorem swf_filter {β : Type} [DecidableEq β] {f : Nat → β} {m : SMap β} (p : Nat × β → Bool) (h : swf f m = true) :
    swf f (m.filter p) = true := by
  simp only [swf, Bool.and_eq_true, List.all_eq_true] at h ⊢
  exact ⟨rising_filter p m 0 h.1, fun e he => h.2 e (List.mem_filter.mp he).1⟩

/-! ### Fields that hold no store, no fuse and no identity -/

theorem Kept.upd_attached {x0} (h : Kept o s) : Kept o { s with attached := x0 } := h
theorem Kept.upd_burn {x0} (h : Kept o s) : Kept o { s with burn := x0 } := h
theorem Kept.upd_cal {x0} (h : Kept o s) : Kept o { s with cal := x0 } := h
theorem Kept.upd_cores {x0} (h : Kept o s) : Kept o { s with cores := x0 } := h
theorem Kept.upd_encBase {x0} (h : Kept o s) : Kept o { s with encBase := x0 } := h
theorem Kept.upd_engines {x0} (h : Kept o s) : Kept o { s with engines := x0 } := h
theorem Kept.upd_fabric {x0} (h : Kept o s) : Kept o { s with fabric := x0 } := h
theorem Kept.upd_haltReq {x0} (h : Kept o s) : Kept o { s with haltReq := x0 } := h
theorem Kept.upd_hiLatch {x0} (h : Kept o s) : Kept o { s with hiLatch := x0 } := h
theorem Kept.upd_install {x0} (h : Kept o s) : Kept o { s with install := x0 } := h
theorem Kept.upd_loHeld {x0} (h : Kept o s) : Kept o { s with loHeld := x0 } := h
theorem Kept.upd_mcrcBad {x0} (h : Kept o s) : Kept o { s with mcrcBad := x0 } := h
theorem Kept.upd_moDuty {x0} (h : Kept o s) : Kept o { s with moDuty := x0 } := h
theorem Kept.upd_out {x0} (h : Kept o s) : Kept o { s with out := x0 } := h
theorem Kept.upd_owner {x0} (h : Kept o s) : Kept o { s with owner := x0 } := h
theorem Kept.upd_owner_install {x0 x1} (h : Kept o s) : Kept o { s with owner := x0, install := x1 } := h
theorem Kept.upd_pairHeld {x0} (h : Kept o s) : Kept o { s with pairHeld := x0 } := h
theorem Kept.upd_plant {x0} (h : Kept o s) : Kept o { s with plant := x0 } := h
theorem Kept.upd_plantRestart {x0} (h : Kept o s) : Kept o { s with plantRestart := x0 } := h
theorem Kept.upd_pos {x0} (h : Kept o s) : Kept o { s with pos := x0 } := h
theorem Kept.upd_power {x0} (h : Kept o s) : Kept o { s with power := x0 } := h
theorem Kept.upd_refMoved {x0} (h : Kept o s) : Kept o { s with refMoved := x0 } := h
theorem Kept.upd_ring {x0} (h : Kept o s) : Kept o { s with ring := x0 } := h
theorem Kept.upd_ringTime {x0} (h : Kept o s) : Kept o { s with ringTime := x0 } := h
theorem Kept.upd_runen {x0} (h : Kept o s) : Kept o { s with runen := x0 } := h
theorem Kept.upd_runen_runpg {x0 x1} (h : Kept o s) : Kept o { s with runen := x0, runpg := x1 } := h
theorem Kept.upd_storePoison {x0} (h : Kept o s) : Kept o { s with storePoison := x0 } := h
theorem Kept.upd_tapIr {x0} (h : Kept o s) : Kept o { s with tapIr := x0 } := h
theorem Kept.upd_throttles {x0} (h : Kept o s) : Kept o { s with throttles := x0 } := h
theorem Kept.upd_works {x0} (h : Kept o s) : Kept o { s with works := x0 } := h

/-! ### The operations on the state -/

theorem Kept.setReg {a v} (h : Kept o s) : Kept o (State.setReg s a v) := by
  obtain ⟨hwf, hrest⟩ := h
  refine ⟨fun hc => ?_, hrest⟩
  obtain ⟨hmem, hstore, hflash, hregs⟩ := hwf hc
  exact ⟨hmem, hstore, hflash, swf_sset regReset _ _ _ hregs⟩

theorem Kept.setAct {a v} (h : Kept o s) : Kept o (State.setAct s a v) := h
theorem Kept.setFld {a hi lo v} (h : Kept o s) : Kept o (State.setFld s a hi lo v) := h.setReg
theorem Kept.setBit {a i b} (h : Kept o s) : Kept o (State.setBit s a i b) := h.setReg
theorem Kept.count {a n} (h : Kept o s) : Kept o (State.count s a n) := h.setReg
theorem Kept.countMod {a n} (h : Kept o s) : Kept o (State.countMod s a n) := h.setReg
theorem Kept.setReg64 {a v} (h : Kept o s) : Kept o (State.setReg64 s a v) := h.setReg.setReg
theorem Kept.draw (h : Kept o s) : Kept o (State.draw s).2 := h

theorem Kept.each {α : Type} {l : List α} {f} (h : Kept o s) (hf : ∀ t x, Kept o t → Kept o (f t x)) :
    Kept o (State.each s l f) := by
  unfold State.each
  induction l generalizing s with
  | nil => exact h
  | cons x l ih => exact ih (hf s x h)

theorem Kept.setSeat {i t} (h : Kept o s) : Kept o (State.setSeat s i t) := h
theorem Kept.modSeat {i f} (h : Kept o s) : Kept o (State.modSeat s i f) := h.setSeat
theorem Kept.setSeatSt {i st} (h : Kept o s) : Kept o (State.setSeatSt s i st) := h.modSeat.ite h.modSeat.setBit
theorem Kept.setTag {g t} (h : Kept o s) : Kept o (State.setTag s g t) := h
theorem Kept.setPage {p q} (h : Kept o s) : Kept o (State.setPage s p q) := h

theorem Kept.markCells {a n} (h : Kept o s) : Kept o (State.markCells s a n) :=
  h.each (fun _ _ h => (h.setPage.ite h.setPage).ite h)

theorem Kept.encode {page} (h : Kept o s) : Kept o (State.encode s page) := h.setPage

theorem Kept.memWrite {a bs} (h : Kept o s) : OptKept o id (State.memWrite s a bs) := by
  have hput : Kept o { s with mem := putBytes s.mem a bs } := by
    obtain ⟨hwf, hrest⟩ := h
    exact ⟨fun hc => ⟨wf_putBytes bs _ a (hwf hc).1, (hwf hc).2⟩, hrest⟩
  exact .ite (.some (hput.markCells.each fun _ _ h => h.encode)) .none

theorem Kept.markStore {a} (h : Kept o s) : Kept o (State.markStore s a) := by
  unfold State.markStore
  dsimp only
  split
  · exact h
  · exact h.upd_storePoison.ite h.upd_storePoison

theorem Kept.storeWrite {a bs} (h : Kept o s) : Kept o (State.storeWrite s a bs) := by
  have hput : Kept o { s with store := putBytes s.store a bs } := by
    obtain ⟨hwf, hrest⟩ := h
    refine ⟨fun hc => ?_, hrest⟩
    obtain ⟨hmem, hstore, hrest⟩ := hwf hc
    exact ⟨hmem, wf_putBytes bs _ a hstore, hrest⟩
  exact hput.ite (hput.each fun _ _ h => h.markStore)

theorem Kept.respond {w r} (h : Kept o r.1) : Kept o (Machine.respond w r) := h.ite h

/-! ### Link queues -/

theorem Kept.setLink {k l} (h : Kept o s) : Kept o (State.setLink s k l) := h
theorem Kept.modCls {k c f} (h : Kept o s) : Kept o (State.modCls s k c f) := h.setLink
theorem Kept.setLinkState {k n} (h : Kept o s) : Kept o (State.setLinkState s k n) := h.setFld.setBit.ite h.setFld
theorem Kept.enqueue {k f fwd} (h : Kept o s) : Kept o (Machine.enqueue s k f fwd) := (h.count.ite h).ite h.modCls
theorem Kept.enqueueDrop {lane cls bs} (h : Kept o s) : Kept o (Machine.enqueueDrop s lane cls bs) := h.setLink.enqueue
theorem Kept.countEth {k} (h : Kept o s) : Kept o (Machine.countEth s k) := h.count.ite h

theorem Kept.sendControl {k ftype cls seq} (h : Kept o s) : Kept o (Machine.sendControl s k ftype cls seq) := by
  unfold Machine.sendControl
  split
  · exact h.setLink.upd_out.countEth

/-! ### Snapshots -/

theorem Kept.snapEntry {isl dst src} (h : Kept o s) : Kept o (Machine.snapEntry s isl dst src) := h.setReg

theorem Kept.snapLatch (h : Kept o s) : Kept o (Machine.snapLatch s) :=
  (((h.setReg.snapEntry.each (fun _ _ h => h.snapEntry.snapEntry)).setReg.setReg.setReg.setReg.each
    (fun _ _ h => h.snapEntry)).each (fun _ _ h => h.snapEntry)).setReg.setReg

theorem Kept.snapTrigger {src t} (h : Kept o s) : Kept o (Machine.snapTrigger s src t) :=
  h.ite (h.count.ite h.setReg.setReg64.snapLatch)

/-! ### Fault control -/

theorem Kept.setDom {d hd} (h : Kept o s) : Kept o (State.setDom s d hd) := h

theorem Kept.evtFrame {d rtype seq} (h : Kept o s) : Kept o (Machine.evtFrame s d rtype seq) := by
  unfold Machine.evtFrame
  split
  · exact h
  · exact h.enqueue.ite h.count

theorem Kept.notify {d rtype body} (h : Kept o s) : Kept o (Machine.notify s d rtype body) := by
  unfold Machine.notify
  refine .ite h.setDom.count (.ite h.setDom.setBit.count (.ite ?_ h.setDom.setBit.setBit))
  split
  next _ e => exact (h.setDom.memWrite.of e).setReg.evtFrame
  · exact h.setDom.setBit.setBit

theorem Kept.safeOutputs (h : Kept o s) : Kept o (Machine.safeOutputs s) :=
  ((h.setFld.setBit.each (fun _ _ h => h.setBit)).each (fun _ _ h => h.upd_moDuty)).each
    (fun _ _ h => h.setFld.setBit.upd_plant.ite h)

theorem Kept.faultNotifySeat {n} (h : Kept o s) : Kept o (Machine.faultNotifySeat s n) := h.modSeat.ite h

theorem Kept.faultRecord {src cls event cause} (h : Kept o s) : Kept o (Machine.faultRecord s src cls event cause) :=
  (h.each (fun _ _ h => h.notify.ite h)).faultNotifySeat

theorem Kept.safeOrder {c src} (h : Kept o s) : Kept o (Machine.safeOrder s c src) :=
  h.safeOutputs.ite h.setReg.safeOutputs.faultRecord

theorem Kept.setSource {n f} (h : Kept o s) : Kept o (State.setSource s n f) := h
theorem Kept.setLive {n b} (h : Kept o s) : Kept o (State.setLive s n b) := h.setBit
theorem Kept.endF {n} (h : Kept o s) : Kept o (Machine.endF s n) := h.setSource.safeOrder

theorem Kept.startF {n escalated} (h : Kept o s) : Kept o (Machine.startF s n escalated) :=
  h.setSource.endF.ite h.setSource

theorem Kept.escalate {n} (h : Kept o s) : Kept o (Machine.escalate s n) := h.ite (h.setBit.ite h).faultRecord.startF

theorem Kept.latchFirst {n cls} (h : Kept o s) : Kept o (Machine.latchFirst s n cls) :=
  h.setBit.ite h.setReg.setReg64.setReg.setReg.snapTrigger

theorem Kept.liveOn {n cls} (h : Kept o s) : Kept o (Machine.liveOn s n cls) := by
  unfold Machine.liveOn
  refine .ite h.setLive.setSource ?_
  split
  · exact h.setLive.setSource.endF
  · exact h.setLive.setSource
  · exact h.setLive.setSource.startF.ite (h.setLive.setSource.setSource.escalate.ite h.setLive.setSource.setSource)
  · exact h.setLive.setSource.startF.ite h.setLive.setSource

theorem Kept.raise {n cls live} (h : Kept o s) : Kept o (Machine.raise s n cls live) :=
  h.ite (((h.count.ite h.count.setBit.latchFirst).when fun h => h.faultRecord).when fun h => h.liveOn)

theorem Kept.liveOff {n} (h : Kept o s) : Kept o (Machine.liveOff s n) := h.setLive.setSource.ite h.setLive.setSource

/-! ### Bus ports -/

theorem Kept.modBb {n f} (h : Kept o s) : Kept o (State.modBb s n f) := h
theorem Kept.bbGoto {n x} (h : Kept o s) : Kept o (Machine.bbGoto s n x) := h.setFld
theorem Kept.bbSetNs {n x} (h : Kept o s) : Kept o (Machine.bbSetNs s n x) := h.setFld
theorem Kept.bbSend {n ftype da data} (h : Kept o s) : Kept o (Machine.bbSend s n ftype da data) := h
theorem Kept.bbPoll {n p} (h : Kept o s) : Kept o (Machine.bbPoll s n p) := h.modBb.bbSend.bbGoto
theorem Kept.bbPass {n} (h : Kept o s) : Kept o (Machine.bbPass s n) := h.modBb.bbSend.bbGoto

theorem Kept.bbDone {n} (h : Kept o s) : Kept o (Machine.bbDone s n) :=
  h.bbGoto.ite (h.bbPoll.ite ((h.modBb.modBb.bbGoto.ite h.modBb.bbPass).ite (h.bbPoll.ite (h.modBb.bbSetNs.bbPoll.ite
    h.modBb.bbPass))))

theorem Kept.bbSpent {n} (h : Kept o s) : Kept o (Machine.bbSpent s n) := h.modBb.bbDone
theorem Kept.bbStart {n} (h : Kept o s) : Kept o (Machine.bbStart s n) := h.modBb.bbSetNs.setBit.bbGoto

theorem Kept.bbCfgWrite {n v} (h : Kept o s) : Kept o (Machine.bbCfgWrite s n v) :=
  (h.ite h.setBit.bbGoto).ite (h.ite (h.setReg.bbStart.ite h.setReg))

theorem Kept.execBbEnable {port} {s : State} (h : Kept o s) : NextKept o (Machine.execBbEnable port s) :=
  .next h.bbCfgWrite

theorem Kept.bbDeliver {n f expect} (h : Kept o s) : Kept o (Machine.bbDeliver s n f expect).1 :=
  Kept.iteFst h.count h.storeWrite.setFld

theorem Kept.bbNext {k n} (h : Kept o s) : Kept o (Machine.bbNext k s n).1 := by
  induction k generalizing s with
  | zero => exact h
  | succ k ih => exact .iteFst h (.iteFst (ih h.setFld.count) h)

theorem Kept.bbAdvance {n} (h : Kept o s) : Kept o (Machine.bbAdvance s n) := h.setFld

theorem Kept.execBbFrameTx {port collide} {s : State} (h : Kept o s) :
    NextKept o (Machine.execBbFrameTx port collide s) := by
  unfold Machine.execBbFrameTx
  refine .next (.ite h ?_)
  dsimp only
  split
  · exact h.bbNext.count.ite (h.bbNext.bbSend.bbAdvance.modBb.bbGoto.ite h.bbNext.bbSend.bbAdvance.modBb.bbDone)
  · exact h.bbNext.bbSpent
  · exact h.bbNext.count.ite h.bbNext.bbSend.bbAdvance.modBb.bbGoto
  · exact h

theorem Kept.bbToken {n} (h : Kept o s) : Kept o (Machine.bbToken s n) := h.modBb.setBit.bbGoto

theorem Kept.execBbTokenRx {port} {s : State} (h : Kept o s) : NextKept o (Machine.execBbTokenRx port s) :=
  .next (h.bbToken.ite h)

theorem Kept.bbInvalid {n} (h : Kept o s) : Kept o (Machine.bbInvalid s n) := h.bbSpent.ite h

theorem Kept.bbHardware {n f} (h : Kept o s) : Kept o (Machine.bbHardware s n f) := by
  unfold Machine.bbHardware
  split
  · exact h.bbToken
  · exact h.bbSend.bbGoto
  · exact h.bbSetNs.setBit.modBb.bbPass.ite h

theorem Kept.bbData {n f} (h : Kept o s) : Kept o (Machine.bbData s n f) := by
  unfold Machine.bbData
  dsimp only
  split
  · exact h.bbDeliver.bbSpent.ite h.bbDeliver.bbGoto
  · exact h.bbDeliver
  · exact h.bbDeliver.modBb.bbGoto.ite h.bbDeliver.bbGoto

theorem Kept.execBbFrameRx {port f} {s : State} (h : Kept o s) : NextKept o (Machine.execBbFrameRx port f s) :=
  .next (h.ite (h.count.bbInvalid.ite (h.count.bbInvalid.ite (h.count.ite ((h.bbGoto.ite h).ite (h.bbHardware.ite
    h.bbData))))))

theorem Kept.execBbFrameAbort {port} {s : State} (h : Kept o s) : NextKept o (Machine.execBbFrameAbort port s) :=
  .next (h.count.bbInvalid.ite h)

theorem Kept.execBbReplyDelayExpiry {port} {s : State} (h : Kept o s) :
    NextKept o (Machine.execBbReplyDelayExpiry port s) :=
  .next (h.bbSend.modBb.bbGoto.ite h)

theorem Kept.execBbNoTokenExpiry {port} {s : State} (h : Kept o s) : NextKept o (Machine.execBbNoTokenExpiry port s) :=
  .next (h.bbSetNs.count.modBb.bbPoll.ite h)

theorem Kept.execBbReplyTimeout {port} {s : State} (h : Kept o s) : NextKept o (Machine.execBbReplyTimeout port s) :=
  .next (h.bbSpent.ite h)

theorem Kept.execBbUsageTimeout {port} {s : State} (h : Kept o s) : NextKept o (Machine.execBbUsageTimeout port s) :=
  .next (h.ite ((h.bbSend.modBb.ite h.modBb.bbSetNs.bbPoll).ite ((h.modBb.bbGoto.ite (h.bbPass.ite (h.bbPoll.ite
    h.modBb.setBit.bbGoto))).ite h)))

theorem Kept.execBbStuck {port} {s : State} (h : Kept o s) : NextKept o (Machine.execBbStuck port s) :=
  .next (h.ite h.setBit.count.raise.liveOff)

theorem Kept.execBbStuckClear {port} {s : State} (h : Kept o s) : NextKept o (Machine.execBbStuckClear port s) :=
  .next (h.setBit.bbGoto.ite h)

/-! ### Loop engines -/

theorem Kept.setLe {n r} (h : Kept o s) : Kept o (State.setLe s n r) := h
theorem Kept.modLe {n f} (h : Kept o s) : Kept o (State.modLe s n f) := h.setLe
theorem Kept.lePublish {n} (h : Kept o s) : Kept o (Machine.lePublish s n) := h.setFld.setBit.modLe
theorem Kept.leOut {n} (h : Kept o s) : Kept o (Machine.leOut s n) := h.lePublish.ite h.modLe
theorem Kept.clear23 (h : Kept o s) : Kept o (Machine.clear23 s) := h.ite (h.ite (h.liveOff.ite h))
theorem Kept.clearPllive {n} (h : Kept o s) : Kept o (Machine.clearPllive s n) := (h.setBit.ite h.setBit.liveOff).ite h
theorem Kept.leSignal {n} (h : Kept o s) : Kept o (Machine.leSignal s n) := h.ite ((h.setLe.ite h.setLe).ite h.setLe)

theorem Kept.leCapture {n missed} (h : Kept o s) : Kept o (Machine.leCapture s n missed) :=
  (h.upd_plant.ite (h.setReg.setReg.upd_plant.setFld.when fun h => h.setBit.setBit)).ite h

theorem Kept.leLaw {n yf} (h : Kept o s) : Kept o (Machine.leLaw s n yf) := (h.count.ite h).setLe.setBit.setBit.setReg
theorem Kept.leError {n yf} (h : Kept o s) : Kept o (Machine.leError s n yf) := h.modLe

theorem Kept.leModel {n yf} (h : Kept o s) : Kept o (Machine.leModel s n yf) :=
  h.setLe.setReg.ite ((h.setLe.setReg.setLe.ite h.setLe.setReg.setLe.setBit.setBit.count.raise).ite
    (h.setLe.setReg.setLe.clearPllive.ite h.setLe.setReg.setLe))

theorem Kept.leResume {n} (h : Kept o s) : Kept o (Machine.leResume s n) := h.modLe.ite (h.modLe.ite h)

theorem Kept.leFresh {n x} (h : Kept o s) : Kept o (Machine.leFresh s n x) :=
  ((h.setBit.modLe.clear23.ite h.setBit).leResume.leSignal.setLe.setReg.setReg.fork (fun h => h.leError.setBit)
    fun h => h.leLaw).leModel.modLe.leCapture.leOut

theorem Kept.leMissed {n} (h : Kept o s) : Kept o (Machine.leMissed s n) :=
  (h.setBit.count.modLe.setBit.raise.ite h.setBit.count.modLe).leCapture.leOut

theorem Kept.leArrive {n x} (h : Kept o s) : Kept o (Machine.leArrive s n x) := h.ite (h.modLe.leFresh.ite h.modLe)

theorem Kept.leSource {fbsrc sel x} (h : Kept o s) : Kept o (Machine.leSource s fbsrc sel x) :=
  h.each (fun _ _ h => h.leArrive.ite h)

theorem Kept.leClear {n} (h : Kept o s) : Kept o (Machine.leClear s n) := h.clearPllive.setReg.setLe.setReg.clear23

theorem Kept.leApplied {n old} (h : Kept o s) : Kept o (Machine.leApplied s n old) :=
  h.ite ((h.leClear.ite (h.setLe.ite (h.modLe.ite h))).modLe.setBit.fork (fun h => h.raise) fun h => h.when
    fun h => h.clear23)

theorem Kept.leModelWritten {n} (h : Kept o s) : Kept o (Machine.leModelWritten s n) := h.modLe

theorem Kept.execLeTimedEvaluate {le} {s : State} (h : Kept o s) : NextKept o (Machine.execLeTimedEvaluate le s) :=
  .ite (.next (h.leFresh.ite h.leMissed)) (.next h)

theorem Kept.execLeFeedbackArrival {le x} {s : State} (h : Kept o s) :
    NextKept o (Machine.execLeFeedbackArrival le x s) :=
  .next (h.ite h.leArrive)

theorem Kept.execLeMissedEvaluation {le} {s : State} (h : Kept o s) : NextKept o (Machine.execLeMissedEvaluation le s) :=
  .ite (.next h.leMissed) (.next h)

theorem Kept.execLePublish {le} {s : State} (h : Kept o s) : NextKept o (Machine.execLePublish le s) :=
  .next (h.lePublish.ite h)

theorem Kept.leFbin {le x} (h : Kept o s) : Kept o (Machine.leFbin s le x) := h.ite (h.setReg.leArrive.ite h.setReg)

theorem Kept.execLeFbinWrite {le x} {s : State} (h : Kept o s) : NextKept o (Machine.execLeFbinWrite le x s) :=
  .next h.leFbin

theorem Kept.leReset {n} (h : Kept o s) : Kept o (Machine.leReset s n) := h.ite h.modLe.setReg
theorem Kept.execLeCmdReset {le} {s : State} (h : Kept o s) : NextKept o (Machine.execLeCmdReset le s) := .next h.leReset
theorem Kept.leClrpl {n} (h : Kept o s) : Kept o (Machine.leClrpl s n) := h.ite h.modLe.setBit
theorem Kept.execLeClrpl {le} {s : State} (h : Kept o s) : NextKept o (Machine.execLeClrpl le s) := .next h.leClrpl

theorem Kept.leTstart {n} (h : Kept o s) : Kept o (Machine.leTstart s n) :=
  h.ite (h.draw.modLe.setBit.setBit.ite h.draw.modLe.setBit)

theorem Kept.execLeTstart {le} {s : State} (h : Kept o s) : NextKept o (Machine.execLeTstart le s) := .next h.leTstart
theorem Kept.leTstop {n} (h : Kept o s) : Kept o (Machine.leTstop s n) := h.setBit.modLe.ite h
theorem Kept.execLeTstop {le} {s : State} (h : Kept o s) : NextKept o (Machine.execLeTstop le s) := .next h.leTstop
theorem Kept.leCapStart (h : Kept o s) : Kept o (Machine.leCapStart s) := h.upd_plant.setReg.ite h.upd_plant.setReg
theorem Kept.execLeCapStart {s : State} (h : Kept o s) : NextKept o (Machine.execLeCapStart s) := .next h.leCapStart
theorem Kept.leCapStop (h : Kept o s) : Kept o (Machine.leCapStop s) := h.setBit.setBit
theorem Kept.execLeCapStop {s : State} (h : Kept o s) : NextKept o (Machine.execLeCapStop s) := .next h.leCapStop

/-! ### The flash -/

theorem Kept.modSpi {n f} (h : Kept o s) : Kept o (State.modSpi s n f) := h
theorem Kept.dxMiss {a} (h : Kept o s) : Kept o (Machine.dxMiss s a) := h.modSpi.count

theorem Kept.dxTouchLine {a} (h : Kept o s) : Kept o (Machine.dxTouchLine s a) := by
  unfold Machine.dxTouchLine
  split
  · exact h.modSpi.count
  · exact h.dxMiss

theorem Kept.dxTouch {off n} (h : Kept o s) : Kept o (Machine.dxTouch s off n) := h.each (fun _ _ h => h.dxTouchLine)
theorem Kept.dxRead {off n} (h : Kept o s) : OptKept o Prod.snd (Machine.dxRead s off n) := .ite (.some h.dxTouch) .none

/-! ### Seats and traps -/

theorem Kept.doubleHalt {i} (h : Kept o s) : Kept o (Machine.doubleHalt s i) :=
  h.setSeatSt.raise.upd_plantRestart.ite h.setSeatSt.raise.notify.liveOff

theorem Kept.takeTrap {i cause tval access} (h : Kept o s) : Kept o (Machine.takeTrap s i cause tval access) := by
  unfold Machine.takeTrap
  refine .ite h.doubleHalt ?_
  split
  · exact h.setSeat
  · exact h.draw.setSeat

theorem Kept.trap {i cause tval} (h : Kept o s) : Kept o (Machine.trap s i cause tval) := h.takeTrap

theorem Kept.trapAccess {i cause win kind size off} (h : Kept o s) :
    Kept o (Machine.trapAccess s i cause win kind size off) :=
  h.takeTrap

theorem Kept.postEvent {i cause v} (h : Kept o s) : Kept o (Machine.postEvent s i cause v) := h.modSeat

theorem Kept.dropEvent {i cause} (h : Kept o s) : Kept o (Machine.dropEvent s i cause) := by
  unfold Machine.dropEvent
  refine .ite ?_ h.modSeat
  split
  · exact h.setDom
  · exact h

theorem Kept.withdrawEvents {i} (h : Kept o s) : Kept o (Machine.withdrawEvents s i) :=
  (h.each (fun _ _ h => h.setDom)).modSeat

theorem Kept.stopDone {i} (h : Kept o s) : Kept o (Machine.stopDone s i) := by
  unfold Machine.stopDone
  split
  · exact h.setReg.modSeat
  · exact h

theorem Kept.seatOff {i} (h : Kept o s) : Kept o (Machine.seatOff s i) := by
  unfold Machine.seatOff
  refine .setSeatSt (.modSeat (.upd_haltReq ?_))
  split
  · exact h.withdrawEvents.stopDone.setTag
  · exact h.withdrawEvents.stopDone

theorem Kept.seatOn {i} (h : Kept o s) : Kept o (Machine.seatOn s i) := h.modSeat.setSeatSt

theorem Kept.plantRestartBegin {cause} (h : Kept o s) : Kept o (Machine.plantRestartBegin s cause) :=
  h.withdrawEvents.setSeat.upd_plantRestart

theorem Kept.fetchTouch {i n} (h : Kept o s) : Kept o (Machine.fetchTouch s i n) := by
  unfold Machine.fetchTouch
  split
  · exact h.dxTouch
  · exact h

theorem Kept.issue {i n body} (h : Kept o s) (hbody : ∀ t, Kept o t → Kept o (body t)) :
    Kept o (Machine.issue s i n body) :=
  h.ite (h.modSeat.trap.ite (h.modSeat.trap.ite (hbody _ h.modSeat.fetchTouch)))

theorem Kept.retire {i n f} (h : Kept o s) : Kept o (Machine.retire s i n f) := h.modSeat
theorem Kept.stall {i w} (h : Kept o s) : Kept o (Machine.stall s i w) := h.modSeat.setSeatSt

theorem Kept.unstall {i f} (h : Kept o s) : Kept o (Machine.unstall s i f) :=
  h.modSeat.setSeatSt.setSeatSt.upd_haltReq.ite h.modSeat.setSeatSt

theorem Kept.zvOnly {i w body} (h : Kept o s) (hbody : ∀ t, Kept o t → Kept o (body t)) :
    Kept o (Machine.zvOnly s i w body) :=
  h.trap.ite (hbody _ h)

theorem Kept.hmOnly {i w body} (h : Kept o s) (hbody : ∀ t, Kept o t → Kept o (body t)) :
    Kept o (Machine.hmOnly s i w body) :=
  h.trap.ite (hbody _ h)

/-! ### The plant -/

theorem Kept.plantStart {rcause} (h : Kept o s) : Kept o (Machine.plantStart s rcause) := by
  unfold Machine.plantStart
  dsimp only
  split
  · exact h.setFld
  · exact h.setFld.setSeat

theorem Kept.plantRestartDone (h : Kept o s) : Kept o (Machine.plantRestartDone s) := by
  unfold Machine.plantRestartDone
  split
  · exact h
  · exact h.plantRestartBegin.upd_plantRestart.plantStart.count.fork (fun h => h.when fun h => h.setFld)
      fun h => h.liveOff

theorem Kept.execLockstepMismatch {s : State} (h : Kept o s) : NextKept o (Machine.execLockstepMismatch s) :=
  .next h.raise.plantRestartBegin

theorem Kept.execPlantRestartDone {s : State} (h : Kept o s) : NextKept o (Machine.execPlantRestartDone s) :=
  .next h.plantRestartDone

theorem Kept.soFollow {k} (h : Kept o s) : Kept o (Machine.soFollow s k) := by
  unfold Machine.soFollow
  refine .ite h ?_
  split
  · exact h
  · exact h.ite (h.ite h.setBit.upd_plant)

theorem Kept.soAll (h : Kept o s) : Kept o (Machine.soAll s) := h.each (fun _ _ h => h.soFollow)

theorem Kept.execSoDemandChange {so} {s : State} (h : Kept o s) : NextKept o (Machine.execSoDemandChange so s) :=
  .next h.soFollow

theorem Kept.execSoMinTimeExpiry {so} {s : State} (h : Kept o s) : NextKept o (Machine.execSoMinTimeExpiry so s) :=
  .next h.upd_plant.soFollow

theorem Kept.execMoSlewTick {mo} {s : State} (h : Kept o s) : NextKept o (Machine.execMoSlewTick mo s) := by
  unfold Machine.execMoSlewTick
  refine .next (.ite h ?_)
  split
  · exact h
  · exact h

theorem Kept.outputsResume (h : Kept o s) : Kept o (Machine.outputsResume s) := h.upd_plant.soAll

theorem Kept.leSetPair {n sp band} (h : Kept o s) : Kept o (Machine.leSetPair s n sp band) :=
  h.ite h.upd_pairHeld.setReg.setReg

theorem Kept.zoneWrite {z} (h : Kept o s) : Kept o (Machine.zoneWrite s z) :=
  h.ite ((h.leSetPair.ite h).leSetPair.ite (h.leSetPair.ite h))

theorem Kept.zoneRefresh {z} (h : Kept o s) : Kept o (Machine.zoneRefresh s z) :=
  h.setFld.setBit.setBit.upd_plant.ite h.setFld.setBit.setBit.upd_plant.zoneWrite

theorem Kept.zonesRefresh (h : Kept o s) : Kept o (Machine.zonesRefresh s) := h.each (fun _ _ h => h.zoneRefresh)

theorem Kept.occUpdate {z} (h : Kept o s) : Kept o (Machine.occUpdate s z) :=
  (h.setBit.upd_plant.ite (h.ite (h.setBit.ite h.upd_plant))).zoneRefresh

theorem Kept.occAll (h : Kept o s) : Kept o (Machine.occAll s) := h.each (fun _ _ h => h.occUpdate)

theorem Kept.execOccholdExpiry {zone} {s : State} (h : Kept o s) : NextKept o (Machine.execOccholdExpiry zone s) :=
  .next (h.upd_plant.setBit.zoneRefresh.ite h)

theorem Kept.ovrWrite {z v} (h : Kept o s) : Kept o (Machine.ovrWrite s z v) := h.setReg.zoneRefresh

theorem Kept.execPltCzOvrWrite {zone value} {s : State} (h : Kept o s) :
    NextKept o (Machine.execPltCzOvrWrite zone value s) :=
  .next h.ovrWrite

theorem Kept.zoneConfigured {z was} (h : Kept o s) : Kept o (Machine.zoneConfigured s z was) :=
  h.occUpdate.zonesRefresh.zoneWrite.ite h.occUpdate.zonesRefresh

theorem Kept.hbWrite (h : Kept o s) : Kept o (Machine.hbWrite s) :=
  h.ite (h.setBit.clear23.each (fun _ _ h => h.zoneWrite)).soAll

theorem Kept.execPltHbWrite {who} {s : State} (h : Kept o s) : NextKept o (Machine.execPltHbWrite who s) :=
  .next (Kept.iteFst h.hbWrite h).respond

theorem Kept.lapse (h : Kept o s) : Kept o (Machine.lapse s) := h.ite h.setBit.raise.soAll
theorem Kept.execHeartbeatLapse {s : State} (h : Kept o s) : NextKept o (Machine.execHeartbeatLapse s) := .next h.lapse

/-! ### Fans -/

theorem Kept.modFan {n f} (h : Kept o s) : Kept o (State.modFan s n f) := h

theorem Kept.execFanTachEdge {fan t} {s : State} (h : Kept o s) : NextKept o (Machine.execFanTachEdge fan t s) := by
  unfold Machine.execFanTachEdge
  refine .next (.ite h ?_)
  dsimp only
  split
  · exact h.modFan
  · exact h.ite (h.modFan.ite h.modFan.setFld)

theorem Kept.execFanTachTimeout {fan} {s : State} (h : Kept o s) : NextKept o (Machine.execFanTachTimeout fan s) :=
  .next (h.ite h.setFld)

theorem Kept.fanLine (h : Kept o s) : Kept o (Machine.fanLine s) := h.liveOff.ite h

theorem Kept.fanJudge {n} (h : Kept o s) : Kept o (Machine.fanJudge s n) :=
  h.modFan.ite ((h.modFan.setBit.count.raise.ite h.modFan).ite h.modFan)

theorem Kept.fanDrive {n} (h : Kept o s) : Kept o (Machine.fanDrive s n) := by
  unfold Machine.fanDrive
  dsimp only
  split
  · exact h.setBit.setBit.setBit.setFld.setFld.setFld
  · exact h.setBit.setBit.setBit.setFld.setFld.modFan.setBit.setFld.setFld
  · exact h.setBit.setBit.setBit.setFld.setFld.setFld
  · exact h.setBit.setBit.setBit.setFld.setFld.setFld
  · exact h.setBit.setBit.setBit.setFld.setFld.setFld
  · exact h.setBit.setBit.setBit.setFld.setFld.setFld

theorem Kept.execFanUpdate {fan} {s : State} (h : Kept o s) : NextKept o (Machine.execFanUpdate fan s) :=
  .next (h.ite h.fanJudge.fanDrive.fanLine)

theorem Kept.fanClrfail {n} (h : Kept o s) : Kept o (Machine.fanClrfail s n) := h.ite h.setBit.modFan.fanLine

theorem Kept.execFanClrfail {fan} {s : State} (h : Kept o s) : NextKept o (Machine.execFanClrfail fan s) :=
  .next h.fanClrfail

/-! ### SPI ports -/

theorem Kept.spiSend {n x} (h : Kept o s) : Kept o (Machine.spiSend s n x) := h
theorem Kept.spiDone {n xstat} (h : Kept o s) : Kept o (Machine.spiDone s n xstat) := h.modSpi.setBit.setBit.setFld

theorem Kept.spiStart {n} (h : Kept o s) : Kept o (Machine.spiStart s n) :=
  h.spiDone.ite (h.spiDone.ite (h.spiDone.ite (h.spiDone.ite (h.spiDone.ite h.modSpi.setBit.spiSend))))

theorem Kept.spiGo {n} (h : Kept o s) : Kept o (Machine.spiGo s n) := h.ite (h.modSpi.ite h.spiStart)
theorem Kept.execSpiGo {port} {s : State} (h : Kept o s) : NextKept o (Machine.execSpiGo port s) := .next h.spiGo
theorem Kept.spiStore {n x ws bits} (h : Kept o s) : Kept o (Machine.spiStore s n x ws bits) := h.storeWrite.setReg

theorem Kept.execSpiTransferEnd {port words bits conflict} {s : State} (h : Kept o s) :
    NextKept o (Machine.execSpiTransferEnd port words bits conflict s) := by
  unfold Machine.execSpiTransferEnd
  refine .next ?_
  split
  · exact h
  · exact h.ite (h.spiStore.setBit.count.spiDone.raise.ite ((h.spiStore.modSpi.ite h.spiStore.spiDone).ite
      h.spiStore.spiDone))

theorem Kept.execSpiRwaitExpiry {port} {s : State} (h : Kept o s) : NextKept o (Machine.execSpiRwaitExpiry port s) := by
  unfold Machine.execSpiRwaitExpiry
  refine .next ?_
  split
  · exact h
  · exact h.modSpi.spiSend.ite h

theorem Kept.execSpiLeaseExpiry {port words bits} {s : State} (h : Kept o s) :
    NextKept o (Machine.execSpiLeaseExpiry port words bits s) := by
  unfold Machine.execSpiLeaseExpiry
  refine .next ?_
  split
  · exact h
  · exact h.ite (h.ite h.spiStore).setBit.count.spiDone.raise

theorem Kept.spiAbort {n words bits} (h : Kept o s) : Kept o (Machine.spiAbort s n words bits) := by
  unfold Machine.spiAbort
  split
  · exact h
  · exact (h.ite h.spiStore).spiDone

theorem Kept.execSpiAbort {port words bits} {s : State} (h : Kept o s) :
    NextKept o (Machine.execSpiAbort port words bits s) :=
  .next h.spiAbort

theorem Kept.spiReply {n} (h : Kept o s) : Kept o (Machine.spiReply s n) := h.modSpi
theorem Kept.execSpiReply {port} {s : State} (h : Kept o s) : NextKept o (Machine.execSpiReply port s) := .next h.spiReply

theorem Kept.execSpiSlaveFrame {port words bits} {s : State} (h : Kept o s) :
    NextKept o (Machine.execSpiSlaveFrame port words bits s) :=
  .next (h.ite ((h.upd_out.modSpi.count.ite h.upd_out.modSpi).fork (fun h => h.count) fun h => h.storeWrite.setFld))

theorem Kept.spiCreq {n} (h : Kept o s) : Kept o (Machine.spiCreq s n) := h.setBit.setBit
theorem Kept.spiCastle {n} (h : Kept o s) : Kept o (Machine.spiCastle s n) := h.modSpi.spiCreq

theorem Kept.execSpiCastle {port} {s : State} (h : Kept o s) : NextKept o (Machine.execSpiCastle port s) :=
  .next h.spiCastle

theorem Kept.execSpiCreqPulled {port} {s : State} (h : Kept o s) : NextKept o (Machine.execSpiCreqPulled port s) :=
  .next (h.modSpi.spiCreq.ite h)

theorem Kept.spiHeldGo {n} (h : Kept o s) : Kept o (Machine.spiHeldGo s n) := h.modSpi.spiStart.ite h

theorem Kept.castleOutcome {n other} (h : Kept o s) : Kept o (Machine.castleOutcome s n other) :=
  (((h.count.upd_out.setBit.ite h.count.upd_out).when fun h => h.setBit).when
    fun h => h.setBit.setBit).modSpi.spiCreq.spiHeldGo

theorem Kept.execSpiCastleFrame {port other conflict} {s : State} (h : Kept o s) :
    NextKept o (Machine.execSpiCastleFrame port other conflict s) :=
  .next (h.ite (h.setBit.count.raise.ite h.castleOutcome))

theorem Kept.execSpiBackoffEnd {port} {s : State} (h : Kept o s) : NextKept o (Machine.execSpiBackoffEnd port s) :=
  .next h.setBit.spiCreq

theorem Kept.execSpiDxMiss {off} {s : State} (h : Kept o s) : NextKept o (Machine.execSpiDxMiss off s) :=
  .next (h.dxMiss.ite h)

theorem Kept.dxDisable (h : Kept o s) : Kept o (Machine.dxDisable s) := (h.upd_out.ite h).modSpi.setBit

theorem Kept.execSpiDxDisable {s : State} (h : Kept o s) : NextKept o (Machine.execSpiDxDisable s) :=
  .next (h.dxDisable.ite h)

theorem Kept.spiCfgWrite {n v} (h : Kept o s) : Kept o (Machine.spiCfgWrite s n v) :=
  h.ite (h.setReg.setBit.ite h.setReg).spiCreq

/-! ### The ADC -/

theorem Kept.modAdc {f} (h : Kept o s) : Kept o (State.modAdc s f) := h
theorem Kept.adcLap (h : Kept o s) : Kept o (Machine.adcLap s) := h.setReg.modAdc

theorem Kept.adcStart {k i} (h : Kept o s) : Kept o (Machine.adcStart k i s) := by
  induction k generalizing i s with
  | zero => exact h.modAdc
  | succ k ih => exact .ite (ih (h.setFld.setBit.adcLap.ite h.setFld.setBit)) h.setFld.modAdc

theorem Kept.adcGo {i} (h : Kept o s) : Kept o (Machine.adcGo s i) :=
  h.modAdc.setFld.modAdc.setBit.ite (h.modAdc.setFld.setBit.ite (h.modAdc.setFld.ite h.modAdc.setFld.adcStart))

theorem Kept.adcCtl {v} (h : Kept o s) : Kept o (Machine.adcCtl s v) :=
  h.ite (h.setReg.modAdc.setBit.ite (h.setReg.ite h.setReg.setBit.modAdc.adcGo))

theorem Kept.execAdcCtlWrite {value} {s : State} (h : Kept o s) : NextKept o (Machine.execAdcCtlWrite value s) :=
  .next h.adcCtl

theorem Kept.adcComplete {cfg tim raw} (h : Kept o s) : Kept o (Machine.adcComplete s cfg tim raw) :=
  ((h.setReg.setReg.modAdc.leSource.fork (fun h => h.raise) fun h => h.when fun h => h.liveOff).when
    fun h => h.adcLap).adcGo

theorem Kept.execAdcEntryComplete {raw} {s : State} (h : Kept o s) : NextKept o (Machine.execAdcEntryComplete raw s) := by
  unfold Machine.execAdcEntryComplete
  refine .next ?_
  split
  · exact h.adcComplete.ite h
  · exact h

theorem Kept.adcCal (h : Kept o s) : Kept o (Machine.adcCal s) := by
  unfold Machine.adcCal
  refine .ite h.setBit ?_
  dsimp only
  split
  · exact h.modAdc
  · exact h.modAdc.adcGo

theorem Kept.execAdcCal {s : State} (h : Kept o s) : NextKept o (Machine.execAdcCal s) := .next h.adcCal
theorem Kept.adcAuto (h : Kept o s) : Kept o (Machine.adcAuto s) := h.ite h.adcCal

theorem Kept.execAdcCalDone {ofs gain} {s : State} (h : Kept o s) : NextKept o (Machine.execAdcCalDone ofs gain s) := by
  unfold Machine.execAdcCalDone
  refine .next (.ite h (.ite (.adcGo ?_) ?_))
  · split
    · exact ((h.setBit.each (fun _ _ h => h.setReg.setReg)).setBit.ite h.setBit.setBit.raise).setFld
    · exact (h.setBit.each (fun _ _ h => h.setReg.setReg)).setBit.ite h.setBit.setBit.raise
  · split
    · exact ((h.setBit.each (fun _ _ h => h.setReg.setReg)).setBit.ite h.setBit.setBit.raise).setFld
    · exact (h.setBit.each (fun _ _ h => h.setReg.setReg)).setBit.ite h.setBit.setBit.raise

/-! ### The fabric -/

theorem Kept.setFabLink {k l} (h : Kept o s) : Kept o (State.setFabLink s k l) := h
theorem Kept.fabError {expects} (h : Kept o s) : Kept o (Machine.fabError s expects) := h.count.ite h.count

theorem Kept.execFabricMessage {_cls src dst cells expects} {s : State} (h : Kept o s) :
    NextKept o (Machine.execFabricMessage _cls src dst cells expects s) := by
  unfold Machine.execFabricMessage
  refine .next ?_
  split
  · refine .ite h ?_
    split
    · exact h.count.count.ite h.count
    · exact h.fabError.ite (h.each (fun _ _ h => h.setFabLink)).upd_fabric
  · exact h

theorem Kept.fabLinkDown {k} (h : Kept o s) : Kept o (Machine.fabLinkDown s k) :=
  h.setFabLink.setFld.setBit.raise.when fun h => h.setBit.raise

theorem Kept.execLinkCellFail {link} {s : State} (h : Kept o s) : NextKept o (Machine.execLinkCellFail link s) :=
  .next (h.ite (h.fabLinkDown.ite h.setFabLink.count.raise))

theorem Kept.setLock {p l} (h : Kept o s) : Kept o (State.setLock s p l) := h

theorem Kept.lockNext {p l} (h : Kept o s) : Kept o (Machine.lockNext s p l) := by
  unfold Machine.lockNext
  split
  · exact h.setLock
  · exact h.setLock

theorem Kept.execPageLockRequest {page holder} {s : State} (h : Kept o s) :
    NextKept o (Machine.execPageLockRequest page holder s) := by
  unfold Machine.execPageLockRequest
  refine .next ?_
  split
  · exact h.setLock
  · exact h.setLock.ite h.setLock

theorem Kept.execPageUnlock {page holder} {s : State} (h : Kept o s) :
    NextKept o (Machine.execPageUnlock page holder s) := by
  unfold Machine.execPageUnlock
  refine .next ?_
  split
  · exact h.lockNext.ite h
  · exact h

theorem Kept.execPageLockExpiry {page} {s : State} (h : Kept o s) : NextKept o (Machine.execPageLockExpiry page s) := by
  unfold Machine.execPageLockExpiry
  refine .next ?_
  split
  · exact h.ite h.lockNext
  · exact h

theorem Kept.dropLocks {isl} (h : Kept o s) : Kept o (Machine.dropLocks s isl) := by
  unfold Machine.dropLocks
  refine .each h (fun _ _ h => ?_)
  split
  · exact h.lockNext.ite h.setLock
  · exact h

theorem Kept.engineStop {eng} (h : Kept o s) : Kept o (Machine.engineStop s eng) :=
  ((h.each (fun _ _ h => h.ite h.seatOff)).each
    (fun _ _ h => h.upd_works)).upd_engines.setFld.setBit.setFld.setFld.setBit.setBit.setFld

theorem Kept.fenceCore {i} (h : Kept o s) : Kept o (Machine.fenceCore s i) :=
  h.ite (h.setBit.upd_fabric.draw.count.draw.count.draw.count.dropLocks.when fun h => h.engineStop)

theorem Kept.memEvent {n t page} (h : Kept o s) : Kept o (Machine.memEvent s n t page) := by
  unfold Machine.memEvent
  refine .setReg (.setReg ?_)
  split
  · exact h.setBit
  · exact h.setBit.draw

theorem Kept.stackLose {n} (h : Kept o s) : Kept o (Machine.stackLose s n) :=
  h.ite (h.fenceCore.setBit.memEvent.each (fun _ _ h => h.setFld.ite h)).raise

theorem Kept.fenceIsland {i} (h : Kept o s) : Kept o (Machine.fenceIsland s i) := h.fenceCore.stackLose.ite h.fenceCore
theorem Kept.fenceSet {v} (h : Kept o s) : Kept o (Machine.fenceSet s v) := h.each (fun _ _ h => h.fenceIsland.ite h)

theorem Kept.execFabFenceSet {who islands} {s : State} (h : Kept o s) :
    NextKept o (Machine.execFabFenceSet who islands s) :=
  .next (Kept.iteFst h.fenceSet h).respond

theorem Kept.engineSeatsOn {eng} (h : Kept o s) : Kept o (Machine.engineSeatsOn s eng) :=
  h.ite (h.each (fun _ _ h => h.seatOn.ite h))

theorem Kept.unfence {i} (h : Kept o s) : Kept o (Machine.unfence s i) :=
  (h.setBit.upd_fabric.engineSeatsOn.ite h.setBit.upd_fabric).ite h

theorem Kept.markReset {i} (h : Kept o s) : Kept o (State.markReset s i) := h
theorem Kept.fenceClr {v} (h : Kept o s) : Kept o (Machine.fenceClr s v) := h.each (fun _ _ h => h.unfence.ite h)

theorem Kept.execFabFenceClr {who islands} {s : State} (h : Kept o s) :
    NextKept o (Machine.execFabFenceClr who islands s) :=
  .next (Kept.iteFst h.fenceClr h).respond

theorem Kept.discardPosted {near n} (h : Kept o s) : Kept o (State.discardPosted s near n) :=
  h.upd_fabric.count.ite h.upd_fabric

theorem Kept.execChannelWordSend {near far word} {s : State} (h : Kept o s) :
    NextKept o (Machine.execChannelWordSend near far word s) :=
  .next (h.ite (h.discardPosted.ite h.upd_fabric))

/-! ### Faults -/

theorem Kept.execFaultRaise {src cls live} {s : State} (h : Kept o s) :
    NextKept o (Machine.execFaultRaise src cls live s) :=
  .next (h.raise.ite h)

theorem Kept.lineClear {n} (h : Kept o s) : Kept o (Machine.lineClear s n) :=
  (h.setBit.ite h).liveOff.ite (h.setBit.ite h)

theorem Kept.execLiveLineClear {src} {s : State} (h : Kept o s) : NextKept o (Machine.execLiveLineClear src s) :=
  .next h.lineClear

theorem Kept.execSafetyClearHold {src} {s : State} (h : Kept o s) : NextKept o (Machine.execSafetyClearHold src s) :=
  .next (h.setSource.ite h)

theorem Kept.execUgraceExpiry {src} {s : State} (h : Kept o s) : NextKept o (Machine.execUgraceExpiry src s) :=
  .next (h.escalate.ite h)

theorem Kept.firstClear (h : Kept o s) : Kept o (Machine.firstClear s) := h.each (fun _ _ h => h.setReg)

theorem Kept.execFcFirstClr {who} {s : State} (h : Kept o s) : NextKept o (Machine.execFcFirstClr who s) :=
  .next (Kept.iteFst h.firstClear h).respond

theorem Kept.handlingWrite {w hd} (h : Kept o s) : Kept o (Machine.handlingWrite s w hd) := h.ite (h.setReg.ite h.setBit)

theorem Kept.execFcHandlingWrite {who hd} {s : State} (h : Kept o s) :
    NextKept o (Machine.execFcHandlingWrite who hd s) :=
  .next (Kept.iteFst h.handlingWrite h).respond

theorem Kept.swRaise {src cls live} (h : Kept o s) : Kept o (Machine.swRaise s src cls live) :=
  h.ite (h.raise.ite h.lineClear)

theorem Kept.execFcSwraise {who src cls live} {s : State} (h : Kept o s) :
    NextKept o (Machine.execFcSwraise who src cls live s) :=
  .next (Kept.iteFst h.swRaise h).respond

theorem Kept.execIetFire {cause} {s : State} (h : Kept o s) : NextKept o (Machine.execIetFire cause s) :=
  .next (h.setBit.setFld.safeOutputs.safeOrder.ite h)

theorem Kept.execFcIetClear {who holds} {s : State} (h : Kept o s) : NextKept o (Machine.execFcIetClear who holds s) :=
  .next (Kept.iteFst (h.ite h.setBit.setFld) h).respond

theorem Kept.execSafeInActive {s : State} (h : Kept o s) : NextKept o (Machine.execSafeInActive s) :=
  .next (h.setBit.ite h.setBit.raise)

theorem Kept.execSafeEnter {who} {s : State} (h : Kept o s) : NextKept o (Machine.execSafeEnter who s) :=
  .next (Kept.iteFst h.safeOrder h).respond

theorem Kept.safeRelease (h : Kept o s) : Kept o (Machine.safeRelease s) :=
  h.setBit.ite (h.ite (h.setFld.ite h.setFld.plantRestartBegin))

theorem Kept.execSafeRelease {who} {s : State} (h : Kept o s) : NextKept o (Machine.execSafeRelease who s) :=
  .next (Kept.iteFst h.safeRelease h).respond

theorem Kept.execSafeRestartDone {s : State} (h : Kept o s) : NextKept o (Machine.execSafeRestartDone s) :=
  .next (h.plantRestartDone.ite h)

theorem Kept.safeResume (h : Kept o s) : Kept o (Machine.safeResume s) :=
  h.setBit.ite (h.setFld.setFld.setBit.ite h.setFld.setFld).outputsResume

theorem Kept.execSafeResume {who} {s : State} (h : Kept o s) : NextKept o (Machine.execSafeResume who s) :=
  .next (Kept.iteFst h.safeResume h).respond

theorem Kept.execPipHalfPeriod {s : State} (h : Kept o s) : NextKept o (Machine.execPipHalfPeriod s) :=
  .next (h.setBit.ite h)

theorem Kept.fcSrcCfgWrite {w n v} (h : Kept o s) : Kept o (Machine.fcSrcCfgWrite s w n v).1 :=
  Kept.iteFst h (Kept.iteFst h (Kept.iteFst h h.setReg))

theorem Kept.fcSafeoutWrite {w v} (h : Kept o s) : Kept o (Machine.fcSafeoutWrite s w v).1 :=
  Kept.iteFst h h.setReg.setFld

theorem Kept.fcPipWrite {w v} (h : Kept o s) : Kept o (Machine.fcPipWrite s w v).1 :=
  Kept.iteFst h (Kept.iteFst h h.setReg)

theorem Kept.fcIetWrite {w v} (h : Kept o s) : Kept o (Machine.fcIetWrite s w v).1 :=
  Kept.iteFst h (Kept.iteFst h h.setFld)

/-! ### Device memory -/

theorem Kept.setStack {n k} (h : Kept o s) : Kept o (State.setStack s n k) := h

theorem Kept.rowSpare {n g page} (h : Kept o s) : Kept o (Machine.rowSpare s n g page) :=
  (h.each (fun _ _ h => h.setPage)).setStack.setReg.count.count.memEvent.raise

theorem Kept.retirePage {page} (h : Kept o s) : Kept o (Machine.retirePage s page) :=
  h.ite (h.memEvent.raise.ite (h.setPage.setReg.count.memEvent.raise.setStack.when fun h => h.rowSpare))

theorem Kept.poisonPage {page} (h : Kept o s) : Kept o (Machine.poisonPage s page) :=
  h.setPage.count.memEvent.raise.setStack.when fun h => h.stackLose

theorem Kept.pageErrors {page errs copyErrs} (h : Kept o s) : Kept o (Machine.pageErrors s page errs copyErrs) :=
  h.ite (h.count.memEvent.raise.ite (h.encode.memEvent.raise.ite h.poisonPage))

theorem Kept.readErrors {a n errs} (h : Kept o s) : Kept o (Machine.readErrors s a n errs) :=
  h.each (fun _ _ h => h.pageErrors)

theorem Kept.scrubVisit {page errs copyErrs} (h : Kept o s) : Kept o (Machine.scrubVisit s page errs copyErrs) :=
  (h.ite h.retirePage.raise).ite (h.ite ((h.pageErrors.encode.retirePage.ite h.pageErrors.encode).ite
    (h.pageErrors.retirePage.raise.ite h.pageErrors)))

theorem Kept.lapEnd {n page} (h : Kept o s) : Kept o (Machine.lapEnd s n page) :=
  h.setStack.setReg.setReg.memEvent.raise.ite h.setStack.setReg.setReg

theorem Kept.execScrubPage {stack errs copyErrs} {s : State} (h : Kept o s) :
    NextKept o (Machine.execScrubPage stack errs copyErrs s) :=
  .next (h.ite (h.scrubVisit.lapEnd.ite h.scrubVisit.setStack.setReg))

theorem Kept.passClear (h : Kept o s) : Kept o (Machine.passClear s) := h.setReg.setReg.setReg.setReg

theorem Kept.passStart {who} (h : Kept o s) : Kept o (Machine.passStart s who) :=
  h.ite (h.passClear.setReg.ite (h.passClear.setReg.ite h.passClear.setReg))

theorem Kept.execMemPassStart {who} {s : State} (h : Kept o s) : NextKept o (Machine.execMemPassStart who s) :=
  .next (Kept.iteFst h.passStart h).respond

theorem Kept.passVisit {page errs copyErrs} (h : Kept o s) : Kept o (Machine.passVisit s page errs copyErrs) :=
  ((h.scrubVisit.count.ite h.scrubVisit).when fun h => h.count).when fun h => h.count

theorem Kept.passOver {p n errs} (h : Kept o s) : Kept o (Machine.passOver s p n errs) :=
  h.setReg.count.each (fun _ _ h => h.passVisit)

theorem Kept.execMemPassDone {errs} {s : State} (h : Kept o s) : NextKept o (Machine.execMemPassDone errs s) :=
  .next (h.ite h.passOver.setBit.setBit)

theorem Kept.passAbort {visited errs} (h : Kept o s) : Kept o (Machine.passAbort s visited errs) :=
  h.ite h.passOver.setBit.setBit

theorem Kept.execMemPassAbort {who visited errs} {s : State} (h : Kept o s) :
    NextKept o (Machine.execMemPassAbort who visited errs s) :=
  .next (Kept.iteFst h.passAbort h).respond

theorem Kept.rgnErr {k b} (h : Kept o s) : Kept o (State.rgnErr s k b) := h.setBit

theorem Kept.rgnPairWrite {k base count} (h : Kept o s) : Kept o (Machine.rgnPairWrite s k base count) :=
  h.rgnErr.ite h.setFld.setFld.rgnErr

theorem Kept.rgnCfgWrite {k v} (h : Kept o s) : Kept o (Machine.rgnCfgWrite s k v) :=
  h.rgnErr.ite ((h.ite h.setFld.setBit).ite (h.ite h.setFld.setBit).setBit.setFld).rgnErr

theorem Kept.rgnShadowWrite {k v} (h : Kept o s) : Kept o (Machine.rgnShadowWrite s k v) := h.ite h.setFld.rgnErr

theorem Kept.regionWrite {who f} (h : Kept o s) (hf : ∀ t, Kept o t → Kept o (f t)) :
    Kept o (Machine.regionWrite s who f) :=
  (Kept.iteFst (hf _ h) h).respond

theorem Kept.execMirrorEnable {who k} {s : State} (h : Kept o s) : NextKept o (Machine.execMirrorEnable who k s) :=
  .next (h.regionWrite (fun _ h => h.rgnCfgWrite))

theorem Kept.execMirrorDisable {who k} {s : State} (h : Kept o s) : NextKept o (Machine.execMirrorDisable who k s) :=
  .next (h.regionWrite (fun _ h => h.rgnCfgWrite))

theorem Kept.execRegionStrengthWrite {who k strength} {s : State} (h : Kept o s) :
    NextKept o (Machine.execRegionStrengthWrite who k strength s) :=
  .next (h.regionWrite (fun _ h => h.rgnCfgWrite))

theorem Kept.execResilverDone {k} {s : State} (h : Kept o s) : NextKept o (Machine.execResilverDone k s) :=
  .next (h.setFld.ite h)

theorem Kept.execReencodeDone {k} {s : State} (h : Kept o s) : NextKept o (Machine.execReencodeDone k s) :=
  .next (h.ite (h.upd_encBase.each (fun _ _ h => h.setPage)).setBit)

/-! ### System operations -/

theorem Kept.execCall {seat imm} {s : State} (h : Kept o s) : NextKept o (Machine.execCall seat imm s) := by
  unfold Machine.execCall
  refine .next (.issue h (fun _ h => ?_))
  split
  · exact h.trap
  · exact h.trap
  · exact h.trap

theorem Kept.execBreak {seat imm} {s : State} (h : Kept o s) : NextKept o (Machine.execBreak seat imm s) :=
  .next (h.issue (fun _ h => h.trap))

theorem Kept.execTret {seat} {s : State} (h : Kept o s) : NextKept o (Machine.execTret seat s) :=
  .next (h.issue (fun _ h => h.hmOnly (fun _ h => h.trap.ite (h.trap.ite (h.trap.ite ((h.setSeat.modSeat.postEvent.ite
    h.setSeat.modSeat).ite h.setSeat))))))

theorem Kept.execSeatstop {seat} {s : State} (h : Kept o s) : NextKept o (Machine.execSeatstop seat s) :=
  .next (h.issue (fun _ h => h.hmOnly (fun _ h => (h.retire.ite h.retire.setSeat).ite h.retire.setSeatSt)))

theorem Kept.execPlantSeatstopWake {s : State} (h : Kept o s) : NextKept o (Machine.execPlantSeatstopWake s) :=
  .next (h.modSeat.ite h)

theorem Kept.execYield {seat} {s : State} (h : Kept o s) : NextKept o (Machine.execYield seat s) :=
  .next (h.issue (fun _ h => h.retire))

theorem Kept.execRdtime {seat rd} {s : State} (h : Kept o s) : NextKept o (Machine.execRdtime seat rd s) :=
  .next (h.issue (fun _ h => h.retire))

theorem Kept.execSnap {seat rd} {s : State} (h : Kept o s) : NextKept o (Machine.execSnap seat rd s) :=
  .next (h.issue (fun _ h => h.hmOnly (fun _ h => h.trap.ite h.snapTrigger.retire)))

theorem Kept.scrStore {seat n v} (h : Kept o s) : Kept o (Machine.scrStore s seat n v) :=
  h.ite (h.modSeat.modSeat.ite ((h.modSeat.modSeat.ite (h.modSeat.postEvent.modSeat.ite h.modSeat.modSeat)).ite
    h.modSeat))

theorem Kept.scrUpdate {seat n ra fn f} (h : Kept o s) : Kept o (Machine.scrUpdate seat n ra fn f s) :=
  h.issue (fun _ h => h.trap.ite (h.trap.ite (h.trap.ite h.scrStore.retire)))

theorem Kept.execScrd {seat rd num} {s : State} (h : Kept o s) : NextKept o (Machine.execScrd seat rd num s) :=
  .next (h.issue (fun _ h => h.trap.ite (h.trap.ite h.retire)))

theorem Kept.execScwr {seat num ra} {s : State} (h : Kept o s) : NextKept o (Machine.execScwr seat num ra s) :=
  .next h.scrUpdate

theorem Kept.execScset {seat num ra} {s : State} (h : Kept o s) : NextKept o (Machine.execScset seat num ra s) :=
  .next h.scrUpdate

theorem Kept.execScclr {seat num ra} {s : State} (h : Kept o s) : NextKept o (Machine.execScclr seat num ra s) :=
  .next h.scrUpdate

theorem Kept.fence {seat k} (h : Kept o s) : Kept o (Machine.fence seat k s) := h.issue (fun _ h => h.retire.ite h.stall)
theorem Kept.execFenceRw {seat} {s : State} (h : Kept o s) : NextKept o (Machine.execFenceRw seat s) := .next h.fence
theorem Kept.execFenceR {seat} {s : State} (h : Kept o s) : NextKept o (Machine.execFenceR seat s) := .next h.fence
theorem Kept.execFenceW {seat} {s : State} (h : Kept o s) : NextKept o (Machine.execFenceW seat s) := .next h.fence
theorem Kept.execFenceIo {seat} {s : State} (h : Kept o s) : NextKept o (Machine.execFenceIo seat s) := .next h.fence
theorem Kept.execFenceStg {seat} {s : State} (h : Kept o s) : NextKept o (Machine.execFenceStg seat s) := .next h.fence
theorem Kept.execFenceI {seat} {s : State} (h : Kept o s) : NextKept o (Machine.execFenceI seat s) := .next h.fence

theorem Kept.execFenceComplete {seat} {s : State} (h : Kept o s) : NextKept o (Machine.execFenceComplete seat s) := by
  unfold Machine.execFenceComplete
  refine .next ?_
  split
  · exact h.unstall.ite h
  · exact h

theorem Kept.abandon {i} (h : Kept o s) : Kept o (Machine.abandon s i) := h.unstall

theorem Kept.execTakeAsyncEvent {seat} {s : State} (h : Kept o s) : NextKept o (Machine.execTakeAsyncEvent seat s) := by
  unfold Machine.execTakeAsyncEvent
  refine .next (.ite ?_ h)
  split
  · exact h
  · exact (h.abandon.ite h).modSeat.trap.ite (h.abandon.ite h).modSeat.trap.dropEvent

theorem Kept.execQuantumExpiry {seat} {s : State} (h : Kept o s) : NextKept o (Machine.execQuantumExpiry seat s) :=
  .next (h.postEvent.ite h)

theorem Kept.execTimerExpiry {seat} {s : State} (h : Kept o s) : NextKept o (Machine.execTimerExpiry seat s) :=
  .next (h.upd_ringTime.postEvent.modSeat.ite h)

theorem Kept.execIssueFrameBoundary {eng c} {s : State} (h : Kept o s) :
    NextKept o (Machine.execIssueFrameBoundary eng c s) :=
  .next (h.upd_cores.each (fun _ _ h => h.modSeat))

theorem Kept.haltRelease {who eng pos} (h : Kept o s) : Kept o (Machine.haltRelease s who eng pos).1 :=
  Kept.iteFst h (Kept.iteFst h (Kept.iteFst h.setSeatSt h))

theorem Kept.execHaltRelease {who eng pos} {s : State} (h : Kept o s) :
    NextKept o (Machine.execHaltRelease who eng pos s) :=
  .next h.haltRelease.respond

/-! ### The owner and the fuses -/

theorem Kept.burnStart {key} (h : Kept o s) : Kept o (Machine.burnStart s key) := by
  unfold Machine.burnStart
  split
  · exact h.ite h.setBit.upd_burn
  · exact h

theorem Kept.execBurnKey {who} {s : State} (h : Kept o s) : NextKept o (Machine.execBurnKey who s) :=
  .next (Kept.iteFst h.burnStart h).respond

theorem Kept.execBurnRollback {who} {s : State} (h : Kept o s) : NextKept o (Machine.execBurnRollback who s) :=
  .next (Kept.iteFst h.burnStart h).respond

theorem Kept.burnApply {p} (h : Kept o s) : Kept o (Machine.burnApply s p) := by
  obtain ⟨hwf, hkey, hroll, hrest⟩ := (h.setBit (a := Reg.SYS_TRUST) (i := 3) (b := false)).setBit
  exact ⟨hwf, and_or_of_and_eq hkey, and_or_of_and_eq hroll, hrest⟩

theorem Kept.burnPart (h : Kept o s) : Kept o (Machine.burnPart s).2 := h.draw.draw.draw.draw.draw
theorem Kept.ownStatus {w code busy} (h : Kept o s) : Kept o (Machine.ownStatus s w code busy) := h.setReg

theorem Kept.ownerInstall {w lo hi errs} (h : Kept o s) : Kept o (Machine.ownerInstall s w lo hi errs) := by
  unfold Machine.ownerInstall
  obtain ⟨n, hn⟩ : ∃ n, n = 1792 := ⟨_, rfl⟩
  rw [← hn]
  refine .ite h.setFld (.ite h.ownStatus ?_)
  dsimp only
  split
  · exact h.readErrors.ownStatus
  · exact h.readErrors.ownStatus.ite (h.readErrors.ownStatus.ite h.readErrors.ownStatus.upd_install)

theorem Kept.execOwnerInstall {who lo hi errs} {s : State} (h : Kept o s) :
    NextKept o (Machine.execOwnerInstall who lo hi errs s) :=
  .next (Kept.iteFst h.ownerInstall h).respond

theorem Kept.routesClear {i} (h : Kept o s) : Kept o (Machine.routesClear s i) :=
  ((h.each (fun _ _ h => h.each (fun _ _ h => h.setBit.ite h))).each (fun _ _ h => h.each (fun _ _ h => h.setBit.ite
    h))).when fun h => h.setBit

theorem Kept.seatLeave {i} (h : Kept o s) : Kept o (Machine.seatLeave s i) := h.routesClear.seatOff.setSeat

theorem Kept.granuleLeave {g} (h : Kept o s) : Kept o (Machine.granuleLeave s g) := by
  obtain ⟨hwf, hrest⟩ := h
  exact ⟨fun hc => ⟨swf_filter _ (hwf hc).1, (hwf hc).2⟩, hrest⟩

theorem Kept.assignSeats (h : Kept o s) : Kept o (Machine.assignSeats s) := by
  unfold Machine.assignSeats
  dsimp only
  split
  · refine .modSeat (.each h (fun _ _ h => .each h (fun _ _ h => ?_)))
    split
    · exact h.modSeat.ite h
    · exact h
  · refine .each h (fun _ _ h => .each h (fun _ _ h => ?_))
    split
    · exact h.modSeat.ite h
    · exact h

theorem Kept.capShares {r} (h : Kept o s) : Kept o (Machine.capShares s r) :=
  h.each (fun _ _ h => h.each (fun _ _ h => h.setFld))

theorem Kept.installApply {r} (h : Kept o s) : Kept o (Machine.installApply s r) := by
  unfold Machine.installApply
  refine .each (.setFld (.setBit (.setReg (.each (.capShares (.assignSeats (.upd_owner_install (.setBit (.each (.ite
    (.routesClear (.each h (fun _ _ h => .each h (fun _ _ h => ?_)))) (.each h (fun _ _ h => .each h (fun _ _ h => ?_))))
    (fun _ _ h => h.granuleLeave)))))) (fun _ _ h => h.engineSeatsOn.ite h))))) (fun _ _ h => h.ite h.notify)
  · split
    · exact h.ite h.seatLeave
    · exact h
  · split
    · exact h.ite h.seatLeave
    · exact h

theorem Kept.execOwnerInstallApply {s : State} (h : Kept o s) : NextKept o (Machine.execOwnerInstallApply s) := by
  unfold Machine.execOwnerInstallApply
  refine .next ?_
  split
  · exact h.installApply
  · exact h

/-! ### Calibration -/

theorem Kept.trimApply {eng} (h : Kept o s) : Kept o (Machine.trimApply s eng) := (h.each (fun _ _ h => h.setReg)).setFld

theorem Kept.trimImport {bs} (h : Kept o s) : Kept o (Machine.trimImport s bs) :=
  h.setFld.setFld.ite (h.setFld.setFld.each (fun _ _ h => h.trimApply)).setFld

theorem Kept.calWrite {dom bs} (h : Kept o s) : OptKept o id (Machine.calWrite s dom bs) := by
  unfold Machine.calWrite
  refine .ite (.ite (.some h.storeWrite) .none) (.ite .none ?_)
  split
  · exact .ite h.memWrite .none
  · exact h.memWrite

theorem Kept.calEnd {r} (h : Kept o s) : Kept o (Machine.calEnd s r) := h.setFld.setBit.setBit

theorem Kept.calCommand {w isImport} (h : Kept o s) : Kept o (Machine.calCommand s w isImport) :=
  h.setFld.setBit.ite (h.setFld.calEnd.ite h.setBit.upd_cal)

theorem Kept.execCalExport {who} {s : State} (h : Kept o s) : NextKept o (Machine.execCalExport who s) :=
  .next (Kept.iteFst h.calCommand h).respond

theorem Kept.execCalImport {who} {s : State} (h : Kept o s) : NextKept o (Machine.execCalImport who s) :=
  .next (Kept.iteFst h.calCommand h).respond

theorem Kept.execCalCommandDone {errs} {s : State} (h : Kept o s) : NextKept o (Machine.execCalCommandDone errs s) := by
  unfold Machine.execCalCommandDone
  refine .next ?_
  split
  · exact h
  · extract_lets s₁ bs a s₂ s₃
    have hread : Kept o s₂ := h.upd_cal.readErrors.ite h.upd_cal
    have hdone : Kept o s₃ := by
      unfold s₃
      split
      · exact hread.calEnd
      · split
        · exact hread.trimImport.calEnd
        · exact hread.calEnd
    refine .ite ?_ (hdone.adcGo.ite hdone)
    split
    next _ e => exact (h.upd_cal.calWrite.of e).setFld.calEnd
    next => exact h.upd_cal.calEnd

theorem Kept.bootTrim (h : Kept o s) : Kept o (Machine.bootTrim s) := by
  unfold Machine.bootTrim
  split
  · exact h.setBit
  · exact h.trimImport.ite h.trimImport.setBit.raise

theorem Kept.snpArm (h : Kept o s) : Kept o (Machine.snpArm s) := h.ite h.setBit.setBit
theorem Kept.execSnpArm {s : State} (h : Kept o s) : NextKept o (Machine.execSnpArm s) := .next h.snpArm
theorem Kept.execSnpTrig {s : State} (h : Kept o s) : NextKept o (Machine.execSnpTrig s) := .next h.snapTrigger

theorem Kept.execSnapinEdge {t} {s : State} (h : Kept o s) : NextKept o (Machine.execSnapinEdge t s) :=
  .next h.snapTrigger

theorem Kept.execSnapshotDone {s : State} (h : Kept o s) : NextKept o (Machine.execSnapshotDone s) :=
  .next (h.setBit.setBit.ite h)

theorem Kept.snpDbgWrite {w v} (h : Kept o s) : Kept o (Machine.snpDbgWrite s w v).1 := Kept.iteFst h.setBit h

theorem Kept.execSnpDbgWrite {who value} {s : State} (h : Kept o s) : NextKept o (Machine.execSnpDbgWrite who value s) :=
  .next (Kept.iteFst h.snpDbgWrite h).respond

theorem Kept.tapLoad {ir} (h : Kept o s) : Kept o (Machine.tapLoad s ir) := h.upd_tapIr.ite h
theorem Kept.tapGuarded {ir} (h : Kept o s) : Kept o (Machine.tapGuarded s ir) := h.tapLoad
theorem Kept.tapDrive {ir} (h : Kept o s) : Kept o (Machine.tapDrive s ir) := h.tapGuarded.safeOrder.ite h.tapGuarded
theorem Kept.execTapReset {s : State} (h : Kept o s) : NextKept o (Machine.execTapReset s) := .next h.tapLoad

theorem Kept.execTapIdcode {s : State} (h : Kept o s) : NextKept o (Machine.execTapIdcode s) :=
  .next (h.tapLoad.upd_out.ite h)

theorem Kept.execTapSamplePreload {s : State} (h : Kept o s) : NextKept o (Machine.execTapSamplePreload s) :=
  .next h.tapLoad

theorem Kept.execTapExtest {s : State} (h : Kept o s) : NextKept o (Machine.execTapExtest s) := .next h.tapDrive
theorem Kept.execTapHighz {s : State} (h : Kept o s) : NextKept o (Machine.execTapHighz s) := .next h.tapDrive
theorem Kept.execTapClamp {s : State} (h : Kept o s) : NextKept o (Machine.execTapClamp s) := .next h.tapDrive
theorem Kept.execTapDbgacc {s : State} (h : Kept o s) : NextKept o (Machine.execTapDbgacc s) := .next h.tapGuarded
theorem Kept.execTapBypass {s : State} (h : Kept o s) : NextKept o (Machine.execTapBypass s) := .next h.tapLoad

/-! ### Stage queues -/

theorem Kept.setQueue {eng u q} (h : Kept o s) : Kept o (State.setQueue s eng u q) := h

theorem Kept.writeRecord {seat u seq notify done status} (h : Kept o s) :
    Kept o (Machine.writeRecord s seat u seq notify done status) :=
  h.storeWrite.modSeat.ite h.storeWrite

theorem Kept.completeWork {eng u st done} (h : Kept o s) : Kept o (Machine.completeWork s eng u st done) := by
  unfold Machine.completeWork
  split
  · exact h
  · exact h.setQueue.modSeat.writeRecord

theorem Kept.modWork {eng u f} (h : Kept o s) : Kept o (Machine.modWork s eng u f) := by
  unfold Machine.modWork
  split
  · exact h
  · exact h.setQueue

theorem Kept.stgAccept {i r} (h : Kept o s) : Kept o (Machine.stgAccept s i r) :=
  h.modSeat.writeRecord.ite h.modSeat.modSeat.setQueue

theorem Kept.stgSubmit {i r} (h : Kept o s) : Kept o (Machine.stgSubmit s i r) := h.stgAccept.ite h.stall

theorem Kept.execStgL {seat rd ra rc unit notify wd w0 w1 w2 w3} {s : State} (h : Kept o s) :
    NextKept o (Machine.execStgL seat rd ra rc unit notify wd w0 w1 w2 w3 s) := by
  unfold Machine.execStgL
  refine .next (.issue h (fun _ h => .ite h.trap (.hmOnly h (fun _ h => .ite h.trap (.ite h.stgSubmit ?_)))))
  dsimp only
  split
  · exact h.takeTrap
  · exact h.stgSubmit

theorem Kept.execStgAccept {seat} {s : State} (h : Kept o s) : NextKept o (Machine.execStgAccept seat s) := by
  unfold Machine.execStgAccept
  refine .next ?_
  split
  · exact h.unstall.stgAccept.ite h
  · exact h

theorem Kept.execWpos {seat rd ra web} {s : State} (h : Kept o s) : NextKept o (Machine.execWpos seat rd ra web s) := by
  unfold Machine.execWpos
  refine .next (.issue h (fun _ h => .zvOnly h (fun _ h => .hmOnly h (fun _ h => ?_))))
  dsimp only
  split
  · exact h.retire
  · exact h.stall

theorem Kept.execWposComplete {seat} {s : State} (h : Kept o s) : NextKept o (Machine.execWposComplete seat s) := by
  unfold Machine.execWposComplete
  refine .next ?_
  split
  · split
    · exact h.unstall
    · exact h
  · exact h

/-! ### Slot windows -/

theorem Kept.setEng {eng r} (h : Kept o s) : Kept o (State.setEng s eng r) := h
theorem Kept.engineCalm {eng} (h : Kept o s) : Kept o (Machine.engineCalm s eng) := h.ite h.liveOff

theorem Kept.slotWrite {seat d off bs} (h : Kept o s) : ExcKept o id (Machine.slotWrite s seat d off bs) := by
  unfold Machine.slotWrite
  refine .ite (.ok h) (.ite .error ?_)
  split
  · refine .ite .error ?_
    split
    next _ e => exact .ok (h.memWrite.of e)
    · exact .error
  · exact .ok h.storeWrite
  · exact .error

/-! ### LCU -/

theorem Kept.modLcu {eng f} (h : Kept o s) : Kept o (State.modLcu s eng f) := h.setEng

theorem Kept.execLcuReadyPoll {eng} {s : State} (h : Kept o s) : NextKept o (Machine.execLcuReadyPoll eng s) := by
  unfold Machine.execLcuReadyPoll
  refine .next ?_
  split
  · exact h.modLcu
  · exact h

theorem Kept.spoilRecord {eng w p late err flags} (h : Kept o s) :
    ExcKept o id (Machine.spoilRecord s eng w p late err flags) := by
  unfold Machine.spoilRecord
  dsimp only
  split
  · exact .error
  · split
    · exact .error
    next _ e =>
      split
      · exact .error
      next _ e' => exact .ok (((ExcKept.from id e (.ite (.ok h) h.slotWrite)).slotWrite.of e').count.raise.ite
        ((ExcKept.from id e (.ite (.ok h) h.slotWrite)).slotWrite.of e'))

theorem Kept.decisionRecord {w x} (h : Kept o s) : ExcKept o id (Machine.decisionRecord s w x) := h.slotWrite

theorem Kept.applyDecision {eng w x} (h : Kept o s) : Kept o (Machine.applyDecision s eng w x) := by
  unfold Machine.applyDecision
  dsimp only
  split
  · exact h.setReg64.setBit.setBit.count.modLcu.completeWork.setBit
  next _ e =>
    refine .ite ((h.setReg64.setBit.setBit.count.modLcu.decisionRecord.of e)) ?_
    split
    next _ e' => exact ((h.setReg64.setBit.setBit.count.modLcu.decisionRecord.of e).spoilRecord.of e')
    · exact (h.setReg64.setBit.setBit.count.modLcu.decisionRecord.of e).completeWork.setBit

theorem Kept.execLcuBoundaryDecision {eng} {s : State} (h : Kept o s) :
    NextKept o (Machine.execLcuBoundaryDecision eng s) := by
  unfold Machine.execLcuBoundaryDecision
  refine .next ?_
  split
  · exact h
  · refine .ite ?_ (h.applyDecision.ite (h.applyDecision.ite h.modLcu.setBit))
    split
    · exact h.modLcu
    · exact h

theorem Kept.execLcuWorkStart {eng} {s : State} (h : Kept o s) : NextKept o (Machine.execLcuWorkStart eng s) := by
  unfold Machine.execLcuWorkStart
  refine .next ?_
  split
  · refine .ite h (.ite h.completeWork (.ite h.completeWork ?_))
    split
    · exact h.completeWork
    · exact h.modWork.setBit.modLcu
  · exact h

theorem Kept.layerError {eng w x i} (h : Kept o s) : ExcKept o Prod.fst (Machine.layerError s eng w x i) := by
  unfold Machine.layerError
  refine .ite (.ok h.count) ?_
  split
  · exact .error
  next _ e =>
    split
    · exact .error
    next _ e' => exact .ok ((h.count.decisionRecord.of e).spoilRecord.of e')

theorem Kept.composeLayer {eng w x y i l planes} (h : Kept o s) :
    ExcKept o Prod.fst (Machine.composeLayer s eng w x y i l planes) := by
  unfold Machine.composeLayer
  refine .ite (.ok h) (.ite ?_ (.ite (.ok h) (.ok h)))
  dsimp only
  split
  · split
    · exact .error
    next _ _ e => exact .ok (h.layerError.of e)
  · refine .ite ?_ (.ok h)
    split
    · split
      · exact .error
      next _ _ e => exact .ok (h.layerError.of e)
    next _ e => exact .ok (h.slotWrite.of e)

theorem Kept.composeLayers {e w y x i ls planes} (h : Kept o s) :
    ExcKept o Prod.fst (Machine.composeLayers e w y x i ls planes s) := by
  induction ls generalizing s x i planes with
  | nil => exact .ok h
  | cons l ls ih =>
    unfold Machine.composeLayers
    split
    · exact .error
    next e => exact ih (h.composeLayer.of e)

theorem Kept.pitchEnd {eng w x} (h : Kept o s) : Kept o (Machine.pitchEnd s eng w x) := by
  unfold Machine.pitchEnd
  refine .ite (h.modLcu.ite h) (.each h (fun _ _ h => .ite ?_ h))
  split
  next _ e => exact (h.slotWrite.of e)
  · exact h

theorem Kept.endWork {eng u st done status} (h : Kept o s) : Kept o (Machine.endWork s eng u st done status) :=
  h.completeWork.setBit

theorem Kept.execLcuLine {eng} {s : State} (h : Kept o s) : NextKept o (Machine.execLcuLine eng s) := by
  unfold Machine.execLcuLine
  refine .next ?_
  split
  · refine .ite h ?_
    dsimp only
    split
    · exact h.endWork
    next e =>
      have h := h.composeLayers.of e
      split
      · exact h.modLcu.setBit.endWork
      next e' =>
        have h := h.modLcu.setBit.slotWrite.of e'
        exact (h.pitchEnd.ite h).modWork.endWork.ite (h.pitchEnd.ite h).modWork
  · exact h

/-! ### ICU -/

theorem Kept.clearBank {w b} (h : Kept o s) : ExcKept o id (Machine.clearBank s w b) := h.slotWrite
theorem Kept.modIcu {eng f} (h : Kept o s) : Kept o (State.modIcu s eng f) := h.setEng

theorem Kept.execIcuWorkStart {eng} {s : State} (h : Kept o s) : NextKept o (Machine.execIcuWorkStart eng s) := by
  unfold Machine.execIcuWorkStart
  refine .next ?_
  split
  · refine .ite h (.ite h.completeWork ?_)
    extract_lets d tab r
    have hr : ExcKept o id r := by
      unfold r
      split
      · exact .error
      · exact .ite (.ok h) h.slotWrite
    cases e : r with
    | error st => exact h.completeWork
    | ok t => exact (hr.of e).modWork.setBit.modIcu
  · exact h

theorem Kept.icuEnd {eng st done} (h : Kept o s) : Kept o (Machine.icuEnd s eng st done) :=
  h.endWork.modIcu.setBit.engineCalm

theorem Kept.icuCancelNow {eng} (h : Kept o s) : Kept o (Machine.icuCancelNow s eng) := by
  unfold Machine.icuCancelNow
  refine .each ?_ (fun _ _ h => h.completeWork)
  split
  · exact h.icuEnd
  · exact h

theorem Kept.icuCancel {eng} (h : Kept o s) : Kept o (Machine.icuCancel s eng) := h.modIcu.ite h.icuCancelNow

theorem Kept.execIcuCancel {eng} {s : State} (h : Kept o s) : NextKept o (Machine.execIcuCancel eng s) :=
  .next h.icuCancel

theorem Kept.execIcuAdjWrite {eng value} {s : State} (h : Kept o s) : NextKept o (Machine.execIcuAdjWrite eng value s) :=
  .next h.setFld

theorem Kept.deliverRow {eng i w b r bytes} (h : Kept o s) : Kept o (Machine.deliverRow s eng i w b r bytes) :=
  h.modIcu.engineCalm.ite (h.modIcu.engineCalm.count.ite h.modIcu.engineCalm.modIcu)

theorem Kept.setIcuStr {eng i x} (h : Kept o s) : Kept o (State.setIcuStr s eng i x) := h.modIcu

theorem Kept.feedRow {e i w len bs} (h : Kept o s) : Kept o (Machine.feedRow e i w len bs s) := by
  induction bs generalizing s with
  | nil => exact h
  | cons b bs ih => exact h.ite (.ite (ih h.setIcuStr) (ih (h.setIcuStr.ite h.setIcuStr.deliverRow)))

theorem Kept.packetDrop {eng} (h : Kept o s) : Kept o (Machine.packetDrop s eng) := h.count

theorem Kept.icuLeader {eng i w n bid pid ptype fmt sx sy px} (h : Kept o s) :
    Kept o (Machine.icuLeader s eng i w n bid pid ptype fmt sx sy px) := by
  unfold Machine.icuLeader
  dsimp only
  split
  · exact h.count
  · exact h.setIcuStr.ite h.setIcuStr.count

theorem Kept.icuPayload {eng i w n bid pid bytes} (h : Kept o s) :
    Kept o (Machine.icuPayload s eng i w n bid pid bytes) :=
  h.packetDrop.ite h.setIcuStr.feedRow

theorem Kept.icuTrailer {eng i w n bid pid sizeY} (h : Kept o s) :
    Kept o (Machine.icuTrailer s eng i w n bid pid sizeY) :=
  h.packetDrop.ite h.setIcuStr.modIcu

theorem Kept.icuPacket {eng i w g} (h : Kept o s) : Kept o (Machine.icuPacket s eng i w g) := by
  unfold Machine.icuPacket
  refine .ite h.packetDrop ?_
  split
  · exact h.packetDrop
  · exact h.icuLeader
  · exact h.icuPayload
  · exact h.icuTrailer

theorem Kept.execGvspPacket {group d} {s : State} (h : Kept o s) : NextKept o (Machine.execGvspPacket group d s) := by
  unfold Machine.execGvspPacket
  refine .next (.ite h ?_)
  dsimp only
  split
  · exact h.count
  · exact h.each (fun _ _ h => h.icuPacket)

theorem Kept.execIcuStreamStale {eng stream} {s : State} (h : Kept o s) :
    NextKept o (Machine.execIcuStreamStale eng stream s) := by
  unfold Machine.execIcuStreamStale
  refine .next ?_
  split
  · exact h
  · exact h.ite h.setIcuStr.setBit.raise

theorem Kept.addEvidence {w b k n r} (h : Kept o s) : ExcKept o id (Machine.addEvidence s w b k n r) := by
  unfold Machine.addEvidence
  split
  · exact .error
  · exact h.slotWrite

theorem Kept.planeEvidence {e w m parts ps y b k p} (h : Kept o s) :
    ExcKept o id (Machine.planeEvidence s e w m parts ps y b k p) := by
  refine .ite (.ok h) (.foldlM (fun t x h => .ite (.ok h) ?_) _ h)
  split
  · exact .ok h
  · split
    · exact .error
    · exact .ite (.ok h) h.addEvidence

theorem Kept.lineEvidence {e w m parts ps y} (h : Kept o s) : ExcKept o id (Machine.lineEvidence s e w m parts ps y) :=
  .ite (.ok h) (.foldlM (fun _ _ h => h.planeEvidence) _ h)

theorem Kept.lockLine {eng w m parts y} (h : Kept o s) : ExcKept o id (Machine.lockLine s eng w m parts y) := by
  unfold Machine.lockLine
  split
  · exact .ok h
  · refine .ite (.ok h) ?_
    split
    · exact .error
    · exact .ok h.modIcu

theorem Kept.windowEnd {eng w wn} (h : Kept o s) : ExcKept o id (Machine.windowEnd s eng w wn) := by
  unfold Machine.windowEnd
  refine .ite ?_ ?_
  · split
    next _ e => exact .ok (h.modIcu.clearBank.of e).count
    · exact .error
  · split
    next _ e => exact .ok (h.modIcu.clearBank.of e).modIcu.setBit
    · exact .error

theorem Kept.compareLine {eng w y} (h : Kept o s) : ExcKept o id (Machine.compareLine s eng w y) := by
  unfold Machine.compareLine
  dsimp only
  split
  · exact .error
  · split
    · exact .error
    · split
      · exact .error
      next _ e =>
        split
        · exact .error
        next _ e' =>
          split
          · exact .error
          next _ e'' => exact .ite (((ExcKept.from id e' (.ite (.ok (h.lineEvidence.of e).count) (h.lineEvidence.of
            e).lockLine)).setReg64.modIcu.when fun h => h.setBit).slotWrite.of e'').windowEnd (.ok (((ExcKept.from id e'
            (.ite (.ok (h.lineEvidence.of e).count) (h.lineEvidence.of e).lockLine)).setReg64.modIcu.when
            fun h => h.setBit).slotWrite.of e''))

theorem Kept.icuNextLine {eng w} (h : Kept o s) : Kept o (Machine.icuNextLine s eng w) := by
  unfold Machine.icuNextLine
  split
  · exact h.icuEnd
  next _ e => exact (h.compareLine.of e).modWork.icuEnd.ite (h.compareLine.of e).modWork

theorem Kept.execIcuLineCompare {eng} {s : State} (h : Kept o s) : NextKept o (Machine.execIcuLineCompare eng s) := by
  unfold Machine.execIcuLineCompare
  refine .next ?_
  split
  · exact h.icuNextLine.ite h
  · exact h

theorem Kept.execIcuLineTimeout {eng} {s : State} (h : Kept o s) : NextKept o (Machine.execIcuLineTimeout eng s) := by
  unfold Machine.execIcuLineTimeout
  refine .next ?_
  split
  · exact h.icuNextLine.ite h
  · exact h

theorem Kept.icuLock {eng} (h : Kept o s) : Kept o (Machine.icuLock s eng) := by
  unfold Machine.icuLock
  split
  · exact h
  · exact h.modIcu.setBit.setBit

theorem Kept.execIcuLock {eng} {s : State} (h : Kept o s) : NextKept o (Machine.execIcuLock eng s) := .next h.icuLock

theorem Kept.execIcuLockDone {eng} {s : State} (h : Kept o s) : NextKept o (Machine.execIcuLockDone eng s) := by
  unfold Machine.execIcuLockDone
  refine .next ?_
  split
  · exact h.ite h.setReg.setReg64.setBit.modIcu
  · exact h

theorem Kept.proposal {w c flags} (h : Kept o s) : ExcKept o id (Machine.proposal s w c flags) := by
  unfold Machine.proposal
  dsimp only
  split
  · exact .error
  · split
    · exact .error
    next _ e => exact (ExcKept.from id e (.ite (.ok h) h.slotWrite)).slotWrite

theorem Kept.recordChange {eng w c flags} (h : Kept o s) : ExcKept o id (Machine.recordChange s eng w c flags) :=
  .ite (.ok h) h.proposal

theorem Kept.casChange {eng w c} (h : Kept o s) : ExcKept o id (Machine.casChange s eng w c) := by
  unfold Machine.casChange
  dsimp only
  split
  · exact .error
  · split
    · exact .error
    next _ e =>
      split
      · exact .error
      · split
        · exact .error
        next _ e' =>
          split
          · exact .error
          next _ e'' =>
            split
            · exact .error
            next _ e''' => exact (((((ExcKept.from id e (.ite h.slotWrite (.ok h))).count.ite (ExcKept.from id e (.ite
              h.slotWrite (.ok h))).count).slotWrite.of e').slotWrite.of e'').slotWrite.of e''').recordChange

theorem Kept.otherStores {w stores} (h : Kept o s) : Kept o (Machine.otherStores s w stores) := by
  unfold Machine.otherStores
  refine .each h (fun _ _ h => ?_)
  split
  next _ e => exact (h.slotWrite.of e)
  · exact h

theorem Kept.handleChanges {e w l} (h : Kept o s) : ExcKept o id (Machine.handleChanges s e w l) := by
  refine .ite ?_ (.foldlM (fun _ _ h => .ite h.recordChange h.casChange) _ h)
  split
  · exact .error
  next e => exact .ok ((ExcKept.foldlM (fun _ _ h => h.recordChange) _ h).of e).setBit.raise

theorem Kept.execIcuEvaluate {eng stores} {s : State} (h : Kept o s) :
    NextKept o (Machine.execIcuEvaluate eng stores s) := by
  unfold Machine.execIcuEvaluate
  refine .next ?_
  split
  · split
    · exact h.icuEnd
    · split
      · exact h.icuEnd
      next _ e => exact (h.otherStores.handleChanges.of e).modIcu
  · exact h

theorem Kept.execIcuEvaluationDone {eng} {s : State} (h : Kept o s) :
    NextKept o (Machine.execIcuEvaluationDone eng s) := by
  unfold Machine.execIcuEvaluationDone
  refine .next ?_
  split
  · exact h
  · exact h.ite (h.count.setBit.modIcu.icuCancelNow.ite (h.count.setBit.modIcu.icuEnd.ite h.count.setBit.modIcu))

theorem Kept.icuReport {eng a b} (h : Kept o s) : Kept o (Machine.icuReport s eng a b) := by
  unfold Machine.icuReport
  refine .ite h (.ite h.modIcu ?_)
  dsimp only
  split
  · exact h.modIcu
  · exact h.modIcu.modIcu.setBit.ite h.modIcu

/-! ### Spare engines -/

theorem Kept.setRole {eng r} (h : Kept o s) : Kept o (State.setRole s eng r) := h.setFld.setBit
theorem Kept.setSuspect {eng b} (h : Kept o s) : Kept o (State.setSuspect s eng b) := h.setBit
theorem Kept.setSwath {w eng} (h : Kept o s) : Kept o (State.setSwath s w eng) := h.setFld
theorem Kept.setPhase {p t} (h : Kept o s) : Kept o (State.setPhase s p t) := h.setFld.setFld
theorem Kept.modSpare {f} (h : Kept o s) : Kept o (State.modSpare s f) := h

theorem Kept.spareRecord {dom event t eng w line last} (h : Kept o s) :
    Kept o (Machine.spareRecord s dom event t eng w line last) :=
  h.notify

theorem Kept.sparePress {event t eng w line last} (h : Kept o s) :
    Kept o (Machine.sparePress s event t eng w line last) := by
  unfold Machine.sparePress
  split
  · exact h.spareRecord
  · exact h

theorem Kept.cancelWorks {eng} (h : Kept o s) : Kept o (Machine.cancelWorks s eng) :=
  (h.each (fun _ _ h => h.each (fun _ _ h => h.completeWork))).setEng.setFld.setBit.setFld.setFld.setFld.setBit

theorem Kept.shadowStart {eng t again} (h : Kept o s) : Kept o (Machine.shadowStart s eng t again) :=
  h.setRole.setPhase.setReg.modSpare.setEng.sparePress

theorem Kept.tryRotate (h : Kept o s) : Kept o (Machine.tryRotate s) := by
  unfold Machine.tryRotate
  refine .ite h ?_
  split
  · split
    · exact h.shadowStart.ite h
    · exact h
  · exact h

theorem Kept.wantRotate (h : Kept o s) : Kept o (Machine.wantRotate s) := h.modSpare.tryRotate

theorem Kept.sprWrite {who f} (h : Kept o s) (hf : ∀ t, Kept o t → Kept o (f t)) : Kept o (Machine.sprWrite s who f) :=
  (Kept.iteFst (hf _ h) h).respond

theorem Kept.execSprRotate {who} {s : State} (h : Kept o s) : NextKept o (Machine.execSprRotate who s) :=
  .next (h.sprWrite (fun _ h => h.wantRotate))

theorem Kept.execRotationDue {s : State} (h : Kept o s) : NextKept o (Machine.execRotationDue s) :=
  .next (h.ite h.wantRotate)

theorem Kept.shadowEnd (h : Kept o s) : Kept o (Machine.shadowEnd s) := by
  unfold Machine.shadowEnd
  exact h.cancelWorks.setRole.setPhase.modSpare

theorem Kept.sprAbort (h : Kept o s) : Kept o (Machine.sprAbort s) := h.shadowEnd.ite h

theorem Kept.execSprAbort {who} {s : State} (h : Kept o s) : NextKept o (Machine.execSprAbort who s) :=
  .next (h.sprWrite (fun _ h => h.sprAbort))

theorem Kept.execShadowTimeout {s : State} (h : Kept o s) : NextKept o (Machine.execShadowTimeout s) :=
  .next (h.shadowEnd.setBit.modSpare.sparePress.ite h)

theorem Kept.handoffAt {hd} (h : Kept o s) : Kept o (Machine.handoffAt s hd) := by
  unfold Machine.handoffAt
  dsimp only
  split
  · exact h.modSpare.setReg64.setEng
  · exact h.modSpare.setReg64

theorem Kept.shadowSuccess (h : Kept o s) : Kept o (Machine.shadowSuccess s) := h.handoffAt.setSuspect
theorem Kept.bistEnter {eng} (h : Kept o s) : Kept o (Machine.bistEnter s eng) := h.fenceIsland.setRole.setPhase

theorem Kept.shadowMismatch {y} (h : Kept o s) : Kept o (Machine.shadowMismatch s y) :=
  h.setReg64.setBit.raise.sparePress.handoffAt.setSuspect.ite h.setReg64.setBit.raise.sparePress.bistEnter.modSpare

theorem Kept.execHandoff {s : State} (h : Kept o s) : NextKept o (Machine.execHandoff s) := by
  unfold Machine.execHandoff
  refine .next ?_
  split
  · exact h.ite (h.cancelWorks.setSwath.ite h.cancelWorks).setRole.modSpare.bistEnter.sparePress
  · exact h

theorem Kept.takeOver {eng w} (h : Kept o s) : Kept o (Machine.takeOver s eng w) := by
  unfold Machine.takeOver
  split
  · exact h
  dsimp only
  split
  · exact h
  split
  · exact h
  refine .setReg64 (.setBit (.setFld (.modSpare (.setReg64 (.setEng (.ite (.setBit ?_) ?_))))))
  all_goals
    split
    next e => exact h.slotWrite.of e
    · exact h

theorem Kept.recoverStart {eng t w} (h : Kept o s) : Kept o (Machine.recoverStart s eng t w) :=
  h.setRole.setPhase.modSpare.setEng.when fun h => h.setSwath.unless fun h => h.takeOver

theorem Kept.engineFailed {t} (h : Kept o s) : Kept o (Machine.engineFailed s t) := by
  unfold Machine.engineFailed
  refine .ite h ?_
  dsimp only
  split
  · exact ((h.fenceIsland.setRole.raise.each (fun _ _ h => h.spareRecord)).when fun h => h.shadowEnd).recoverStart
  · split
    · exact ((h.fenceIsland.setRole.raise.each (fun _ _ h => h.spareRecord)).when fun h => h.setSwath).setPhase.modSpare
    · exact ((h.fenceIsland.setRole.raise.each (fun _ _ h => h.spareRecord)).when fun h => h.setSwath).raise

theorem Kept.execEmissionWatchdog {eng} {s : State} (h : Kept o s) : NextKept o (Machine.execEmissionWatchdog eng s) := by
  unfold Machine.execEmissionWatchdog
  refine .next ?_
  split
  · split
    · exact h.engineFailed.ite h
    · exact h
  · exact h

theorem Kept.execEngineFatalError {eng} {s : State} (h : Kept o s) : NextKept o (Machine.execEngineFatalError eng s) :=
  .next h.engineFailed

theorem Kept.execSprFail {who eng} {s : State} (h : Kept o s) : NextKept o (Machine.execSprFail who eng s) :=
  .next (h.sprWrite (fun _ h => h.engineFailed.ite h))

theorem Kept.sprRetest {eng} (h : Kept o s) : Kept o (Machine.sprRetest s eng) := h.setRole.setPhase.ite h

theorem Kept.execSprRetest {who eng} {s : State} (h : Kept o s) : NextKept o (Machine.execSprRetest who eng s) :=
  .next (h.sprWrite (fun _ h => h.sprRetest))

theorem Kept.leaveBist (h : Kept o s) : Kept o (Machine.leaveBist s) := h.setPhase.ite h

theorem Kept.execSelfTestEnd {eng pass} {s : State} (h : Kept o s) : NextKept o (Machine.execSelfTestEnd eng pass s) := by
  unfold Machine.execSelfTestEnd
  refine .next (.ite h ?_)
  split
  · exact h.markReset.unfence.recoverStart
  · exact (h.modSpare.markReset.unfence.setRole.leaveBist.sparePress.fork (fun h => h.shadowStart)
      fun h => h.tryRotate).ite h.modSpare.setRole.leaveBist.raise.sparePress

theorem Kept.execChannelTimeout {near far expecting posted allPorts} {s : State} (h : Kept o s) :
    NextKept o (Machine.execChannelTimeout near far expecting posted allPorts s) :=
  .next (h.count.discardPosted.ite (h.count.discardPosted.engineFailed.ite (h.count.discardPosted.fenceIsland.ite
    h.count.discardPosted)))

theorem Kept.execRecoverComplete {eng} {s : State} (h : Kept o s) : NextKept o (Machine.execRecoverComplete eng s) := by
  unfold Machine.execRecoverComplete
  refine .next ?_
  split
  · split
    · exact h
    · exact h.setReg64.setReg64.setRole.setPhase.sparePress.ite h
  · exact h

theorem Kept.sprRecWrite {w lo hi} (h : Kept o s) : Kept o (Machine.sprRecWrite s w lo hi) :=
  h.setReg.setReg.modSpare.setBit

theorem Kept.execSprRecWrite {who swath lo hi} {s : State} (h : Kept o s) :
    NextKept o (Machine.execSprRecWrite who swath lo hi s) :=
  .next (h.sprWrite (fun _ h => h.sprRecWrite.ite h))

/-! ### EMU -/

theorem Kept.emuStatus {eng} (h : Kept o s) : Kept o (Machine.emuStatus s eng) := h.setFld.setBit
theorem Kept.setEmu {eng r} (h : Kept o s) : Kept o (State.setEmu s eng r) := h.setEng.emuStatus
theorem Kept.showEline {eng l} (h : Kept o s) : Kept o (State.showEline s eng l) := h.setReg64

theorem Kept.execEmuWorkStart {eng} {s : State} (h : Kept o s) : NextKept o (Machine.execEmuWorkStart eng s) := by
  unfold Machine.execEmuWorkStart
  refine .next ?_
  split
  · refine .ite h (.ite h.completeWork ?_)
    split
    · exact h.completeWork
    · split
      · exact h.completeWork
      · refine .ite h.completeWork ?_
        split
        · exact h.completeWork
        next _ e => exact ((h.slotWrite.of e).setBit.ite (h.slotWrite.of e)).modWork.setEng.setEmu.showEline
  · exact h

theorem Kept.sendDrop {eng d b ptype flags seg snoz0 snnoz line drops} (h : Kept o s) :
    Kept o (Machine.sendDrop s eng d b ptype flags seg snoz0 snnoz line drops) :=
  h.enqueueDrop.ite h

theorem Kept.sendData {eng d b flags line plane} (h : Kept o s) : Kept o (Machine.sendData s eng d b flags line plane) :=
  h.each (fun _ _ h => h.sendDrop)

theorem Kept.underrunCalm (h : Kept o s) : Kept o (Machine.underrunCalm s) := h.ite h.liveOff

theorem Kept.underrun {eng line} (h : Kept o s) : Kept o (Machine.underrun s eng line) :=
  ((h.count.setReg64.raise.ite h.count).setReg64.setEng.when fun h => h.setEng.raise).emuStatus

theorem Kept.dataSent {eng} (h : Kept o s) : Kept o (Machine.dataSent s eng) := h.setEng.underrunCalm.emuStatus
theorem Kept.lineLost {eng line} (h : Kept o s) : Kept o (Machine.lineLost s eng line) := h.setEng.ite h

theorem Kept.emuEnd {eng st} (h : Kept o s) : Kept o (Machine.emuEnd s eng st) := by
  unfold Machine.emuEnd
  split
  · exact h.setEmu.ite h.setEmu.completeWork
  · exact h

theorem Kept.sendLine {eng r l data} (h : Kept o s) : Kept o (Machine.sendLine s eng r l data) := by
  unfold Machine.sendLine
  refine .each h (fun _ _ h => .ite h ?_)
  split
  · exact h.sendData
  · exact h.sendDrop

theorem Kept.writeEline {eng r l} (h : Kept o s) : ExcKept o id (Machine.writeEline s eng r l) := .ite h.slotWrite (.ok h)

theorem Kept.emuDue {eng r l} (h : Kept o s) : ExcKept o id (Machine.emuDue s eng r l) := by
  unfold Machine.emuDue
  dsimp only
  split
  · exact .error
  · split
    · exact .error
    · split
      · exact .error
      next _ e => exact .ok ((h.sendLine.dataSent.ite h.sendLine.underrun.lineLost.icuReport).writeEline.of
        e).setEmu.showEline

theorem Kept.execEmuLineDue {eng} {s : State} (h : Kept o s) : NextKept o (Machine.execEmuLineDue eng s) := by
  unfold Machine.execEmuLineDue
  refine .next (.ite h ?_)
  split
  · split
    · refine .ite h ?_
      split
      next _ e => exact (h.emuDue.of e)
      · exact h.emuEnd
    · exact h
  · split
    · split
      · exact h.underrun.lineLost.icuReport.showEline.ite h
      · exact h
    · exact h

theorem Kept.boardPast {eng b r} (h : Kept o s) : Kept o (Machine.boardPast s eng b r) := by
  unfold Machine.boardPast
  dsimp only
  split
  · exact h.setEmu.emuEnd.ite h.setEmu
  · exact h.setEmu

theorem Kept.execEmuFire {eng board} {s : State} (h : Kept o s) : NextKept o (Machine.execEmuFire eng board s) := by
  unfold Machine.execEmuFire
  refine .next ?_
  split
  · split
    · exact h.ite (h.lineLost.boardPast.ite (h.sendDrop.count.ite h.sendDrop).boardPast)
    · exact h
  · exact h

theorem Kept.execEmuWebHalt {eng} {s : State} (h : Kept o s) : NextKept o (Machine.execEmuWebHalt eng s) := by
  unfold Machine.execEmuWebHalt
  refine .next ?_
  split
  · exact h.ite (h.each (fun _ _ h => h.sendDrop)).setEmu
  · exact h

theorem Kept.emuRestart {eng} (h : Kept o s) : Kept o (Machine.emuRestart s eng) := by
  rw [Machine.emuRestart]
  split
  · split
    · refine .ite h ?_
      extract_lets low top next s₁ s₂ s₃ skipped r
      have hskipped : Kept o skipped := h.count.setReg64.setReg64.lineLost.lineLost.icuReport.ite h
      split
      · exact hskipped.emuEnd
      next _ e =>
        split
        · exact (hskipped.writeEline.of e).setEmu.showEline.emuEnd.ite (hskipped.writeEline.of e).setEmu.showEline
        · exact (hskipped.writeEline.of e).setEmu.showEline
    · exact h
  · exact h

theorem Kept.emuCancel {eng} (h : Kept o s) : Kept o (Machine.emuCancel s eng) :=
  h.emuEnd.each (fun _ _ h => h.completeWork)

theorem Kept.execEmuCancel {eng} {s : State} (h : Kept o s) : NextKept o (Machine.execEmuCancel eng s) :=
  .next h.emuCancel

/-! ### Temperatures and throttling -/

theorem Kept.modTmp {f} (h : Kept o s) : Kept o (State.modTmp s f) := h
theorem Kept.modGroup {g f} (h : Kept o s) : Kept o (State.modGroup s g f) := h.modTmp

theorem Kept.sensorJudge {n v others} (h : Kept o s) : Kept o (Machine.sensorJudge s n v others) :=
  h.ite ((h.modTmp.setBit.ite h.modTmp).ite (h.modTmp.setBit.ite h.modTmp))

theorem Kept.blindUpdate {was} (h : Kept o s) : Kept o (Machine.blindUpdate s was) := h.raise.ite (h.liveOff.ite h)

theorem Kept.hotUpdate (h : Kept o s) : Kept o (Machine.hotUpdate s) := by
  unfold Machine.hotUpdate
  dsimp only
  split
  · exact h.setReg
  · exact h

theorem Kept.groupRead {g raw} (h : Kept o s) : Kept o (Machine.groupRead s g raw) := by
  unfold Machine.groupRead
  refine .hotUpdate (.blindUpdate (.each (h.each (fun _ _ h => h.setFld)) (fun _ _ h => ?_)))
  split
  · exact h.sensorJudge
  · exact h

theorem Kept.throttleRecord {rtype g ks} (h : Kept o s) : Kept o (Machine.throttleRecord s rtype g ks) :=
  h.ite (h.each (fun _ _ h => h.notify.ite h))

theorem Kept.capApply {k} (h : Kept o s) : Kept o (Machine.capApply s k) := h.modTmp.ite h.modTmp.setFld.modTmp

theorem Kept.capChange {k} (h : Kept o s) : Kept o (Machine.capChange s k) := by
  unfold Machine.capChange
  split
  · exact h.modTmp.ite h.capApply
  · exact h.capApply

theorem Kept.throttleStart {g} (h : Kept o s) : Kept o (Machine.throttleStart s g) := h.ite h.upd_throttles.throttleRecord

theorem Kept.throttleEnd {g} (h : Kept o s) : Kept o (Machine.throttleEnd s g) := by
  unfold Machine.throttleEnd
  split
  · exact h
  · exact (h.upd_throttles.modTmp.each (fun _ _ h => h.capChange)).throttleRecord

theorem Kept.throttleMeasure {g means} (h : Kept o s) : Kept o (Machine.throttleMeasure s g means) := by
  unfold Machine.throttleMeasure
  split
  · exact h
  · exact (h.modTmp.each (fun _ _ h => h.capChange)).throttleRecord

theorem Kept.execThrottleGraceEnd {g means} {s : State} (h : Kept o s) :
    NextKept o (Machine.execThrottleGraceEnd g means s) := by
  unfold Machine.execThrottleGraceEnd
  refine .next ?_
  split
  · exact h.ite h.upd_throttles.throttleMeasure
  · exact h

theorem Kept.execThrottleRemeasure {g means} {s : State} (h : Kept o s) :
    NextKept o (Machine.execThrottleRemeasure g means s) := by
  unfold Machine.execThrottleRemeasure
  refine .next ?_
  split
  · exact h.throttleMeasure.ite h
  · exact h

theorem Kept.execCapUpdate {eng c} {s : State} (h : Kept o s) : NextKept o (Machine.execCapUpdate eng c s) :=
  .next ((h.capApply.throttleRecord.ite h.capApply).ite h)

theorem Kept.factorUpdate (h : Kept o s) : Kept o (Machine.factorUpdate s) := h.setFld.sprAbort.ite h.setFld.tryRotate

theorem Kept.alertSet {g} (h : Kept o s) : Kept o (Machine.alertSet s g) :=
  h.setBit.raise.throttleStart.ite h.setBit.raise

theorem Kept.alertClear {g} (h : Kept o s) : Kept o (Machine.alertClear s g) := h.setBit.modGroup.throttleEnd

theorem Kept.slopeOf {g v} (h : Kept o s) : Kept o (Machine.slopeOf s g v).2 := by
  unfold Machine.slopeOf
  refine Kept.iteSnd h ?_
  split
  · exact h
  · exact Kept.iteSnd h.draw h

theorem Kept.alertEvaluate {g sl} (h : Kept o s) : Kept o (Machine.alertEvaluate s g sl) :=
  (h.modGroup.setFld.ite (h.modGroup.setFld.alertSet.ite (h.modGroup.setFld.alertClear.ite
    h.modGroup.setFld))).factorUpdate

theorem Kept.nearUpdate {g v sl} (h : Kept o s) : Kept o (Machine.nearUpdate s g v sl) :=
  h.setBit.modGroup.ite (h.modGroup.setBit.ite h.modGroup)

theorem Kept.adcTrigger {v} (h : Kept o s) : Kept o (Machine.adcTrigger s v) := h.adcAuto.ite h

theorem Kept.groupSample {g raw} (h : Kept o s) : Kept o (Machine.groupSample s g raw) := by
  unfold Machine.groupSample
  dsimp only
  split
  · exact h.groupRead
  · refine .ite (.adcTrigger (.nearUpdate ?_)) (.nearUpdate ?_)
    · split
      · exact h.groupRead.setFld.modGroup.slopeOf.alertEvaluate
      · exact h.groupRead.setFld.modGroup.slopeOf
    · split
      · exact h.groupRead.setFld.modGroup.slopeOf.alertEvaluate
      · exact h.groupRead.setFld.modGroup.slopeOf

theorem Kept.execTmpSample {g raw} {s : State} (h : Kept o s) : NextKept o (Machine.execTmpSample g raw s) :=
  .next (h.groupSample.ite h)

theorem Kept.execTmpSampleCmd {g raw} {s : State} (h : Kept o s) : NextKept o (Machine.execTmpSampleCmd g raw s) :=
  .next (h.ite h.groupSample)

theorem Kept.execTmpHistoryBoundary {s : State} (h : Kept o s) : NextKept o (Machine.execTmpHistoryBoundary s) := by
  unfold Machine.execTmpHistoryBoundary
  refine .next (.each h (fun _ _ h => ?_))
  split
  · exact h.modGroup
  · exact h

theorem Kept.grpCfgWrite {g v} (h : Kept o s) : Kept o (Machine.grpCfgWrite s g v) :=
  h.ite (h.setReg.ite ((h.setReg.modGroup.throttleEnd.ite h.setReg.modGroup).when fun h => h.factorUpdate))

theorem Kept.grpRateWrite {g v} (h : Kept o s) : Kept o (Machine.grpRateWrite s g v) :=
  h.setReg.ite (h.setReg.alertClear.factorUpdate.ite h.setReg.modGroup)

theorem Kept.grpThrWrite {g v} (h : Kept o s) : Kept o (Machine.grpThrWrite s g v) := h.ite h.setReg
theorem Kept.setStretch {i k recover} (h : Kept o s) : Kept o (Machine.setStretch s i k recover) := h.modTmp.setBit.setBit

theorem Kept.execDroopSag {island} {s : State} (h : Kept o s) : NextKept o (Machine.execDroopSag island s) :=
  .next (h.ite (h.count.ite h).setStretch)

theorem Kept.execStretchRecoverStep {island} {s : State} (h : Kept o s) :
    NextKept o (Machine.execStretchRecoverStep island s) :=
  .next (h.ite h.setStretch)

theorem Kept.execStretchWindowOver {island} {s : State} (h : Kept o s) :
    NextKept o (Machine.execStretchWindowOver island s) :=
  .next (h.ite h.count.raise)

theorem Kept.execRailOutOfBand {rail high} {s : State} (h : Kept o s) :
    NextKept o (Machine.execRailOutOfBand rail high s) :=
  .next (h.ite h.setBit.raise)

theorem Kept.execSysrefLoss {input} {s : State} (h : Kept o s) : NextKept o (Machine.execSysrefLoss input s) :=
  .next (h.ite (h.setBit.setBit.setBit.raise.ite (h.setBit.ite (h.setBit.setFld.raise.ite h.setBit.raise))))

theorem Kept.generatorsRun (h : Kept o s) : Kept o (Machine.generatorsRun s) :=
  (h.each (fun _ _ h => h.setBit)).modTmp.ite h.modTmp

theorem Kept.clockCalm (h : Kept o s) : Kept o (Machine.clockCalm s) := h.liveOff.ite h

theorem Kept.refSelect (h : Kept o s) : Kept o (Machine.refSelect s) := by
  unfold Machine.refSelect
  dsimp only
  split
  · exact h
  · exact h.setFld.setBit.setBit.generatorsRun.clockCalm

theorem Kept.clkCfgWrite {v} (h : Kept o s) : Kept o (Machine.clkCfgWrite s v) := (h.setReg.setFld.ite h.setReg).refSelect

theorem Kept.generatorOff {i off} (h : Kept o s) : Kept o (Machine.generatorOff s i off) :=
  (h.engineFailed.ite h).ite (h.modTmp.raise.ite h.modTmp.clockCalm)

theorem Kept.execClockMonitorWindow {island off} {s : State} (h : Kept o s) :
    NextKept o (Machine.execClockMonitorWindow island off s) :=
  .next (h.ite h.generatorOff)

theorem Kept.execGeneratorHoldoverEnd {s : State} (h : Kept o s) : NextKept o (Machine.execGeneratorHoldoverEnd s) :=
  .next ((h.each (fun _ _ h => h.setBit)).modTmp.ite h)

theorem Kept.sefreqWrite {v} (h : Kept o s) : Kept o (Machine.sefreqWrite s v) := h.ite h.setReg

theorem Kept.execSefreqWrite {value} {s : State} (h : Kept o s) : NextKept o (Machine.execSefreqWrite value s) :=
  .next h.sefreqWrite

/-! ### Resets, boot and power -/

theorem Kept.keepAon (h : Kept o s) : Kept o (Machine.keepAon s) := by
  obtain ⟨hwf, hrest⟩ := h
  refine ⟨fun hc => ?_, hrest⟩
  obtain ⟨-, -, hflash, hregs⟩ := hwf hc
  exact ⟨rfl, rfl, hflash, swf_filter _ hregs⟩

theorem Kept.burnCut (h : Kept o s) : Kept o (Machine.burnCut s) := by
  unfold Machine.burnCut
  split
  · exact h
  · exact h.burnPart.burnApply

theorem Kept.wholeReset {cause} (h : Kept o s) : Kept o (Machine.wholeReset s cause) := h.burnCut.keepAon.setReg.setFld
theorem Kept.execPorNLow {s : State} (h : Kept o s) : NextKept o (Machine.execPorNLow s) := .next (h.wholeReset.ite h)

theorem Kept.execVpltUndervoltage {s : State} (h : Kept o s) : NextKept o (Machine.execVpltUndervoltage s) :=
  .next (h.wholeReset.ite h)

theorem Kept.execPltpgFall {s : State} (h : Kept o s) : NextKept o (Machine.execPltpgFall s) := .next (h.wholeReset.ite h)

theorem Kept.rstCommand (h : Kept o s) : Kept o (Machine.rstCommand s) := by
  unfold Machine.rstCommand
  split
  · exact h.wholeReset
  · exact h

theorem Kept.execSysRstCmd {who} {s : State} (h : Kept o s) : NextKept o (Machine.execSysRstCmd who s) :=
  .next (Kept.iteFst h.rstCommand h).respond

theorem Kept.execFuseBurnEnd {ok} {s : State} (h : Kept o s) : NextKept o (Machine.execFuseBurnEnd ok s) := by
  unfold Machine.execFuseBurnEnd
  refine .next ?_
  split
  · exact h
  · exact (h.burnApply.setBit.ite h.burnCut.setBit.raise).wholeReset.ite (h.burnApply.setBit.ite h.burnCut.setBit.raise)

theorem Kept.execVaonLoss {s : State} (h : Kept o s) : NextKept o (Machine.execVaonLoss s) := by
  refine .next (.ite h ?_)
  obtain ⟨hwf, hrest⟩ := h.burnCut
  exact ⟨fun hc => ⟨rfl, rfl, (hwf hc).2.2.1, rfl⟩, hrest⟩

theorem Kept.execVaonReturn {s : State} (h : Kept o s) : NextKept o (Machine.execVaonReturn s) :=
  .next (h.setReg.setBit.upd_power.ite h)

theorem Kept.enterRecovery (h : Kept o s) : Kept o (Machine.enterRecovery s) := h.setBit.setReg.upd_owner.raise

theorem Kept.ownerBoot (h : Kept o s) : Kept o (Machine.ownerBoot s) := by
  unfold Machine.ownerBoot
  obtain ⟨n, hn⟩ : ∃ n, n = 1792 := ⟨_, rfl⟩
  rw [← hn]
  exact h.setBit.setBit.setReg.setReg.upd_owner.ite
    (h.setBit.setBit.setReg.setReg.upd_owner.ite h.setBit.setReg.enterRecovery)

theorem Kept.firmwareBoot (h : Kept o s) : Kept o (Machine.firmwareBoot s) := by
  unfold Machine.firmwareBoot
  split
  · exact h
  · split
    · exact h.setBit.enterRecovery
    · split
      · exact h.setBit.enterRecovery
      · exact (h.setBit.setBit.storeWrite.ite h.setBit.setBit.storeWrite.storeWrite).upd_plant.plantStart

theorem Kept.engineImageBoot (h : Kept o s) : Kept o (Machine.engineImageBoot s) := by
  unfold Machine.engineImageBoot
  split
  · exact h
  · split
    · exact h.setBit.raise
    · exact h.setBit.setBit.each (fun _ _ h => h.ite h.storeWrite)

theorem Kept.setMode {m} (h : Kept o s) : Kept o (Machine.setMode s m) := h.setFld
theorem Kept.runenRise (h : Kept o s) : Kept o (Machine.runenRise s) := h.setFld.upd_runen.ite h

theorem Kept.supplyGood {ref0 ref1} (h : Kept o s) : Kept o (Machine.supplyGood s ref0 ref1) :=
  h.upd_power.setBit.setBit.setBit.refSelect.setBit.ownerBoot.bootTrim.assignSeats.firmwareBoot.setFld.fork
    (fun h => h.setMode) fun h => h.runenRise

theorem Kept.execSupplyGoodBoot {ref0 ref1} {s : State} (h : Kept o s) :
    NextKept o (Machine.execSupplyGoodBoot ref0 ref1 s) :=
  .next (h.supplyGood.ite h)

theorem Kept.execSysrefLock {input} {s : State} (h : Kept o s) : NextKept o (Machine.execSysrefLock input s) :=
  .next (h.ite ((h.setBit.refSelect.when fun h => h.setBit).when fun h => h.runenRise))

theorem Kept.stackTrain {n ok} (h : Kept o s) : Kept o (Machine.stackTrain s n ok) := h.setBit.ite h.stackLose

theorem Kept.engineBootTest {eng ok} (h : Kept o s) : Kept o (Machine.engineBootTest s eng ok) :=
  h.setRole.ite h.fenceCore.setRole.raise

theorem Kept.emptied {x0 x1 x2 x3} (h : Kept o s) : Kept o
    { s with runpg := x0, mem := [], tags := x1, pages := x2, stackRuns := x3, encBase := [] } := by
  obtain ⟨hwf, hrest⟩ := h
  exact ⟨fun hc => ⟨rfl, (hwf hc).2⟩, hrest⟩

theorem Kept.execRunpgRise {trained pass} {s : State} (h : Kept o s) :
    NextKept o (Machine.execRunpgRise trained pass s) := by
  refine .next (h.ite ?_)
  extract_lets s₁ s₂ s₃ s₄ s₅
  have hislands : Kept o s₂ := h.emptied.each fun _ _ h => h.setBit.setBit
  have htested : Kept o s₄ := (hislands.each fun _ _ h => h.stackTrain).each fun _ _ h => h.engineBootTest
  exact htested.engineImageBoot.setLinkState.setFld

theorem Kept.assignRoles (h : Kept o s) : Kept o (Machine.assignRoles s) :=
  (h.setReg.setReg.setPhase.modSpare.each (fun _ _ h => h.setSwath.setRole)).each (fun _ _ h => h.setRole)

theorem Kept.execHostsAttach {s : State} (h : Kept o s) : NextKept o (Machine.execHostsAttach s) :=
  .next (h.ite (h.upd_attached.assignRoles.assignSeats.each (fun _ _ h => h.ite h.engineSeatsOn)).setMode.setFld.modTmp)

theorem Kept.execRunpgTimeout {s : State} (h : Kept o s) : NextKept o (Machine.execRunpgTimeout s) :=
  .next (h.upd_runen.setMode.setBit.raise.ite h)

theorem Kept.islandsLose (h : Kept o s) : Kept o (Machine.islandsLose s) := by
  refine Kept.each ?_ fun _ _ h => h.liveOff.ite h
  obtain ⟨hwf, hrest⟩ := h
  refine ⟨fun hc => ?_, hrest⟩
  obtain ⟨-, hstore, hflash, hregs⟩ := hwf hc
  exact ⟨rfl, swf_filter _ hstore, hflash, swf_filter _ hregs⟩

theorem Kept.watchEntry (h : Kept o s) : Kept o (Machine.watchEntry s) :=
  ((((h.each (fun _ _ h => h.emuCancel)).each (fun _ _ h => h.engineStop)).each
    (fun _ _ h => h.fenceCore)).islandsLose.each (fun _ _ h => h.setBit.setBit)).modTmp.upd_runen_runpg.setMode

theorem Kept.pwrResult {r} (h : Kept o s) : Kept o (Machine.pwrResult s r) := h.setFld

theorem Kept.watchCommand {force} (h : Kept o s) : Kept o (Machine.watchCommand s force) :=
  h.pwrResult.ite (h.pwrResult.ite h.watchEntry.pwrResult)

theorem Kept.execWatchCmd {who force} {s : State} (h : Kept o s) : NextKept o (Machine.execWatchCmd who force s) :=
  .next (Kept.iteFst h.watchCommand h).respond

theorem Kept.watchExit (h : Kept o s) : Kept o (Machine.watchExit s) := h.setMode.runenRise

theorem Kept.runCommand (h : Kept o s) : Kept o (Machine.runCommand s) :=
  h.pwrResult.ite (h.pwrResult.ite (h.pwrResult.ite h.pwrResult.watchExit))

theorem Kept.execRunCmd {who} {s : State} (h : Kept o s) : NextKept o (Machine.execRunCmd who s) :=
  .next (Kept.iteFst h.runCommand h).respond

theorem Kept.tripShutdown (h : Kept o s) : Kept o (Machine.tripShutdown s) := h.watchEntry.ite h

theorem Kept.execFixedTrip {tripped} {s : State} (h : Kept o s) : NextKept o (Machine.execFixedTrip tripped s) :=
  .next ((h.each (fun _ _ h => h.setBit)).fork (fun h => h.modTmp.raise.tripShutdown) fun h => h.when fun h => h.liveOff)

theorem Kept.execFgraceExpiry {src} {s : State} (h : Kept o s) : NextKept o (Machine.execFgraceExpiry src s) :=
  .next ((h.endF.tripShutdown.ite h.endF).ite h)

theorem Kept.hibEnter (h : Kept o s) : Kept o (Machine.hibEnter s) :=
  h.setReg.ite (h.setReg.ite h.setReg.safeOrder.burnCut.keepAon.upd_power)

theorem Kept.execHibEnter {who} {s : State} (h : Kept o s) : NextKept o (Machine.execHibEnter who s) :=
  .next (Kept.iteFst h.hibEnter h).respond

theorem Kept.wakeSource {k} (h : Kept o s) : Kept o (Machine.wakeSource s k) := by
  unfold Machine.wakeSource
  dsimp only
  split
  · exact h.setBit.wholeReset.ite h.setBit
  · exact h.setBit.watchExit.ite h.setBit
  · exact h.setBit

theorem Kept.execWakeSource {src active} {s : State} (h : Kept o s) :
    NextKept o (Machine.execWakeSource src active s) := by
  unfold Machine.execWakeSource
  refine .next (.ite h ?_)
  split
  · exact h.setBit.wakeSource.ite h.setBit
  · exact h.wakeSource

theorem Kept.wakeCfgWrite {v} (h : Kept o s) : Kept o (Machine.wakeCfgWrite s v) :=
  h.setFld.each (fun _ _ h => h.ite h.setBit)

/-! ### Domains -/

theorem Kept.pageWrite {w d f} (h : Kept o s) (hf : ∀ t, Kept o t → Kept o (f t)) : Kept o (Machine.pageWrite s w d f) :=
  (Kept.iteFst (hf _ h) h).respond

theorem Kept.doorbellWrite {d n v} (h : Kept o s) : Kept o (Machine.doorbellWrite s d n v) := by
  unfold Machine.doorbellWrite
  refine .ite h.count ?_
  dsimp only
  split
  · exact h.setReg
  · exact h.setReg.setDom

theorem Kept.execDoorbellWrite {who d n value} {s : State} (h : Kept o s) :
    NextKept o (Machine.execDoorbellWrite who d n value s) :=
  .next (h.pageWrite (fun _ h => h.doorbellWrite))

theorem Kept.dbrouteWrite {d n v} (h : Kept o s) : Kept o (Machine.dbrouteWrite s d n v) := h.setReg.ite h

theorem Kept.execDbrouteWrite {who d n value} {s : State} (h : Kept o s) :
    NextKept o (Machine.execDbrouteWrite who d n value s) :=
  .next (h.pageWrite (fun _ h => h.dbrouteWrite))

theorem Kept.seatResult {d tag code} (h : Kept o s) : Kept o (Machine.seatResult s d tag code) := h.setReg

theorem Kept.seatStart {d i tag entry} (h : Kept o s) : Kept o (Machine.seatStart s d i tag entry) :=
  h.modSeat.setSeatSt.seatResult.ite h.seatResult

theorem Kept.seatStop {d i tag} (h : Kept o s) : Kept o (Machine.seatStop s d i tag) :=
  h.modSeat.seatResult.ite h.seatResult

theorem Kept.seatPreempt {d i tag} (h : Kept o s) : Kept o (Machine.seatPreempt s d i tag) :=
  h.seatResult.ite h.postEvent.seatResult

theorem Kept.seatCmd {d cmd i tag entry} (h : Kept o s) : Kept o (Machine.seatCmd s d cmd i tag entry) :=
  h.ite (h.seatResult.ite (h.seatResult.ite (h.seatStart.ite (h.seatStop.ite h.seatPreempt))))

theorem Kept.execSeatcmdStart {who d seat tag entry} {s : State} (h : Kept o s) :
    NextKept o (Machine.execSeatcmdStart who d seat tag entry s) :=
  .next (h.pageWrite (fun _ h => h.seatCmd))

theorem Kept.execSeatcmdStop {who d seat tag} {s : State} (h : Kept o s) :
    NextKept o (Machine.execSeatcmdStop who d seat tag s) :=
  .next (h.pageWrite (fun _ h => h.seatCmd))

theorem Kept.execSeatcmdPreempt {who d seat tag} {s : State} (h : Kept o s) :
    NextKept o (Machine.execSeatcmdPreempt who d seat tag s) :=
  .next (h.pageWrite (fun _ h => h.seatCmd))

theorem Kept.execSeatcmdUnassigned {who d cmd seat tag} {s : State} (h : Kept o s) :
    NextKept o (Machine.execSeatcmdUnassigned who d cmd seat tag s) :=
  .next (h.pageWrite (fun _ h => h.seatCmd))

theorem Kept.execSeatStopBoundary {seat} {s : State} (h : Kept o s) : NextKept o (Machine.execSeatStopBoundary seat s) :=
  .next (h.ite ((h.abandon.ite h).setSeatSt.ite (h.abandon.ite h)).stopDone)

theorem Kept.nqMask {d} (h : Kept o s) : Kept o (Machine.nqMask s d) := h.setReg.setReg

theorem Kept.nqCtlWrite {d v} (h : Kept o s) : Kept o (Machine.nqCtlWrite s d v) :=
  h.setBit.ite (h.setReg.nqMask.setReg.ite h.setReg.nqMask)

theorem Kept.execNqCtlWrite {who d value} {s : State} (h : Kept o s) :
    NextKept o (Machine.execNqCtlWrite who d value s) :=
  .next (h.pageWrite (fun _ h => h.nqCtlWrite))

theorem Kept.nqHeadWrite {d v} (h : Kept o s) : Kept o (Machine.nqHeadWrite s d v) := h.setReg

/-! ### Links -/

theorem Kept.ringRecord {d event cause node epoch time} (h : Kept o s) :
    Kept o (Machine.ringRecord s d event cause node epoch time) :=
  h.notify

theorem Kept.ringEvent {event cause node time} (h : Kept o s) : Kept o (Machine.ringEvent s event cause node time) := by
  unfold Machine.ringEvent
  split
  · exact h.ringRecord
  · exact h

theorem Kept.setRport {p r} (h : Kept o s) : Kept o (State.setRport s p r) := h

theorem Kept.treeChanged (h : Kept o s) : Kept o (Machine.treeChanged s) :=
  ((h.each (fun _ _ h => h.each (fun _ _ h => h.count.modCls))).upd_ring.each
    (fun _ _ h => h.setBit.setBit)).raise.ringEvent

theorem Kept.withTree {f} (h : Kept o s) (hf : ∀ t, Kept o t → Kept o (f t)) : Kept o (Machine.withTree s f) :=
  (hf _ h).ite (hf _ h).treeChanged

theorem Kept.startHold (h : Kept o s) : Kept o (Machine.startHold s) := h.setBit.upd_ring
theorem Kept.chooseRoot (h : Kept o s) : Kept o (Machine.chooseRoot s) := h.setFld.ite h.setFld.startHold

theorem Kept.refreshMask {k} (h : Kept o s) : Kept o (Machine.refreshMask s k) :=
  (h.setLink.setFld.ite h.setLink).each (fun _ _ h => h.setBit)

theorem Kept.linkDown {k} (h : Kept o s) : Kept o (Machine.linkDown s k) := by
  rw [Machine.linkDown]
  refine h.withTree fun t h => ?_
  extract_lets l s₁ s₂ s₃ s₄ s₅ s₆
  have hlanes : Kept o s₄ := (h.setLink.setLinkState.setFld.ite h.setLink.setLinkState).each fun _ _ h => h.setBit
  exact (hlanes.setRport.raise.chooseRoot.ite hlanes.setRport.raise).ite hlanes

theorem Kept.linkUp {k} (h : Kept o s) : Kept o (Machine.linkUp s k) :=
  (h.setLink.setLinkState.setBit.setReg64.withTree (fun _ h => h.setRport)).ite h.setLink.setLinkState

theorem Kept.tryUp {k} (h : Kept o s) : Kept o (Machine.tryUp s k) := h.linkUp.ite h
theorem Kept.linkOff {k} (h : Kept o s) : Kept o (Machine.linkOff s k) := (h.linkDown.ite h).setLink.setLinkState
theorem Kept.lanesIdle {ls} (h : Kept o s) : Kept o (Machine.lanesIdle s ls) := h.each (fun _ _ h => h.setReg)

theorem Kept.lanesLeave {p ls} (h : Kept o s) : Kept o (Machine.lanesLeave s p ls) :=
  (h.each (fun _ _ h => h.setLink.count.raise.ite h)).lanesIdle.refreshMask

theorem Kept.ethBond {p} (h : Kept o s) : Kept o (Machine.ethBond s p) := h.setLinkState.ite h

theorem Kept.lanesApplied {p old} (h : Kept o s) : Kept o (Machine.lanesApplied s p old) :=
  h.setBit.setAct.linkOff.lanesIdle.ite (h.setBit.linkOff.lanesIdle.ite (h.setBit.setLinkState.ethBond.ite (h.setBit.ite
    ((h.setBit.lanesLeave.linkDown.ite h.setBit.lanesLeave).ite h.setBit.linkDown.setLink.lanesIdle.ethBond))))

theorem Kept.execLaneSignalDetect {lane} {s : State} (h : Kept o s) :
    NextKept o (Machine.execLaneSignalDetect lane s) := by
  unfold Machine.execLaneSignalDetect
  refine .next ?_
  split
  · exact h
  · exact (h.setBit.setLinkState.ite h.setBit).ite h

theorem Kept.execLaneLock {lane blane} {s : State} (h : Kept o s) : NextKept o (Machine.execLaneLock lane blane s) := by
  unfold Machine.execLaneLock
  refine .next ?_
  split
  · exact h
  · exact (h.setBit.setFld.setLinkState.ite h.setBit.setFld).ite h

theorem Kept.execLaneAdaptDone {lane} {s : State} (h : Kept o s) : NextKept o (Machine.execLaneAdaptDone lane s) := by
  unfold Machine.execLaneAdaptDone
  refine .next ?_
  split
  · exact h
  · exact (h.setBit.ite (h.setBit.setLink.setLinkState.ite h.setBit.setLink)).ite h

theorem Kept.execMarkerSend {lane} {s : State} (h : Kept o s) : NextKept o (Machine.execMarkerSend lane s) := by
  unfold Machine.execMarkerSend
  refine .next ?_
  split
  · exact h
  · exact h

theorem Kept.laneFail {k lane why} (h : Kept o s) : Kept o (Machine.laneFail s k lane why) :=
  ((h.upd_mcrcBad.setReg.setLink.refreshMask.when fun h => (h.when fun h => h.count).raise).when fun h => h.linkDown).ite
    (h.upd_mcrcBad.setReg.setLink.refreshMask.when fun h => h.linkDown)

theorem Kept.execLaneFail {lane why} {s : State} (h : Kept o s) : NextKept o (Machine.execLaneFail lane why s) := by
  unfold Machine.execLaneFail
  refine .next ?_
  split
  · exact h
  · exact (h.count.ite h).laneFail

theorem Kept.execRxMarker {lane m inv mcrcOk} {s : State} (h : Kept o s) :
    NextKept o (Machine.execRxMarker lane m inv mcrcOk s) := by
  unfold Machine.execRxMarker
  refine .next ?_
  split
  · exact h
  · exact h.ite ((h.upd_mcrcBad.ite h.laneFail).ite (h.upd_mcrcBad.setBit.setFld.setLink.refreshMask.when
      fun h => h.linkDown))

theorem Kept.execLaneRejoin {lane} {s : State} (h : Kept o s) : NextKept o (Machine.execLaneRejoin lane s) := by
  unfold Machine.execLaneRejoin
  refine .next ?_
  split
  · exact h
  · exact h.setLink.refreshMask.ite h

theorem Kept.execPortHoldExpiry {link} {s : State} (h : Kept o s) : NextKept o (Machine.execPortHoldExpiry link s) :=
  .next ((h.setLink.raise.ite h.setLink).ite h)

theorem Kept.execLaneRefclkLoss {complex} {s : State} (h : Kept o s) :
    NextKept o (Machine.execLaneRefclkLoss complex s) :=
  .next (h.upd_refMoved.ite h)

theorem Kept.execTrainSendTick {link} {s : State} (h : Kept o s) : NextKept o (Machine.execTrainSendTick link s) :=
  .next (h.upd_out.countEth.setLink.tryUp.ite h)

theorem Kept.setProferr {k b} (h : Kept o s) : Kept o (Machine.setProferr s k b) := h.setBit.ite h
theorem Kept.countBad {k} (h : Kept o s) : Kept o (Machine.countBad s k) := h.count.ite h

theorem Kept.execRxTrain {link t} {s : State} (h : Kept o s) : NextKept o (Machine.execRxTrain link t s) :=
  .next (h.ite (h.countBad.ite (h.countBad.setProferr.ite (h.setProferr.ite (h.setProferr.setFld.setReg64.ite
    h.setProferr).setLink.tryUp))))

theorem Kept.creditIn {k crcls crcount} (h : Kept o s) : Kept o (Machine.creditIn s k crcls crcount) := h.modCls.ite h

theorem Kept.acceptSeq {k cls seq len} (h : Kept o s) : Kept o (Machine.acceptSeq s k cls seq len).2 :=
  Kept.iteSnd h.modCls (Kept.iteSnd (h.count.ite h).sendControl (Kept.iteSnd (h.count.ite h).modCls.sendControl
    (h.count.ite h)))

theorem Kept.execRxCorruptFrame {link what} {s : State} (h : Kept o s) :
    NextKept o (Machine.execRxCorruptFrame link what s) := by
  unfold Machine.execRxCorruptFrame
  refine .next ?_
  split
  · exact h.count.ite h
  · exact h.countBad.creditIn
  · exact (h.count.ite h).creditIn.modCls.sendControl.ite (h.count.ite h).creditIn

theorem Kept.execRxCred {link crcls crcount} {s : State} (h : Kept o s) :
    NextKept o (Machine.execRxCred link crcls crcount s) :=
  .next (h.creditIn.ite h)

theorem Kept.ackFrames {k cls seq} (h : Kept o s) : Kept o (Machine.ackFrames s k cls seq) := h.modCls

theorem Kept.execRxAck {link cls seq crcls crcount} {s : State} (h : Kept o s) :
    NextKept o (Machine.execRxAck link cls seq crcls crcount s) :=
  .next (h.creditIn.ackFrames.ite h)

theorem Kept.resendFrom {k cls seq} (h : Kept o s) : Kept o (Machine.resendFrom s k cls seq) := h.modCls

theorem Kept.execRxNak {link cls seq crcls crcount} {s : State} (h : Kept o s) :
    NextKept o (Machine.execRxNak link cls seq crcls crcount s) :=
  .next (h.creditIn.resendFrom.ite h)

theorem Kept.execAckSend {link cls} {s : State} (h : Kept o s) : NextKept o (Machine.execAckSend link cls s) :=
  .next (h.modCls.sendControl.ite h)

theorem Kept.execCreditReport {link cls} {s : State} (h : Kept o s) : NextKept o (Machine.execCreditReport link cls s) :=
  .next (h.modCls.upd_out.countEth.ite h)

theorem Kept.execRtoExpiry {link cls} {s : State} (h : Kept o s) : NextKept o (Machine.execRtoExpiry link cls s) := by
  unfold Machine.execRtoExpiry
  refine .next ?_
  split
  · exact h.resendFrom.ite h
  · exact h

theorem Kept.startFrame {k c} (h : Kept o s) : Kept o (Machine.startFrame s k c) := by
  unfold Machine.startFrame
  dsimp only
  split
  · exact h
  · exact (h.setLink.count.ite h.setLink).upd_out.countEth

theorem Kept.execFrameSend {link} {s : State} (h : Kept o s) : NextKept o (Machine.execFrameSend link s) := by
  unfold Machine.execFrameSend
  refine .next (.ite ?_ h)
  split
  · exact h.startFrame
  · exact h

theorem Kept.receive {hd ok len} (h : Kept o s) : Kept o (Machine.receive s hd ok len).2 :=
  Kept.iteSnd h (Kept.iteSnd h.creditIn.countBad h.creditIn.acceptSeq)

/-! ### Webs -/

theorem Kept.setWeb {n w} (h : Kept o s) : Kept o (State.setWeb s n w) := h
theorem Kept.upTo {t} (h : Kept o s) : Kept o (State.upTo s t) := h
theorem Kept.setWebState {n st} (h : Kept o s) : Kept o (State.setWebState s n st) := h.setFld.setFld
theorem Kept.setUncert {n b} (h : Kept o s) : Kept o (State.setUncert s n b) := h.setBit.setBit
theorem Kept.webView {n} (h : Kept o s) : Kept o (Machine.webView s n) := h.setFld.setReg64
theorem Kept.publishPos {n} (h : Kept o s) : Kept o (Machine.publishPos s n) := h.setReg64
theorem Kept.lostLine (h : Kept o s) : Kept o (Machine.lostLine s) := h.ite (h.liveOff.ite h)

theorem Kept.enterLost {n cause} (h : Kept o s) : Kept o (Machine.enterLost s n cause) :=
  h.setWeb.setReg.setWebState.webView.publishPos.setFld.setUncert.raise

theorem Kept.updatePeriod {n t} (h : Kept o s) : Kept o (Machine.updatePeriod s n t) := by
  unfold Machine.updatePeriod
  dsimp only
  split
  · exact h
  · exact h.setReg.ite h.draw.setReg

theorem Kept.acceptEdge {n t fwd} (h : Kept o s) : Kept o (Machine.acceptEdge s n t fwd) := h.setWeb.webView

theorem Kept.slowEdge {n t fwd} (h : Kept o s) : Kept o (Machine.slowEdge s n t fwd) :=
  (h.updatePeriod.ite h).acceptEdge.setWeb.setBit.when fun h => h.setWeb.setWebState

theorem Kept.runEdge {n t fwd} (h : Kept o s) : Kept o (Machine.runEdge s n t fwd) :=
  h.count.ite (h.updatePeriod.acceptEdge.setUncert.setWeb.when fun h => h.setWeb.setWebState)

theorem Kept.lostEdge {n fwd} (h : Kept o s) : Kept o (Machine.lostEdge s n fwd) := h.setReg

theorem Kept.execEncEdge {web a b t} {s : State} (h : Kept o s) : NextKept o (Machine.execEncEdge web a b t s) := by
  unfold Machine.execEncEdge
  refine .next (.ite h (.ite h.upTo (.ite (h.upTo.setWeb.count.ite h.upTo.setWeb) (.ite (h.upTo.setWeb.count.ite
    h.upTo.setWeb) (.ite h.upTo.setWeb ?_)))))
  split
  · exact h.upTo.setWeb.slowEdge
  · exact h.upTo.setWeb.runEdge
  · exact h.upTo.setWeb.lostEdge
  · exact h.upTo.setWeb

theorem Kept.execEncIndexEdge {web t} {s : State} (h : Kept o s) : NextKept o (Machine.execEncIndexEdge web t s) :=
  .next (h.ite (h.upTo.count.ite (h.upTo.setWeb.ite ((h.upTo.setWeb.setReg.count.raise.ite h.upTo.setWeb.setReg).ite
    h.upTo.setWeb).setWeb)))

theorem Kept.execEdgeSynthesis {web} {s : State} (h : Kept o s) : NextKept o (Machine.execEdgeSynthesis web s) :=
  .next (h.ite (h.upTo.setWeb.count.webView.enterLost.ite h.upTo.setWeb.count.webView))

theorem Kept.webEnable {n} (h : Kept o s) : Kept o (Machine.webEnable s n) :=
  h.ite (h.setBit.setWeb.webView.setWebState.ite h.setBit.setWeb.webView)

theorem Kept.webDisable {n} (h : Kept o s) : Kept o (Machine.webDisable s n) :=
  h.setBit.setWebState.setUncert.setWeb.lostLine

theorem Kept.execWebEnable {web} {s : State} (h : Kept o s) : NextKept o (Machine.execWebEnable web s) :=
  .next h.webEnable

theorem Kept.execWebDisable {web} {s : State} (h : Kept o s) : NextKept o (Machine.execWebDisable web s) :=
  .next h.webDisable

theorem Kept.setLate {k b} (h : Kept o s) : Kept o (State.setLate s k b) := h
theorem Kept.setStgDom {d g} (h : Kept o s) : Kept o (State.setStgDom s d g) := h
theorem Kept.lateSeams {n} (h : Kept o s) : Kept o (State.lateSeams s n) := h.each (fun _ _ h => h.setStgDom.ite h)

theorem Kept.loadPosition {n acc} (h : Kept o s) : Kept o (Machine.loadPosition s n acc) :=
  h.setWeb.webView.publishPos.setReg.setBit.setFld.unless fun h => h.setWebState.setUncert.lostLine

theorem Kept.cmdErr {n} (h : Kept o s) : Kept o (Machine.cmdErr s n) := h.setBit

theorem Kept.posSet {n} (h : Kept o s) : Kept o (Machine.posSet s n) :=
  h.cmdErr.ite (h.loadPosition.each (fun _ _ h => h.setLate.ite h)).lateSeams

theorem Kept.posResume {n} (h : Kept o s) : Kept o (Machine.posResume s n) := h.cmdErr.ite h.loadPosition
theorem Kept.posClrcnt {n} (h : Kept o s) : Kept o (Machine.posClrcnt s n) := h.setReg.setReg.setReg.setReg.setBit
theorem Kept.execPosSet {web} {s : State} (h : Kept o s) : NextKept o (Machine.execPosSet web s) := .next h.posSet

theorem Kept.execPosResume {web} {s : State} (h : Kept o s) : NextKept o (Machine.execPosResume web s) :=
  .next h.posResume

theorem Kept.execPosClrcnt {web} {s : State} (h : Kept o s) : NextKept o (Machine.execPosClrcnt web s) :=
  .next h.posClrcnt

theorem Kept.execRingSampleTimeout {web} {s : State} (h : Kept o s) : NextKept o (Machine.execRingSampleTimeout web s) :=
  .next (h.setWeb.enterLost.ite h)

theorem Kept.ringWebsLost (h : Kept o s) : Kept o (Machine.ringWebsLost s) := h.each (fun _ _ h => h.enterLost.ite h)

/-! ### Staging -/

theorem Kept.stgResult {d r} (h : Kept o s) : Kept o (Machine.stgResult s d r) := h.setFld.notify
theorem Kept.stgCount {d} (h : Kept o s) : Kept o (Machine.stgCount s d) := h.setFld

theorem Kept.stageChange {d a v} (h : Kept o s) : Kept o (Machine.stageChange s d a v).1 :=
  Kept.iteFst h.setBit (Kept.iteFst h.setBit h.setStgDom.stgCount)

theorem Kept.stgDisarm {d} (h : Kept o s) : Kept o (Machine.stgDisarm s d) := h.setStgDom.setFld

theorem Kept.stgArm {d} (h : Kept o s) : Kept o (Machine.stgArm s d) :=
  h.stgResult.ite (h.stgResult.ite h.setStgDom.setFld.stgCount)

theorem Kept.execStageArm {who d} {s : State} (h : Kept o s) : NextKept o (Machine.execStageArm who d s) :=
  .next (Kept.iteFst h.stgArm h).respond

theorem Kept.stgCancel {d} (h : Kept o s) : Kept o (Machine.stgCancel s d) := h.stgDisarm.stgResult

theorem Kept.execStageCancel {who d} {s : State} (h : Kept o s) : NextKept o (Machine.execStageCancel who d s) :=
  .next (Kept.iteFst h.stgCancel h).respond

theorem Kept.stgDiscard {d} (h : Kept o s) : Kept o (Machine.stgDiscard s d) := h.setStgDom.setBit.upd_pairHeld.stgCount

theorem Kept.execStageDiscard {who d} {s : State} (h : Kept o s) : NextKept o (Machine.execStageDiscard who d s) :=
  .next (Kept.iteFst h.stgDiscard h).respond

theorem Kept.execLoadListDone {d} {s : State} (h : Kept o s) : NextKept o (Machine.execLoadListDone d s) := by
  unfold Machine.execLoadListDone
  refine .next (.ite ?_ h)
  dsimp only
  split
  · exact h.setStgDom.setFld
  · exact h.setReg.stgDisarm.stgResult

/-! ### Valve channels -/

theorem Kept.setVch {n r} (h : Kept o s) : Kept o (State.setVch s n r) := h
theorem Kept.modVch {n f} (h : Kept o s) : Kept o (State.modVch s n f) := h.setVch
theorem Kept.modTu {n f} (h : Kept o s) : Kept o (State.modTu s n f) := h

theorem Kept.vReport {n res} (h : Kept o s) : Kept o (Machine.vReport s n res) := by
  unfold Machine.vReport
  split
  · exact h.modTu
  · exact h

theorem Kept.vNoMove {n} (h : Kept o s) : Kept o (Machine.vNoMove s n) := by
  unfold Machine.vNoMove
  split
  · exact h
  · exact h.modVch.setBit.setReg.count.vReport

theorem Kept.vMoved {n minAt} (h : Kept o s) : Kept o (Machine.vMoved s n minAt) := h.modVch.setBit.setReg.vReport

theorem Kept.vDetect {n gate} (h : Kept o s) : Kept o (Machine.vDetect s n gate) := by
  unfold Machine.vDetect
  split
  · exact h
  · exact (h.vMoved.ite (h.vNoMove.ite h.modVch)).ite ((h.vMoved.ite (h.vNoMove.ite h.modVch)).ite ((h.vNoMove.ite
      h.modVch).ite (h.vNoMove.ite h.modVch)))

theorem Kept.vLines (h : Kept o s) : Kept o (Machine.vLines s) := (h.liveOff.ite h).liveOff.ite (h.liveOff.ite h)
theorem Kept.vDecay {n} (h : Kept o s) : Kept o (Machine.vDecay s n) := h.setVch.vLines.ite h

theorem Kept.vTrip {n} (h : Kept o s) : Kept o (Machine.vTrip s n) :=
  (h.each (fun _ _ h => h.setBit.modVch)).count.raise.vNoMove

theorem Kept.vLimit {n} (h : Kept o s) : Kept o (Machine.vLimit s n) :=
  (h.each (fun _ _ h => h.setBit.modVch)).count.raise.vNoMove

theorem Kept.vUnlimit {n} (h : Kept o s) : Kept o (Machine.vUnlimit s n) := h.each (fun _ _ h => h.setBit)

theorem Kept.vDuty {n} (h : Kept o s) : Kept o (Machine.vDuty s n) :=
  h.ite ((h.setVch.vUnlimit.ite h.setVch).ite (h.setVch.vLimit.ite h.setVch))

theorem Kept.vRegulate {n lead a d x} (h : Kept o s) : Kept o (Machine.vRegulate s n lead a d x) :=
  h.setVch.setBit.ite h.setVch.setBit

theorem Kept.vSetpoint {n} (h : Kept o s) : Kept o (Machine.vSetpoint s n) :=
  h.modVch.modVch.setBit.setReg.ite (h.modVch.vNoMove.ite h.modVch)

theorem Kept.vSample {n raw} (h : Kept o s) : Kept o (Machine.vSample s n raw) :=
  (((h.setFld.modVch.vDecay.when fun h => h.vTrip).when fun h => h.vDuty.vSetpoint).vRegulate.setBit.when
    fun h => h.vDetect).when fun h => h.modVch

theorem Kept.execVSenseSample {ch raw} {s : State} (h : Kept o s) : NextKept o (Machine.execVSenseSample ch raw s) :=
  .next (h.vSample.ite h)

theorem Kept.execVMoveWindowEnd {ch} {s : State} (h : Kept o s) : NextKept o (Machine.execVMoveWindowEnd ch s) :=
  .next h.vNoMove

theorem Kept.vMean {n} (h : Kept o s) : Kept o (Machine.vMean s n) := h.setVch.ite h.setVch.setReg

theorem Kept.vThermal {n} (h : Kept o s) : Kept o (Machine.vThermal s n) :=
  h.ite (h.modVch.setReg.ite ((h.modVch.setReg.vUnlimit.ite h.modVch.setReg).ite (h.modVch.setReg.vLimit.ite
    h.modVch.setReg)))

theorem Kept.execVThermalTick {ch} {s : State} (h : Kept o s) : NextKept o (Machine.execVThermalTick ch s) :=
  .next ((h.each (fun _ _ h => h.vMean)).vThermal.ite h)

theorem Kept.vClrtrip {n} (h : Kept o s) : Kept o (Machine.vClrtrip s n) := h.ite (h.each (fun _ _ h => h.setBit))
theorem Kept.execVClrtrip {ch} {s : State} (h : Kept o s) : NextKept o (Machine.execVClrtrip ch s) := .next h.vClrtrip

theorem Kept.execVShutterClose {ch unit} {s : State} (h : Kept o s) : NextKept o (Machine.execVShutterClose ch unit s) :=
  .next (h.ite (h.modVch.ite h.modTu))

theorem Kept.execVShutterOpen {ch unit} {s : State} (h : Kept o s) : NextKept o (Machine.execVShutterOpen ch unit s) :=
  .next (h.vNoMove.modVch.setBit.ite h)

theorem Kept.vCfgWrite {n v} (h : Kept o s) : Kept o (Machine.vCfgWrite s n v) :=
  h.ite ((((h.each (fun _ _ h => h.setFld)).ite h).setReg.when fun h => h.each (fun _ _ h => h.setFld)).setBit.when
    fun h => h.modVch)

theorem Kept.vPairWrite {n setpt dither} (h : Kept o s) : Kept o (Machine.vPairWrite s n setpt dither) :=
  h.setReg.setReg.ite h.setBit

/-! ### Sensor ports -/

theorem Kept.modSens {f} (h : Kept o s) : Kept o (State.modSens s f) := h
theorem Kept.modCp {n f} (h : Kept o s) : Kept o (State.modCp s n f) := h.modSens

theorem Kept.tuApply {n} (h : Kept o s) : Kept o (Machine.tuApply s n) := by
  unfold Machine.tuApply
  dsimp only
  split
  · exact h.modTu.setBit.setReg.setReg.count
  · exact h.modTu

theorem Kept.unitVsync {u} (h : Kept o s) : Kept o (Machine.unitVsync s u) := (h.tuApply.ite h).ite h.modCp

theorem Kept.frameOpen {p t} (h : Kept o s) : Kept o (Machine.frameOpen s p t) := by
  unfold Machine.frameOpen
  refine .setFld (.modSens ?_)
  split
  · exact h.countMod.setReg64.unitVsync
  · exact h.countMod.setReg64

theorem Kept.frameClose {p broken} (h : Kept o s) : Kept o (Machine.frameClose s p broken) := by
  unfold Machine.frameClose
  split
  · exact h
  · exact (h.setFld.setFld.count.setBit.ite h.setFld.setFld).setFld.modSens

theorem Kept.pclkBack {p} (h : Kept o s) : Kept o (Machine.pclkBack s p) := h.ite (h.setBit.liveOff.ite h.setBit)

theorem Kept.execSpVsyncStart {port t} {s : State} (h : Kept o s) : NextKept o (Machine.execSpVsyncStart port t s) := by
  unfold Machine.execSpVsyncStart
  refine .next (.ite h ?_)
  dsimp only
  split
  · exact h.pclkBack.ite h.pclkBack.frameClose.frameOpen
  · exact h.pclkBack.frameOpen

theorem Kept.modOpen {p f} (h : Kept o s) : Kept o (Machine.modOpen s p f) := h.modSens

theorem Kept.rowTake {p words} (h : Kept o s) : Kept o (Machine.rowTake s p words) := by
  unfold Machine.rowTake
  split
  · exact h.count
  · exact h.modOpen.count.ite ((h.modOpen.count.ite h.modOpen).frameClose.ite (h.modOpen.count.ite h.modOpen))

theorem Kept.execSpRow {port words} {s : State} (h : Kept o s) : NextKept o (Machine.execSpRow port words s) :=
  .next (h.ite h.pclkBack.rowTake)

theorem Kept.execSpFrameClose {port} {s : State} (h : Kept o s) : NextKept o (Machine.execSpFrameClose port s) :=
  .next (h.ite h.frameClose)

theorem Kept.execSpFrameTimeout {port} {s : State} (h : Kept o s) : NextKept o (Machine.execSpFrameTimeout port s) :=
  .next (h.count.frameClose.raise.ite h)

theorem Kept.execSpPclkLoss {port} {s : State} (h : Kept o s) : NextKept o (Machine.execSpPclkLoss port s) :=
  .next (h.ite h.setBit.count.frameClose.raise)

theorem Kept.spCfgWrite {p v} (h : Kept o s) : Kept o (Machine.spCfgWrite s p v) :=
  (h.ite h.setBit.frameClose.setFld).ite (h.ite h.setReg.setFld)

theorem Kept.execSpEnable {port value} {s : State} (h : Kept o s) : NextKept o (Machine.execSpEnable port value s) :=
  .next (h.ite h.spCfgWrite)

theorem Kept.portShow {p} (h : Kept o s) : Kept o (Machine.portShow s p) := by
  unfold Machine.portShow
  split
  · exact h.setBit.setBit.setFld
  · exact h.setFld

theorem Kept.tuCalm (h : Kept o s) : Kept o (Machine.tuCalm s) := h.liveOff.ite h
theorem Kept.tuOff {n} (h : Kept o s) : Kept o (Machine.tuOff s n) := (h.count.ite h).modTu.setFld.tuCalm
theorem Kept.tuOn {n} (h : Kept o s) : Kept o (Machine.tuOn s n) := h.setFld.modTu.ite h

theorem Kept.sensingApplied (h : Kept o s) : Kept o (Machine.sensingApplied s) :=
  ((h.modSens.each (fun _ _ h => h.portShow)).each (fun _ _ h => h.setBit.setBit)).each (fun _ _ h => h.setBit.ite
    ((h.setBit.tuOff.ite h.setBit).tuOn.ite (h.setBit.tuOff.ite h.setBit)))

theorem Kept.frameBuffer {d a kt number body late} (h : Kept o s) :
    Kept o (Machine.frameBuffer s d a kt number body late).1 := by
  unfold Machine.frameBuffer
  obtain ⟨word, hword⟩ : ∃ f, f = leBytes := ⟨_, rfl⟩
  rw [← hword]
  refine Kept.iteFst h ?_
  split
  · exact h
  next _ e =>
    refine Kept.iteFst (h.memWrite.of e) ?_
    split
    · exact h.memWrite.of e
    next _ e' =>
      split
      · exact (h.memWrite.of e).memWrite.of e'
      next _ e'' => exact ((h.memWrite.of e).memWrite.of e').memWrite.of e''

theorem Kept.domWriteReg {a w v} (h : Kept o s) : Kept o (Machine.domWriteReg s a w v) := h.setReg

/-! ### Pipelines -/

theorem Kept.cpLoad {n} (h : Kept o s) : Kept o (Machine.cpLoad s n) := h.ite (h.setBit.ite h.modCp.setBit)
theorem Kept.execCpLoad {n} {s : State} (h : Kept o s) : NextKept o (Machine.execCpLoad n s) := .next h.cpLoad

theorem Kept.execCpLoadDone {n errs} {s : State} (h : Kept o s) : NextKept o (Machine.execCpLoadDone n errs s) := by
  unfold Machine.execCpLoadDone
  refine .next (.ite h ?_)
  dsimp only
  split
  · exact h.readErrors.modCp.setBit.setBit.raise
  · exact h.readErrors.modCp.setBit.modCp.setBit.setBit.liveOff.ite h.readErrors.modCp.setBit.modCp.setBit.setBit

theorem Kept.execCpDomWrite {who n value} {s : State} (h : Kept o s) :
    NextKept o (Machine.execCpDomWrite who n value s) :=
  .next (Kept.iteFst h.domWriteReg h).respond

theorem Kept.cpGeomWrite {n v} (h : Kept o s) : Kept o (Machine.cpGeomWrite s n v) := h.ite h.setReg

theorem Kept.cpWriteFrame {n f c img late} (h : Kept o s) : Kept o (Machine.cpWriteFrame s n f c img late) :=
  h.ite (h.frameBuffer.ite h.frameBuffer.count)

theorem Kept.cpWriteStats {n f body late} (h : Kept o s) : Kept o (Machine.cpWriteStats s n f body late) :=
  h.ite (h.frameBuffer.ite h.frameBuffer.count)

theorem Kept.execCpFrame {n lateF lateS} {s : State} (h : Kept o s) :
    NextKept o (Machine.execCpFrame n lateF lateS s) := by
  unfold Machine.execCpFrame
  refine .next ?_
  split
  · exact h
  · exact h.modSens.ite (h.modSens.count.ite h.modSens.draw.setReg.count.cpWriteFrame.cpWriteStats)

/-! ### The ring -/

theorem Kept.modRing {f} (h : Kept o s) : Kept o (State.modRing s f) := h

theorem Kept.ringCheck (h : Kept o s) : Kept o (Machine.ringCheck s) :=
  (h.setFld.setBit.ite h.setFld.setBit.raise.ringEvent).ringWebsLost.ite (h.setFld.setBit.ringEvent.ite h.setFld.setBit)

theorem Kept.sendLocal {p sub body} (h : Kept o s) : Kept o (Machine.sendLocal s p sub body) := h.enqueue
theorem Kept.nextBseq (h : Kept o s) : Kept o (Machine.nextBseq s).2 := h.modRing

theorem Kept.sendBroadcast {ports sub body} (h : Kept o s) : Kept o (Machine.sendBroadcast s ports sub body) :=
  h.nextBseq.each (fun _ _ h => h.enqueue)

theorem Kept.sendUnicast {dnode sub body} (h : Kept o s) : Kept o (Machine.sendUnicast s dnode sub body).2 := by
  unfold Machine.sendUnicast
  split
  · exact h.count
  · exact h.enqueue

theorem Kept.ringRx {hd bs sub minLen} (h : Kept o s) : Kept o (Machine.ringRx s hd bs sub minLen).2 := h.receive
theorem Kept.noteBseq {node b} (h : Kept o s) : Kept o (Machine.noteBseq s node b) := h.modRing

theorem Kept.ringForward {hd bs} (h : Kept o s) : Kept o (Machine.ringForward s hd bs).2 := by
  unfold Machine.ringForward
  refine Kept.iteSnd h (Kept.iteSnd h.count (Kept.iteSnd (Kept.iteSnd h.count (h.noteBseq.each (fun _ _ h => h.enqueue)))
    ?_))
  split
  · exact h.count
  · exact Kept.iteSnd h.count h.enqueue

theorem Kept.ringTake {hd bs sub minLen f} (h : Kept o s) (hf : ∀ t, Kept o t → Kept o (f t)) :
    Kept o (Machine.ringTake s hd bs sub minLen f) :=
  h.ringRx.ite ((hf _ h.ringRx.ringForward).ite h.ringRx.ringForward)

theorem Kept.setNode {n} (h : Kept o s) : Kept o (Machine.setNode s n) := h.ite h.setFld.modRing

theorem Kept.sendAssign {uid} (h : Kept o s) : Kept o (Machine.sendAssign s uid) := by
  unfold Machine.sendAssign
  split
  · exact h.sendBroadcast
  · exact h

theorem Kept.noteHeard {n} (h : Kept o s) : Kept o (Machine.noteHeard s n) := h.ite h.modRing
theorem Kept.dropPending (h : Kept o s) : Kept o (Machine.dropPending s) := h.setReg.setBit.modRing
theorem Kept.abandonPending (h : Kept o s) : Kept o (Machine.abandonPending s) := h.ite h.dropPending.setFld.raise
theorem Kept.sendAnnounce (h : Kept o s) : Kept o (Machine.sendAnnounce s) := h.sendBroadcast

theorem Kept.enterElect (h : Kept o s) : Kept o (Machine.enterElect s) :=
  h.setFld.startHold.modRing.sendAnnounce.ringCheck

theorem Kept.sendTsync (h : Kept o s) : Kept o (Machine.sendTsync s) := h.modRing.each (fun _ _ h => h.enqueue)
theorem Kept.domWrite {d a t bs} (h : Kept o s) : OptKept o id (State.domWrite s d a t bs) := .ite h.memWrite .none

theorem Kept.mtabWrite {n off bs} (h : Kept o s) : Kept o (Machine.mtabWrite s n off bs) := by
  unfold Machine.mtabWrite
  dsimp only
  split
  · refine h.ite ?_
    cases e : s.domWrite _ _ _ _ with
    | none => exact h
    | some t => exact h.domWrite.of e
  · exact h

theorem Kept.becomeKeeper (h : Kept o s) : Kept o (Machine.becomeKeeper s) :=
  (((((h.abandonPending.setFld.when fun h => h.ringEvent).when fun h => h.setReg.setReg).when fun h => h.setNode).withTree
    (fun _ h => h.setReg)).setBit.modRing.each (fun _ _ h => h.mtabWrite)).raise.ringEvent.sendTsync.ringCheck

theorem Kept.newKeeper {knode} (h : Kept o s) : Kept o (Machine.newKeeper s knode) :=
  (h.abandonPending.each (fun _ _ h => h.setRport)).fork (fun h => h.withTree (fun _ h => h.setFld)) fun h => (h.withTree
    (fun _ h => h.setFld)).raise.ringEvent

theorem Kept.joinRing {rid} (h : Kept o s) : Kept o (Machine.joinRing s rid) :=
  h.ite (h.setReg.modRing.setNode.ite h.setReg.modRing)

theorem Kept.stepTime {d} (h : Kept o s) : Kept o (Machine.stepTime s d) :=
  h.upd_ringTime.each (fun _ _ h => h.postEvent.modSeat.ite h)

theorem Kept.countedStep {d} (h : Kept o s) : Kept o (Machine.countedStep s d) := h.stepTime.count.raise.ringEvent

theorem Kept.correctTime {o'} (h : Kept o s) : Kept o (Machine.correctTime s o') :=
  h.setReg.modRing.countedStep.ite (h.setReg.modRing.stepTime.raise.ite (h.setReg.modRing.countedStep.ite
    h.setReg.modRing))

theorem Kept.countSync {o'} (h : Kept o s) : Kept o (Machine.countSync s o') := h.modRing.setBit.modRing.ite h.modRing

/-! ### Ring frames -/

theorem Kept.ringEnable (h : Kept o s) : Kept o (Machine.ringEnable s) :=
  h.ite (h.setBit.setBit.ite h.setBit.setNode).modRing.enterElect

theorem Kept.ringDisable (h : Kept o s) : Kept o (Machine.ringDisable s) :=
  h.ite h.setBit.setFld.setBit.dropPending.modRing.ringCheck

theorem Kept.execRngEnable {s : State} (h : Kept o s) : NextKept o (Machine.execRngEnable s) := .next h.ringEnable
theorem Kept.execRngDisable {s : State} (h : Kept o s) : NextKept o (Machine.execRngDisable s) := .next h.ringDisable

theorem Kept.execLinkSendTick {s : State} (h : Kept o s) : NextKept o (Machine.execLinkSendTick s) :=
  .next (h.each (fun _ _ h => h.sendLocal))

theorem Kept.execRxLink {hd payload} {s : State} (h : Kept o s) : NextKept o (Machine.execRxLink hd payload s) :=
  .next (h.ringRx.ite (h.ringRx.setFld.withTree (fun _ h => h.setRport)))

theorem Kept.execDlyreqSendTick {s : State} (h : Kept o s) : NextKept o (Machine.execDlyreqSendTick s) :=
  .next (h.each (fun _ _ h => h.sendLocal))

theorem Kept.execRxDlyreq {hd payload t} {s : State} (h : Kept o s) : NextKept o (Machine.execRxDlyreq hd payload t s) :=
  .next (h.ringRx.ite h.ringRx.sendLocal)

theorem Kept.execRxDlyrsp {hd payload t} {s : State} (h : Kept o s) : NextKept o (Machine.execRxDlyrsp hd payload t s) :=
  .next (h.ringRx.ite h.ringRx.setRport.setFld)

theorem Kept.execAnnounceSendTick {s : State} (h : Kept o s) : NextKept o (Machine.execAnnounceSendTick s) :=
  .next (h.ite h.sendAnnounce)

theorem Kept.dupNode {node uid isStatic} (h : Kept o s) : Kept o (Machine.dupNode s node uid isStatic) :=
  h.ite (((h.sendAssign.ite h).ite ((h.setNode.ite h).ite h.setBit.setNode.ringCheck)).ite (h.sendAssign.ite h))

theorem Kept.forwardAnnounce {p f} (h : Kept o s) : Kept o (Machine.forwardAnnounce s p f) := h.enqueue.modCls.ite h

theorem Kept.execRxAnnounce {hd payload} {s : State} (h : Kept o s) : NextKept o (Machine.execRxAnnounce hd payload s) :=
  .next (h.ringRx.ite (h.ringRx.ite (((h.ringRx.dupNode.ite h.ringRx.dupNode.modRing).when fun h => h.modRing).fork
    (fun h => h.count) fun h => (h.noteBseq.each (fun _ _ h => h.forwardAnnounce)).unless fun h => (h.noteHeard.when
    fun h => h.sendAssign).when fun h => h.unless fun h => h.modRing.sendAnnounce)))

theorem Kept.execKlossExpiry {s : State} (h : Kept o s) : NextKept o (Machine.execKlossExpiry s) :=
  .next (h.enterElect.ite h)

theorem Kept.execElecttExpiry {s : State} (h : Kept o s) : NextKept o (Machine.execElecttExpiry s) := by
  unfold Machine.execElecttExpiry
  refine .next ?_
  split
  · exact h.becomeKeeper.ite h
  · exact h

theorem Kept.execHoldoverExpiry {s : State} (h : Kept o s) : NextKept o (Machine.execHoldoverExpiry s) :=
  .next (h.modRing.ringCheck.ite h)

theorem Kept.execRouteExpiry {node} {s : State} (h : Kept o s) : NextKept o (Machine.execRouteExpiry node s) :=
  .next h.modRing

theorem Kept.execRxAssign {hd payload} {s : State} (h : Kept o s) : NextKept o (Machine.execRxAssign hd payload s) :=
  .next (h.ringTake (fun _ h => h.setNode.ringCheck.ite h))

theorem Kept.execTsyncSendTick {s : State} (h : Kept o s) : NextKept o (Machine.execTsyncSendTick s) :=
  .next (h.sendTsync.ite h)

theorem Kept.rootFollows {p hops} (h : Kept o s) : Kept o (Machine.rootFollows s p hops) :=
  h.withTree (fun _ h => h.setRport.chooseRoot.setRport.ite h.setRport)

theorem Kept.forwardTsync {hd bs} (h : Kept o s) : Kept o (Machine.forwardTsync s hd bs) :=
  h.each (fun _ _ h => h.draw.enqueue)

theorem Kept.execRxTsync {hd payload t} {s : State} (h : Kept o s) : NextKept o (Machine.execRxTsync hd payload t s) := by
  unfold Machine.execRxTsync
  refine .next (.ite h.ringRx (.ite h.ringRx (.ite (.ite ?_ (.ringCheck ?_)) (.ite (.forwardTsync ?_) (.ringCheck
    (.countSync (.correctTime (.forwardTsync ?_))))))))
  · split
    · exact ((h.ringRx.ite h.ringRx.newKeeper).unless fun h => h.joinRing.setFld).modRing.setFld.rootFollows.setFld
    · exact ((h.ringRx.ite h.ringRx.newKeeper).unless fun h => h.joinRing.setFld).modRing.setFld.rootFollows
  · split
    · exact ((h.ringRx.ite h.ringRx.newKeeper).unless fun h => h.joinRing.setFld).modRing.setFld.rootFollows.setFld
    · exact ((h.ringRx.ite h.ringRx.newKeeper).unless fun h => h.joinRing.setFld).modRing.setFld.rootFollows
  · split
    · exact ((h.ringRx.ite h.ringRx.newKeeper).unless fun h => h.joinRing.setFld).modRing.setFld.rootFollows.setFld
    · exact ((h.ringRx.ite h.ringRx.newKeeper).unless fun h => h.joinRing.setFld).modRing.setFld.rootFollows
  · split
    · exact ((h.ringRx.ite h.ringRx.newKeeper).unless fun h => h.joinRing.setFld).modRing.setFld.rootFollows.setFld
    · exact ((h.ringRx.ite h.ringRx.newKeeper).unless fun h => h.joinRing.setFld).modRing.setFld.rootFollows

theorem Kept.execHeartbeatSendTick {s : State} (h : Kept o s) : NextKept o (Machine.execHeartbeatSendTick s) :=
  .next (h.sendUnicast.ite h)

theorem Kept.sendEpoch {epoch total off bs send} (h : Kept o s) (hsend : ∀ t x0, Kept o t → Kept o (send t x0)) :
    Kept o (Machine.sendEpoch s epoch total off bs send) :=
  h.each (fun _ _ h => hsend _ _ h)

theorem Kept.sendCommit (h : Kept o s) : Kept o (Machine.sendCommit s) := by
  unfold Machine.sendCommit
  split
  · exact h
  · exact h.sendBroadcast.setFld.modRing

theorem Kept.tryCommit (h : Kept o s) : Kept o (Machine.tryCommit s) := h.sendCommit.ite h

theorem Kept.epochDistribute (h : Kept o s) : Kept o (Machine.epochDistribute s) := by
  unfold Machine.epochDistribute
  refine .ite h.setFld (.ite h.setFld ?_)
  dsimp only
  split
  · exact h.setFld
  · exact (h.setReg.setFld.setBit.modRing.sendEpoch (fun _ _ h => h.sendBroadcast)).tryCommit

theorem Kept.execEpochDistribute {s : State} (h : Kept o s) : NextKept o (Machine.execEpochDistribute s) :=
  .next h.epochDistribute

theorem Kept.epochAbort (h : Kept o s) : Kept o (Machine.epochAbort s) := h.dropPending.setFld.raise.ite h
theorem Kept.execEpochAbort {s : State} (h : Kept o s) : NextKept o (Machine.execEpochAbort s) := .next h.epochAbort

theorem Kept.execEpochCommitTimeout {s : State} (h : Kept o s) : NextKept o (Machine.execEpochCommitTimeout s) :=
  .next (h.sendCommit.ite h)

theorem Kept.applyEpoch (h : Kept o s) : Kept o (Machine.applyEpoch s) :=
  h.dropPending.setBit.setReg.setFld.modRing.ringEvent.ringCheck

theorem Kept.execEpochApply {s : State} (h : Kept o s) : NextKept o (Machine.execEpochApply s) := by
  unfold Machine.execEpochApply
  refine .next ?_
  split
  · exact h
  · exact h.upd_ringTime.applyEpoch.ite h.upd_ringTime.dropPending

theorem Kept.checkHave (h : Kept o s) : Kept o (Machine.checkHave s) := h.setBit

theorem Kept.startPending {eng total} (h : Kept o s) : Kept o (Machine.startPending s eng total) :=
  h.ite h.dropPending.setReg.modRing

theorem Kept.execRxEpochData {hd payload} {s : State} (h : Kept o s) :
    NextKept o (Machine.execRxEpochData hd payload s) := by
  unfold Machine.execRxEpochData
  refine .next (.ringTake h (fun _ h => .ite h ?_))
  dsimp only
  split
  · exact h.startPending
  · split
    · exact h.startPending
    next _ e => exact (h.startPending.domWrite.of e).modRing.checkHave.sendUnicast.ite (h.startPending.domWrite.of
      e).modRing.checkHave

theorem Kept.execRxEpochCommit {hd payload} {s : State} (h : Kept o s) :
    NextKept o (Machine.execRxEpochCommit hd payload s) :=
  .next (h.ringTake (fun _ h => h.ite (h.startPending.modRing.checkHave.unless fun h => h.fork (fun h => h.applyEpoch)
    fun h => h.modRing)))

theorem Kept.execRxEpochReq {hd payload} {s : State} (h : Kept o s) :
    NextKept o (Machine.execRxEpochReq hd payload s) := by
  unfold Machine.execRxEpochReq
  refine .next (.ringTake h (fun _ h => .ite h ?_))
  split
  · exact h.sendEpoch (fun _ _ h => h.sendUnicast)
  · exact h

theorem Kept.bringUp {node epoch pend held} (h : Kept o s) : Kept o (Machine.bringUp s node epoch pend held) := by
  unfold Machine.bringUp
  refine .ite h ?_
  split
  · exact h
  · exact h.sendUnicast.ite (h.ite (h.sendEpoch (fun _ _ h => h.sendUnicast)))

theorem Kept.execRxHeartbeat {hd payload} {s : State} (h : Kept o s) :
    NextKept o (Machine.execRxHeartbeat hd payload s) :=
  .next (h.ringTake (fun _ h => h.ite h.noteHeard.modRing.mtabWrite.bringUp.tryCommit))

theorem Kept.execMtabEntryMissing {node} {s : State} (h : Kept o s) :
    NextKept o (Machine.execMtabEntryMissing node s) := by
  unfold Machine.execMtabEntryMissing
  refine .next ?_
  split
  · exact h.mtabWrite.ite h
  · exact h

theorem Kept.takeSnap {stime} (h : Kept o s) : Kept o (Machine.takeSnap s stime) := h.ite (h.count.ite h.modRing)
theorem Kept.ringSnapSend (h : Kept o s) : Kept o (Machine.ringSnapSend s) := h.ite h.modRing.sendBroadcast.takeSnap
theorem Kept.execRingSnapSend {s : State} (h : Kept o s) : NextKept o (Machine.execRingSnapSend s) := .next h.ringSnapSend

theorem Kept.execRxRingSnap {hd payload} {s : State} (h : Kept o s) : NextKept o (Machine.execRxRingSnap hd payload s) :=
  .next (h.ringTake (fun _ h => h.takeSnap))

theorem Kept.execRingSnapTime {s : State} (h : Kept o s) : NextKept o (Machine.execRingSnapTime s) := by
  unfold Machine.execRingSnapTime
  refine .next ?_
  split
  · exact h
  · exact h.upd_ringTime.modRing.snapTrigger.ite h.upd_ringTime.modRing

theorem Kept.rmarkAct {i pos snode} (h : Kept o s) : Kept o (Machine.rmarkAct s i pos snode) := by
  unfold Machine.rmarkAct
  dsimp only
  split
  · exact h.ringEvent
  · exact h.snapTrigger
  · exact h
  · exact h

theorem Kept.takeRmark {snode pos ftime tag} (h : Kept o s) : Kept o (Machine.takeRmark s snode pos ftime tag) := by
  unfold Machine.takeRmark
  refine .ite h ?_
  split
  · exact h
  · exact h.rmarkAct.ite h.modRing

theorem Kept.rmarkSend {web tag pos extrap} (h : Kept o s) : Kept o (Machine.rmarkSend s web tag pos extrap) :=
  h.ite h.sendBroadcast.takeRmark

theorem Kept.execRxRmark {hd payload} {s : State} (h : Kept o s) : NextKept o (Machine.execRxRmark hd payload s) :=
  .next (h.ringTake (fun _ h => h.takeRmark))

theorem Kept.execRmarkAction {s : State} (h : Kept o s) : NextKept o (Machine.execRmarkAction s) := by
  unfold Machine.execRmarkAction
  refine .next ?_
  split
  · exact h
  · exact h.upd_ringTime.modRing.rmarkAct.ite h.upd_ringTime.modRing

theorem Kept.execRxPsample {hd payload} {s : State} (h : Kept o s) : NextKept o (Machine.execRxPsample hd payload s) :=
  .next (h.ringTake (fun _ h => h.ite (h.setWeb.ite h)))

theorem Kept.drawBytes {n} (h : Kept o s) : Kept o (Machine.drawBytes n s).2 := by
  induction n generalizing s with
  | zero => exact h
  | succ n ih => exact ih h.draw

theorem Kept.mailDeliver {d snode sdom msgid data} (h : Kept o s) :
    Kept o (Machine.mailDeliver s d snode sdom msgid data) := by
  unfold Machine.mailDeliver
  refine .ite h.count ?_
  dsimp only
  split
  · exact h.count
  next _ e => exact (h.drawBytes.drawBytes.drawBytes.drawBytes.domWrite.of e).setReg.modRing.ringRecord

theorem Kept.execRxMbx {hd payload} {s : State} (h : Kept o s) : NextKept o (Machine.execRxMbx hd payload s) :=
  .next (h.ringTake (fun _ h => h.ite ((h.modRing.mailDeliver.ite h.modRing.count).ite h.modRing)))

theorem Kept.execMailboxTimeout {snode sdom ddom msgid} {s : State} (h : Kept o s) :
    NextKept o (Machine.execMailboxTimeout snode sdom ddom msgid s) :=
  .next (h.modRing.count.ite h)

theorem Kept.mailSend {d} (h : Kept o s) : Kept o (Machine.mailSend s d) := by
  rw [Machine.mailSend]
  refine .ite h.setReg ?_
  split
  split
  · exact h.setReg
  · exact h.count.setReg.ite (h.setReg.ite (h.modRing.each (fun _ _ h => h.sendBroadcast.ite h.sendUnicast)).setReg)

theorem Kept.execMailboxSend {who d} {s : State} (h : Kept o s) : NextKept o (Machine.execMailboxSend who d s) :=
  .next (Kept.iteFst h.mailSend h).respond

/-! ### Position -/

theorem Kept.takeState {n st cause} (h : Kept o s) : Kept o (Machine.takeState s n st cause) :=
  h.ite ((h.setWebState.setFld.when fun h => h.setWeb).fork (fun h => h.raise) fun h => h.lostLine)

theorem Kept.bcastEnc {n t} (h : Kept o s) : Kept o (Machine.bcastEnc s n t) := by
  unfold Machine.bcastEnc
  dsimp only
  split
  · exact h.setWeb.setUncert.publishPos
  · exact h.setWeb.setUncert.publishPos
  · exact h

theorem Kept.bcastRing {n t} (h : Kept o s) : Kept o (Machine.bcastRing s n t) := by
  unfold Machine.bcastRing
  split
  · exact h
  · exact h.ite h.setWeb.takeState.webView.publishPos

theorem Kept.bcastWeb {n} (h : Kept o s) : Kept o (Machine.bcastWeb s n) := by
  unfold Machine.bcastWeb
  split
  · exact h.takeState.setUncert
  · exact h.takeState.setUncert.ite h.setWeb.takeState.setUncert.webView.publishPos

theorem Kept.bcastWebs {t} (h : Kept o s) : Kept o (Machine.bcastWebs s t) := by
  unfold Machine.bcastWebs
  refine .each (.each h (fun _ _ h => .ite h ?_)) (fun _ _ h => h.bcastWeb.ite h)
  split
  · exact h.bcastEnc
  · exact h.bcastRing
  · exact h

theorem Kept.markLog {k web extrap late} (h : Kept o s) : Kept o (Machine.markLog s k web extrap late) :=
  h.count.ite h.setReg64.setReg.setReg.setReg

theorem Kept.addTag {web tag} (h : Kept o s) : Kept o (Machine.addTag s web tag) := h

theorem Kept.markAction {k web pos extrap} (h : Kept o s) : Kept o (Machine.markAction s k web pos extrap) := by
  unfold Machine.markAction
  dsimp only
  split
  · exact h.addTag
  · exact h.snapTrigger
  · exact h.rmarkSend
  · exact h

theorem Kept.markFire {k} (h : Kept o s) : Kept o (Machine.markFire s k) :=
  (h.markAction.setReg.when fun h => h.markLog).fork (fun h => h.setBit.setLate) fun h => h.setReg64.setLate

theorem Kept.fireMarks (h : Kept o s) : Kept o (Machine.fireMarks s) := h.each (fun _ _ h => h.markFire.ite h)
theorem Kept.newTags (h : Kept o s) : Kept o (Machine.newTags s) := h
theorem Kept.noteBroadcast {t} (h : Kept o s) : Kept o (Machine.noteBroadcast s t) := h

theorem Kept.markCtl {k value} (h : Kept o s) : Kept o (Machine.markCtl s k value) :=
  h.setReg.setLate.ite (h.setReg.ite h.setReg.setLate)

theorem Kept.execMarkCtlWrite {slot value} {s : State} (h : Kept o s) :
    NextKept o (Machine.execMarkCtlWrite slot value s) :=
  .next h.markCtl

theorem Kept.setTof {m x} (h : Kept o s) : Kept o (State.setTof s m x) := h.upd_pos.setFld.setReg64.setReg

theorem Kept.armTof {m pos} (h : Kept o s) : Kept o (Machine.armTof s m pos) :=
  h.each (fun _ _ h => (h.setBit.ite h).upd_pos.setBit.setLate.ite h)

theorem Kept.execTofEdge {tof t} {s : State} (h : Kept o s) : NextKept o (Machine.execTofEdge tof t s) :=
  .next (h.ite (h.upTo.ite (h.upTo.setTof.ite (h.upTo.setTof.setTof.ite h.upTo.setTof.setTof.setBit.raise).armTof)))

theorem Kept.tofPop {m} (h : Kept o s) : Kept o (Machine.tofPop s m) := h.setTof
theorem Kept.execTofPop {tof} {s : State} (h : Kept o s) : NextKept o (Machine.execTofPop tof s) := .next h.tofPop

theorem Kept.execPsamplePublish {web} {s : State} (h : Kept o s) : NextKept o (Machine.execPsamplePublish web s) :=
  .next (h.ite h.sendBroadcast)

/-! ### Thermal units -/

theorem Kept.tuCmdErr {n} (h : Kept o s) : Kept o (Machine.tuCmdErr s n) := h.setBit
theorem Kept.tuSet {n st} (h : Kept o s) : Kept o (Machine.tuSet s n st) := h.setFld
theorem Kept.tuLoad {n} (h : Kept o s) : Kept o (Machine.tuLoad s n) := h.ite (h.tuCmdErr.ite h.tuOff.tuSet.modTu.modSens)
theorem Kept.execTuLoad {n} {s : State} (h : Kept o s) : NextKept o (Machine.execTuLoad n s) := .next h.tuLoad
theorem Kept.tuSave {n} (h : Kept o s) : Kept o (Machine.tuSave s n) := h.ite (h.tuCmdErr.ite h.modTu)
theorem Kept.execTuSave {n} {s : State} (h : Kept o s) : NextKept o (Machine.execTuSave n s) := .next h.tuSave

theorem Kept.execTuLoadDone {n errs} {s : State} (h : Kept o s) : NextKept o (Machine.execTuLoadDone n errs s) := by
  unfold Machine.execTuLoadDone
  refine .next (.ite h ?_)
  dsimp only
  split
  · exact h.readErrors.tuSet.modTu.setBit.raise
  · exact (h.readErrors.tuSet.modTu.setBit.setBit.setReg.setReg.setReg.tuOn.ite
      h.readErrors.tuSet.modTu.setBit.setBit.setReg.setReg.setReg).tuCalm

theorem Kept.execTuSaveDone {n} {s : State} (h : Kept o s) : NextKept o (Machine.execTuSaveDone n s) := by
  unfold Machine.execTuSaveDone
  refine .next (.ite h ?_)
  dsimp only
  split
  · exact h.modTu
  · exact .ite (h.modTu.memWrite.getD h.modTu) h.modTu

theorem Kept.execTuDomWrite {who n value} {s : State} (h : Kept o s) :
    NextKept o (Machine.execTuDomWrite who n value s) :=
  .next (Kept.iteFst h.domWriteReg h).respond

theorem Kept.tuGeomWrite {n v} (h : Kept o s) : Kept o (Machine.tuGeomWrite s n v) := h.ite h.setReg

theorem Kept.drawPixels {n} (h : Kept o s) : Kept o (Machine.drawPixels n s).2 := by
  induction n generalizing s with
  | zero => exact h
  | succ n ih => exact ih h.draw

theorem Kept.zoneRecord {n z f img} (h : Kept o s) : Kept o (Machine.zoneRecord s n z f img) := by
  unfold Machine.zoneRecord
  refine .ite h ?_
  split
  · exact h.setReg.setReg.setReg.setReg.setReg.ite h.setReg.setReg.setReg.setReg.setReg.leSource

theorem Kept.presenceZone {n m f img} (h : Kept o s) : Kept o (Machine.presenceZone s n m f img).1 :=
  Kept.iteFst h (Kept.iteFst h.setFld.setBit.modTu (Kept.iteFst (Kept.iteFst h.setFld.setBit.modTu h.setFld.modTu)
    h.setFld.modTu))

theorem Kept.frameStats {n f img} (h : Kept o s) : Kept o (Machine.frameStats s n f img) := by
  have hzones : ∀ (l : List Nat) (x : State × Bool), Kept o x.1 → Kept o (l.foldl (fun (x : State × Bool) m =>
      ((Machine.presenceZone x.1 n m f img).1, x.2 || (Machine.presenceZone x.1 n m f img).2)) x).1 := by
    intro l
    induction l with
    | nil => exact fun _ h => h
    | cons m l ih => exact fun x h => ih _ h.presenceZone
  unfold Machine.frameStats
  extract_lets s₁ r
  have hr : Kept o r.1 := hzones _ _ (h.each fun _ _ h => h.zoneRecord)
  exact hr.occAll.ite hr

theorem Kept.tuWriteFrame {n w hd f body late} (h : Kept o s) : Kept o (Machine.tuWriteFrame s n w hd f body late) :=
  h.ite (h.frameBuffer.ite h.frameBuffer.count)

theorem Kept.tuFailed {n cause event} (h : Kept o s) : Kept o (Machine.tuFailed s n cause event) :=
  h.setFld.count.setBit.raise.ite h.setFld.count

theorem Kept.tuClose {n} (h : Kept o s) : Kept o (Machine.tuClose s n) := h.tuSet.modTu
theorem Kept.tuAverage {n} (h : Kept o s) : Kept o (Machine.tuAverage s n) := h.tuSet.modTu
theorem Kept.tuOpen {n} (h : Kept o s) : Kept o (Machine.tuOpen s n) := h.tuSet.modTu
theorem Kept.tuSettled {n} (h : Kept o s) : Kept o (Machine.tuSettled s n) := h.tuSet.modTu
theorem Kept.tuSettleC {n} (h : Kept o s) : Kept o (Machine.tuSettleC s n) := h.tuAverage.ite h.tuSet.modTu
theorem Kept.tuSettleO {n} (h : Kept o s) : Kept o (Machine.tuSettleO s n) := (h.tuSettled.ite h.tuSet.modTu).tuCalm

theorem Kept.tuExclude {n} (h : Kept o s) : Kept o (Machine.tuExclude s n) := by
  unfold Machine.tuExclude
  split
  · exact h
  · exact h.modTu.tuOpen.tuFailed.ite h.modTu

theorem Kept.tuSum {n t px raw tfpa} (h : Kept o s) : Kept o (Machine.tuSum s n t px raw tfpa) := by
  unfold Machine.tuSum
  split
  · exact h
  · exact h.modTu.ite h.tuOpen.modTu

theorem Kept.tuConfirms {n px raw} (h : Kept o s) : Kept o (Machine.tuConfirms s n px raw).2 :=
  Kept.iteSnd h (Kept.iteSnd h.draw h)

theorem Kept.tuAdvance {n f t px raw tfpa} (h : Kept o s) : Kept o (Machine.tuAdvance s n f t px raw tfpa) := by
  unfold Machine.tuAdvance
  dsimp only
  split
  · exact (h.tuAverage.ite h.modTu).ite h
  · exact (h.tuSum.ite h.tuExclude).ite h
  · exact (h.tuConfirms.tuSettleO.ite (h.tuConfirms.tuSet.raise.ite h.tuConfirms.modTu)).ite h
  · exact h.tuSettled.ite h.modTu
  · exact (h.tuConfirms.tuSettleO.ite h.tuConfirms).ite h
  · exact h

theorem Kept.tuTrigger {n f tfpa tref} (h : Kept o s) : Kept o (Machine.tuTrigger s n f tfpa tref).1 := h.modTu.modTu

theorem Kept.tuStorePages {n count pages} (h : Kept o s) : Kept o (Machine.tuStorePages s n count pages) :=
  h.ite h.modTu.raise

theorem Kept.tuProcess {n w hd f t pages late} (h : Kept o s) : Kept o (Machine.tuProcess s n w hd f t pages late) :=
  ((((h.tuStorePages.drawPixels.modTu.setBit.setReg.setReg.setReg.when fun h => h.tuTrigger.when
    fun h => h.tuClose).unless fun h => h.count).unless fun h => h.count).tuWriteFrame.unless
    fun h => h.frameStats).tuAdvance

theorem Kept.execTuFrame {n pages late} {s : State} (h : Kept o s) : NextKept o (Machine.execTuFrame n pages late s) := by
  unfold Machine.execTuFrame
  refine .next ?_
  split
  · exact h
  · refine .ite h.modSens (.ite (h.modSens.count.tuExclude.ite h.modSens.count) ?_)
    split
    · exact h.modSens
    · exact h.modSens.tuProcess

theorem Kept.tuCal {n} (h : Kept o s) : Kept o (Machine.tuCal s n) := h.ite (h.modTu.ite h.tuCmdErr)
theorem Kept.execTuCal {n} {s : State} (h : Kept o s) : NextKept o (Machine.execTuCal n s) := .next h.tuCal
theorem Kept.tuAbort {n} (h : Kept o s) : Kept o (Machine.tuAbort s n) := h.modTu.tuOpen.tuFailed.ite h
theorem Kept.execTuAbort {n} {s : State} (h : Kept o s) : NextKept o (Machine.execTuAbort n s) := .next h.tuAbort
theorem Kept.tuNoMove {n} (h : Kept o s) : Kept o (Machine.tuNoMove s n) := h.tuSet.modTu.tuFailed

theorem Kept.execTuMoveResult {n} {s : State} (h : Kept o s) : NextKept o (Machine.execTuMoveResult n s) := by
  unfold Machine.execTuMoveResult
  refine .next (.ite h ?_)
  split
  · exact h
  · exact h.tuNoMove
  · exact h.modTu.setReg.tuSettleC

theorem Kept.execTuMoveTimeout {n} {s : State} (h : Kept o s) : NextKept o (Machine.execTuMoveTimeout n s) :=
  .next (h.tuNoMove.ite h)

theorem Kept.execTuHoldoffExpiry {n} {s : State} (h : Kept o s) : NextKept o (Machine.execTuHoldoffExpiry n s) :=
  .next h.setBit

/-! ### Commits -/

theorem Kept.stagedRefused {a v} (h : Kept o s) : Kept o (Machine.stagedRefused s a v) := by
  unfold Machine.stagedRefused
  split
  · exact h.ite h.setBit
  · exact h

theorem Kept.seatClassApplied {eng c} (h : Kept o s) : Kept o (Machine.seatClassApplied s eng c) :=
  (h.each (fun _ _ h => h.seatOff.ite h)).when fun h => h.engineSeatsOn

theorem Kept.webCfgApplied {n old} (h : Kept o s) : Kept o (Machine.webCfgApplied s n old) :=
  h.ite h.setWeb.setWebState.webView.setFld.setUncert.lostLine

theorem Kept.changeApplied {a old} (h : Kept o s) : Kept o (Machine.changeApplied s a old) := by
  unfold Machine.changeApplied
  split
  · exact h.webCfgApplied
  · split
    · exact h.lanesApplied
    · split
      · exact h.leApplied
      · split
        · exact h.seatClassApplied
        · exact h

theorem Kept.applySet {l} (h : Kept o s) : Kept o (Machine.applySet s l) :=
  ((h.each (fun _ _ h => h.setAct)).each (fun _ _ h => h.changeApplied)).sensingApplied

theorem Kept.setApplied {d r} (h : Kept o s) : Kept o (Machine.setApplied s d r) := h.countMod.stgResult

theorem Kept.stgCommit {d} (h : Kept o s) : Kept o (Machine.stgCommit s d) :=
  h.stgResult.ite (h.stgResult.ite h.setStgDom.stgCount.applySet.setApplied)

theorem Kept.execStageCommit {who d} {s : State} (h : Kept o s) : NextKept o (Machine.execStageCommit who d s) :=
  .next (Kept.iteFst h.stgCommit h).respond

theorem Kept.seamEvents {d pos} (h : Kept o s) : Kept o (Machine.seamEvents s d pos) :=
  h.each (fun _ _ h => h.modSeat.ite h)

theorem Kept.seamApply {d w} (h : Kept o s) : Kept o (Machine.seamApply s d w) :=
  (h.setReg64.stgDisarm.applySet.setApplied.when fun h => h.raise).seamEvents

theorem Kept.fireSeams (h : Kept o s) : Kept o (Machine.fireSeams s) :=
  h.each (fun _ _ h => h.ite ((h.ite h.setBit).seamApply.ite (h.ite h.setBit).setStgDom))

theorem Kept.execPositionBroadcast {t} {s : State} (h : Kept o s) : NextKept o (Machine.execPositionBroadcast t s) :=
  .next (h.ite (h.upTo.newTags.bcastWebs.noteBroadcast.fireMarks.fireSeams.tryRotate.each (fun _ _ h => h.emuRestart)))

/-! ### The clock of AON -/

theorem Kept.calLatch (h : Kept o s) : Kept o (Machine.calLatch s) := h.setReg.setReg.ite h.draw.draw.setReg.setReg

theorem Kept.execCalDateRead {who} {s : State} (h : Kept o s) : NextKept o (Machine.execCalDateRead who s) :=
  .next (h.calLatch.upd_out.ite h.upd_out)

theorem Kept.schApply {k} (h : Kept o s) : Kept o (Machine.schApply s k) := h.each (fun _ _ h => h.setFld.ite h)

theorem Kept.minuteEvaluate {m} (h : Kept o s) : Kept o (Machine.minuteEvaluate s m) :=
  h.upd_plant.ite (((h.upd_plant.each (fun _ _ h => h.schApply)).setBit.when fun h => h.zonesRefresh).when
    fun h => h.wakeSource)

theorem Kept.execScheduleMinute {s : State} (h : Kept o s) : NextKept o (Machine.execScheduleMinute s) :=
  .next (h.minuteEvaluate.ite h)

theorem Kept.tzWrite {v} (h : Kept o s) : Kept o (Machine.tzWrite s v) := by
  unfold Machine.tzWrite
  refine .ite h ?_
  dsimp only
  split
  · exact h.setReg.ite (h.setReg.each (fun _ _ h => h.minuteEvaluate))
  · exact h.setReg

theorem Kept.execAonTzWrite {value} {s : State} (h : Kept o s) : NextKept o (Machine.execAonTzWrite value s) :=
  .next h.tzWrite

theorem Kept.rtcWrite {v} (h : Kept o s) : Kept o (Machine.rtcWrite s v) := h.setReg64.setReg.upd_plant

theorem Kept.execRtcSecWrite {value} {s : State} (h : Kept o s) : NextKept o (Machine.execRtcSecWrite value s) :=
  .next h.rtcWrite

theorem Kept.alarmWritten (h : Kept o s) : Kept o (Machine.alarmWritten s) := h
theorem Kept.alarmCheck (h : Kept o s) : Kept o (Machine.alarmCheck s) := h.upd_plant.setBit.wakeSource.ite h

theorem Kept.overrideMinute (h : Kept o s) : Kept o (Machine.overrideMinute s) :=
  h.ite (h.each (fun _ _ h => h.ite (h.setFld.setBit.ite h.setFld))).zonesRefresh

theorem Kept.execRtcSecond {s : State} (h : Kept o s) : NextKept o (Machine.execRtcSecond s) :=
  .next (h.ite (h.setReg64.setReg.alarmCheck.overrideMinute.ite h.setReg64.setReg.alarmCheck))

theorem Kept.execOscStop {s : State} (h : Kept o s) : NextKept o (Machine.execOscStop s) :=
  .next (h.ite (h.setBit.raise.ite h.setBit))

theorem Kept.presSample {n level} (h : Kept o s) : Kept o (Machine.presSample s n level) :=
  h.setBit.upd_plant.ite ((h.setBit.upd_plant.setBit.wakeSource.ite h.setBit.upd_plant.setBit).ite h.setBit.upd_plant)

theorem Kept.execPresSample {levels} {s : State} (h : Kept o s) : NextKept o (Machine.execPresSample levels s) :=
  .next ((h.each (fun _ _ h => h.presSample)).occAll.ite h)

/-! ### Reads of control space -/

theorem Kept.ctlRead {w a} (h : Kept o s) : Kept o (Machine.ctlRead s w a).2 := by
  unfold Machine.ctlRead
  split
  · exact h
  · exact h
  · refine Kept.iteSnd h (Kept.iteSnd h.calLatch (Kept.iteSnd h.upd_hiLatch ?_))
    split
    · exact h
    · exact h

/-! ### Register writes -/

theorem Kept.plainWrite {a v} (h : Kept o s) : Kept o (Machine.plainWrite s a v) := by
  unfold Machine.plainWrite
  split
  · exact h
  · exact h.setReg

theorem Kept.dropLow {lo} (h : Kept o s) : Kept o (State.dropLow s lo) := h

theorem Kept.store {a v} (h : Kept o s) : Kept o (Machine.store s a v) :=
  h.upd_loHeld.ite (h.dropLow.plainWrite.plainWrite.ite h.plainWrite)

theorem Kept.stateIf {b f} (h : Kept o s) (hf : ∀ t, Kept o t → Kept o (f t)) : Kept o (Machine.stateIf b f s) :=
  (hf _ h).ite h

theorem Kept.drawReadings {n} (h : Kept o s) : Kept o (Machine.drawReadings n s).2 := by
  induction n generalizing s with
  | zero => exact h
  | succ n ih => exact ih h.draw

theorem Kept.domPageWrite {d a v} (h : Kept o s) : Kept o (Machine.domPageWrite s d a v) :=
  h.doorbellWrite.ite (h.dbrouteWrite.ite (h.seatCmd.ite (h.ite (h.nqCtlWrite.ite (h.nqHeadWrite.ite h.store)))))

theorem Kept.fuseCmd {v} (h : Kept o s) : Kept o (Machine.fuseCmd s v) :=
  h.ite ((h.stateIf (fun _ h => h.burnStart)).stateIf (fun _ h => h.burnStart))

theorem Kept.pwrCmd {v} (h : Kept o s) : Kept o (Machine.pwrCmd s v) :=
  h.ite ((h.stateIf (fun _ h => h.watchCommand)).stateIf (fun _ h => h.runCommand))

theorem Kept.sysWrite {w a v} (h : Kept o s) : Kept o (Machine.sysWrite s w a v).1 :=
  Kept.iteFst h.domPageWrite (Kept.iteFst (Kept.iteFst h.store h) (Kept.iteFst (Kept.iteFst h.ownerInstall h) (Kept.iteFst
    (Kept.iteFst h.fuseCmd h) (Kept.iteFst (Kept.iteFst h.pwrCmd h) (Kept.iteFst (Kept.iteFst (h.stateIf
    (fun _ h => h.rstCommand)) h) h.store)))))

theorem Kept.safeCmd {w v} (h : Kept o s) : Kept o (Machine.safeCmd s w v).1 :=
  Kept.iteFst h (Kept.iteFst h (((h.stateIf (fun _ h => h.safeOrder)).stateIf (fun _ h => h.safeRelease)).stateIf
    (fun _ h => h.safeResume)))

theorem Kept.ietWrite {w v} (h : Kept o s) : Kept o (Machine.ietWrite s w v).1 := by
  unfold Machine.ietWrite
  split
  next _ e => exact h.fcIetWrite.ofFst e
  next _ e =>
    have h := h.fcIetWrite.ofFst e
    exact Kept.iteFst h (Kept.iteFst h.draw h.draw.setBit.setFld)

theorem Kept.fcWrite {w a v} (h : Kept o s) : Kept o (Machine.fcWrite s w a v).1 :=
  Kept.iteFst (h.stateIf (fun _ h => h.firstClear)) (Kept.iteFst h.handlingWrite (Kept.iteFst h.safeCmd (Kept.iteFst
    h.fcSafeoutWrite (Kept.iteFst h.fcPipWrite (Kept.iteFst h.ietWrite (Kept.iteFst h.swRaise (Kept.iteFst h.fcSrcCfgWrite
    h.store)))))))

theorem Kept.tmpCmd {v} (h : Kept o s) : Kept o (Machine.tmpCmd s v) :=
  h.each (fun _ _ h => h.ite h.drawReadings.groupSample)

theorem Kept.tmpWrite {a v} (h : Kept o s) : Kept o (Machine.tmpWrite s a v) :=
  h.tmpCmd.ite (h.clkCfgWrite.ite (h.sefreqWrite.ite ((h.stateIf (fun _ h => h.store)).ite ((h.grpCfgWrite.ite
    (h.grpRateWrite.ite (h.grpThrWrite.ite h))).ite h.store))))

theorem Kept.calRegWrite {w a v} (h : Kept o s) : Kept o (Machine.calRegWrite s w a v) :=
  ((h.stateIf (fun _ h => h.calCommand)).stateIf (fun _ h => h.calCommand)).ite h.store

theorem Kept.stgPageWrite {d a v} (h : Kept o s) : Kept o (Machine.stgPageWrite s d a v) :=
  ((((h.stateIf (fun _ h => h.stgCommit)).stateIf (fun _ h => h.stgArm)).stateIf (fun _ h => h.stgCancel)).stateIf
    (fun _ h => h.stgDiscard)).ite (h.ite ((h.stateIf (fun _ h => h.store)).ite h.store))

theorem Kept.sprRegWrite {a v} (h : Kept o s) : Kept o (Machine.sprRegWrite s a v) := by
  unfold Machine.sprRegWrite
  refine .ite (h.stateIf (fun _ h => h.store)) (.ite ((((h.stateIf (fun _ h => h.wantRotate)).stateIf
    (fun _ h => h.sprAbort)).stateIf (fun _ h => h.sprRetest)).stateIf (fun _ h => h.engineFailed)) ?_)
  split
  · exact h.dropLow.sprRecWrite
  · exact h.store

theorem Kept.snpWrite {w a v} (h : Kept o s) : Kept o (Machine.snpWrite s w a v).1 :=
  Kept.iteFst h.stgPageWrite (Kept.iteFst (Kept.iteFst h.sprRegWrite h) (Kept.iteFst (h.stateIf (fun _ h => h.snpArm))
    (Kept.iteFst (h.stateIf (fun _ h => h.snapTrigger)) (Kept.iteFst h.snpDbgWrite h.store))))

theorem Kept.fabWrite {a v} (h : Kept o s) : Kept o (Machine.fabWrite s a v) := h.fenceSet.ite (h.fenceClr.ite h.store)

theorem Kept.passCmd {w v} (h : Kept o s) : Kept o (Machine.passCmd s w v) :=
  (h.stateIf (fun _ h => h.passStart)).when fun h => h.draw.passAbort

theorem Kept.memWriteReg {w a v} (h : Kept o s) : Kept o (Machine.memWriteReg s w a v).1 :=
  Kept.iteFst (Kept.iteFst h (Kept.iteFst h.rgnShadowWrite (Kept.iteFst h.rgnCfgWrite h.store))) (Kept.iteFst h.passCmd
    (Kept.iteFst (h.stateIf (fun _ h => h.store)) h.store))

theorem Kept.tshareWrite {w eng c a v} (h : Kept o s) : Kept o (Machine.tshareWrite s w eng c a v).1 :=
  Kept.iteFst h (Kept.iteFst h h.store)

theorem Kept.seWrite {w eng a v} (h : Kept o s) : Kept o (Machine.seWrite s w eng a v).1 :=
  Kept.iteFst h.tshareWrite (Kept.iteFst (Kept.iteFst h.haltRelease h) (Kept.iteFst (h.stateIf (fun _ h => h.emuCancel))
    (Kept.iteFst ((h.stateIf (fun _ h => h.icuLock)).stateIf (fun _ h => h.icuCancel)) (Kept.iteFst (h.stateIf
    (fun _ h => h.store)) h.store))))

/-! ### Register writes of the units -/

theorem Kept.webRegWrite {n a v} (h : Kept o s) : Kept o (Machine.webRegWrite s n a v) :=
  (h.store.ite (h.webEnable.ite h.webDisable)).ite (((h.stateIf (fun _ h => h.posClrcnt)).cmdErr.ite (((h.stateIf
    (fun _ h => h.posClrcnt)).stateIf (fun _ h => h.posSet)).stateIf (fun _ h => h.posResume))).ite h.store)

theorem Kept.markRegWrite {k a v} (h : Kept o s) : Kept o (Machine.markRegWrite s k a v) := h.markCtl.ite (h.ite h.store)

theorem Kept.posWrite {a v} (h : Kept o s) : Kept o (Machine.posWrite s a v) :=
  h.webRegWrite.ite (((h.stateIf (fun _ h => h.tofPop)).ite (h.store.lostLine.ite h.store)).ite (h.markRegWrite.ite
    h.store))

theorem Kept.laneCfgWrite {l v} (h : Kept o s) : Kept o (Machine.laneCfgWrite s l v) := by
  unfold Machine.laneCfgWrite
  refine .ite h (.ite h.store (.ite (.setLinkState (.store (.ite (.linkOff (.ite ?_ h)) (.ite ?_ h)))) (.store (.ite
    (.linkOff (.ite ?_ h)) (.ite ?_ h)))))
  · split
    · exact h.laneFail
    · exact h
  · split
    · exact h.laneFail
    · exact h
  · split
    · exact h.laneFail
    · exact h
  · split
    · exact h.laneFail
    · exact h

theorem Kept.umkWrite {a v} (h : Kept o s) : Kept o (Machine.umkWrite s a v) :=
  h.laneCfgWrite.ite ((h.stateIf (fun _ h => h.store)).ite h.store)

theorem Kept.rngCtlWrite {v} (h : Kept o s) : Kept o (Machine.rngCtlWrite s v) :=
  (h.stateIf (fun _ h => h.setBit)).store.unless fun h => h.fork (fun h => h.ringEnable) fun h => h.ringDisable

theorem Kept.mailboxWrite {d a v} (h : Kept o s) : Kept o (Machine.mailboxWrite s d a v) :=
  (h.store.stateIf (fun _ h => h.setReg)).ite (h.ite (h.setReg.ite ((h.stateIf (fun _ h => h.mailSend)).ite h.store)))

theorem Kept.rngWrite {a v} (h : Kept o s) : Kept o (Machine.rngWrite s a v) :=
  h.rngCtlWrite.ite ((h.stateIf (fun _ h => h.store)).ite ((h.stateIf (fun _ h => h.store)).ite (((h.stateIf
    (fun _ h => h.epochDistribute)).stateIf (fun _ h => h.epochAbort)).ite ((h.stateIf (fun _ h => h.ringSnapSend)).ite
    ((h.stateIf (fun _ h => h.store)).ite (h.mailboxWrite.ite h.store))))))

theorem Kept.spWrite {a v} (h : Kept o s) : Kept o (Machine.spWrite s a v) := h.spCfgWrite.ite h.store

theorem Kept.cpWrite {w a v} (h : Kept o s) : Kept o (Machine.cpWrite s w a v) :=
  h.cpGeomWrite.ite ((h.stateIf (fun _ h => h.cpLoad)).ite (h.domWriteReg.ite h.store))

theorem Kept.tuWrite {w a v} (h : Kept o s) : Kept o (Machine.tuWrite s w a v) :=
  h.tuGeomWrite.ite (((((h.stateIf (fun _ h => h.tuCal)).stateIf (fun _ h => h.tuAbort)).stateIf
    (fun _ h => h.tuLoad)).stateIf (fun _ h => h.tuSave)).ite (h.domWriteReg.ite h.store))

theorem Kept.soCfgWrite {k v} (h : Kept o s) : Kept o (Machine.soCfgWrite s k v) :=
  (h.store.setBit.ite h.store.setBit.upd_plant).soFollow

theorem Kept.moCfgWrite {a v} (h : Kept o s) : Kept o (Machine.moCfgWrite s a v) := h.ite h.store.setBit

theorem Kept.czWrite {z a v} (h : Kept o s) : Kept o (Machine.czWrite s z a v) :=
  h.store.zoneConfigured.ite (h.ovrWrite.ite (h.store.zoneWrite.ite h.store))

theorem Kept.pltWrite {w a v} (h : Kept o s) : Kept o (Machine.pltWrite s w a v).1 :=
  Kept.iteFst (Kept.iteFst h.hbWrite h) (Kept.iteFst (h.store.stateIf (fun _ h => h.lapse)) (Kept.iteFst h.store.soAll
    (Kept.iteFst h.soCfgWrite (Kept.iteFst h.moCfgWrite (Kept.iteFst h.czWrite h.store)))))

theorem Kept.leRegWrite {n a v} (h : Kept o s) : Kept o (Machine.leRegWrite s n a v) :=
  h.leFbin.ite (h.store.leModelWritten.ite (h.ite (((((h.stateIf (fun _ h => h.leReset)).stateIf
    (fun _ h => h.leClrpl)).stateIf (fun _ h => h.leTstart)).stateIf (fun _ h => h.leTstop)).ite h.store)))

theorem Kept.leWrite {a v} (h : Kept o s) : Kept o (Machine.leWrite s a v) :=
  h.leRegWrite.ite (h.ite (((h.stateIf (fun _ h => h.leCapStart)).stateIf (fun _ h => h.leCapStop)).ite h.store))

theorem Kept.vWrite {a v} (h : Kept o s) : Kept o (Machine.vWrite s a v) :=
  h.vCfgWrite.ite ((h.stateIf (fun _ h => h.store)).ite ((h.stateIf (fun _ h => h.store)).ite ((h.stateIf
    (fun _ h => h.vClrtrip)).ite h.store)))

theorem Kept.adcWrite {a v} (h : Kept o s) : Kept o (Machine.adcWrite s a v) :=
  h.adcCtl.ite ((h.stateIf (fun _ h => h.adcCal)).ite ((h.ite (h.store.stateIf (fun _ h => h.adcGo))).ite h.store))

theorem Kept.fanWrite {a v} (h : Kept o s) : Kept o (Machine.fanWrite s a v) :=
  (h.ite h.store).ite ((h.stateIf (fun _ h => h.fanClrfail)).ite h.store)

theorem Kept.dxcfgWrite {v} (h : Kept o s) : Kept o (Machine.dxcfgWrite s v) := (h.ite h.dxDisable).ite h.setReg

theorem Kept.spiWrite {a v} (h : Kept o s) : Kept o (Machine.spiWrite s a v) :=
  h.spiCfgWrite.ite (h.dxcfgWrite.ite (((((h.stateIf (fun _ h => h.spiGo)).stateIf (fun _ h => h.spiAbort)).stateIf
    (fun _ h => h.spiCastle)).stateIf (fun _ h => h.spiReply)).ite h.store))

theorem Kept.bbWrite {a v} (h : Kept o s) : Kept o (Machine.bbWrite s a v) :=
  h.bbCfgWrite.ite (h.ite ((h.stateIf (fun _ h => h.store)).ite ((h.stateIf (fun _ h => h.store)).ite h.store)))

theorem Kept.hibCmd {w v} (h : Kept o s) : Kept o (Machine.hibCmd s w v).1 :=
  Kept.iteFst h (h.stateIf (fun _ h => h.hibEnter))

theorem Kept.aonWrite {w a v} (h : Kept o s) : Kept o (Machine.aonWrite s w a v).1 :=
  Kept.iteFst h.dropLow.rtcWrite (Kept.iteFst (h.stateIf (fun _ h => h.store)) (Kept.iteFst h.tzWrite (Kept.iteFst
    h.store.alarmWritten (Kept.iteFst h.store.zonesRefresh (Kept.iteFst (h.stateIf (fun _ h => h.store)) (Kept.iteFst
    h.wakeCfgWrite (Kept.iteFst h.hibCmd h.store)))))))

/-! ### Control space -/

theorem Kept.pairTake {a first second} (h : Kept o s) : Kept o (Machine.pairTake s a first second) := by
  unfold Machine.pairTake
  dsimp only
  split
  · exact h.rgnPairWrite
  · exact h.setReg.setReg.setBit
  · exact h.leSetPair
  · exact h.vPairWrite
  · exact h.setReg.setReg.ite h.setBit

theorem Kept.pairFirst {w a v} (h : Kept o s) : Kept o (Machine.pairFirst s w a v) := h
theorem Kept.pairSecondWrite {a v} (h : Kept o s) : Kept o (Machine.pairSecondWrite s a v) := h.upd_pairHeld.pairTake

theorem Kept.stagedWrite {w a v} (h : Kept o s) : Kept o (Machine.stagedWrite s w a v).1 := by
  unfold Machine.stagedWrite
  split
  · exact h
  · refine Kept.iteFst h.stagedRefused (Kept.iteFst h ?_)
    refine Kept.iteFst ?_ h.stageChange
    split
    next _ e => exact (h.dropLow.stageChange.ofFst e).stageChange
    next => exact h.dropLow.stageChange

theorem Kept.blockWrite {w b a v} (h : Kept o s) : Kept o (Machine.blockWrite s w b a v).1 := by
  unfold Machine.blockWrite
  split
  · exact h.sysWrite
  · exact h.fcWrite
  · exact h.tmpWrite
  · exact h.calRegWrite
  · exact h.snpWrite
  · exact h.fabWrite
  · exact h.memWriteReg
  · exact h.posWrite
  · exact h.umkWrite
  · exact h.rngWrite
  · exact h.spWrite
  · exact h.cpWrite
  · exact h.tuWrite
  · exact h.pltWrite
  · exact h.leWrite
  · exact h.vWrite
  · exact h.adcWrite
  · exact h.fanWrite
  · exact h.spiWrite
  · exact h.bbWrite
  · exact h.aonWrite
  · exact Kept.iteFst h.seWrite h.store

theorem Kept.ctlWrite {w a v} (h : Kept o s) : Kept o (Machine.ctlWrite s w a v).1 := by
  unfold Machine.ctlWrite
  split
  · exact h
  · exact Kept.iteFst h (Kept.iteFst h.stagedWrite (Kept.iteFst (Kept.iteFst h.pairFirst h) (Kept.iteFst (Kept.iteFst
      h.pairSecondWrite h) h.blockWrite)))
  · exact h

theorem Kept.ctlAccess {w a v} (h : Kept o s) : Kept o (Machine.ctlAccess s w a v).1 := Kept.iteFst h.ctlWrite h

theorem Kept.execRegisterWrite {who addr value} {s : State} (h : Kept o s) :
    NextKept o (Machine.execRegisterWrite who addr value s) :=
  .next h.ctlAccess.respond

theorem Kept.execStagedRegisterWrite {who addr value} {s : State} (h : Kept o s) :
    NextKept o (Machine.execStagedRegisterWrite who addr value s) :=
  .next (h.ctlAccess.respond.ite h)

theorem Kept.execPairFirstWrite {who addr value} {s : State} (h : Kept o s) :
    NextKept o (Machine.execPairFirstWrite who addr value s) :=
  .next (h.ctlAccess.respond.ite h)

theorem Kept.execPairSecondWrite {who addr value} {s : State} (h : Kept o s) :
    NextKept o (Machine.execPairSecondWrite who addr value s) :=
  .next (h.ctlAccess.respond.ite h)

theorem Kept.execReg64LowRead {who addr} {s : State} (h : Kept o s) :
    NextKept o (Machine.execReg64LowRead who addr s) := by
  refine .next (.ite h (.ite h.respond ?_))
  split
  next _ e => exact (h.ctlRead.ofSnd e).upd_out
  next _ e => exact (h.ctlRead.ofSnd e).respond

/-! ### Accesses of a seat -/

theorem Kept.storeErrors {p n} (h : Kept o s) : Kept o (Machine.storeErrors s p n) :=
  h.ite ((h.raise.ite h).ite (h.upd_storePoison.raise.ite h.upd_storePoison))

theorem Kept.pageErr {eng} (h : Kept o s) : Kept o (Machine.pageErr s eng) := h.pageErrors.ite h.storeErrors

theorem Kept.seatStoreWrite {k bs} (h : Kept o s) : Kept o (Machine.seatStoreWrite s k bs) :=
  h.storeWrite.liveOff.ite h.storeWrite

theorem Kept.placeRead {i p n} (h : Kept o s) : OptKept o Prod.snd (Machine.placeRead s i p n) := by
  unfold Machine.placeRead
  split
  · rintro _ e
    obtain ⟨_, -, rfl⟩ := Option.map_eq_some_iff.mp e
    exact h
  · refine .ite ?_ .none
    split
    next e => exact .some (h.ctlRead.ofSnd e)
    · exact .none
  · exact .ite (.some h) .none
  · exact h.dxRead
  · exact .none

theorem Kept.placeWrite {i p bs} (h : Kept o s) : OptKept o id (Machine.placeWrite s i p bs) := by
  unfold Machine.placeWrite
  split
  · exact h.memWrite
  · refine .ite ?_ .none
    split
    next e => exact .some (h.ctlWrite.ofFst e)
    · exact .none
  · exact .some h.seatStoreWrite
  · exact .none

theorem Kept.seatRead {i w off n align need} (h : Kept o s) :
    ExcKept o (fun r => r.2.1) (Machine.seatRead s i w off n align need) := by
  unfold Machine.seatRead
  dsimp only
  split
  · exact .error
  · split
    next e => exact .ok (h.placeRead.of e)
    · exact .error

theorem Kept.seatWrite {i w off align bs} (h : Kept o s) : ExcKept o Prod.fst (Machine.seatWrite s i w off align bs) := by
  unfold Machine.seatWrite
  dsimp only
  split
  · exact .error
  · split
    next _ e => exact .ok (h.placeWrite.of e)
    · exact .error

theorem Kept.await {i len win off kind size touch r} (h : Kept o s) :
    Kept o (Machine.await s i len win off kind size touch r) :=
  h.stall

theorem Kept.storeOut {i len io} (h : Kept o s) : Kept o (Machine.storeOut s i len io) := h.retire

theorem Kept.accessReturn {i f errs} (h : Kept o s) : Kept o (Machine.accessReturn s i f errs) :=
  h.unstall.trapAccess.ite ((h.each (fun _ _ h => h.pageErr)).unstall.trapAccess.ite (h.each
    (fun _ _ h => h.pageErr)).unstall)

theorem Kept.execSeatAccessComplete {seat errs} {s : State} (h : Kept o s) :
    NextKept o (Machine.execSeatAccessComplete seat errs s) := by
  unfold Machine.execSeatAccessComplete
  refine .next ?_
  split
  · exact h.modSeat.ite h.accessReturn
  · exact h.modSeat

theorem Kept.execTenantAccessReturn {seat late errs} {s : State} (h : Kept o s) :
    NextKept o (Machine.execTenantAccessReturn seat late errs s) := by
  unfold Machine.execTenantAccessReturn
  refine .next (.ite ((h.count.ite h).modSeat) ?_)
  split
  · exact (h.count.ite h).accessReturn.ite h
  · exact h

theorem Kept.orderedIssue {i n body} (h : Kept o s) (hbody : ∀ t, Kept o t → Kept o (body t)) :
    Kept o (Machine.orderedIssue s i n body) :=
  h.ite (h.issue (fun _ h => hbody _ h))

/-! ### CCU -/

theorem Kept.execCcuWorkStart {eng} {s : State} (h : Kept o s) : NextKept o (Machine.execCcuWorkStart eng s) := by
  unfold Machine.execCcuWorkStart
  refine .next ?_
  split
  · exact h.ite (h.completeWork.ite h.modWork)
  · exact h

theorem Kept.execCcuLine {eng} {s : State} (h : Kept o s) : NextKept o (Machine.execCcuLine eng s) := by
  unfold Machine.execCcuLine
  refine .next ?_
  split
  · refine .ite h ?_
    dsimp only
    split
    · exact h.completeWork
    · split
      · exact h.completeWork
      next e =>
        have h := h.slotWrite.of e
        exact h.modWork.countMod.completeWork.ite h.modWork.countMod
  · exact h

/-! ### Ethernet -/

theorem Kept.execEthFrameRx {group f} {s : State} (h : Kept o s) : NextKept o (Machine.execEthFrameRx group f s) :=
  .next (h.ite (h.count.ite (h.count.ite (h.count.ite h.count))))

theorem Kept.execEthArpRequest {group targetIp senderIp senderMac} {s : State} (h : Kept o s) :
    NextKept o (Machine.execEthArpRequest group targetIp senderIp senderMac s) :=
  .next (h.count.upd_out.ite h)

theorem Kept.execEthLinkUp {group} {s : State} (h : Kept o s) : NextKept o (Machine.execEthLinkUp group s) :=
  .next (h.ite (h.setBit.setBit.each (fun _ _ h => h.setLinkState.ite h)))

theorem Kept.execEthLinkDown {group} {s : State} (h : Kept o s) : NextKept o (Machine.execEthLinkDown group s) :=
  .next (h.ite ((h.setBit.setBit.each (fun _ _ h => h.linkDown.ite h)).when fun h => h.raise))

/-! ### Host requests and the debug register -/

theorem Kept.readCells {errs cs bs} (h : Kept o s) : Kept o (Machine.readCells errs cs s bs).1 := by
  induction cs generalizing s errs bs with
  | nil => exact h
  | cons c cs ih =>
    unfold Machine.readCells
    extract_lets s₁
    have hread : Kept o s₁ := h.each fun _ _ h => h.pageErr
    split
    · exact ih hread
    · exact hread

theorem Kept.writeCells {cs bs done} (h : Kept o s) : Kept o (Machine.writeCells cs bs s done).1 := by
  induction cs generalizing s bs done with
  | nil => exact h
  | cons c cs ih =>
    unfold Machine.writeCells
    split
    next e => exact ih (h.memWrite.of e)
    · exact h

theorem Kept.hostPerformRead {port r errs} (h : Kept o s) : Kept o (Machine.hostPerformRead s port r errs).1 := by
  unfold Machine.hostPerformRead
  refine .iteFst ?_ h.readCells
  split
  next e => exact h.ctlRead.ofSnd e
  next e => exact h.ctlRead.ofSnd e

theorem Kept.hostPerformWrite {port r data} (h : Kept o s) : Kept o (Machine.hostPerformWrite s port r data).1 := by
  unfold Machine.hostPerformWrite
  refine .iteFst ?_ h.writeCells
  split
  next e => exact h.ctlWrite.ofFst e
  next e => exact h.ctlWrite.ofFst e

theorem Kept.hostReply {port r st done data} (h : Kept o s) : Kept o (Machine.hostReply s port r st done data) :=
  h.enqueue

theorem Kept.execHostRd {hd payload errs} {s : State} (h : Kept o s) :
    NextKept o (Machine.execHostRd hd payload errs s) := by
  unfold Machine.execHostRd
  refine .next ?_
  split
  next _ e => exact h.receive.ofSnd e
  next _ e =>
    have h := h.receive.ofSnd e
    dsimp only
    split
    · exact h.hostReply
    · exact h.hostPerformRead.hostReply

theorem Kept.execHostWr {hd payload} {s : State} (h : Kept o s) :
    NextKept o (Machine.execHostWr hd payload s) := by
  unfold Machine.execHostWr
  refine .next ?_
  split
  next _ e => exact h.receive.ofSnd e
  next _ e =>
    have h := h.receive.ofSnd e
    dsimp only
    split
    · exact h.hostReply.ite (h.ite h.count)
    · have h := h.hostPerformWrite (port := hd.link) (r := hostReq payload) (data := payload.drop 16)
      exact h.hostReply.ite (h.ite h.count)

theorem Kept.dbgStart {addr data st} (h : Kept o s) : Kept o (Machine.dbgStart s addr data st) := h
theorem Kept.execDbgNop {s : State} (h : Kept o s) : NextKept o (Machine.execDbgNop s) := .next h

theorem Kept.execDbgRead {addr errs} {s : State} (h : Kept o s) :
    NextKept o (Machine.execDbgRead addr errs s) := by
  refine .next ?_
  dsimp only
  refine .ite h (.ite h.dbgStart (.ite ?_ ?_))
  · split
    next _ e => exact (h.ctlRead.ofSnd e).dbgStart
    next _ e => exact (h.ctlRead.ofSnd e).dbgStart
  · split
    · exact h.readErrors.dbgStart
    · exact h.readErrors.dbgStart

theorem Kept.execDbgWrite {addr data} {s : State} (h : Kept o s) :
    NextKept o (Machine.execDbgWrite addr data s) := by
  refine .next ?_
  dsimp only
  refine .ite h (.ite h.dbgStart (.ite ?_ ?_))
  · split
    next _ e => exact (h.ctlWrite.ofFst e).dbgStart
    next _ e => exact (h.ctlWrite.ofFst e).dbgStart
  · split
    next _ e => exact (h.memWrite.of e).dbgStart
    next => exact h.dbgStart

theorem Kept.dbgHaltSeat {i} (h : Kept o s) : Kept o (Machine.dbgHaltSeat s i) := by
  unfold Machine.dbgHaltSeat
  split
  · exact h.setSeatSt
  · exact h
  · exact h

theorem Kept.execDbgHalt {addr} {s : State} (h : Kept o s) : NextKept o (Machine.execDbgHalt addr s) :=
  .next (h.ite ((h.dbgHaltSeat.dbgStart.ite h.dbgStart).ite (h.dbgStart.ite h.dbgHaltSeat.dbgStart)))

theorem Kept.execDbgRelease {addr} {s : State} (h : Kept o s) : NextKept o (Machine.execDbgRelease addr s) :=
  .next (h.ite (h.dbgStart.ite (h.setSeatSt.ite h).dbgStart))

theorem Kept.execDbgCommandDone {s : State} (h : Kept o s) : NextKept o (Machine.execDbgCommandDone s) := by
  unfold Machine.execDbgCommandDone
  refine .next ?_
  split
  · exact h
  · exact h

/-! ### Vector instructions -/

theorem Kept.vecIssue {i n w p ew f} (h : Kept o s) : Kept o (Machine.vecIssue i n w p ew f s) := by
  unfold Machine.vecIssue
  refine .issue h (fun _ h => .zvOnly h (fun _ h => .ite h.trap ?_))
  split
  · exact h.retire
  · exact h.retire

theorem Kept.vop {fn op i vd va vb p ew} (h : Kept o s) : Kept o (Machine.vop fn op i vd va vb p ew s) := h.vecIssue

theorem Kept.execVadd {seat vd va vb p ew} {s : State} (h : Kept o s) :
    NextKept o (Machine.execVadd seat vd va vb p ew s) :=
  .next h.vop

theorem Kept.execVsub {seat vd va vb p ew} {s : State} (h : Kept o s) :
    NextKept o (Machine.execVsub seat vd va vb p ew s) :=
  .next h.vop

theorem Kept.execVmul {seat vd va vb p ew} {s : State} (h : Kept o s) :
    NextKept o (Machine.execVmul seat vd va vb p ew s) :=
  .next h.vop

theorem Kept.execVmulh {seat vd va vb p ew} {s : State} (h : Kept o s) :
    NextKept o (Machine.execVmulh seat vd va vb p ew s) :=
  .next h.vop

theorem Kept.execVmulhu {seat vd va vb p ew} {s : State} (h : Kept o s) :
    NextKept o (Machine.execVmulhu seat vd va vb p ew s) :=
  .next h.vop

theorem Kept.execVand {seat vd va vb p ew} {s : State} (h : Kept o s) :
    NextKept o (Machine.execVand seat vd va vb p ew s) :=
  .next h.vop

theorem Kept.execVor {seat vd va vb p ew} {s : State} (h : Kept o s) :
    NextKept o (Machine.execVor seat vd va vb p ew s) :=
  .next h.vop

theorem Kept.execVxor {seat vd va vb p ew} {s : State} (h : Kept o s) :
    NextKept o (Machine.execVxor seat vd va vb p ew s) :=
  .next h.vop

theorem Kept.execVsll {seat vd va vb p ew} {s : State} (h : Kept o s) :
    NextKept o (Machine.execVsll seat vd va vb p ew s) :=
  .next h.vop

theorem Kept.execVsrl {seat vd va vb p ew} {s : State} (h : Kept o s) :
    NextKept o (Machine.execVsrl seat vd va vb p ew s) :=
  .next h.vop

theorem Kept.execVsra {seat vd va vb p ew} {s : State} (h : Kept o s) :
    NextKept o (Machine.execVsra seat vd va vb p ew s) :=
  .next h.vop

theorem Kept.execVmin {seat vd va vb p ew} {s : State} (h : Kept o s) :
    NextKept o (Machine.execVmin seat vd va vb p ew s) :=
  .next h.vop

theorem Kept.execVmax {seat vd va vb p ew} {s : State} (h : Kept o s) :
    NextKept o (Machine.execVmax seat vd va vb p ew s) :=
  .next h.vop

theorem Kept.execVminu {seat vd va vb p ew} {s : State} (h : Kept o s) :
    NextKept o (Machine.execVminu seat vd va vb p ew s) :=
  .next h.vop

theorem Kept.execVmaxu {seat vd va vb p ew} {s : State} (h : Kept o s) :
    NextKept o (Machine.execVmaxu seat vd va vb p ew s) :=
  .next h.vop

theorem Kept.execVaddss {seat vd va vb p ew} {s : State} (h : Kept o s) :
    NextKept o (Machine.execVaddss seat vd va vb p ew s) :=
  .next h.vop

theorem Kept.execVaddsu {seat vd va vb p ew} {s : State} (h : Kept o s) :
    NextKept o (Machine.execVaddsu seat vd va vb p ew s) :=
  .next h.vop

theorem Kept.execVsubss {seat vd va vb p ew} {s : State} (h : Kept o s) :
    NextKept o (Machine.execVsubss seat vd va vb p ew s) :=
  .next h.vop

theorem Kept.execVsubsu {seat vd va vb p ew} {s : State} (h : Kept o s) :
    NextKept o (Machine.execVsubsu seat vd va vb p ew s) :=
  .next h.vop

theorem Kept.execVavgu {seat vd va vb p ew} {s : State} (h : Kept o s) :
    NextKept o (Machine.execVavgu seat vd va vb p ew s) :=
  .next h.vop

theorem Kept.execVabsdu {seat vd va vb p ew} {s : State} (h : Kept o s) :
    NextKept o (Machine.execVabsdu seat vd va vb p ew s) :=
  .next h.vop

theorem Kept.vcmp {fn op i pd va vb p ew} (h : Kept o s) : Kept o (Machine.vcmp fn op i pd va vb p ew s) := h.vecIssue

theorem Kept.execVcmpEq {seat pd va vb p ew} {s : State} (h : Kept o s) :
    NextKept o (Machine.execVcmpEq seat pd va vb p ew s) :=
  .next h.vcmp

theorem Kept.execVcmpNe {seat pd va vb p ew} {s : State} (h : Kept o s) :
    NextKept o (Machine.execVcmpNe seat pd va vb p ew s) :=
  .next h.vcmp

theorem Kept.execVcmpLt {seat pd va vb p ew} {s : State} (h : Kept o s) :
    NextKept o (Machine.execVcmpLt seat pd va vb p ew s) :=
  .next h.vcmp

theorem Kept.execVcmpGe {seat pd va vb p ew} {s : State} (h : Kept o s) :
    NextKept o (Machine.execVcmpGe seat pd va vb p ew s) :=
  .next h.vcmp

theorem Kept.execVcmpLtu {seat pd va vb p ew} {s : State} (h : Kept o s) :
    NextKept o (Machine.execVcmpLtu seat pd va vb p ew s) :=
  .next h.vcmp

theorem Kept.execVcmpGeu {seat pd va vb p ew} {s : State} (h : Kept o s) :
    NextKept o (Machine.execVcmpGeu seat pd va vb p ew s) :=
  .next h.vcmp

theorem Kept.execVmv {seat vd va p ew} {s : State} (h : Kept o s) : NextKept o (Machine.execVmv seat vd va p ew s) :=
  .next h.vecIssue

theorem Kept.execVbcast {seat vd sa p ew} {s : State} (h : Kept o s) :
    NextKept o (Machine.execVbcast seat vd sa p ew s) :=
  .next h.vecIssue

theorem Kept.execVext {seat sd va sb p ew} {s : State} (h : Kept o s) :
    NextKept o (Machine.execVext seat sd va sb p ew s) :=
  .next h.vecIssue

theorem Kept.execVins {seat vd sa sb p ew} {s : State} (h : Kept o s) :
    NextKept o (Machine.execVins seat vd sa sb p ew s) :=
  .next h.vecIssue

theorem Kept.execVslideup {seat vd va sb p ew} {s : State} (h : Kept o s) :
    NextKept o (Machine.execVslideup seat vd va sb p ew s) :=
  .next h.vecIssue

theorem Kept.execVslidedn {seat vd va sb p ew} {s : State} (h : Kept o s) :
    NextKept o (Machine.execVslidedn seat vd va sb p ew s) :=
  .next h.vecIssue

theorem Kept.execVperm {seat vd va vb p ew} {s : State} (h : Kept o s) :
    NextKept o (Machine.execVperm seat vd va vb p ew s) :=
  .next h.vecIssue

theorem Kept.execVredsum {seat sd va p ew} {s : State} (h : Kept o s) :
    NextKept o (Machine.execVredsum seat sd va p ew s) :=
  .next h.vecIssue

theorem Kept.execVredsumu {seat sd va p ew} {s : State} (h : Kept o s) :
    NextKept o (Machine.execVredsumu seat sd va p ew s) :=
  .next h.vecIssue

theorem Kept.execVredmin {seat sd va p ew} {s : State} (h : Kept o s) :
    NextKept o (Machine.execVredmin seat sd va p ew s) :=
  .next h.vecIssue

theorem Kept.execVredmax {seat sd va p ew} {s : State} (h : Kept o s) :
    NextKept o (Machine.execVredmax seat sd va p ew s) :=
  .next h.vecIssue

theorem Kept.execVredminu {seat sd va p ew} {s : State} (h : Kept o s) :
    NextKept o (Machine.execVredminu seat sd va p ew s) :=
  .next h.vecIssue

theorem Kept.execVredmaxu {seat sd va p ew} {s : State} (h : Kept o s) :
    NextKept o (Machine.execVredmaxu seat sd va p ew s) :=
  .next h.vecIssue

theorem Kept.execVmulsrL {seat vd va vb p ew sh uns sat} {s : State} (h : Kept o s) :
    NextKept o (Machine.execVmulsrL seat vd va vb p ew sh uns sat s) :=
  .next (h.vecIssue.ite (h.issue (fun _ h => h.trap)))

theorem Kept.predOp {i w f} (h : Kept o s) : Kept o (Machine.predOp i w f s) :=
  h.issue (fun _ h => h.zvOnly (fun _ h => h.retire))

theorem Kept.execPand {seat pd pa pb} {s : State} (h : Kept o s) : NextKept o (Machine.execPand seat pd pa pb s) :=
  .next h.predOp

theorem Kept.execPor {seat pd pa pb} {s : State} (h : Kept o s) : NextKept o (Machine.execPor seat pd pa pb s) :=
  .next h.predOp

theorem Kept.execPxor {seat pd pa pb} {s : State} (h : Kept o s) : NextKept o (Machine.execPxor seat pd pa pb s) :=
  .next h.predOp

theorem Kept.execPandn {seat pd pa pb} {s : State} (h : Kept o s) : NextKept o (Machine.execPandn seat pd pa pb s) :=
  .next h.predOp

theorem Kept.execPnot {seat pd pa} {s : State} (h : Kept o s) : NextKept o (Machine.execPnot seat pd pa s) :=
  .next h.predOp

theorem Kept.execPset {seat pd} {s : State} (h : Kept o s) : NextKept o (Machine.execPset seat pd s) := .next h.predOp
theorem Kept.execPclr {seat pd} {s : State} (h : Kept o s) : NextKept o (Machine.execPclr seat pd s) := .next h.predOp

theorem Kept.execPcnt {seat sd pa ew} {s : State} (h : Kept o s) : NextKept o (Machine.execPcnt seat sd pa ew s) :=
  .next h.predOp

theorem Kept.execPfirst {seat sd pa ew} {s : State} (h : Kept o s) : NextKept o (Machine.execPfirst seat sd pa ew s) :=
  .next h.predOp

theorem Kept.execSetvl {seat rd ra ew} {s : State} (h : Kept o s) : NextKept o (Machine.execSetvl seat rd ra ew s) :=
  .next h.predOp

/-! ### Window instructions -/

theorem Kept.execWsub {seat wd ws rb rc mask} {s : State} (h : Kept o s) :
    NextKept o (Machine.execWsub seat wd ws rb rc mask s) :=
  .next (h.issue (fun _ h => h.trap.ite h.retire))

theorem Kept.execWload {seat wd sa sb} {s : State} (h : Kept o s) : NextKept o (Machine.execWload seat wd sa sb s) :=
  .next (h.issue (fun _ h => h.hmOnly (fun _ h => h.trap.ite (h.trap.ite h.retire))))

theorem Kept.wrd {seat sd wa fn lo} (h : Kept o s) : Kept o (Machine.wrd seat sd wa fn lo s) :=
  h.issue (fun _ h => h.hmOnly (fun _ h => h.trap.ite h.retire))

theorem Kept.execWrdlo {seat sd wa} {s : State} (h : Kept o s) : NextKept o (Machine.execWrdlo seat sd wa s) :=
  .next h.wrd

theorem Kept.execWrdhi {seat sd wa} {s : State} (h : Kept o s) : NextKept o (Machine.execWrdhi seat sd wa s) :=
  .next h.wrd

theorem Kept.execWget {seat sd wa field} {s : State} (h : Kept o s) : NextKept o (Machine.execWget seat sd wa field s) :=
  .next (h.issue (fun _ h => h.retire))

theorem Kept.execWmov {seat wd wa} {s : State} (h : Kept o s) : NextKept o (Machine.execWmov seat wd wa s) :=
  .next (h.issue (fun _ h => h.retire))

theorem Kept.execWclr {seat wd} {s : State} (h : Kept o s) : NextKept o (Machine.execWclr seat wd s) :=
  .next (h.issue (fun _ h => h.retire))

theorem Kept.execCwload {seat wa which} {s : State} (h : Kept o s) : NextKept o (Machine.execCwload seat wa which s) :=
  .next (h.issue (fun _ h => h.trap.ite (h.hmOnly (fun _ h => h.trap.ite h.retire))))

theorem Kept.execKtset {seat ra rb} {s : State} (h : Kept o s) : NextKept o (Machine.execKtset seat ra rb s) :=
  .next (h.issue (fun _ h => h.hmOnly (fun _ h => h.trap.ite (h.trap.ite h.stall))))

theorem Kept.execKtsetRetire {seat} {s : State} (h : Kept o s) : NextKept o (Machine.execKtsetRetire seat s) := by
  unfold Machine.execKtsetRetire
  refine .next ?_
  split
  · exact h.setTag.unstall
  · exact h

/-! ### Loads, stores and atomics -/

theorem Kept.loadAt {i rd w n off f} (h : Kept o s) : Kept o (Machine.loadAt s i rd w n off f) := by
  unfold Machine.loadAt
  split
  · exact h.trapAccess
  next e => exact (h.seatRead.of e).await

theorem Kept.load {i rd w ra imm n f} (h : Kept o s) : Kept o (Machine.load i rd w ra imm n f s) :=
  h.issue (fun _ h => h.loadAt)

theorem Kept.storeAt {i w n off v} (h : Kept o s) : Kept o (Machine.storeAt s i w n off v) := by
  unfold Machine.storeAt
  split
  · exact h.trapAccess
  next _ _ e => exact (h.seatWrite.of e).storeOut

theorem Kept.storeOp {i rs w ra imm n} (h : Kept o s) : Kept o (Machine.storeOp i rs w ra imm n s) :=
  h.issue (fun _ h => h.storeAt)

theorem Kept.execLdb {seat rd w ra imm} {s : State} (h : Kept o s) : NextKept o (Machine.execLdb seat rd w ra imm s) :=
  .next h.load

theorem Kept.execLdh {seat rd w ra imm} {s : State} (h : Kept o s) : NextKept o (Machine.execLdh seat rd w ra imm s) :=
  .next h.load

theorem Kept.execLdw {seat rd w ra imm} {s : State} (h : Kept o s) : NextKept o (Machine.execLdw seat rd w ra imm s) :=
  .next h.load

theorem Kept.execLdd {seat rd w ra imm} {s : State} (h : Kept o s) : NextKept o (Machine.execLdd seat rd w ra imm s) :=
  .next h.load

theorem Kept.execLdbs {seat rd w ra imm} {s : State} (h : Kept o s) : NextKept o (Machine.execLdbs seat rd w ra imm s) :=
  .next h.load

theorem Kept.execLdhs {seat rd w ra imm} {s : State} (h : Kept o s) : NextKept o (Machine.execLdhs seat rd w ra imm s) :=
  .next h.load

theorem Kept.execLdws {seat rd w ra imm} {s : State} (h : Kept o s) : NextKept o (Machine.execLdws seat rd w ra imm s) :=
  .next h.load

theorem Kept.execStb {seat rs w ra imm} {s : State} (h : Kept o s) : NextKept o (Machine.execStb seat rs w ra imm s) :=
  .next h.storeOp

theorem Kept.execSth {seat rs w ra imm} {s : State} (h : Kept o s) : NextKept o (Machine.execSth seat rs w ra imm s) :=
  .next h.storeOp

theorem Kept.execStw {seat rs w ra imm} {s : State} (h : Kept o s) : NextKept o (Machine.execStw seat rs w ra imm s) :=
  .next h.storeOp

theorem Kept.execStd {seat rs w ra imm} {s : State} (h : Kept o s) : NextKept o (Machine.execStd seat rs w ra imm s) :=
  .next h.storeOp

theorem Kept.atom {f i wide rd w ra rb} (h : Kept o s) : Kept o (Machine.atom f i wide rd w ra rb s) := by
  unfold Machine.atom
  refine .orderedIssue h (fun _ h => ?_)
  dsimp only
  split
  · exact h.trapAccess
  · split
    · exact h.trapAccess
    next _ _ e =>
      split
      · exact (h.placeRead.of e).trapAccess
      next _ e' => exact ((h.placeRead.of e).placeWrite.of e').await

theorem Kept.execAtomSwap {seat wide rd w ra rb} {s : State} (h : Kept o s) (ord) :
    NextKept o (Machine.execAtomSwap seat wide ord rd w ra rb s) := .next h.atom

theorem Kept.execAtomAdd {seat wide rd w ra rb} {s : State} (h : Kept o s) (ord) :
    NextKept o (Machine.execAtomAdd seat wide ord rd w ra rb s) :=
  .next h.atom

theorem Kept.execAtomAnd {seat wide rd w ra rb} {s : State} (h : Kept o s) (ord) :
    NextKept o (Machine.execAtomAnd seat wide ord rd w ra rb s) :=
  .next h.atom

theorem Kept.execAtomOr {seat wide rd w ra rb} {s : State} (h : Kept o s) (ord) :
    NextKept o (Machine.execAtomOr seat wide ord rd w ra rb s) :=
  .next h.atom

theorem Kept.execAtomXor {seat wide rd w ra rb} {s : State} (h : Kept o s) (ord) :
    NextKept o (Machine.execAtomXor seat wide ord rd w ra rb s) :=
  .next h.atom

theorem Kept.execAtomMin {seat wide rd w ra rb} {s : State} (h : Kept o s) (ord) :
    NextKept o (Machine.execAtomMin seat wide ord rd w ra rb s) :=
  .next h.atom

theorem Kept.execAtomMax {seat wide rd w ra rb} {s : State} (h : Kept o s) (ord) :
    NextKept o (Machine.execAtomMax seat wide ord rd w ra rb s) :=
  .next h.atom

theorem Kept.execAtomMinu {seat wide rd w ra rb} {s : State} (h : Kept o s) (ord) :
    NextKept o (Machine.execAtomMinu seat wide ord rd w ra rb s) :=
  .next h.atom

theorem Kept.execAtomMaxu {seat wide rd w ra rb} {s : State} (h : Kept o s) (ord) :
    NextKept o (Machine.execAtomMaxu seat wide ord rd w ra rb s) :=
  .next h.atom

theorem Kept.execAtomCas {seat wide rd w ra rb} {s : State} (h : Kept o s) (ord) :
    NextKept o (Machine.execAtomCas seat wide ord rd w ra rb s) :=
  .next h.atom

theorem Kept.execLdAq {seat wide rd w ra} {s : State} (h : Kept o s) :
    NextKept o (Machine.execLdAq seat wide rd w ra s) :=
  .next (h.issue (fun _ h => h.loadAt))

theorem Kept.execStRl {seat wide w ra rb} {s : State} (h : Kept o s) :
    NextKept o (Machine.execStRl seat wide w ra rb s) :=
  .next (h.orderedIssue (fun _ h => h.storeAt))

theorem Kept.vmemIssue {i w p ew f} (h : Kept o s) (hf : ∀ t x0, Kept o t → Kept o (f t x0)) :
    Kept o (Machine.vmemIssue i w p ew f s) := by
  unfold Machine.vmemIssue
  refine .issue h (fun _ h => .zvOnly h (fun _ h => .ite h.trap ?_))
  split
  · exact h.retire
  · exact hf _ _ h

theorem Kept.vloadGo {i w n ew off ks v t} (h : Kept o s) :
    ExcKept o Prod.fst (Machine.vloadGo i w n ew off ks s v t) := by
  induction ks generalizing s v t with
  | nil => exact .ok h
  | cons k ks ih =>
    unfold Machine.vloadGo
    split
    · exact .error
    next e => exact ih (h.seatRead.of e)

theorem Kept.vload {major i vd w ra rb p ew off} (h : Kept o s) :
    Kept o (Machine.vload major i vd w ra rb p ew off s) := by
  unfold Machine.vload
  refine .vmemIssue h (fun _ _ h => ?_)
  dsimp only
  split
  · exact h.trapAccess
  next _ _ _ e => exact (h.vloadGo.of e).await

theorem Kept.vstoreGo {i w n ew off v ks io} (h : Kept o s) : Kept o (Machine.vstoreGo i w n ew off v ks s io).1 := by
  induction ks generalizing s io with
  | nil => exact h
  | cons k ks ih =>
    unfold Machine.vstoreGo
    split
    · exact h
    next e => exact ih (h.seatWrite.of e)

theorem Kept.vstore {major i vd w ra rb p ew off} (h : Kept o s) :
    Kept o (Machine.vstore major i vd w ra rb p ew off s) := by
  refine h.vmemIssue fun t act h => ?_
  dsimp only
  split
  next e => exact (h.vstoreGo.ofFst e).trapAccess
  next e => exact (h.vstoreGo.ofFst e).storeOut

theorem Kept.execVld {seat vd w ra p ew} {s : State} (h : Kept o s) : NextKept o (Machine.execVld seat vd w ra p ew s) :=
  .next h.vload

theorem Kept.execVst {seat vd w ra p ew} {s : State} (h : Kept o s) : NextKept o (Machine.execVst seat vd w ra p ew s) :=
  .next h.vstore

theorem Kept.execVlds {seat vd w ra rb p ew} {s : State} (h : Kept o s) :
    NextKept o (Machine.execVlds seat vd w ra rb p ew s) :=
  .next h.vload

theorem Kept.execVsts {seat vd w ra rb p ew} {s : State} (h : Kept o s) :
    NextKept o (Machine.execVsts seat vd w ra rb p ew s) :=
  .next h.vstore

theorem Kept.execVldx {seat vd w ra vb p ew} {s : State} (h : Kept o s) :
    NextKept o (Machine.execVldx seat vd w ra vb p ew s) :=
  .next h.vload

theorem Kept.execVstx {seat vd w ra vb p ew} {s : State} (h : Kept o s) :
    NextKept o (Machine.execVstx seat vd w ra vb p ew s) :=
  .next h.vstore

theorem Kept.execWldm {seat wd wa sb} {s : State} (h : Kept o s) : NextKept o (Machine.execWldm seat wd wa sb s) := by
  unfold Machine.execWldm
  refine .next (.issue h fun s h => .hmOnly h fun s h => ?_)
  extract_lets t off
  split
  · exact h.trapAccess
  next e =>
    have h := h.seatRead.of e
    exact .ite h.trap (.ite h.trap h.await)

theorem Kept.execWstm {seat wd wa sb} {s : State} (h : Kept o s) : NextKept o (Machine.execWstm seat wd wa sb s) := by
  unfold Machine.execWstm
  refine .next (.issue h (fun _ h => .hmOnly h (fun _ h => ?_)))
  dsimp only
  split
  · exact h.trapAccess
  · refine .ite h.trap ?_
    split
    · exact h.trapAccess
    next _ _ e => exact (h.seatWrite.of e).storeOut

theorem Kept.copyGo {i wd ws dst src errs n j} (h : Kept o s) : Kept o (Machine.copyGo i wd ws dst src errs n j s).1 := by
  induction n generalizing s errs j with
  | zero => exact h
  | succ n ih =>
    unfold Machine.copyGo
    dsimp only
    split
    · exact h
    next e =>
      refine .iteFst ((h.seatRead.of e).each fun _ _ h => h.pageErr) ?_
      split
      · exact (h.seatRead.of e).each fun _ _ h => h.pageErr
      next e' => exact ih (((h.seatRead.of e).each fun _ _ h => h.pageErr).seatWrite.of e')

theorem Kept.fillGo {i wd dst b n j} (h : Kept o s) : Kept o (Machine.fillGo i wd dst b n j s).1 := by
  induction n generalizing s j with
  | zero => exact h
  | succ n ih =>
    unfold Machine.fillGo
    dsimp only
    split
    · exact h
    next e => exact ih (h.seatWrite.of e)

theorem Kept.blockEnd {r i rd n wd off} (h : Kept o r.1) : Kept o (Machine.blockEnd r i rd n wd off) := by
  unfold Machine.blockEnd
  split
  · exact h.trapAccess
  · exact h.await

theorem Kept.execBcopyL {seat rd wd ws rdo rso rn errs} {s : State} (h : Kept o s) :
    NextKept o (Machine.execBcopyL seat rd wd ws rdo rso rn errs s) :=
  .next (h.issue (fun _ h => h.retire.ite h.copyGo.blockEnd))

theorem Kept.execBfillL {seat rd wd rdo rv rn} {s : State} (h : Kept o s) :
    NextKept o (Machine.execBfillL seat rd wd rdo rv rn s) :=
  .next (h.issue (fun _ h => h.retire.ite h.fillGo.blockEnd))

/-! ### NMU -/

theorem Kept.dclamp {eng} (h : Kept o s) : Kept o (State.dclamp s eng) := h.setBit

theorem Kept.execNmuWorkStart {eng} {s : State} (h : Kept o s) : NextKept o (Machine.execNmuWorkStart eng s) := by
  unfold Machine.execNmuWorkStart
  refine .next ?_
  split
  · refine .ite h (.ite h.completeWork ?_)
    dsimp only
    split
    · exact h.completeWork
    · split
      · exact h.completeWork
      · refine .ite h.completeWork ?_
        split
        · exact h.completeWork
        next e =>
          have hwritten : Kept o _ := ExcKept.from id e (.ite (.ok h) h.slotWrite)
          exact (hwritten.dclamp.ite hwritten).setEng.modWork.setBit
  · exact h

theorem Kept.nmuCompute {eng w y} (h : Kept o s) : ExcKept o Prod.fst (Machine.nmuCompute s eng w y) := by
  unfold Machine.nmuCompute
  split
  · exact .error
  · exact .ok h.count.count

theorem Kept.nmuNext {eng w} (h : Kept o s) : Kept o (Machine.nmuNext s eng w) :=
  h.modWork.setBit.endWork.ite h.modWork.setBit

theorem Kept.nmuFail {eng w st} (h : Kept o s) : Kept o (Machine.nmuFail s eng w st) := h.endWork.setBit

theorem Kept.nmuOwn {eng w y wline depth} (h : Kept o s) : Kept o (Machine.nmuOwn s eng w y wline depth) := by
  unfold Machine.nmuOwn
  refine .ite ?_ (.ite h.setBit ?_)
  · split
    · exact h.nmuFail
    next _ _ e => exact (h.nmuCompute.of e).nmuNext
  · split
    · exact h.nmuFail
    next _ _ e =>
      split
      · exact (h.nmuCompute.of e).nmuFail
      next _ e' =>
        split
        · exact ((h.nmuCompute.of e).slotWrite.of e').nmuFail
        next _ e'' => exact (((h.nmuCompute.of e).slotWrite.of e').slotWrite.of e'').countMod.nmuNext

theorem Kept.nmuShadow {eng w y wline depth} (h : Kept o s) : Kept o (Machine.nmuShadow s eng w y wline depth) := by
  unfold Machine.nmuShadow
  refine .ite h.setBit ?_
  split
  · exact h.nmuFail
  next _ _ e =>
    refine .ite ((h.nmuCompute.of e).nmuNext) ?_
    split
    · exact (h.nmuCompute.of e).nmuFail
    · exact (h.nmuCompute.of e).count.nmuNext.fork (fun h => h.when fun h => h.shadowSuccess) fun h => h.shadowMismatch

theorem Kept.execNmuLine {eng} {s : State} (h : Kept o s) : NextKept o (Machine.execNmuLine eng s) := by
  unfold Machine.execNmuLine
  refine .next ?_
  split
  · refine .ite h ?_
    split
    · exact h.nmuFail
    · exact h.nmuShadow.ite h.nmuOwn
  · exact h

/-! ### Scalar instructions -/

theorem Kept.aluRR {i rd ra rb f} (h : Kept o s) : Kept o (Machine.aluRR i rd ra rb f s) := h.issue (fun _ h => h.retire)
theorem Kept.aluR {i n rd ra f} (h : Kept o s) : Kept o (Machine.aluR i n rd ra f s) := h.issue (fun _ h => h.retire)

theorem Kept.execAdd {seat rd ra rb} {s : State} (h : Kept o s) : NextKept o (Machine.execAdd seat rd ra rb s) :=
  .next h.aluRR

theorem Kept.execSub {seat rd ra rb} {s : State} (h : Kept o s) : NextKept o (Machine.execSub seat rd ra rb s) :=
  .next h.aluRR

theorem Kept.execAnd {seat rd ra rb} {s : State} (h : Kept o s) : NextKept o (Machine.execAnd seat rd ra rb s) :=
  .next h.aluRR

theorem Kept.execOr {seat rd ra rb} {s : State} (h : Kept o s) : NextKept o (Machine.execOr seat rd ra rb s) :=
  .next h.aluRR

theorem Kept.execXor {seat rd ra rb} {s : State} (h : Kept o s) : NextKept o (Machine.execXor seat rd ra rb s) :=
  .next h.aluRR

theorem Kept.execSll {seat rd ra rb} {s : State} (h : Kept o s) : NextKept o (Machine.execSll seat rd ra rb s) :=
  .next h.aluRR

theorem Kept.execSrl {seat rd ra rb} {s : State} (h : Kept o s) : NextKept o (Machine.execSrl seat rd ra rb s) :=
  .next h.aluRR

theorem Kept.execSra {seat rd ra rb} {s : State} (h : Kept o s) : NextKept o (Machine.execSra seat rd ra rb s) :=
  .next h.aluRR

theorem Kept.execSlt {seat rd ra rb} {s : State} (h : Kept o s) : NextKept o (Machine.execSlt seat rd ra rb s) :=
  .next h.aluRR

theorem Kept.execSltu {seat rd ra rb} {s : State} (h : Kept o s) : NextKept o (Machine.execSltu seat rd ra rb s) :=
  .next h.aluRR

theorem Kept.execMul {seat rd ra rb} {s : State} (h : Kept o s) : NextKept o (Machine.execMul seat rd ra rb s) :=
  .next h.aluRR

theorem Kept.execMulhs {seat rd ra rb} {s : State} (h : Kept o s) : NextKept o (Machine.execMulhs seat rd ra rb s) :=
  .next h.aluRR

theorem Kept.execMulhu {seat rd ra rb} {s : State} (h : Kept o s) : NextKept o (Machine.execMulhu seat rd ra rb s) :=
  .next h.aluRR

theorem Kept.execDiv {seat rd ra rb} {s : State} (h : Kept o s) : NextKept o (Machine.execDiv seat rd ra rb s) :=
  .next h.aluRR

theorem Kept.execDivu {seat rd ra rb} {s : State} (h : Kept o s) : NextKept o (Machine.execDivu seat rd ra rb s) :=
  .next h.aluRR

theorem Kept.execRem {seat rd ra rb} {s : State} (h : Kept o s) : NextKept o (Machine.execRem seat rd ra rb s) :=
  .next h.aluRR

theorem Kept.execRemu {seat rd ra rb} {s : State} (h : Kept o s) : NextKept o (Machine.execRemu seat rd ra rb s) :=
  .next h.aluRR

theorem Kept.execMin {seat rd ra rb} {s : State} (h : Kept o s) : NextKept o (Machine.execMin seat rd ra rb s) :=
  .next h.aluRR

theorem Kept.execMax {seat rd ra rb} {s : State} (h : Kept o s) : NextKept o (Machine.execMax seat rd ra rb s) :=
  .next h.aluRR

theorem Kept.execMinu {seat rd ra rb} {s : State} (h : Kept o s) : NextKept o (Machine.execMinu seat rd ra rb s) :=
  .next h.aluRR

theorem Kept.execMaxu {seat rd ra rb} {s : State} (h : Kept o s) : NextKept o (Machine.execMaxu seat rd ra rb s) :=
  .next h.aluRR

theorem Kept.execClz {seat rd ra} {s : State} (h : Kept o s) : NextKept o (Machine.execClz seat rd ra s) := .next h.aluR
theorem Kept.execPopc {seat rd ra} {s : State} (h : Kept o s) : NextKept o (Machine.execPopc seat rd ra s) := .next h.aluR

theorem Kept.execAddi {seat rd ra imm} {s : State} (h : Kept o s) : NextKept o (Machine.execAddi seat rd ra imm s) :=
  .next h.aluR

theorem Kept.execAndi {seat rd ra imm} {s : State} (h : Kept o s) : NextKept o (Machine.execAndi seat rd ra imm s) :=
  .next h.aluR

theorem Kept.execOri {seat rd ra imm} {s : State} (h : Kept o s) : NextKept o (Machine.execOri seat rd ra imm s) :=
  .next h.aluR

theorem Kept.execXori {seat rd ra imm} {s : State} (h : Kept o s) : NextKept o (Machine.execXori seat rd ra imm s) :=
  .next h.aluR

theorem Kept.execSlti {seat rd ra imm} {s : State} (h : Kept o s) : NextKept o (Machine.execSlti seat rd ra imm s) :=
  .next h.aluR

theorem Kept.execSltiu {seat rd ra imm} {s : State} (h : Kept o s) : NextKept o (Machine.execSltiu seat rd ra imm s) :=
  .next h.aluR

theorem Kept.execSlli {seat rd ra amount} {s : State} (h : Kept o s) :
    NextKept o (Machine.execSlli seat rd ra amount s) :=
  .next h.aluR

theorem Kept.execSrli {seat rd ra amount} {s : State} (h : Kept o s) :
    NextKept o (Machine.execSrli seat rd ra amount s) :=
  .next h.aluR

theorem Kept.execSrai {seat rd ra amount} {s : State} (h : Kept o s) :
    NextKept o (Machine.execSrai seat rd ra amount s) :=
  .next h.aluR

theorem Kept.execLui {seat rd imm} {s : State} (h : Kept o s) : NextKept o (Machine.execLui seat rd imm s) := .next h.aluR
theorem Kept.execLiL {seat rd imm} {s : State} (h : Kept o s) : NextKept o (Machine.execLiL seat rd imm s) := .next h.aluR

theorem Kept.execLihL {seat rd imm} {s : State} (h : Kept o s) : NextKept o (Machine.execLihL seat rd imm s) :=
  .next h.aluR

theorem Kept.execAddiL {seat rd ra imm} {s : State} (h : Kept o s) : NextKept o (Machine.execAddiL seat rd ra imm s) :=
  .next h.aluR

theorem Kept.branch {i ra rb off c} (h : Kept o s) : Kept o (Machine.branch i ra rb off c s) :=
  h.issue (fun _ h => h.modSeat)

theorem Kept.execBeq {seat ra rb off} {s : State} (h : Kept o s) : NextKept o (Machine.execBeq seat ra rb off s) :=
  .next h.branch

theorem Kept.execBne {seat ra rb off} {s : State} (h : Kept o s) : NextKept o (Machine.execBne seat ra rb off s) :=
  .next h.branch

theorem Kept.execBlt {seat ra rb off} {s : State} (h : Kept o s) : NextKept o (Machine.execBlt seat ra rb off s) :=
  .next h.branch

theorem Kept.execBge {seat ra rb off} {s : State} (h : Kept o s) : NextKept o (Machine.execBge seat ra rb off s) :=
  .next h.branch

theorem Kept.execBltu {seat ra rb off} {s : State} (h : Kept o s) : NextKept o (Machine.execBltu seat ra rb off s) :=
  .next h.branch

theorem Kept.execBgeu {seat ra rb off} {s : State} (h : Kept o s) : NextKept o (Machine.execBgeu seat ra rb off s) :=
  .next h.branch

theorem Kept.execJal {seat rd off} {s : State} (h : Kept o s) : NextKept o (Machine.execJal seat rd off s) :=
  .next (h.issue (fun _ h => h.modSeat))

theorem Kept.execJalr {seat rd ra imm} {s : State} (h : Kept o s) : NextKept o (Machine.execJalr seat rd ra imm s) :=
  .next (h.issue (fun _ h => h.trap.ite h.modSeat))

/-! ### SCU -/

theorem Kept.execScuWorkStart {eng} {s : State} (h : Kept o s) : NextKept o (Machine.execScuWorkStart eng s) := by
  unfold Machine.execScuWorkStart
  refine .next ?_
  split
  · refine .ite h (.ite h.completeWork (.ite h.modWork.setBit ?_))
    split
    · exact h.completeWork
    · exact h.modWork.setBit.ite h.completeWork
  · exact h

theorem Kept.writeRows {w base hdr rows} (h : Kept o s) : ExcKept o id (Machine.writeRows s w base hdr rows) := by
  induction rows generalizing s with
  | nil => exact h.slotWrite
  | cons r rows ih =>
    unfold Machine.writeRows
    split
    next e => exact ih (h.slotWrite.of e)
    · exact .error

theorem Kept.checkpoint {eng w y rows} (h : Kept o s) : Kept o (Machine.checkpoint s eng w y rows) := by
  unfold Machine.checkpoint
  dsimp only
  split
  · exact h.setBit.raise.setEng
  · split
    · exact h.setBit.raise.setEng
    next _ e => exact (h.writeRows.of e).setReg64.setEng.engineCalm

theorem Kept.screenLine {w y} (h : Kept o s) : ExcKept o Prod.fst (Machine.screenLine s w y) := by
  unfold Machine.screenLine
  dsimp only
  split
  · exact .error
  · split
    · exact .error
    · split
      · exact .error
      next _ e =>
        refine .ite ?_ (.ok (h.slotWrite.of e))
        split
        · exact .error
        next _ e' => exact .ok ((h.slotWrite.of e).writeRows.of e')

theorem Kept.execScuLine {eng} {s : State} (h : Kept o s) : NextKept o (Machine.execScuLine eng s) := by
  unfold Machine.execScuLine
  refine .next ?_
  split
  · refine .ite h ?_
    dsimp only
    split
    · exact h.endWork
    next e =>
      have h := h.screenLine.of e
      exact (h.modWork.countMod.checkpoint.ite h.modWork.countMod).endWork.ite
        (h.modWork.countMod.checkpoint.ite h.modWork.countMod)
  · exact h

end

/-! ### Every command and the step -/

theorem Kept.exec {o s : State} (h : Kept o s) (c : Instr) : NextKept o (Machine.exec c s) := by
  cases c with
  | registerWrite => exact h.execRegisterWrite
  | reg64LowRead => exact h.execReg64LowRead
  | pairFirstWrite => exact h.execPairFirstWrite
  | pairSecondWrite => exact h.execPairSecondWrite
  | channelWordSend => exact h.execChannelWordSend
  | channelTimeout => exact h.execChannelTimeout
  | add => exact h.execAdd
  | sub => exact h.execSub
  | and => exact h.execAnd
  | or => exact h.execOr
  | xor => exact h.execXor
  | sll => exact h.execSll
  | srl => exact h.execSrl
  | sra => exact h.execSra
  | slt => exact h.execSlt
  | sltu => exact h.execSltu
  | mul => exact h.execMul
  | mulhs => exact h.execMulhs
  | mulhu => exact h.execMulhu
  | div => exact h.execDiv
  | divu => exact h.execDivu
  | rem => exact h.execRem
  | remu => exact h.execRemu
  | min => exact h.execMin
  | max => exact h.execMax
  | minu => exact h.execMinu
  | maxu => exact h.execMaxu
  | clz => exact h.execClz
  | popc => exact h.execPopc
  | addi => exact h.execAddi
  | andi => exact h.execAndi
  | ori => exact h.execOri
  | xori => exact h.execXori
  | slli => exact h.execSlli
  | srli => exact h.execSrli
  | srai => exact h.execSrai
  | slti => exact h.execSlti
  | sltiu => exact h.execSltiu
  | lui => exact h.execLui
  | liL => exact h.execLiL
  | lihL => exact h.execLihL
  | addiL => exact h.execAddiL
  | beq => exact h.execBeq
  | bne => exact h.execBne
  | blt => exact h.execBlt
  | bge => exact h.execBge
  | bltu => exact h.execBltu
  | bgeu => exact h.execBgeu
  | jal => exact h.execJal
  | jalr => exact h.execJalr
  | ldb => exact h.execLdb
  | ldh => exact h.execLdh
  | ldw => exact h.execLdw
  | ldd => exact h.execLdd
  | ldbs => exact h.execLdbs
  | ldhs => exact h.execLdhs
  | ldws => exact h.execLdws
  | stb => exact h.execStb
  | sth => exact h.execSth
  | stw => exact h.execStw
  | std => exact h.execStd
  | atomSwap _ _ ord => exact h.execAtomSwap ord
  | atomAdd _ _ ord => exact h.execAtomAdd ord
  | atomAnd _ _ ord => exact h.execAtomAnd ord
  | atomOr _ _ ord => exact h.execAtomOr ord
  | atomXor _ _ ord => exact h.execAtomXor ord
  | atomMin _ _ ord => exact h.execAtomMin ord
  | atomMax _ _ ord => exact h.execAtomMax ord
  | atomMinu _ _ ord => exact h.execAtomMinu ord
  | atomMaxu _ _ ord => exact h.execAtomMaxu ord
  | atomCas _ _ ord => exact h.execAtomCas ord
  | ldAq => exact h.execLdAq
  | stRl => exact h.execStRl
  | vadd => exact h.execVadd
  | vsub => exact h.execVsub
  | vmul => exact h.execVmul
  | vmulh => exact h.execVmulh
  | vmulhu => exact h.execVmulhu
  | vand => exact h.execVand
  | vor => exact h.execVor
  | vxor => exact h.execVxor
  | vsll => exact h.execVsll
  | vsrl => exact h.execVsrl
  | vsra => exact h.execVsra
  | vmin => exact h.execVmin
  | vmax => exact h.execVmax
  | vminu => exact h.execVminu
  | vmaxu => exact h.execVmaxu
  | vaddss => exact h.execVaddss
  | vaddsu => exact h.execVaddsu
  | vsubss => exact h.execVsubss
  | vsubsu => exact h.execVsubsu
  | vavgu => exact h.execVavgu
  | vabsdu => exact h.execVabsdu
  | vcmpEq => exact h.execVcmpEq
  | vcmpNe => exact h.execVcmpNe
  | vcmpLt => exact h.execVcmpLt
  | vcmpGe => exact h.execVcmpGe
  | vcmpLtu => exact h.execVcmpLtu
  | vcmpGeu => exact h.execVcmpGeu
  | vmv => exact h.execVmv
  | vbcast => exact h.execVbcast
  | vext => exact h.execVext
  | vins => exact h.execVins
  | vslideup => exact h.execVslideup
  | vslidedn => exact h.execVslidedn
  | vperm => exact h.execVperm
  | vredsum => exact h.execVredsum
  | vredsumu => exact h.execVredsumu
  | vredmin => exact h.execVredmin
  | vredmax => exact h.execVredmax
  | vredminu => exact h.execVredminu
  | vredmaxu => exact h.execVredmaxu
  | vmulsrL => exact h.execVmulsrL
  | vld => exact h.execVld
  | vst => exact h.execVst
  | vlds => exact h.execVlds
  | vsts => exact h.execVsts
  | vldx => exact h.execVldx
  | vstx => exact h.execVstx
  | pand => exact h.execPand
  | por => exact h.execPor
  | pxor => exact h.execPxor
  | pandn => exact h.execPandn
  | pnot => exact h.execPnot
  | pset => exact h.execPset
  | pclr => exact h.execPclr
  | pcnt => exact h.execPcnt
  | pfirst => exact h.execPfirst
  | setvl => exact h.execSetvl
  | wsub => exact h.execWsub
  | wload => exact h.execWload
  | wrdlo => exact h.execWrdlo
  | wrdhi => exact h.execWrdhi
  | wget => exact h.execWget
  | wmov => exact h.execWmov
  | wclr => exact h.execWclr
  | wldm => exact h.execWldm
  | wstm => exact h.execWstm
  | cwload => exact h.execCwload
  | ktset => exact h.execKtset
  | ktsetRetire => exact h.execKtsetRetire
  | bcopyL => exact h.execBcopyL
  | bfillL => exact h.execBfillL
  | call => exact h.execCall
  | brk => exact h.execBreak
  | tret => exact h.execTret
  | seatstop => exact h.execSeatstop
  | plantSeatstopWake => exact h.execPlantSeatstopWake
  | yield => exact h.execYield
  | rdtime => exact h.execRdtime
  | snap => exact h.execSnap
  | scrd => exact h.execScrd
  | scwr => exact h.execScwr
  | scset => exact h.execScset
  | scclr => exact h.execScclr
  | fenceRw => exact h.execFenceRw
  | fenceR => exact h.execFenceR
  | fenceW => exact h.execFenceW
  | fenceIo => exact h.execFenceIo
  | fenceStg => exact h.execFenceStg
  | fenceI => exact h.execFenceI
  | fenceComplete => exact h.execFenceComplete
  | stgL => exact h.execStgL
  | stgAccept => exact h.execStgAccept
  | wpos => exact h.execWpos
  | wposComplete => exact h.execWposComplete
  | tenantAccessReturn => exact h.execTenantAccessReturn
  | takeAsyncEvent => exact h.execTakeAsyncEvent
  | quantumExpiry => exact h.execQuantumExpiry
  | timerExpiry => exact h.execTimerExpiry
  | issueFrameBoundary => exact h.execIssueFrameBoundary
  | haltRelease => exact h.execHaltRelease
  | supplyGoodBoot => exact h.execSupplyGoodBoot
  | runpgRise => exact h.execRunpgRise
  | hostsAttach => exact h.execHostsAttach
  | runpgTimeout => exact h.execRunpgTimeout
  | burnKey => exact h.execBurnKey
  | burnRollback => exact h.execBurnRollback
  | fuseBurnEnd => exact h.execFuseBurnEnd
  | ownerInstall => exact h.execOwnerInstall
  | ownerInstallApply => exact h.execOwnerInstallApply
  | hostRd => exact h.execHostRd
  | hostWr => exact h.execHostWr
  | doorbellWrite => exact h.execDoorbellWrite
  | dbrouteWrite => exact h.execDbrouteWrite
  | seatcmdStart => exact h.execSeatcmdStart
  | seatcmdStop => exact h.execSeatcmdStop
  | seatStopBoundary => exact h.execSeatStopBoundary
  | seatcmdPreempt => exact h.execSeatcmdPreempt
  | seatcmdUnassigned => exact h.execSeatcmdUnassigned
  | nqCtlWrite => exact h.execNqCtlWrite
  | throttleGraceEnd => exact h.execThrottleGraceEnd
  | throttleRemeasure => exact h.execThrottleRemeasure
  | fabricMessage => exact h.execFabricMessage
  | linkCellFail => exact h.execLinkCellFail
  | fabFenceSet => exact h.execFabFenceSet
  | fabFenceClr => exact h.execFabFenceClr
  | pageLockRequest => exact h.execPageLockRequest
  | pageUnlock => exact h.execPageUnlock
  | pageLockExpiry => exact h.execPageLockExpiry
  | scrubPage => exact h.execScrubPage
  | memPassStart => exact h.execMemPassStart
  | memPassAbort => exact h.execMemPassAbort
  | memPassDone => exact h.execMemPassDone
  | mirrorEnable => exact h.execMirrorEnable
  | mirrorDisable => exact h.execMirrorDisable
  | resilverDone => exact h.execResilverDone
  | regionStrengthWrite => exact h.execRegionStrengthWrite
  | reencodeDone => exact h.execReencodeDone
  | encEdge => exact h.execEncEdge
  | encIndexEdge => exact h.execEncIndexEdge
  | edgeSynthesis => exact h.execEdgeSynthesis
  | positionBroadcast => exact h.execPositionBroadcast
  | webEnable => exact h.execWebEnable
  | webDisable => exact h.execWebDisable
  | posSet => exact h.execPosSet
  | posResume => exact h.execPosResume
  | posClrcnt => exact h.execPosClrcnt
  | tofEdge => exact h.execTofEdge
  | tofPop => exact h.execTofPop
  | markCtlWrite => exact h.execMarkCtlWrite
  | psamplePublish => exact h.execPsamplePublish
  | ringSampleTimeout => exact h.execRingSampleTimeout
  | lcuWorkStart => exact h.execLcuWorkStart
  | lcuReadyPoll => exact h.execLcuReadyPoll
  | lcuBoundaryDecision => exact h.execLcuBoundaryDecision
  | lcuLine => exact h.execLcuLine
  | ccuWorkStart => exact h.execCcuWorkStart
  | ccuLine => exact h.execCcuLine
  | scuWorkStart => exact h.execScuWorkStart
  | scuLine => exact h.execScuLine
  | nmuWorkStart => exact h.execNmuWorkStart
  | nmuLine => exact h.execNmuLine
  | emuWorkStart => exact h.execEmuWorkStart
  | emuLineDue => exact h.execEmuLineDue
  | emuFire => exact h.execEmuFire
  | emuWebHalt => exact h.execEmuWebHalt
  | emuCancel => exact h.execEmuCancel
  | icuWorkStart => exact h.execIcuWorkStart
  | gvspPacket => exact h.execGvspPacket
  | icuLineCompare => exact h.execIcuLineCompare
  | icuLineTimeout => exact h.execIcuLineTimeout
  | icuEvaluate => exact h.execIcuEvaluate
  | icuLock => exact h.execIcuLock
  | icuLockDone => exact h.execIcuLockDone
  | icuAdjWrite => exact h.execIcuAdjWrite
  | icuCancel => exact h.execIcuCancel
  | icuStreamStale => exact h.execIcuStreamStale
  | stagedRegisterWrite => exact h.execStagedRegisterWrite
  | stageCommit => exact h.execStageCommit
  | stageArm => exact h.execStageArm
  | loadListDone => exact h.execLoadListDone
  | stageCancel => exact h.execStageCancel
  | stageDiscard => exact h.execStageDiscard
  | sprRotate => exact h.execSprRotate
  | rotationDue => exact h.execRotationDue
  | sprAbort => exact h.execSprAbort
  | sprRetest => exact h.execSprRetest
  | sprFail => exact h.execSprFail
  | shadowTimeout => exact h.execShadowTimeout
  | handoff => exact h.execHandoff
  | selfTestEnd => exact h.execSelfTestEnd
  | emissionWatchdog => exact h.execEmissionWatchdog
  | engineFatalError => exact h.execEngineFatalError
  | recoverComplete => exact h.execRecoverComplete
  | sprRecWrite => exact h.execSprRecWrite
  | laneSignalDetect => exact h.execLaneSignalDetect
  | laneLock => exact h.execLaneLock
  | laneAdaptDone => exact h.execLaneAdaptDone
  | markerSend => exact h.execMarkerSend
  | rxMarker => exact h.execRxMarker
  | laneFail => exact h.execLaneFail
  | laneRejoin => exact h.execLaneRejoin
  | portHoldExpiry => exact h.execPortHoldExpiry
  | trainSendTick => exact h.execTrainSendTick
  | rxTrain => exact h.execRxTrain
  | rxCorruptFrame => exact h.execRxCorruptFrame
  | rxCred => exact h.execRxCred
  | rxAck => exact h.execRxAck
  | rxNak => exact h.execRxNak
  | ackSend => exact h.execAckSend
  | creditReport => exact h.execCreditReport
  | rtoExpiry => exact h.execRtoExpiry
  | frameSend => exact h.execFrameSend
  | ethFrameRx => exact h.execEthFrameRx
  | ethArpRequest => exact h.execEthArpRequest
  | ethLinkUp => exact h.execEthLinkUp
  | ethLinkDown => exact h.execEthLinkDown
  | laneRefclkLoss => exact h.execLaneRefclkLoss
  | rngEnable => exact h.execRngEnable
  | rngDisable => exact h.execRngDisable
  | linkSendTick => exact h.execLinkSendTick
  | rxLink => exact h.execRxLink
  | announceSendTick => exact h.execAnnounceSendTick
  | rxAnnounce => exact h.execRxAnnounce
  | heartbeatSendTick => exact h.execHeartbeatSendTick
  | rxHeartbeat => exact h.execRxHeartbeat
  | rxAssign => exact h.execRxAssign
  | rxEpochData => exact h.execRxEpochData
  | rxEpochCommit => exact h.execRxEpochCommit
  | rxEpochReq => exact h.execRxEpochReq
  | tsyncSendTick => exact h.execTsyncSendTick
  | rxTsync => exact h.execRxTsync
  | dlyreqSendTick => exact h.execDlyreqSendTick
  | rxDlyreq => exact h.execRxDlyreq
  | rxDlyrsp => exact h.execRxDlyrsp
  | rxRingSnap => exact h.execRxRingSnap
  | rxRmark => exact h.execRxRmark
  | rxPsample => exact h.execRxPsample
  | rxMbx => exact h.execRxMbx
  | klossExpiry => exact h.execKlossExpiry
  | electtExpiry => exact h.execElecttExpiry
  | holdoverExpiry => exact h.execHoldoverExpiry
  | routeExpiry => exact h.execRouteExpiry
  | epochDistribute => exact h.execEpochDistribute
  | epochAbort => exact h.execEpochAbort
  | epochCommitTimeout => exact h.execEpochCommitTimeout
  | epochApply => exact h.execEpochApply
  | ringSnapSend => exact h.execRingSnapSend
  | ringSnapTime => exact h.execRingSnapTime
  | rmarkAction => exact h.execRmarkAction
  | mailboxSend => exact h.execMailboxSend
  | mailboxTimeout => exact h.execMailboxTimeout
  | tuFrame => exact h.execTuFrame
  | tuCal => exact h.execTuCal
  | tuAbort => exact h.execTuAbort
  | tuLoad => exact h.execTuLoad
  | tuSave => exact h.execTuSave
  | tuLoadDone => exact h.execTuLoadDone
  | tuSaveDone => exact h.execTuSaveDone
  | tuMoveResult => exact h.execTuMoveResult
  | tuMoveTimeout => exact h.execTuMoveTimeout
  | tuHoldoffExpiry => exact h.execTuHoldoffExpiry
  | tuDomWrite => exact h.execTuDomWrite
  | spEnable => exact h.execSpEnable
  | spVsyncStart => exact h.execSpVsyncStart
  | spRow => exact h.execSpRow
  | spFrameClose => exact h.execSpFrameClose
  | spFrameTimeout => exact h.execSpFrameTimeout
  | spPclkLoss => exact h.execSpPclkLoss
  | cpFrame => exact h.execCpFrame
  | cpLoad => exact h.execCpLoad
  | cpLoadDone => exact h.execCpLoadDone
  | cpDomWrite => exact h.execCpDomWrite
  | lockstepMismatch => exact h.execLockstepMismatch
  | plantRestartDone => exact h.execPlantRestartDone
  | soDemandChange => exact h.execSoDemandChange
  | soMinTimeExpiry => exact h.execSoMinTimeExpiry
  | moSlewTick => exact h.execMoSlewTick
  | presSample => exact h.execPresSample
  | rtcSecond => exact h.execRtcSecond
  | rtcSecWrite => exact h.execRtcSecWrite
  | aonTzWrite => exact h.execAonTzWrite
  | calDateRead => exact h.execCalDateRead
  | scheduleMinute => exact h.execScheduleMinute
  | occholdExpiry => exact h.execOccholdExpiry
  | pltCzOvrWrite => exact h.execPltCzOvrWrite
  | vaonLoss => exact h.execVaonLoss
  | vaonReturn => exact h.execVaonReturn
  | oscStop => exact h.execOscStop
  | pltHbWrite => exact h.execPltHbWrite
  | heartbeatLapse => exact h.execHeartbeatLapse
  | bbEnable => exact h.execBbEnable
  | bbFrameRx => exact h.execBbFrameRx
  | bbTokenRx => exact h.execBbTokenRx
  | bbFrameTx => exact h.execBbFrameTx
  | bbReplyDelayExpiry => exact h.execBbReplyDelayExpiry
  | bbNoTokenExpiry => exact h.execBbNoTokenExpiry
  | bbReplyTimeout => exact h.execBbReplyTimeout
  | bbUsageTimeout => exact h.execBbUsageTimeout
  | bbFrameAbort => exact h.execBbFrameAbort
  | bbStuck => exact h.execBbStuck
  | bbStuckClear => exact h.execBbStuckClear
  | leTimedEvaluate => exact h.execLeTimedEvaluate
  | leFeedbackArrival => exact h.execLeFeedbackArrival
  | leMissedEvaluation => exact h.execLeMissedEvaluation
  | lePublish => exact h.execLePublish
  | leFbinWrite => exact h.execLeFbinWrite
  | leCmdReset => exact h.execLeCmdReset
  | leClrpl => exact h.execLeClrpl
  | leTstart => exact h.execLeTstart
  | leTstop => exact h.execLeTstop
  | leCapStart => exact h.execLeCapStart
  | leCapStop => exact h.execLeCapStop
  | vSenseSample => exact h.execVSenseSample
  | vMoveWindowEnd => exact h.execVMoveWindowEnd
  | vThermalTick => exact h.execVThermalTick
  | vClrtrip => exact h.execVClrtrip
  | vShutterClose => exact h.execVShutterClose
  | vShutterOpen => exact h.execVShutterOpen
  | adcCtlWrite => exact h.execAdcCtlWrite
  | adcEntryComplete => exact h.execAdcEntryComplete
  | adcCal => exact h.execAdcCal
  | adcCalDone => exact h.execAdcCalDone
  | fanTachEdge => exact h.execFanTachEdge
  | fanTachTimeout => exact h.execFanTachTimeout
  | fanUpdate => exact h.execFanUpdate
  | fanClrfail => exact h.execFanClrfail
  | spiGo => exact h.execSpiGo
  | spiTransferEnd => exact h.execSpiTransferEnd
  | spiRwaitExpiry => exact h.execSpiRwaitExpiry
  | spiLeaseExpiry => exact h.execSpiLeaseExpiry
  | spiAbort => exact h.execSpiAbort
  | spiReply => exact h.execSpiReply
  | spiSlaveFrame => exact h.execSpiSlaveFrame
  | spiCastle => exact h.execSpiCastle
  | spiCreqPulled => exact h.execSpiCreqPulled
  | spiCastleFrame => exact h.execSpiCastleFrame
  | spiBackoffEnd => exact h.execSpiBackoffEnd
  | spiDxMiss => exact h.execSpiDxMiss
  | spiDxDisable => exact h.execSpiDxDisable
  | faultRaise => exact h.execFaultRaise
  | liveLineClear => exact h.execLiveLineClear
  | safetyClearHold => exact h.execSafetyClearHold
  | ugraceExpiry => exact h.execUgraceExpiry
  | fgraceExpiry => exact h.execFgraceExpiry
  | fcFirstClr => exact h.execFcFirstClr
  | fcHandlingWrite => exact h.execFcHandlingWrite
  | fcSwraise => exact h.execFcSwraise
  | ietFire => exact h.execIetFire
  | fcIetClear => exact h.execFcIetClear
  | safeInActive => exact h.execSafeInActive
  | safeEnter => exact h.execSafeEnter
  | safeRelease => exact h.execSafeRelease
  | safeRestartDone => exact h.execSafeRestartDone
  | safeResume => exact h.execSafeResume
  | pipHalfPeriod => exact h.execPipHalfPeriod
  | tmpSample => exact h.execTmpSample
  | tmpSampleCmd => exact h.execTmpSampleCmd
  | tmpHistoryBoundary => exact h.execTmpHistoryBoundary
  | fixedTrip => exact h.execFixedTrip
  | capUpdate => exact h.execCapUpdate
  | droopSag => exact h.execDroopSag
  | stretchRecoverStep => exact h.execStretchRecoverStep
  | stretchWindowOver => exact h.execStretchWindowOver
  | railOutOfBand => exact h.execRailOutOfBand
  | sysrefLoss => exact h.execSysrefLoss
  | clockMonitorWindow => exact h.execClockMonitorWindow
  | sefreqWrite => exact h.execSefreqWrite
  | calExport => exact h.execCalExport
  | calImport => exact h.execCalImport
  | calCommandDone => exact h.execCalCommandDone
  | snpArm => exact h.execSnpArm
  | snpTrig => exact h.execSnpTrig
  | snapinEdge => exact h.execSnapinEdge
  | snapshotDone => exact h.execSnapshotDone
  | snpDbgWrite => exact h.execSnpDbgWrite
  | tapReset => exact h.execTapReset
  | tapIdcode => exact h.execTapIdcode
  | tapSamplePreload => exact h.execTapSamplePreload
  | tapExtest => exact h.execTapExtest
  | tapHighz => exact h.execTapHighz
  | tapClamp => exact h.execTapClamp
  | tapDbgacc => exact h.execTapDbgacc
  | tapBypass => exact h.execTapBypass
  | dbgNop => exact h.execDbgNop
  | dbgRead => exact h.execDbgRead
  | dbgWrite => exact h.execDbgWrite
  | dbgHalt => exact h.execDbgHalt
  | dbgRelease => exact h.execDbgRelease
  | dbgCommandDone => exact h.execDbgCommandDone
  | porNLow => exact h.execPorNLow
  | vpltUndervoltage => exact h.execVpltUndervoltage
  | pltpgFall => exact h.execPltpgFall
  | sysRstCmd => exact h.execSysRstCmd
  | watchCmd => exact h.execWatchCmd
  | runCmd => exact h.execRunCmd
  | hibEnter => exact h.execHibEnter
  | wakeSource => exact h.execWakeSource
  | seatAccessComplete => exact h.execSeatAccessComplete
  | icuEvaluationDone => exact h.execIcuEvaluationDone
  | mtabEntryMissing => exact h.execMtabEntryMissing
  | sysrefLock => exact h.execSysrefLock
  | generatorHoldoverEnd => exact h.execGeneratorHoldoverEnd

/-- A step keeps what its state had, but for the command it takes from the queue. -/
theorem kept_step {s t : State} (hs : step s = .next t) : Kept { s with pending := s.pending.tail } t := by
  unfold step at hs
  split at hs
  next e =>
    cases hs
    obtain ⟨hwf, hkey, hroll, hvariant, huid, -⟩ := Kept.refl s
    exact ⟨hwf, hkey, hroll, hvariant, huid, by simp [tick, e]⟩
  next c rest e =>
    have h : Kept { s with pending := rest } t := (Kept.refl _).exec c t hs
    rwa [e]

/-- A key hash with a burned fuse is not 0, so a CLOSED part is CLOSED wherever those fuses stay burned (R122). -/
theorem closed_of_fuses {s t : State} (hkey : s.keyFuses &&& t.keyFuses = s.keyFuses) (h : s.closed = true) :
    t.closed = true := by
  simp only [State.closed, bne_iff_ne, ne_eq] at h ⊢
  intro ht
  exact h (by simpa [ht] using hkey.symm)

end Sys2Proof.Machine

namespace Sys2Proof.Claims
open Sys2Proof.Machine

/-- Settles O59, from what every step keeps. -/
theorem everyStepKeepsTheFormsAndTheFuses : Obligations.EveryStepKeepsTheFormsAndTheFuses := by
  intro s t hs
  obtain ⟨hwf, hkey, hroll, hvariant, huid, hqueue⟩ := kept_step hs
  exact ⟨fun k h => ⟨(canonical_iff t).mpr (hwf h.1), fun hk => closed_of_fuses hkey (h.2 hk)⟩,
    hkey, hroll, hvariant, huid, hqueue⟩

end Sys2Proof.Claims
end

section
/-! PROOFS. Seats in T and control space (R126, R131): no access of theirs is allowed, so each command ends in the bus error of
`ctlAccess_denied`. Statement O28. -/

namespace Sys2Proof.Machine

/-- A seat in T may reach no control-space address, whatever its domain's grants (R126, R131). -/
theorem controlAllowed_tenant {s : State} {i : Nat} (h : (s.seat i).mode = .t) (a : Nat) (write : Bool) :
    s.controlAllowed (.seat i) a write = false := by
  unfold State.controlAllowed
  dsimp only
  split
  · rfl
  · rw [h]; rfl

theorem ctlAccess_tenant {s : State} {i : Nat} (h : (s.seat i).mode = .t) (a : Nat) (v : W32) :
    respond (.seat i) (ctlAccess s (.seat i) a v) = { s with out := s.out ++ [.busError (.seat i)] } := by
  rw [ctlAccess_denied v (controlAllowed_tenant h a true), respond_refused]

theorem exec_reg64LowRead_denied {s : State} {w : Requester} {a : Nat} (hlow : isLow a = true)
    (h : s.controlAllowed w a false = false) :
    exec (.reg64LowRead w a) s = .next { s with out := s.out ++ [.busError w] } := by
  change execReg64LowRead w a s = _
  simp [execReg64LowRead, hlow, h]

end Sys2Proof.Machine

namespace Sys2Proof.Claims
open Sys2Proof.Machine

/-- Settles O28. -/
theorem tenantsNeverReachControlSpace : Obligations.TenantsNeverReachControlSpace := by
  intro i a v s ht
  exact ⟨⟨_, exec_registerWrite _ _ _ _, ctlAccess_tenant ht a v⟩,
    fun hlow => ⟨_, exec_reg64LowRead_denied hlow (controlAllowed_tenant ht a false), rfl⟩,
    fun hstaged => ⟨_, exec_stagedRegisterWrite v s hstaged, ctlAccess_tenant ht a v⟩,
    fun hfirst => ⟨_, exec_pairFirstWrite v s hfirst, ctlAccess_tenant ht a v⟩,
    fun hsecond => ⟨_, exec_pairSecondWrite v s hsecond, ctlAccess_tenant ht a v⟩⟩

end Sys2Proof.Claims
end

section
/-! PROOFS. The domain pages: doorbells and their routes, seat commands, and the notification queue's control (R131, R133 to
R137). First what a write of the page is for a requester that reaches it and for one that does not, then what each write does.
Statement O30. -/

namespace Sys2Proof.Machine

/-! ### Writes of a domain's page (R131, R132) -/

theorem pageWrite_allowed {s : State} {w : Requester} {d : Nat} (f : State → State)
    (h : s.controlAllowed w (Reg.SYS_Dd_DBn d 0) true = true) : pageWrite s w d f = f s := by
  rw [pageWrite, if_pos h, respond_done]

theorem pageWrite_denied {s : State} {w : Requester} {d : Nat} (f : State → State)
    (h : s.controlAllowed w (Reg.SYS_Dd_DBn d 0) true = false) :
    pageWrite s w d f = { s with out := s.out ++ [.busError w] } := by
  rw [pageWrite, if_neg (by simp [h]), respond_refused]

/-! ### Doorbells (R134, R135) -/

theorem doorbellWrite_disabled {s : State} {d n : Nat} (v : W32) (h : fbit (s.reg (Reg.SYS_Dd_DBROUTEn d n)) 11 = false) :
    doorbellWrite s d n v = s.count (Reg.SYS_Dd_DB_DROP d) 1 := if_pos (by simp [h])

/-- The seat a doorbell's route names, or the plant thread (R135). -/
def routedSeat (r : W32) : Nat := if fbit r 10 then plantSeat else fbits r 9 0

/-- A doorbell that is pending already stays pending for the seat it was first (R134). -/
theorem doorbellWrite_pending {s : State} {d n i : Nat} (v : W32) (h : fbit (s.reg (Reg.SYS_Dd_DBROUTEn d n)) 11 = true)
    (hp : sget none (s.dom d).doorbells n = some i) :
    doorbellWrite s d n v = s.setReg (Reg.SYS_Dd_DBVALn d n) v := by
  unfold doorbellWrite
  rw [if_neg (by simp [h])]
  change (match sget none (s.dom d).doorbells n with | some _ => _ | none => _) = _
  rw [hp]

theorem doorbellWrite_new {s : State} {d n : Nat} (v : W32) (h : fbit (s.reg (Reg.SYS_Dd_DBROUTEn d n)) 11 = true)
    (hp : sget none (s.dom d).doorbells n = none) :
    doorbellWrite s d n v = (s.setReg (Reg.SYS_Dd_DBVALn d n) v).setDom d { s.dom d with
      doorbells := sset none (s.dom d).doorbells n (some (routedSeat (s.reg (Reg.SYS_Dd_DBROUTEn d n)))) } := by
  unfold doorbellWrite
  rw [if_neg (by simp [h])]
  change (match sget none (s.dom d).doorbells n with | some _ => _ | none => _) = _
  rw [hp]
  rfl

/-- A route to a seat of the domain is stored (R135). -/
theorem dbrouteWrite_seat {s : State} {d n : Nat} {v : W32} (h : fbit v 10 = false) (ha : s.assigned d (fbits v 9 0) = true) :
    dbrouteWrite s d n v = s.setReg (Reg.SYS_Dd_DBROUTEn d n) (v &&& 0xFFF) := by
  simp [dbrouteWrite, h, ha]

/-! ### Seat commands (R136) -/

/-- A command to an assigned seat while RESULT is not BUSY runs. -/
theorem seatCmd_assigned {s : State} {d cmd i : Nat} (tag : BitVec 11) (entry : BitVec 40)
    (hbusy : s.fld (Reg.SYS_Dd_SEATCMD_STATUS d) 2 0 ≠ 1) (hi : i ≠ plantSeat) (ha : s.assigned d i = true) (hcmd : cmd < 3) :
    seatCmd s d cmd i tag entry = if cmd = 0 then seatStart s d i tag entry
      else if cmd = 1 then seatStop s d i tag else seatPreempt s d i tag := by
  unfold seatCmd
  rw [if_neg hbusy, if_neg (by omega), if_neg (by simp [hi, ha])]

theorem seatCmd_unassigned {s : State} {d cmd : Nat} (i : Nat) (tag : BitVec 11) (entry : BitVec 40)
    (hbusy : s.fld (Reg.SYS_Dd_SEATCMD_STATUS d) 2 0 ≠ 1) (hcmd : 3 ≤ cmd) :
    seatCmd s d cmd i tag entry = seatResult s d tag 4 := by
  unfold seatCmd
  rw [if_neg hbusy, if_pos hcmd]

theorem seatStart_idle {s : State} {d i : Nat} (tag : BitVec 11) (entry : BitVec 40) (h : (s.seat i).st = .idle) :
    seatStart s d i tag entry =
      seatResult ((s.modSeat i (fun t => t.start (s.domain d) d entry)).setSeatSt i .run) d tag 0 :=
  if_pos (by simp [h])

theorem seatStop_run {s : State} {d i : Nat} (tag : BitVec 11) (h : (s.seat i).st = .run) :
    seatStop s d i tag = seatResult (s.modSeat i (fun t =>
      { t with stopReq := some (d, tag), events := sset none t.events 0x25 none })) d tag 1 :=
  if_pos (by simp [h])

theorem seatPreempt_on {s : State} {d i : Nat} (tag : BitVec 11) (h : (s.seat i).st ≠ .off) :
    seatPreempt s d i tag = seatResult (postEvent s i 0x25 (BitVec.ofNat 64 tag.toNat)) d tag 0 :=
  if_neg (by simpa using h)

theorem sfind_filter {β : Type} {p : Nat → Bool} {k : Nat} (h : p k = true) (m : SMap β) :
    sfind k (m.filter (fun e => p e.1)) = sfind k m := by
  induction m with
  | nil => rfl
  | cons e m ih =>
    obtain ⟨a, v⟩ := e
    rw [List.filter_cons]
    by_cases ha : a = k
    · subst ha; simp [h, sfind]
    · split <;> simp [sfind, ha, ih]

/-- START keeps the seat's domain (R136). -/
theorem start_hdom (t : Seat) (dom : Domain) (d : Nat) (entry : BitVec 40) : (t.start dom d entry).hdom = t.hdom := by
  have h : (t.start dom d entry).scrGet 0x001 = t.scrGet 0x001 := by
    simp only [Seat.scrGet, sget_eq]
    exact congrArg (Option.getD · _) (sfind_filter (p := fun k => k == 0x001 || decide (0x020 ≤ k)) rfl t.scr)
  rw [Seat.hdom, Seat.hdom, h]

@[simp] theorem seat_setSeatSt_same (s : State) (i : Nat) (st : SeatSt) :
    (s.setSeatSt i st).seat i = { s.seat i with st := st } := by
  unfold State.setSeatSt
  dsimp only
  split
  · exact State.seat_modSeat_same s i _
  · exact (State.seat_setReg ..).trans (State.seat_modSeat_same s i _)

/-- SEAT_STOP_BOUNDARY of a running seat that a STOP waits for (R47, R136). -/
theorem exec_seatStopBoundary_run {s : State} {i d : Nat} {tag : BitVec 11} (hreq : (s.seat i).stopReq = some (d, tag))
    (h : (s.seat i).st = .run) : exec (.seatStopBoundary i) s = .next (stopDone (s.setSeatSt i .idle) i) := by
  change execSeatStopBoundary i s = _
  simp [execSeatStopBoundary, hreq, h]

theorem stopDone_of_req {s : State} {i d : Nat} {tag : BitVec 11} (hreq : (s.seat i).stopReq = some (d, tag)) :
    stopDone s i = (s.setReg (Reg.SYS_Dd_SEATCMD_STATUS d) (BitVec.ofNat 32 (2 ^ 21 * tag.toNat))).modSeat i
      (fun t => { t with stopReq := none }) := by
  unfold stopDone
  rw [hreq]

/-! ### The notification queue (R133) -/

theorem nqCtlWrite_enable {s : State} {d : Nat} {v : W32} (h : s.bit (Reg.SYS_Dd_NQ_CTL d) 0 = false) (hv : fbit v 0 = true) :
    nqCtlWrite s d v =
      (nqMask (s.setReg (Reg.SYS_Dd_NQ_CTL d) (v &&& 0xFFFDF)) d).setReg (Reg.SYS_Dd_NQ_TAIL d)
        ((nqMask (s.setReg (Reg.SYS_Dd_NQ_CTL d) (v &&& 0xFFFDF)) d).reg (Reg.SYS_Dd_NQ_HEAD d)) := by
  unfold nqCtlWrite
  rw [if_neg (by simp [h]), if_pos hv]

theorem RegsOnly.refl (s : State) : RegsOnly s s := rfl

theorem RegsOnly.setReg {s t : State} (h : RegsOnly s t) (a : Nat) (v : W32) : RegsOnly s (t.setReg a v) := by
  unfold RegsOnly at *
  rw [h]
  rfl

theorem RegsOnly.nqMask {s t : State} (h : RegsOnly s t) (d : Nat) : RegsOnly s (nqMask t d) :=
  (h.setReg _ _).setReg _ _

/-- The indices' masking leaves NQ_CTL. -/
theorem nqMask_ctl (s : State) (d : Nat) : (nqMask s d).reg (Reg.SYS_Dd_NQ_CTL d) = s.reg (Reg.SYS_Dd_NQ_CTL d) := by
  unfold nqMask
  rw [State.reg_setReg_ne _ (by simp [Reg.SYS_Dd_NQ_CTL, Reg.SYS_Dd_NQ_TAIL]),
    State.reg_setReg_ne _ (by simp [Reg.SYS_Dd_NQ_CTL, Reg.SYS_Dd_NQ_HEAD])]

end Sys2Proof.Machine

namespace Sys2Proof.Claims
open Sys2Proof.Machine

section Page
variable {who : Requester} {d : Nat} {s : State} (hw : s.controlAllowed who (Reg.SYS_Dd_DBn d 0) true = true)
include hw

theorem doorbell_rings (n : BitVec 6) (v : W32) (h : fbit (s.reg (Reg.SYS_Dd_DBROUTEn d n.toNat)) 11 = true) :
    Completes (.doorbellWrite who d n v) s (fun t => t = { s with regs := t.regs, doms := t.doms } ∧
      t.reg (Reg.SYS_Dd_DBVALn d n.toNat) = v ∧ (∀ b, b ≠ Reg.SYS_Dd_DBVALn d n.toNat → t.reg b = s.reg b) ∧
      sget none (t.dom d).doorbells n.toNat = (match sget none (s.dom d).doorbells n.toNat with
        | some i => some i | none => some (routedSeat (s.reg (Reg.SYS_Dd_DBROUTEn d n.toNat))))) := by
  refine ⟨_, congrArg Host.Outcome.next (pageWrite_allowed _ hw), ?_⟩
  dsimp only
  cases hp : sget none (s.dom d).doorbells n.toNat with
  | some i =>
    rw [doorbellWrite_pending v h hp]
    exact ⟨rfl, State.reg_setReg_same .., fun b hb => State.reg_setReg_ne _ hb _, hp⟩
  | none =>
    rw [doorbellWrite_new v h hp]
    refine ⟨rfl, State.reg_setReg_same .., fun b hb => State.reg_setReg_ne _ hb _, ?_⟩
    simp only [State.dom_setDom_same, sget_sset_same]

theorem doorbell_drops (n : BitVec 6) (v : W32) (h : fbit (s.reg (Reg.SYS_Dd_DBROUTEn d n.toNat)) 11 = false) :
    Completes (.doorbellWrite who d n v) s (fun t => t = s.count (Reg.SYS_Dd_DB_DROP d) 1) :=
  ⟨_, rfl, (pageWrite_allowed _ hw).trans (doorbellWrite_disabled v h)⟩

theorem route_stored (n : BitVec 6) (v : W32) (h : fbit v 10 = false) (ha : s.assigned d (fbits v 9 0) = true) :
    Completes (.dbrouteWrite who d n v) s (fun t => RegBecomes s t (Reg.SYS_Dd_DBROUTEn d n.toNat) (v &&& 0xFFF)) := by
  refine ⟨_, congrArg Host.Outcome.next ((pageWrite_allowed _ hw).trans (dbrouteWrite_seat h ha)), ?_⟩
  exact regBecomes_setReg ..

section SeatCommands
variable {i : BitVec 10} (tag : BitVec 11) (hbusy : s.fld (Reg.SYS_Dd_SEATCMD_STATUS d) 2 0 ≠ 1)
include hbusy

theorem start_runs (entry : BitVec 40) (hi : i.toNat ≠ plantSeat) (ha : s.assigned d i.toNat = true)
    (h : (s.seat i.toNat).st = .idle) :
    Completes (.seatcmdStart who d i tag entry) s (fun t =>
      (t.seat i.toNat).st = .run ∧ (t.seat i.toNat).mode = .h ∧ (t.seat i.toNat).pc = entry ∧ (∀ r, (t.seat i.toNat).sx r = 0) ∧
      (t.seat i.toNat).hdom = (s.seat i.toNat).hdom ∧ (t.seat i.toNat).stgSeq = (s.seat i.toNat).stgSeq ∧ t.mem = s.mem ∧
      t.reg (Reg.SYS_Dd_SEATCMD_STATUS d) = BitVec.ofNat 32 (2 ^ 21 * tag.toNat) ∧ ∀ j, j ≠ i.toNat → t.seat j = s.seat j) := by
  have he : exec (.seatcmdStart who d i tag entry) s = .next (seatResult
      ((s.modSeat i.toNat (fun t => t.start (s.domain d) d entry)).setSeatSt i.toNat .run) d tag 0) :=
    congrArg Host.Outcome.next ((pageWrite_allowed _ hw).trans
      ((seatCmd_assigned tag entry hbusy hi ha (by decide)).trans (seatStart_idle tag entry h)))
  obtain ⟨hframe, hseat, hother, -⟩ := seatMoves_setSeatSt s i.toNat (fun t => t.start (s.domain d) d entry)
    (st := .run) (by decide)
  refine ⟨_, he, congrArg Seat.st hseat, congrArg Seat.mode hseat, congrArg Seat.pc hseat, fun r => ?_,
    (congrArg Seat.hdom hseat).trans (start_hdom (s.seat i.toNat) (s.domain d) d entry),
    (congrArg Seat.stgSeq hseat).trans rfl, (congrArg State.mem hframe).trans rfl, ?_, hother⟩
  · have hx := congrArg (fun t : Seat => t.sx r) hseat
    exact hx.trans (by simp [Seat.sx, Seat.start])
  · unfold seatResult
    rw [State.reg_setReg_same, Nat.zero_add]

theorem stop_waits (hi : i.toNat ≠ plantSeat) (ha : s.assigned d i.toNat = true) (h : (s.seat i.toNat).st = .run) :
    Completes (.seatcmdStop who d i tag) s (fun t => (t.seat i.toNat).stopReq = some (d, tag) ∧
      (t.seat i.toNat).st = .run ∧ t.reg (Reg.SYS_Dd_SEATCMD_STATUS d) = BitVec.ofNat 32 (1 + 2 ^ 21 * tag.toNat)) := by
  refine ⟨_, congrArg Host.Outcome.next ((pageWrite_allowed _ hw).trans
    ((seatCmd_assigned tag 0 hbusy hi ha (by decide)).trans (seatStop_run tag h))), ?_⟩
  simp [seatResult, h]

theorem preempt_pending (hi : i.toNat ≠ plantSeat) (ha : s.assigned d i.toNat = true) (h : (s.seat i.toNat).st ≠ .off) :
    Completes (.seatcmdPreempt who d i tag) s (fun t =>
      sget none (t.seat i.toNat).events 0x25 = some (tag.setWidth 64) ∧ (t.seat i.toNat).st = (s.seat i.toNat).st ∧
      t.reg (Reg.SYS_Dd_SEATCMD_STATUS d) = BitVec.ofNat 32 (2 ^ 21 * tag.toNat)) := by
  refine ⟨_, congrArg Host.Outcome.next ((pageWrite_allowed _ hw).trans
    ((seatCmd_assigned tag 0 hbusy hi ha (by decide)).trans (seatPreempt_on tag h))), ?_⟩
  simp [seatResult, postEvent]

theorem unassigned_reported (cmd : BitVec 3) (j : BitVec 10) :
    Completes (.seatcmdUnassigned who d cmd j tag) s (fun t =>
      RegBecomes s t (Reg.SYS_Dd_SEATCMD_STATUS d) (BitVec.ofNat 32 (4 + 2 ^ 21 * tag.toNat))) := by
  refine ⟨_, congrArg Host.Outcome.next ((pageWrite_allowed _ hw).trans
    (seatCmd_unassigned j.toNat tag 0 hbusy (Nat.le_add_right ..))), ?_⟩
  exact regBecomes_setReg ..

end SeatCommands

theorem queue_enabled (v : W32) (h : s.bit (Reg.SYS_Dd_NQ_CTL d) 0 = false) (hv : fbit v 0 = true) :
    Completes (.nqCtlWrite who d v) s (fun t => RegsOnly s t ∧ t.reg (Reg.SYS_Dd_NQ_CTL d) = v &&& 0xFFFDF ∧
      t.reg (Reg.SYS_Dd_NQ_TAIL d) = t.reg (Reg.SYS_Dd_NQ_HEAD d)) := by
  refine ⟨_, congrArg Host.Outcome.next ((pageWrite_allowed _ hw).trans (nqCtlWrite_enable h hv)), ?_, ?_, ?_⟩
  · exact (((RegsOnly.refl s).setReg _ _).nqMask d).setReg _ _
  · rw [State.reg_setReg_ne _ (by simp [Reg.SYS_Dd_NQ_CTL, Reg.SYS_Dd_NQ_TAIL]), nqMask_ctl, State.reg_setReg_same]
  · rw [State.reg_setReg_same, State.reg_setReg_ne _ (by simp [Reg.SYS_Dd_NQ_HEAD, Reg.SYS_Dd_NQ_TAIL])]

end Page

theorem stop_atBoundary {i d : Nat} {tag : BitVec 11} {s : State} (hreq : (s.seat i).stopReq = some (d, tag))
    (h : (s.seat i).st = .run) :
    Completes (.seatStopBoundary i) s (fun t => (t.seat i).st = .idle ∧ (t.seat i).stopReq = none ∧
      (t.seat i).pc = (s.seat i).pc ∧ (t.seat i).x = (s.seat i).x ∧
      t.reg (Reg.SYS_Dd_SEATCMD_STATUS d) = BitVec.ofNat 32 (2 ^ 21 * tag.toNat)) := by
  have hreq' : ((s.setSeatSt i .idle).seat i).stopReq = some (d, tag) := by rw [seat_setSeatSt_same, ← hreq]
  refine ⟨_, exec_seatStopBoundary_run hreq h, ?_⟩
  rw [stopDone_of_req hreq']
  simp

/-- Settles O30. -/
theorem doorbellsAndSeatCommandsAct : Obligations.DoorbellsAndSeatCommandsAct := by
  intro who d s hd
  refine ⟨fun hw n v => ⟨_, rfl, pageWrite_denied _ hw⟩, fun hw => ⟨fun n v => ⟨?_, ?_⟩, ?_, ?_, ?_, ?_⟩, ?_⟩
  · exact doorbell_rings hw n v
  · exact doorbell_drops hw n v
  · exact fun n v _ h ha => route_stored hw n v h ha
  · exact fun i tag entry hbusy hi ha => ⟨start_runs hw tag hbusy entry hi ha, stop_waits hw tag hbusy hi ha,
      preempt_pending hw tag hbusy hi ha⟩
  · exact fun cmd i tag hbusy => unassigned_reported hw tag hbusy cmd i
  · exact queue_enabled hw
  · exact fun i tag hreq h _ => stop_atBoundary hreq h

end Sys2Proof.Claims
end

section
/-! PROOFS. Requests of hosts (R116, R129, R130, R352 to R354): the 64-byte cells of a range cover it end to end, so a read's cells
give its bytes and a write's cells put them; then the completions, and the attachment of hosts. Statement O29. -/

namespace Sys2Proof.Machine

/-! ### The cells of a range (R130) -/

theorem cellsOf_zero (a : Nat) : cellsOf a 0 = [] := rfl

/-- The bytes of the first cell of a range. -/
def firstCell (a n : Nat) : Nat := min n (64 - a % 64)

theorem spanning_cons {a n : Nat} (h : 0 < n) :
    spanning 64 a n = a / 64 :: spanning 64 (a + firstCell a n) (n - firstCell a n) := by
  have hlast : (a + n - 1) / 64 + 1 - a / 64 = (a + n - 1) / 64 - a / 64 + 1 := by
    have := Nat.div_le_div_right (c := 64) (show a ≤ a + n - 1 by omega)
    omega
  unfold spanning firstCell
  rw [if_neg h.ne', hlast, List.range_succ_eq_map, List.map_cons, Nat.add_zero]
  refine congrArg (a / 64 :: ·) ?_
  rw [List.map_map]
  split
  · have hone : (a + n - 1) / 64 - a / 64 = 0 := by omega
    rw [hone]; rfl
  · have hnext : (a + min n (64 - a % 64)) / 64 = a / 64 + 1 := by omega
    have hcount : (a + min n (64 - a % 64) + (n - min n (64 - a % 64)) - 1) / 64 + 1 - (a / 64 + 1) =
        (a + n - 1) / 64 - a / 64 := by omega
    rw [hnext, hcount]
    exact List.map_congr_left fun i _ => by simp only [Function.comp_apply]; omega

theorem cellsOf_cons {a n : Nat} (h : 0 < n) :
    cellsOf a n = (a, firstCell a n) :: cellsOf (a + firstCell a n) (n - firstCell a n) := by
  unfold cellsOf
  rw [spanning_cons h, List.map_cons]
  refine congrArg₂ List.cons ?_ (List.map_congr_left fun c hc => ?_)
  · unfold firstCell
    exact Prod.ext (by dsimp only; omega) (by dsimp only; omega)
  · obtain ⟨hpos, hlow, -⟩ := mem_spanning.mp hc
    unfold firstCell at *
    exact Prod.ext (by dsimp only; omega) (by dsimp only; omega)

theorem firstCell_pos {a n : Nat} (h : 0 < n) : 0 < firstCell a n := by unfold firstCell; omega

theorem firstCell_le (a n : Nat) : firstCell a n ≤ n := Nat.min_le_left ..

/-- A part of a range touches no page that the range does not. -/
theorem spanning_sub {d a n k m p : Nat} (h : k + m ≤ n) (hp : p ∈ spanning d (a + k) m) : p ∈ spanning d a n := by
  obtain ⟨hpos, hlow, hhigh⟩ := mem_spanning.mp hp
  exact mem_spanning.mpr ⟨by omega, (Nat.div_le_div_right (by omega)).trans hlow,
    hhigh.trans (Nat.div_le_div_right (by omega))⟩

/-! ### Reads and writes in cells -/

theorem bytesAt_add (m : SMap Byte) (a k n : Nat) : bytesAt m a (k + n) = bytesAt m a k ++ bytesAt m (a + k) n := by
  induction k generalizing a with
  | zero => rw [Nat.zero_add]; rfl
  | succ k ih => rw [Nat.succ_add, bytesAt, bytesAt, ih, List.cons_append, Nat.add_right_comm, Nat.add_assoc]

theorem putBytes_append (bs cs : List Byte) : ∀ (m : SMap Byte) (a : Nat),
    putBytes m a (bs ++ cs) = putBytes (putBytes m a bs) (a + bs.length) cs := by
  induction bs with
  | nil => exact fun _ _ => rfl
  | cons b bs ih =>
    intro m a
    rw [List.cons_append, putBytes, ih, List.length_cons, Nat.add_right_comm, Nat.add_assoc]
    rfl

/-- A read of readable pages in cells answers the bytes of the range and changes nothing (R130, R167). -/
theorem readCells_ok {s : State} (n : Nat) : ∀ {a : Nat} (bs : List Byte), a + n ≤ s.memSize →
    (∀ p ∈ spanning 2048 a n, s.pageReadable p = true) →
    readCells [] (cellsOf a n) s bs = (s, bs ++ bytesAt s.mem a n, .ok) := by
  induction n using Nat.strong_induction_on with
  | _ n ih =>
    intro a bs hin hread
    rcases Nat.eq_zero_or_pos n with rfl | hpos
    · rw [cellsOf_zero]
      simp [readCells, bytesAt]
    · have hle := firstCell_le a n
      have hcell : s.memRead a (firstCell a n) = some (bytesAt s.mem a (firstCell a n)) :=
        memRead_some (by omega) fun p hp => hread p (spanning_sub (k := 0) (by omega) hp)
      rw [cellsOf_cons hpos, readCells]
      change (match s.memRead a (firstCell a n) with | some _ => _ | none => _) = _
      rw [hcell]
      refine (ih _ (Nat.sub_lt hpos (firstCell_pos hpos)) _ (by omega) fun p hp =>
        hread p (spanning_sub (by omega) hp)).trans ?_
      rw [List.append_assoc, ← bytesAt_add, Nat.add_sub_cancel' hle]

/-- A write of writable pages in cells puts its bytes, and changes nothing but memory and what is known of its pages
    (R130, R167). -/
theorem writeCells_ok (n : Nat) : ∀ {s : State} {a : Nat} {bs : List Byte} (done : Nat), bs.length = n → a + n ≤ s.memSize →
    (∀ p ∈ spanning 2048 a n, s.pageWritable p = true) →
    ∃ ps, writeCells (cellsOf a n) bs s done = (s.withMem (putBytes s.mem a bs) ps, done + n, .ok) := by
  induction n using Nat.strong_induction_on with
  | _ n ih =>
    intro s a bs done hlen hin hwrite
    rcases Nat.eq_zero_or_pos n with rfl | hpos
    · rw [List.length_eq_zero_iff.mp hlen]
      exact ⟨s.pages, rfl⟩
    · have hle := firstCell_le a n
      have htake : (bs.take (firstCell a n)).length = firstCell a n := by rw [List.length_take]; omega
      obtain ⟨ps, hcell⟩ := memWrite_some (s := s) (a := a) (bs := bs.take (firstCell a n)) (by omega) fun p hp =>
        hwrite p (spanning_sub (k := 0) (m := (bs.take (firstCell a n)).length) (by omega) hp)
      obtain ⟨qs, hrest⟩ := ih _ (Nat.sub_lt hpos (firstCell_pos hpos)) (a := a + firstCell a n)
        (s := s.withMem (putBytes s.mem a (bs.take (firstCell a n))) ps) (bs := bs.drop (firstCell a n))
        (done + firstCell a n) (by rw [List.length_drop, hlen])
        (show _ ≤ s.memSize by omega) fun p hp => hwrite p (spanning_sub (by omega) hp)
      refine ⟨qs, ?_⟩
      rw [cellsOf_cons hpos, writeCells, hcell]
      refine hrest.trans ?_
      have hput := putBytes_append (bs.take (firstCell a n)) (bs.drop (firstCell a n)) s.mem a
      rw [List.take_append_drop, htake] at hput
      rw [hput, Nat.add_assoc, Nat.add_sub_cancel' hle]
      rfl

/-! ### The checks and the completions (R129, R352 to R354) -/

theorem hostCheck_noDomain {s : State} {port : Nat} (h : s.portDomain port = none) (cls : Nat) (r : HostReq) (len : Nat)
    (write : Bool) : hostCheck s port cls r len write = some .noDomain := by
  unfold hostCheck
  rw [h]

/-- A request that passes its checks has the form of R353. -/
theorem formed_of_hostCheck {s : State} {port cls len : Nat} {r : HostReq} {write : Bool}
    (h : hostCheck s port cls r len write = none) : r.formed len (if write then r.count else 0) = true := by
  cases hf : r.formed len (if write then r.count else 0) with
  | true => rfl
  | false =>
    unfold hostCheck at h
    split at h
    · cases h
    · dsimp only at h
      rw [hf] at h
      cases h

/-- The data of a write that passes its checks is COUNT bytes (R353). -/
theorem hostCheck_dataLength {s : State} {port cls : Nat} {r : HostReq} {bs : List Byte}
    (h : hostCheck s port cls r bs.length true = none) : (bs.drop 16).length = r.count := by
  have hformed := formed_of_hostCheck h
  simp only [HostReq.formed, if_pos, Bool.and_eq_true, beq_iff_eq] at hformed
  obtain ⟨-, hlen⟩ := hformed
  rw [List.length_drop, hlen, Nat.add_sub_cancel_left]

section Requests
variable {h : RxHdr} {bs : List Byte} {s u : State}
  (hrx : receive s h (s.portProf h.link == 1 && decide (h.link < 24)) bs.length = (true, u))
include hrx

theorem exec_hostRd_refused {errs : PageErrs} {st : HostStatus}
    (hc : hostCheck u h.link h.cls (hostReq bs) bs.length false = some st) :
    exec (.hostRd h bs errs) s = .next (hostReply u h.link (hostReq bs) st 0 []) := by
  change execHostRd h bs errs s = _
  simp [execHostRd, hrx, hc]

theorem exec_hostWr_refused {st : HostStatus} (hc : hostCheck u h.link h.cls (hostReq bs) bs.length true = some st)
    (hposted : h.posted = false) : exec (.hostWr h bs) s = .next (hostReply u h.link (hostReq bs) st 0 []) := by
  change execHostWr h bs s = _
  simp [execHostWr, hrx, hc, hposted]

theorem exec_hostRd_performed {errs : PageErrs} {v : State} {data : List Byte} {st : HostStatus}
    (hc : hostCheck u h.link h.cls (hostReq bs) bs.length false = none)
    (hp : hostPerformRead u h.link (hostReq bs) errs = (v, data, st)) :
    exec (.hostRd h bs errs) s = .next (hostReply v h.link (hostReq bs) st data.length data) := by
  change execHostRd h bs errs s = _
  simp [execHostRd, hrx, hc, hp]

theorem exec_hostWr_performed {v : State} {done : Nat} (hc : hostCheck u h.link h.cls (hostReq bs) bs.length true = none)
    (hp : hostPerformWrite u h.link (hostReq bs) (bs.drop 16) = (v, done, .ok)) :
    exec (.hostWr h bs) s = .next (if h.posted then v else hostReply v h.link (hostReq bs) .ok done []) := by
  change execHostWr h bs s = _
  simp only [execHostWr, hrx, hc, hp]
  cases h.posted <;> rfl

end Requests

/-! ### What is held while registers, seats and queues change -/

/-- Device memory, the owner record and the request to install one, the attachment of hosts, the key fuses and the flash. -/
structure Held where
  mem : SMap Byte
  owner : Option OwnerRec
  install : Option Install
  attached : Bool
  keyFuses : BitVec 256
  flash : SMap Byte

def State.held (s : State) : Held :=
  { mem := s.mem, owner := s.owner, install := s.install, attached := s.attached, keyFuses := s.keyFuses, flash := s.flash }

/-- What `g` reads of the parts held is as it was. -/
def Keeps {α : Type} (g : Held → α) (s t : State) : Prop := g t.held = g s.held

section
variable {α : Type} {g : Held → α} {s t : State}

theorem Keeps.refl (g : Held → α) (s : State) : Keeps g s s := rfl

theorem Keeps.ite {u : State} {c : Prop} [Decidable c] (h : Keeps g s t) (k : Keeps g s u) :
    Keeps g s (if c then t else u) := by split <;> assumption

theorem Keeps.each {β : Type} {f : State → β → State} {l : List β} (h : Keeps g s t)
    (hf : ∀ u x, Keeps g s u → Keeps g s (f u x)) : Keeps g s (t.each l f) := by
  unfold State.each
  induction l generalizing t with
  | nil => exact h
  | cons x l ih => exact ih (hf t x h)

theorem Keeps.setReg {a v} (h : Keeps g s t) : Keeps g s (t.setReg a v) := h
theorem Keeps.setFld {a hi lo v} (h : Keeps g s t) : Keeps g s (t.setFld a hi lo v) := h
theorem Keeps.setBit {a i b} (h : Keeps g s t) : Keeps g s (t.setBit a i b) := h
theorem Keeps.count {a n} (h : Keeps g s t) : Keeps g s (t.count a n) := h
theorem Keeps.setPhase {p n} (h : Keeps g s t) : Keeps g s (t.setPhase p n) := h
theorem Keeps.modSpare {f} (h : Keeps g s t) : Keeps g s (t.modSpare f) := h
theorem Keeps.setSwath {w e} (h : Keeps g s t) : Keeps g s (t.setSwath w e) := h
theorem Keeps.setRole {e r} (h : Keeps g s t) : Keeps g s (t.setRole e r) := h
theorem Keeps.setSeat {i x} (h : Keeps g s t) : Keeps g s (t.setSeat i x) := h
theorem Keeps.modSeat {i f} (h : Keeps g s t) : Keeps g s (t.modSeat i f) := h
theorem Keeps.setSeatSt {i st} (h : Keeps g s t) : Keeps g s (t.setSeatSt i st) := h.modSeat.ite h.modSeat.setBit

theorem Keeps.assignRoles (h : Keeps g s t) : Keeps g s (assignRoles t) :=
  (h.setReg.setReg.setPhase.modSpare.each fun _ _ h => h.setSwath.setRole).each fun _ _ h => h.setRole

theorem Keeps.assignSeats (h : Keeps g s t) : Keeps g s (assignSeats t) := by
  unfold Machine.assignSeats
  extract_lets u
  have hseats : Keeps g s u := h.each fun _ _ h => h.each fun _ _ h => by
    split
    · exact h.modSeat.ite h
    · exact h
  split
  · exact hseats.modSeat
  · exact hseats

theorem Keeps.engineSeatsOn {e} (h : Keeps g s t) : Keeps g s (engineSeatsOn t e) :=
  h.ite (h.each fun _ _ h => h.modSeat.setSeatSt.ite h)

end

/-! ### Attachment (R116) -/

/-- Hosts attach once RUNPG has risen: the device's roles and seats are assigned and SYS_BOOT shows step 10 (R116, R624). -/
theorem hostsAttach_steps {s : State} (hrun : s.runpg = true) (hatt : s.attached = false) :
    ∃ t, exec .hostsAttach s = .next (((setMode t 0).setFld Reg.SYS_BOOT 3 0 10).modTmp (fun t => { t with tripped := false })) ∧
      Keeps id { s with attached := true } t := by
  have he : exec .hostsAttach s = .next (((setMode ((assignSeats (assignRoles { s with attached := true })).each
      (List.range (assignSeats (assignRoles { s with attached := true })).variant.engines)
      (fun s e => if s.role e = 5 then s else engineSeatsOn s e)) 0).setFld Reg.SYS_BOOT 3 0 10).modTmp
      (fun t => { t with tripped := false })) := congrArg Host.Outcome.next (if_neg (by simp [hrun, hatt]))
  exact ⟨_, he, (Keeps.refl id _).assignRoles.assignSeats.each fun _ _ h => h.ite h.engineSeatsOn⟩

end Sys2Proof.Machine

namespace Sys2Proof.Claims
open Sys2Proof.Machine

section Requests
variable {h : RxHdr} {bs : List Byte} {s u : State}
  (hrx : receive s h (s.portProf h.link == 1 && decide (h.link < 24)) bs.length = (true, u))
include hrx

theorem hostRd_performed (hmem : isControl (hostReq bs).addr = false)
    (hc : hostCheck u h.link h.cls (hostReq bs) bs.length false = none)
    (hin : (hostReq bs).addr + (hostReq bs).count ≤ u.memSize)
    (hread : ∀ p ∈ spanning 2048 (hostReq bs).addr (hostReq bs).count, u.pageReadable p = true) :
    exec (.hostRd h bs []) s = .next (hostReply u h.link (hostReq bs) .ok (hostReq bs).count
      (bytesAt u.mem (hostReq bs).addr (hostReq bs).count)) := by
  have hp : hostPerformRead u h.link (hostReq bs) [] =
      (u, bytesAt u.mem (hostReq bs).addr (hostReq bs).count, .ok) :=
    (if_neg (by simp [hmem])).trans (readCells_ok _ [] hin hread)
  rw [exec_hostRd_performed hrx hc hp, bytesAt_length]

theorem hostWr_performed (hmem : isControl (hostReq bs).addr = false)
    (hc : hostCheck u h.link h.cls (hostReq bs) bs.length true = none)
    (hin : (hostReq bs).addr + (hostReq bs).count ≤ u.memSize)
    (hwrite : ∀ p ∈ spanning 2048 (hostReq bs).addr (hostReq bs).count, u.pageWritable p = true) :
    ∃ ps, exec (.hostWr h bs) s = .next
      (let w := u.withMem (putBytes u.mem (hostReq bs).addr (bs.drop 16)) ps
       if h.posted then w else hostReply w h.link (hostReq bs) .ok (hostReq bs).count []) := by
  obtain ⟨ps, hcells⟩ := writeCells_ok _ (s := u) 0 (hostCheck_dataLength hc) hin hwrite
  rw [Nat.zero_add] at hcells
  exact ⟨ps, exec_hostWr_performed hrx hc ((if_neg (by simp [hmem])).trans hcells)⟩

end Requests

/-- Settles O29. -/
theorem hostRequestsAreCheckedAndPerformed : Obligations.HostRequestsAreCheckedAndPerformed := by
  refine ⟨fun h bs s u hrx => ⟨fun hdom => ⟨?_, fun hposted => ?_⟩, fun hmem hc hin hread => ?_,
    fun hmem hc hin hwrite => ?_⟩, fun s hrun hatt => ?_⟩
  · exact ⟨_, exec_hostRd_refused hrx (hostCheck_noDomain hdom ..), rfl⟩
  · exact ⟨_, exec_hostWr_refused hrx (hostCheck_noDomain hdom ..) hposted, rfl⟩
  · exact ⟨_, hostRd_performed hrx hmem hc hin hread, rfl⟩
  · obtain ⟨ps, hrun⟩ := hostWr_performed hrx hmem hc hin hwrite
    have hlen := hostCheck_dataLength hc
    refine ⟨_, hrun, _, rfl, rfl, ?_, fun b hb => ?_⟩
    · rw [← hlen]; exact bytesAt_putBytes_same ..
    · exact sget_putBytes_outside _ _ _ _ (by rw [hlen]; exact hb)
  · obtain ⟨t, hexec, hheld⟩ := hostsAttach_steps hrun hatt
    exact ⟨_, hexec, congrArg Held.attached hheld,
      State.fld_setFld_same (setMode t 0) Reg.SYS_BOOT 3 0 10 (by decide) (by decide), congrArg Held.mem hheld,
      congrArg Held.owner hheld⟩

end Sys2Proof.Claims
end

section
/-! PROOFS. Resets of the whole device and the supply of AON (R123, R453, R619 to R621): what a reset keeps of the registers, and
each command that ends in one. Statement O33. -/

namespace Sys2Proof.Machine

/-! ### What a reset keeps (R35, R619) -/

theorem sfind_filter_none {β : Type} {p : Nat → Bool} {k : Nat} (h : p k = false) (m : SMap β) :
    sfind k (m.filter (fun e => p e.1)) = none := by
  induction m with
  | nil => rfl
  | cons e m ih =>
    obtain ⟨a, v⟩ := e
    rw [List.filter_cons]
    split
    · next ha => simp [sfind, ih, show a ≠ k from fun e => by simp [e, h] at ha]
    · exact ih

theorem reg_keepAon_aon {a : Nat} (h : blockNumber a = some 26) (s : State) : (keepAon s).reg a = s.reg a := by
  change sget (regReset a) (aonOnly s.regs) a = sget (regReset a) s.regs a
  rw [sget_eq, sget_eq]
  exact congrArg (Option.getD · _) (sfind_filter (p := fun k => blockNumber k == some 26) (by simp [h]) s.regs)

theorem reg_keepAon_other {a : Nat} (h : blockNumber a ≠ some 26) (s : State) : (keepAon s).reg a = regReset a := by
  change sget (regReset a) (aonOnly s.regs) a = regReset a
  rw [sget_eq]
  exact congrArg (Option.getD · _) (sfind_filter_none (p := fun k => blockNumber k == some 26) (by simp [h]) s.regs)

theorem burnCut_idle {s : State} (h : s.burn = .none) : burnCut s = s := by
  unfold burnCut
  rw [h]

/-- A whole-device reset with no burn under way: every island but AON is at its reset, SYS_RSTCAUSE has its cause alone and the
    wake inputs their inactive levels (R619, R621). -/
theorem wholeReset_idle {s : State} (h : s.burn = .none) (k : Nat) :
    wholeReset s k = ((keepAon s).setReg Reg.SYS_RSTCAUSE (BitVec.ofNat 32 (2 ^ k))).setFld Reg.AON_WAKECFG 21 16 0 := by
  unfold wholeReset
  rw [burnCut_idle h]

theorem reg_wholeReset_ne {s : State} (h : s.burn = .none) (k : Nat) {a : Nat} (hcause : a ≠ Reg.SYS_RSTCAUSE)
    (hwake : a ≠ Reg.AON_WAKECFG) : (wholeReset s k).reg a = (keepAon s).reg a := by
  rw [wholeReset_idle h, State.reg_setFld_ne _ hwake, State.reg_setReg_ne _ hcause]

theorem reg_wholeReset_cause {s : State} (h : s.burn = .none) (k : Nat) :
    (wholeReset s k).reg Reg.SYS_RSTCAUSE = BitVec.ofNat 32 (2 ^ k) := by
  rw [wholeReset_idle h, State.reg_setFld_ne _ (by decide), State.reg_setReg_same]

/-- After a whole-device reset the device is in SAFE (R619). -/
theorem safeState_wholeReset {s : State} (h : s.burn = .none) (k : Nat) : (wholeReset s k).safeState = 0 := by
  have hreg : (wholeReset s k).reg Reg.FC_SAFE = 0 := by
    rw [reg_wholeReset_ne h k (by decide) (by decide), reg_keepAon_other (by decide)]
    decide
  rw [State.safeState, State.fld, hreg]
  rfl

/-! ### The commands -/

theorem rstCommand_idle {s : State} (h : s.burn = .none) : rstCommand s = wholeReset s 4 := by
  unfold rstCommand
  rw [h]

theorem rstCommand_burning {s : State} (h : s.burn ≠ .none) : rstCommand s = { s with resetPending := true } := by
  unfold rstCommand
  split
  · next e => exact absurd e h
  · rfl

theorem exec_sysRstCmd_allowed {s : State} {who : Requester} (hctl : s.controlAllowed who Reg.SYS_RST_CMD true = true)
    (hown : s.ownerOrM who = true) : exec (.sysRstCmd who) s = .next (rstCommand s) := by
  change execSysRstCmd who s = _
  simp [execSysRstCmd, hctl, hown]

end Sys2Proof.Machine

namespace Sys2Proof.Claims
open Sys2Proof.Machine

/-- Each of the commands is a whole-device reset with its cause (R619). -/
theorem exec_wholeReset {s : State} {c : Instr} {k : Nat} (h : s.burn = .none)
    (hc : (c = .porNLow ∧ k = 1 ∧ s.groupP = true) ∨ ((c = .vpltUndervoltage ∨ c = .pltpgFall) ∧ k = 2 ∧ s.groupP = true) ∨
      (∃ who, c = .sysRstCmd who ∧ k = 4 ∧ s.controlAllowed who Reg.SYS_RST_CMD true = true ∧ s.ownerOrM who = true)) :
    exec c s = .next (wholeReset s k) := by
  rcases hc with ⟨rfl, rfl, hp⟩ | ⟨rfl | rfl, rfl, hp⟩ | ⟨who, rfl, rfl, hctl, hown⟩
  · exact congrArg Host.Outcome.next (if_pos hp)
  · exact congrArg Host.Outcome.next (if_pos hp)
  · exact congrArg Host.Outcome.next (if_pos hp)
  · rw [exec_sysRstCmd_allowed hctl hown, rstCommand_idle h]

/-- Settles O33. -/
theorem wholeResetsClearAllButAon : Obligations.WholeResetsClearAllButAon := by
  refine ⟨fun s c k h hc => ?_, fun s who h hctl hown => ?_, fun s hp h => ?_, fun s hp => ?_⟩
  · have hstate := wholeReset_idle h k
    refine ⟨_, exec_wholeReset h hc, ?_, ?_, ?_, ?_, ?_, ?_, ?_, ?_, ?_, safeState_wholeReset h k, reg_wholeReset_cause h k,
      fun a ha hwake => ?_, ?_, ?_, ?_, ?_, ?_, ?_⟩
    case refine_10 =>
      have hcause : a ≠ Reg.SYS_RSTCAUSE := fun e => by rw [e] at ha; exact absurd ha (by decide)
      rw [reg_wholeReset_ne h k hcause hwake, reg_keepAon_aon ha]
    all_goals rw [hstate]; rfl
  · exact ⟨_, exec_sysRstCmd_allowed hctl hown, rstCommand_burning h⟩
  · refine ⟨_, congrArg Host.Outcome.next (if_neg hp), rfl, rfl, rfl, rfl, rfl, ?_, ?_, ?_⟩
    all_goals rw [burnCut_idle h]; rfl
  · refine ⟨_, congrArg Host.Outcome.next (if_pos hp), rfl, ?_, ?_⟩
    · have hcause := State.reg_setBit_ne (s.setReg Reg.SYS_RSTCAUSE 1) (show Reg.SYS_RSTCAUSE ≠ Reg.AON_STATUS by decide) 3 true
      exact hcause.trans (State.reg_setReg_same ..)
    · exact State.bit_setBit_same (s.setReg Reg.SYS_RSTCAUSE 1) Reg.AON_STATUS 3 true (by decide)

end Sys2Proof.Claims
end

section
/-! PROOFS. Fuse burns and the installation of owner records (R121 to R123, R127, R128). First what a burn's start and end do,
then what a request writes and answers, then what putting a record in force leaves of the record, the fuses and the flash.
Statement O34. -/

namespace Sys2Proof.Machine

/-! ### Fuse burns (R123) -/

theorem exec_burnKey_allowed {s : State} {who : Requester} (hctl : s.controlAllowed who Reg.SYS_FUSE_CMD true = true)
    (hown : s.ownerOrM who = true) : exec (.burnKey who) s = .next (burnStart s true) := by
  change execBurnKey who s = _
  simp [execBurnKey, hctl, hown]

theorem exec_burnRollback_allowed {s : State} {who : Requester} (hctl : s.controlAllowed who Reg.SYS_FUSE_CMD true = true)
    (hown : s.ownerOrM who = true) : exec (.burnRollback who) s = .next (burnStart s false) := by
  change execBurnRollback who s = _
  simp [execBurnRollback, hctl, hown]

theorem exec_burn_denied {s : State} {who : Requester} (hown : s.ownerOrM who = false) :
    exec (.burnKey who) s = .next { s with out := s.out ++ [.busError who] } ∧
    exec (.burnRollback who) s = .next { s with out := s.out ++ [.busError who] } := by
  change execBurnKey who s = _ ∧ execBurnRollback who s = _
  simp [execBurnKey, execBurnRollback, hown]

theorem burnStart_key {s : State} {r : OwnerRec} (hown : s.owner = some r) (hburn : s.burn = .none) (hopen : s.closed = false) :
    burnStart s true = { s.setBit Reg.SYS_TRUST 3 true with burn := .key (Config.sha512Head r.key) } := by
  unfold burnStart
  rw [hown, hburn]
  simp [hopen]

theorem burnStart_rollback {s : State} {r : OwnerRec} (hown : s.owner = some r) (hburn : s.burn = .none) :
    burnStart s false = { s.setBit Reg.SYS_TRUST 3 true with burn := .rollback r.rollback } := by
  unfold burnStart
  rw [hown, hburn]
  simp

/-- The registers of a burn that reads back: FUSE_BUSY and FUSE_ERR clear, and SYS_TRUST shows whether a key fuse is burned. -/
def burnEndRegs (s : State) (key : BitVec 256) : State :=
  ((s.setBit Reg.SYS_TRUST 3 false).setBit Reg.SYS_TRUST 0 (s.keyFuses ||| key != 0)).setBit Reg.SYS_TRUST 4 false

theorem burnApply_ok {s : State} {k : BitVec 256} {r : BitVec 64} (h : burnBits s = (k, r)) :
    (burnApply s none).setBit Reg.SYS_TRUST 4 false =
    { burnEndRegs s k with keyFuses := s.keyFuses ||| k, rollFuses := s.rollFuses ||| r, burn := .none } := by
  unfold burnApply
  rw [h]
  rfl

theorem burnBits_key {s : State} {h : BitVec 256} (hburn : s.burn = .key h) : burnBits s = (h, 0) := by
  unfold burnBits
  rw [hburn]

theorem burnBits_rollback {s : State} {n : Nat} (hburn : s.burn = .rollback n) :
    burnBits s = (0, BitVec.ofNat 64 (2 ^ n - 1)) := by
  unfold burnBits
  rw [hburn]

/-- A burn that reads back ends as `burnApply` says, where no reset waits for it. -/
theorem exec_fuseBurnEnd_ok {s : State} (hburn : s.burn ≠ .none) (hreset : s.resetPending = false) :
    exec (.fuseBurnEnd true) s = .next ((burnApply s none).setBit Reg.SYS_TRUST 4 false) := by
  have hpending : ((burnApply s none).setBit Reg.SYS_TRUST 4 false).resetPending = false := hreset
  refine congrArg Host.Outcome.next ?_
  split
  · next e => exact absurd e hburn
  · dsimp only
    rw [if_pos rfl]
    exact if_neg (by rw [hpending]; decide)

/-! ### Requests to install a record (R127) -/

theorem controlAllowed_debug {s : State} {a b : Nat} (h : blockNumber a = some b) (write : Bool) :
    s.controlAllowed .debug a write = true := by
  unfold State.controlAllowed
  rw [h]
  rfl

theorem respond_allowed {w : Requester} {c : Prop} [Decidable c] (h : c) (s t : State) :
    respond w (if c then (t, true) else (s, false)) = t := by
  rw [if_pos h, respond_done]

theorem exec_ownerInstall_debug (lo hi : W32) (errs : PageErrs) (s : State) :
    exec (.ownerInstall .debug lo hi errs) s = .next (ownerInstall s .debug lo hi errs) := by
  have hctl : s.controlAllowed .debug Reg.SYS_OWN_INSTALL_HI true = true := controlAllowed_debug rfl true
  have hexec : exec (.ownerInstall .debug lo hi errs) s = .next (respond .debug
      (if s.controlAllowed .debug Reg.SYS_OWN_INSTALL_HI true && s.ownerOrM .debug then
        (ownerInstall s .debug lo hi errs, true) else (s, false))) := rfl
  rw [hexec, respond_allowed (by rw [hctl]; rfl)]

/-- A request of M mode whose record lies in device memory under its tag and can be read is checked (R121, R127). -/
theorem ownerInstall_checked {lo hi : W32} {s : State} (hbusy : s.bit Reg.SYS_OWN_STATUS 8 = false)
    (hin : lo.toNat + 2 ^ 32 * fbits hi 15 0 + 1792 ≤ s.memSize)
    (htag : s.tagsMatch (lo.toNat + 2 ^ 32 * fbits hi 15 0) 1792 (BitVec.ofNat 14 (fbits hi 29 16)) = true)
    (hread : ∀ p ∈ spanning 2048 (lo.toNat + 2 ^ 32 * fbits hi 15 0) 1792, s.pageReadable p = true) :
    ownerInstall s .debug lo hi [] =
      let bs := bytesAt s.mem (lo.toNat + 2 ^ 32 * fbits hi 15 0) 1792
      if recordCode s true bs ≠ 0 then ownStatus s .debug (recordCode s true bs) false
      else if pressShrinks s (parseRecord bs) then ownStatus s .debug 0x0C false
      else { ownStatus s .debug 0 true with install := some { record := parseRecord bs } } := by
  have hmem := memRead_some hin hread
  unfold ownerInstall
  -- the length stays a variable: the kernel must not count it down
  obtain ⟨n, hn⟩ : ∃ n, n = 1792 := ⟨_, rfl⟩
  rw [← hn] at hin htag hmem ⊢
  rw [if_neg (by simp [hbusy])]
  extract_lets a kt inRange bs
  have hok : (inRange && s.inMemory a n && s.tagsMatch a n kt) = true := by
    simp only [Bool.and_eq_true]
    exact ⟨⟨rfl, decide_eq_true hin⟩, htag⟩
  rw [if_neg (by rw [hok]; decide)]
  change (match s.memRead a n with | none => _ | some bs => _) = _
  rw [hmem]
  rfl

/-- A field depends on its own bits alone. -/
theorem fbits_congr {n : Nat} {w x : BitVec n} {hi lo : Nat} (h : ∀ k, lo ≤ k → k ≤ hi → w.getLsbD k = x.getLsbD k) :
    fbits w hi lo = fbits x hi lo := by
  refine Nat.eq_of_testBit_eq fun k => ?_
  unfold fbits
  rw [Nat.testBit_mod_two_pow, Nat.testBit_mod_two_pow, Nat.testBit_div_two_pow, Nat.testBit_div_two_pow]
  by_cases hk : k < hi + 1 - lo
  · simpa [hk, BitVec.getLsbD] using h (k + lo) (by omega) (by omega)
  · simp [hk]

/-- The word of a request's answer: CODE, BUSY, and who asked. -/
def answerWord (r : W32) (code : Nat) (busy : Bool) (who : Nat) (m : Bool) : W32 :=
  fsetb (fset (fsetb (fset r 7 0 code) 8 busy) 11 9 who) 12 m

theorem answerWord_busy (r : W32) (code : Nat) (busy : Bool) (who : Nat) (m : Bool) :
    fbit (answerWord r code busy who m) 8 = busy := by
  unfold answerWord
  rw [fbit_fsetb_ne _ _ (by decide) (by decide), fbit, getLsbD_fset _ _ _ _ _ (by decide) (by decide), if_neg (by decide)]
  exact fbit_fsetb_same _ _ _ (by decide)

theorem answerWord_code (r : W32) {code : Nat} (h : code < 256) (busy : Bool) (who : Nat) (m : Bool) :
    fbits (answerWord r code busy who m) 7 0 = code := by
  have hbits : fbits (answerWord r code busy who m) 7 0 = fbits (fset r 7 0 code) 7 0 := fbits_congr fun k _ hk => by
    change fbit (answerWord r code busy who m) k = _
    unfold answerWord
    rw [fbit_fsetb_ne _ _ (by decide) (by omega), fbit, getLsbD_fset _ _ _ _ _ (by decide) (by decide), if_neg (by omega)]
    exact fbit_fsetb_ne _ _ (by decide) (by omega)
  rw [hbits, fbits_fset_same _ _ _ _ (by decide) (by decide)]
  exact Nat.mod_eq_of_lt h

theorem ownStatus_word (s : State) (w : Requester) (code : Nat) (busy : Bool) : ∃ who m, ownStatus s w code busy =
    s.setReg Reg.SYS_OWN_STATUS (answerWord (s.reg Reg.SYS_OWN_STATUS) code busy who m) := by
  unfold ownStatus
  dsimp only
  split
  · exact ⟨0, true, rfl⟩
  · exact ⟨_, false, rfl⟩

/-- A request is answered by BUSY and its code, and no register but SYS_OWN_STATUS changes (R127). -/
theorem ownStatus_answers (s : State) (w : Requester) {code : Nat} (hcode : code < 256) (busy : Bool) :
    RegsOnly s (ownStatus s w code busy) ∧ (ownStatus s w code busy).bit Reg.SYS_OWN_STATUS 8 = busy ∧
    (ownStatus s w code busy).fld Reg.SYS_OWN_STATUS 7 0 = code ∧
    ∀ b, b ≠ Reg.SYS_OWN_STATUS → (ownStatus s w code busy).reg b = s.reg b := by
  obtain ⟨who, m, h⟩ := ownStatus_word s w code busy
  rw [h, State.bit, State.fld, State.reg_setReg_same]
  exact ⟨rfl, answerWord_busy .., answerWord_code _ hcode .., fun b hb => State.reg_setReg_ne _ hb _⟩

/-- The answer to a request whose record is held for installation. -/
theorem ownStatus_holds (s : State) (w : Requester) {code : Nat} (hcode : code < 256) (busy : Bool) (i : Option Install) :
    let t := { ownStatus s w code busy with install := i }
    t = { s with regs := t.regs, install := i } ∧ t.bit Reg.SYS_OWN_STATUS 8 = busy ∧ t.fld Reg.SYS_OWN_STATUS 7 0 = code ∧
    ∀ b, b ≠ Reg.SYS_OWN_STATUS → t.reg b = s.reg b := by
  obtain ⟨hregs, hbit, hfld, hother⟩ := ownStatus_answers s w hcode busy
  have hframe := congrArg (fun u : State => { u with install := i }) hregs
  refine ⟨hframe, ?_, ?_, ?_⟩
  · exact hbit
  · exact hfld
  · exact hother

/-- The checks of R121 have codes of one byte. -/
theorem recordCode_lt (s : State) (inService : Bool) (bs : List Byte) : recordCode s inService bs < 256 := by
  unfold recordCode
  extract_lets r ds checks
  have hcodes : ∀ c ∈ checks, c.1 < 256 := by simp [checks]
  split
  next c e => exact hcodes c (List.mem_of_find?_eq_some e)
  next => decide

/-! ### Putting a record in force (R128) -/

section
variable {α : Type} {g : Held → α} {s t : State}

theorem Keeps.setDom {d x} (h : Keeps g s t) : Keeps g s (t.setDom d x) := h
theorem Keeps.setTag {n x} (h : Keeps g s t) : Keeps g s (t.setTag n x) := h
theorem Keeps.setHaltReq {x} (h : Keeps g s t) : Keeps g s { t with haltReq := x } := h
theorem Keeps.modCls {k c f} (h : Keeps g s t) : Keeps g s (t.modCls k c f) := h

theorem Keeps.withdrawEvents {i} (h : Keeps g s t) : Keeps g s (withdrawEvents t i) := (h.each fun _ _ h => h.setDom).modSeat

theorem Keeps.stopDone {i} (h : Keeps g s t) : Keeps g s (stopDone t i) := by
  unfold Machine.stopDone
  split
  · exact h.setReg.modSeat
  · exact h

theorem Keeps.seatOff {i} (h : Keeps g s t) : Keeps g s (seatOff t i) := by
  unfold Machine.seatOff
  refine .setSeatSt (.modSeat (.setHaltReq ?_))
  split
  · exact h.withdrawEvents.stopDone.setTag
  · exact h.withdrawEvents.stopDone

theorem Keeps.routesClear {i} (h : Keeps g s t) : Keeps g s (routesClear t i) := by
  have hclear : ∀ {u : State} {a : Nat}, Keeps g s u → Keeps g s
      (if u.bit a 11 && (if u.bit a 10 then plantSeat else u.fld a 9 0) == i then u.setBit a 11 false else u) :=
    fun h => h.setBit.ite h
  exact hclear ((h.each fun _ _ h => h.each fun _ _ h => hclear h).each fun _ _ h => h.each fun _ _ h => hclear h)

theorem Keeps.seatLeave {i} (h : Keeps g s t) : Keeps g s (seatLeave t i) := h.routesClear.seatOff.setSeat

theorem Keeps.capShares {r} (h : Keeps g s t) : Keeps g s (capShares t r) :=
  h.each fun _ _ h => h.each fun _ _ h => h.setFld

theorem Keeps.enqueue {k f fwd} (h : Keeps g s t) : Keeps g s (enqueue t k f fwd) := (h.count.ite h).ite h.modCls

theorem Keeps.evtFrame {d rtype seq} (h : Keeps g s t) : Keeps g s (evtFrame t d rtype seq) := by
  unfold Machine.evtFrame
  split
  · exact h
  · exact h.enqueue.ite h.count

theorem Keeps.setOwner {x y} (h : Keeps (fun h => (h.keyFuses, h.flash)) s t) :
    Keeps (fun h => (h.keyFuses, h.flash)) s { t with owner := x, install := y } := h

section Memory
variable (hg : ∀ h m, g { h with mem := m } = g h)
include hg

theorem Keeps.granuleLeave (n : Nat) (h : Keeps g s t) : Keeps g s (granuleLeave t n) := (hg t.held _).trans h

theorem Keeps.memWrite {u : State} {a : Nat} {bs : List Byte} (h : Keeps g s t) (e : t.memWrite a bs = some u) :
    Keeps g s u := by
  have hu : u.held = { t.held with mem := u.mem } := by rw [memWrite_storesOnly e]; rfl
  unfold Keeps
  rw [hu, hg]
  exact h

theorem Keeps.notify (d rtype : Nat) (body : List Byte) (h : Keeps g s t) : Keeps g s (notify t d rtype body) := by
  unfold Machine.notify
  refine .ite h.setDom.count (.ite h.setDom.setBit.count (.ite ?_ h.setDom.setBit.setBit))
  split
  next _ e => exact (h.setDom.memWrite hg e).setReg.evtFrame
  next => exact h.setDom.setBit.setBit

end Memory
end

/-- The record put in force is in force, and no request is left (R128). -/
theorem installApply_owner (s : State) (r : OwnerRec) :
    (installApply s r).owner = some r ∧ (installApply s r).install = none := by
  have h : ∃ u : State, u.owner = some r ∧ u.install = none ∧ Keeps (fun h => (h.owner, h.install)) u (installApply s r) := by
    unfold installApply
    extract_lets moves s₁ s₂ s₃
    refine ⟨{ s₃.setBit Reg.SYS_TRUST 1 false with owner := some r, install := none }, rfl, rfl, ?_⟩
    exact .each (.setFld (.setBit (.setReg (.each (.capShares (.assignSeats (.refl _ _))) fun _ _ h =>
      h.engineSeatsOn.ite h)))) fun _ d h => h.ite (h.notify (fun _ _ => rfl) d _ _)
  obtain ⟨u, howner, hinstall, hkeeps⟩ := h
  simpa only [Keeps, State.held, Prod.mk.injEq, howner, hinstall] using hkeeps

/-- Putting a record in force leaves the fuses and the flash (R128). -/
theorem installApply_fuses (s : State) (r : OwnerRec) :
    (installApply s r).keyFuses = s.keyFuses ∧ (installApply s r).flash = s.flash := by
  have h : Keeps (fun h => (h.keyFuses, h.flash)) s (installApply s r) := by
    unfold installApply
    refine .each (.setFld (.setBit (.setReg (.each (.capShares (.assignSeats (.setOwner (.setBit (.each (.ite
      (.routesClear ?_) ?_) fun _ n h => h.granuleLeave (fun _ _ => rfl) n))))) fun _ _ h => h.engineSeatsOn.ite h))))
      fun _ d h => h.ite (h.notify (fun _ _ => rfl) d _ _)
    all_goals
      refine (Keeps.refl _ s).each fun _ _ h => h.each fun _ _ h => ?_
      split
      · exact h.ite h.seatLeave
      · exact h
  simpa only [Keeps, State.held, Prod.mk.injEq] using h

end Sys2Proof.Machine

namespace Sys2Proof.Claims
open Sys2Proof.Machine

/-- Ending a burn changes SYS_TRUST alone of the registers. -/
theorem burnEndRegs_trust (s : State) (k : BitVec 256) :
    RegsOnly s (burnEndRegs s k) ∧ (burnEndRegs s k).bit Reg.SYS_TRUST 3 = false ∧
    (burnEndRegs s k).bit Reg.SYS_TRUST 4 = false ∧
    (burnEndRegs s k).bit Reg.SYS_TRUST 0 = (s.keyFuses ||| k != 0) ∧
    ∀ a, a ≠ Reg.SYS_TRUST → (burnEndRegs s k).reg a = s.reg a := by
  unfold burnEndRegs
  refine ⟨rfl, ?_, State.bit_setBit_same _ _ _ _ (by decide), ?_, fun a ha => ?_⟩
  · rw [State.bit_setBit_ne _ _ _ (by decide) (by decide), State.bit_setBit_ne _ _ _ (by decide) (by decide),
      State.bit_setBit_same _ _ _ _ (by decide)]
  · rw [State.bit_setBit_ne _ _ _ (by decide) (by decide), State.bit_setBit_same _ _ _ _ (by decide)]
  · rw [State.reg_setBit_ne _ ha, State.reg_setBit_ne _ ha, State.reg_setBit_ne _ ha]

theorem burn_starts {who : Requester} {r : OwnerRec} {s : State} (howner : s.owner = some r) (hburn : s.burn = .none)
    (hctl : s.controlAllowed who Reg.SYS_FUSE_CMD true = true) (hown : s.ownerOrM who = true) :
    (s.closed = false → Completes (.burnKey who) s (fun t => t = { s with burn := .key (Config.sha512Head r.key), regs := t.regs } ∧
      t.bit Reg.SYS_TRUST 3 = true ∧ ∀ a, a ≠ Reg.SYS_TRUST → t.reg a = s.reg a)) ∧
    Completes (.burnRollback who) s (fun t => t = { s with burn := .rollback r.rollback, regs := t.regs } ∧
      t.bit Reg.SYS_TRUST 3 = true ∧ ∀ a, a ≠ Reg.SYS_TRUST → t.reg a = s.reg a) := by
  have hbusy := State.bit_setBit_same s Reg.SYS_TRUST 3 true (by decide)
  have hother : ∀ a, a ≠ Reg.SYS_TRUST → (s.setBit Reg.SYS_TRUST 3 true).reg a = s.reg a :=
    fun a ha => State.reg_setBit_ne s ha 3 true
  refine ⟨fun hopen => ⟨_, exec_burnKey_allowed hctl hown, ?_⟩, _, exec_burnRollback_allowed hctl hown, ?_⟩
  · rw [burnStart_key howner hburn hopen]
    exact ⟨rfl, hbusy, hother⟩
  · rw [burnStart_rollback howner hburn]
    exact ⟨rfl, hbusy, hother⟩

theorem keyBurn_ends {k : BitVec 256} {s : State} (hburn : s.burn = .key k) (hreset : s.resetPending = false) :
    Completes (.fuseBurnEnd true) s (fun t => t = { s with burn := .none, keyFuses := s.keyFuses ||| k, regs := t.regs } ∧
      t.bit Reg.SYS_TRUST 3 = false ∧ t.bit Reg.SYS_TRUST 4 = false ∧ t.bit Reg.SYS_TRUST 0 = t.closed ∧
      ∀ a, a ≠ Reg.SYS_TRUST → t.reg a = s.reg a) := by
  have hroll : s.rollFuses ||| (0 : BitVec 64) = s.rollFuses := BitVec.or_zero
  obtain ⟨-, hbusy, herr, hclosed, hother⟩ := burnEndRegs_trust s k
  refine ⟨_, exec_fuseBurnEnd_ok (by rw [hburn]; exact Burn.noConfusion) hreset, ?_⟩
  rw [burnApply_ok (burnBits_key hburn), hroll]
  refine ⟨?_, ?_, ?_, ?_, ?_⟩
  · rfl
  · exact hbusy
  · exact herr
  · exact hclosed
  · exact hother

theorem rollbackBurn_ends {n : Nat} {s : State} (hburn : s.burn = .rollback n) (hreset : s.resetPending = false) :
    Completes (.fuseBurnEnd true) s (fun t =>
      t = { s with burn := .none, rollFuses := s.rollFuses ||| BitVec.ofNat 64 (2 ^ n - 1), regs := t.regs }) := by
  have hkey : s.keyFuses ||| (0 : BitVec 256) = s.keyFuses := BitVec.or_zero
  refine ⟨_, exec_fuseBurnEnd_ok (by rw [hburn]; exact Burn.noConfusion) hreset, ?_⟩
  rw [burnApply_ok (burnBits_rollback hburn), hkey]
  rfl

theorem installRequest_answered {lo hi : W32} {s : State} (hbusy : s.bit Reg.SYS_OWN_STATUS 8 = false)
    (hin : lo.toNat + 2 ^ 32 * fbits hi 15 0 + 1792 ≤ s.memSize)
    (htag : s.tagsMatch (lo.toNat + 2 ^ 32 * fbits hi 15 0) 1792 (BitVec.ofNat 14 (fbits hi 29 16)) = true)
    (hread : ∀ p ∈ spanning 2048 (lo.toNat + 2 ^ 32 * fbits hi 15 0) 1792, s.pageReadable p = true) :
    let bs := bytesAt s.mem (lo.toNat + 2 ^ 32 * fbits hi 15 0) 1792
    (recordCode s true bs = 0 → pressShrinks s (parseRecord bs) = false → Completes (.ownerInstall .debug lo hi []) s (fun t =>
      t = { s with regs := t.regs, install := some { record := parseRecord bs } } ∧ t.bit Reg.SYS_OWN_STATUS 8 = true ∧
      t.fld Reg.SYS_OWN_STATUS 7 0 = 0 ∧ ∀ b, b ≠ Reg.SYS_OWN_STATUS → t.reg b = s.reg b)) ∧
    (recordCode s true bs ≠ 0 → Completes (.ownerInstall .debug lo hi []) s (fun t => RegsOnly s t ∧
      t.bit Reg.SYS_OWN_STATUS 8 = false ∧ t.fld Reg.SYS_OWN_STATUS 7 0 = recordCode s true bs ∧
      ∀ b, b ≠ Reg.SYS_OWN_STATUS → t.reg b = s.reg b)) := by
  intro bs
  refine ⟨fun hcode hpress => ⟨_, exec_ownerInstall_debug lo hi [] s, ?_⟩,
    fun hcode => ⟨_, exec_ownerInstall_debug lo hi [] s, ?_⟩⟩
  · have hchecked : ownerInstall s .debug lo hi [] =
        { ownStatus s .debug 0 true with install := some { record := parseRecord bs } } :=
      (ownerInstall_checked hbusy hin htag hread).trans ((if_neg (not_not.mpr hcode)).trans (if_neg (by rw [hpress]; decide)))
    rw [hchecked]
    exact ownStatus_holds s .debug (by decide) true _
  · rw [(ownerInstall_checked hbusy hin htag hread).trans (if_pos hcode)]
    exact ownStatus_answers s .debug (recordCode_lt ..) false

theorem exec_ownerInstallApply {s : State} {i : Install} (h : s.install = some i) :
    exec .ownerInstallApply s = .next (installApply s i.record) := by
  change execOwnerInstallApply s = _
  rw [execOwnerInstallApply, h]

theorem exec_ownerInstallApply_none {s : State} (h : s.install = none) : exec .ownerInstallApply s = .next s := by
  change execOwnerInstallApply s = _
  rw [execOwnerInstallApply, h]

/-- Settles O34. -/
theorem fusesAndOwnerRecordsFollowTheirRules : Obligations.FusesAndOwnerRecordsFollowTheirRules := by
  refine ⟨⟨fun who r s howner hburn hctl hown => burn_starts howner hburn hctl hown,
    fun k s hburn hreset => keyBurn_ends hburn hreset, fun n s _ hburn hreset => rollbackBurn_ends hburn hreset,
    fun who s hown => ?denied⟩, fun lo hi s hbusy => ?request, fun i s h => ?apply, fun s h => ?idle⟩
  case denied => exact ⟨⟨_, (exec_burn_denied hown).1, rfl⟩, _, (exec_burn_denied hown).2, rfl⟩
  case request => exact fun hin htag hread => installRequest_answered hbusy hin htag hread
  case apply =>
    obtain ⟨howner, hinstall⟩ := installApply_owner s i.record
    exact ⟨_, exec_ownerInstallApply h, howner, hinstall, installApply_fuses s i.record⟩
  case idle => exact ⟨_, exec_ownerInstallApply_none h, rfl⟩

end Sys2Proof.Claims
end

section
/-! PROOFS. Throttle class A (R147, R577, R578), temperature samples and history (R570 to R573), supply sag and rails (R581 to
R583), and clocks (R585 to R587): which registers and which records of the group managers each command changes. Statement O38. -/

namespace Sys2Proof.Machine

/-! ### Registers and the group managers' records -/

/-- Only registers and the group managers' records differ. -/
def RegsTmp (s t : State) : Prop := t = { s with regs := t.regs, tmp := t.tmp }

section
variable {s t u : State}

theorem RegsTmp.refl (s : State) : RegsTmp s s := rfl

theorem RegsTmp.trans (h : RegsTmp s t) (k : RegsTmp t u) : RegsTmp s u := by
  unfold RegsTmp at *
  rw [k, h]

theorem RegsTmp.setReg (h : RegsTmp s t) (a : Nat) (v : W32) : RegsTmp s (t.setReg a v) := h.trans rfl
theorem RegsTmp.setFld (h : RegsTmp s t) (a hi lo v : Nat) : RegsTmp s (t.setFld a hi lo v) := h.trans rfl
theorem RegsTmp.setBit (h : RegsTmp s t) (a i : Nat) (b : Bool) : RegsTmp s (t.setBit a i b) := h.trans rfl
theorem RegsTmp.modTmp (h : RegsTmp s t) (f : Tmp → Tmp) : RegsTmp s (t.modTmp f) := h.trans rfl

end

theorem each_range_succ (s : State) (n : Nat) (f : State → Nat → State) :
    s.each (List.range (n + 1)) f = f (s.each (List.range n) f) n := by
  unfold State.each
  rw [List.range_succ, List.foldl_append]
  rfl

theorem each_self {α : Type} {s : State} {f : State → α → State} (h : ∀ x, f s x = s) (l : List α) : s.each l f = s := by
  unfold State.each
  induction l with
  | nil => rfl
  | cons x l ih => rw [List.foldl_cons, h x]; exact ih

/-! ### Notification of job domains (R147) -/

/-- With no job domain, a record of throttle class A goes to none (R147). -/
theorem throttleRecord_noJobs {s : State} (h : ∀ d, (s.domain d).role ≠ 2) (rtype g : Nat) (ks : List Nat) :
    throttleRecord s rtype g ks = s := by
  unfold throttleRecord
  dsimp only
  split
  · rfl
  · exact each_self (fun d => if_neg (by simp [tenantOn, h d])) _

/-- Only a record in force makes a domain a job domain. -/
theorem noJobs_of_owner {s t : State} (ho : t.owner = s.owner) (h : ∀ d, (s.domain d).role ≠ 2) (d : Nat) :
    (t.domain d).role ≠ 2 := by
  have hd := h d
  unfold State.domain at hd ⊢
  rw [ho]
  cases he : s.owner with
  | some r => rw [he] at hd; exact hd
  | none => dsimp only; split <;> decide

/-! ### Caps (R578) -/

/-- One group's part in the CAP a core is due. -/
def capStep (s : State) (k m g : Nat) : Nat :=
  if sget false s.tmp.enforced (60 * g + k) then
    match sget none s.throttles g with
    | some t => min m t.target
    | none => m
  else m

theorem capTarget_fold (s : State) (k : Nat) : capTarget s k = (List.range 16).foldl (capStep s k) 192 := rfl

theorem capStep_le (s : State) (k m g : Nat) : capStep s k m g ≤ m := by
  unfold capStep
  split
  · split
    · exact Nat.min_le_left ..
    · exact Nat.le_refl m
  · exact Nat.le_refl m

theorem foldl_capStep_le (s : State) (k : Nat) (l : List Nat) : ∀ m, l.foldl (capStep s k) m ≤ m := by
  induction l with
  | nil => exact Nat.le_refl
  | cons g l ih => exact fun m => (ih _).trans (capStep_le s k m g)

theorem capTarget_le (s : State) (k : Nat) : capTarget s k ≤ 192 := foldl_capStep_le s k _ 192

/-- A core's due CAP is at most the TARGET of each group that enforces on it. -/
theorem capTarget_le_target {s : State} {k g : Nat} {t : Throttle} (hg : g < 16) (he : sget false s.tmp.enforced (60 * g + k) = true)
    (ht : sget none s.throttles g = some t) : capTarget s k ≤ t.target := by
  obtain ⟨l, l', hl⟩ := List.append_of_mem (List.mem_range.mpr hg)
  rw [capTarget_fold, hl, List.foldl_append, List.foldl_cons]
  refine (foldl_capStep_le s k l' _).trans ?_
  unfold capStep
  rw [if_pos he, ht]
  exact Nat.min_le_right ..

theorem capTarget_congr {s t : State} (he : t.tmp.enforced = s.tmp.enforced) (ht : t.throttles = s.throttles) (k : Nat) :
    capTarget t k = capTarget s k := by
  unfold capTarget
  rw [he, ht]

/-- A core's CAP takes the value due, and its update is due no more (R578). -/
theorem capApply_cap (s : State) (k : Nat) : RegsTmp s (capApply s k) ∧ (capApply s k).cap k = capTarget s k ∧
    (capApply s k).tmp.enforced = s.tmp.enforced ∧ sget false (capApply s k).tmp.capDue k = false := by
  have hlt : capTarget s k < 2 ^ 8 := (capTarget_le s k).trans_lt (by decide)
  unfold capApply
  dsimp only
  split
  next h => exact ⟨rfl, h.symm, rfl, sget_sset_same false s.tmp.capDue k false⟩
  next =>
    refine ⟨rfl, ?_, rfl, sget_sset_same false s.tmp.capDue k false⟩
    exact (State.fld_setFld_same (s.modTmp _) _ 23 16 _ (by decide) (by decide)).trans (Nat.mod_eq_of_lt hlt)

theorem capChange_first {s : State} {k : Nat} (h : sget none s.tmp.capAt k = none) : capChange s k = capApply s k := by
  unfold capChange
  rw [h]

/-! ### Measuring tenant use (R147, R577) -/

/-- The cores of the group that use more than TARGET and on which it does not enforce yet. -/
def coresOver (s : State) (g target : Nat) (means : List (Nat × Nat)) : List Nat :=
  (groupCores s g).filter (fun k => !sget false s.tmp.enforced (60 * g + k) && means.any (fun m => m.1 == k && decide (target < m.2)))

/-- The group enforces on these cores too. -/
def enforceOn (s : State) (g : Nat) (ks : List Nat) : State :=
  s.modTmp (fun m => { m with enforced := ks.foldl (fun e k => sset false e (60 * g + k) true) m.enforced })

theorem throttleMeasure_eq {s : State} {g : Nat} {t : Throttle} (h : sget none s.throttles g = some t) (means : List (Nat × Nat)) :
    throttleMeasure s g means =
      throttleRecord ((enforceOn s g (coresOver s g t.target means)).each (coresOver s g t.target means) capChange) 2 g
        (coresOver s g t.target means) := by
  unfold throttleMeasure
  rw [h]
  rfl

theorem coresOver_nil {s : State} {g target : Nat} {means : List (Nat × Nat)} (h : ∀ m ∈ means, m.2 ≤ target) :
    coresOver s g target means = [] := by
  refine List.filter_eq_nil_iff.mpr fun k _ => ?_
  have hany : means.any (fun m => m.1 == k && decide (target < m.2)) = false := by
    simp only [List.any_eq_false, Bool.and_eq_true, decide_eq_true_eq, not_and]
    exact fun m hm _ => Nat.not_lt.mpr (h m hm)
  simp [hany]

theorem allCores (n : Nat) :
    (List.range n).flatMap (fun e => (List.range 12).map (fun c => 12 * e + c)) = List.range (12 * n) := by
  induction n with
  | zero => rfl
  | succ n ih => rw [List.range_succ (n := n), List.flatMap_append, ih, Nat.mul_succ, List.range_add]; simp

theorem groupCores_nodup (s : State) (g : Nat) : (groupCores s g).Nodup := by
  unfold groupCores
  dsimp only
  rw [allCores]
  split
  · exact List.nodup_range.filter _
  · split
    · exact List.nodup_nil
    · exact List.nodup_range

/-- A single core over TARGET is the one core enforced. -/
theorem coresOver_single {s : State} {g target k m : Nat} (hk : k ∈ groupCores s g)
    (he : sget false s.tmp.enforced (60 * g + k) = false) (hm : target < m) : coresOver s g target [(k, m)] = [k] := by
  have hfilter : coresOver s g target [(k, m)] = (groupCores s g).filter (fun j => decide (j = k)) := by
    refine List.filter_congr fun j _ => ?_
    by_cases hj : j = k
    · subst hj; simp [he, hm]
    · simp [hj, Ne.symm hj]
  rw [hfilter]
  refine List.perm_singleton.mp ((List.perm_ext_iff_of_nodup ((groupCores_nodup s g).filter _) (List.nodup_singleton k)).mpr
    fun j => ?_)
  simp only [List.mem_filter, decide_eq_true_eq, List.mem_singleton]
  exact ⟨And.right, fun h => ⟨h ▸ hk, h⟩⟩

/-- Both commands that measure run on a state in which the group enforces with its TARGET (R147, R577). -/
theorem exec_throttle {s : State} {g : Nat} {means : List (Nat × Nat)} {th : Throttle} {c : Instr}
    (hth : sget none s.throttles g = some th)
    (hc : (c = .throttleGraceEnd g means ∧ th.enforced = false) ∨ (c = .throttleRemeasure g means ∧ th.enforced = true)) :
    ∃ m : SMap (Option Throttle), exec c s = .next (throttleMeasure { s with throttles := m } g means) ∧
      sget none m g = some { th with enforced := true } ∧ ∀ j, j ≠ g → sget none m j = sget none s.throttles j := by
  rcases hc with ⟨rfl, he⟩ | ⟨rfl, he⟩
  · refine ⟨sset none s.throttles g (some { th with enforced := true }), ?_, sget_sset_same _ _ _ _,
      fun j hj => sget_sset_ne _ _ _ hj _⟩
    change execThrottleGraceEnd g means s = _
    simp [execThrottleGraceEnd, hth, he]
  · refine ⟨s.throttles, ?_, ?_, fun _ _ => rfl⟩
    · change execThrottleRemeasure g means s = _
      simp [execThrottleRemeasure, hth, he]
    · rw [hth, ← he]

/-! ### Supply sag and clocks (R581 to R587) -/

theorem setStretch_shows (s : State) (i k : Nat) (recover : Bool) : RegsTmp s (setStretch s i k recover) ∧
    sget 0 (setStretch s i k recover).tmp.stretch i = k ∧
    (setStretch s i k recover).bit (Reg.TMP_DROOPi i) 8 = decide (0 < k) ∧
    (setStretch s i k recover).bit (Reg.TMP_DROOPi i) 9 = (recover && decide (0 < k)) ∧
    ∀ a, a ≠ Reg.TMP_DROOPi i → (setStretch s i k recover).reg a = s.reg a := by
  unfold setStretch
  refine ⟨rfl, sget_sset_same _ _ _ _, ?_, State.bit_setBit_same _ _ _ _ (by decide), fun a ha => ?_⟩
  · rw [State.bit_setBit_ne _ _ _ (by decide) (by decide), State.bit_setBit_same _ _ _ _ (by decide)]
  · rw [State.reg_setBit_ne _ ha, State.reg_setBit_ne _ ha]
    rfl

/-- The first `n` bits of a register are cleared, and nothing else. -/
theorem clearBits (s : State) (a : Nat) (n : Nat) (hn : n ≤ 32) :
    let t := s.each (List.range n) (fun s i => s.setBit a i false)
    RegsTmp s t ∧ t.tmp = s.tmp ∧ (∀ i, i < 32 → t.bit a i = (decide (n ≤ i) && s.bit a i)) ∧ ∀ b, b ≠ a → t.reg b = s.reg b := by
  induction n with
  | zero => exact ⟨rfl, rfl, fun i _ => by simp [State.each], fun _ _ => rfl⟩
  | succ n ih =>
    obtain ⟨hframe, htmp, hbits, hother⟩ := ih (by omega)
    dsimp only
    rw [each_range_succ]
    refine ⟨hframe.setBit .., htmp, fun i hi => ?_, fun b hb => (State.reg_setBit_ne _ hb _ _).trans (hother b hb)⟩
    by_cases h : i = n
    · subst h
      rw [State.bit_setBit_same _ _ _ _ hi]
      simp
    · rw [State.bit_setBit_ne _ _ _ (by omega) h, hbits i hi]
      congr 1
      exact decide_eq_decide.mpr (by omega)

/-! ### Histories (R573) -/

theorem tgroup_modGroup_same (s : State) (g : Nat) (f : TmpGroup → TmpGroup) : (s.modGroup g f).tgroup g = f (s.tgroup g) :=
  sget_smod_same _ _ _ _

theorem tgroup_modGroup_ne (s : State) {g h : Nat} (hn : h ≠ g) (f : TmpGroup → TmpGroup) :
    (s.modGroup g f).tgroup h = s.tgroup h := sget_smod_ne _ _ hn _

/-- A group with its last sample in its history, which keeps 64 (R573). -/
def TmpGroup.stored (t : TmpGroup) : TmpGroup :=
  match t.last with
  | some e => { t with hist := (e :: t.hist).take 64 }
  | none => t

/-- A group stores its last sample. -/
def storeSample (s : State) (g : Nat) : State :=
  match (s.tgroup g).last with
  | some e => s.modGroup g (fun t => { t with hist := (e :: t.hist).take 64 })
  | none => s

theorem storeSample_group (s : State) (g h : Nat) :
    (storeSample s g).tgroup h = if h = g then (s.tgroup g).stored else s.tgroup h := by
  unfold storeSample TmpGroup.stored
  by_cases hh : h = g
  · subst hh
    rw [if_pos rfl]
    cases he : (s.tgroup h).last with
    | some e => dsimp only; rw [tgroup_modGroup_same, he]
    | none => rfl
  · rw [if_neg hh]
    cases (s.tgroup g).last with
    | some e => exact tgroup_modGroup_ne _ hh _
    | none => rfl

theorem storeSample_frame (s : State) (g : Nat) : storeSample s g = { s with tmp := (storeSample s g).tmp } := by
  unfold storeSample
  split <;> rfl

theorem storeSamples (s : State) (n : Nat) :
    let t := s.each (List.range n) storeSample
    t = { s with tmp := t.tmp } ∧ ∀ g, t.tgroup g = if g < n then (s.tgroup g).stored else s.tgroup g := by
  induction n with
  | zero => exact ⟨rfl, fun g => rfl⟩
  | succ n ih =>
    obtain ⟨hframe, hgroups⟩ := ih
    dsimp only at *
    rw [each_range_succ]
    refine ⟨by rw [storeSample_frame, hframe], fun g => ?_⟩
    rw [storeSample_group, hgroups, hgroups, if_neg (Nat.lt_irrefl n)]
    by_cases h : g = n
    · subst h; simp
    · rw [if_neg h]
      simp only [show g < n + 1 ↔ g < n by omega]

theorem exec_tmpHistoryBoundary (s : State) : exec .tmpHistoryBoundary s = .next (s.each (List.range 16) storeSample) := rfl

end Sys2Proof.Machine

namespace Sys2Proof.Machine

/-! ### A sample in which four sensors agree (R570, R572, R575) -/

theorem bit_setFld_outside (s : State) (a : Nat) {hi lo j : Nat} (v : Nat) (h : hi < 32) (hl : lo ≤ hi) (hj : j < lo ∨ hi < j) :
    (s.setFld a hi lo v).bit a j = s.bit a j := by
  rw [State.bit, State.setFld, State.reg_setReg_same, fbit, getLsbD_fset _ _ _ _ _ h hl, if_neg (by omega)]
  rfl

theorem fld_setBit_outside (s : State) (a : Nat) {hi lo i : Nat} (b : Bool) (h : i < 32) (hi' : i < lo ∨ hi < i) :
    (s.setBit a i b).fld a hi lo = s.fld a hi lo := by
  rw [State.fld, State.setBit, State.reg_setReg_same]
  exact fbits_congr fun k hk hk' => fbit_fsetb_ne _ _ h (by omega)

theorem sens_inj {m n : Nat} (h : m ≠ n) : Reg.TMP_SENSs m ≠ Reg.TMP_SENSs n := by
  unfold Reg.TMP_SENSs; omega

theorem sens_ne_hot (n : Nat) : Reg.TMP_SENSs n ≠ Reg.TMP_HOT := by
  unfold Reg.TMP_SENSs Reg.TMP_HOT; omega

/-- From `s`, the sensors `ns` show `x`; only sensors' readings, TMP_HOT and the managers' records differ. -/
structure Sampled (s u : State) (x : Nat) (ns : List Nat) : Prop where
  frame : RegsTmp s u
  other : ∀ a, (∀ n, a ≠ Reg.TMP_SENSs n) → a ≠ Reg.TMP_HOT → u.reg a = s.reg a
  fail : ∀ n, u.bit (Reg.TMP_SENSs n) 16 = s.bit (Reg.TMP_SENSs n) 16
  shown : ∀ n ∈ ns, u.fld (Reg.TMP_SENSs n) 15 0 = x

section
variable {s u : State} {x : Nat} {ns : List Nat}

theorem Sampled.start (s : State) (x : Nat) : Sampled s s x [] :=
  ⟨rfl, fun _ _ _ => rfl, fun _ => rfl, fun _ h => absurd h List.not_mem_nil⟩

theorem Sampled.show (hx : x < 2 ^ 16) (n : Nat) (h : Sampled s u x ns) :
    Sampled s (u.setFld (Reg.TMP_SENSs n) 15 0 x) x (n :: ns) := by
  obtain ⟨hframe, hother, hfail, hshown⟩ := h
  refine ⟨hframe.setFld .., fun a ha hot => (State.reg_setFld_ne _ (ha n) _ _ _).trans (hother a ha hot), fun m => ?_, fun m hm => ?_⟩
  · rw [← hfail m]
    by_cases hm : m = n
    · subst hm
      exact bit_setFld_outside _ _ _ (by decide) (by decide) (by decide)
    · exact congrArg (fbit · 16) (State.reg_setFld_ne _ (sens_inj hm) _ _ _)
  · by_cases hmn : m = n
    · subst hmn
      exact (State.fld_setFld_same _ _ _ _ _ (by decide) (by decide)).trans (Nat.mod_eq_of_lt hx)
    · rw [← hshown m ((List.mem_cons.mp hm).resolve_left hmn)]
      exact congrArg (fbits · 15 0) (State.reg_setFld_ne _ (sens_inj hmn) _ _ _)

theorem Sampled.modTmp (f : Tmp → Tmp) (h : Sampled s u x ns) : Sampled s (u.modTmp f) x ns :=
  ⟨h.frame.modTmp f, h.other, h.fail, h.shown⟩

/-- FAIL of a sensor that has not failed may be cleared. -/
theorem Sampled.clearFail {n : Nat} (hn : s.bit (Reg.TMP_SENSs n) 16 = false) (h : Sampled s u x ns) :
    Sampled s (u.setBit (Reg.TMP_SENSs n) 16 false) x ns := by
  obtain ⟨hframe, hother, hfail, hshown⟩ := h
  refine ⟨hframe.setBit .., fun a ha hot => (State.reg_setBit_ne _ (ha n) _ _).trans (hother a ha hot), fun m => ?_, fun m hm => ?_⟩
  · by_cases hm : m = n
    · subst hm
      rw [State.bit_setBit_same _ _ _ _ (by decide), hn]
    · exact (congrArg (fbit · 16) (State.reg_setBit_ne _ (sens_inj hm) _ _)).trans (hfail m)
  · rw [← hshown m hm]
    by_cases hmn : m = n
    · subst hmn
      exact fld_setBit_outside _ _ _ (by decide) (by decide)
    · exact congrArg (fbits · 15 0) (State.reg_setBit_ne _ (sens_inj hmn) _ _)

theorem Sampled.setHot (v : W32) (h : Sampled s u x ns) : Sampled s (u.setReg Reg.TMP_HOT v) x ns := by
  have hne : ∀ n, (u.setReg Reg.TMP_HOT v).reg (Reg.TMP_SENSs n) = u.reg (Reg.TMP_SENSs n) :=
    fun n => State.reg_setReg_ne _ (sens_ne_hot n) _
  exact ⟨h.frame.setReg .., fun a ha hot => (State.reg_setReg_ne _ hot _).trans (h.other a ha hot),
    fun n => (congrArg (fbit · 16) (hne n)).trans (h.fail n), fun n hn => (congrArg (fbits · 15 0) (hne n)).trans (h.shown n hn)⟩

theorem Sampled.hot (h : Sampled s u x ns) : Sampled s (hotUpdate u) x ns := by
  unfold hotUpdate
  dsimp only
  split
  · exact h.setHot _
  · exact h

/-- A sensor that agrees with the three others of its group fails no check (R575). -/
theorem Sampled.judge {n : Nat} (v : Int) (hn : s.bit (Reg.TMP_SENSs n) 16 = false) (h : Sampled s u x ns) :
    Sampled s (sensorJudge u n v [v, v, v]) x ns := by
  have hfar : ¬ 1024 < (2 * v - twiceMedian [v, v, v]).natAbs := by
    simp only [twiceMedian, max_self, min_self]
    omega
  unfold sensorJudge
  rw [if_neg (by simp), if_neg hfar]
  dsimp only
  split
  · exact (h.modTmp _).clearFail hn
  · exact h.modTmp _

theorem Sampled.islandUp (h : Sampled s u x ns) (i : Nat) : u.islandUp i = s.islandUp i := by
  have hreg : ∀ a, a = Reg.SYS_ISLAND_ON ∨ a = Reg.SYS_ISLAND_FENCE → u.reg a = s.reg a := by
    rintro a (rfl | rfl)
    · exact h.other _ (fun n => by unfold Reg.TMP_SENSs Reg.SYS_ISLAND_ON; omega) (by decide)
    · exact h.other _ (fun n => by unfold Reg.TMP_SENSs Reg.SYS_ISLAND_FENCE; omega) (by decide)
  unfold State.islandUp State.islandOn State.fenced State.bit
  rw [hreg _ (.inl rfl), hreg _ (.inr rfl)]

/-- Whether a group can see depends on nothing that a sample of good sensors changes. -/
theorem Sampled.blind (h : Sampled s u x ns) (g : Nat) : groupBlind u g = groupBlind s g := by
  have hthere : u.sensorThere = s.sensorThere := by
    have hvariant : u.variant = s.variant := by rw [h.frame]
    funext n
    rw [State.sensorThere, State.sensorThere, hvariant]
  have hup : u.sensorUp = s.sensorUp := by
    funext n
    unfold State.sensorUp
    split
    · exact h.islandUp _
    · rfl
  unfold groupBlind
  simp only [hthere, hup, h.fail]

end

/-- Nothing becomes of source 31's line while what the groups can see is as it was (R575, R589). -/
theorem blindUpdate_same {s u : State} (h : ∀ g, groupBlind u g = groupBlind s g) :
    blindUpdate u ((List.range 16).any (groupBlind s)) = u := by
  have hnow : (List.range 16).any (groupBlind u) = (List.range 16).any (groupBlind s) := by rw [funext h]
  unfold blindUpdate
  rw [hnow]
  cases (List.range 16).any (groupBlind s) <;> rfl

/-! #### Readings -/

/-- The reading of a good sensor with no trim (R570, R592). -/
theorem sensorReading_good {s : State} {n : Nat} {r : BitVec 16} (hr : r ≠ 0x8000) (hup : s.sensorUp n = true)
    (htrim : s.fld (Reg.CAL_TSs n) 15 0 = 0) : sensorReading s n r = some r.toInt := by
  have hne : r.toNat ≠ 0x8000 := fun e => hr (BitVec.eq_of_toNat_eq e)
  have hlt : r.toNat < 65536 := r.isLt
  unfold sensorReading
  rw [if_neg (not_or.mpr ⟨hr, by simp [hup]⟩), htrim]
  have hvalue : sint 16 r.toNat + sint 16 0 = r.toInt := by
    simp only [sint, BitVec.toInt_eq_toNat_cond]
    omega
  have hrange : -32767 ≤ r.toInt ∧ r.toInt ≤ 32767 := by
    rw [BitVec.toInt_eq_toNat_cond]
    omega
  rw [hvalue, clampInt, if_neg (by omega), if_neg (by omega)]

theorem uint_toInt (r : BitVec 16) : uint 16 r.toInt = r.toNat := by
  have hlt : r.toNat < 65536 := r.isLt
  rw [uint, BitVec.toInt_eq_toNat_cond]
  omega

theorem sint_toNat (r : BitVec 16) : sint 16 r.toNat = r.toInt := by
  have hlt : r.toNat < 65536 := r.isLt
  simp only [sint, BitVec.toInt_eq_toNat_cond]
  omega

/-- What four agreeing sensors of a group read. -/
def agreed (g : Nat) (v : Int) : List (Nat × Option Int) :=
  [(4 * g + 0, some v), (4 * g + 1, some v), (4 * g + 2, some v), (4 * g + 3, some v)]

theorem agreed_others (g : Nat) (v : Int) {i : Nat} (hi : i < 4) :
    ((agreed g v).filter (fun q => q.1 != 4 * g + i)).filterMap (fun q => q.2) = [v, v, v] := by
  unfold agreed
  interval_cases i <;> simp

/-- A sensor of an agreeing group is judged against the three others. -/
theorem Sampled.judgeAgreed {s u : State} {x : Nat} {ns : List Nat} {g i : Nat} (v : Int) (hi : i < 4)
    (hn : s.bit (Reg.TMP_SENSs (4 * g + i)) 16 = false) (h : Sampled s u x ns) :
    Sampled s (sensorJudge u (4 * g + i) v
      (((agreed g v).filter (fun q => q.1 != 4 * g + i)).filterMap (fun q => q.2))) x ns := by
  rw [agreed_others g v hi]
  exact h.judge v hn

/-- The sensors of group `g` are up, untrimmed and have not failed. -/
def GoodGroup (s : State) (g : Nat) : Prop :=
  ∀ i, i < 4 → s.sensorUp (4 * g + i) = true ∧ s.fld (Reg.CAL_TSs (4 * g + i)) 15 0 = 0 ∧
    s.bit (Reg.TMP_SENSs (4 * g + i)) 16 = false

section
variable {s : State} {g : Nat} {r : BitVec 16} (hr : r ≠ 0x8000) (hgood : GoodGroup s g)
include hr hgood

theorem readings_agreed :
    (List.range 4).map (fun i => (4 * g + i, sensorReading s (4 * g + i) (([r, r, r, r][i]?).getD 0x8000))) =
      agreed g r.toInt := by
  have hread : ∀ i, i < 4 → sensorReading s (4 * g + i) r = some r.toInt := fun i hi =>
    sensorReading_good hr (hgood i hi).1 (hgood i hi).2.1
  change [(4 * g + 0, sensorReading s (4 * g + 0) r), (4 * g + 1, sensorReading s (4 * g + 1) r),
    (4 * g + 2, sensorReading s (4 * g + 2) r), (4 * g + 3, sensorReading s (4 * g + 3) r)] = _
  rw [hread 0 (by decide), hread 1 (by decide), hread 2 (by decide), hread 3 (by decide)]
  rfl

/-- Four good sensors that read the same show it, and nothing else comes of their readings (R570, R575). -/
theorem groupRead_sampled : Sampled s (groupRead s g [r, r, r, r]) r.toNat [4 * g + 3, 4 * g + 2, 4 * g + 1, 4 * g + 0] := by
  have hfail : ∀ i, i < 4 → s.bit (Reg.TMP_SENSs (4 * g + i)) 16 = false := fun i hi => (hgood i hi).2.2
  rw [← uint_toInt r]
  have hlt : uint 16 r.toInt < 2 ^ 16 := (uint_toInt r).symm ▸ r.isLt
  have hshow := ((((Sampled.start s _).show hlt (4 * g + 0)).show hlt (4 * g + 1)).show hlt (4 * g + 2)).show hlt (4 * g + 3)
  have hjudge := (((hshow.judgeAgreed r.toInt (by decide) (hfail 0 (by decide))).judgeAgreed r.toInt (by decide)
    (hfail 1 (by decide))).judgeAgreed r.toInt (by decide) (hfail 2 (by decide))).judgeAgreed r.toInt (by decide)
    (hfail 3 (by decide))
  unfold groupRead
  dsimp only
  rw [readings_agreed hr hgood]
  have hblind := blindUpdate_same hjudge.blind
  refine Sampled.hot ?_
  exact hblind.symm ▸ hjudge

end

end Sys2Proof.Machine

namespace Sys2Proof.Machine

/-! #### What follows the readings (R570, R572) -/

/-- Four sensors that show the same and have not failed give the group's value (R570). -/
theorem groupValue_same {s : State} {g x : Nat} (hx : x ≠ 0x8000) (hshown : ∀ i, i < 4 → s.fld (Reg.TMP_SENSs (4 * g + i)) 15 0 = x)
    (hfail : ∀ i, i < 4 → s.bit (Reg.TMP_SENSs (4 * g + i)) 16 = false) : groupValue s g = some (sint 16 x) := by
  unfold groupValue
  rw [show List.range 4 = [0, 1, 2, 3] from rfl]
  simp only [List.foldl_cons, List.foldl_nil, hfail 0 (by decide), hfail 1 (by decide), hfail 2 (by decide), hfail 3 (by decide),
    hshown 0 (by decide), hshown 1 (by decide), hshown 2 (by decide), hshown 3 (by decide), hx, Bool.false_eq_true, or_self,
    if_false, max_self]

theorem fld_modGroup (s : State) (g : Nat) (f : TmpGroup → TmpGroup) (a hi lo : Nat) :
    (s.modGroup g f).fld a hi lo = s.fld a hi lo := rfl

theorem reg_modGroup (s : State) (g : Nat) (f : TmpGroup → TmpGroup) (a : Nat) : (s.modGroup g f).reg a = s.reg a := rfl

theorem bit_modGroup (s : State) (g : Nat) (f : TmpGroup → TmpGroup) (a i : Nat) : (s.modGroup g f).bit a i = s.bit a i := rfl

theorem RegsTmp.modGroup {s t : State} (h : RegsTmp s t) (g : Nat) (f : TmpGroup → TmpGroup) : RegsTmp s (t.modGroup g f) :=
  h.modTmp _

/-- Without a slope, NEAR follows the sample in TMP_STATUS alone, and is set from 105 degrees (R572). -/
theorem nearUpdate_noSlope (s : State) {g : Nat} (hg : g < 16) (v : Int) : RegsTmp s (nearUpdate s g v none) ∧
    (6720 ≤ v → (nearUpdate s g v none).bit Reg.TMP_STATUS (16 + g) = true) ∧
    ∀ a, a ≠ Reg.TMP_STATUS → (nearUpdate s g v none).reg a = s.reg a := by
  unfold nearUpdate
  dsimp only
  rw [Bool.or_false]
  by_cases hnear : 6720 ≤ v
  · rw [if_pos (decide_eq_true hnear)]
    refine ⟨((RegsTmp.refl s).setBit ..).modGroup .., fun _ => ?_, fun a ha => ?_⟩
    · rw [bit_modGroup, State.bit_setBit_same _ _ _ _ (by omega)]
    · rw [reg_modGroup, State.reg_setBit_ne _ ha]
  · rw [if_neg (by simpa using hnear)]
    split
    · refine ⟨((RegsTmp.refl s).modGroup ..).setBit .., fun h => absurd h hnear, fun a ha => ?_⟩
      rw [State.reg_setBit_ne _ ha, reg_modGroup]
    · exact ⟨(RegsTmp.refl s).modGroup .., fun h => absurd h hnear, fun a _ => reg_modGroup _ _ _ a⟩

/-- With WIN = 0 a sample has no slope (R573). -/
theorem slopeOf_noWindow {s : State} {g : Nat} (h : s.fld (Reg.TMP_GRPg_CFG g) 7 2 = 0) (v : Int) : slopeOf s g v = (none, s) := by
  unfold slopeOf
  dsimp only
  rw [if_pos h]

/-- The group's last sample is `v`, taken now (R570). -/
def sampled (s : State) (g : Nat) (v : Int) : State :=
  (s.setFld (Reg.TMP_GRPg_STAT g) 15 0 (uint 16 v)).modGroup g
    (fun t => { t with last := some (v, (s.setFld (Reg.TMP_GRPg_STAT g) 15 0 (uint 16 v)).ringTime) })

/-- A sample with a value and no slope stores the value and updates NEAR (R570, R572). -/
theorem groupSample_noSlope {s : State} {g : Nat} {raw : List (BitVec 16)} {v : Int} (hg : g < 15)
    (hv : groupValue (groupRead s g raw) g = some v) (hwin : (groupRead s g raw).fld (Reg.TMP_GRPg_CFG g) 7 2 = 0) :
    groupSample s g raw = nearUpdate (sampled (groupRead s g raw) g v) g v none := by
  have hcfg : (sampled (groupRead s g raw) g v).fld (Reg.TMP_GRPg_CFG g) 7 2 = 0 := by
    unfold sampled
    rw [fld_modGroup, State.fld, State.reg_setFld_ne _ (by unfold Reg.TMP_GRPg_CFG Reg.TMP_GRPg_STAT; omega)]
    exact hwin
  have hslope := slopeOf_noWindow hcfg v
  unfold sampled at hslope ⊢
  unfold groupSample
  dsimp only
  rw [hv]
  dsimp only
  rw [if_neg (by omega), hslope]

/-- A group whose four good sensors read `r` shows `r` in its sensors and as its maximum, and NEAR from 105 degrees (R570, R572). -/
theorem groupSample_sampled {s : State} {g : Nat} {r : BitVec 16} (hg : g < 15) (hr : r ≠ 0x8000)
    (hwin : s.fld (Reg.TMP_GRPg_CFG g) 7 2 = 0) (hgood : GoodGroup s g) :
    let t := groupSample s g [r, r, r, r]
    RegsTmp s t ∧ (∀ i, i < 4 → t.fld (Reg.TMP_SENSs (4 * g + i)) 15 0 = r.toNat) ∧
      t.fld (Reg.TMP_GRPg_STAT g) 15 0 = r.toNat ∧ (6720 ≤ r.toInt → t.bit Reg.TMP_STATUS (16 + g) = true) := by
  obtain ⟨hframe, hother, hfail, hshown⟩ := groupRead_sampled hr hgood
  have hshows : ∀ i, i < 4 → (groupRead s g [r, r, r, r]).fld (Reg.TMP_SENSs (4 * g + i)) 15 0 = r.toNat := fun i hi =>
    hshown _ (by simp only [List.mem_cons]; omega)
  have hvalue : groupValue (groupRead s g [r, r, r, r]) g = some r.toInt := by
    rw [← sint_toNat r]
    exact groupValue_same (fun e => hr (BitVec.eq_of_toNat_eq e)) hshows fun i hi => (hfail _).trans (hgood i hi).2.2
  have hcfg : (groupRead s g [r, r, r, r]).fld (Reg.TMP_GRPg_CFG g) 7 2 = 0 := by
    rw [State.fld, hother _ (fun n => by unfold Reg.TMP_GRPg_CFG Reg.TMP_SENSs; omega) (by unfold Reg.TMP_GRPg_CFG Reg.TMP_HOT; omega)]
    exact hwin
  dsimp only
  rw [groupSample_noSlope hg hvalue hcfg]
  obtain ⟨hnframe, hnear, hnother⟩ :=
    nearUpdate_noSlope (sampled (groupRead s g [r, r, r, r]) g r.toInt) (show g < 16 by omega) r.toInt
  refine ⟨((hframe.setFld ..).modGroup ..).trans hnframe, fun i hi => ?_, ?_, hnear⟩
  · rw [← hshows i hi, State.fld, hnother _ (by unfold Reg.TMP_SENSs Reg.TMP_STATUS; omega), sampled, reg_modGroup,
      State.reg_setFld_ne _ (by unfold Reg.TMP_SENSs Reg.TMP_GRPg_STAT; omega)]
    rfl
  · rw [State.fld, hnother _ (by unfold Reg.TMP_GRPg_STAT Reg.TMP_STATUS; omega), sampled, reg_modGroup, uint_toInt]
    exact (State.fld_setFld_same _ _ _ _ _ (by decide) (by decide)).trans (Nat.mod_eq_of_lt r.isLt)

end Sys2Proof.Machine

namespace Sys2Proof.Claims

open Sys2Proof.Machine

/-! ### Statement O38 -/

/-- Measured at or below TARGET, no core is enforced (R147). -/
theorem throttleMeasure_calm {s : State} {g : Nat} {th : Throttle} {means : List (Nat × Nat)}
    (hth : sget none s.throttles g = some th) (hcalm : ∀ m ∈ means, m.2 ≤ th.target) : throttleMeasure s g means = s := by
  rw [throttleMeasure_eq hth, coresOver_nil hcalm]
  rfl

/-- One core measured above TARGET is enforced, and its CAP falls to what it is due (R147, R577, R578). -/
theorem throttleMeasure_core {s : State} {g k m : Nat} {th : Throttle} (hg : g < 15) (hth : sget none s.throttles g = some th)
    (hk : k ∈ groupCores s g) (he : sget false s.tmp.enforced (60 * g + k) = false) (hm : th.target < m)
    (hcap : sget none s.tmp.capAt k = none) (hjobs : ∀ d, (s.domain d).role ≠ 2) :
    let t := throttleMeasure s g [(k, m)]
    RegsTmp s t ∧ sget false t.tmp.enforced (60 * g + k) = true ∧ t.cap k = capTarget t k ∧ t.cap k ≤ th.target := by
  have hon : sget false (enforceOn s g [k]).tmp.enforced (60 * g + k) = true :=
    sget_sset_same false s.tmp.enforced (60 * g + k) true
  obtain ⟨hframe, hdue, henforced, -⟩ := capApply_cap (enforceOn s g [k]) k
  have hall : RegsTmp s (capApply (enforceOn s g [k]) k) := ((RegsTmp.refl s).modTmp _).trans hframe
  have hmeasure : throttleMeasure s g [(k, m)] = capApply (enforceOn s g [k]) k := by
    rw [throttleMeasure_eq hth, coresOver_single hk he hm]
    have heach : (enforceOn s g [k]).each [k] capChange = capApply (enforceOn s g [k]) k := capChange_first hcap
    rw [heach]
    exact throttleRecord_noJobs (noJobs_of_owner (by rw [hall]) hjobs) 2 g [k]
  dsimp only
  rw [hmeasure]
  have hthrottles : (capApply (enforceOn s g [k]) k).throttles = (enforceOn s g [k]).throttles := by rw [hframe]
  refine ⟨hall, by rw [henforced]; exact hon, ?_, ?_⟩
  · rw [hdue, capTarget_congr henforced hthrottles]
  · rw [hdue]
    exact capTarget_le_target (by omega) hon hth

theorem throttle_acts {g : Nat} {means : List (Nat × Nat)} {s : State} {th : Throttle} {c : Instr} (hg : g < 15)
    (hth : sget none s.throttles g = some th)
    (hc : (c = .throttleGraceEnd g means ∧ th.enforced = false) ∨ (c = .throttleRemeasure g means ∧ th.enforced = true)) :
    ((∀ m ∈ means, m.2 ≤ th.target) → Completes c s (fun t => t = { s with throttles := t.throttles } ∧
      sget none t.throttles g = some { th with enforced := true } ∧ ∀ j, j ≠ g → sget none t.throttles j = sget none s.throttles j)) ∧
    (∀ k m : Nat, means = [(k, m)] → k ∈ groupCores s g → sget false s.tmp.enforced (60 * g + k) = false → th.target < m →
      sget none s.tmp.capAt k = none → (∀ d, (s.domain d).role ≠ 2) →
      Completes c s (fun t => sget none t.throttles g = some { th with enforced := true } ∧
        sget false t.tmp.enforced (60 * g + k) = true ∧
        t.cap k = capTarget t k ∧ t.cap k ≤ th.target ∧ t.mem = s.mem ∧ t.seats = s.seats)) := by
  obtain ⟨ths, hexec, hsame, hothers⟩ := exec_throttle hth hc
  refine ⟨fun hcalm => ⟨_, hexec, ?_⟩, fun k m hmeans hk he hm hcap hjobs => ⟨_, hexec, ?_⟩⟩
  · rw [throttleMeasure_calm (s := { s with throttles := ths }) hsame hcalm]
    exact ⟨rfl, hsame, hothers⟩
  · subst hmeans
    obtain ⟨hframe, hon, hdue, hle⟩ :=
      throttleMeasure_core (s := { s with throttles := ths }) hg hsame hk he hm hcap (noJobs_of_owner rfl hjobs)
    exact ⟨by rw [hframe]; exact hsame, hon, hdue, hle, by rw [hframe], by rw [hframe]⟩

theorem capUpdate_acts {e c : Nat} {s : State} (hjobs : ∀ d, (s.domain d).role ≠ 2)
    (hdue : sget false s.tmp.capDue (12 * e + c) = true) :
    Completes (.capUpdate e c) s (fun t => t.cap (12 * e + c) = capTarget s (12 * e + c) ∧
      sget false t.tmp.capDue (12 * e + c) = false ∧ t = { s with regs := t.regs, tmp := t.tmp }) := by
  obtain ⟨hframe, hcap, -, hdone⟩ := capApply_cap s (12 * e + c)
  have hrecord := throttleRecord_noJobs (noJobs_of_owner (t := capApply s (12 * e + c)) (by rw [hframe]) hjobs) 3 0 [12 * e + c]
  have hexec : exec (.capUpdate e c) s = .next (capApply s (12 * e + c)) := by
    change execCapUpdate e c s = _
    unfold execCapUpdate
    dsimp only
    rw [if_pos hdue, hrecord, ite_self]
  exact ⟨_, hexec, hcap, hdone, hframe⟩

theorem tmpSample_idle {g : Nat} (raw : List (BitVec 16)) {s : State} (h : s.fld (Reg.TMP_GRPg_CFG g) 1 0 ≠ 1) :
    exec (.tmpSample g raw) s = .next s := by
  change execTmpSample g raw s = _
  rw [execTmpSample, if_neg h]

theorem tmpSampleCmd_off {g : Nat} (raw : List (BitVec 16)) {s : State} (h : s.fld (Reg.TMP_GRPg_CFG g) 1 0 = 0) :
    exec (.tmpSampleCmd g raw) s = .next s := by
  change execTmpSampleCmd g raw s = _
  rw [execTmpSampleCmd, if_pos h]

theorem exec_sample {g : Nat} {raw : List (BitVec 16)} {s : State} {c : Instr}
    (hc : (c = .tmpSample g raw ∧ s.fld (Reg.TMP_GRPg_CFG g) 1 0 = 1) ∨
      (c = .tmpSampleCmd g raw ∧ s.fld (Reg.TMP_GRPg_CFG g) 1 0 ≠ 0)) : exec c s = .next (groupSample s g raw) := by
  rcases hc with ⟨rfl, h⟩ | ⟨rfl, h⟩
  · change execTmpSample g raw s = _
    rw [execTmpSample, if_pos h]
  · change execTmpSampleCmd g raw s = _
    rw [execTmpSampleCmd, if_neg h]

theorem history_stored (s : State) : Completes .tmpHistoryBoundary s (fun t => t = { s with tmp := t.tmp } ∧
    ∀ g, g < 16 → (t.tgroup g).hist =
      (match (s.tgroup g).last with | some e => (e :: (s.tgroup g).hist).take 64 | none => (s.tgroup g).hist)) := by
  obtain ⟨hframe, hgroups⟩ := storeSamples s 16
  refine ⟨_, exec_tmpHistoryBoundary s, hframe, fun g hg => ?_⟩
  rw [hgroups g, if_pos hg, TmpGroup.stored]
  cases (s.tgroup g).last <;> rfl

section
variable {i : Nat} {s : State} (hi : i ≤ 24) (hon : s.islandOn i = true)
include hi hon

theorem exec_droopSag_on : exec (.droopSag i) s =
    .next (setStretch (if sget 0 s.tmp.stretch i = 0 then s.count Reg.TMP_SAG_CNT 1 else s) i 8 false) := by
  change execDroopSag i s = _
  unfold execDroopSag
  rw [if_neg (by simp [hon, hi])]

theorem exec_stretchWindowOver_on :
    exec (.stretchWindowOver i) s = .next (raise (s.count Reg.TMP_STRX_CNT 1) 32 0 false) := by
  change execStretchWindowOver i s = _
  unfold execStretchWindowOver
  rw [if_neg (by simp [hon, hi])]

theorem exec_clockMonitorWindow_on (h4 : 4 < i) (hrun : s.tmp.stopped = false) (off : Bool) :
    exec (.clockMonitorWindow i off) s =
      .next (if off then raise (s.modTmp (fun t => { t with offFreq := sset false t.offFreq i off })) 33 2 true
        else clockCalm (s.modTmp (fun t => { t with offFreq := sset false t.offFreq i off }))) := by
  change execClockMonitorWindow i off s = _
  unfold execClockMonitorWindow generatorOff
  rw [if_neg (by simp [hon, hi, hrun]), if_neg (Nat.not_le.mpr h4)]

/-- An island that sags runs at 1.5 times its period; an entry from nominal is counted (R581, R582). -/
theorem droopSag_acts : Completes (.droopSag i) s (fun t => t = { s with regs := t.regs, tmp := t.tmp } ∧
    sget 0 t.tmp.stretch i = 8 ∧ t.bit (Reg.TMP_DROOPi i) 8 = true ∧ t.bit (Reg.TMP_DROOPi i) 9 = false ∧
    t.reg Reg.TMP_SAG_CNT = (if sget 0 s.tmp.stretch i = 0 then BitVec.ofNat 32 (min (2 ^ 32 - 1) ((s.reg Reg.TMP_SAG_CNT).toNat + 1))
      else s.reg Reg.TMP_SAG_CNT)) := by
  have hne : Reg.TMP_SAG_CNT ≠ Reg.TMP_DROOPi i := by unfold Reg.TMP_SAG_CNT Reg.TMP_DROOPi; omega
  refine ⟨_, exec_droopSag_on hi hon, ?_⟩
  split
  · obtain ⟨hframe, hstretch, hdroop, hrecover, hother⟩ := setStretch_shows (s.count Reg.TMP_SAG_CNT 1) i 8 false
    exact ⟨((RegsTmp.refl s).setReg ..).trans hframe, hstretch, hdroop, hrecover, (hother _ hne).trans (State.reg_setReg_same ..)⟩
  · obtain ⟨hframe, hstretch, hdroop, hrecover, hother⟩ := setStretch_shows s i 8 false
    exact ⟨hframe, hstretch, hdroop, hrecover, hother _ hne⟩

theorem clockMonitorWindow_acts (h4 : 4 < i) (hrun : s.tmp.stopped = false) :
    Completes (.clockMonitorWindow i true) s (fun t => ∃ u, t = raise u 33 2 true ∧
      u = { s with tmp := { s.tmp with offFreq := sset false s.tmp.offFreq i true } }) ∧
    (s.live 33 = false → Completes (.clockMonitorWindow i false) s (fun t => t = { s with tmp := t.tmp } ∧
      sget false t.tmp.offFreq i = false)) := by
  refine ⟨⟨_, exec_clockMonitorWindow_on hi hon h4 hrun true, _, rfl, rfl⟩,
    fun hlive => ⟨_, exec_clockMonitorWindow_on hi hon h4 hrun false, ?_⟩⟩
  have hcalm : clockCalm (s.modTmp (fun t => { t with offFreq := sset false t.offFreq i false })) =
      s.modTmp (fun t => { t with offFreq := sset false t.offFreq i false }) := by
    have hlive' : (s.modTmp (fun t => { t with offFreq := sset false t.offFreq i false })).live 33 = false := hlive
    unfold clockCalm
    dsimp only
    rw [hlive', Bool.false_and, Bool.false_and]
    rfl
  rw [if_neg Bool.false_ne_true, hcalm]
  exact ⟨rfl, sget_sset_same false s.tmp.offFreq i false⟩

end

/-- Each recovery step removes one sixteenth (R581). -/
theorem stretchRecoverStep_acts {i k : Nat} {s : State} (h : sget 0 s.tmp.stretch i = k + 1) :
    Completes (.stretchRecoverStep i) s (fun t => t = { s with regs := t.regs, tmp := t.tmp } ∧ sget 0 t.tmp.stretch i = k ∧
      t.bit (Reg.TMP_DROOPi i) 8 = decide (0 < k) ∧ t.bit (Reg.TMP_DROOPi i) 9 = decide (0 < k)) := by
  have hexec : exec (.stretchRecoverStep i) s = .next (setStretch s i k true) := by
    change execStretchRecoverStep i s = _
    unfold execStretchRecoverStep
    dsimp only
    rw [h, if_neg (Nat.succ_ne_zero k), Nat.add_sub_cancel]
  obtain ⟨hframe, hstretch, hdroop, hrecover, -⟩ := setStretch_shows s i k true
  exact ⟨_, hexec, hframe, hstretch, hdroop, hrecover⟩

theorem exec_railOutOfBand {rail : Nat} {high : Bool} {s : State} (hr : rail < 10) (hup : rail < 6 → s.runpg = true) :
    exec (.railOutOfBand rail high) s =
      .next (if rail = 6 ∧ high = false then s
        else raise (s.setBit Reg.TMP_RAIL (if high then 16 + rail else rail) true) 32 2 true) := by
  have hiff : ((decide (rail < 6) && !s.runpg) || (rail == 6 && !high) || decide (10 ≤ rail)) = true ↔ rail = 6 ∧ high = false := by
    have hpower : (decide (rail < 6) && !s.runpg) = false := by simpa using hup
    simp [hpower, hr]
  change execRailOutOfBand rail high s = _
  rw [execRailOutOfBand]
  simp only [hiff]

theorem sefreqWrite_acts (v : W32) (s : State) :
    ((∀ e, e < 5 → fbits v (5 * e + 4) (5 * e) ≤ 20) →
      Completes (.sefreqWrite v) s (fun t => RegBecomes s t Reg.TMP_SEFREQ (v &&& 0x1FFFFFF))) ∧
    (∀ e, e < 5 → 20 < fbits v (5 * e + 4) (5 * e) → Completes (.sefreqWrite v) s (fun t => t = s)) := by
  have hexec : exec (.sefreqWrite v) s = .next (sefreqWrite s v) := rfl
  refine ⟨fun hall => ⟨_, hexec, ?_⟩, fun e he hbig => ⟨_, hexec, ?_⟩⟩
  · rw [sefreqWrite, if_neg (by simpa using hall)]
    exact regBecomes_setReg ..
  · rw [sefreqWrite, if_pos (List.any_eq_true.mpr ⟨e, List.mem_range.mpr he, decide_eq_true hbig⟩)]

theorem exec_generatorHoldoverEnd (s : State) : exec .generatorHoldoverEnd s =
    .next (if s.bit Reg.TMP_CLKSTAT 4 then
      (s.each (List.range 24) (fun s i => s.setBit Reg.SYS_ISLAND_ON i false)).modTmp (fun t => { t with stopped := true }) else s) :=
  rfl

/-- Stopping the first `n` islands leaves the others on (R585). -/
theorem islandsStopped (s : State) {n : Nat} (hn : n ≤ 32) :
    let t := (s.each (List.range n) (fun s i => s.setBit Reg.SYS_ISLAND_ON i false)).modTmp (fun t => { t with stopped := true })
    t = { s with regs := t.regs, tmp := t.tmp } ∧ t.tmp.stopped = true ∧
      (∀ i, i < 32 → t.bit Reg.SYS_ISLAND_ON i = (decide (n ≤ i) && s.bit Reg.SYS_ISLAND_ON i)) ∧
      ∀ a, a ≠ Reg.SYS_ISLAND_ON → t.reg a = s.reg a := by
  obtain ⟨hframe, -, hbits, hother⟩ := clearBits s Reg.SYS_ISLAND_ON n hn
  exact ⟨hframe.modTmp _, rfl, hbits, hother⟩

theorem generatorHoldoverEnd_acts (s : State) :
    (s.bit Reg.TMP_CLKSTAT 4 = true → Completes .generatorHoldoverEnd s (fun t => t = { s with regs := t.regs, tmp := t.tmp } ∧
      t.tmp.stopped = true ∧ (∀ i, i < 32 → t.bit Reg.SYS_ISLAND_ON i = (decide (24 ≤ i) && s.bit Reg.SYS_ISLAND_ON i)) ∧
      ∀ a, a ≠ Reg.SYS_ISLAND_ON → t.reg a = s.reg a)) ∧
    (s.bit Reg.TMP_CLKSTAT 4 = false → Completes .generatorHoldoverEnd s (fun t => t = s)) := by
  refine ⟨fun h => ⟨_, exec_generatorHoldoverEnd s, ?_⟩, fun h => ⟨_, exec_generatorHoldoverEnd s, ?_⟩⟩
  · rw [if_pos h]
    exact islandsStopped s (by decide)
  · rw [if_neg (by rw [h]; decide)]

/-- Settles O38. -/
theorem throttleAndSensorCommandsAct : Obligations.ThrottleAndSensorCommandsAct := by
  refine ⟨fun g means s th c hg hth hc => throttle_acts hg hth hc, fun e c s _ _ hjobs hdue => capUpdate_acts hjobs hdue,
    fun g raw s h => ⟨⟨_, tmpSample_idle raw h, rfl⟩, fun hoff => ⟨_, tmpSampleCmd_off raw hoff, rfl⟩⟩,
    fun g r s c hg hr hwin hc hgood => ⟨_, exec_sample hc, groupSample_sampled hg hr hwin hgood⟩, history_stored,
    fun i s hi hon => ⟨droopSag_acts hi hon, ⟨_, exec_stretchWindowOver_on hi hon, rfl⟩, clockMonitorWindow_acts hi hon⟩,
    fun i k s h => stretchRecoverStep_acts h, fun rail high s hr hup => ⟨fun h => ?rail, fun h => ?sixLow⟩, sefreqWrite_acts,
    generatorHoldoverEnd_acts⟩
  case rail => exact ⟨_, exec_railOutOfBand hr hup, if_neg (fun ⟨h6, hlow⟩ => h.elim (· h6) (by simp [hlow]))⟩
  case sixLow => exact ⟨_, exec_railOutOfBand hr hup, if_pos h⟩

end Sys2Proof.Claims
end

section
/-! PROOFS. The scrubber's visit to a page that is already poisoned (R167, R168, R170). Statement O32. -/

namespace Sys2Proof.Machine

/-- The page that the scrubber of stack `n` visits next (R163, R168). -/
def scrubNext (s : State) (n : Nat) : Nat := (s.stack n).scrubPos * s.variant.stacks + n

/-- The scrubber of a trained stack that runs and is not at its last page visits its next page and moves on by one (R168). -/
theorem exec_scrubPage_moves {n : Nat} {s : State} (errs copyErrs : Nat) (hup : s.islandUp (6 + n) = true)
    (htrained : s.stackLost n = false) (hrate : s.fld Reg.MEM_SCRUB_CTL 12 0 ≠ 0) (hlap : (s.stack n).scrubPos + 1 ≠ stackPages) :
    let u := scrubVisit s (scrubNext s n) errs copyErrs
    exec (.scrubPage n errs copyErrs) s = .next ((u.setStack n { u.stack n with scrubPos := (s.stack n).scrubPos + 1 }).setReg
      (Reg.MEMn_LAP_POS n) (BitVec.ofNat 32 ((s.stack n).scrubPos + 1))) := by
  intro u
  change execScrubPage n errs copyErrs s = _
  rw [execScrubPage, if_neg (by simp [hup, htrained, hrate])]
  exact congrArg Host.Outcome.next (if_neg hlap)

/-- Moving on changes no page: the pages are as the visit leaves them. -/
theorem exec_scrubPage_pages {n errs copyErrs : Nat} {s t : State} (hup : s.islandUp (6 + n) = true)
    (htrained : s.stackLost n = false) (hrate : s.fld Reg.MEM_SCRUB_CTL 12 0 ≠ 0) (hlap : (s.stack n).scrubPos + 1 ≠ stackPages)
    (hexec : exec (.scrubPage n errs copyErrs) s = .next t) : t.pages = (scrubVisit s (scrubNext s n) errs copyErrs).pages := by
  rw [exec_scrubPage_moves errs copyErrs hup htrained hrate hlap] at hexec
  cases hexec
  rfl

/-- A device in service with its stacks trained and no row sparing (ROWTHRESH 0), whose page 0, the next one of stack 0's scrubber,
is poisoned and not yet retired, as a read that found it uncorrectable leaves it (R167). -/
def poisonedAtScrubber : State :=
  { State.reset with
    power := .on
    regs := [(Reg.SYS_RSTCAUSE, 1), (Reg.SYS_ISLAND_ON, 0x3FFFFFF), (Reg.MEM_STATUS, 0xFF), (Reg.MEM_SCRUB_CTL, 256)]
    pages := [(0, { Page.init with poisoned := true })] }

/-- The visit retires the poisoned page, though this read of it counts no symbol error (R168, R170). -/
theorem scrubVisit_retires_poisoned :
    (scrubVisit poisonedAtScrubber (scrubNext poisonedAtScrubber 0) 0 0).pages =
      [(0, { Page.init with poisoned := true, retired := true })] := by decide +kernel

end Sys2Proof.Machine

namespace Sys2Proof.Claims
open Sys2Proof.Machine

/-- Refutes O32: its first clause asks that the read counts no symbol error, not that the page is not poisoned. A poisoned page
is retired, so more than the scrubber's place and LAP_POS changes. -/
theorem not_scrubbingPassesAndRegionsAct : ¬ Obligations.ScrubbingPassesAndRegionsAct := by
  rintro ⟨hscrub, -⟩
  have hup : poisonedAtScrubber.islandUp (6 + 0) = true := by decide +kernel
  have htrained : poisonedAtScrubber.stackLost 0 = false := by decide +kernel
  have hrate : poisonedAtScrubber.fld Reg.MEM_SCRUB_CTL 12 0 ≠ 0 := by decide +kernel
  have hplace : (poisonedAtScrubber.stack 0).scrubPos + 1 < stackPages := by decide +kernel
  obtain ⟨t, hexec, -, hframe, -⟩ := hscrub 0 poisonedAtScrubber (by decide) hup htrained hrate hplace
  have hvisit := exec_scrubPage_pages hup htrained hrate hplace.ne hexec
  have hkept : t.pages = poisonedAtScrubber.pages := by rw [hframe]
  have hretired : poisonedAtScrubber.pages = [(0, { Page.init with poisoned := true, retired := true })] :=
    hkept.symm.trans (hvisit.trans scrubVisit_retires_poisoned)
  exact absurd hretired (by decide)

end Sys2Proof.Claims
end

section
/-! PROOFS. Where a web's registers lie (R181), what the fault collector's own changes leave alone, and what an event of a quiet
source comes to (R544 to R551). -/

namespace Sys2Proof.Machine

/-! ### The registers of a web, and fields of a word -/

/-- The registers of web `n` by their places in its page; POS_STATUS, the first of the positions block, lies before it (R181). -/
theorem Reg.web_places (n : Nat) : Reg.POS_STATUS < Reg.POSn_CTL n ∧
    Reg.POSn_POS_LO n = Reg.POSn_CTL n + 0x20 ∧ Reg.POSn_TRUST_LO n = Reg.POSn_CTL n + 0x28 ∧
    Reg.POSn_PERIOD n = Reg.POSn_CTL n + 0x30 ∧ Reg.POSn_STATE n = Reg.POSn_CTL n + 0x40 ∧
    Reg.POSn_NOISE_CNT n = Reg.POSn_CTL n + 0x44 ∧ Reg.POSn_SYNTH_CNT n = Reg.POSn_CTL n + 0x48 ∧
    Reg.POSn_QERR_CNT n = Reg.POSn_CTL n + 0x4C ∧ Reg.POSn_IDX_CNT n = Reg.POSn_CTL n + 0x50 ∧
    Reg.POSn_IDXERR_CNT n = Reg.POSn_CTL n + 0x54 ∧ Reg.POSn_LOSTEDGE n = Reg.POSn_CTL n + 0x60 := by
  simp only [Reg.POS_STATUS, Reg.POSn_CTL, Reg.POSn_POS_LO, Reg.POSn_TRUST_LO, Reg.POSn_PERIOD, Reg.POSn_STATE,
    Reg.POSn_NOISE_CNT, Reg.POSn_SYNTH_CNT, Reg.POSn_QERR_CNT, Reg.POSn_IDX_CNT, Reg.POSn_IDXERR_CNT, Reg.POSn_LOSTEDGE]
  omega

/-- A web's registers in the positions block. -/
theorem Reg.web_above (n : Nat) : Reg.POS_STATUS ≤ Reg.POSn_CTL n ∧ Reg.POS_STATUS ≤ Reg.POSn_POS_LO n ∧
    Reg.POS_STATUS ≤ Reg.POSn_TRUST_LO n ∧ Reg.POS_STATUS ≤ Reg.POSn_STATE n ∧ Reg.POS_STATUS ≤ Reg.POSn_SYNTH_CNT n ∧
    Reg.POS_STATUS ≤ Reg.POSn_IDX_CNT n ∧ Reg.POS_STATUS ≤ Reg.POSn_IDXERR_CNT n ∧ Reg.POS_STATUS ≤ Reg.POSn_LOSTEDGE n := by
  simp only [Reg.POS_STATUS, Reg.POSn_CTL, Reg.POSn_POS_LO, Reg.POSn_TRUST_LO, Reg.POSn_STATE, Reg.POSn_SYNTH_CNT,
    Reg.POSn_IDX_CNT, Reg.POSn_IDXERR_CNT, Reg.POSn_LOSTEDGE]
  omega

/-- A field stays when one apart from it is replaced. -/
theorem fbits_fset_outside {n : Nat} (w : BitVec n) {hi lo h l : Nat} (v : Nat) (hn : h < n) (hl : l ≤ h)
    (ho : hi < l ∨ h < lo) : fbits (fset w h l v) hi lo = fbits w hi lo :=
  fbits_congr fun k hk hk' => by rw [getLsbD_fset w h l v k hn hl, if_neg (by omega)]

theorem fbits_fsetb_outside {n : Nat} (w : BitVec n) {hi lo i : Nat} (b : Bool) (hn : i < n) (ho : hi < i ∨ i < lo) :
    fbits (fsetb w i b) hi lo = fbits w hi lo := fbits_fset_outside w _ hn (Nat.le_refl i) ho

theorem fbit_fset_outside {n : Nat} (w : BitVec n) {i h l : Nat} (v : Nat) (hn : h < n) (hl : l ≤ h) (ho : i < l ∨ h < i) :
    fbit (fset w h l v) i = fbit w i := by
  rw [fbit, getLsbD_fset w h l v i hn hl, if_neg (by omega), fbit]

/-- A register pair leaves the registers beside it. -/
theorem reg_setReg64_ne (s : State) {a b : Nat} (h : b ≠ a) (h' : b ≠ a + 4) (v : W64) : (s.setReg64 a v).reg b = s.reg b := by
  rw [State.setReg64, State.reg_setReg_ne _ h', State.reg_setReg_ne _ h]

/-- A register pair reads by its two words. -/
theorem reg64_congr {s t : State} {a : Nat} (h : t.reg a = s.reg a) (h' : t.reg (a + 4) = s.reg (a + 4)) :
    t.reg64 a = s.reg64 a := by rw [State.reg64, h, h', State.reg64]

/-! ### What a web's own updates make of the registers -/

section
variable (s : State) (n : Nat)

theorem reg_setWebState_ne (st : Nat) {a : Nat} (h : a ≠ Reg.POSn_STATE n) (h' : a ≠ Reg.POS_STATUS) :
    (s.setWebState n st).reg a = s.reg a := by
  rw [State.setWebState, State.reg_setFld_ne _ h', State.reg_setFld_ne _ h]

theorem reg_setWebState_state (st : Nat) :
    (s.setWebState n st).reg (Reg.POSn_STATE n) = fset (s.reg (Reg.POSn_STATE n)) 1 0 st := by
  have hplaces := Reg.web_places n
  rw [State.setWebState, State.reg_setFld_ne _ (by omega), State.setFld, State.reg_setReg_same]

theorem reg_setUncert_ne (b : Bool) {a : Nat} (h : a ≠ Reg.POSn_STATE n) (h' : a ≠ Reg.POS_STATUS) :
    (s.setUncert n b).reg a = s.reg a := by
  rw [State.setUncert, State.reg_setBit_ne _ h', State.reg_setBit_ne _ h]

theorem reg_setUncert_state (b : Bool) :
    (s.setUncert n b).reg (Reg.POSn_STATE n) = fsetb (s.reg (Reg.POSn_STATE n)) 2 b := by
  have hplaces := Reg.web_places n
  rw [State.setUncert, State.reg_setBit_ne _ (by omega), State.setBit, State.reg_setReg_same]

theorem reg_webView_ne {a : Nat} (h : a ≠ Reg.POSn_STATE n) (h₁ : a ≠ Reg.POSn_TRUST_LO n)
    (h₂ : a ≠ Reg.POSn_TRUST_LO n + 4) : (webView s n).reg a = s.reg a := by
  rw [webView, reg_setReg64_ne _ h₁ h₂, State.reg_setFld_ne _ h]

theorem reg_webView_state :
    (webView s n).reg (Reg.POSn_STATE n) = fset (s.reg (Reg.POSn_STATE n)) 4 3 (s.web n).nsyn := by
  have hplaces := Reg.web_places n
  rw [webView, reg_setReg64_ne _ (by omega) (by omega), State.setFld, State.reg_setReg_same]

theorem webView_trust : (webView s n).reg64 (Reg.POSn_TRUST_LO n) = BitVec.ofNat 64 ((s.web n).trusted.toNat / 2 ^ 16) :=
  reg64_setReg64 _ _ _

theorem reg_publishPos_ne {a : Nat} (h : a ≠ Reg.POSn_POS_LO n) (h' : a ≠ Reg.POSn_POS_LO n + 4) :
    (publishPos s n).reg a = s.reg a := reg_setReg64_ne _ h h' _

theorem publishPos_bcastPos : (publishPos s n).bcastPos n = (s.web n).bcast.toNat / 2 ^ 16 := by
  rw [State.bcastPos, publishPos, reg64_setReg64, BitVec.toNat_ofNat]
  omega

end

/-! ### What the fault collector's own changes leave alone -/

/-- Only the fault collector's timers and its registers differ. -/
def CollectorOnly (s t : State) : Prop :=
  t = { s with fc := t.fc, regs := t.regs } ∧ ∀ a, a < Reg.FC_STATUS_LO ∨ Reg.FC_SRCn_CNT 64 ≤ a → t.reg a = s.reg a

section
variable {s t : State}

theorem CollectorOnly.refl (s : State) : CollectorOnly s s := ⟨rfl, fun _ _ => rfl⟩

theorem CollectorOnly.trans {u : State} (h : CollectorOnly s t) (k : CollectorOnly t u) : CollectorOnly s u := by
  obtain ⟨hframe, hreg⟩ := h
  obtain ⟨kframe, kreg⟩ := k
  exact ⟨by rw [kframe, hframe], fun a ha => (kreg a ha).trans (hreg a ha)⟩

theorem CollectorOnly.setReg {a : Nat} (h : CollectorOnly s t) (ha : Reg.FC_STATUS_LO ≤ a ∧ a < Reg.FC_SRCn_CNT 64) (v : W32) :
    CollectorOnly s (t.setReg a v) := by
  obtain ⟨hframe, hreg⟩ := h
  refine ⟨?_, fun b hb => ?_⟩
  · conv_lhs => rw [hframe]
    rfl
  · rw [State.reg_setReg_ne _ (by omega), hreg b hb]

theorem CollectorOnly.setSource (h : CollectorOnly s t) (n : Nat) (x : FcSource) : CollectorOnly s (t.setSource n x) := by
  obtain ⟨hframe, hreg⟩ := h
  refine ⟨?_, hreg⟩
  conv_lhs => rw [hframe]
  rfl

theorem CollectorOnly.setLive {n : Nat} (h : CollectorOnly s t) (hn : n < 64) (b : Bool) : CollectorOnly s (t.setLive n b) :=
  h.setReg (by simp only [srcBit, Reg.FC_STATUS_LO, Reg.FC_SRCn_CNT, Reg.FC_LIVE_LO]; omega) _

theorem CollectorOnly.web (h : CollectorOnly s t) (n : Nat) : t.web n = s.web n := by rw [h.1]; rfl

/-- A position register is none of the collector's. -/
theorem CollectorOnly.positions (h : CollectorOnly s t) {a : Nat} (ha : Reg.POS_STATUS ≤ a) : t.reg a = s.reg a :=
  h.2 a (.inr ((show Reg.FC_SRCn_CNT 64 ≤ Reg.POS_STATUS by decide).trans ha))

end

theorem liveOff_collectorOnly (s : State) {n : Nat} (hn : n < 64) : CollectorOnly s (liveOff s n) := by
  unfold liveOff
  dsimp only
  split
  · exact ((CollectorOnly.refl s).setLive hn false).setSource _ _
  · exact ((CollectorOnly.refl s).setLive hn false).setSource _ _

theorem lostLine_collectorOnly (s : State) : CollectorOnly s (lostLine s) := by
  unfold lostLine
  split
  · exact .refl s
  · split
    · exact liveOff_collectorOnly s (by decide)
    · exact .refl s

end Sys2Proof.Machine

namespace Sys2Proof.Claims
open Sys2Proof.Machine

/-! ### An event of a quiet source (R544 to R551) -/

section
variable {s t : State} {n : Nat}

/-- What makes a source quiet is its timer, its CFG, and the first-source record being taken. -/
theorem quiet.of_same (h : quiet s n) (hfc : t.fc = s.fc) (hcfg : t.reg (Reg.FC_SRCn_CFG n) = s.reg (Reg.FC_SRCn_CFG n))
    (hfirst : t.bit Reg.FC_FIRST 8 = s.bit Reg.FC_FIRST 8) : quiet t n := by
  obtain ⟨hmax, hgrace, htaken, hnotify⟩ := h
  refine ⟨?_, ?_, hfirst.trans htaken, fun c hc => ?_⟩
  · rw [State.classMax, State.fld, hcfg]; exact hmax
  · rw [State.source, hfc]; exact hgrace
  · rw [State.bit, hcfg]; exact hnotify c hc

theorem quiet.setReg {a : Nat} (h : quiet s n) (hcfg : Reg.FC_SRCn_CFG n ≠ a) (hfirst : Reg.FC_FIRST ≠ a) (v : W32) :
    quiet (s.setReg a v) n :=
  h.of_same rfl (State.reg_setReg_ne s hcfg v) (by rw [State.bit, State.reg_setReg_ne s hfirst, State.bit])

theorem quiet.setLive (h : quiet s n) (hn : n < 64) (b : Bool) : quiet (s.setLive n b) n :=
  h.setReg (by simp only [srcBit, Reg.FC_SRCn_CFG, Reg.FC_LIVE_LO]; omega)
    (by simp only [srcBit, Reg.FC_FIRST, Reg.FC_LIVE_LO]; omega) _

/-- A class capped at U does not escalate (R549, R550). -/
theorem escalate_capped (h : s.classMax n ≤ 1) : escalate s n = s := by
  rw [escalate, if_pos (Nat.lt_succ_of_le h)]

/-- The line of a quiet source becomes active at an event of class C or U, and at most its grace starts. -/
theorem quiet.liveOn (h : quiet s n) {cls : Nat} (hc : cls ≤ 1) (hn : n < 64) :
    CollectorOnly s (liveOn s n cls) ∧ (liveOn s n cls).live n = true := by
  have honly : CollectorOnly s (s.setLive n true) := (CollectorOnly.refl s).setLive hn true
  have hlive : (s.setLive n true).live n = true := State.bit_setBit_same _ _ _ _ (Nat.mod_lt n (by decide))
  obtain ⟨hmax, hgrace, -⟩ := h.setLive hn true
  unfold Machine.liveOn
  extract_lets was lit f started src u
  have hidle : f.grace = .idle := hgrace
  have hcapped : escalate u n = u := escalate_capped hmax
  rw [hidle]
  dsimp only
  split
  · exact ⟨honly.setSource n _, hlive⟩
  · rw [if_neg (by omega), hcapped, ite_self]
    exact ⟨(honly.setSource n _).setSource n _, hlive⟩

/-- The record is taken: an event of class U shows in STATUS and in OVERFLOW alone (R547). -/
theorem quiet.latchFirst (h : quiet s n) (cls : Nat) (hn : n < 64) :
    let t := Machine.latchFirst (s.setBit (srcBit Reg.FC_STATUS_LO n).1 (srcBit Reg.FC_STATUS_LO n).2 true) n cls
    CollectorOnly s t ∧ quiet t n := by
  intro t
  have honly : CollectorOnly s (s.setBit (srcBit Reg.FC_STATUS_LO n).1 (srcBit Reg.FC_STATUS_LO n).2 true) :=
    (CollectorOnly.refl s).setReg (by simp only [srcBit, Reg.FC_STATUS_LO, Reg.FC_SRCn_CNT]; omega) _
  have hquiet : quiet (s.setBit (srcBit Reg.FC_STATUS_LO n).1 (srcBit Reg.FC_STATUS_LO n).2 true) n :=
    h.setReg (by simp only [srcBit, Reg.FC_STATUS_LO, Reg.FC_SRCn_CFG]; omega)
      (by simp only [srcBit, Reg.FC_STATUS_LO, Reg.FC_FIRST]; omega) _
  obtain ⟨-, -, htaken, -⟩ := id hquiet
  have hcfg : Reg.FC_SRCn_CFG n ≠ Reg.FC_FIRST := by simp only [Reg.FC_SRCn_CFG, Reg.FC_FIRST]; omega
  rw [show t = _ from if_pos htaken]
  exact ⟨honly.setReg (by decide) _, hquiet.of_same rfl (State.reg_setBit_ne _ hcfg _ _)
    (State.bit_setBit_ne _ _ _ (by decide) (by decide))⟩

/-- An event of a quiet source changes nothing but the collector (R544 to R551); a live line becomes active. -/
theorem quiet.raise (h : quiet s n) (cls : Nat) (live : Bool) (hn : n < 64) :
    CollectorOnly s (raise s n cls live) ∧
      (s.sourcePresent n = true → live = true → (raise s n cls live).live n = true) := by
  obtain ⟨hmax, -⟩ := id h
  have honly : CollectorOnly s (s.count (Reg.FC_SRCn_CNT n) 1) :=
    (CollectorOnly.refl s).setReg (by simp only [Reg.FC_STATUS_LO, Reg.FC_SRCn_CNT]; omega) _
  have hquiet : quiet (s.count (Reg.FC_SRCn_CNT n) 1) n :=
    h.setReg (by simp only [Reg.FC_SRCn_CFG, Reg.FC_SRCn_CNT]; omega) (by simp only [Reg.FC_FIRST, Reg.FC_SRCn_CNT]; omega) _
  unfold Machine.raise
  split
  next habsent => exact ⟨.refl s, fun hp => by simp [hp] at habsent⟩
  next =>
  extract_lets c counted latched recorded
  have hc : c ≤ 1 := (Nat.min_le_right _ _).trans hmax
  obtain ⟨honly, hquiet⟩ : CollectorOnly s latched ∧ quiet latched n := by
    obtain ⟨hlatch, hkept⟩ := hquiet.latchFirst c hn
    by_cases h0 : c = 0
    · rw [show latched = counted from if_pos h0]
      exact ⟨honly, hquiet⟩
    · rw [show latched = _ from if_neg h0]
      exact ⟨honly.trans hlatch, hkept⟩
  obtain ⟨-, -, -, hnotify⟩ := id hquiet
  have hrecorded : recorded = latched := if_neg (by simp [hnotify c (by omega)])
  obtain ⟨hlit, hlive⟩ := hquiet.liveOn hc hn
  rw [hrecorded]
  cases live with
  | false => exact ⟨honly, fun _ h => absurd h (by decide)⟩
  | true => exact ⟨honly.trans hlit, fun _ _ => hlive⟩

end
end Sys2Proof.Claims
end

section
/-! PROOFS. The edges of a web's encoder (R182, R183, R186, R188, R189): what an edge makes of a web in SLOW, in RUN and in LOST, and
which of its inputs' changes are edges. -/

namespace Sys2Proof.Machine

/-! ### Registers hold no part of a web's run -/

section
variable (s : State) (n : Nat)

@[simp] theorem web_setReg (a : Nat) (v : W32) : (s.setReg a v).web n = s.web n := rfl
@[simp] theorem web_setFld (a hi lo v : Nat) : (s.setFld a hi lo v).web n = s.web n := web_setReg s n a _
@[simp] theorem web_setBit (a i : Nat) (b : Bool) : (s.setBit a i b).web n = s.web n := web_setReg s n a _
@[simp] theorem web_count (a k : Nat) : (s.count a k).web n = s.web n := web_setReg s n a _
@[simp] theorem web_setReg64 (a : Nat) (v : W64) : (s.setReg64 a v).web n = s.web n := by simp [State.setReg64]
@[simp] theorem web_setWebState (st : Nat) : (s.setWebState n st).web n = s.web n := by simp [State.setWebState]
@[simp] theorem web_setUncert (b : Bool) : (s.setUncert n b).web n = s.web n := by simp [State.setUncert]
@[simp] theorem web_webView : (webView s n).web n = s.web n := by simp [webView]
@[simp] theorem web_publishPos : (publishPos s n).web n = s.web n := by simp [publishPos]
@[simp] theorem web_upTo (t : W64) : (s.upTo t).web n = s.web n := rfl

end

/-! ### Edges (R182, R183, R186, R188, R189) -/

section
variable {s : State} {n : Nat} {time : W64}

/-- The accumulator of web `n` after an edge that is not noise (R184, R189). -/
def movedAcc (s : State) (n : Nat) (fwd : Bool) : BitVec 80 :=
  if fwd then (s.web n).acc + BitVec.ofNat 80 (s.ratio n) else (s.web n).acc - BitVec.ofNat 80 (s.ratio n)

/-- The web has been moved to `acc` by an edge at `time`, and trusts it; what else it holds is open. -/
def Web.MovedTo (w : Web) (acc : BitVec 80) (time : W64) : Prop := w.acc = acc ∧ w.trusted = acc ∧ w.tBase = time

theorem acceptEdge_moves (s : State) (n : Nat) (time : W64) (fwd : Bool) :
    Web.MovedTo ((acceptEdge s n time fwd).web n) (movedAcc s n fwd) time := by
  rw [acceptEdge, web_webView, State.web_setWeb_same]
  exact ⟨rfl, rfl, rfl⟩

theorem acceptEdge_mem (s : State) (fwd : Bool) : (acceptEdge s n time fwd).mem = s.mem := by
  simp only [acceptEdge, webView, State.setReg64, State.setFld, State.setReg_mem, State.setWeb_mem]

/-- An accepted edge shows in STATE and TRUST alone. -/
theorem reg_acceptEdge_ne (s : State) (fwd : Bool) {a : Nat} (h : a ≠ Reg.POSn_STATE n) (h₁ : a ≠ Reg.POSn_TRUST_LO n)
    (h₂ : a ≠ Reg.POSn_TRUST_LO n + 4) : (acceptEdge s n time fwd).reg a = s.reg a := reg_webView_ne _ n h h₁ h₂

/-- The filtered period lies in PERIOD; a period that has no value draws one (R188). -/
theorem updatePeriod_only (s : State) (n : Nat) (time : W64) :
    (∃ rs c, updatePeriod s n time = { s with regs := rs, freeCount := c }) ∧
      ∀ a, a ≠ Reg.POSn_PERIOD n → (updatePeriod s n time).reg a = s.reg a := by
  unfold updatePeriod
  dsimp only
  split
  · exact ⟨⟨s.regs, s.freeCount, rfl⟩, fun _ _ => rfl⟩
  · split
    · exact ⟨⟨_, s.freeCount, rfl⟩, fun _ h => State.reg_setReg_ne _ h _⟩
    · exact ⟨⟨_, s.freeCount + 1, rfl⟩, fun _ h => State.reg_setReg_ne _ h _⟩

/-- The web and its RATIO are not what the period is filtered into. -/
theorem movedAcc_updatePeriod (s : State) (n : Nat) (time : W64) (fwd : Bool) :
    movedAcc (updatePeriod s n time) n fwd = movedAcc s n fwd := by
  obtain ⟨⟨rs, c, h⟩, -⟩ := updatePeriod_only s n time
  rw [h]; rfl

theorem updatePeriod_mem (s : State) : (updatePeriod s n time).mem = s.mem := by
  obtain ⟨⟨rs, c, h⟩, -⟩ := updatePeriod_only s n time
  rw [h]

/-- The period is filtered at forward edges alone, and moves nothing (R188). -/
theorem filteredEdge_moves (s : State) (n : Nat) (time : W64) (fwd : Bool) :
    Web.MovedTo ((acceptEdge (if fwd then updatePeriod s n time else s) n time fwd).web n) (movedAcc s n fwd) time ∧
      (acceptEdge (if fwd then updatePeriod s n time else s) n time fwd).mem = s.mem := by
  cases fwd with
  | false =>
    rw [if_neg Bool.false_ne_true]
    exact ⟨acceptEdge_moves s n time false, acceptEdge_mem s false⟩
  | true =>
    rw [if_pos rfl, ← movedAcc_updatePeriod s n time, acceptEdge_mem]
    exact ⟨acceptEdge_moves _ n time true, updatePeriod_mem s⟩

theorem setBit_mem (s : State) (a i : Nat) (b : Bool) : (s.setBit a i b).mem = s.mem := State.setReg_mem s a _

theorem setWebState_mem (s : State) (n st : Nat) : (s.setWebState n st).mem = s.mem := by
  simp only [State.setWebState, State.setFld, State.setReg_mem]

/-- In SLOW every counted edge moves the web, whatever it counts towards RUN (R186). -/
theorem slowEdge_moves (s : State) (n : Nat) (time : W64) (fwd : Bool) :
    Web.MovedTo ((slowEdge s n time fwd).web n) (movedAcc s n fwd) time ∧ (slowEdge s n time fwd).mem = s.mem := by
  unfold slowEdge
  extract_lets w fast accepted runc run counted shown slow
  obtain ⟨hmoved, hmem⟩ : Web.MovedTo (accepted.web n) (movedAcc s n fwd) time ∧ accepted.mem = s.mem :=
    filteredEdge_moves s n time fwd
  clear_value accepted
  have hshown : Web.MovedTo (shown.web n) (movedAcc s n fwd) time := by
    rw [web_setBit, State.web_setWeb_same]
    exact hmoved
  have hkept : shown.mem = s.mem := by
    rw [setBit_mem, State.setWeb_mem]
    exact hmem
  split
  · rw [web_setWebState, State.web_setWeb_same, setWebState_mem, State.setWeb_mem]
    exact ⟨hshown, hkept⟩
  · exact ⟨hshown, hkept⟩

@[simp] theorem reg_setWeb (s : State) (n a : Nat) (w : Web) : (s.setWeb n w).reg a = s.reg a := rfl

/-- UNCERT is no part of a web's state. -/
theorem uncert_setWebState (s : State) (n st : Nat) :
    (s.setWebState n st).bit (Reg.POSn_STATE n) 2 = s.bit (Reg.POSn_STATE n) 2 := by
  rw [State.bit, reg_setWebState_state, fbit_fset_outside _ _ (by decide) (by decide) (by decide), State.bit]

theorem uncert_setUncert (s : State) (n : Nat) (b : Bool) : (s.setUncert n b).bit (Reg.POSn_STATE n) 2 = b := by
  rw [State.bit, reg_setUncert_state, fbit_fsetb_same _ _ _ (by decide)]

/-- In RUN a reverse edge, or one sooner than half a period, is noise (R189). -/
theorem runEdge_noise {fwd : Bool} (h : fwd = false ∨ 2 * (time.toNat - (s.web n).tBase.toNat) < s.period n) :
    runEdge s n time fwd = s.count (Reg.POSn_NOISE_CNT n) 1 := by
  rw [runEdge, if_pos]
  simpa using h

/-- In RUN any other edge moves the web and ends UNCERT, whatever it counts towards SLOW (R186, R189, R192). -/
theorem runEdge_moves (h : s.period n ≤ 2 * (time.toNat - (s.web n).tBase.toNat)) :
    Web.MovedTo ((runEdge s n time true).web n) (movedAcc s n true) time ∧
      (runEdge s n time true).bit (Reg.POSn_STATE n) 2 = false ∧
      (runEdge s n time true).reg (Reg.POSn_NOISE_CNT n) = s.reg (Reg.POSn_NOISE_CNT n) := by
  have hplaces := Reg.web_places n
  obtain ⟨-, hperiod⟩ := updatePeriod_only s n time
  unfold runEdge
  extract_lets w accepted slowc run counted back
  obtain ⟨hmoved, huncert, hnoise⟩ : Web.MovedTo (accepted.web n) (movedAcc s n true) time ∧
      accepted.bit (Reg.POSn_STATE n) 2 = false ∧ accepted.reg (Reg.POSn_NOISE_CNT n) = s.reg (Reg.POSn_NOISE_CNT n) := by
    refine ⟨?_, uncert_setUncert _ n false, ?_⟩
    · rw [web_setUncert, ← movedAcc_updatePeriod s n time]
      exact acceptEdge_moves _ n time true
    · rw [reg_setUncert_ne _ _ _ (by omega) (by omega), reg_acceptEdge_ne _ _ (by omega) (by omega) (by omega),
        hperiod _ (by omega)]
  clear_value accepted
  have hcounted : Web.MovedTo (counted.web n) (movedAcc s n true) time := by
    rw [State.web_setWeb_same]
    exact hmoved
  rw [if_neg (by simpa using h)]
  split
  · rw [web_setWebState, State.web_setWeb_same, uncert_setWebState, reg_setWebState_ne _ _ _ (by omega) (by omega)]
    exact ⟨hcounted, huncert, hnoise⟩
  · exact ⟨hcounted, huncert, hnoise⟩

/-- Web `n` has seen its inputs change to `a` and `b` at `time`. -/
def edgeSeen (s : State) (n : Nat) (a b : Bool) (time : W64) : State :=
  (s.upTo time).setWeb n { s.web n with levels := (a, b), lastChange := some time }

/-- A counted edge is judged in the web's state. -/
def countEdge (s : State) (n : Nat) (time : W64) (fwd : Bool) : State :=
  match s.webState n with
  | 1 => slowEdge s n time fwd
  | 2 => runEdge s n time fwd
  | 3 => lostEdge s n fwd
  | _ => s

theorem countEdge_slow {fwd : Bool} (h : s.webState n = 1) : countEdge s n time fwd = slowEdge s n time fwd := by
  simp only [countEdge, h]

theorem countEdge_run {fwd : Bool} (h : s.webState n = 2) : countEdge s n time fwd = runEdge s n time fwd := by
  simp only [countEdge, h]

theorem countEdge_lost {fwd : Bool} (h : s.webState n = 3) : countEdge s n time fwd = lostEdge s n fwd := by
  simp only [countEdge, h]

/-- An edge goes forward by A, B and DIR (R182). -/
def forward (s : State) (n : Nat) (a b a0 : Bool) : Bool :=
  (if a ≠ a0 then a != b else b == a) != fbit (s.act (Reg.POSn_CFG n)) 4

theorem webSrc_upTo (s : State) (n : Nat) : (s.upTo time).webSrc n = s.webSrc n := rfl

section
variable {a b a0 b0 : Bool} (hup : s.islandUp 22 = true) (henc : s.webSrc n = 0) (hlevels : (s.web n).levels = (a0, b0))
  (hsoon : tooSoon (s.web n).lastChange time = false)
include hup henc hlevels hsoon

/-- A change of both inputs is a quadrature error (R183). -/
theorem exec_encEdge_both (ha : a ≠ a0) (hb : b ≠ b0) :
    exec (.encEdge n a b time) s = .next ((edgeSeen s n a b time).count (Reg.POSn_QERR_CNT n) 1) := by
  change execEncEdge n a b time s = _
  simp [execEncEdge, hup, hlevels, hsoon, ha, hb, webSrc_upTo, henc, edgeSeen]

/-- A change of one input is an edge (R182). -/
theorem exec_encEdge_one (h : (a ≠ a0 ∧ b = b0) ∨ (a = a0 ∧ b ≠ b0)) :
    exec (.encEdge n a b time) s = .next (countEdge (edgeSeen s n a b time) n time (forward s n a b a0)) := by
  have hsome : ¬ (a = a0 ∧ b = b0) := by tauto
  have hnotBoth : ¬ (a ≠ a0 ∧ b ≠ b0) := by tauto
  change execEncEdge n a b time s = _
  simp [execEncEdge, hup, hlevels, hsoon, hsome, hnotBoth, webSrc_upTo, henc, edgeSeen, countEdge, forward] <;> rfl

end
end
end Sys2Proof.Machine
end

section
/-! PROOFS. Synthesis, LOST, loads of the position, enabling and the end of a revolution (R186, R190, R193, R194, R203 to R205,
R657). -/

namespace Sys2Proof.Machine
open Sys2Proof.Claims (Counted)

/-! ### What a change of a web's STATE word leaves of its state -/

theorem webState_congr {s t : State} {n : Nat} (h : t.reg (Reg.POSn_STATE n) = s.reg (Reg.POSn_STATE n)) :
    t.webState n = s.webState n := by rw [State.webState, State.fld, h, State.webState, State.fld]

section
variable (s : State) (n : Nat)

theorem webState_setWebState {st : Nat} (h : st < 4) : (s.setWebState n st).webState n = st := by
  rw [State.webState, State.fld, reg_setWebState_state, fbits_fset_same _ _ _ _ (by decide) (by decide)]
  exact Nat.mod_eq_of_lt h

theorem webState_setUncert (b : Bool) : (s.setUncert n b).webState n = s.webState n := by
  rw [State.webState, State.fld, reg_setUncert_state, fbits_fsetb_outside _ _ (by decide) (by decide), State.webState, State.fld]

theorem webState_webView : (webView s n).webState n = s.webState n := by
  rw [State.webState, State.fld, reg_webView_state, fbits_fset_outside _ _ (by decide) (by decide) (by decide), State.webState,
    State.fld]

end

/-! ### An edge that does not exist: synthesis (R190) -/

section
variable {s : State} {n : Nat}

/-- What web `n` holds once an edge is synthesised one period after its last: moved, not trusted, and counted (R190). -/
def synthesisedWeb (s : State) (n : Nat) : Web :=
  let w := s.web n
  { w with
    acc := w.acc + BitVec.ofNat 80 (s.ratio n)
    tBase := w.tBase + BitVec.ofNat 64 (s.period n)
    nsyn := w.nsyn + 1
    revNet := w.revNet + 1 }

/-- The state once the edge of web `n` is synthesised, at the ring time at which it is missed. -/
def synthesised (s : State) (n : Nat) : State :=
  let u := s.upTo (BitVec.ofNat 64 ((s.web n).tBase.toNat + (3 * s.period n) / 2 + 256))
  webView ((u.setWeb n (synthesisedWeb s n)).count (Reg.POSn_SYNTH_CNT n) 1) n

theorem synthesised_web (s : State) (n : Nat) : (synthesised s n).web n = synthesisedWeb s n := by
  rw [synthesised, web_webView, web_count, State.web_setWeb_same]

theorem synthesised_webState (s : State) (n : Nat) : (synthesised s n).webState n = s.webState n := by
  have hplaces := Reg.web_places n
  rw [synthesised, webState_webView]
  exact webState_congr (State.reg_setReg_ne _ (by omega) _)

theorem synthesised_counts (s : State) (n : Nat) : Counted s (synthesised s n) (Reg.POSn_SYNTH_CNT n) := by
  have hplaces := Reg.web_places n
  rw [Counted, synthesised, reg_webView_ne _ _ (by omega) (by omega) (by omega)]
  exact State.reg_setReg_same _ _ _

/-- The third edge synthesised in a row loses the web (R190, R193). -/
theorem exec_edgeSynthesis (henc : s.webSrc n = 0) (hrun : s.webState n = 2) (hperiod : s.period n ≠ 0) :
    exec (.edgeSynthesis n) s =
      .next (if 3 ≤ (s.web n).nsyn + 1 then enterLost (synthesised s n) n 1 else synthesised s n) := by
  change execEdgeSynthesis n s = _
  rw [execEdgeSynthesis]
  refine congrArg Host.Outcome.next (if_neg ?_)
  simp [henc, hrun, hperiod]

end

/-! ### LOST (R193) -/

section
variable (s : State) (n cause : Nat)

/-- What a web holds once it is lost: its broadcast is frozen at the trusted position, and its revolution does not count. -/
def frozenWeb (s : State) (n : Nat) : Web :=
  { s.web n with bcast := (s.web n).trusted, runc := 0, slowc := 0, revBad := true }

/-- Web `n` in LOST, before its source raises the event. -/
def lostWeb : State :=
  let lost := (s.setWeb n (frozenWeb s n)).setReg (Reg.POSn_LOSTEDGE n) 0
  ((publishPos (webView (lost.setWebState n 3) n) n).setFld (Reg.POSn_STATE n) 8 7 cause).setUncert n false

theorem enterLost_eq : enterLost s n cause = raise (lostWeb s n cause) 17 1 true := rfl

theorem lostWeb_web : (lostWeb s n cause).web n = frozenWeb s n := by
  simp only [lostWeb, web_setUncert, web_setFld, web_publishPos, web_webView, web_setWebState, web_setReg, State.web_setWeb_same]

theorem lostWeb_state : (lostWeb s n cause).reg (Reg.POSn_STATE n) =
    fsetb (fset (fset (fset (s.reg (Reg.POSn_STATE n)) 1 0 3) 4 3 (s.web n).nsyn) 8 7 cause) 2 false := by
  have hplaces := Reg.web_places n
  rw [lostWeb, reg_setUncert_state, State.setFld, State.reg_setReg_same, reg_publishPos_ne _ _ (by omega) (by omega),
    reg_webView_state, reg_setWebState_state, State.reg_setReg_ne _ (by omega), reg_setWeb, web_setWebState, web_setReg,
    State.web_setWeb_same]
  rfl

end

end Sys2Proof.Machine

namespace Sys2Proof.Claims
open Sys2Proof.Machine

section
variable {s : State} {m : Nat} (h : quiet s m) (hm : m < 64)
include h

/-- What a web holds is no part of what makes a source quiet. -/
theorem quiet.setWeb (n : Nat) (w : Web) : quiet (s.setWeb n w) m := h

theorem quiet.upTo (t : W64) : quiet (s.upTo t) m := h

include hm

theorem quiet.setPosition {a : Nat} (ha : Reg.POS_STATUS ≤ a) (v : W32) : quiet (s.setReg a v) m :=
  h.setReg (by simp only [Reg.POS_STATUS, Reg.FC_SRCn_CFG] at ha ⊢; omega)
    (by simp only [Reg.POS_STATUS, Reg.FC_FIRST] at ha ⊢; omega) v

theorem quiet.setPosition64 {a : Nat} (ha : Reg.POS_STATUS ≤ a) (v : W64) : quiet (s.setReg64 a v) m :=
  (h.setPosition hm ha _).setPosition hm (Nat.le_add_right_of_le ha) _

theorem quiet.setWebState (n st : Nat) : quiet (s.setWebState n st) m := by
  obtain ⟨-, -, -, hstate, -⟩ := Reg.web_above n
  exact (h.setPosition hm hstate _).setPosition hm le_rfl _

theorem quiet.setUncert (n : Nat) (b : Bool) : quiet (s.setUncert n b) m := by
  obtain ⟨-, -, -, hstate, -⟩ := Reg.web_above n
  exact (h.setPosition hm hstate _).setPosition hm le_rfl _

theorem quiet.webView (n : Nat) : quiet (webView s n) m := by
  obtain ⟨-, -, htrust, hstate, -⟩ := Reg.web_above n
  exact (h.setPosition hm hstate _).setPosition64 hm htrust _

theorem quiet.publishPos (n : Nat) : quiet (publishPos s n) m := by
  obtain ⟨-, hpos, -⟩ := Reg.web_above n
  exact h.setPosition64 hm hpos _

theorem quiet.lostWeb (n cause : Nat) : quiet (lostWeb s n cause) m := by
  obtain ⟨-, -, -, hstate, -, -, -, hedges⟩ := Reg.web_above n
  have hcleared := (h.setWeb n (frozenWeb s n)).setPosition hm hedges 0
  exact ((((hcleared.setWebState hm n 3).webView hm n).publishPos hm n).setPosition hm hstate _).setUncert hm n false

theorem quiet.synthesised (n : Nat) : quiet (synthesised s n) m := by
  obtain ⟨-, -, -, -, hsynth, -⟩ := Reg.web_above n
  exact (((h.upTo _).setWeb n _).setPosition hm hsynth _).webView hm n

end

/-- A web that is lost is in LOST with its cause, not UNCERT, its broadcast at the trusted position, and source 17 is live. -/
theorem quiet.enterLost {s : State} (h : quiet s 17) (n : Nat) {cause : Nat} (hc : cause < 4) :
    (enterLost s n cause).webState n = 3 ∧ (enterLost s n cause).fld (Reg.POSn_STATE n) 8 7 = cause ∧
      (enterLost s n cause).bit (Reg.POSn_STATE n) 2 = false ∧ (enterLost s n cause).live 17 = true ∧
      (enterLost s n cause).web n = frozenWeb s n := by
  obtain ⟨-, -, -, habove, -⟩ := Reg.web_above n
  have hquiet : quiet (Machine.lostWeb s n cause) 17 := h.lostWeb (by decide) n cause
  obtain ⟨honly, hlive⟩ := hquiet.raise 1 true (by decide)
  rw [enterLost_eq]
  have hstate := (honly.positions habove).trans (lostWeb_state s n cause)
  refine ⟨?_, ?_, ?_, hlive rfl rfl, (honly.web n).trans (lostWeb_web s n cause)⟩
  · rw [State.webState, State.fld, hstate, fbits_fsetb_outside _ _ (by decide) (by decide),
      fbits_fset_outside _ _ (by decide) (by decide) (by decide), fbits_fset_outside _ _ (by decide) (by decide) (by decide),
      fbits_fset_same _ _ _ _ (by decide) (by decide)]
    rfl
  · rw [State.fld, hstate, fbits_fsetb_outside _ _ (by decide) (by decide), fbits_fset_same _ _ _ _ (by decide) (by decide)]
    exact Nat.mod_eq_of_lt hc
  · rw [State.bit, hstate, fbit_fsetb_same _ _ _ (by decide)]

end Sys2Proof.Claims

namespace Sys2Proof.Machine

/-! ### A load of the position (R194) -/

section
variable (s : State) (n : Nat) (acc : BitVec 80)

/-- What a web holds once it continues from `acc`. -/
def loadedWeb : Web :=
  { s.web n with acc := acc, trusted := acc, bcast := acc, nsyn := 0, tReal := none, runc := 0, slowc := 0 }

/-- Web `n` with its position loaded, before its state follows. -/
def loadedPos : State :=
  let u := (publishPos (webView (s.setWeb n (loadedWeb s n acc)) n) n).setReg (Reg.POSn_LOSTEDGE n) 0
  (u.setBit (Reg.POSn_STATE n) 9 false).setFld (Reg.POSn_STATE n) 8 7 0

theorem loadPosition_eq : loadPosition s n acc =
    if (loadedPos s n acc).webState n = 0 then loadedPos s n acc
    else lostLine (((loadedPos s n acc).setWebState n 1).setUncert n false) := rfl

theorem loadedPos_web : (loadedPos s n acc).web n = loadedWeb s n acc := by
  simp only [loadedPos, web_setFld, web_setBit, web_setReg, web_publishPos, web_webView, State.web_setWeb_same]

theorem loadedPos_state : (loadedPos s n acc).reg (Reg.POSn_STATE n) =
    fset (fsetb (fset (s.reg (Reg.POSn_STATE n)) 4 3 0) 9 false) 8 7 0 := by
  have hplaces := Reg.web_places n
  rw [loadedPos, State.setFld, State.reg_setReg_same, State.setBit, State.reg_setReg_same, State.reg_setReg_ne _ (by omega),
    reg_publishPos_ne _ _ (by omega) (by omega), reg_webView_state, State.web_setWeb_same, reg_setWeb]
  rfl

theorem loadedPos_webState : (loadedPos s n acc).webState n = s.webState n := by
  rw [State.webState, State.fld, loadedPos_state, fbits_fset_outside _ _ (by decide) (by decide) (by decide),
    fbits_fsetb_outside _ _ (by decide) (by decide), fbits_fset_outside _ _ (by decide) (by decide) (by decide), State.webState,
    State.fld]

theorem loadedPos_cmdErr : (loadedPos s n acc).bit (Reg.POSn_STATE n) 9 = false := by
  rw [State.bit, loadedPos_state, fbit_fset_outside _ _ (by decide) (by decide) (by decide), fbit_fsetb_same _ _ _ (by decide)]

theorem loadedPos_lostEdge : (loadedPos s n acc).reg (Reg.POSn_LOSTEDGE n) = 0 := by
  have hplaces := Reg.web_places n
  rw [loadedPos, State.reg_setFld_ne _ (by omega), State.reg_setBit_ne _ (by omega), State.reg_setReg_same]

theorem loadedPos_reg_ne {a : Nat} (h : a ≠ Reg.POSn_STATE n) (h' : a ≠ Reg.POSn_LOSTEDGE n) :
    (loadedPos s n acc).reg a = (publishPos (webView (s.setWeb n (loadedWeb s n acc)) n) n).reg a := by
  rw [loadedPos, State.reg_setFld_ne _ h, State.reg_setBit_ne _ h, State.reg_setReg_ne _ h']

theorem loadedPos_bcastPos : (loadedPos s n acc).bcastPos n = acc.toNat / 2 ^ 16 := by
  have hplaces := Reg.web_places n
  have hread := publishPos_bcastPos (webView (s.setWeb n (loadedWeb s n acc)) n) n
  rw [web_webView, State.web_setWeb_same] at hread
  rw [State.bcastPos, reg64_congr (loadedPos_reg_ne s n acc (by omega) (by omega)) (loadedPos_reg_ne s n acc (by omega) (by omega))]
  exact hread

theorem loadedPos_trust : (loadedPos s n acc).reg64 (Reg.POSn_TRUST_LO n) = BitVec.ofNat 64 (acc.toNat / 2 ^ 16) := by
  have hplaces := Reg.web_places n
  have hlow := (loadedPos_reg_ne s n acc (a := Reg.POSn_TRUST_LO n) (by omega) (by omega)).trans
    (reg_publishPos_ne _ n (by omega) (by omega))
  have hhigh := (loadedPos_reg_ne s n acc (a := Reg.POSn_TRUST_LO n + 4) (by omega) (by omega)).trans
    (reg_publishPos_ne _ n (by omega) (by omega))
  rw [reg64_congr hlow hhigh, webView_trust, State.web_setWeb_same]
  rfl

end

theorem cmdErr_setWebState (s : State) (n st : Nat) :
    (s.setWebState n st).bit (Reg.POSn_STATE n) 9 = s.bit (Reg.POSn_STATE n) 9 := by
  rw [State.bit, reg_setWebState_state, fbit_fset_outside _ _ (by decide) (by decide) (by decide), State.bit]

theorem cmdErr_setUncert (s : State) (n : Nat) (b : Bool) :
    (s.setUncert n b).bit (Reg.POSn_STATE n) 9 = s.bit (Reg.POSn_STATE n) 9 := by
  rw [State.bit, reg_setUncert_state, fbit_fsetb_ne _ _ (by decide) (by decide), State.bit]

/-- The collector's own changes leave the words of a web. -/
theorem CollectorOnly.state {s t : State} (h : CollectorOnly s t) (n : Nat) :
    t.reg (Reg.POSn_STATE n) = s.reg (Reg.POSn_STATE n) := by
  obtain ⟨-, -, -, habove, -⟩ := Reg.web_above n
  exact h.positions habove

section
variable (s : State) (n : Nat) (acc : BitVec 80)

/-- What a load shows beside STATE is there before the web's state follows. -/
theorem loadPosition_reg {a : Nat} (hstate : a ≠ Reg.POSn_STATE n) (hstatus : Reg.POS_STATUS < a) :
    (loadPosition s n acc).reg a = (loadedPos s n acc).reg a := by
  rw [loadPosition_eq]
  split
  · rfl
  · rw [(lostLine_collectorOnly _).positions hstatus.le, reg_setUncert_ne _ _ _ hstate hstatus.ne',
      reg_setWebState_ne _ _ _ hstate hstatus.ne']

/-- A load puts a web in SLOW, unless it is IDLE (R194). -/
theorem loadPosition_webState : (loadPosition s n acc).webState n = if s.webState n = 0 then 0 else 1 := by
  rw [loadPosition_eq, loadedPos_webState]
  split
  next hidle => rw [loadedPos_webState, hidle]
  next => rw [webState_congr ((lostLine_collectorOnly _).state n), webState_setUncert, webState_setWebState _ _ (by decide)]

theorem loadPosition_cmdErr : (loadPosition s n acc).bit (Reg.POSn_STATE n) 9 = false := by
  rw [loadPosition_eq]
  split
  · exact loadedPos_cmdErr s n acc
  · rw [State.bit, (lostLine_collectorOnly _).state n, ← State.bit, cmdErr_setUncert, cmdErr_setWebState, loadedPos_cmdErr]

theorem loadPosition_web : (loadPosition s n acc).web n = loadedWeb s n acc := by
  rw [loadPosition_eq]
  split
  · exact loadedPos_web s n acc
  · rw [(lostLine_collectorOnly _).web n, web_setUncert, web_setWebState, loadedPos_web]

theorem loadPosition_lostEdge : (loadPosition s n acc).reg (Reg.POSn_LOSTEDGE n) = 0 := by
  have hplaces := Reg.web_places n
  rw [loadPosition_reg _ _ _ (by omega) (by omega), loadedPos_lostEdge]

theorem loadPosition_bcastPos : (loadPosition s n acc).bcastPos n = acc.toNat / 2 ^ 16 := by
  have hplaces := Reg.web_places n
  rw [State.bcastPos, reg64_congr (loadPosition_reg s n acc (by omega) (by omega)) (loadPosition_reg s n acc (by omega) (by omega))]
  exact loadedPos_bcastPos s n acc

theorem loadPosition_trust :
    (loadPosition s n acc).reg64 (Reg.POSn_TRUST_LO n) = BitVec.ofNat 64 (acc.toNat / 2 ^ 16) := by
  have hplaces := Reg.web_places n
  rw [reg64_congr (loadPosition_reg s n acc (by omega) (by omega)) (loadPosition_reg s n acc (by omega) (by omega)),
    loadedPos_trust]

end

/-! ### The commands of a web (R186, R194, R203, R205) -/

section
variable {s : State} {n : Nat}

/-- A SET that is accepted loads the position; that marks and seams are late shows in no register (R194, R197, R300). -/
theorem posSet_accepted (henc : s.webSrc n = 0) (hrun : s.webState n ≠ 2) :
    (posSet s n).regs = (loadPosition s n (BitVec.ofNat 80 ((s.reg64 (Reg.POSn_SET_LO n)).toNat * 2 ^ 16))).regs := by
  have hrefl (s : State) : s.regs = s.regs := rfl
  have htrans (s t u : State) (h : t.regs = s.regs) (k : u.regs = t.regs) : u.regs = s.regs := k.trans h
  rw [posSet, if_neg (by simp [henc, hrun]), State.lateSeams]
  rw [each_keeps (R := fun s t => t.regs = s.regs) hrefl htrans, each_keeps (R := fun s t => t.regs = s.regs) hrefl htrans]
  · intro s k; split <;> rfl
  · intro s k; dsimp only; split <;> rfl

theorem exec_posSet_ignored (h : s.webSrc n ≠ 0 ∨ s.webState n = 2) :
    exec (.posSet n) s = .next (s.setBit (Reg.POSn_STATE n) 9 true) :=
  congrArg Host.Outcome.next (if_pos (by simpa using h))

theorem exec_posResume_ignored (h : s.webSrc n ≠ 0 ∨ s.webState n ≠ 3) :
    exec (.posResume n) s = .next (s.setBit (Reg.POSn_STATE n) 9 true) :=
  congrArg Host.Outcome.next (if_pos (by simpa using h))

theorem exec_posResume_lost (henc : s.webSrc n = 0) (hlost : s.webState n = 3) : exec (.posResume n) s =
    .next (loadPosition s n ((s.web n).trusted + BitVec.ofInt 80 ((s.reg (Reg.POSn_LOSTEDGE n)).toInt * (s.ratio n : Int)))) :=
  congrArg Host.Outcome.next (if_neg (by simp [henc, hlost]))

theorem exec_ringSampleTimeout_silent (hring : s.webSrc n = 2) (hon : s.bit (Reg.POSn_CTL n) 0 = true) (hstate : s.webState n ≠ 3) :
    exec (.ringSampleTimeout n) s = .next (enterLost (s.setWeb n { s.web n with sample := none }) n 3) :=
  congrArg Host.Outcome.next (if_pos (by simp [hring, hon, hstate]))

theorem exec_ringSampleTimeout_none (h : s.webSrc n ≠ 2 ∨ s.bit (Reg.POSn_CTL n) 0 = false ∨ s.webState n = 3) :
    exec (.ringSampleTimeout n) s = .next s := by
  refine congrArg Host.Outcome.next (if_neg ?_)
  rcases h with h | h | h
  · simp [h]
  · simp [h]
  · simp [h]

/-! ### Enable and disable (R186) -/

/-- An ENC web that is enabled, before its state follows. -/
def enabledWeb (s : State) (n : Nat) : State :=
  let u := s.setBit (Reg.POSn_CTL n) 0 true
  webView (u.setWeb n { u.web n with
    tReal := none, nsyn := 0, runc := 0, slowc := 0, revOn := false, revNet := 0, revBad := false }) n

theorem act_setWeb (s : State) (n a : Nat) (w : Web) : (s.setWeb n w).act a = s.act a := rfl

theorem enabledWeb_webSrc (s : State) (n : Nat) : (enabledWeb s n).webSrc n = s.webSrc n := by
  simp only [State.webSrc, enabledWeb, webView, State.setReg64, State.setFld, State.setBit, State.act_setReg, act_setWeb]

theorem exec_webEnable_enc (hoff : s.bit (Reg.POSn_CTL n) 0 = false) (henc : s.webSrc n = 0) :
    exec (.webEnable n) s = .next ((enabledWeb s n).setWebState n 1) := by
  change Host.Outcome.next (webEnable s n) = _
  rw [webEnable, if_neg (by simp [hoff])]
  exact congrArg Host.Outcome.next (if_pos ((enabledWeb_webSrc s n).trans henc))

theorem exec_webEnable_on (hon : s.bit (Reg.POSn_CTL n) 0 = true) : exec (.webEnable n) s = .next s :=
  congrArg Host.Outcome.next (if_pos hon)

/-- An enabled web is in SLOW; its position and accumulator stay. -/
theorem webEnable_enables (hoff : s.bit (Reg.POSn_CTL n) 0 = false) (henc : s.webSrc n = 0) :
    Completes (.webEnable n) s (fun t => t.bit (Reg.POSn_CTL n) 0 = true ∧ t.webState n = 1 ∧
      (t.web n).acc = (s.web n).acc ∧ t.bcastPos n = s.bcastPos n) := by
  have hplaces := Reg.web_places n
  have hreg (a : Nat) (hstate : a ≠ Reg.POSn_STATE n) (hstatus : a ≠ Reg.POS_STATUS) (hlow : a ≠ Reg.POSn_TRUST_LO n)
      (hhigh : a ≠ Reg.POSn_TRUST_LO n + 4) :
      ((enabledWeb s n).setWebState n 1).reg a = (s.setBit (Reg.POSn_CTL n) 0 true).reg a := by
    rw [reg_setWebState_ne _ _ _ hstate hstatus, enabledWeb, reg_webView_ne _ _ hstate hlow hhigh, reg_setWeb]
  have hlow : ((enabledWeb s n).setWebState n 1).reg (Reg.POSn_POS_LO n) = s.reg (Reg.POSn_POS_LO n) :=
    (hreg _ (by omega) (by omega) (by omega) (by omega)).trans (State.reg_setBit_ne _ (by omega) _ _)
  have hhigh : ((enabledWeb s n).setWebState n 1).reg (Reg.POSn_POS_LO n + 4) = s.reg (Reg.POSn_POS_LO n + 4) :=
    (hreg _ (by omega) (by omega) (by omega) (by omega)).trans (State.reg_setBit_ne _ (by omega) _ _)
  refine ⟨_, exec_webEnable_enc hoff henc, ?_, webState_setWebState _ _ (by decide), ?_, ?_⟩
  · rw [State.bit, hreg _ (by omega) (by omega) (by omega) (by omega), ← State.bit, State.bit_setBit_same _ _ _ _ (by decide)]
  · rw [web_setWebState, enabledWeb, web_webView, State.web_setWeb_same, web_setBit]
  · rw [State.bcastPos, reg64_congr hlow hhigh, State.bcastPos]

/-- A web that is disabled, before source 17's line follows. -/
def disabledWeb (s : State) (n : Nat) : State :=
  let u := ((s.setBit (Reg.POSn_CTL n) 0 false).setWebState n 0).setUncert n false
  u.setWeb n { u.web n with revBad := true }

theorem exec_webDisable (s : State) (n : Nat) : exec (.webDisable n) s = .next (lostLine (disabledWeb s n)) := rfl

/-- A disabled web is in IDLE; its position and accumulator stay. -/
theorem webDisable_disables (s : State) (n : Nat) :
    Completes (.webDisable n) s (fun t => t.bit (Reg.POSn_CTL n) 0 = false ∧ t.webState n = 0 ∧
      t.bit (Reg.POSn_STATE n) 2 = false ∧ t.bcastPos n = s.bcastPos n ∧ (t.web n).acc = (s.web n).acc) := by
  have hplaces := Reg.web_places n
  have hline := lostLine_collectorOnly (disabledWeb s n)
  have hreg (a : Nat) (hstate : a ≠ Reg.POSn_STATE n) (hstatus : Reg.POS_STATUS < a) :
      (lostLine (disabledWeb s n)).reg a = (s.setBit (Reg.POSn_CTL n) 0 false).reg a := by
    rw [hline.positions hstatus.le, disabledWeb, reg_setWeb, reg_setUncert_ne _ _ _ hstate hstatus.ne',
      reg_setWebState_ne _ _ _ hstate hstatus.ne']
  have hlow : (lostLine (disabledWeb s n)).reg (Reg.POSn_POS_LO n) = s.reg (Reg.POSn_POS_LO n) :=
    (hreg _ (by omega) (by omega)).trans (State.reg_setBit_ne _ (by omega) _ _)
  have hhigh : (lostLine (disabledWeb s n)).reg (Reg.POSn_POS_LO n + 4) = s.reg (Reg.POSn_POS_LO n + 4) :=
    (hreg _ (by omega) (by omega)).trans (State.reg_setBit_ne _ (by omega) _ _)
  refine ⟨_, exec_webDisable s n, ?_, ?_, ?_, ?_, ?_⟩
  · rw [State.bit, hreg _ (by omega) (by omega), ← State.bit, State.bit_setBit_same _ _ _ _ (by decide)]
  · rw [webState_congr (hline.state n), disabledWeb, webState_congr (reg_setWeb _ _ _ _), webState_setUncert,
      webState_setWebState _ _ (by decide)]
  · rw [State.bit, hline.state n, disabledWeb, reg_setWeb, ← State.bit, uncert_setUncert]
  · rw [State.bcastPos, reg64_congr hlow hhigh, State.bcastPos]
  · rw [hline.web n, disabledWeb, State.web_setWeb_same, web_setUncert, web_setWebState, web_setBit]

/-- CLRCNT clears the four counters and CMDERR, and leaves the web's state (R205). -/
theorem posClrcnt_clears (s : State) (n : Nat) :
    Completes (.posClrcnt n) s (fun t => RegsOnly s t ∧ t.reg (Reg.POSn_NOISE_CNT n) = 0 ∧ t.reg (Reg.POSn_SYNTH_CNT n) = 0 ∧
      t.reg (Reg.POSn_QERR_CNT n) = 0 ∧ t.reg (Reg.POSn_IDXERR_CNT n) = 0 ∧ t.bit (Reg.POSn_STATE n) 9 = false ∧
      t.webState n = s.webState n) := by
  have hplaces := Reg.web_places n
  have hregs : RegsOnly s (posClrcnt s n) := ((((RegsOnly.refl s).setReg _ _).setReg _ _).setReg _ _ |>.setReg _ _).setReg _ _
  refine ⟨posClrcnt s n, rfl, hregs, ?_, ?_, ?_, ?_, State.bit_setBit_same _ _ _ _ (by decide), ?_⟩
  · rw [posClrcnt, State.reg_setBit_ne _ (by omega), State.reg_setReg_ne _ (by omega), State.reg_setReg_ne _ (by omega),
      State.reg_setReg_ne _ (by omega), State.reg_setReg_same]
  · rw [posClrcnt, State.reg_setBit_ne _ (by omega), State.reg_setReg_ne _ (by omega), State.reg_setReg_ne _ (by omega),
      State.reg_setReg_same]
  · rw [posClrcnt, State.reg_setBit_ne _ (by omega), State.reg_setReg_ne _ (by omega), State.reg_setReg_same]
  · rw [posClrcnt, State.reg_setBit_ne _ (by omega), State.reg_setReg_same]
  · rw [posClrcnt, State.webState, fld_setBit_outside _ _ _ (by decide) (by decide), State.fld, State.reg_setReg_ne _ (by omega),
      State.reg_setReg_ne _ (by omega), State.reg_setReg_ne _ (by omega), State.reg_setReg_ne _ (by omega), State.webState,
      State.fld]

end

/-! ### The end of a revolution (R204, R657) -/

section
variable {s : State} {n : Nat} {time : W64}

/-- A revolution of web `n` has ended at `time`, its net count stored. -/
def revolutionStored (s : State) (n : Nat) (time : W64) : State :=
  ((s.upTo time).setWeb n { s.web n with lastChange := some time }).setReg (Reg.POSn_IDX_CNT n) (BitVec.ofInt 32 (s.web n).revNet)

/-- The next revolution of web `n` begins. -/
def revolutionBegun (s : State) (n : Nat) : State :=
  s.setWeb n { s.web n with revOn := true, revNet := 0, revBad := s.webState n == 3 }

/-- The ended revolution judged: a count that is not EDGES, where EDGES is set, is counted and an event of class C. -/
def revolutionJudged (s : State) (n : Nat) (time : W64) : State :=
  if s.fld (Reg.POSn_REV n) 23 0 != 0 && (s.web n).revNet != (s.fld (Reg.POSn_REV n) 23 0 : Int) then
    raise ((revolutionStored s n time).count (Reg.POSn_IDXERR_CNT n) 1) 17 0 false
  else revolutionStored s n time

theorem revolutionJudged_match (h : s.fld (Reg.POSn_REV n) 23 0 = 0 ∨ (s.web n).revNet = (s.fld (Reg.POSn_REV n) 23 0 : Int)) :
    revolutionJudged s n time = revolutionStored s n time := by
  rw [revolutionJudged, if_neg]
  simpa [imp_iff_not_or] using h

theorem revolutionJudged_mismatch (hset : s.fld (Reg.POSn_REV n) 23 0 ≠ 0)
    (hnet : (s.web n).revNet ≠ (s.fld (Reg.POSn_REV n) 23 0 : Int)) : revolutionJudged s n time =
      raise ((revolutionStored s n time).count (Reg.POSn_IDXERR_CNT n) 1) 17 0 false := by
  rw [revolutionJudged, if_pos]
  simp [hset, hnet]

theorem exec_encIndexEdge (hup : s.islandUp 22 = true) (henc : s.webSrc n = 0)
    (hsoon : tooSoon (s.web n).lastChange time = false) (hstate : s.webState n ≠ 0) (hon : (s.web n).revOn = true)
    (hgood : (s.web n).revBad = false) :
    exec (.encIndexEdge n time) s = .next (revolutionBegun (revolutionJudged s n time) n) := by
  change execEncIndexEdge n time s = _
  rw [execEncIndexEdge]
  refine congrArg Host.Outcome.next ((if_neg (by simp [hup, henc])).trans ((if_neg ?_).trans ((if_neg hstate).trans ?_)))
  · rw [web_upTo, hsoon]; decide
  · refine congrArg (revolutionBegun · n) (if_pos ?_)
    simp [hon, hgood]

end

end Sys2Proof.Machine
end

section
/-! PROOFS. What the webs' commands do, put together from the laws above. Statement O41. -/

namespace Sys2Proof.Claims
open Sys2Proof.Machine

section
variable {s : State} {n : Nat} {time : W64}

theorem revolutionBegun_reg (s : State) (n a : Nat) : (revolutionBegun s n).reg a = s.reg a := rfl

theorem revolutionBegun_web (s : State) (n : Nat) :
    ((revolutionBegun s n).web n).revOn = true ∧ ((revolutionBegun s n).web n).revNet = 0 := by
  rw [revolutionBegun, State.web_setWeb_same]
  exact ⟨rfl, rfl⟩

theorem revolutionStored_reg_ne (s : State) {n a : Nat} (h : a ≠ Reg.POSn_IDX_CNT n) :
    (revolutionStored s n time).reg a = s.reg a := State.reg_setReg_ne _ h _

theorem quiet.revolutionStored (h : quiet s 17) : quiet (revolutionStored s n time) 17 := by
  obtain ⟨-, -, -, -, -, hidx, -⟩ := Reg.web_above n
  exact ((h.upTo time).setWeb n _).setPosition (by decide) hidx _

/-- The event of a revolution with a wrong count shows in IDXERR and the collector alone. -/
theorem quiet.revolutionMismatch (h : quiet s 17) :
    let t := Machine.raise ((Machine.revolutionStored s n time).count (Reg.POSn_IDXERR_CNT n) 1) 17 0 false
    t.reg (Reg.POSn_IDX_CNT n) = BitVec.ofInt 32 (s.web n).revNet ∧ Counted s t (Reg.POSn_IDXERR_CNT n) := by
  have hplaces := Reg.web_places n
  have hidx : Reg.POSn_IDX_CNT n ≠ Reg.POSn_IDXERR_CNT n := by omega
  obtain ⟨-, -, -, -, -, haboveIdx, haboveErr, -⟩ := Reg.web_above n
  have hquiet : quiet ((Machine.revolutionStored s n time).count (Reg.POSn_IDXERR_CNT n) 1) 17 :=
    h.revolutionStored.setPosition (by decide) haboveErr _
  obtain ⟨honly, -⟩ := hquiet.raise 0 false (by decide)
  refine ⟨?_, ?_⟩
  · rw [honly.positions haboveIdx, State.count, State.reg_setReg_ne _ hidx, Machine.revolutionStored, State.reg_setReg_same]
  · rw [Counted, honly.positions haboveErr, State.count, State.reg_setReg_same, revolutionStored_reg_ne s hidx.symm]

/-- An index edge stores the revolution's net count and begins the next one; a count that is not EDGES is counted. -/
theorem encIndexEdge_acts (hup : s.islandUp 22 = true) (henc : s.webSrc n = 0)
    (hsoon : tooSoon (s.web n).lastChange time = false) (hstate : s.webState n ≠ 0) (hon : (s.web n).revOn = true)
    (hgood : (s.web n).revBad = false) (hquiet : quiet s 17) :
    Completes (.encIndexEdge n time) s (fun t => t.reg (Reg.POSn_IDX_CNT n) = BitVec.ofInt 32 (s.web n).revNet ∧
      (t.web n).revOn = true ∧ (t.web n).revNet = 0 ∧
      ((s.fld (Reg.POSn_REV n) 23 0 = 0 ∨ (s.web n).revNet = (s.fld (Reg.POSn_REV n) 23 0 : Int)) →
        t.reg (Reg.POSn_IDXERR_CNT n) = s.reg (Reg.POSn_IDXERR_CNT n)) ∧
      (s.fld (Reg.POSn_REV n) 23 0 ≠ 0 → (s.web n).revNet ≠ (s.fld (Reg.POSn_REV n) 23 0 : Int) →
        Counted s t (Reg.POSn_IDXERR_CNT n))) := by
  have hplaces := Reg.web_places n
  have hidx : Reg.POSn_IDXERR_CNT n ≠ Reg.POSn_IDX_CNT n := by omega
  have hmatch (h : s.fld (Reg.POSn_REV n) 23 0 = 0 ∨ (s.web n).revNet = (s.fld (Reg.POSn_REV n) 23 0 : Int)) :
      (revolutionBegun (revolutionJudged s n time) n).reg = (revolutionStored s n time).reg := by
    funext a
    rw [revolutionBegun_reg, revolutionJudged_match h]
  have hmismatch (hset : s.fld (Reg.POSn_REV n) 23 0 ≠ 0) (hnet : (s.web n).revNet ≠ (s.fld (Reg.POSn_REV n) 23 0 : Int)) :
      (revolutionBegun (revolutionJudged s n time) n).reg =
        (raise ((revolutionStored s n time).count (Reg.POSn_IDXERR_CNT n) 1) 17 0 false).reg := by
    funext a
    rw [revolutionBegun_reg, revolutionJudged_mismatch hset hnet]
  obtain ⟨hshown, hcounted⟩ := hquiet.revolutionMismatch (n := n) (time := time)
  obtain ⟨hrevOn, hrevNet⟩ := revolutionBegun_web (revolutionJudged s n time) n
  refine ⟨_, exec_encIndexEdge hup henc hsoon hstate hon hgood, ?_, hrevOn, hrevNet, fun h => ?_, fun hset hnet => ?_⟩
  · by_cases h : s.fld (Reg.POSn_REV n) 23 0 = 0 ∨ (s.web n).revNet = (s.fld (Reg.POSn_REV n) 23 0 : Int)
    · rw [hmatch h]
      exact State.reg_setReg_same _ _ _
    · obtain ⟨hset, hnet⟩ := not_or.mp h
      rw [hmismatch hset hnet, hshown]
  · rw [hmatch h, revolutionStored_reg_ne s hidx]
  · rw [Counted, hmismatch hset hnet]
    exact hcounted

end

/-! ### What an edge does, by the web's state (R182, R183, R186, R189, R194) -/

section
variable {s : State} {n : Nat} {time : W64} {a b a0 b0 : Bool} (hup : s.islandUp 22 = true) (henc : s.webSrc n = 0)
  (hlevels : (s.web n).levels = (a0, b0)) (hsoon : tooSoon (s.web n).lastChange time = false)

theorem edgeSeen_web (s : State) (n : Nat) (a b : Bool) (time : W64) :
    (edgeSeen s n a b time).web n = { s.web n with levels := (a, b), lastChange := some time } := State.web_setWeb_same _ _ _

theorem movedAcc_edgeSeen (s : State) (n : Nat) (a b : Bool) (time : W64) (fwd : Bool) :
    movedAcc (edgeSeen s n a b time) n fwd = movedAcc s n fwd := by
  rw [movedAcc, edgeSeen_web]
  rfl

include hup henc hlevels hsoon

theorem encEdge_both (ha : a ≠ a0) (hb : b ≠ b0) : Completes (.encEdge n a b time) s (fun t =>
    Counted s t (Reg.POSn_QERR_CNT n) ∧ (t.web n).acc = (s.web n).acc ∧ (t.web n).levels = (a, b)) := by
  refine ⟨_, exec_encEdge_both hup henc hlevels hsoon ha hb, State.reg_setReg_same _ _ _, ?_⟩
  rw [web_count, edgeSeen_web]
  exact ⟨rfl, rfl⟩

section
variable (hone : (a ≠ a0 ∧ b = b0) ∨ (a = a0 ∧ b ≠ b0))
include hone

theorem encEdge_slow (hstate : s.webState n = 1) : Completes (.encEdge n a b time) s (fun t =>
    (t.web n).acc = movedAcc s n (forward s n a b a0) ∧ (t.web n).trusted = (t.web n).acc ∧ (t.web n).tBase = time ∧
      t.mem = s.mem) := by
  refine ⟨_, exec_encEdge_one hup henc hlevels hsoon hone, ?_⟩
  rw [countEdge_slow (s := edgeSeen s n a b time) hstate]
  obtain ⟨⟨hacc, htrusted, hbase⟩, hmem⟩ := slowEdge_moves (edgeSeen s n a b time) n time (forward s n a b a0)
  rw [movedAcc_edgeSeen] at hacc htrusted
  exact ⟨hacc, htrusted.trans hacc.symm, hbase, hmem⟩

theorem encEdge_run (hstate : s.webState n = 2) (hfwd : forward s n a b a0 = true)
    (hlate : s.period n ≤ 2 * (time.toNat - (s.web n).tBase.toNat)) : Completes (.encEdge n a b time) s (fun t =>
    (t.web n).acc = movedAcc s n true ∧ (t.web n).trusted = (t.web n).acc ∧ t.bit (Reg.POSn_STATE n) 2 = false ∧
      t.reg (Reg.POSn_NOISE_CNT n) = s.reg (Reg.POSn_NOISE_CNT n)) := by
  have hlate' : (edgeSeen s n a b time).period n ≤ 2 * (time.toNat - ((edgeSeen s n a b time).web n).tBase.toNat) := by
    rw [edgeSeen_web]; exact hlate
  refine ⟨_, exec_encEdge_one hup henc hlevels hsoon hone, ?_⟩
  rw [countEdge_run (s := edgeSeen s n a b time) hstate, hfwd]
  obtain ⟨⟨hacc, htrusted, -⟩, huncert, hnoise⟩ := runEdge_moves hlate'
  rw [movedAcc_edgeSeen] at hacc htrusted
  exact ⟨hacc, htrusted.trans hacc.symm, huncert, hnoise⟩

theorem encEdge_noise (hstate : s.webState n = 2)
    (h : forward s n a b a0 = false ∨ 2 * (time.toNat - (s.web n).tBase.toNat) < s.period n) :
    Completes (.encEdge n a b time) s (fun t =>
      Counted s t (Reg.POSn_NOISE_CNT n) ∧ (t.web n).acc = (s.web n).acc ∧ t.webState n = 2) := by
  have hplaces := Reg.web_places n
  have h' : forward s n a b a0 = false ∨
      2 * (time.toNat - ((edgeSeen s n a b time).web n).tBase.toNat) < (edgeSeen s n a b time).period n := by
    rw [edgeSeen_web]; exact h
  refine ⟨_, exec_encEdge_one hup henc hlevels hsoon hone, ?_⟩
  rw [countEdge_run (s := edgeSeen s n a b time) hstate, runEdge_noise h']
  refine ⟨State.reg_setReg_same _ _ _, ?_, (webState_congr (State.reg_setReg_ne _ (by omega) _)).trans hstate⟩
  rw [web_count, edgeSeen_web]

theorem encEdge_lost (hstate : s.webState n = 3) : Completes (.encEdge n a b time) s (fun t =>
    t.reg (Reg.POSn_LOSTEDGE n) = s.reg (Reg.POSn_LOSTEDGE n) + (if forward s n a b a0 then 1 else -1) ∧
      (t.web n).acc = (s.web n).acc) := by
  refine ⟨_, exec_encEdge_one hup henc hlevels hsoon hone, ?_⟩
  rw [countEdge_lost (s := edgeSeen s n a b time) hstate]
  refine ⟨State.reg_setReg_same _ _ _, ?_⟩
  rw [lostEdge, web_setReg, edgeSeen_web]

end
end

/-! ### Synthesis, the commands and the samples (R190, R193, R194, R203, R205) -/

section
variable {s : State} {n : Nat}

theorem edgeSynthesis_moves (henc : s.webSrc n = 0) (hrun : s.webState n = 2) (hperiod : s.period n ≠ 0)
    (hfew : (s.web n).nsyn < 2) : Completes (.edgeSynthesis n) s (fun t =>
      (t.web n).acc = (s.web n).acc + BitVec.ofNat 80 (s.ratio n) ∧ (t.web n).trusted = (s.web n).trusted ∧
      (t.web n).nsyn = (s.web n).nsyn + 1 ∧ t.webState n = 2 ∧ Counted s t (Reg.POSn_SYNTH_CNT n)) := by
  have hexec := exec_edgeSynthesis henc hrun hperiod
  rw [if_neg (by omega)] at hexec
  have hweb := synthesised_web s n
  exact ⟨_, hexec, congrArg Web.acc hweb, (congrArg Web.trusted hweb :), congrArg Web.nsyn hweb,
    (synthesised_webState s n).trans hrun, synthesised_counts s n⟩

theorem edgeSynthesis_loses (henc : s.webSrc n = 0) (hrun : s.webState n = 2) (hperiod : s.period n ≠ 0)
    (hmany : 2 ≤ (s.web n).nsyn) (hquiet : quiet s 17) : Completes (.edgeSynthesis n) s (fun t =>
      t.webState n = 3 ∧ t.fld (Reg.POSn_STATE n) 8 7 = 1 ∧ (t.web n).bcast = (s.web n).trusted ∧
      t.bit (Reg.POSn_STATE n) 2 = false ∧ t.live 17 = true) := by
  obtain ⟨hlost, hcause, huncert, hlive, hweb⟩ := (hquiet.synthesised (by decide) n).enterLost n (cause := 1) (by decide)
  refine ⟨_, exec_edgeSynthesis henc hrun hperiod, ?_⟩
  rw [if_pos (by omega)]
  refine ⟨hlost, hcause, ?_, huncert, hlive⟩
  rw [hweb, frozenWeb, synthesised_web]
  rfl

/-- An accepted SET loads the position (R194). -/
theorem posSet_loads (henc : s.webSrc n = 0) (hrun : s.webState n ≠ 2) : Completes (.posSet n) s (fun t =>
    t.bcastPos n = (s.reg64 (Reg.POSn_SET_LO n)).toNat ∧ t.reg64 (Reg.POSn_TRUST_LO n) = s.reg64 (Reg.POSn_SET_LO n) ∧
      t.reg (Reg.POSn_LOSTEDGE n) = 0 ∧ t.bit (Reg.POSn_STATE n) 9 = false ∧
      t.webState n = if s.webState n = 0 then 0 else 1) := by
  set acc := BitVec.ofNat 80 ((s.reg64 (Reg.POSn_SET_LO n)).toNat * 2 ^ 16) with hacc
  have hregs : (posSet s n).regs = (loadPosition s n acc).regs := posSet_accepted henc hrun
  have hreg (a : Nat) : (posSet s n).reg a = (loadPosition s n acc).reg a := by rw [State.reg, hregs, State.reg]
  have hload : acc.toNat / 2 ^ 16 = (s.reg64 (Reg.POSn_SET_LO n)).toNat := by
    rw [hacc, BitVec.toNat_ofNat]
    omega
  refine ⟨posSet s n, rfl, ?_, ?_, ?_, ?_, ?_⟩
  · rw [State.bcastPos, reg64_congr (hreg _) (hreg _), ← State.bcastPos, loadPosition_bcastPos, hload]
  · rw [reg64_congr (hreg _) (hreg _), loadPosition_trust, hload, BitVec.ofNat_toNat, BitVec.setWidth_eq]
  · rw [hreg, loadPosition_lostEdge]
  · rw [State.bit, hreg, ← State.bit, loadPosition_cmdErr]
  · rw [webState_congr (hreg _), loadPosition_webState]

/-- An accepted RESUME loads the trusted position, moved by the edges counted in LOST (R194). -/
theorem posResume_loads (henc : s.webSrc n = 0) (hlost : s.webState n = 3) : Completes (.posResume n) s (fun t =>
    t.webState n = 1 ∧ t.reg (Reg.POSn_LOSTEDGE n) = 0 ∧
      (t.web n).acc = (s.web n).trusted + BitVec.ofInt 80 ((s.reg (Reg.POSn_LOSTEDGE n)).toInt * (s.ratio n : Int)) ∧
      (t.web n).bcast = (t.web n).acc) := by
  refine ⟨_, exec_posResume_lost henc hlost, ?_, loadPosition_lostEdge s n _, ?_, ?_⟩
  · rw [loadPosition_webState, hlost]; rfl
  · rw [loadPosition_web]; rfl
  · rw [loadPosition_web]; rfl

/-- A RING web without samples is lost (R203). -/
theorem ringSampleTimeout_loses (hring : s.webSrc n = 2) (hon : s.bit (Reg.POSn_CTL n) 0 = true) (hstate : s.webState n ≠ 3)
    (hquiet : quiet s 17) : Completes (.ringSampleTimeout n) s (fun t => t.webState n = 3 ∧
      t.fld (Reg.POSn_STATE n) 8 7 = 3 ∧ (t.web n).sample = none ∧ (t.web n).bcast = (s.web n).trusted) := by
  obtain ⟨hlost, hcause, -, -, hweb⟩ :=
    (hquiet.setWeb n { s.web n with sample := none }).enterLost n (cause := 3) (by decide)
  refine ⟨_, exec_ringSampleTimeout_silent hring hon hstate, hlost, hcause, ?_⟩
  rw [hweb, frozenWeb, State.web_setWeb_same]
  exact ⟨rfl, rfl⟩

end

/-- Settles O41: an edge is judged by which inputs changed and by the web's state; every other command is one change of the web,
and what the fault collector notes of it leaves the positions block as it is. -/
theorem webEdgesAndCommandsMoveTheWeb : Obligations.WebEdgesAndCommandsMoveTheWeb := by
  refine ⟨?edge, ?index, ?synthesis, ?commands⟩
  case edge =>
    intro n a b a0 b0 time s _ hup henc hlevels hsoon fwd r
    refine ⟨encEdge_both hup henc hlevels hsoon, fun hone => ⟨?_, ?_, ?_, ?_⟩⟩
    · exact encEdge_slow hup henc hlevels hsoon hone
    · exact encEdge_run hup henc hlevels hsoon hone
    · exact encEdge_noise hup henc hlevels hsoon hone
    · exact encEdge_lost hup henc hlevels hsoon hone
  case index =>
    intro n time s _ hup henc hsoon hstate hon hgood hquiet
    exact encIndexEdge_acts hup henc hsoon hstate hon hgood hquiet
  case synthesis =>
    intro n s _ henc hrun hperiod
    exact ⟨edgeSynthesis_moves henc hrun hperiod, edgeSynthesis_loses henc hrun hperiod⟩
  case commands =>
    intro n s _
    refine ⟨fun hon => ⟨s, exec_webEnable_on hon, rfl⟩, webEnable_enables, webDisable_disables s n, posSet_loads,
      fun h => ⟨_, exec_posSet_ignored h, rfl⟩, posResume_loads, fun h => ⟨_, exec_posResume_ignored h, rfl⟩,
      posClrcnt_clears s n, ringSampleTimeout_loses, fun h => ⟨s, exec_ringSampleTimeout_none h, rfl⟩⟩

end Sys2Proof.Claims
end

section
/-! PROOFS. The inspection unit's commands (R266 to R290): camera packets, the lines it compares, its evaluation, its line lock, ADJ
and CANCEL. First what each command makes of the unit, then the statement O47. -/

namespace Sys2Proof.Machine

/-! ### The unit's own run -/

section
variable (s : State) (e : Nat)

@[simp] theorem icu_modIcu (f : IcuRun → IcuRun) : ((s.modIcu e f).eng e).icu = f (s.eng e).icu :=
  congrArg EngineRun.icu (eng_setEng s e _)

/-- The unit's run lies in the engines' records alone. -/
theorem modIcu_frame (f : IcuRun → IcuRun) : s.modIcu e f = { s with engines := (s.modIcu e f).engines } := rfl

theorem setIcuStr_frame (i : Nat) (x : IcuStream) : s.setIcuStr e i x = { s with engines := (s.setIcuStr e i x).engines } := rfl

@[simp] theorem bit_modIcu (f : IcuRun → IcuRun) (a i : Nat) : (s.modIcu e f).bit a i = s.bit a i := rfl

theorem icuStr_setIcuStr_same {i : Nat} (h : i < (s.eng e).icu.streams.length) (x : IcuStream) :
    (s.setIcuStr e i x).icuStr e i = x := by
  rw [State.icuStr, State.setIcuStr, icu_modIcu, List.getElem?_set_self h, Option.getD_some]

end

/-! ### Camera packets (R265 to R268) -/

/-- A list of results holds one of them when `f` answers at one number below `n` alone. -/
theorem filterMap_range_single {β : Type} {f : Nat → Option β} {e n : Nat} {b : β} (he : e < n) (hb : f e = some b)
    (hf : ∀ k, k ≠ e → f k = none) : (List.range n).filterMap f = [b] := by
  induction n with
  | zero => exact absurd he (Nat.not_lt_zero e)
  | succ n ih =>
    rw [List.range_succ, List.filterMap_append]
    rcases Nat.lt_succ_iff_lt_or_eq.mp he with hlt | rfl
    · rw [ih hlt, List.filterMap_cons_none (hf n hlt.ne')]
      rfl
    · have hbelow : (List.range e).filterMap f = [] :=
        List.filterMap_eq_nil_iff.mpr fun k hk => hf k (List.mem_range.mp hk).ne
      rw [hbelow, List.filterMap_cons_some hb]
      rfl

/-- The engines whose works claim a datagram, each with its work and its stream entry (R266). -/
def claimants (s : State) (g : Nat) (d : GvspDatagram) : List (Nat × Work × Nat) :=
  (List.range s.variant.engines).filterMap (fun e => (icuMatch s e g d).map (fun p => (e, p.1, p.2)))

section
variable {s : State} {e g i : Nat} {d : GvspDatagram} {w : Work}

theorem claimants_none (h : ∀ f, icuMatch s f g d = none) : claimants s g d = [] :=
  List.filterMap_eq_nil_iff.mpr fun f _ => by rw [h f]; rfl

theorem claimants_one (he : e < s.variant.engines) (h : icuMatch s e g d = some (w, i))
    (hothers : ∀ f, f ≠ e → icuMatch s f g d = none) : claimants s g d = [(e, w, i)] :=
  filterMap_range_single he (by rw [h]; rfl) fun f hf => by rw [hothers f hf]; rfl

/-- A datagram of a lane group in Ethernet mode goes to its claimants, or counts in NOCLAIM (R266, R362). -/
theorem exec_gvspPacket (hmode : s.ethMode g = true) (hup : s.islandUp (14 + ethLane g / 12) = true) :
    exec (.gvspPacket g d) s = .next (if claimants s g d = [] then s.count (Reg.ETHg_NOCLAIM g) 1
      else s.each (claimants s g d) (fun s x => icuPacket s x.1 x.2.2 x.2.1 d)) := by
  change execGvspPacket g d s = _
  rw [execGvspPacket, if_neg (by simp [hmode, hup])]
  dsimp only
  split
  next h => exact congrArg Host.Outcome.next (if_pos h).symm
  next h => exact congrArg Host.Outcome.next (if_neg h).symm

theorem exec_gvspPacket_unclaimed (hmode : s.ethMode g = true) (hup : s.islandUp (14 + ethLane g / 12) = true)
    (h : ∀ f, icuMatch s f g d = none) : exec (.gvspPacket g d) s = .next (s.count (Reg.ETHg_NOCLAIM g) 1) := by
  rw [exec_gvspPacket hmode hup, if_pos (claimants_none h)]

theorem exec_gvspPacket_claimed (hmode : s.ethMode g = true) (hup : s.islandUp (14 + ethLane g / 12) = true)
    (he : e < s.variant.engines) (h : icuMatch s e g d = some (w, i)) (hothers : ∀ f, f ≠ e → icuMatch s f g d = none) :
    exec (.gvspPacket g d) s = .next (icuPacket s e i w d) := by
  rw [exec_gvspPacket hmode hup, claimants_one he h hothers, if_neg (List.cons_ne_nil _ _)]
  rfl

/-- A packet whose status is not 0 is dropped (R265). -/
theorem icuPacket_badStatus (h : d.status ≠ 0) : icuPacket s e i w d = packetDrop s e :=
  if_pos (by simp [h])

/-- A stream whose block `b` has just opened (R267, R268). -/
def IcuStream.opened (x : IcuStream) (b : Int) (pid : Nat) : IcuStream :=
  { x with last := b, block := b, row := 0, isOpen := true, lastPid := pid, psize := none, part := [], bad := false }

/-- The leader that fits stream entry `i` of a descriptor (R267). -/
def fittingLeader (d : List Byte) (i : Nat) : GvspBody :=
  .leader 1 (if icuRgb d then 0x02180014 else 0x01080001) (icuStream d i).npix (icuLpb d) 0

/-- A leader that fits its stream entry and lies forward of the last block opens its block (R267, R268). -/
theorem icuPacket_leader {b : Int} (hsound : d.sound = true) (hstatus : d.status = 0) (hext : d.ext = (icuStream w.desc i).ext)
    (hbody : d.body = fittingLeader w.desc i)
    (hstep : blockStep (icuStream w.desc i) (s.icuStr e i).last d.block = some b) :
    icuPacket s e i w d = s.setIcuStr e i ((s.icuStr e i).opened b d.packet) := by
  have hleader : icuPacket s e i w d = icuLeader s e i w (icuStream w.desc i) d.block d.packet 1
      (if icuRgb w.desc then 0x02180014 else 0x01080001) (icuStream w.desc i).npix (icuLpb w.desc) 0 := by
    unfold icuPacket
    dsimp only
    rw [if_neg (by simp [hsound, hstatus, hext]), hbody, fittingLeader]
  rw [hleader, icuLeader]
  dsimp only
  rw [hstep]
  exact if_pos (by simp)

end

/-! ### Compared lines (R269, R288) -/

section
variable {s : State} {e : Nat} {w : Work}

/-- The work in progress is the oldest of its queue. -/
theorem front_of_icuWork (h : s.icuWork e = some w) : s.front e 5 = some w := by
  unfold State.icuWork at h
  split at h
  next v hv =>
    split at h
    · rw [hv, h]
    · cases h
  next => cases h

/-- A line before the last that is compared without an error moves the work on by one. -/
theorem icuNextLine_ok {u : State} (hlast : w.done + 1 < w.count) (h : compareLine s e w (icuFirst w.desc + w.done) = .ok u) :
    icuNextLine s e w = modWork u e 5 (fun w => { w with done := w.done + 1 }) := by
  rw [icuNextLine, h]
  exact if_neg (by simp [hlast.ne])

theorem exec_icuLineCompare (h : s.icuWork e = some w) : exec (.icuLineCompare e) s =
    .next (if w.done < w.count ∧ ∀ i, i < icuNstr w.desc → partDecided s e i w (icuFirst w.desc + w.done) = true
      then icuNextLine s e w else s) := by
  change execIcuLineCompare e s = _
  rw [execIcuLineCompare, h]
  simp only [Bool.and_eq_true, decide_eq_true_eq, List.all_eq_true, List.mem_range]

theorem exec_icuLineTimeout (h : s.icuWork e = some w) : exec (.icuLineTimeout e) s =
    .next (if w.done < w.count ∧ ∃ r ∈ (s.eng e).icu.rows, r.2.1 = icuFirst w.desc + w.done then icuNextLine s e w else s) := by
  change execIcuLineTimeout e s = _
  rw [execIcuLineTimeout, h]
  simp only [Bool.and_eq_true, decide_eq_true_eq, List.any_eq_true, beq_iff_eq]

end

/-! ### Evaluation (R278 to R280, R283) -/

section
variable {s : State} {e : Nat} {w : Work}

/-- An evaluation that finds no change has none to handle (R280). -/
theorem handleChanges_nil (s : State) (e : Nat) (w : Work) : handleChanges s e w [] = .ok s := by
  unfold handleChanges
  exact if_neg (Nat.not_lt_zero (leAt w.desc 86 2))

theorem exec_icuEvaluate_unchanged {wn : Nat} (h : s.icuWork e = some w) (hdue : (s.eng e).icu.due = some wn)
    (hnone : evaluateBank s w (wn % 2) = .ok []) :
    exec (.icuEvaluate e []) s = .next (s.modIcu e (fun q => { q with due := none })) := by
  have hstores : otherStores s w [] = s := rfl
  change execIcuEvaluate e [] s = _
  simp only [execIcuEvaluate, h, hdue, hnone, hstores, handleChanges_nil]

/-- The state once a running evaluation has ended (R283). -/
def evaluated (s : State) (e : Nat) : State :=
  ((s.count (Reg.SEn_ICU_EVAL e) 1).setBit (Reg.SEn_ICU_STATUS e) 1 false).modIcu e
    (fun q => { q with evaluating := false, cancel := false })

/-- An evaluation that no CANCEL and no ended work waits for just ends. -/
theorem exec_icuEvaluationDone (h : s.icuWork e = some w) (hrun : (s.eng e).icu.evaluating = true)
    (hdue : (s.eng e).icu.due = none) (hcancel : (s.eng e).icu.cancel = false) (hdone : w.done ≠ w.count) :
    exec (.icuEvaluationDone e) s = .next (evaluated s e) := by
  change execIcuEvaluationDone e s = _
  simp only [execIcuEvaluationDone, h, hrun, hdue, hcancel, hdone, Option.isSome_none, Bool.not_true, Bool.or_self,
    Bool.false_eq_true, if_false]
  rfl

end

/-! ### Line lock (R273) -/

section
variable {s : State} {e : Nat}

/-- A search of 256 lines over the offsets −`range` to `range`. -/
def LockRun.fresh (range : Nat) : LockRun := { left := 256, range := range, scores := List.replicate (2 * range + 1) 0 }

theorem exec_icuLock_starts (h : (s.eng e).icu.lock = none) : exec (.icuLock e) s =
    .next (((s.modIcu e (fun q => { q with lock := some (.fresh (s.fld (Reg.SEn_ICU_LOCKCFG e) 6 0)) })).setBit
      (Reg.SEn_ICU_STATUS e) 2 true).setBit (Reg.SEn_ICU_LOCKRES e) 8 false) := by
  change Host.Outcome.next (icuLock s e) = _
  rw [icuLock, h]
  rfl

theorem exec_icuLock_running {l : LockRun} (h : (s.eng e).icu.lock = some l) : exec (.icuLock e) s = .next s := by
  change Host.Outcome.next (icuLock s e) = _
  rw [icuLock, h]

theorem exec_icuLockDone_searching {l : LockRun} (h : (s.eng e).icu.lock = some l) (hleft : l.left ≠ 0) :
    exec (.icuLockDone e) s = .next s := by
  change execIcuLockDone e s = _
  rw [execIcuLockDone, h]
  exact congrArg Host.Outcome.next (if_pos hleft)

/-- The offset a search reports, with its score. -/
def LockRun.best (l : LockRun) : Int × Nat :=
  let scored := l.scores.zipIdx.map (fun v => ((v.2 : Int) - (l.range : Nat), v.1))
  scored.foldl (fun b a => if lockBetter a b then a else b) (scored.headD (0, 0))

/-- A search has reported its best offset and score, and is over. -/
def lockReported (s : State) (e : Nat) (best : Int × Nat) : State :=
  (((s.setReg (Reg.SEn_ICU_LOCKRES e) (BitVec.ofNat 32 (uint 8 best.1 + 256))).setReg64 (Reg.SEn_ICU_LOCKSCORE_LO e)
    (BitVec.ofNat 64 best.2)).setBit (Reg.SEn_ICU_STATUS e) 2 false).modIcu e (fun q => { q with lock := none })

theorem exec_icuLockDone_finished {l : LockRun} (h : (s.eng e).icu.lock = some l) (hleft : l.left = 0) :
    exec (.icuLockDone e) s = .next (lockReported s e l.best) := by
  change execIcuLockDone e s = _
  rw [execIcuLockDone, h]
  exact congrArg Host.Outcome.next (if_neg (not_not_intro hleft))

/-- DONE stands above the eight bits of BEST. -/
theorem fbit_lockResult (best : Int) : fbit (BitVec.ofNat 32 (uint 8 best + 256)) 8 = true := by
  have hbest : uint 8 best < 256 := by unfold uint; omega
  rw [fbit, BitVec.getLsbD_ofNat, Nat.testBit_eq_decide_div_mod_eq]
  simp only [Bool.and_eq_true, decide_eq_true_eq]
  omega

theorem lockReported_done (s : State) (e : Nat) (best : Int × Nat) :
    (lockReported s e best).bit (Reg.SEn_ICU_LOCKRES e) 8 = true := by
  have hplaces : Reg.SEn_ICU_LOCKRES e ≠ Reg.SEn_ICU_STATUS e ∧ Reg.SEn_ICU_LOCKRES e ≠ Reg.SEn_ICU_LOCKSCORE_LO e ∧
      Reg.SEn_ICU_LOCKRES e ≠ Reg.SEn_ICU_LOCKSCORE_LO e + 4 := by
    unfold Reg.SEn_ICU_LOCKRES Reg.SEn_ICU_STATUS Reg.SEn_ICU_LOCKSCORE_LO
    omega
  obtain ⟨hstatus, hlow, hhigh⟩ := hplaces
  rw [lockReported, bit_modIcu, State.bit, State.reg_setBit_ne _ hstatus, reg_setReg64_ne _ hlow hhigh, State.reg_setReg_same, fbit_lockResult]

end

/-! ### CANCEL (R288) -/

section
variable (s : State) (e : Nat)

/-- The oldest work leaves its queue, whether the engine is up or not, and memory stays. -/
theorem completeWork_leaves (u : Nat) (st : WorkStatus) (done : Nat) :
    (completeWork s e u st done).queue e u = (s.queue e u).tail ∧ (completeWork s e u st done).mem = s.mem := by
  unfold completeWork
  split
  next hq => exact ⟨hq.trans (by rw [hq]; rfl), rfl⟩
  next w rest hq =>
    obtain ⟨ps, ts, hrecord, -⟩ := writeRecord_eq
      ((s.setQueue e u rest).modSeat w.seat (fun t => { t with stgOut := t.stgOut - 1 })) w.seat u w.seq w.notify done st.code
    dsimp only
    rw [hrecord, hq]
    exact ⟨queue_setQueue s e u rest, rfl⟩

/-- Completing as many works as are queued empties the queue. -/
theorem each_completeWork {e u : Nat} (st : WorkStatus) : ∀ {s : State} {l : List Work}, s.queue e u = l →
    (s.each l (fun s _ => completeWork s e u st 0)).queue e u = [] ∧
      (s.each l (fun s _ => completeWork s e u st 0)).mem = s.mem
  | _, [], h => ⟨h, rfl⟩
  | s, _ :: l, h => by
    obtain ⟨hqueue, hmem⟩ := completeWork_leaves s e u st 0
    have hrest : (completeWork s e u st 0).queue e u = l := by rw [hqueue, h]; rfl
    obtain ⟨hempty, hkept⟩ := each_completeWork st hrest
    exact ⟨hempty, hkept.trans hmem⟩

theorem engineCalm_mem : (engineCalm s e).mem = s.mem := by
  unfold engineCalm liveOff
  split
  · rfl
  · dsimp only
    split <;> rfl

theorem icuEnd_mem (st : WorkStatus) (done : Nat) : (icuEnd s e st done).mem = s.mem :=
  (engineCalm_mem _ e).trans (completeWork_leaves s e 5 st done).2

theorem icuCancelNow_empties : (icuCancelNow s e).queue e 5 = [] ∧ (icuCancelNow s e).mem = s.mem := by
  unfold icuCancelNow
  extract_lets u
  have hmem : u.mem = s.mem := by
    unfold u
    split
    · exact icuEnd_mem s e _ _
    · rfl
  obtain ⟨hempty, hkept⟩ := each_completeWork .cancelled (s := u) (e := e) (u := 5) rfl
  exact ⟨hempty, hkept.trans hmem⟩

end

/-! ### The collector's own changes leave the engines as they are -/

theorem CollectorOnly.mem {s t : State} (h : CollectorOnly s t) : t.mem = s.mem := by rw [h.1]

theorem CollectorOnly.icuStr {s t : State} (h : CollectorOnly s t) (e i : Nat) : t.icuStr e i = s.icuStr e i := by
  rw [h.1]; rfl

theorem CollectorOnly.engineReg {s t : State} (h : CollectorOnly s t) {a : Nat} (ha : EngineReg a) : t.reg a = s.reg a :=
  h.2 a (.inr ((show Reg.FC_SRCn_CNT 64 ≤ 0xFFFF08000000 by decide).trans ha))

end Sys2Proof.Machine

namespace Sys2Proof.Claims
open Sys2Proof.Machine

theorem quiet.setEngineReg {s : State} {n a : Nat} (h : quiet s n) (hn : n < 64) (ha : EngineReg a) (v : W32) :
    quiet (s.setReg a v) n := by
  unfold EngineReg at ha
  exact h.setReg (by unfold Reg.FC_SRCn_CFG; omega) (by unfold Reg.FC_FIRST; omega) v

section Inspection
variable {s : State} {e : Nat}

/-! ### Camera packets (R265 to R268, R290) -/

section
variable {g i : Nat} {d : GvspDatagram} {w : Work} (hmode : s.ethMode g = true)
  (hup : s.islandUp (14 + ethLane g / 12) = true) (he : e < s.variant.engines) (hmatch : icuMatch s e g d = some (w, i))
  (hothers : ∀ f, f ≠ e → icuMatch s f g d = none)
include hmode hup he hmatch hothers

theorem gvspPacket_drops (h : d.status ≠ 0) :
    Completes (.gvspPacket g d) s (fun t => t = s.count (Reg.SEn_ICU_PKTDROP e) 1) :=
  ⟨_, exec_gvspPacket_claimed hmode hup he hmatch hothers, icuPacket_badStatus h⟩

theorem gvspPacket_opens {b : Int} (hi : i < (s.eng e).icu.streams.length) (hsound : d.sound = true) (hstatus : d.status = 0)
    (hext : d.ext = (icuStream w.desc i).ext)
    (hbody : d.body = fittingLeader w.desc i)
    (hstep : blockStep (icuStream w.desc i) (s.icuStr e i).last d.block = some b) :
    Completes (.gvspPacket g d) s (fun t => t = { s with engines := t.engines } ∧ (t.icuStr e i).isOpen = true ∧
      (t.icuStr e i).last = b ∧ (t.icuStr e i).row = 0) := by
  have hrun := exec_gvspPacket_claimed hmode hup he hmatch hothers
  rw [icuPacket_leader hsound hstatus hext hbody hstep] at hrun
  refine ⟨_, hrun, setIcuStr_frame s e i _, ?_⟩
  rw [icuStr_setIcuStr_same s e hi]
  exact ⟨rfl, rfl, rfl⟩

end

section
variable {w : Work} (h : s.icuWork e = some w)
include h

/-- A stale stream shows in STALE, and its engine's source is live with class C (R289, R290). -/
theorem icuStreamStale_raises {i : Nat} (he : e < 5) (hstream : i < icuNstr w.desc) (hi : i < (s.eng e).icu.streams.length)
    (hquiet : quiet s e) (hengine : e < s.variant.engines) : Completes (.icuStreamStale e i) s (fun t =>
      (t.icuStr e i).stale = true ∧ t.bit (Reg.SEn_ICU_STATUS e) 4 = true ∧ t.live e = true ∧ t.mem = s.mem) := by
  set v := s.setIcuStr e i { s.icuStr e i with stale := true } with hv
  set u := v.setBit (Reg.SEn_ICU_STATUS e) 4 true with hu
  have hrun : exec (.icuStreamStale e i) s = .next (raise u e 0 true) := by
    change execIcuStreamStale e i s = _
    rw [execIcuStreamStale, h]
    exact congrArg Host.Outcome.next (if_neg (Nat.not_le.mpr hstream))
  have hv' : quiet v e := hquiet
  have hquiet' : quiet u e := hv'.setEngineReg (by omega) (engineReg_icuStatus e) _
  have hpresent : u.sourcePresent e = true := (if_pos (show e ≤ 4 by omega)).trans (decide_eq_true hengine)
  obtain ⟨honly, hlive⟩ := hquiet'.raise 0 true (by omega)
  have hkept : u.icuStr e i = v.icuStr e i := rfl
  refine ⟨_, hrun, ?stale, ?shown, hlive hpresent rfl, honly.mem⟩
  case stale => rw [honly.icuStr, hkept, hv, icuStr_setIcuStr_same s e hi]
  case shown =>
    rw [State.bit, honly.engineReg (engineReg_icuStatus e), ← State.bit, hu, State.bit_setBit_same _ _ _ _ (by decide)]

/-! ### Lines (R269) -/

theorem icuLineCompare_passes {u : State} (hlast : w.done + 1 < w.count)
    (hcompare : compareLine s e w (icuFirst w.desc + w.done) = .ok u)
    (hparts : ∀ i, i < icuNstr w.desc → partDecided s e i w (icuFirst w.desc + w.done) = true) :
    Completes (.icuLineCompare e) s (fun t => t = modWork u e 5 (fun w => { w with done := w.done + 1 })) :=
  ⟨_, exec_icuLineCompare h, (if_pos ⟨Nat.lt_of_succ_lt hlast, hparts⟩).trans (icuNextLine_ok hlast hcompare)⟩

theorem icuLineCompare_waits {i : Nat} (hi : i < icuNstr w.desc)
    (hpart : partDecided s e i w (icuFirst w.desc + w.done) = false) : Completes (.icuLineCompare e) s (fun t => t = s) :=
  ⟨_, exec_icuLineCompare h, if_neg fun ⟨_, hall⟩ => Bool.false_ne_true (hpart.symm.trans (hall i hi))⟩

theorem icuLineTimeout_passes {u : State} (hlast : w.done + 1 < w.count)
    (hcompare : compareLine s e w (icuFirst w.desc + w.done) = .ok u)
    (hrow : ∃ r ∈ (s.eng e).icu.rows, r.2.1 = icuFirst w.desc + w.done) :
    Completes (.icuLineTimeout e) s (fun t => t = modWork u e 5 (fun w => { w with done := w.done + 1 })) :=
  ⟨_, exec_icuLineTimeout h, (if_pos ⟨Nat.lt_of_succ_lt hlast, hrow⟩).trans (icuNextLine_ok hlast hcompare)⟩

theorem icuLineTimeout_waits (hrows : ∀ r ∈ (s.eng e).icu.rows, r.2.1 ≠ icuFirst w.desc + w.done) :
    Completes (.icuLineTimeout e) s (fun t => t = s) :=
  ⟨_, exec_icuLineTimeout h, if_neg fun ⟨_, r, hr, hline⟩ => hrows r hr hline⟩

/-! ### Evaluation (R280, R283) -/

theorem icuEvaluate_unchanged {wn : Nat} (hdue : (s.eng e).icu.due = some wn) (hnone : evaluateBank s w (wn % 2) = .ok []) :
    Completes (.icuEvaluate e []) s (fun t => t = { s with engines := t.engines } ∧
      (t.eng e).icu = { (s.eng e).icu with due := none }) :=
  ⟨_, exec_icuEvaluate_unchanged h hdue hnone, modIcu_frame s e _, icu_modIcu s e _⟩

theorem icuEvaluationDone_counts (hrun : (s.eng e).icu.evaluating = true) (hdue : (s.eng e).icu.due = none)
    (hcancel : (s.eng e).icu.cancel = false) (hdone : w.done ≠ w.count) : Completes (.icuEvaluationDone e) s (fun t =>
      Counted s t (Reg.SEn_ICU_EVAL e) ∧ (t.eng e).icu.evaluating = false ∧ t.bit (Reg.SEn_ICU_STATUS e) 1 = false ∧
        t.works = s.works ∧ t.mem = s.mem) := by
  have hplace : Reg.SEn_ICU_EVAL e ≠ Reg.SEn_ICU_STATUS e := by unfold Reg.SEn_ICU_EVAL Reg.SEn_ICU_STATUS; omega
  refine ⟨_, exec_icuEvaluationDone h hrun hdue hcancel hdone, ?counted, ?ended, ?shown, rfl, rfl⟩
  case counted => exact (State.reg_setBit_ne _ hplace _ _).trans (State.reg_setReg_same _ _ _)
  case ended => rw [evaluated, icu_modIcu]
  case shown => rw [evaluated, bit_modIcu, State.bit_setBit_same _ _ _ _ (by decide)]

end

/-! ### Line lock, ADJ and CANCEL (R271, R273, R288) -/

theorem icuLock_starts (h : (s.eng e).icu.lock = none) : Completes (.icuLock e) s (fun t =>
    t = { s with engines := t.engines, regs := t.regs } ∧
    (t.eng e).icu.lock = some (.fresh (s.fld (Reg.SEn_ICU_LOCKCFG e) 6 0)) ∧
    t.bit (Reg.SEn_ICU_STATUS e) 2 = true ∧ t.bit (Reg.SEn_ICU_LOCKRES e) 8 = false) := by
  have hplace : Reg.SEn_ICU_STATUS e ≠ Reg.SEn_ICU_LOCKRES e := by unfold Reg.SEn_ICU_STATUS Reg.SEn_ICU_LOCKRES; omega
  refine ⟨_, exec_icuLock_starts h, rfl, ?search, ?busy, State.bit_setBit_same _ _ _ _ (by decide)⟩
  case search => rw [State.setBit, eng_setReg, State.setBit, eng_setReg, icu_modIcu]
  case busy => rw [State.bit_setBit_reg _ hplace, State.bit_setBit_same _ _ _ _ (by decide)]

theorem icuLockDone_reports {l : LockRun} (h : (s.eng e).icu.lock = some l) (hleft : l.left = 0) :
    Completes (.icuLockDone e) s (fun t => (t.eng e).icu.lock = none ∧ t.bit (Reg.SEn_ICU_STATUS e) 2 = false ∧
      t.bit (Reg.SEn_ICU_LOCKRES e) 8 = true) := by
  refine ⟨_, exec_icuLockDone_finished h hleft, ?_, ?_, lockReported_done s e l.best⟩
  · rw [lockReported, icu_modIcu]
  · rw [lockReported, bit_modIcu, State.bit_setBit_same _ _ _ _ (by decide)]

theorem icuAdjWrite_stores (s : State) (e : Nat) (v : W32) : Completes (.icuAdjWrite e v) s (fun t => RegsOnly s t ∧
    t.fld (Reg.SEn_ICU_ADJ e) 15 0 = fbits v 15 0 ∧ ∀ a, a ≠ Reg.SEn_ICU_ADJ e → t.reg a = s.reg a) := by
  refine ⟨s.setFld (Reg.SEn_ICU_ADJ e) 15 0 (fbits v 15 0), rfl, rfl, ?_, fun a ha => State.reg_setFld_ne _ ha _ _ _⟩
  rw [State.fld_setFld_same _ _ _ _ _ (by decide) (by decide)]
  exact Nat.mod_mod _ _

theorem icuCancel_waits (h : (s.eng e).icu.evaluating = true) : Completes (.icuCancel e) s (fun t =>
    t = { s with engines := t.engines } ∧ (t.eng e).icu = { (s.eng e).icu with cancel := true }) :=
  ⟨s.modIcu e (fun r => { r with cancel := true }), congrArg Host.Outcome.next (if_pos h), modIcu_frame s e _, icu_modIcu s e _⟩

theorem icuCancel_empties (h : (s.eng e).icu.evaluating = false) :
    Completes (.icuCancel e) s (fun t => t.queue e 5 = [] ∧ t.mem = s.mem) :=
  ⟨icuCancelNow s e, congrArg Host.Outcome.next (if_neg (by simp [h])), icuCancelNow_empties s e⟩

end Inspection

/-- Settles O47: a datagram by its claimants, a line by its parts, and each other command by the unit's run. That commands without
work to do change nothing is the model's choice (log 4), and so is when the work in progress moves on (log 49). -/
theorem inspectionCommandsActOnTheWorkInProgress : Obligations.InspectionCommandsActOnTheWorkInProgress := by
  intro e s he
  refine ⟨fun g d hmode hup => ⟨fun hnone => ?unclaimed, fun w i hengine hmatch hothers hi => ?claimed⟩, fun w h => ?work,
    icuLock_starts, fun l h => ?lock, icuAdjWrite_stores s e, icuCancel_waits, icuCancel_empties⟩
  case unclaimed => exact ⟨_, exec_gvspPacket_unclaimed hmode hup hnone, rfl⟩
  case claimed =>
    exact ⟨gvspPacket_drops hmode hup hengine hmatch hothers, fun b hsound hstatus hext hbody hstep =>
      gvspPacket_opens hmode hup hengine hmatch hothers hi hsound hstatus hext hbody hstep⟩
  case work =>
    exact ⟨fun u hlast hcompare => ⟨icuLineCompare_passes h hlast hcompare, icuLineTimeout_passes h hlast hcompare⟩,
      fun i hi hpart => icuLineCompare_waits h hi hpart, icuLineTimeout_waits h,
      fun wn hdue hnone => icuEvaluate_unchanged h hdue hnone, icuEvaluationDone_counts h,
      fun i hstream hi hquiet hengine => icuStreamStale_raises h he hstream hi hquiet hengine⟩
  case lock =>
    exact ⟨⟨s, exec_icuLock_running h, rfl⟩, fun hleft => ⟨s, exec_icuLockDone_searching h hleft, rfl⟩, icuLockDone_reports h⟩

end Sys2Proof.Claims
end

section
/-! PROOFS. The staging commands of a domain (R293 to R303, R323): ARM, CANCEL, DISCARD, COMMIT and the load of a list. First what a
report shows while the notification queue is off, then what each command makes of the set, then the statement O43. -/

namespace Sys2Proof.Machine

/-! ### Who reaches a staging page (R323) -/

theorem respond_denied {w : Requester} {c : Prop} [Decidable c] (h : ¬ c) (s t : State) :
    respond w (if c then (t, true) else (s, false)) = { s with out := s.out ++ [.busError w] } := by
  rw [if_neg h, respond_refused]

section
variable {s : State} {who : Requester} {d : Nat}

theorem exec_stageArm (h : s.stgAccess who d = true) : exec (.stageArm who d) s = .next (stgArm s d) :=
  congrArg Host.Outcome.next (respond_allowed h s _)

theorem exec_stageCancel (h : s.stgAccess who d = true) : exec (.stageCancel who d) s = .next (stgCancel s d) :=
  congrArg Host.Outcome.next (respond_allowed h s _)

theorem exec_stageDiscard (h : s.stgAccess who d = true) : exec (.stageDiscard who d) s = .next (stgDiscard s d) :=
  congrArg Host.Outcome.next (respond_allowed h s _)

theorem exec_stageCommit (h : s.stgAccess who d = true) : exec (.stageCommit who d) s = .next (stgCommit s d) :=
  congrArg Host.Outcome.next (respond_allowed h s _)

/-- A requester that does not reach the page gets a bus error for each command, and nothing else happens. -/
theorem exec_stage_denied (h : s.stgAccess who d = false) :
    ∀ c ∈ [Instr.stageCommit who d, .stageArm who d, .stageCancel who d, .stageDiscard who d],
      exec c s = .next { s with out := s.out ++ [Out.busError who] } := by
  have hdenied : ¬ s.stgAccess who d = true := by simp [h]
  simp only [List.forall_mem_cons, List.not_mem_nil, false_implies, implies_true, and_true]
  exact ⟨congrArg Host.Outcome.next (respond_denied hdenied s _), congrArg Host.Outcome.next (respond_denied hdenied s _),
    congrArg Host.Outcome.next (respond_denied hdenied s _), congrArg Host.Outcome.next (respond_denied hdenied s _)⟩

end

/-! ### A report while the notification queue is off (R146, R303) -/

/-- The registers of a domain's staging page that its commands change, and its notification registers, by their places. -/
theorem Reg.stg_places (d : Nat) : Reg.SYS_Dd_NQ_CTL d + 0x10 = Reg.SYS_Dd_NQ_LOST d ∧
    Reg.SNP_STGd_COUNT d = Reg.SNP_STGd_STATUS d + 0xC ∧ Reg.SNP_STGd_BADIDX d = Reg.SNP_STGd_STATUS d + 0x10 ∧
    (d < 8 → Reg.SYS_Dd_NQ_LOST d < Reg.FC_STATUS_LO) ∧ Reg.FC_SRCn_CNT 64 ≤ Reg.SNP_STGd_STATUS d ∧
    (d < 8 → Reg.SNP_STGd_BADIDX d < Reg.POS_STATUS) ∧ Reg.FC_STATUS_LO ≤ Reg.FC_SRCn_CNT 64 := by
  simp only [Reg.SYS_Dd_NQ_CTL, Reg.SYS_Dd_NQ_LOST, Reg.SNP_STGd_COUNT, Reg.SNP_STGd_STATUS, Reg.SNP_STGd_BADIDX,
    Reg.FC_STATUS_LO, Reg.FC_SRCn_CNT, Reg.POS_STATUS]
  omega

/-- A domain whose queue is off loses the record: it is numbered and counted as lost. -/
theorem notify_queueOff {s : State} {d : Nat} (h : s.bit (Reg.SYS_Dd_NQ_CTL d) 0 = false) (rtype : Nat) (body : List Byte) :
    notify s d rtype body =
      (s.setDom d { s.dom d with seq := nextSeq (s.dom d).seq }).count (Reg.SYS_Dd_NQ_LOST d) 1 := by
  have hoff : fbit ((s.setDom d { s.dom d with seq := nextSeq (s.dom d).seq }).reg (Reg.SYS_Dd_NQ_CTL d)) 0 = false := h
  unfold notify
  exact if_pos (by rw [hoff]; rfl)

/-- Result `r` stands in the STATUS of domain `d`; else only the domain's record number and its count of lost records differ. -/
structure Reported (s t : State) (d : Nat) (r : StgResult) : Prop where
  frame : t = { s with doms := t.doms, regs := t.regs }
  result : t.fld (Reg.SNP_STGd_STATUS d) 19 16 = r.code
  state : t.fld (Reg.SNP_STGd_STATUS d) 14 13 = s.fld (Reg.SNP_STGd_STATUS d) 14 13
  others : ∀ a, a ≠ Reg.SNP_STGd_STATUS d → a ≠ Reg.SYS_Dd_NQ_LOST d → t.reg a = s.reg a

theorem StgResult.code_lt (r : StgResult) : r.code < 16 := by cases r <;> decide

section
variable {s : State} {d : Nat}

theorem stgResult_reported (hd : d < 8) (h : s.bit (Reg.SYS_Dd_NQ_CTL d) 0 = false) (r : StgResult) :
    Reported s (stgResult s d r) d r := by
  obtain ⟨hlost, -, -, hlow, hhigh, -, hfc⟩ := Reg.stg_places d
  have hlow := hlow hd
  have hshown : (s.setFld (Reg.SNP_STGd_STATUS d) 19 16 r.code).bit (Reg.SYS_Dd_NQ_CTL d) 0 = false := by
    rw [State.bit, State.reg_setFld_ne _ (by omega)]
    exact h
  have hstatus : (stgResult s d r).reg (Reg.SNP_STGd_STATUS d) = fset (s.reg (Reg.SNP_STGd_STATUS d)) 19 16 r.code := by
    unfold stgResult
    dsimp only
    rw [notify_queueOff hshown]
    exact (State.reg_setReg_ne _ (by omega) _).trans (State.reg_setReg_same _ _ _)
  refine ⟨?frame, ?result, ?state, fun a ha hb => ?others⟩
  case frame =>
    unfold stgResult
    dsimp only
    rw [notify_queueOff hshown]
    rfl
  case result =>
    rw [State.fld, hstatus, fbits_fset_same _ _ _ _ (by decide) (by decide)]
    exact Nat.mod_eq_of_lt r.code_lt
  case state => rw [State.fld, hstatus, fbits_fset_outside _ _ (by decide) (by decide) (by decide), State.fld]
  case others =>
    unfold stgResult
    dsimp only
    rw [notify_queueOff hshown]
    exact (State.reg_setReg_ne _ hb _).trans (State.reg_setFld_ne _ ha _ _ _)

/-! ### ARM (R299) -/

/-- The open set becomes the armed one; `late` tells whether the seam has passed. -/
def StgDom.arm (g : StgDom) (late : Bool) : StgDom :=
  { openSet := [], armed := g.openSet, armedOn := true, list := [], fired := false, late := late }

/-- A change of a set and of a field leaves the rest. -/
theorem setStgDom_setFld_frame (s : State) (d : Nat) (g : StgDom) (a hi lo v : Nat) : (s.setStgDom d g).setFld a hi lo v =
    { s with stg := (s.setStgDom d g).stg, regs := ((s.setStgDom d g).setFld a hi lo v).regs } := rfl

@[simp] theorem stgDom_setFld (s : State) (a hi lo v e : Nat) : (s.setFld a hi lo v).stgDom e = s.stgDom e := rfl

/-- OPEN_N alone follows the open set. -/
theorem fld_stgCount (s : State) (d : Nat) :
    (stgCount s d).fld (Reg.SNP_STGd_STATUS d) 9 0 = (s.stgDom d).openSet.length % 2 ^ 10 :=
  State.fld_setFld_same _ _ _ _ _ (by decide) (by decide)

theorem fld_stgCount_outside (s : State) (d : Nat) {hi lo : Nat} (h : 9 < lo) :
    (stgCount s d).fld (Reg.SNP_STGd_STATUS d) hi lo = s.fld (Reg.SNP_STGd_STATUS d) hi lo := by
  rw [State.fld, stgCount, State.setFld, State.reg_setReg_same,
    fbits_fset_outside _ _ (by decide) (by decide) (.inr h), State.fld]

theorem bit_stgCount_outside (s : State) (d : Nat) {i : Nat} (h : 9 < i) :
    (stgCount s d).bit (Reg.SNP_STGd_STATUS d) i = s.bit (Reg.SNP_STGd_STATUS d) i :=
  bit_setFld_outside _ _ _ (by decide) (by decide) (.inr h)

/-- DISCARD without its record of the set's length: the open set, OVF and the domain's first members are gone. -/
def discarded (s : State) (d : Nat) : State :=
  let t := (s.setStgDom d { s.stgDom d with openSet := [] }).setBit (Reg.SNP_STGd_STATUS d) 11 false
  { t with pairHeld := t.pairHeld.filter (fun e => e.2.map (fun x => x.2) != some d) }

theorem stgDiscard_eq (s : State) (d : Nat) : stgDiscard s d = stgCount (discarded s d) d := rfl

theorem discarded_stgDom (s : State) (d : Nat) : (discarded s d).stgDom d = { s.stgDom d with openSet := [] } :=
  State.stgDom_setStgDom_same s d _

theorem discarded_ovf (s : State) (d : Nat) : (discarded s d).bit (Reg.SNP_STGd_STATUS d) 11 = false :=
  State.bit_setBit_same (s.setStgDom d { s.stgDom d with openSet := [] }) _ _ _ (by decide)

theorem reg_setStgDom (s : State) (d : Nat) (g : StgDom) (a : Nat) : (s.setStgDom d g).reg a = s.reg a := rfl

@[simp] theorem stgDom_stgCount (s : State) (d e : Nat) : (stgCount s d).stgDom e = s.stgDom e := rfl

theorem stgArm_arms (hon : (s.stgDom d).armedOn = false) (hovf : s.bit (Reg.SNP_STGd_STATUS d) 11 = false) :
    ∃ late, stgArm s d = stgCount ((s.setStgDom d ((s.stgDom d).arm late)).setFld (Reg.SNP_STGd_STATUS d) 14 13
      (if s.listN d = 0 then 2 else 1)) d := by
  unfold stgArm
  dsimp only
  rw [if_neg (by simp [hon]), if_neg (by simp [hovf])]
  exact ⟨_, rfl⟩

theorem stgArm_busy (hon : (s.stgDom d).armedOn = true) : stgArm s d = stgResult s d .busy := if_pos hon

/-! ### The end of the armed set (R299, R301) -/

theorem stgDisarm_stgDom (s : State) (d : Nat) : (stgDisarm s d).stgDom d =
    { s.stgDom d with armed := [], armedOn := false, list := [], fired := false, late := false } :=
  State.stgDom_setStgDom_same s d _

theorem reg_stgDisarm_ne {a : Nat} (h : a ≠ Reg.SNP_STGd_STATUS d) : (stgDisarm s d).reg a = s.reg a :=
  State.reg_setFld_ne _ h _ _ _

/-- The armed set is gone and `r` says why; the open set and what is in force stay. -/
theorem stgDisarm_reported (hd : d < 8) (h : s.bit (Reg.SYS_Dd_NQ_CTL d) 0 = false) (r : StgResult) :
    let t := stgResult (stgDisarm s d) d r
    (t.stgDom d).armedOn = false ∧ (t.stgDom d).armed = [] ∧ (t.stgDom d).list = [] ∧
      (t.stgDom d).openSet = (s.stgDom d).openSet ∧ t.fld (Reg.SNP_STGd_STATUS d) 14 13 = 0 ∧
      t.fld (Reg.SNP_STGd_STATUS d) 19 16 = r.code ∧ t.inForce = s.inForce ∧
      ∀ a, a ≠ Reg.SNP_STGd_STATUS d → a ≠ Reg.SYS_Dd_NQ_LOST d → t.reg a = s.reg a := by
  intro t
  obtain ⟨hlost, -, -, hlow, hhigh, -, hfc⟩ := Reg.stg_places d
  have hlow := hlow hd
  have hoff : (stgDisarm s d).bit (Reg.SYS_Dd_NQ_CTL d) 0 = false := by
    rw [State.bit, reg_stgDisarm_ne (by omega)]
    exact h
  obtain ⟨hframe, hresult, hstate, hothers⟩ := stgResult_reported hd hoff r
  have hset : t.stgDom d = { s.stgDom d with armed := [], armedOn := false, list := [], fired := false, late := false } := by
    rw [← stgDisarm_stgDom, show t = _ from hframe]
    rfl
  rw [hset]
  refine ⟨rfl, rfl, rfl, rfl, ?_, hresult, ?_, fun a ha hb => (hothers a ha hb).trans (reg_stgDisarm_ne ha)⟩
  · rw [hstate, stgDisarm, State.fld_setFld_same _ _ _ _ _ (by decide) (by decide)]
    rfl
  · rw [show t = _ from hframe]
    rfl

end

/-! ### What follows from a web's new configuration in force (R181, R186, R402, R417) -/

/-- The staging sets and the values in force are as they were, and so is every register outside the fault collector that lies
before the positions block. -/
def SetsKept (s t : State) : Prop :=
  (t.stg = s.stg ∧ t.inForce = s.inForce) ∧
    ∀ a, a < Reg.FC_STATUS_LO ∨ Reg.FC_SRCn_CNT 64 ≤ a → a < Reg.POS_STATUS → t.reg a = s.reg a

section
variable {s t : State}

theorem SetsKept.refl (s : State) : SetsKept s s := ⟨⟨rfl, rfl⟩, fun _ _ _ => rfl⟩

theorem SetsKept.trans {u : State} (h : SetsKept s t) (k : SetsKept t u) : SetsKept s u := by
  obtain ⟨⟨hstg, hact⟩, hreg⟩ := h
  obtain ⟨⟨kstg, kact⟩, kreg⟩ := k
  exact ⟨⟨kstg.trans hstg, kact.trans hact⟩, fun a ha hb => (kreg a ha hb).trans (hreg a ha hb)⟩

theorem SetsKept.ite {u : State} {c : Prop} [Decidable c] (h : SetsKept s t) (k : SetsKept s u) :
    SetsKept s (if c then t else u) := by split <;> assumption

theorem SetsKept.setReg {a : Nat} (h : SetsKept s t) (ha : Reg.POS_STATUS ≤ a) (v : W32) : SetsKept s (t.setReg a v) :=
  ⟨h.1, fun b hb hlt => (State.reg_setReg_ne _ (by omega) v).trans (h.2 b hb hlt)⟩

theorem SetsKept.setWeb (h : SetsKept s t) (n : Nat) (w : Web) : SetsKept s (t.setWeb n w) := h

theorem SetsKept.setWebState (h : SetsKept s t) (n st : Nat) : SetsKept s (t.setWebState n st) := by
  obtain ⟨-, -, -, hstate, -⟩ := Reg.web_above n
  exact (h.setReg hstate _).setReg (Nat.le_refl _) _

theorem SetsKept.setUncert (h : SetsKept s t) (n : Nat) (b : Bool) : SetsKept s (t.setUncert n b) := by
  obtain ⟨-, -, -, hstate, -⟩ := Reg.web_above n
  exact (h.setReg hstate _).setReg (Nat.le_refl _) _

theorem SetsKept.webView (h : SetsKept s t) (n : Nat) : SetsKept s (webView t n) := by
  obtain ⟨-, -, htrust, hstate, -⟩ := Reg.web_above n
  exact ((h.setReg hstate _).setReg htrust _).setReg (Nat.le_add_right_of_le htrust) _

theorem SetsKept.modSens (h : SetsKept s t) (f : Sensing → Sensing) : SetsKept s (t.modSens f) := h

theorem SetsKept.modTu (h : SetsKept s t) (n : Nat) (f : TuRun → TuRun) : SetsKept s (t.modTu n f) := h

theorem CollectorOnly.setsKept (h : CollectorOnly s t) : SetsKept s t := by
  obtain ⟨hframe, hreg⟩ := h
  exact ⟨by rw [hframe]; exact ⟨rfl, rfl⟩, fun a ha _ => hreg a ha⟩

/-- The registers of the sensor ports, colour pipelines and thermal units lie beyond the positions block. -/
theorem Reg.sensing_above (n : Nat) : Reg.POS_STATUS ≤ Reg.SPn_STATUS n ∧ Reg.POS_STATUS ≤ Reg.CPn_STATUS n ∧
    Reg.POS_STATUS ≤ Reg.TUn_STATUS n ∧ Reg.POS_STATUS ≤ Reg.TUn_CALFAIL n := by
  simp only [Reg.POS_STATUS, Reg.SPn_STATUS, Reg.CPn_STATUS, Reg.TUn_STATUS, Reg.TUn_CALFAIL]
  omega

end

theorem webCfgApplied_setsKept (s : State) (n : Nat) (old : W32) : SetsKept s (webCfgApplied s n old) := by
  obtain ⟨-, -, -, hstate, -⟩ := Reg.web_above n
  unfold webCfgApplied
  refine (SetsKept.refl s).ite (SetsKept.trans ?_ (lostLine_collectorOnly _).setsKept)
  exact ((((SetsKept.refl s).setWeb n _).setWebState n 1).webView n |>.setReg hstate _).setUncert n false

theorem portShow_setsKept (s : State) (p : Nat) : SetsKept s (portShow s p) := by
  obtain ⟨hport, -⟩ := Reg.sensing_above p
  unfold portShow
  split
  · exact (((SetsKept.refl s).setReg hport _).setReg hport _).setReg hport _
  · exact (SetsKept.refl s).setReg hport _

theorem tuCalm_setsKept (s : State) : SetsKept s (tuCalm s) :=
  .ite (liveOff_collectorOnly s (by decide)).setsKept (.refl s)

theorem tuOff_setsKept (s : State) (n : Nat) : SetsKept s (tuOff s n) := by
  obtain ⟨-, -, hstatus, hcalfail⟩ := Reg.sensing_above n
  unfold tuOff
  exact (((((SetsKept.refl s).setReg hcalfail _).ite (.refl s)).modTu n _).setReg hstatus _).trans (tuCalm_setsKept _)

theorem tuOn_setsKept (s : State) (n : Nat) : SetsKept s (tuOn s n) := by
  obtain ⟨-, -, hstatus, -⟩ := Reg.sensing_above n
  exact (((SetsKept.refl s).setReg hstatus _).modTu n _).ite (.refl s)

theorem sensingApplied_setsKept (s : State) : SetsKept s (sensingApplied s) := by
  unfold sensingApplied
  refine SetsKept.trans (SetsKept.trans (SetsKept.trans ((SetsKept.refl s).modSens _)
    (each_keeps .refl (fun _ _ _ => .trans) portShow_setsKept _ _))
    (each_keeps .refl (fun _ _ _ => .trans) (fun u n => ?_) _ _))
    (each_keeps .refl (fun _ _ _ => .trans) (fun u n => ?_) _ _)
  · obtain ⟨-, hstatus, -⟩ := Reg.sensing_above n
    exact ((SetsKept.refl u).setReg hstatus _).setReg hstatus _
  · obtain ⟨-, -, hstatus, -⟩ := Reg.sensing_above n
    extract_lets old new shown left
    have hshown : SetsKept u shown := (SetsKept.refl u).setReg hstatus _
    refine hshown.ite ?_
    have hleft : SetsKept u left := (hshown.trans (tuOff_setsKept shown n)).ite hshown
    exact (hleft.trans (tuOn_setsKept left n)).ite hleft

/-! ### COMMIT (R298) -/

theorem stgCommit_free {s : State} {d : Nat} (hon : (s.stgDom d).armedOn = false) (hovf : s.bit (Reg.SNP_STGd_STATUS d) 11 = false)
    (hlist : s.listN d = 0) : stgCommit s d = setApplied
      (applySet (stgCount (s.setStgDom d { s.stgDom d with openSet := [] }) d) (s.stgDom d).openSet) d .applied := by
  unfold stgCommit
  dsimp only
  rw [if_neg (by simp [hon]), if_neg (by simp [hovf, hlist])]

/-- An applied set is counted and reported; the sets and the values in force stay. -/
theorem setApplied_counts {s : State} {d : Nat} (hd : d < 8) (h : s.bit (Reg.SYS_Dd_NQ_CTL d) 0 = false) (r : StgResult) :
    (setApplied s d r).stg = s.stg ∧ (setApplied s d r).inForce = s.inForce ∧
      (setApplied s d r).fld (Reg.SNP_STGd_STATUS d) 19 16 = r.code ∧
      (setApplied s d r).reg (Reg.SNP_STGd_COUNT d) = s.reg (Reg.SNP_STGd_COUNT d) + 1 := by
  obtain ⟨hlost, hcount, -, hlow, hhigh, -, hfc⟩ := Reg.stg_places d
  have hlow := hlow hd
  have hoff : (s.countMod (Reg.SNP_STGd_COUNT d) 1).bit (Reg.SYS_Dd_NQ_CTL d) 0 = false := by
    rw [State.bit, State.countMod, State.reg_setReg_ne _ (by omega)]
    exact h
  obtain ⟨hframe, hresult, -, hothers⟩ := stgResult_reported hd hoff r
  refine ⟨?_, ?_, hresult, (hothers _ (by omega) (by omega)).trans (reg_countMod_same s _)⟩
  · rw [setApplied, hframe]; rfl
  · rw [setApplied, hframe]; rfl

/-- A web's configuration is no lane register and no loop engine's. -/
theorem Reg.POSn_CFG_kind : ∀ n < 4, lanesPort (Reg.POSn_CFG n) = none ∧ leCfgOf (Reg.POSn_CFG n) = none ∧
    (List.range 4).find? (fun m => Reg.POSn_CFG m == Reg.POSn_CFG n) = some n := by
  decide +kernel

/-- A web's configuration with a SRC that is not reserved comes into force, and what follows from it leaves the sets. -/
theorem applySet_webCfg {n : Nat} {v : W32} (s : State) (hn : n < 4) (hv : fbits v 1 0 ≠ 3) :
    SetsKept (s.setAct (Reg.POSn_CFG n) (v &&& regMask (Reg.POSn_CFG n))) (applySet s [(Reg.POSn_CFG n, v)]) := by
  obtain ⟨hlanes, hloop, hweb⟩ := Reg.POSn_CFG_kind n hn
  have hok : stagedOk s (Reg.POSn_CFG n) v = true := by simp [stagedOk, hlanes, hloop, hv]
  have happly : applySet s [(Reg.POSn_CFG n, v)] = sensingApplied (webCfgApplied
      (s.setAct (Reg.POSn_CFG n) (v &&& regMask (Reg.POSn_CFG n))) n (s.act (Reg.POSn_CFG n))) := by
    simp [applySet, hok, State.each, changeApplied, hweb]
  rw [happly]
  exact (webCfgApplied_setsKept _ n _).trans (sensingApplied_setsKept _)

end Sys2Proof.Machine

namespace Sys2Proof.Claims
open Sys2Proof.Machine

section Staging
variable {who : Requester} {d : Nat} {s : State} (hd : d < 8) (hoff : s.bit (Reg.SYS_Dd_NQ_CTL d) 0 = false)

theorem stageArm_arms (hacc : s.stgAccess who d = true) (hon : (s.stgDom d).armedOn = false)
    (hovf : s.bit (Reg.SNP_STGd_STATUS d) 11 = false) : Completes (.stageArm who d) s (fun t =>
      t = { s with stg := t.stg, regs := t.regs } ∧ (t.stgDom d).armed = (s.stgDom d).openSet ∧ (t.stgDom d).openSet = [] ∧
      (t.stgDom d).armedOn = true ∧ t.fld (Reg.SNP_STGd_STATUS d) 14 13 = (if s.listN d = 0 then 2 else 1) ∧
      t.fld (Reg.SNP_STGd_STATUS d) 9 0 = 0 ∧ (∀ e, e ≠ d → t.stgDom e = s.stgDom e) ∧
      ∀ a, a ≠ Reg.SNP_STGd_STATUS d → t.reg a = s.reg a) := by
  obtain ⟨late, harm⟩ := stgArm_arms hon hovf
  set u := (s.setStgDom d ((s.stgDom d).arm late)).setFld (Reg.SNP_STGd_STATUS d) 14 13 (if s.listN d = 0 then 2 else 1) with hu
  have hset : (stgCount u d).stgDom d = (s.stgDom d).arm late := State.stgDom_setStgDom_same s d _
  refine ⟨stgCount u d, by rw [exec_stageArm hacc, harm], rfl, ?_, ?_, ?_, ?state, ?count,
    fun e he => State.stgDom_setStgDom_ne s he _, fun a ha => (reg_stgCount_ne u ha).trans (State.reg_setFld_ne _ ha _ _ _)⟩
  · rw [hset]; rfl
  · rw [hset]; rfl
  · rw [hset]; rfl
  case state =>
    rw [fld_stgCount_outside u d (by decide), hu, State.fld_setFld_same _ _ _ _ _ (by decide) (by decide)]
    split <;> rfl
  case count =>
    rw [fld_stgCount, show u.stgDom d = (s.stgDom d).arm late from hset]
    rfl

theorem stageDiscard_empties (hacc : s.stgAccess who d = true) : Completes (.stageDiscard who d) s (fun t =>
    t = { s with stg := t.stg, regs := t.regs, pairHeld := t.pairHeld } ∧ (t.stgDom d).openSet = [] ∧
    (t.stgDom d).armed = (s.stgDom d).armed ∧ t.bit (Reg.SNP_STGd_STATUS d) 11 = false ∧
    t.fld (Reg.SNP_STGd_STATUS d) 9 0 = 0 ∧ ∀ e ∈ t.pairHeld, e.2.map (fun x => x.2) ≠ some d) := by
  refine ⟨stgCount (discarded s d) d, by rw [exec_stageDiscard hacc, stgDiscard_eq], rfl, ?_, ?_, ?ovf, ?count, fun e he => ?held⟩
  · rw [stgDom_stgCount, discarded_stgDom]
  · rw [stgDom_stgCount, discarded_stgDom]
  case ovf => rw [bit_stgCount_outside _ d (by decide), discarded_ovf]
  case count =>
    rw [fld_stgCount, discarded_stgDom]
    rfl
  case held =>
    have hkept := (List.mem_filter.mp (show e ∈ s.pairHeld.filter _ from he)).2
    simpa using hkept

section
include hd hoff

theorem stage_busy {c : Instr} (hexec : exec c s = .next (stgResult s d .busy)) : Completes c s (fun t =>
    t.stg = s.stg ∧ t.inForce = s.inForce ∧ t.fld (Reg.SNP_STGd_STATUS d) 19 16 = 4) := by
  obtain ⟨hframe, hresult, -, -⟩ := stgResult_reported hd hoff .busy
  exact ⟨_, hexec, by rw [hframe], by rw [hframe], hresult⟩

theorem stageCancel_ends (hacc : s.stgAccess who d = true) : Completes (.stageCancel who d) s (fun t =>
    (t.stgDom d).armedOn = false ∧ (t.stgDom d).armed = [] ∧ (t.stgDom d).list = [] ∧
    (t.stgDom d).openSet = (s.stgDom d).openSet ∧ t.fld (Reg.SNP_STGd_STATUS d) 14 13 = 0 ∧
    t.fld (Reg.SNP_STGd_STATUS d) 19 16 = 7 ∧ t.inForce = s.inForce) := by
  obtain ⟨hon, harmed, hlist, hopen, hstate, hresult, hact, -⟩ := stgDisarm_reported hd hoff .cancelled
  exact ⟨_, exec_stageCancel hacc, hon, harmed, hlist, hopen, hstate, hresult, hact⟩

theorem stageCommit_applies {n : Nat} {v : W32} (hacc : s.stgAccess who d = true) (hn : n < 4)
    (hopen : (s.stgDom d).openSet = [(Reg.POSn_CFG n, v)]) (hv : fbits v 1 0 ≠ 3) (hon : (s.stgDom d).armedOn = false)
    (hovf : s.bit (Reg.SNP_STGd_STATUS d) 11 = false) (hlist : s.listN d = 0) : Completes (.stageCommit who d) s (fun t =>
      t.act (Reg.POSn_CFG n) = v &&& regMask (Reg.POSn_CFG n) ∧ (t.stgDom d).openSet = [] ∧
      (∀ a, a ≠ Reg.POSn_CFG n → t.act a = s.act a) ∧ t.fld (Reg.SNP_STGd_STATUS d) 19 16 = 1 ∧
      t.reg (Reg.SNP_STGd_COUNT d) = s.reg (Reg.SNP_STGd_COUNT d) + 1) := by
  obtain ⟨hlost, hcount, hbad, hlow, hhigh, hpos, hfc⟩ := Reg.stg_places d
  have hlow := hlow hd
  have hpos := hpos hd
  have hcommit := stgCommit_free hon hovf hlist
  rw [hopen] at hcommit
  obtain ⟨⟨hstg, hact⟩, hreg⟩ := applySet_webCfg (stgCount (s.setStgDom d { s.stgDom d with openSet := [] }) d) hn hv
  generalize applySet _ _ = x at hcommit hstg hact hreg
  have hplain : ∀ a, a ≠ Reg.SNP_STGd_STATUS d → a < Reg.FC_STATUS_LO ∨ Reg.FC_SRCn_CNT 64 ≤ a → a < Reg.POS_STATUS →
      x.reg a = s.reg a := fun a ha hb hc => by rw [hreg a hb hc, State.reg_setAct, reg_stgCount_ne _ ha, reg_setStgDom]
  have hxoff : x.bit (Reg.SYS_Dd_NQ_CTL d) 0 = false := by
    rw [State.bit, hplain _ (by omega) (by omega) (by omega)]
    exact hoff
  obtain ⟨kstg, kact, hresult, hcounted⟩ := setApplied_counts hd hxoff .applied
  refine ⟨setApplied x d .applied, by rw [exec_stageCommit hacc, hcommit], ?inForce, ?empty, fun a ha => ?others, hresult, ?counted⟩
  case inForce => rw [State.act, kact, hact]; exact State.act_setAct_same _ _ _
  case empty =>
    rw [State.stgDom, kstg, hstg]
    exact congrArg StgDom.openSet (State.stgDom_setStgDom_same s d _)
  case others => rw [State.act, kact, hact]; exact State.act_setAct_ne _ ha _
  case counted => rw [hcounted, hplain _ (by omega) (by omega) (by omega)]

theorem loadListDone_ends {a k : Nat} {tag : BitVec 14} {r : StgResult} (hon : (s.stgDom d).armedOn = true)
    (hloading : s.fld (Reg.SNP_STGd_STATUS d) 14 13 = 1) (hptr : s.ptr (Reg.SNP_STGd_LIST_LO d) = (a, tag))
    (hbad : loadEntries s d a tag 0 (s.listN d) = .error (k, r)) : Completes (.loadListDone d) s (fun t =>
      (t.stgDom d).armedOn = false ∧ (t.stgDom d).openSet = (s.stgDom d).openSet ∧
      t.reg (Reg.SNP_STGd_BADIDX d) = BitVec.ofNat 32 k ∧ t.fld (Reg.SNP_STGd_STATUS d) 19 16 = r.code) := by
  obtain ⟨hlost, -, hbadidx, hlow, hhigh, -, hfc⟩ := Reg.stg_places d
  have hlow := hlow hd
  have hexec : exec (.loadListDone d) s = .next (stgResult (stgDisarm (s.setReg (Reg.SNP_STGd_BADIDX d) (BitVec.ofNat 32 k)) d) d r) := by
    refine congrArg Host.Outcome.next ?_
    rw [if_pos (by simp [hon, hloading]), hptr]
    dsimp only
    rw [hbad]
  have hkept : (s.setReg (Reg.SNP_STGd_BADIDX d) (BitVec.ofNat 32 k)).bit (Reg.SYS_Dd_NQ_CTL d) 0 = false := by
    rw [State.bit, State.reg_setReg_ne _ (by omega)]
    exact hoff
  obtain ⟨hended, -, -, hopen, -, hresult, -, hothers⟩ := stgDisarm_reported hd hkept r
  exact ⟨_, hexec, hended, hopen, (hothers _ (by omega) (by omega)).trans (State.reg_setReg_same _ _ _), hresult⟩

end

theorem loadListDone_loads {a : Nat} {tag : BitVec 14} {l : List (Nat × W32)} (hon : (s.stgDom d).armedOn = true)
    (hloading : s.fld (Reg.SNP_STGd_STATUS d) 14 13 = 1) (hptr : s.ptr (Reg.SNP_STGd_LIST_LO d) = (a, tag))
    (hlist : loadEntries s d a tag 0 (s.listN d) = .ok l) : Completes (.loadListDone d) s (fun t =>
      t = { s with stg := t.stg, regs := t.regs } ∧ (t.stgDom d).list = l ∧ (t.stgDom d).armed = (s.stgDom d).armed ∧
      t.fld (Reg.SNP_STGd_STATUS d) 14 13 = 2) := by
  have hexec : exec (.loadListDone d) s =
      .next ((s.setStgDom d { s.stgDom d with list := l }).setFld (Reg.SNP_STGd_STATUS d) 14 13 2) := by
    refine congrArg Host.Outcome.next ?_
    rw [if_pos (by simp [hon, hloading]), hptr]
    dsimp only
    rw [hlist]
  refine ⟨_, hexec, setStgDom_setFld_frame .., ?_, ?_, State.fld_setFld_same _ _ _ _ _ (by decide) (by decide)⟩
  · rw [stgDom_setFld, State.stgDom_setStgDom_same]
  · rw [stgDom_setFld, State.stgDom_setStgDom_same]

/-- With no list to load, the event changes nothing (log 4). -/
theorem exec_loadListDone_none (h : (s.stgDom d).armedOn = false ∨ s.fld (Reg.SNP_STGd_STATUS d) 14 13 ≠ 1) :
    exec (.loadListDone d) s = .next s :=
  congrArg Host.Outcome.next (if_neg (by simpa [or_iff_not_imp_left] using h))

end Staging

/-- Settles O43: each command by the set it moves and the report it makes. CANCEL with no armed set reporting CANCELLED is the
model's choice (log 58), and so are DISCARD's dropping of first members by their writer (log 12) and the event with no list to load
changing nothing (log 4). -/
theorem stagingSetsFollowTheirCommands : Obligations.StagingSetsFollowTheirCommands := by
  intro who d s hd hoff
  refine ⟨fun hacc c hc => ⟨_, exec_stage_denied hacc c hc, rfl⟩, fun hacc => ⟨stageArm_arms hacc, fun hon => ?busy,
    stageCancel_ends hd hoff hacc, stageDiscard_empties hacc,
    fun n v hn hopen hv hon hovf hlist => stageCommit_applies hd hoff hacc hn hopen hv hon hovf hlist,
    fun hon harmed => ?refused⟩, fun hon hloading a tag hptr => ⟨fun l => loadListDone_loads hon hloading hptr,
    fun k r => loadListDone_ends hd hoff hon hloading hptr⟩, fun h => ⟨s, exec_loadListDone_none h, rfl⟩⟩
  case busy =>
    obtain ⟨t, hexec, hstg, hact, hresult⟩ := stage_busy hd hoff (c := .stageArm who d) (by rw [exec_stageArm hacc, stgArm_busy hon])
    exact ⟨t, hexec, hresult, hstg, hact⟩
  case refused =>
    have hbusy : stgCommit s d = stgResult s d .busy := if_pos (by simp [hon, harmed])
    exact stage_busy hd hoff (by rw [exec_stageCommit hacc, hbusy])

end Sys2Proof.Claims
end

section
/-! PROOFS. The spare controller (R305 to R320, R324) and channel timeouts (R19). First its registers, and what a fence, a self-test's
end and the end of an engine's works leave as it was; then what each command makes of the controller; then the statement O48. -/

namespace Sys2Proof.Machine

/-! ### Roles, the phase, the target and the swaths (R305, R324) -/

section
variable (s : State) (e r p t w : Nat)

theorem reg_setRole_ne {a : Nat} (h : a ≠ Reg.SNP_SPR_ROLES) (h' : a ≠ Reg.SNP_SPR_STATUS) : (s.setRole e r).reg a = s.reg a :=
  (State.reg_setReg_ne _ h' _).trans (State.reg_setReg_ne _ h _)

theorem reg_setRole_roles : (s.setRole e r).reg Reg.SNP_SPR_ROLES = fset (s.reg Reg.SNP_SPR_ROLES) (4 * e + 2) (4 * e) r :=
  (State.reg_setReg_ne _ (by decide) _).trans (State.reg_setReg_same _ _ _)

theorem reg_setPhase_ne {a : Nat} (h : a ≠ Reg.SNP_SPR_STATUS) : (s.setPhase p t).reg a = s.reg a :=
  (State.reg_setFld_ne _ h _ _ _).trans (State.reg_setFld_ne _ h _ _ _)

/-- An engine's role lies in ROLES alone. -/
theorem role_congr {s u : State} (h : u.reg Reg.SNP_SPR_ROLES = s.reg Reg.SNP_SPR_ROLES) (f : Nat) : u.role f = s.role f := by
  rw [State.role, State.fld, h, State.role, State.fld]

theorem role_setRole_same (he : e < 5) (hr : r < 8) : (s.setRole e r).role e = r := by
  rw [State.role, State.fld, reg_setRole_roles, fbits_fset_same _ _ _ _ (by omega) (by omega),
    show 4 * e + 2 + 1 - 4 * e = 3 by omega]
  exact Nat.mod_eq_of_lt hr

theorem role_setRole_ne {f : Nat} (he : e < 5) (h : f ≠ e) : (s.setRole e r).role f = s.role f := by
  rw [State.role, State.fld, reg_setRole_roles, fbits_fset_outside _ _ (by omega) (by omega) (by omega), State.role, State.fld]

theorem suspect_setRole (he : e < 5) : (s.setRole e r).suspect e = s.suspect e := by
  rw [State.suspect, State.bit, reg_setRole_roles, fbit_fset_outside _ _ (by omega) (by omega) (by omega), State.suspect, State.bit]

@[simp] theorem role_setPhase (f : Nat) : (s.setPhase p t).role f = s.role f := role_congr (reg_setPhase_ne s p t (by decide)) f

@[simp] theorem role_modSpare (f : Spare → Spare) (i : Nat) : (s.modSpare f).role i = s.role i := rfl
@[simp] theorem bit_modSpare (f : Spare → Spare) (a i : Nat) : (s.modSpare f).bit a i = s.bit a i := rfl
@[simp] theorem fld_modSpare (f : Spare → Spare) (a hi lo : Nat) : (s.modSpare f).fld a hi lo = s.fld a hi lo := rfl
@[simp] theorem sprTarget_modSpare (f : Spare → Spare) : (s.modSpare f).sprTarget = s.sprTarget := rfl
@[simp] theorem role_setEng (x : EngineRun) (i : Nat) : (s.setEng e x).role i = s.role i := rfl
@[simp] theorem fld_setEng (x : EngineRun) (a hi lo : Nat) : (s.setEng e x).fld a hi lo = s.fld a hi lo := rfl
@[simp] theorem sprTarget_setEng (x : EngineRun) : (s.setEng e x).sprTarget = s.sprTarget := rfl

@[simp] theorem reg_modSpare (f : Spare → Spare) (a : Nat) : (s.modSpare f).reg a = s.reg a := rfl
@[simp] theorem modSpare_spare (f : Spare → Spare) : (s.modSpare f).spare = f s.spare := rfl
@[simp] theorem reg_setEng (x : EngineRun) (a : Nat) : (s.setEng e x).reg a = s.reg a := rfl
@[simp] theorem setEng_spare (x : EngineRun) : (s.setEng e x).spare = s.spare := rfl

@[simp] theorem setRole_owner : (s.setRole e r).owner = s.owner := rfl
@[simp] theorem setPhase_owner : (s.setPhase p t).owner = s.owner := rfl
@[simp] theorem setSwath_owner : (s.setSwath w e).owner = s.owner := rfl
@[simp] theorem modSpare_owner (f : Spare → Spare) : (s.modSpare f).owner = s.owner := rfl
@[simp] theorem setEng_owner (x : EngineRun) : (s.setEng e x).owner = s.owner := rfl
@[simp] theorem setRole_mem : (s.setRole e r).mem = s.mem := rfl
@[simp] theorem setPhase_mem : (s.setPhase p t).mem = s.mem := rfl
@[simp] theorem modSpare_mem (f : Spare → Spare) : (s.modSpare f).mem = s.mem := rfl
@[simp] theorem setRole_spare : (s.setRole e r).spare = s.spare := rfl
@[simp] theorem setPhase_spare : (s.setPhase p t).spare = s.spare := rfl
@[simp] theorem setSwath_spare : (s.setSwath w e).spare = s.spare := rfl
@[simp] theorem setSwath_ringTime : (s.setSwath w e).ringTime = s.ringTime := rfl

theorem phase_setPhase (h : p < 8) : (s.setPhase p t).fld Reg.SNP_SPR_STATUS 2 0 = p := by
  rw [State.fld, State.setPhase, State.setFld, State.reg_setReg_same, fbits_fset_outside _ _ (by decide) (by decide) (by decide)]
  exact (State.fld_setFld_same s _ _ _ _ (by decide) (by decide)).trans (Nat.mod_eq_of_lt h)

theorem sprTarget_setPhase (h : t < 8) : (s.setPhase p t).sprTarget = t :=
  (State.fld_setFld_same _ _ _ _ _ (by decide) (by decide)).trans (Nat.mod_eq_of_lt h)

theorem swathEngine_congr {s u : State} (h : u.reg Reg.SNP_SPR_SWATH = s.reg Reg.SNP_SPR_SWATH) (f : Nat) :
    u.swathEngine f = s.swathEngine f := by
  rw [State.swathEngine, State.fld, h, State.swathEngine, State.fld]

theorem swathEngine_setSwath (hw : w < 4) (he : e < 8) : (s.setSwath w e).swathEngine w = e := by
  rw [State.swathEngine, State.setSwath, State.fld_setFld_same _ _ _ _ _ (by omega) (by omega),
    show 3 * w + 2 + 1 - 3 * w = 3 by omega]
  exact Nat.mod_eq_of_lt he

theorem fenced_congr {s u : State} (h : u.reg Reg.SYS_ISLAND_FENCE = s.reg Reg.SYS_ISLAND_FENCE) (i : Nat) : u.fenced i = s.fenced i := by
  rw [State.fenced, State.bit, h, State.fenced, State.bit]

theorem regsOnly_setRole {s u : State} (h : RegsOnly s u) (e r : Nat) : RegsOnly s (u.setRole e r) := (h.setReg _ _).setReg _ _

theorem regsOnly_setPhase {s u : State} (h : RegsOnly s u) (p t : Nat) : RegsOnly s (u.setPhase p t) := (h.setReg _ _).setReg _ _

/-- An engine that owns a swath owns one of the four. -/
theorem swathOf_lt {s : State} {e w : Nat} (h : s.swathOf e = some w) : w < 4 := List.mem_range.mp (List.mem_of_find?_eq_some h)

end

/-! ### No record goes to a press-control domain (R324) -/

/-- Only an owner record makes a domain the press-control domain. -/
theorem roleDomain_press_none {s t : State} (ho : t.owner = s.owner) (h : s.roleDomain 1 = none) : t.roleDomain 1 = none := by
  simp only [State.roleDomain, List.find?_eq_none] at h ⊢
  intro d hd
  have hs := h d hd
  unfold State.domain at hs ⊢
  rw [ho]
  cases he : s.owner with
  | some r => rw [he] at hs; exact hs
  | none => dsimp only; split <;> decide

theorem sparePress_none {s : State} (h : s.roleDomain 1 = none) (event t e w line last : Nat) :
    sparePress s event t e w line last = s := by
  unfold sparePress
  rw [h]

/-! ### What an engine's stop, a fence and the end of works leave (R46, R111, R160, R311) -/

/-- What the controller's rules go by beside registers. -/
structure SpareView where
  mem : SMap Byte
  owner : Option OwnerRec
  spare : Spare
  fc : SMap FcSource
  ringTime : W64

def State.spareView (s : State) : SpareView :=
  { mem := s.mem, owner := s.owner, spare := s.spare, fc := s.fc, ringTime := s.ringTime }

/-- What the controller goes by is as it was, and so are the registers of which `P` holds. -/
def Spares (P : Nat → Prop) (s t : State) : Prop := t.spareView = s.spareView ∧ ∀ a, P a → t.reg a = s.reg a

/-- A register before the fabric's and the engines' that shows no seat command's result. -/
def BesideEngines (a : Nat) : Prop := a < Reg.FAB_RECLAIM_CNT ∧ a % 0x1000 ≠ 0x308

/-- Such a register other than ISLAND_FENCE. -/
def BesideFences (a : Nat) : Prop := BesideEngines a ∧ a ≠ Reg.SYS_ISLAND_FENCE

section
variable {P : Nat → Prop} {s t u : State}

theorem Spares.refl (P : Nat → Prop) (s : State) : Spares P s s := ⟨rfl, fun _ _ => rfl⟩

theorem Spares.trans (h : Spares P s t) (k : Spares P t u) : Spares P s u :=
  ⟨k.1.trans h.1, fun a ha => (k.2 a ha).trans (h.2 a ha)⟩

theorem Spares.mono {Q : Nat → Prop} (h : Spares P s t) (hQ : ∀ a, Q a → P a) : Spares Q s t :=
  ⟨h.1, fun a ha => h.2 a (hQ a ha)⟩

theorem Spares.ite {c : Prop} [Decidable c] (h : Spares P s t) (k : Spares P s u) : Spares P s (if c then t else u) := by
  split <;> assumption

theorem Spares.each {α : Type} {f : State → α → State} (h : Spares P s t) (hf : ∀ u x, Spares P u (f u x)) (l : List α) :
    Spares P s (t.each l f) := h.trans (each_keeps (.refl P) (fun _ _ _ => .trans) hf l t)

theorem Spares.setReg {a : Nat} (h : Spares P s t) (ha : ¬ P a) (v : W32) : Spares P s (t.setReg a v) :=
  ⟨h.1, fun b hb => (State.reg_setReg_ne _ (fun hab => ha (by rw [← hab]; exact hb)) v).trans (h.2 b hb)⟩

theorem Spares.setFld {a : Nat} (h : Spares P s t) (ha : ¬ P a) (hi lo v : Nat) : Spares P s (t.setFld a hi lo v) := h.setReg ha _
theorem Spares.setBit {a : Nat} (h : Spares P s t) (ha : ¬ P a) (i : Nat) (b : Bool) : Spares P s (t.setBit a i b) := h.setReg ha _
theorem Spares.count {a : Nat} (h : Spares P s t) (ha : ¬ P a) (n : Nat) : Spares P s (t.count a n) := h.setReg ha _
theorem Spares.modSeat (h : Spares P s t) (i : Nat) (f : Seat → Seat) : Spares P s (t.modSeat i f) := h
theorem Spares.setDom (h : Spares P s t) (d : Nat) (x : HostDom) : Spares P s (t.setDom d x) := h
theorem Spares.setTag (h : Spares P s t) (g : Nat) (x : BitVec 14) : Spares P s (t.setTag g x) := h
theorem Spares.setHaltReq (h : Spares P s t) (m : SMap Bool) : Spares P s { t with haltReq := m } := h
theorem Spares.setWorks (h : Spares P s t) (m : SMap (List Work)) : Spares P s { t with works := m } := h
theorem Spares.setEngines (h : Spares P s t) (m : SMap EngineRun) : Spares P s { t with engines := m } := h
theorem Spares.setEng (h : Spares P s t) (e : Nat) (r : EngineRun) : Spares P s (t.setEng e r) := h
theorem Spares.setFabric (h : Spares P s t) (x : Fabric) : Spares P s { t with fabric := x } := h
theorem Spares.setLock (h : Spares P s t) (p : Nat) (l : Option PageLock) : Spares P s (t.setLock p l) := h
theorem Spares.draw (h : Spares P s t) : Spares P s t.draw.2 := h

theorem Spares.mem (h : Spares P s t) : t.mem = s.mem := congrArg SpareView.mem h.1
theorem Spares.owner (h : Spares P s t) : t.owner = s.owner := congrArg SpareView.owner h.1
theorem Spares.spare (h : Spares P s t) : t.spare = s.spare := congrArg SpareView.spare h.1
theorem Spares.fc (h : Spares P s t) : t.fc = s.fc := congrArg SpareView.fc h.1
theorem Spares.ringTime (h : Spares P s t) : t.ringTime = s.ringTime := congrArg SpareView.ringTime h.1

theorem BesideFences.roles : BesideFences Reg.SNP_SPR_ROLES := by unfold BesideFences BesideEngines; decide
theorem BesideFences.swath : BesideFences Reg.SNP_SPR_SWATH := by unfold BesideFences BesideEngines; decide
theorem BesideEngines.fence : BesideEngines Reg.SYS_ISLAND_FENCE := by unfold BesideEngines; decide

theorem EngineReg.not_beside {a : Nat} (h : EngineReg a) : ¬ BesideEngines a := by
  unfold EngineReg at h
  unfold BesideEngines Reg.FAB_RECLAIM_CNT
  omega

/-- A seat command's result lies in no register beside the engines, whatever the domain. -/
theorem seatcmd_not_beside (d : Nat) : ¬ BesideEngines (Reg.SYS_Dd_SEATCMD_STATUS d) := by
  unfold BesideEngines Reg.SYS_Dd_SEATCMD_STATUS
  omega

theorem reclaim_not_beside : ¬ BesideEngines Reg.FAB_RECLAIM_CNT := by unfold BesideEngines; decide
theorem discard_not_beside : ¬ BesideEngines Reg.FAB_DISCARD_CNT := by unfold BesideEngines; decide
theorem errcomp_not_beside : ¬ BesideEngines Reg.FAB_ERRCOMP_CNT := by unfold BesideEngines; decide

theorem engineReg_halted (i k : Nat) : EngineReg (Reg.SEn_HALTED0 i + k) := by unfold EngineReg Reg.SEn_HALTED0; omega

theorem Spares.setSeatSt (h : Spares BesideEngines s t) (i : Nat) (st : SeatSt) : Spares BesideEngines s (t.setSeatSt i st) :=
  (h.modSeat i _).ite ((h.modSeat i _).setBit (engineReg_halted _ _).not_beside _ _)

end

theorem withdrawEvents_spares (s : State) (i : Nat) : Spares BesideEngines s (withdrawEvents s i) :=
  ((Spares.refl _ s).each (fun u _ => (Spares.refl _ u).setDom _ _) _).modSeat i _

theorem stopDone_spares (s : State) (i : Nat) : Spares BesideEngines s (stopDone s i) := by
  unfold stopDone
  split
  · exact ((Spares.refl _ s).setReg (seatcmd_not_beside _) _).modSeat i _
  · exact .refl _ s

theorem seatOff_spares (s : State) (i : Nat) : Spares BesideEngines s (seatOff s i) := by
  have hstopped := (withdrawEvents_spares s i).trans (stopDone_spares _ i)
  unfold seatOff
  refine Spares.setSeatSt (.modSeat (.setHaltReq ?_ _) i _) i .off
  split
  · exact hstopped.setTag _ _
  · exact hstopped

theorem engineStop_spares (s : State) (e : Nat) : Spares BesideEngines s (engineStop s e) := by
  unfold engineStop
  have hicu := (engineReg_icuStatus e).not_beside
  have hemu := (engineReg_emuStatus e).not_beside
  refine .setFld (.setBit (.setBit (.setFld (.setFld (.setBit (.setFld (.setEngines (.each (.each (.refl _ s) (fun t k => ?_) _)
    (fun t _ => (Spares.refl _ t).setWorks _) _) _) (engineReg_lcuStatus e).not_beside _ _ _) (engineReg_scuStatus e).not_beside _ _)
    (engineReg_nmuStatus e).not_beside _ _ _) hicu _ _ _) hicu _ _) hemu _ _) hemu _ _ _
  exact (Spares.refl _ t).ite (seatOff_spares t _)

theorem lockNext_spares (s : State) (p : Nat) (l : PageLock) : Spares BesideEngines s (lockNext s p l) := by
  unfold lockNext
  split
  · exact (Spares.refl _ s).setLock p _
  · exact (Spares.refl _ s).setLock p _

theorem dropLocks_spares (s : State) (i : Nat) : Spares BesideEngines s (dropLocks s i) := by
  refine .each (.refl _ s) (fun t p => ?_) _
  split
  · exact (lockNext_spares t p _).ite ((Spares.refl _ t).setLock p _)
  · exact .refl _ t

/-- A fence shows in ISLAND_FENCE; beside it and the fabric's counts it changes the island alone (R160). -/
theorem fenceCore_fences (s : State) {i : Nat} (hi : i < 32) :
    (fenceCore s i).fenced i = true ∧ Spares BesideFences s (fenceCore s i) := by
  unfold fenceCore
  split
  next h => exact ⟨h, .refl _ s⟩
  next =>
  extract_lets shown fabric undone reclaimed discarded failed dropped
  have hcounted : Spares BesideEngines shown failed := (((Spares.refl _ undone).draw.count reclaim_not_beside _).draw.count
    discard_not_beside _).draw.count errcomp_not_beside _
  have hdropped : Spares BesideEngines shown dropped := hcounted.trans (dropLocks_spares failed i)
  have hstopped := (hdropped.trans (engineStop_spares dropped i)).ite (c := i ≤ 4) hdropped
  refine ⟨(fenced_congr (hstopped.2 _ .fence) i).trans (State.bit_setBit_same s _ i _ hi), ?_⟩
  exact ((Spares.refl BesideFences s).setBit (fun h => h.2 rfl) i true).trans (hstopped.mono fun _ h => h.1)

/-- Only a memory controller's fence does more. -/
theorem fenceIsland_fences (s : State) {i : Nat} (hi : i < 6 ∨ 13 < i) (hi' : i < 32) :
    (fenceIsland s i).fenced i = true ∧ Spares BesideFences s (fenceIsland s i) := by
  rw [fenceIsland, if_neg (by omega)]
  exact fenceCore_fences s hi'

theorem engineSeatsOn_spares (s : State) (e : Nat) : Spares BesideEngines s (engineSeatsOn s e) := by
  unfold engineSeatsOn
  exact (Spares.refl _ s).ite
    ((Spares.refl _ s).each (fun t _ => (((Spares.refl _ t).modSeat _ _).setSeatSt _ _).ite (.refl _ t)) _)

/-- An engine that has been reset loses its fence (R161). -/
theorem unfence_reset (s : State) {e : Nat} (he : e < 5) :
    (unfence (s.markReset e) e).fenced e = false ∧ Spares BesideFences s (unfence (s.markReset e) e) := by
  have hdone : sget false (s.markReset e).fabric.resetDone e = true := sget_sset_same false s.fabric.resetDone e true
  unfold unfence
  split
  next =>
    extract_lets shown fabric opened
    have hopen : Spares BesideEngines shown opened := (Spares.refl _ shown).setFabric _
    have hon := (hopen.trans (engineSeatsOn_spares opened e)).ite (c := e ≤ 4) hopen
    refine ⟨(fenced_congr (hon.2 _ .fence) e).trans (State.bit_setBit_same _ _ e _ (by omega)), ?_⟩
    exact (((Spares.refl BesideFences s).setFabric _).setBit (fun h => h.2 rfl) e false).trans (hon.mono fun _ h => h.1)
  next h => exact ⟨by simpa [hdone] using h, (Spares.refl _ s).setFabric _⟩

theorem completeWork_spares (s : State) (e u : Nat) (st : WorkStatus) (done : Nat) :
    Spares BesideEngines s (completeWork s e u st done) := by
  unfold completeWork
  split
  next => exact .refl _ s
  next w rest _ =>
    obtain ⟨ps, ts, hrecord, -⟩ := writeRecord_eq
      ((s.setQueue e u rest).modSeat w.seat (fun t => { t with stgOut := t.stgOut - 1 })) w.seat u w.seq w.notify done st.code
    dsimp only
    rw [hrecord]
    exact .refl _ s

theorem cancelWorks_spares (s : State) (e : Nat) : Spares BesideEngines s (cancelWorks s e) := by
  unfold cancelWorks
  have hemu := (engineReg_emuStatus e).not_beside
  refine .setBit (.setFld (.setFld (.setFld (.setBit (.setFld (.setEng (.each (.refl _ s) (fun t u => ?_) _) e _)
    (engineReg_lcuStatus e).not_beside _ _ _) (engineReg_scuStatus e).not_beside _ _) (engineReg_nmuStatus e).not_beside _ _ _)
    (engineReg_icuStatus e).not_beside _ _ _) hemu _ _ _) hemu _ _
  exact (Spares.refl _ t).each (fun v _ => completeWork_spares v e u _ _) _

/-! ### Who commands the controller (R324) -/

section
variable {s : State} {who : Requester}

theorem sprWrite_allowed (h : s.sprAccess who = true) (f : State → State) : sprWrite s who f = f s := respond_allowed h s (f s)

theorem sprWrite_denied (h : s.sprAccess who = false) (f : State → State) :
    sprWrite s who f = { s with out := s.out ++ [.busError who] } := respond_denied (by simp [h]) s (f s)

/-- A requester that is neither the press-control domain nor M mode gets a bus error for each command, and nothing else happens. -/
theorem exec_spr_denied (h : s.sprAccess who = false) (e w : Nat) (lo hi : W32) :
    ∀ c ∈ [Instr.sprRotate who, .sprAbort who, .sprRetest who e, .sprFail who e, .sprRecWrite who w lo hi],
      exec c s = .next { s with out := s.out ++ [Out.busError who] } := by
  simp only [List.forall_mem_cons, List.not_mem_nil, false_implies, implies_true, and_true]
  exact ⟨congrArg Host.Outcome.next (sprWrite_denied h _), congrArg Host.Outcome.next (sprWrite_denied h _),
    congrArg Host.Outcome.next (sprWrite_denied h _), congrArg Host.Outcome.next (sprWrite_denied h _),
    congrArg Host.Outcome.next (sprWrite_denied h _)⟩

theorem exec_sprRotate (h : s.sprAccess who = true) : exec (.sprRotate who) s = .next (wantRotate s) :=
  congrArg Host.Outcome.next (sprWrite_allowed h _)

theorem exec_sprAbort (h : s.sprAccess who = true) : exec (.sprAbort who) s = .next (sprAbort s) :=
  congrArg Host.Outcome.next (sprWrite_allowed h _)

theorem exec_sprRetest (h : s.sprAccess who = true) (e : Nat) : exec (.sprRetest who e) s = .next (sprRetest s e) :=
  congrArg Host.Outcome.next (sprWrite_allowed h _)

theorem exec_sprFail (h : s.sprAccess who = true) (e : Nat) :
    exec (.sprFail who e) s = .next (if s.role e = 0 then engineFailed s e else s) :=
  congrArg Host.Outcome.next (sprWrite_allowed h _)

theorem exec_sprRecWrite (h : s.sprAccess who = true) {w : Nat} (hw : w < s.variant.swaths) (lo hi : W32) :
    exec (.sprRecWrite who w lo hi) s = .next (sprRecWrite s w lo hi) :=
  congrArg Host.Outcome.next ((sprWrite_allowed h _).trans (if_pos hw))

end

/-! ### Rotation (R307 to R312) -/

section
variable {s : State} {e g : Nat}

/-- Nothing starts a shadow run while no rotation is wanted. -/
theorem tryRotate_unwanted (h : s.spare.want = false) : tryRotate s = s := if_pos (by simp [h])

theorem tryRotate_noSpare (h : s.spareEngine = none) : tryRotate s = s := by
  unfold tryRotate
  rw [h]
  exact ite_self _

theorem wantRotate_noSpare (h : s.spareEngine = none) : wantRotate s = { s with spare := { s.spare with want := true } } :=
  tryRotate_noSpare (s := s.modSpare fun p => { p with want := true }) h

theorem wantRotate_starts {web pos : Nat} (hspare : s.spareEngine = some e) (htarget : s.rotationTarget = some g)
    (hweb : s.emuWebOf g = some web) (hpos : s.webPos web = some pos) (hbg : 16 ≤ s.fld Reg.TMP_BFACT 4 0) :
    wantRotate s = shadowStart (s.modSpare fun p => { p with want := true }) e g false := by
  set u := s.modSpare fun p => { p with want := true } with hu
  have hspare' : u.spareEngine = some e := hspare
  have htarget' : u.rotationTarget = some g := htarget
  have hweb' : u.emuWebOf g = some web := hweb
  have hpos' : u.webPos web = some pos := hpos
  have hbg' : ¬ u.fld Reg.TMP_BFACT 4 0 < 16 := Nat.not_lt.mpr hbg
  have hwant : u.spare.want = true := rfl
  rw [wantRotate, ← hu, tryRotate, if_neg (by simp [hwant, hbg']), hspare', htarget']
  dsimp only
  rw [hweb']
  dsimp only
  rw [hpos']
  rfl

/-- The state in which engine `e` shadows `g` and no record has gone out (R307). -/
def shadowBegun (s : State) (e g : Nat) (again : Bool) : State :=
  let u := (((s.setRole e 2).setPhase 1 g).setReg Reg.SNP_SPR_COMPARED 0).modSpare
    (fun p => { p with want := false, retry := false, shadow := e, again := again, handoff := none })
  u.setEng e { u.eng e with lcu := { (u.eng e).lcu with skips := [] } }

theorem shadowStart_begun (s : State) (e g : Nat) (again : Bool) : shadowStart s e g again =
    sparePress (shadowBegun s e g again) 1 g e (((shadowBegun s e g again).swathOf g).getD 7)
      ((shadowBegun s e g again).reg64 (Reg.SEn_SCU_CKLINE_LO g)).toNat 0 := rfl

/-- A shadow run begins: the engine is SHADOW of its target, with nothing compared. -/
theorem shadowStart_begins (hnone : s.roleDomain 1 = none) (he : e < 5) (hg : g < 5) (again : Bool) :
    (shadowStart s e g again).role e = 2 ∧ (shadowStart s e g again).fld Reg.SNP_SPR_STATUS 2 0 = 1 ∧
      (shadowStart s e g again).sprTarget = g ∧ (shadowStart s e g again).reg Reg.SNP_SPR_COMPARED = 0 ∧
      (shadowStart s e g again).spare.shadow = e ∧ (shadowStart s e g again).mem = s.mem := by
  have howner : (shadowBegun s e g again).owner = s.owner := by simp [shadowBegun]
  have hcompared : ∀ a, a ≠ Reg.SNP_SPR_COMPARED → (((s.setRole e 2).setPhase 1 g).setReg Reg.SNP_SPR_COMPARED 0).reg a =
      ((s.setRole e 2).setPhase 1 g).reg a := fun a ha => State.reg_setReg_ne _ ha _
  rw [shadowStart_begun, sparePress_none (roleDomain_press_none howner hnone)]
  unfold shadowBegun
  dsimp only
  refine ⟨?role, ?phase, ?target, ?compared, ?shadow, ?mem⟩
  case role =>
    rw [role_setEng, role_modSpare, role_congr (hcompared _ (by decide)), role_setPhase, role_setRole_same s e 2 he (by decide)]
  case phase =>
    rw [fld_setEng, fld_modSpare, State.fld, hcompared _ (by decide)]
    exact phase_setPhase _ 1 g (by decide)
  case target =>
    rw [sprTarget_setEng, sprTarget_modSpare, State.sprTarget, State.fld, hcompared _ (by decide)]
    exact sprTarget_setPhase _ 1 g (by omega)
  case compared => rw [reg_setEng, reg_modSpare, State.reg_setReg_same]
  case shadow => rw [setEng_spare, modSpare_spare]
  case mem => simp

/-- A shadow run ends: the shadow's works are cancelled, it is SPARE, and no hand-off is under way. -/
theorem shadowEnd_ends (he : e < 5) (hshadow : s.spare.shadow = e) :
    (shadowEnd s).role e = 1 ∧ (shadowEnd s).fld Reg.SNP_SPR_STATUS 2 0 = 0 ∧ (shadowEnd s).spare.handoff = none ∧
      (shadowEnd s).mem = s.mem ∧ (shadowEnd s).owner = s.owner := by
  have hcancel := cancelWorks_spares s e
  unfold shadowEnd
  rw [hshadow]
  dsimp only
  refine ⟨?role, ?phase, ?handoff, ?mem, ?owner⟩
  case role => rw [role_modSpare, role_setPhase, role_setRole_same _ e 1 he (by decide)]
  case phase => rw [fld_modSpare, phase_setPhase _ 0 _ (by decide)]
  case handoff => rw [modSpare_spare]
  case mem => rw [modSpare_mem, setPhase_mem, setRole_mem, hcancel.mem]
  case owner => rw [modSpare_owner, setPhase_owner, setRole_owner, hcancel.owner]

theorem sprAbort_idle (h : s.shadowing = false) : sprAbort s = s := if_neg (by simp [h])

theorem sprAbort_shadowing (h : s.shadowing = true) : sprAbort s = shadowEnd s := if_pos h

theorem exec_rotationDue_none (hperiod : s.fld Reg.SNP_SPR_CFG 7 0 = 0) (hretry : s.spare.retry = false) :
    exec .rotationDue s = .next s := congrArg Host.Outcome.next (if_pos ⟨hperiod, by simp [hretry]⟩)

theorem exec_rotationDue (h : s.fld Reg.SNP_SPR_CFG 7 0 ≠ 0 ∨ s.spare.retry = true) : exec .rotationDue s = .next (wantRotate s) :=
  congrArg Host.Outcome.next (if_neg (by rintro ⟨hperiod, hretry⟩; simp_all))

theorem exec_shadowTimeout_idle (h : s.shadowing = false) : exec .shadowTimeout s = .next s :=
  congrArg Host.Outcome.next (if_neg (by simp [h]))

/-- The state after the timeout of a shadow run: it has ended, the timeout shows, and a retry is due (R310). -/
def timedOut (s : State) : State :=
  ((shadowEnd s).setBit Reg.SNP_SPR_STATUS 7 true).modSpare (fun p => { p with retry := true })

theorem exec_shadowTimeout (hnone : s.roleDomain 1 = none) (hon : s.shadowing = true) (hhand : s.spare.handoff = none)
    (howner : (shadowEnd s).owner = s.owner) : exec .shadowTimeout s = .next (timedOut s) := by
  have hexec : exec .shadowTimeout s = .next (if s.shadowing && s.spare.handoff.isNone then
      sparePress (timedOut s) 8 s.sprTarget s.spare.shadow (((timedOut s).swathOf s.sprTarget).getD 7) 0 0 else s) := rfl
  have htimed : (timedOut s).owner = s.owner := by rw [timedOut, modSpare_owner, State.setBit, State.setReg_owner, howner]
  rw [hexec, if_pos (by simp [hon, hhand]), sparePress_none (roleDomain_press_none htimed hnone)]

theorem exec_handoff_idle (h : s.shadowing = false) : exec .handoff s = .next s := by
  have hexec : exec .handoff s = execHandoff s := rfl
  rw [hexec, execHandoff]
  split
  · rw [if_pos (by simp [h])]
  · rfl

/-- The state in which the shadow `e` has taken swath `w` over from `g`, whose works have ended (R311). -/
def handedOver (s : State) (e g w : Nat) : State :=
  (((cancelWorks s g).setSwath w e).setRole e 0).modSpare (fun p =>
    { p with lastHand := sset 0 p.lastHand e ((cancelWorks s g).setSwath w e).ringTime, handoff := none, again := false })

theorem handedOver_owner (s : State) (e g w : Nat) : (handedOver s e g w).owner = s.owner := by
  rw [handedOver, modSpare_owner, setRole_owner, setSwath_owner, (cancelWorks_spares s g).owner]

theorem exec_handoff_ready {h w : Nat} (hnone : s.roleDomain 1 = none) (hhand : s.spare.handoff = some h)
    (hon : s.shadowing = true) (hshadow : s.spare.shadow = e) (htarget : s.sprTarget = g) (hg : g < 5)
    (hswath : s.swathOf g = some w) (hready : handoffReady s h = true) :
    exec .handoff s = .next (bistEnter (handedOver s e g w) g) := by
  obtain ⟨-, hfence⟩ := fenceIsland_fences (handedOver s e g w) (i := g) (.inl (by omega)) (by omega)
  have howner : (bistEnter (handedOver s e g w) g).owner = s.owner := by
    rw [bistEnter, setPhase_owner, setRole_owner, hfence.owner, handedOver_owner]
  have hexec : exec .handoff s = execHandoff s := rfl
  have hw := swathOf_lt hswath
  rw [hexec, execHandoff, hhand]
  dsimp only
  rw [if_neg (by simp [hon, hready]), htarget, hshadow, hswath, Option.getD_some, if_pos hw]
  exact congrArg Host.Outcome.next (sparePress_none (roleDomain_press_none howner hnone) ..)

end

/-! ### Self-test and recovery (R312 to R320) -/

section
variable {s : State} {e : Nat}

theorem sprRetest_failed (h : s.role e = 5) : sprRetest s e = (s.setRole e 3).setPhase
    (if s.fld Reg.SNP_SPR_STATUS 2 0 = 0 then 2 else s.fld Reg.SNP_SPR_STATUS 2 0) s.sprTarget := if_pos h

theorem sprRetest_other (h : s.role e ≠ 5) : sprRetest s e = s := if_neg h

/-- Leaving the phase BIST shows in STATUS alone. -/
theorem reg_leaveBist_ne (s : State) {a : Nat} (h : a ≠ Reg.SNP_SPR_STATUS) : (leaveBist s).reg a = s.reg a := by
  unfold leaveBist
  split
  · exact reg_setPhase_ne s 0 _ h
  · rfl

@[simp] theorem leaveBist_owner (s : State) : (leaveBist s).owner = s.owner := by unfold leaveBist; split <;> rfl
@[simp] theorem leaveBist_mem (s : State) : (leaveBist s).mem = s.mem := by unfold leaveBist; split <;> rfl
@[simp] theorem leaveBist_spare (s : State) : (leaveBist s).spare = s.spare := by unfold leaveBist; split <;> rfl
@[simp] theorem leaveBist_fc (s : State) : (leaveBist s).fc = s.fc := by unfold leaveBist; split <;> rfl

theorem role_leaveBist (s : State) (f : Nat) : (leaveBist s).role f = s.role f := role_congr (reg_leaveBist_ne s (by decide)) f

/-- A retest that was asked for engine `e` is over. -/
def Spare.retested (p : Spare) (e : Nat) : Spare := { p with retest := if p.retest = some e then none else p.retest }

/-- The engine whose self-test has failed, before its source is raised (R314). -/
def bistFailed (s : State) (e : Nat) : State := leaveBist ((s.modSpare (Spare.retested · e)).setRole e 5)

theorem bistFailed_owner (s : State) (e : Nat) : (bistFailed s e).owner = s.owner := by
  rw [bistFailed, leaveBist_owner, setRole_owner, modSpare_owner]

theorem bistFailed_roles (s : State) (e : Nat) : (bistFailed s e).reg Reg.SNP_SPR_ROLES =
    ((s.modSpare (Spare.retested · e)).setRole e 5).reg Reg.SNP_SPR_ROLES := reg_leaveBist_ne _ (by decide)

/-- The engine whose self-test has passed: reset, unfenced and SPARE (R305, R313). -/
def bistPassed (s : State) (e : Nat) : State :=
  leaveBist ((unfence ((s.modSpare (Spare.retested · e)).markReset e) e).setRole e 1)

theorem exec_selfTestEnd_other (h : s.role e ≠ 3) (pass : Bool) : exec (.selfTestEnd e pass) s = .next s :=
  congrArg Host.Outcome.next (if_pos h)

theorem exec_selfTestEnd_failed (hrole : s.role e = 3) (hwait : s.spare.waiting = none)
    (hnone : (raise (bistFailed s e) e 1 false).roleDomain 1 = none) :
    exec (.selfTestEnd e false) s = .next (raise (bistFailed s e) e 1 false) := by
  have hexec : exec (.selfTestEnd e false) s = execSelfTestEnd e false s := rfl
  rw [hexec, execSelfTestEnd, if_neg (by simp [hrole]), hwait]
  exact congrArg Host.Outcome.next (sparePress_none hnone ..)

theorem bistPassed_passes (s : State) (he : e < 5) : (bistPassed s e).role e = 1 ∧ (bistPassed s e).fenced e = false ∧
    (bistPassed s e).mem = s.mem ∧ (bistPassed s e).owner = s.owner ∧ (bistPassed s e).spare = s.spare.retested e := by
  obtain ⟨hopen, hkept⟩ := unfence_reset (s.modSpare (Spare.retested · e)) he
  unfold bistPassed
  refine ⟨?role, ?fence, ?mem, ?owner, ?spare⟩
  case role => rw [role_leaveBist, role_setRole_same _ e 1 he (by decide)]
  case fence =>
    rw [fenced_congr (reg_leaveBist_ne _ (by decide)), fenced_congr (reg_setRole_ne _ e 1 (by decide) (by decide)), hopen]
  case mem => rw [leaveBist_mem, setRole_mem, hkept.mem, modSpare_mem]
  case owner => rw [leaveBist_owner, setRole_owner, hkept.owner, modSpare_owner]
  case spare => rw [leaveBist_spare, setRole_spare, hkept.spare, modSpare_spare]

theorem exec_selfTestEnd_passed (hnone : s.roleDomain 1 = none) (he : e < 5) (hrole : s.role e = 3) (hwait : s.spare.waiting = none)
    (hwant : s.spare.want = false) (hretest : s.spare.retest ≠ some e) : exec (.selfTestEnd e true) s = .next (bistPassed s e) := by
  obtain ⟨-, -, -, howner, hspare⟩ := bistPassed_passes s he
  have hunwanted : (bistPassed s e).spare.want = false := by rw [hspare, Spare.retested, hwant]
  have hexec : exec (.selfTestEnd e true) s = execSelfTestEnd e true s := rfl
  have hrecord : ∀ t w, sparePress (bistPassed s e) 6 t e w 0 0 = bistPassed s e := fun t w =>
    sparePress_none (roleDomain_press_none howner hnone) 6 t e w 0 0
  rw [hexec, execSelfTestEnd, if_neg (by simp [hrole]), hwait]
  dsimp only
  rw [if_pos rfl]
  refine congrArg Host.Outcome.next ?_
  rw [if_neg (by simp [hretest])]
  exact (congrArg tryRotate (hrecord _ _)).trans (tryRotate_unwanted hunwanted)

/-- The state after a recovery: the lines `a` to `b` show as lost, and the engine is ACTIVE with no phase left (R320). -/
def recovered (s : State) (e a b : Nat) : State :=
  (((s.setReg64 Reg.SNP_SPR_LOSTF_LO (BitVec.ofNat 64 a)).setReg64 Reg.SNP_SPR_LOSTL_LO (BitVec.ofNat 64 b)).setRole e 0).setPhase 0
    s.sprTarget

theorem recovered_regsOnly (s : State) (e a b : Nat) : RegsOnly s (recovered s e a b) :=
  regsOnly_setPhase (regsOnly_setRole ((((RegsOnly.refl s).setReg _ _).setReg _ _).setReg _ _ |>.setReg _ _) e 0) 0 _

theorem recovered_owner (s : State) (e a b : Nat) : (recovered s e a b).owner = s.owner := by
  simp only [recovered, State.setReg64, setPhase_owner, setRole_owner, State.setReg_owner]

theorem exec_recoverComplete_full {r : EmuRun} {rcb : List Byte} (hnone : s.roleDomain 1 = none) (hemu : (s.eng e).emu = some r)
    (hrcb : readRcb s r.seat (slotOf r.slots 1) (emuRcb r.desc) = .ok rcb) (hrole : s.role e = 4) (hw0 : s.spare.w0 < leAt rcb 0 8)
    (hfull : (s.reg64 (Reg.POSn_POS_LO (emuWeb r.desc))).toNat / 2 ^ 16 + r.depth ≤ leAt rcb 0 8) :
    ∃ a b, exec (.recoverComplete e) s = .next (recovered s e a b) := by
  have hexec : exec (.recoverComplete e) s = execRecoverComplete e s := rfl
  refine ⟨((s.eng e).lost.getD (2 ^ 64 - 1, 2 ^ 64 - 1)).1, ((s.eng e).lost.getD (2 ^ 64 - 1, 2 ^ 64 - 1)).2, ?_⟩
  generalize hlost : (s.eng e).lost.getD (2 ^ 64 - 1, 2 ^ 64 - 1) = lost
  rw [hexec, execRecoverComplete, hemu]
  dsimp only
  rw [hrcb]
  dsimp only
  rw [if_pos (by simpa [hrole, hw0] using hfull), hlost]
  have hrecord : ∀ w, sparePress (recovered s e lost.1 lost.2) 5 s.sprTarget e w lost.1 lost.2 = recovered s e lost.1 lost.2 :=
    fun w => sparePress_none (roleDomain_press_none (recovered_owner s e _ _) hnone) ..
  exact congrArg Host.Outcome.next (hrecord _)

theorem exec_recoverComplete_early {r : EmuRun} {rcb : List Byte} (hemu : (s.eng e).emu = some r)
    (hrcb : readRcb s r.seat (slotOf r.slots 1) (emuRcb r.desc) = .ok rcb) (h : s.role e ≠ 4 ∨ leAt rcb 0 8 ≤ s.spare.w0) :
    exec (.recoverComplete e) s = .next s := by
  have hexec : exec (.recoverComplete e) s = execRecoverComplete e s := rfl
  rw [hexec, execRecoverComplete, hemu]
  dsimp only
  rw [hrcb]
  dsimp only
  rw [if_neg (by simp only [Bool.and_eq_true, decide_eq_true_eq]; omega)]

/-! ### Overdue FIREs and silent channels (R19, R316) -/

theorem exec_emissionWatchdog {r : EmuRun} {pos : Nat} (hemu : (s.eng e).emu = some r) (hpos : s.webPos (emuWeb r.desc) = some pos) :
    exec (.emissionWatchdog e) s = .next (if ((boardsOf r.desc).zip r.next).any
      (fun x => decide (x.2 * 2 ^ 16 + x.1.fphase ≤ pos)) then engineFailed s e else s) := by
  have hexec : exec (.emissionWatchdog e) s = execEmissionWatchdog e s := rfl
  rw [hexec, execEmissionWatchdog, hemu]
  dsimp only
  rw [hpos]

theorem exec_channelTimeout_onePort (s : State) (near far n k : Nat) :
    exec (.channelTimeout near far n k false) s = .next ((s.count Reg.FAB_ERRCOMP_CNT n).discardPosted near k) := rfl

@[simp] theorem discardPosted_variant (s : State) (near k : Nat) : (s.discardPosted near k).variant = s.variant := by
  unfold State.discardPosted
  dsimp only
  split <;> rfl

/-- A silent island that is no engine is fenced (R160). -/
theorem exec_channelTimeout_everyPort (s : State) {far : Nat} (near n k : Nat) (hfar : far < 24) (hpresent : s.variant.island far = true)
    (hengine : 13 < far) : exec (.channelTimeout near far n k true) s =
      .next (fenceIsland ((s.count Reg.FAB_ERRCOMP_CNT n).discardPosted near k) far) := by
  have hvariant : ((s.count Reg.FAB_ERRCOMP_CNT n).discardPosted near k).variant = s.variant := discardPosted_variant _ near k
  have hfence : fenceable ((s.count Reg.FAB_ERRCOMP_CNT n).discardPosted near k) far = true := by
    rw [fenceable, hvariant, hpresent]
    simp only [Bool.and_true, Bool.and_eq_true, bne_iff_ne, decide_eq_true_eq]
    omega
  refine congrArg Host.Outcome.next ((if_neg ?present).trans ((if_neg ?engine).trans (if_pos hfence)))
  case present => rw [hvariant, hpresent]; decide
  case engine => simp only [Bool.and_eq_true, decide_eq_true_eq]; omega

/-! ### The failure of an engine that none replaces (R316) -/

theorem Variant.engines_le (v : Variant) : v.engines ≤ 5 := by cases v <;> decide

/-- The engine that has failed is fenced and FAILED, and its source is raised. -/
def failedFenced (s : State) (e : Nat) : State := raise ((fenceIsland s e).setRole e 5) e 1 false

/-- The swath that a failed engine owned has none. -/
def swathDropped (s : State) (w : Nat) : State := if w < 4 then s.setSwath w 7 else s

theorem reg_swathDropped_ne (s : State) (w : Nat) {a : Nat} (h : a ≠ Reg.SNP_SPR_SWATH) : (swathDropped s w).reg a = s.reg a := by
  unfold swathDropped
  split
  · exact State.reg_setFld_ne _ h _ _ _
  · rfl

theorem role_swathDropped (s : State) (w f : Nat) : (swathDropped s w).role f = s.role f :=
  role_congr (reg_swathDropped_ne s w (by decide)) f

theorem engineFailed_other (h : s.role e ≠ 0) (h' : s.role e ≠ 4) : engineFailed s e = s := if_pos (by simp [h, h'])

/-- No domain is told, no engine is ready or in its self-test: the swath has none, and the source is raised again as class C. -/
theorem engineFailed_alone (hrole : s.role e = 0) (hnone : s.roleDomain 1 = none) (hoff : ∀ k, k < 96 → (s.seat (128 * e + k)).st = .off)
    (hready : ∀ f, f < 5 → (failedFenced s e).role f ≠ 1 ∧ (failedFenced s e).role f ≠ 2 ∧ (failedFenced s e).role f ≠ 3) :
    engineFailed s e = raise (swathDropped (failedFenced s e) ((s.swathOf e).getD 7)) e 0 false := by
  unfold engineFailed
  rw [if_neg (by simp [hrole])]
  extract_lets w doms press stopped failed told dropped
  have hdoms : doms = [] := by
    refine List.filter_eq_nil_iff.mpr fun d _ => ?_
    simp only [List.any_eq_true, List.mem_range, Bool.and_eq_true, bne_iff_ne, not_exists, not_and]
    exact fun k hk hst => absurd (hoff k hk) hst
  have htold : told = failedFenced s e := by
    have hnobody : (List.range 8).filter (fun d => some d == press || doms.contains d) = [] := by
      rw [hdoms, show press = none from hnone]
      rfl
    unfold told
    rw [hnobody]
    rfl
  have hnext : (List.range told.variant.engines).find? (fun f => told.role f == 1 || told.role f == 2) = none := by
    refine List.find?_eq_none.mpr fun f hf => ?_
    obtain ⟨h₁, h₂, -⟩ := hready f ((List.mem_range.mp hf).trans_le (Variant.engines_le _))
    simp [htold, h₁, h₂]
  have hdropped : dropped = swathDropped (failedFenced s e) w := by
    unfold dropped
    rw [htold]
    rfl
  have htest : (List.range (swathDropped (failedFenced s e) w).variant.engines).find?
      (fun f => (swathDropped (failedFenced s e) w).role f == 3) = none := by
    refine List.find?_eq_none.mpr fun f hf => ?_
    obtain ⟨-, -, h₃⟩ := hready f ((List.mem_range.mp hf).trans_le (Variant.engines_le _))
    simp [role_swathDropped, h₃]
  rw [hnext]
  dsimp only
  rw [hdropped, htest]

end

/-! ### Takeover records (R315) -/

/-- The pointer of swath `w`'s takeover record is `lo` and `hi`, its standby copy `b`, and RECBAD tells whether there is none. -/
def recordStored (s : State) (w : Nat) (lo hi : W32) (b : Option Standby) : State :=
  (((s.setReg (Reg.SNP_SPR_RECs_LO w) lo).setReg (Reg.SNP_SPR_RECs_HI w) (hi &&& 0x3FFFFFFF)).modSpare
    (fun p => { p with standby := sset none p.standby w b })).setBit Reg.SNP_SPR_STATUS (9 + w) b.isNone

theorem sprRecWrite_stored (s : State) (w : Nat) (lo hi : W32) : ∃ b, sprRecWrite s w lo hi = recordStored s w lo hi b := ⟨_, rfl⟩

theorem recordStored_frame (s : State) (w : Nat) (lo hi : W32) (b : Option Standby) : recordStored s w lo hi b =
    { s with regs := (recordStored s w lo hi b).regs, spare := (recordStored s w lo hi b).spare } := rfl

theorem recordStored_shows (s : State) {w : Nat} (hw : w < 4) (lo hi : W32) (b : Option Standby) :
    (recordStored s w lo hi b).reg (Reg.SNP_SPR_RECs_LO w) = lo ∧
      (recordStored s w lo hi b).reg (Reg.SNP_SPR_RECs_HI w) = hi &&& 0x3FFFFFFF ∧
      (recordStored s w lo hi b).bit Reg.SNP_SPR_STATUS (9 + w) = b.isNone ∧
      sget none (recordStored s w lo hi b).spare.standby w = b := by
  have hlo : Reg.SNP_SPR_RECs_LO w ≠ Reg.SNP_SPR_STATUS := by unfold Reg.SNP_SPR_RECs_LO Reg.SNP_SPR_STATUS; omega
  have hhi : Reg.SNP_SPR_RECs_HI w ≠ Reg.SNP_SPR_STATUS := by unfold Reg.SNP_SPR_RECs_HI Reg.SNP_SPR_STATUS; omega
  have hne : Reg.SNP_SPR_RECs_LO w ≠ Reg.SNP_SPR_RECs_HI w := by unfold Reg.SNP_SPR_RECs_LO Reg.SNP_SPR_RECs_HI; omega
  unfold recordStored
  refine ⟨?_, ?_, State.bit_setBit_same _ _ _ _ (by omega), sget_sset_same none s.spare.standby w b⟩
  · rw [State.reg_setBit_ne _ hlo, reg_modSpare, State.reg_setReg_ne _ hne, State.reg_setReg_same]
  · rw [State.reg_setBit_ne _ hhi, reg_modSpare, State.reg_setReg_same]

/-! ### The collector's own changes leave the controller and the fences -/

theorem CollectorOnly.controller {s t : State} (h : CollectorOnly s t) {a : Nat} (ha : Reg.SNP_SPR_ROLES ≤ a) : t.reg a = s.reg a :=
  h.2 a (.inr ((show Reg.FC_SRCn_CNT 64 ≤ Reg.SNP_SPR_ROLES by decide).trans ha))

theorem CollectorOnly.fence {s t : State} (h : CollectorOnly s t) : t.reg Reg.SYS_ISLAND_FENCE = s.reg Reg.SYS_ISLAND_FENCE :=
  h.2 _ (.inl (by decide))

end Sys2Proof.Machine

namespace Sys2Proof.Claims
open Sys2Proof.Machine

section Spare
variable {s : State} {e : Nat}

/-! ### A quiet source stays quiet (R544 to R551) -/

/-- A fence and what comes with it leave the fault collector. -/
theorem quiet.spares {t : State} {n : Nat} (h : quiet s n) (hn : n < 64) (k : Spares BesideFences s t) : quiet t n := by
  have hcfg : BesideFences (Reg.FC_SRCn_CFG n) := by
    unfold BesideFences BesideEngines Reg.FC_SRCn_CFG Reg.FAB_RECLAIM_CNT Reg.SYS_ISLAND_FENCE
    omega
  have hfirst : BesideFences Reg.FC_FIRST := by unfold BesideFences BesideEngines; decide
  exact h.of_same k.fc (k.2 _ hcfg) (by rw [State.bit, k.2 _ hfirst, State.bit])

/-- So do the controller's own registers. -/
theorem quiet.setSpare {n a : Nat} (h : quiet s n) (hn : n < 64) (ha : Reg.SNP_SPR_ROLES ≤ a) (v : W32) : quiet (s.setReg a v) n := by
  unfold Reg.SNP_SPR_ROLES at ha
  exact h.setReg (by unfold Reg.FC_SRCn_CFG; omega) (by unfold Reg.FC_FIRST; omega) v

theorem quiet.setRole {n : Nat} (h : quiet s n) (hn : n < 64) (e r : Nat) : quiet (s.setRole e r) n :=
  (h.setSpare hn (Nat.le_refl _) _).setSpare hn (by decide) _

theorem quiet.bistFailed (h : quiet s e) (he : e < 5) : quiet (bistFailed s e) e := by
  have hrole : quiet ((s.modSpare (Spare.retested · e)).setRole e 5) e :=
    quiet.setRole (s := s.modSpare (Spare.retested · e)) h (by omega) e 5
  refine hrole.of_same (leaveBist_fc _) (reg_leaveBist_ne _ ?_) ?_
  · unfold Reg.FC_SRCn_CFG Reg.SNP_SPR_STATUS; omega
  · rw [State.bit, Machine.bistFailed, reg_leaveBist_ne _ (by decide), State.bit]

theorem quiet.swathDropped {n : Nat} (h : quiet s n) (hn : n < 64) (w : Nat) : quiet (swathDropped s w) n := by
  unfold Machine.swathDropped
  split
  · exact h.setSpare hn (by decide) _
  · exact h

/-- An event without a live line leaves a quiet source quiet. -/
theorem quiet.raise_dark {n : Nat} (h : quiet s n) (cls : Nat) (hn : n < 64) : quiet (Machine.raise s n cls false) n := by
  have hcounted : quiet (s.count (Reg.FC_SRCn_CNT n) 1) n :=
    h.setReg (by simp only [Reg.FC_SRCn_CFG, Reg.FC_SRCn_CNT]; omega) (by simp only [Reg.FC_FIRST, Reg.FC_SRCn_CNT]; omega) _
  unfold Machine.raise
  split
  next => exact h
  next =>
  extract_lets c counted latched recorded
  have hlatched : quiet latched n := by
    unfold latched
    split
    · exact hcounted
    · exact (hcounted.latchFirst c hn).2
  obtain ⟨hmax, -, -, hnotify⟩ := id hlatched
  obtain ⟨hcap, -⟩ := h
  have hrecorded : recorded = latched := if_neg (by simp [hnotify c ((Nat.min_le_right cls _).trans_lt (by omega))])
  rw [hrecorded]
  exact hlatched

/-! ### Rotation and hand-off (R307 to R313) -/

theorem sprRotate_starts {who : Requester} {g web pos : Nat} (hnone : s.roleDomain 1 = none) (he : e < 5)
    (hacc : s.sprAccess who = true) (hspare : s.spareEngine = some e) (htarget : s.rotationTarget = some g) (hg : g < 5)
    (hweb : s.emuWebOf g = some web) (hpos : s.webPos web = some pos) (hbg : 16 ≤ s.fld Reg.TMP_BFACT 4 0) :
    Completes (.sprRotate who) s (fun t => t.role e = 2 ∧ t.fld Reg.SNP_SPR_STATUS 2 0 = 1 ∧ t.sprTarget = g ∧
      t.reg Reg.SNP_SPR_COMPARED = 0 ∧ t.spare.shadow = e ∧ t.mem = s.mem) :=
  ⟨_, by rw [exec_sprRotate hacc, wantRotate_starts hspare htarget hweb hpos hbg],
    shadowStart_begins (s := s.modSpare fun p => { p with want := true }) hnone he hg false⟩

theorem sprAbort_ends {who : Requester} (he : e < 5) (hacc : s.sprAccess who = true) (hon : s.shadowing = true)
    (hshadow : s.spare.shadow = e) : Completes (.sprAbort who) s (fun t =>
      t.role e = 1 ∧ t.fld Reg.SNP_SPR_STATUS 2 0 = 0 ∧ t.spare.handoff = none ∧ t.mem = s.mem) := by
  obtain ⟨hrole, hphase, hhand, hmem, -⟩ := shadowEnd_ends he hshadow
  exact ⟨_, by rw [exec_sprAbort hacc, sprAbort_shadowing hon], hrole, hphase, hhand, hmem⟩

theorem shadowTimeout_ends (hnone : s.roleDomain 1 = none) (he : e < 5) (hon : s.shadowing = true) (hshadow : s.spare.shadow = e)
    (hhand : s.spare.handoff = none) : Completes .shadowTimeout s (fun t =>
      t.role e = 1 ∧ t.fld Reg.SNP_SPR_STATUS 2 0 = 0 ∧ t.bit Reg.SNP_SPR_STATUS 7 = true) := by
  obtain ⟨hrole, hphase, -, -, howner⟩ := shadowEnd_ends he hshadow
  refine ⟨timedOut s, exec_shadowTimeout hnone hon hhand howner, ?_, ?_, ?_⟩
  · rw [timedOut, role_modSpare, role_congr (State.reg_setBit_ne _ (by decide) _ _), hrole]
  · rw [timedOut, fld_modSpare, fld_setBit_outside _ _ _ (by decide) (.inr (by decide)), hphase]
  · rw [timedOut, bit_modSpare, State.bit_setBit_same _ _ _ _ (by decide)]

theorem handoff_passes {h g w : Nat} (hnone : s.roleDomain 1 = none) (he : e < 5) (hhand : s.spare.handoff = some h)
    (hon : s.shadowing = true) (hshadow : s.spare.shadow = e) (htarget : s.sprTarget = g) (hg : g < 5) (hactive : s.role g = 0)
    (hswath : s.swathOf g = some w) (hready : handoffReady s h = true) : Completes .handoff s (fun t =>
      t.swathEngine w = e ∧ t.role e = 0 ∧ t.role g = 3 ∧ t.fenced g = true ∧ t.spare.handoff = none ∧
      sget 0 t.spare.lastHand e = s.ringTime) := by
  have hcancel := cancelWorks_spares s g
  have hrole : s.role e = 2 := by
    simp only [State.shadowing, State.shadow, hshadow, Bool.and_eq_true, beq_iff_eq] at hon
    exact hon.2
  have hne : e ≠ g := by rintro rfl; omega
  obtain ⟨hfenced, hfence⟩ := fenceIsland_fences (handedOver s e g w) (i := g) (.inl (by omega)) (by omega)
  refine ⟨_, exec_handoff_ready hnone hhand hon hshadow htarget hg hswath hready, ?_⟩
  unfold bistEnter
  refine ⟨?swath, ?shadow, ?target, ?fence, ?handoff, ?last⟩
  case swath =>
    rw [swathEngine_congr (reg_setPhase_ne _ 2 _ (by decide)), swathEngine_congr (reg_setRole_ne _ g 3 (by decide) (by decide)),
      swathEngine_congr (hfence.2 _ .swath), handedOver, swathEngine_congr (reg_modSpare _ _ _),
      swathEngine_congr (reg_setRole_ne _ e 0 (by decide) (by decide)), swathEngine_setSwath _ e w (swathOf_lt hswath) (by omega)]
  case shadow =>
    rw [role_setPhase, role_setRole_ne _ g 3 hg hne, role_congr (hfence.2 _ .roles), handedOver, role_modSpare,
      role_setRole_same _ e 0 he (by decide)]
  case target => rw [role_setPhase, role_setRole_same _ g 3 hg (by decide)]
  case fence =>
    rw [fenced_congr (reg_setPhase_ne _ 2 _ (by decide)), fenced_congr (reg_setRole_ne _ g 3 (by decide) (by decide)), hfenced]
  case handoff => rw [setPhase_spare, setRole_spare, hfence.spare, handedOver, modSpare_spare]
  case last =>
    rw [setPhase_spare, setRole_spare, hfence.spare, handedOver, modSpare_spare]
    dsimp only
    rw [sget_sset_same, setSwath_ringTime, hcancel.ringTime]

/-! ### Self-test, failure and recovery (R313 to R320) -/

theorem sprRetest_tests {who : Requester} (he : e < 5) (hacc : s.sprAccess who = true) (hrole : s.role e = 5) :
    Completes (.sprRetest who e) s (fun t => RegsOnly s t ∧ t.role e = 3) := by
  refine ⟨_, by rw [exec_sprRetest hacc, sprRetest_failed hrole],
    regsOnly_setPhase (regsOnly_setRole (RegsOnly.refl s) e 3) _ _, ?_⟩
  rw [role_setPhase, role_setRole_same s e 3 he (by decide)]

theorem selfTestEnd_fails (hnone : s.roleDomain 1 = none) (he : e < 5) (hrole : s.role e = 3) (hwait : s.spare.waiting = none)
    (hquiet : quiet s e) : Completes (.selfTestEnd e false) s (fun t => t.role e = 5 ∧ t.suspect e = s.suspect e) := by
  obtain ⟨honly, -⟩ := (hquiet.bistFailed he).raise 1 false (by omega)
  have howner : (raise (bistFailed s e) e 1 false).owner = s.owner := by
    rw [honly.1, ← bistFailed_owner s e]
  have hroles := honly.controller (Nat.le_refl Reg.SNP_SPR_ROLES)
  refine ⟨_, exec_selfTestEnd_failed hrole hwait (roleDomain_press_none howner hnone), ?_, ?_⟩
  · rw [role_congr (hroles.trans (bistFailed_roles s e)), role_setRole_same _ e 5 he (by decide)]
  · rw [State.suspect, State.bit, hroles.trans (bistFailed_roles s e)]
    exact suspect_setRole _ e 5 he

theorem selfTestEnd_passes (hnone : s.roleDomain 1 = none) (he : e < 5) (hrole : s.role e = 3) (hwait : s.spare.waiting = none)
    (hwant : s.spare.want = false) (hretest : s.spare.retest ≠ some e) : Completes (.selfTestEnd e true) s (fun t =>
      t.role e = 1 ∧ t.fenced e = false ∧ t.mem = s.mem) := by
  obtain ⟨hpassed, hopen, hmem, -, -⟩ := bistPassed_passes s he
  exact ⟨_, exec_selfTestEnd_passed hnone he hrole hwait hwant hretest, hpassed, hopen, hmem⟩

/-- The engine that has failed is FAILED and fenced; the others keep their roles, and its source is quiet still. -/
theorem failedFenced_fails (he : e < 5) (hquiet : quiet s e) : quiet (failedFenced s e) e ∧ (failedFenced s e).role e = 5 ∧
    (∀ f, f ≠ e → (failedFenced s e).role f = s.role f) ∧ (failedFenced s e).fenced e = true := by
  obtain ⟨hfenced, hfence⟩ := fenceIsland_fences s (i := e) (.inl (by omega)) (by omega)
  have hstopped : quiet ((fenceIsland s e).setRole e 5) e := (hquiet.spares (by omega) hfence).setRole (by omega) e 5
  obtain ⟨hraised, -⟩ := hstopped.raise 1 false (by omega)
  have hroles := role_congr (hraised.controller (Nat.le_refl _))
  unfold failedFenced
  refine ⟨hstopped.raise_dark 1 (by omega), ?_, fun f hf => ?_, ?_⟩
  · rw [hroles, role_setRole_same _ e 5 he (by decide)]
  · rw [hroles, role_setRole_ne _ e 5 he hf, role_congr (hfence.2 _ .roles)]
  · rw [fenced_congr hraised.fence, fenced_congr (reg_setRole_ne _ e 5 (by decide) (by decide)), hfenced]

theorem engineFatalError_fails (he : e < 5) (hrole : s.role e = 0) (hno : noSpareRecords s e) (hquiet : quiet s e)
    (hothers : ∀ f, f < 5 → s.role f = 0 ∨ 4 ≤ s.role f) : Completes (.engineFatalError e) s (fun t =>
      t.role e = 5 ∧ t.fenced e = true ∧ ∀ w, s.swathOf e = some w → t.swathEngine w = 7) := by
  obtain ⟨hnone, hoff⟩ := hno
  obtain ⟨hstill, hself, hkept, hfenced⟩ := failedFenced_fails he hquiet
  have hready : ∀ f, f < 5 → (failedFenced s e).role f ≠ 1 ∧ (failedFenced s e).role f ≠ 2 ∧ (failedFenced s e).role f ≠ 3 := by
    intro f hf
    by_cases hfe : f = e
    · rw [hfe, hself]
      decide
    · have hother := hothers f hf
      rw [hkept f hfe]
      omega
  obtain ⟨hagain, -⟩ := (hstill.swathDropped (by omega) ((s.swathOf e).getD 7)).raise 0 false (by omega)
  refine ⟨_, congrArg Host.Outcome.next (engineFailed_alone hrole hnone hoff hready), ?role, ?fence, fun w hw => ?swath⟩
  case role => rw [role_congr (hagain.controller (Nat.le_refl _)), role_swathDropped, hself]
  case fence => rw [fenced_congr (hagain.fence.trans (reg_swathDropped_ne _ _ (by decide))), hfenced]
  case swath =>
    rw [swathEngine_congr (hagain.controller (by decide)), hw, Option.getD_some, swathDropped, if_pos (swathOf_lt hw),
      swathEngine_setSwath _ 7 w (swathOf_lt hw) (by decide)]

theorem recoverComplete_activates {r : EmuRun} {rcb : List Byte} (hnone : s.roleDomain 1 = none) (he : e < 5)
    (hemu : (s.eng e).emu = some r) (hrcb : readRcb s r.seat (slotOf r.slots 1) (emuRcb r.desc) = .ok rcb) (hrole : s.role e = 4)
    (hw0 : s.spare.w0 < leAt rcb 0 8)
    (hfull : (s.reg64 (Reg.POSn_POS_LO (emuWeb r.desc))).toNat / 2 ^ 16 + r.depth ≤ leAt rcb 0 8) :
    Completes (.recoverComplete e) s (fun t => RegsOnly s t ∧ t.role e = 0 ∧ t.fld Reg.SNP_SPR_STATUS 2 0 = 0) := by
  obtain ⟨a, b, hexec⟩ := exec_recoverComplete_full hnone hemu hrcb hrole hw0 hfull
  refine ⟨_, hexec, recovered_regsOnly s e a b, ?_, ?_⟩
  · rw [recovered, role_setPhase, role_setRole_same _ e 0 he (by decide)]
  · exact phase_setPhase _ 0 _ (by decide)

theorem sprRecWrite_stores {who : Requester} {w : Nat} (hacc : s.sprAccess who = true) (lo hi : W32) (hw : w < s.variant.swaths) :
    Completes (.sprRecWrite who w lo hi) s (fun t => t = { s with regs := t.regs, spare := t.spare } ∧
      t.reg (Reg.SNP_SPR_RECs_LO w) = lo ∧ t.reg (Reg.SNP_SPR_RECs_HI w) = hi &&& 0x3FFFFFFF ∧
      t.bit Reg.SNP_SPR_STATUS (9 + w) = (sget none t.spare.standby w).isNone) := by
  have hengines := Variant.engines_le s.variant
  obtain ⟨b, hstored⟩ := sprRecWrite_stored s w lo hi
  obtain ⟨hlo, hhi, hbad, hstandby⟩ := recordStored_shows s (w := w) (by unfold Variant.swaths at hw; omega) lo hi b
  exact ⟨_, by rw [exec_sprRecWrite hacc hw, hstored], recordStored_frame s w lo hi b, hlo, hhi, by rw [hstandby, hbad]⟩

end Spare

/-- Settles O48: each command and event by the run, role or record it moves. When a rotation, a hand-off and a self-test act (log 54,
56 and 57) and that a command out of its state changes nothing (log 4) are the model's choices. -/
theorem spareControllerFollowsItsCommands : Obligations.SpareControllerFollowsItsCommands := by
  intro e s he hnone
  refine ⟨fun who hacc w lo hi c hc => ⟨_, exec_spr_denied hacc e w lo hi c hc, rfl⟩, fun who hacc => ?commands,
    fun hperiod hretry => ⟨s, exec_rotationDue_none hperiod hretry, rfl⟩,
    fun hdue hspare => ⟨_, by rw [exec_rotationDue hdue, wantRotate_noSpare hspare], rfl⟩,
    shadowTimeout_ends hnone he, fun h => ⟨⟨s, exec_shadowTimeout_idle h, rfl⟩, s, exec_handoff_idle h, rfl⟩,
    fun h g w hhand hon hshadow htarget hg hactive => handoff_passes hnone he hhand hon hshadow htarget hg hactive,
    fun hrole p => ⟨s, exec_selfTestEnd_other hrole p, rfl⟩,
    fun hrole hwait => ⟨selfTestEnd_fails hnone he hrole hwait, selfTestEnd_passes hnone he hrole hwait⟩,
    fun hactive hrecover => ⟨s, congrArg Host.Outcome.next (engineFailed_other hactive hrecover), rfl⟩,
    engineFatalError_fails he, fun r pos hemu hpos => ?emission, fun near far n k => ?channel⟩
  case commands =>
    exact ⟨fun hspare => ⟨_, by rw [exec_sprRotate hacc, wantRotate_noSpare hspare], rfl⟩,
      fun g web pos hspare htarget hg hweb hpos hbg => sprRotate_starts hnone he hacc hspare htarget hg hweb hpos hbg,
      fun h => ⟨s, by rw [exec_sprAbort hacc, sprAbort_idle h], rfl⟩, sprAbort_ends he hacc, sprRetest_tests he hacc,
      fun h => ⟨s, by rw [exec_sprRetest hacc, sprRetest_other h], rfl⟩,
      fun h => ⟨s, by rw [exec_sprFail hacc, if_neg h], rfl⟩, fun h => ⟨_, by rw [exec_sprFail hacc, if_pos h], rfl⟩,
      fun w => sprRecWrite_stores hacc⟩
  case emission =>
    refine ⟨fun h => ⟨s, ?_, rfl⟩, fun h _ => ⟨_, ?_, rfl⟩, fun rcb hrcb =>
      ⟨recoverComplete_activates hnone he hemu hrcb, fun h => ⟨s, exec_recoverComplete_early hemu hrcb h, rfl⟩⟩⟩
    · rw [exec_emissionWatchdog hemu hpos, if_neg]
      simpa only [List.any_eq_true, decide_eq_true_eq, not_exists, not_and, Nat.not_le] using h
    · rw [exec_emissionWatchdog hemu hpos, if_pos]
      simpa only [List.any_eq_true, decide_eq_true_eq] using h
  case channel =>
    refine ⟨⟨_, exec_channelTimeout_onePort s near far n k, rfl⟩, fun hfar hpresent hengine => ?_⟩
    exact ⟨_, exec_channelTimeout_everyPort s near n k hfar hpresent hengine,
      (fenceIsland_fences _ (.inr hengine) (by omega)).1⟩

end Sys2Proof.Claims
end

section
/-! PROOFS. Sequencing, credit and retransmission of links (R339 to R350) and the Ethernet groups (R361 to R365). First what a change
of one class leaves, what a credit return takes, and what each command runs; then the states of the ports over a group; then the
statement O50. -/

namespace Sys2Proof.Machine

/-! ### A step on an empty queue (R367) -/

theorem step_idle {s : State} (h : s.pending = []) : step s = .next (tick s) := by
  simp only [step, h]

/-! ### Links and their classes -/

@[simp] theorem Link.cls_setCls_same (l : Link) (c : Nat) (x : LinkClass) : (l.setCls c x).cls c = x := sget_sset_same _ _ _ _

theorem Link.cls_setCls_ne (l : Link) {c d : Nat} (h : d ≠ c) (x : LinkClass) : (l.setCls c x).cls d = l.cls d :=
  sget_sset_ne _ _ _ h x

section
variable (s : State) (k c : Nat)

@[simp] theorem cls_modCls_same (f : LinkClass → LinkClass) : ((s.modCls k c f).link k).cls c = f ((s.link k).cls c) := by
  rw [State.modCls, State.link_setLink_same, Link.cls_setCls_same]

/-- Link `k` becomes `l`, and `o` leaves the block. -/
def State.emit (l : Link) (o : Out) : State := { s.setLink k l with out := s.out ++ [o] }

@[simp] theorem link_emit (l : Link) (o : Out) : (s.emit k l o).link k = l := State.link_setLink_same s k l

theorem out_emit (l : Link) (o : Out) : (s.emit k l o).out = s.out ++ [o] := rfl

theorem emit_frame (l : Link) (o : Out) :
    s.emit k l o = { s with links := (s.emit k l o).links, out := (s.emit k l o).out } := rfl

end

/-! ### What a frame carries and counts (R342, R364) -/

/-- Of the classes of link `l`, `l'` differs in what they have reported alone. -/
def ReportsOnly (l l' : Link) : Prop := ∀ c, l'.cls c = { l.cls c with reported := (l'.cls c).reported }

theorem creditReturn_reportsOnly (l : Link) : ReportsOnly l (creditReturn l).2.2 := by
  intro c
  unfold creditReturn
  split
  next d _ =>
    by_cases h : c = d
    · rw [h, Link.cls_setCls_same]
    · rw [Link.cls_setCls_ne l h]
  next => rfl

section
variable {s : State} {k : Nat}

/-- A drop-stream link and a port over lanes count no Ethernet frame. -/
theorem countEth_lanes (h : 24 ≤ k ∨ s.portEth k = false) : countEth s k = s := by
  refine if_neg fun hk => ?_
  simp only [Bool.and_eq_true, decide_eq_true_eq] at hk
  obtain ⟨hport, heth⟩ := hk
  rcases h with h | h
  · omega
  · exact Bool.false_ne_true (h.symm.trans heth)

theorem countEth_emit (h : 24 ≤ k ∨ s.portEth k = false) (l : Link) (o : Out) : countEth (s.emit k l o) k = s.emit k l o :=
  countEth_lanes (s := s.emit k l o) h

/-- A control-only frame over lanes goes out with a credit return (R338, R342). -/
theorem sendControl_lanes (h : 24 ≤ k ∨ s.portEth k = false) (ftype cls : Nat) (seq : W32) :
    sendControl s k ftype cls seq = s.emit k (creditReturn (s.link k)).2.2
      (.control k ftype cls seq (creditReturn (s.link k)).1 (creditReturn (s.link k)).2.1) :=
  countEth_emit h _ _

theorem sendControl_reportsOnly (h : 24 ≤ k ∨ s.portEth k = false) (ftype cls : Nat) (seq : W32) :
    ReportsOnly (s.link k) ((sendControl s k ftype cls seq).link k) := by
  rw [sendControl_lanes h, link_emit]
  exact creditReturn_reportsOnly _

/-- A credit report of a class the link has takes effect; the code of no class, which a frame without one carries, has none (R342). -/
theorem creditIn_class {c : Nat} (h : c < 6) (n : Nat) : creditIn s k c n = s.modCls k c (fun x =>
    { x with credits := x.credits + (n + 8192 - x.lastReport) % 8192, lastReport := n }) := if_pos h

theorem creditIn_none (n : Nat) : creditIn s k 7 n = s := if_neg (by decide)

end

/-! ### Starting a frame (R341, R344, R346) -/

/-- Class `x` once the first frame of its queue, which `rest` follows, has started as `f`: the frame took the next number and its
cells, and is kept for retransmission. -/
def LinkClass.sent (x : LinkClass) (f : Frame) (rest : List QFrame) : LinkClass :=
  { x with queue := rest, txSeq := x.txSeq + 1, replay := x.replay ++ [(x.txSeq, f)],
           credits := x.credits - cells f.payload.length }

theorem LinkClass.start_new {x : LinkClass} {q : QFrame} {rest : List QFrame} (hresend : x.resend = []) (hqueue : x.queue = q :: rest)
    (now : W64) : x.start now = some (x.txSeq, stamped now q.f, false, x.sent (stamped now q.f) rest) := by
  simp only [LinkClass.start, LinkClass.sent, hresend, hqueue]

/-- Link `l` as class `c` has started a frame, which became `x` (R344). -/
def Link.started (l : Link) (c : Nat) (x : LinkClass) : Link :=
  { l with starve := if c < 4 then min 7 (l.starve + 1) else 0 }.setCls c x

@[simp] theorem Link.cls_started (l : Link) (c : Nat) (x : LinkClass) : (l.started c x).cls c = x := Link.cls_setCls_same _ c x

section
variable {s : State} {k c : Nat}

theorem startFrame_new {q : QFrame} {rest : List QFrame} (hresend : ((s.link k).cls c).resend = [])
    (hqueue : ((s.link k).cls c).queue = q :: rest) (hlanes : 24 ≤ k ∨ s.portEth k = false) :
    let f := stamped s.ringTime q.f
    let l := creditReturn ((s.link k).started c (((s.link k).cls c).sent f rest))
    startFrame s k c = s.emit k l.2.2 (.frame k ((s.link k).cls c).txSeq false l.1 l.2.1 f) := by
  intro f l
  rw [startFrame, LinkClass.start_new hresend hqueue]
  exact countEth_emit hlanes l.2.2 _

/-! ### What the commands run on an UP link and on another -/

variable (hup : s.linkState k = 5)
include hup

theorem exec_frameSend (hnext : nextClass (s.link k) = some c) : exec (.frameSend k) s = .next (startFrame s k c) := by
  change execFrameSend k s = _
  rw [execFrameSend, if_pos hup, hnext]

theorem exec_frameSend_none (hnext : nextClass (s.link k) = none) : exec (.frameSend k) s = .next s := by
  change execFrameSend k s = _
  rw [execFrameSend, if_pos hup, hnext]

theorem exec_rxCred (cls n : Nat) : exec (.rxCred k cls n) s = .next (creditIn s k cls n) := congrArg Host.Outcome.next (if_pos hup)

theorem exec_rxAck (seq : W32) : exec (.rxAck k c seq 7 0) s = .next (ackFrames s k c seq) := by
  refine congrArg Host.Outcome.next ((if_pos hup).trans ?_)
  rw [creditIn_none]

theorem exec_rxNak (seq : W32) : exec (.rxNak k c seq 7 0) s = .next (resendFrom s k c seq) := by
  refine congrArg Host.Outcome.next ((if_pos hup).trans ?_)
  rw [creditIn_none]

theorem exec_ackSend (h : 0 < ((s.link k).cls c).unacked) : exec (.ackSend k c) s =
    .next (sendControl (s.modCls k c (fun x => { x with unacked := 0 })) k 1 c (((s.link k).cls c).expect - 1)) :=
  congrArg Host.Outcome.next (if_pos (by simp [hup, h]))

theorem exec_creditReport (h : ((s.link k).cls c).freed ≠ ((s.link k).cls c).reported) : exec (.creditReport k c) s =
    .next (countEth (s.emit k ((s.link k).setCls c { (s.link k).cls c with reported := ((s.link k).cls c).freed })
      (.control k 0 c 0 c ((s.link k).cls c).freed)) k) :=
  congrArg Host.Outcome.next (if_pos (by simp [hup, h]))

theorem exec_rtoExpiry {x : W32 × Frame} {rest : List (W32 × Frame)} (hreplay : ((s.link k).cls c).replay = x :: rest)
    (hrto : s.linkRto k ≠ 0) : exec (.rtoExpiry k c) s = .next (resendFrom s k c x.1) := by
  change execRtoExpiry k c s = _
  rw [execRtoExpiry, hreplay]
  exact congrArg Host.Outcome.next (if_pos (by simp [hup, hrto]))

/-- The frame that was expected is lost on a drop-stream link: a NAK asks for it, once (R349). -/
theorem exec_rxCorruptFrame_expected (hk : 24 ≤ k) (hnak : ((s.link k).cls c).nakSent = false) :
    exec (.rxCorruptFrame k (.trailer c ((s.link k).cls c).expect 7 0)) s =
      .next (sendControl (s.modCls k c (fun x => { x with nakSent := true })) k 2 c ((s.link k).cls c).expect) := by
  change execRxCorruptFrame k (.trailer c ((s.link k).cls c).expect 7 0) s = _
  dsimp only [execRxCorruptFrame]
  rw [creditIn_none, if_neg (show ¬ k < 24 by omega)]
  exact congrArg Host.Outcome.next (if_pos (by simp [hup, hnak]))

end

section
variable {s : State} {k c : Nat}

theorem exec_ackSend_none (h : ((s.link k).cls c).unacked = 0) : exec (.ackSend k c) s = .next s :=
  congrArg Host.Outcome.next (if_neg (by simp [h]))

theorem exec_creditReport_none (h : ((s.link k).cls c).freed = ((s.link k).cls c).reported) : exec (.creditReport k c) s = .next s :=
  congrArg Host.Outcome.next (if_neg (by simp [h]))

/-- A timeout resends nothing while RTO is 0 or the link is not UP (R350). -/
theorem exec_rtoExpiry_none (h : s.linkRto k = 0 ∨ s.linkState k ≠ 5) : exec (.rtoExpiry k c) s = .next s := by
  change execRtoExpiry k c s = _
  rw [execRtoExpiry]
  split
  next => exact congrArg Host.Outcome.next (if_neg (by simpa [imp_iff_not_or, or_comm] using h))
  next => rfl

/-- A link that is not UP takes no frame, report, acknowledgement or timeout. -/
theorem exec_link_notUp (h : s.linkState k ≠ 5) (c : Nat) (seq : W32) :
    ∀ i ∈ [Instr.rxCred k c 0, .rxAck k c seq 7 0, .rxNak k c seq 7 0, .ackSend k c, .creditReport k c, .rtoExpiry k c, .frameSend k],
      exec i s = .next s := by
  simp only [List.forall_mem_cons, List.not_mem_nil, false_implies, implies_true, and_true]
  exact ⟨congrArg Host.Outcome.next (if_neg h), congrArg Host.Outcome.next (if_neg h), congrArg Host.Outcome.next (if_neg h),
    congrArg Host.Outcome.next (if_neg (by simp [h])), congrArg Host.Outcome.next (if_neg (by simp [h])),
    exec_rtoExpiry_none (.inr h), congrArg Host.Outcome.next (if_neg h)⟩

/-- A header that fails its HCRC counts in CRCERR of its port (R339). -/
theorem exec_rxCorruptFrame_header (hk : k < 24) : exec (.rxCorruptFrame k .header) s = .next (s.count (Reg.UMK_PORTp_CRCERR k) 1) :=
  congrArg Host.Outcome.next (if_pos hk)

theorem exec_rxCorruptFrame_malformed (hk : k < 24) :
    exec (.rxCorruptFrame k (.malformed 7 0)) s = .next (s.count (Reg.UMK_PORTp_BADFRM k) 1) := by
  change Host.Outcome.next (creditIn (countBad s k) k 7 0) = _
  rw [creditIn_none, countBad, if_pos hk]

/-! ### Acknowledged and named frames (R348, R349) -/

/-- A NAK or a timeout that names a frame still kept marks it and every later one for sending again. -/
theorem resendFrom_kept {seq : W32} (h : ((s.link k).cls c).replay.any (fun e => e.1 == seq) = true) :
    ((resendFrom s k c seq).link k).cls c =
      { (s.link k).cls c with resend := ((s.link k).cls c).replay.dropWhile (fun e => e.1 != seq) } := by
  rw [resendFrom, cls_modCls_same, if_pos h]

theorem resendFrom_oldest {x : W32 × Frame} {rest : List (W32 × Frame)} (h : ((s.link k).cls c).replay = x :: rest) :
    (((resendFrom s k c x.1).link k).cls c).resend = x :: rest := by
  rw [resendFrom_kept (by simp [h]), h]
  exact List.dropWhile_cons_of_neg (p := fun e : W32 × Frame => e.1 != x.1) (by simp)

end

/-! ### Ports over Ethernet (R330, R364) -/

section
variable {s : State} {p q : Nat}

/-- The registers of the Ethernet groups and above hold no port's state. -/
theorem linkState_setReg_ethernet (hp : p < 24) {a : Nat} (ha : Reg.ETHg_CFG 0 ≤ a) (v : W32) :
    (s.setReg a v).linkState p = s.linkState p := by
  have hne : Reg.UMK_PORTp_STATE p ≠ a := by simp only [Reg.UMK_PORTp_STATE, Reg.ETHg_CFG] at *; omega
  rw [State.linkState, if_pos hp, State.fld, State.reg_setReg_ne _ hne, State.linkState, if_pos hp, State.fld]

theorem linkState_setLinkState_same (hp : p < 24) (n : Nat) : (s.setLinkState p n).linkState p = n % 8 := by
  have hne : Reg.UMK_PORTp_STATE p ≠ Reg.UMK_STATUS := by simp only [Reg.UMK_PORTp_STATE, Reg.UMK_STATUS]; omega
  rw [State.linkState, if_pos hp, State.setLinkState, if_pos hp, State.fld, State.reg_setBit_ne _ hne, ← State.fld,
    State.fld_setFld_same _ _ _ _ _ (by decide) (by decide)]
  rfl

theorem linkState_setLinkState_ne (hp : p < 24) (hq : q < 24) (h : p ≠ q) (n : Nat) :
    (s.setLinkState q n).linkState p = s.linkState p := by
  have hstatus : Reg.UMK_PORTp_STATE p ≠ Reg.UMK_STATUS := by simp only [Reg.UMK_PORTp_STATE, Reg.UMK_STATUS]; omega
  have hports : Reg.UMK_PORTp_STATE p ≠ Reg.UMK_PORTp_STATE q := by simp only [Reg.UMK_PORTp_STATE]; omega
  rw [State.linkState, if_pos hp, State.setLinkState, if_pos hq, State.fld, State.reg_setBit_ne _ hstatus,
    State.reg_setFld_ne _ hports, State.linkState, if_pos hp, State.fld]

/-- A port's state lies below the registers of the Ethernet groups. -/
theorem reg_setLinkState_ethernet (hp : p < 24) {a : Nat} (ha : Reg.ETHg_CFG 0 ≤ a) (n : Nat) :
    (s.setLinkState p n).reg a = s.reg a := by
  have hstatus : a ≠ Reg.UMK_STATUS := by simp only [Reg.UMK_STATUS, Reg.ETHg_CFG] at *; omega
  have hport : a ≠ Reg.UMK_PORTp_STATE p := by simp only [Reg.UMK_PORTp_STATE, Reg.ETHg_CFG] at *; omega
  rw [State.setLinkState, if_pos hp, State.reg_setBit_ne _ hstatus, State.reg_setFld_ne _ hport]

/-- A port over Ethernet whose MAC reports link up bonds when it is DOWN (R330). -/
def bondDown (s : State) (p : Nat) : State := if s.linkState p = 1 then s.setLinkState p 4 else s

theorem linkState_bondDown_same (hp : p < 24) : (bondDown s p).linkState p = if s.linkState p = 1 then 4 else s.linkState p := by
  unfold bondDown
  split
  · exact linkState_setLinkState_same hp 4
  · rfl

theorem linkState_bondDown_ne (hp : p < 24) (hq : q < 24) (h : p ≠ q) : (bondDown s q).linkState p = s.linkState p := by
  unfold bondDown
  split
  · exact linkState_setLinkState_ne hp hq h 4
  · rfl

/-- Bonding changes registers alone, and none of an Ethernet group. -/
theorem bondDown_ethernet (hp : p < 24) : RegsOnly s (bondDown s p) ∧ ∀ a, Reg.ETHg_CFG 0 ≤ a → (bondDown s p).reg a = s.reg a := by
  unfold bondDown
  split
  · refine ⟨?_, fun a ha => reg_setLinkState_ethernet hp ha 4⟩
    rw [State.setLinkState, if_pos hp]
    exact ((RegsOnly.refl s).setReg _ _).setReg _ _
  · exact ⟨.refl s, fun _ _ => rfl⟩

end

/-- A port of the list bonds when it is DOWN; the others stay as they are. -/
theorem linkState_each_bondDown {p : Nat} (hp : p < 24) : ∀ {l : List Nat}, (∀ q ∈ l, q < 24) → ∀ s : State,
    (s.each l bondDown).linkState p = if p ∈ l ∧ s.linkState p = 1 then 4 else s.linkState p := by
  intro l
  induction l with
  | nil => exact fun _ s => (if_neg fun h => List.not_mem_nil h.1).symm
  | cons q l ih =>
    intro hl s
    obtain ⟨hq, hrest⟩ := List.forall_mem_cons.mp hl
    rw [show s.each (q :: l) bondDown = (bondDown s q).each l bondDown from rfl, ih hrest]
    by_cases h : p = q
    · subst h
      rw [linkState_bondDown_same hp]
      by_cases hdown : s.linkState p = 1
      · simp [hdown]
      · simp [hdown]
    · simp [linkState_bondDown_ne hp hq h, h]

theorem each_bondDown_ethernet {l : List Nat} (hl : ∀ q ∈ l, q < 24) (s : State) :
    RegsOnly s (s.each l bondDown) ∧ ∀ a, Reg.ETHg_CFG 0 ≤ a → (s.each l bondDown).reg a = s.reg a := by
  refine List.foldlRecOn l bondDown (motive := fun t => RegsOnly s t ∧ ∀ a, Reg.ETHg_CFG 0 ≤ a → t.reg a = s.reg a)
    ⟨.refl s, fun _ _ => rfl⟩ fun t ht p hp => ?_
  obtain ⟨honly, hreg⟩ := ht
  obtain ⟨kframe, kreg⟩ := bondDown_ethernet (s := t) (hl p hp)
  refine ⟨?_, fun a ha => (kreg a ha).trans (hreg a ha)⟩
  unfold RegsOnly at honly kframe ⊢
  rw [kframe, honly]

/-- A list of changes none of which applies changes nothing. -/
theorem each_unchanged {α : Type} {s : State} {f : State → α → State} {l : List α} (h : ∀ x ∈ l, f s x = s) : s.each l f = s :=
  List.foldlRecOn l f (motive := fun t => t = s) rfl fun t ht x hx => by rw [ht, h x hx]

theorem ethPorts_lt {s : State} {g p : Nat} (h : p ∈ s.ethPorts g) : p < 24 := List.mem_range.mp (List.mem_filter.mp h).1

/-! ### Ethernet frames and requests (R361 to R363) -/

section
variable {s : State} {g : Nat}

/-- The counter of group `g` that a received frame advances (R361, R362). -/
def ethCounter (s : State) (g : Nat) (f : EthFrame) : Nat :=
  if f.fcsOk = false ∨ f.len < 64 then Reg.ETHg_RXERR g else if 9216 < f.len then Reg.ETHg_RXLONG g
  else if f.otherTag = true ∨ ethAddressed s g f = false ∨ ethTaken s g f = false then Reg.ETHg_RXOTHER g else Reg.ETHg_RXFRM g

theorem exec_ethFrameRx_off (h : s.ethOn g = false) (f : EthFrame) : exec (.ethFrameRx g f) s = .next s :=
  congrArg Host.Outcome.next (if_pos (by simp [h]))

theorem exec_ethFrameRx (h : s.ethOn g = true) (f : EthFrame) : exec (.ethFrameRx g f) s = .next (s.count (ethCounter s g f) 1) := by
  refine congrArg Host.Outcome.next ((if_neg (by simp [h])).trans ?_)
  simp only [ethCounter, Bool.or_eq_true, Bool.not_eq_true', decide_eq_true_eq, or_assoc]
  split_ifs
  · rfl
  · rfl
  · rfl
  · rfl

theorem exec_ethArpRequest (hon : s.ethOn g = true) (harp : s.bit (Reg.ETHg_CFG g) 4 = true) (ip : W32) (mac : BitVec 48) :
    exec (.ethArpRequest g (s.reg (Reg.ETHg_IPV4 g)) ip mac) s = .next { s.count (Reg.ETHg_TXFRM g) 1 with
      out := s.out ++ [.arp g (s.reg (Reg.ETHg_IPV4 g)) (BitVec.ofNat 48 (s.mac (Reg.ETHg_MAC_LO g) (Reg.ETHg_MAC_HI g))) ip mac] } := by
  have hlo : Reg.ETHg_MAC_LO g ≠ Reg.ETHg_TXFRM g := by simp only [Reg.ETHg_MAC_LO, Reg.ETHg_TXFRM]; omega
  have hhi : Reg.ETHg_MAC_HI g ≠ Reg.ETHg_TXFRM g := by simp only [Reg.ETHg_MAC_HI, Reg.ETHg_TXFRM]; omega
  have hmac : (s.count (Reg.ETHg_TXFRM g) 1).mac (Reg.ETHg_MAC_LO g) (Reg.ETHg_MAC_HI g) =
      s.mac (Reg.ETHg_MAC_LO g) (Reg.ETHg_MAC_HI g) := by
    unfold State.mac State.fld State.count
    rw [State.reg_setReg_ne _ hlo, State.reg_setReg_ne _ hhi]
  rw [← hmac]
  exact congrArg Host.Outcome.next (if_pos (by simp [hon, harp]))

theorem exec_ethArpRequest_off (h : s.bit (Reg.ETHg_CFG g) 4 = false) (ip : W32) (mac : BitVec 48) :
    exec (.ethArpRequest g (s.reg (Reg.ETHg_IPV4 g)) ip mac) s = .next s :=
  congrArg Host.Outcome.next (if_neg (by simp [h]))

/-! ### The MAC's link (R330, R365) -/

/-- Group `g` with its MAC's link up, before the ports over it bond. -/
def ethUp (s : State) (g : Nat) : State :=
  (s.setBit (Reg.ETHg_STATUS g) 0 true).setBit (Reg.ETHg_STATUS g) 1 ((s.setBit (Reg.ETHg_STATUS g) 0 true).bit (Reg.ETHg_CFG g) 2)

/-- Group `g` with its MAC's link down. -/
def ethDown (s : State) (g : Nat) : State :=
  (s.setBit (Reg.ETHg_STATUS g) 0 false).setBit (Reg.ETHg_STATUS g) 1 false

/-- Where STATUS of a group lies. -/
theorem Reg.ethStatus_above (g : Nat) : Reg.ETHg_CFG 0 ≤ Reg.ETHg_STATUS g := by
  simp only [Reg.ETHg_CFG, Reg.ETHg_STATUS]; omega

theorem linkState_ethUp {p : Nat} (hp : p < 24) : (ethUp s g).linkState p = s.linkState p :=
  (linkState_setReg_ethernet hp (Reg.ethStatus_above g) _).trans (linkState_setReg_ethernet hp (Reg.ethStatus_above g) _)

theorem linkState_ethDown {p : Nat} (hp : p < 24) : (ethDown s g).linkState p = s.linkState p :=
  (linkState_setReg_ethernet hp (Reg.ethStatus_above g) _).trans (linkState_setReg_ethernet hp (Reg.ethStatus_above g) _)

theorem ethUp_link : (ethUp s g).bit (Reg.ETHg_STATUS g) 0 = true := by
  rw [ethUp, State.bit_setBit_ne _ _ _ (by decide) (by decide), State.bit_setBit_same _ _ _ _ (by decide)]

theorem ethDown_status : (ethDown s g).bit (Reg.ETHg_STATUS g) 0 = false ∧ (ethDown s g).bit (Reg.ETHg_STATUS g) 1 = false := by
  refine ⟨?_, State.bit_setBit_same _ _ _ _ (by decide)⟩
  rw [ethDown, State.bit_setBit_ne _ _ _ (by decide) (by decide), State.bit_setBit_same _ _ _ _ (by decide)]

theorem exec_ethLinkUp (h : s.ethOn g = true) : exec (.ethLinkUp g) s = .next ((ethUp s g).each (s.ethPorts g) bondDown) :=
  congrArg Host.Outcome.next (if_neg (by simp [h]))

/-- While no port over the group is past DOWN, its MAC's link down moves none; a group in use is reported (R330, R365). -/
theorem exec_ethLinkDown_idle (hmode : s.ethMode g = true) (hports : ∀ p ∈ s.ethPorts g, s.linkState p < 2) :
    exec (.ethLinkDown g) s =
      .next (if s.ethClaimed g || !(s.ethPorts g).isEmpty then raise (ethDown s g) 16 0 false else ethDown s g) := by
  refine congrArg Host.Outcome.next ((if_neg (by simp [hmode])).trans ?_)
  have hidle : (ethDown s g).each (s.ethPorts g) (fun s p => if 2 ≤ s.linkState p then linkDown s p else s) = ethDown s g := by
    refine each_unchanged fun p hp => if_neg ?_
    rw [linkState_ethDown (ethPorts_lt hp)]
    exact Nat.not_le.mpr (hports p hp)
  change (if _ then raise (State.each (ethDown s g) (s.ethPorts g) _) 16 0 false else State.each (ethDown s g) (s.ethPorts g) _) = _
  rw [hidle]

end
end Sys2Proof.Machine

namespace Sys2Proof.Claims
open Sys2Proof.Machine

/-- Settles O2: an empty queue leaves `step` its first arm. That ring time alone moves then is the model's choice (log 1). -/
theorem idleStepIsOneTick : Obligations.IdleStepIsOneTick := fun _ h => step_idle h

section Frames
variable {s : State}

section
variable {k c : Nat} (hup : s.linkState k = 5)
include hup

/-- A new frame starts with the next number, on credit, and is kept (R341, R344, R346). -/
theorem frameSend_starts {q : QFrame} {rest : List QFrame} (hnext : nextClass (s.link k) = some c)
    (hresend : ((s.link k).cls c).resend = []) (hqueue : ((s.link k).cls c).queue = q :: rest) (hlanes : 24 ≤ k ∨ s.portEth k = false) :
    Completes (.frameSend k) s (fun t => t = { s with links := t.links, out := t.out } ∧
      (∃ cc cn, t.out = s.out ++ [Out.frame k ((s.link k).cls c).txSeq false cc cn (stamped s.ringTime q.f)]) ∧
      ((t.link k).cls c).queue = rest ∧ ((t.link k).cls c).txSeq = ((s.link k).cls c).txSeq + 1 ∧
      ((t.link k).cls c).credits = ((s.link k).cls c).credits - cells (stamped s.ringTime q.f).payload.length ∧
      ((t.link k).cls c).replay = ((s.link k).cls c).replay ++ [(((s.link k).cls c).txSeq, stamped s.ringTime q.f)]) := by
  have hrun := exec_frameSend hup hnext
  rw [startFrame_new hresend hqueue hlanes] at hrun
  set f := stamped s.ringTime q.f
  set l := creditReturn ((s.link k).started c (((s.link k).cls c).sent f rest)) with hl
  have hclass := creditReturn_reportsOnly ((s.link k).started c (((s.link k).cls c).sent f rest)) c
  rw [Link.cls_started] at hclass
  refine ⟨_, hrun, emit_frame s k _ _, ⟨l.1, l.2.1, out_emit s k _ _⟩, ?_⟩
  rw [link_emit, hl, hclass]
  exact ⟨rfl, rfl, rfl, rfl⟩

/-- A report adds what has been freed since the last one (R342). -/
theorem rxCred_adds (hc : c < 6) (n : Nat) : Completes (.rxCred k c n) s (fun t => t = { s with links := t.links } ∧
    ((t.link k).cls c).lastReport = n ∧
    ((t.link k).cls c).credits = ((s.link k).cls c).credits + (n + 8192 - ((s.link k).cls c).lastReport) % 8192) := by
  refine ⟨_, (exec_rxCred hup c n).trans (congrArg _ (creditIn_class hc n)), rfl, ?_⟩
  rw [cls_modCls_same]
  exact ⟨rfl, rfl⟩

theorem rxAck_drops (seq : W32) : Completes (.rxAck k c seq 7 0) s (fun t => t = { s with links := t.links } ∧
    ((t.link k).cls c).replay =
      ((s.link k).cls c).replay.filter (fun e => decide (0 < (e.1 - seq).toNat) && decide ((e.1 - seq).toNat < 2 ^ 31))) := by
  refine ⟨_, exec_rxAck hup seq, rfl, ?_⟩
  rw [ackFrames, cls_modCls_same]

theorem rxNak_marks {seq : W32} (h : ((s.link k).cls c).replay.any (fun e => e.1 == seq) = true) :
    Completes (.rxNak k c seq 7 0) s (fun t => t = { s with links := t.links } ∧
      ((t.link k).cls c).resend = ((s.link k).cls c).replay.dropWhile (fun e => e.1 != seq) ∧
      ((t.link k).cls c).replay = ((s.link k).cls c).replay) := by
  refine ⟨_, exec_rxNak hup seq, rfl, ?_⟩
  rw [resendFrom_kept h]
  exact ⟨rfl, rfl⟩

/-- An ACK names the last frame accepted (R348). -/
theorem ackSend_sends (h : 0 < ((s.link k).cls c).unacked) (hlanes : 24 ≤ k ∨ s.portEth k = false) :
    Completes (.ackSend k c) s (fun t => ((t.link k).cls c).unacked = 0 ∧
      ∃ cc cn, t.out = s.out ++ [Out.control k 1 c (((s.link k).cls c).expect - 1) cc cn]) := by
  set u := s.modCls k c (fun x => { x with unacked := 0 })
  refine ⟨_, exec_ackSend hup h, ?_, _, _, congrArg State.out (sendControl_lanes (s := u) hlanes _ _ _)⟩
  rw [sendControl_reportsOnly (s := u) hlanes, cls_modCls_same]

theorem creditReport_sends (h : ((s.link k).cls c).freed ≠ ((s.link k).cls c).reported) (hlanes : 24 ≤ k ∨ s.portEth k = false) :
    Completes (.creditReport k c) s (fun t => ((t.link k).cls c).reported = ((s.link k).cls c).freed ∧
      t.out = s.out ++ [Out.control k 0 c 0 c ((s.link k).cls c).freed]) := by
  refine ⟨_, (exec_creditReport hup h).trans (congrArg _ (countEth_emit hlanes _ _)), ?_, out_emit s k _ _⟩
  rw [link_emit, Link.cls_setCls_same]

/-- An expired RTO sends every unacknowledged frame again (R350). -/
theorem rtoExpiry_marks {x : W32 × Frame} {rest : List (W32 × Frame)} (hreplay : ((s.link k).cls c).replay = x :: rest)
    (hrto : s.linkRto k ≠ 0) : Completes (.rtoExpiry k c) s (fun t => t = { s with links := t.links } ∧
      ((t.link k).cls c).resend = x :: rest) :=
  ⟨_, exec_rtoExpiry hup hreplay hrto, rfl, resendFrom_oldest hreplay⟩

theorem rxCorruptFrame_naks (hnak : ((s.link k).cls c).nakSent = false) (hk : 24 ≤ k) :
    Completes (.rxCorruptFrame k (.trailer c ((s.link k).cls c).expect 7 0)) s (fun t => ((t.link k).cls c).nakSent = true ∧
      ((t.link k).cls c).expect = ((s.link k).cls c).expect ∧
      ∃ cc cn, t.out = s.out ++ [Out.control k 2 c ((s.link k).cls c).expect cc cn]) := by
  set u := s.modCls k c (fun x => { x with nakSent := true })
  have hlanes : 24 ≤ k ∨ u.portEth k = false := .inl hk
  have hclass := sendControl_reportsOnly hlanes 2 c ((s.link k).cls c).expect c
  rw [cls_modCls_same] at hclass
  refine ⟨_, exec_rxCorruptFrame_expected hup hk hnak, ?_, ?_, _, _, congrArg State.out (sendControl_lanes hlanes _ _ _)⟩
  · rw [hclass]
  · rw [hclass]

end

section
variable {g : Nat}

theorem ethArpRequest_answers (hon : s.ethOn g = true) (harp : s.bit (Reg.ETHg_CFG g) 4 = true) (ip : W32) (mac : BitVec 48) :
    Completes (.ethArpRequest g (s.reg (Reg.ETHg_IPV4 g)) ip mac) s (fun t => Counted s t (Reg.ETHg_TXFRM g) ∧
      t.out = s.out ++ [Out.arp g (s.reg (Reg.ETHg_IPV4 g))
        (BitVec.ofNat 48 (s.mac (Reg.ETHg_MAC_LO g) (Reg.ETHg_MAC_HI g))) ip mac]) :=
  ⟨_, exec_ethArpRequest hon harp ip mac, State.reg_setReg_same s _ _, rfl⟩

/-- The MAC's link up shows in STATUS, and the ports over it that are DOWN bond (R330). -/
theorem ethLinkUp_bonds (hon : s.ethOn g = true) : Completes (.ethLinkUp g) s (fun t => RegsOnly s t ∧
    t.bit (Reg.ETHg_STATUS g) 0 = true ∧ ∀ p ∈ s.ethPorts g, t.linkState p = if s.linkState p = 1 then 4 else s.linkState p) := by
  have hports : ∀ p ∈ s.ethPorts g, p < 24 := fun p => ethPorts_lt
  obtain ⟨hregs, hkept⟩ := each_bondDown_ethernet hports (ethUp s g)
  refine ⟨_, exec_ethLinkUp hon, hregs, ?_, fun p hp => ?_⟩
  · rw [State.bit, hkept _ (Reg.ethStatus_above g)]
    exact ethUp_link
  · rw [linkState_each_bondDown (hports p hp) hports, linkState_ethUp (hports p hp)]
    simp only [hp, true_and]

theorem quiet.ethDown {n : Nat} (h : quiet s n) (hn : n < 64) (g : Nat) : quiet (ethDown s g) n := by
  have hcfg : Reg.FC_SRCn_CFG n ≠ Reg.ETHg_STATUS g := by simp only [Reg.FC_SRCn_CFG, Reg.ETHg_STATUS]; omega
  have hfirst : Reg.FC_FIRST ≠ Reg.ETHg_STATUS g := by simp only [Reg.FC_FIRST, Reg.ETHg_STATUS]; omega
  exact (h.setReg hcfg hfirst _).setReg hcfg hfirst _

/-- An event of class C from a source that notifies no one counts, and nothing else (R544, R546). -/
theorem quiet.raise_corrected {n : Nat} (h : quiet s n) (hpresent : s.sourcePresent n = true) :
    Machine.raise s n 0 false = s.count (Reg.FC_SRCn_CNT n) 1 := by
  obtain ⟨-, -, -, hnotify⟩ := h
  have hne : Reg.FC_SRCn_CFG n ≠ Reg.FC_SRCn_CNT n := by simp only [Reg.FC_SRCn_CFG, Reg.FC_SRCn_CNT]; omega
  have hdark : (s.count (Reg.FC_SRCn_CNT n) 1).bit (Reg.FC_SRCn_CFG n) 12 = false := by
    rw [State.bit, State.count, State.reg_setReg_ne _ hne]
    exact hnotify 0 (by decide)
  unfold Machine.raise
  simp [hpresent, hdark]

/-- The MAC's link down shows in STATUS, and a group that carries ports is reported (R365). -/
theorem ethLinkDown_shows (hmode : s.ethMode g = true) (hports : ∀ p ∈ s.ethPorts g, s.linkState p < 2) (h : quiet s 16) :
    Completes (.ethLinkDown g) s (fun t => t.bit (Reg.ETHg_STATUS g) 0 = false ∧ t.bit (Reg.ETHg_STATUS g) 1 = false ∧
      ((s.ethPorts g ≠ [] ∧ 0 < s.variant.eth) → Counted s t (Reg.FC_SRCn_CNT 16))) := by
  obtain ⟨hlink, hdone⟩ := ethDown_status (s := s) (g := g)
  have hquiet : quiet (ethDown s g) 16 := h.ethDown (by decide) g
  by_cases hused : (s.ethClaimed g || !(s.ethPorts g).isEmpty) = true
  · obtain ⟨honly, -⟩ := hquiet.raise 0 false (by decide)
    have hstatus : (raise (ethDown s g) 16 0 false).reg (Reg.ETHg_STATUS g) = (ethDown s g).reg (Reg.ETHg_STATUS g) :=
      honly.2 _ (.inr ((show Reg.FC_SRCn_CNT 64 ≤ Reg.ETHg_CFG 0 by decide).trans (Reg.ethStatus_above g)))
    refine ⟨_, (exec_ethLinkDown_idle hmode hports).trans (congrArg _ (if_pos hused)), ?_, ?_, fun ⟨_, heth⟩ => ?_⟩
    · rw [State.bit, hstatus]; exact hlink
    · rw [State.bit, hstatus]; exact hdone
    · have hcnt : Reg.FC_SRCn_CNT 16 ≠ Reg.ETHg_STATUS g := by simp only [Reg.FC_SRCn_CNT, Reg.ETHg_STATUS]; omega
      rw [hquiet.raise_corrected (decide_eq_true heth), Counted, State.count, State.reg_setReg_same, ethDown,
        State.reg_setBit_ne _ hcnt, State.reg_setBit_ne _ hcnt]
  · refine ⟨_, (exec_ethLinkDown_idle hmode hports).trans (congrArg _ (if_neg hused)), hlink, hdone, fun ⟨hne, _⟩ => ?_⟩
    exact absurd (by simp [hne]) hused

end
end Frames

/-- Settles O50: each command by what it makes of its class, and each Ethernet event by the group's counter, STATUS and ports. Frames
as fields, the class whose cells a frame reports (log 62), what discards an Ethernet frame (log 48), and that a command on a link or
a group out of its state changes nothing (log 4) are the model's choices. -/
theorem framesAreNumberedCreditedAndResent : Obligations.FramesAreNumberedCreditedAndResent := by
  refine ⟨fun k c s _ hc hup => ?link, fun k s hk => ?corrupt, fun k c seq s hdown i hi => ?down, fun g f s _ => ?ethernet⟩
  case link =>
    exact ⟨fun q rest hnext hresend hqueue hlanes => frameSend_starts hup hnext hresend hqueue hlanes,
      fun hnext => ⟨s, exec_frameSend_none hup hnext, rfl⟩, rxCred_adds hup hc,
      fun seq => ⟨rxAck_drops hup seq, rxNak_marks hup⟩,
      ackSend_sends hup, fun h => ⟨s, exec_ackSend_none h, rfl⟩,
      creditReport_sends hup, fun h => ⟨s, exec_creditReport_none h, rfl⟩,
      fun x rest hreplay hrto => rtoExpiry_marks hup hreplay hrto, fun h => ⟨s, exec_rtoExpiry_none (.inl h), rfl⟩,
      rxCorruptFrame_naks hup⟩
  case corrupt => exact ⟨⟨_, exec_rxCorruptFrame_header hk, rfl⟩, _, exec_rxCorruptFrame_malformed hk, rfl⟩
  case down => exact ⟨s, exec_link_notUp hdown c seq i hi, rfl⟩
  case ethernet =>
    exact ⟨fun hoff => ⟨s, exec_ethFrameRx_off hoff f, rfl⟩,
      fun hon => ⟨⟨_, exec_ethFrameRx hon f, rfl⟩, fun ip mac => ⟨fun harp => ethArpRequest_answers hon harp ip mac,
        fun harp => ⟨s, exec_ethArpRequest_off harp ip mac, rfl⟩⟩⟩,
      ethLinkUp_bonds, ethLinkDown_shows⟩

end Sys2Proof.Claims
end

section
/-! PROOFS. What the ring layer goes by, which events, records, queued frames and a change of the tree leave alone: its own state,
its registers before the layer's counters, and the nodes its ports' peers have told (R371 to R381, R398 to R400). -/

namespace Sys2Proof.Machine

/-! ### The ring layer kept -/

/-- The ring layer beyond its registers is as it was, and so are its registers before the counters and each port's PEERNODE. -/
structure RingKept (s t : State) : Prop where
  ring : t.ring = s.ring
  reg : ∀ a, Reg.RNG_CTL ≤ a → a < Reg.RNG_TSTEP_CNT → t.reg a = s.reg a
  peer : ∀ p < 24, t.fld (Reg.RNG_PORTp_STAT p) 13 2 = s.fld (Reg.RNG_PORTp_STAT p) 13 2

/-- A register outside the ring block, or one of the ring layer's counters. -/
def BesideRing (a : Nat) : Prop :=
  a < Reg.RNG_CTL ∨ (Reg.RNG_TSTEP_CNT ≤ a ∧ a < Reg.RNG_PORTp_STAT 0) ∨ Reg.RNG_PORTp_STAT 24 ≤ a

section
variable {s t u : State}

theorem RingKept.refl (s : State) : RingKept s s := ⟨rfl, fun _ _ _ => rfl, fun _ _ => rfl⟩

theorem RingKept.trans (h : RingKept s t) (k : RingKept t u) : RingKept s u :=
  ⟨k.ring.trans h.ring, fun a ha hb => (k.reg a ha hb).trans (h.reg a ha hb), fun p hp => (k.peer p hp).trans (h.peer p hp)⟩

/-- A change of neither the ring layer nor the registers keeps it. -/
theorem RingKept.same (h : RingKept s t) (hring : u.ring = t.ring) (hregs : u.regs = t.regs) : RingKept s u := by
  have hreg : ∀ a, u.reg a = t.reg a := fun a => by rw [State.reg, hregs, State.reg]
  exact h.trans ⟨hring, fun a _ _ => hreg a, fun p _ => by rw [State.fld, hreg, State.fld]⟩

theorem RingKept.ite {c : Prop} [Decidable c] (h : RingKept s t) (k : RingKept s u) : RingKept s (if c then t else u) := by
  split <;> assumption

theorem RingKept.each {α : Type} {f : State → α → State} {l : List α} (h : RingKept s t)
    (hf : ∀ u, ∀ x ∈ l, RingKept s u → RingKept s (f u x)) : RingKept s (t.each l f) := by
  unfold State.each
  induction l generalizing t with
  | nil => exact h
  | cons x l ih => exact ih (hf t x (List.mem_cons_self ..) h) fun u y hy => hf u y (List.mem_cons_of_mem _ hy)

theorem RingKept.setReg {a : Nat} {v : W32} (h : RingKept s t) (ha : BesideRing a) : RingKept s (t.setReg a v) := by
  simp only [BesideRing, Reg.RNG_CTL, Reg.RNG_TSTEP_CNT, Reg.RNG_PORTp_STAT] at ha
  refine ⟨h.ring, fun b hb hb' => (State.reg_setReg_ne t ?_ v).trans (h.reg b hb hb'), fun p hp => ?_⟩
  · simp only [Reg.RNG_CTL, Reg.RNG_TSTEP_CNT] at hb hb'
    omega
  · rw [State.fld, State.reg_setReg_ne t (by simp only [Reg.RNG_PORTp_STAT]; omega)]
    exact h.peer p hp

theorem RingKept.setFld {a hi lo v : Nat} (h : RingKept s t) (ha : BesideRing a) : RingKept s (t.setFld a hi lo v) := h.setReg ha
theorem RingKept.setBit {a i : Nat} {b : Bool} (h : RingKept s t) (ha : BesideRing a) : RingKept s (t.setBit a i b) := h.setReg ha
theorem RingKept.count {a n : Nat} (h : RingKept s t) (ha : BesideRing a) : RingKept s (t.count a n) := h.setReg ha
theorem RingKept.setReg64 {a : Nat} {v : W64} (h : RingKept s t) (ha : BesideRing a) (ha' : BesideRing (a + 4)) :
    RingKept s (t.setReg64 a v) := (h.setReg ha).setReg ha'
theorem RingKept.setPlant {x} (h : RingKept s t) : RingKept s { t with plant := x } := h.same rfl rfl
theorem RingKept.setMoDuty {x} (h : RingKept s t) : RingKept s { t with moDuty := x } := h.same rfl rfl
theorem RingKept.modSeat {i f} (h : RingKept s t) : RingKept s (t.modSeat i f) := h.same rfl rfl
theorem RingKept.setDom {d x} (h : RingKept s t) : RingKept s (t.setDom d x) := h.same rfl rfl
theorem RingKept.setSource {n x} (h : RingKept s t) : RingKept s (t.setSource n x) := h.same rfl rfl
theorem RingKept.setWeb {n w} (h : RingKept s t) : RingKept s (t.setWeb n w) := h.same rfl rfl
theorem RingKept.modCls {k c f} (h : RingKept s t) : RingKept s (t.modCls k c f) := h.same rfl rfl
theorem RingKept.memWrite {a : Nat} {bs : List Byte} (h : RingKept s t) (e : t.memWrite a bs = some u) : RingKept s u := by
  have hu := memWrite_storesOnly e
  exact h.same (by rw [hu]) (by rw [hu])

theorem BesideRing.lo {a : Nat} (h : a < Reg.RNG_CTL) : BesideRing a := .inl h
theorem BesideRing.hi {a : Nat} (h : Reg.RNG_PORTp_STAT 24 ≤ a) : BesideRing a := .inr (.inr h)
theorem BesideRing.counter {a : Nat} (h : Reg.RNG_TSTEP_CNT ≤ a) (h' : a < Reg.RNG_PORTp_STAT 0) : BesideRing a := .inr (.inl ⟨h, h'⟩)

end

/-! ### Frames and records (R146, R341, R356, R400) -/

section
variable {s t : State}

theorem besideRing_port {p : Nat} (hp : p < 24) : BesideRing (Reg.UMK_PORTp_EVTDROP p) ∧ BesideRing (Reg.UMK_PORTp_BADFRM p) := by
  simp only [BesideRing, Reg.UMK_PORTp_EVTDROP, Reg.UMK_PORTp_BADFRM, Reg.RNG_CTL]
  omega

theorem besideRing_queue (d : Nat) : BesideRing (Reg.SYS_Dd_NQ_CTL d) ∧ BesideRing (Reg.SYS_Dd_NQ_TAIL d) ∧
    BesideRing (Reg.SYS_Dd_NQ_STATUS d) ∧ BesideRing (Reg.SYS_Dd_NQ_LOST d) := by
  simp only [BesideRing, Reg.SYS_Dd_NQ_CTL, Reg.SYS_Dd_NQ_TAIL, Reg.SYS_Dd_NQ_STATUS, Reg.SYS_Dd_NQ_LOST, Reg.RNG_CTL,
    Reg.RNG_TSTEP_CNT, Reg.RNG_PORTp_STAT]
  omega

theorem RingKept.enqueue {k f fwd} (h : RingKept s t) : RingKept s (enqueue t k f fwd) := by
  unfold Machine.enqueue
  split_ifs with _ hk
  · exact h.count (besideRing_port hk).2
  · exact h
  · exact h.modCls

theorem RingKept.evtFrame {d rtype seq} (h : RingKept s t) : RingKept s (evtFrame t d rtype seq) := by
  unfold Machine.evtFrame
  split
  · exact h
  next p hp => exact h.enqueue.ite (h.count (besideRing_port (List.mem_range.mp (List.mem_of_find?_eq_some hp))).1)

theorem RingKept.notify {d rtype body} (h : RingKept s t) : RingKept s (notify t d rtype body) := by
  obtain ⟨hctl, htail, hstatus, hlost⟩ := besideRing_queue d
  unfold Machine.notify
  refine .ite (h.setDom.count hlost) (.ite ((h.setDom.setBit hstatus).count hlost) (.ite ?_ ((h.setDom.setBit hstatus).setBit hctl)))
  split
  next e => exact ((h.setDom.memWrite e).setReg htail).evtFrame
  next => exact (h.setDom.setBit hstatus).setBit hctl

theorem RingKept.ringRecord {d event cause node epoch time} (h : RingKept s t) :
    RingKept s (ringRecord t d event cause node epoch time) := h.notify

theorem RingKept.ringEvent {event cause node time} (h : RingKept s t) : RingKept s (ringEvent t event cause node time) := by
  unfold Machine.ringEvent
  split
  · exact h.ringRecord
  · exact h

/-! ### An event of a fault source (R544 to R558, R605) -/

theorem RingKept.snapEntry {isl dst src} (h : RingKept s t) (hd : BesideRing dst) : RingKept s (snapEntry t isl dst src) := h.setReg hd

theorem RingKept.snapLatch (h : RingKept s t) : RingKept s (snapLatch t) := by
  have hlo : ∀ {a : Nat}, a ≤ Reg.SNP_LELVL_HI → BesideRing a := fun ha => .lo (Nat.lt_of_le_of_lt ha (by decide))
  have hweb : ∀ w ∈ List.range 4, Reg.SNP_WPOSw_LO w ≤ Reg.SNP_LELVL_HI ∧ Reg.SNP_WPOSw_HI w ≤ Reg.SNP_LELVL_HI := by decide
  have hline : ∀ e ∈ List.range 5, Reg.SNP_ELINEe e ≤ Reg.SNP_LELVL_HI := by decide
  have hport : ∀ p ∈ List.range 8, Reg.SNP_SPFRAMEp p ≤ Reg.SNP_LELVL_HI := by decide
  exact .setReg (.setReg (.each (.each (.setReg (.setReg (.setReg (.setReg (.each ((h.setReg (hlo (by decide))).snapEntry
    (hlo (by decide))) fun _ w hw h => (h.snapEntry (hlo (hweb w hw).1)).snapEntry (hlo (hweb w hw).2)) (hlo (by decide)))
    (hlo (by decide))) (hlo (by decide))) (hlo (by decide))) fun _ e he h => h.snapEntry (hlo (hline e he)))
    fun _ p hp h => h.snapEntry (hlo (hport p hp))) (hlo (by decide))) (hlo (by decide))

theorem RingKept.snapTrigger {src x} (h : RingKept s t) : RingKept s (snapTrigger t src x) :=
  h.ite ((h.count (.lo (by decide))).ite
    ((h.setReg (.lo (by decide))).setReg64 (.lo (by decide)) (.lo (by decide))).snapLatch)

theorem RingKept.latchFirst {n cls} (h : RingKept s t) : RingKept s (latchFirst t n cls) :=
  (h.setBit (.lo (by decide))).ite ((((h.setReg (.lo (by decide))).setReg64 (.lo (by decide)) (.lo (by decide))).setReg
    (.lo (by decide))).setReg (.lo (by decide))).snapTrigger

theorem besideRing_engine (n : Nat) : BesideRing (Reg.LEn_STATUS n) := by
  simp only [BesideRing, Reg.LEn_STATUS, Reg.RNG_PORTp_STAT]
  omega

theorem RingKept.safeOutputs (h : RingKept s t) : RingKept s (safeOutputs t) := by
  unfold Machine.safeOutputs
  dsimp only
  have hout : BesideRing Reg.PLT_SO_STATE := .hi (by decide)
  exact .each (.each (.each (.setBit (h.setFld (.lo (by decide))) (.lo (by decide))) fun _ _ _ h => h.setBit hout)
    fun _ _ _ h => h.setMoDuty) fun _ n _ h =>
      .ite (.setPlant (.setBit (h.setFld (besideRing_engine n)) (besideRing_engine n))) h

theorem RingKept.faultNotifySeat {n} (h : RingKept s t) : RingKept s (faultNotifySeat t n) := h.modSeat.ite h

theorem RingKept.faultRecord {src cls event cause} (h : RingKept s t) : RingKept s (faultRecord t src cls event cause) :=
  (h.each fun _ _ _ h => h.notify.ite h).faultNotifySeat

theorem RingKept.safeOrder {c src} (h : RingKept s t) : RingKept s (safeOrder t c src) :=
  h.safeOutputs.ite (h.setReg (.lo (by decide))).safeOutputs.faultRecord

theorem RingKept.endF {n} (h : RingKept s t) : RingKept s (endF t n) := h.setSource.safeOrder
theorem RingKept.startF {n escalated} (h : RingKept s t) : RingKept s (startF t n escalated) := h.setSource.endF.ite h.setSource
theorem RingKept.escalate {n} (h : RingKept s t) : RingKept s (escalate t n) :=
  h.ite (((h.setBit (.lo (by decide))).ite h).faultRecord.startF)

/-- The collector's word of STATUS or LIVE that shows source `n`, and its counter, lie before the ring block. -/
theorem besideRing_source {n : Nat} (hn : n < 64) : BesideRing (srcBit Reg.FC_STATUS_LO n).1 ∧ BesideRing (srcBit Reg.FC_LIVE_LO n).1 ∧
    BesideRing (Reg.FC_SRCn_CNT n) := by
  simp only [BesideRing, srcBit, Reg.FC_STATUS_LO, Reg.FC_LIVE_LO, Reg.FC_SRCn_CNT, Reg.RNG_CTL]
  omega

theorem RingKept.liveOn {n cls} (h : RingKept s t) (hn : n < 64) : RingKept s (liveOn t n cls) := by
  have hlit : ∀ x : FcSource, RingKept s ((t.setLive n true).setSource n x) := fun _ => (h.setBit (besideRing_source hn).2.1).setSource
  unfold Machine.liveOn
  refine .ite (hlit _) ?_
  split
  · exact (hlit _).endF
  · exact hlit _
  · exact (hlit _).startF.ite ((hlit _).setSource.escalate.ite (hlit _).setSource)
  · exact (hlit _).startF.ite (hlit _)

theorem RingKept.raise {n cls live} (h : RingKept s t) (hn : n < 64) : RingKept s (raise t n cls live) := by
  obtain ⟨hstatus, -, hcnt⟩ := besideRing_source hn
  have hlatched : ∀ c, RingKept s (if c = 0 then t.count (Reg.FC_SRCn_CNT n) 1 else Machine.latchFirst
      ((t.count (Reg.FC_SRCn_CNT n) 1).setBit (srcBit Reg.FC_STATUS_LO n).1 (srcBit Reg.FC_STATUS_LO n).2 true) n c) :=
    fun c => (h.count hcnt).ite ((h.count hcnt).setBit hstatus).latchFirst
  exact h.ite (RingKept.ite (((hlatched _).faultRecord.ite (hlatched _)).liveOn hn) ((hlatched _).faultRecord.ite (hlatched _)))

/-! ### Webs that are lost (R193, R392) -/

theorem besideRing_web {n : Nat} (hn : n < 4) : BesideRing (Reg.POSn_STATE n) ∧ BesideRing (Reg.POSn_LOSTEDGE n) ∧
    (BesideRing (Reg.POSn_TRUST_LO n) ∧ BesideRing (Reg.POSn_TRUST_LO n + 4)) ∧
    BesideRing (Reg.POSn_POS_LO n) ∧ BesideRing (Reg.POSn_POS_LO n + 4) := by
  simp only [BesideRing, Reg.POSn_STATE, Reg.POSn_LOSTEDGE, Reg.POSn_TRUST_LO, Reg.POSn_POS_LO, Reg.RNG_CTL]
  omega

theorem RingKept.enterLost {n cause} (h : RingKept s t) (hn : n < 4) : RingKept s (enterLost t n cause) := by
  obtain ⟨hstate, hedge, ⟨htrust, htrust'⟩, hpos, hpos'⟩ := besideRing_web hn
  have hstatus : BesideRing Reg.POS_STATUS := .lo (by decide)
  rw [enterLost_eq, lostWeb]
  refine .raise (.setBit (.setBit (.setFld (.setReg64 ?_ hpos hpos') hstate) hstate) hstatus) (by decide)
  exact .setReg64 (.setFld (.setFld (.setFld (.setReg h.setWeb hedge) hstate) hstatus) hstate) htrust htrust'

theorem RingKept.ringWebsLost (h : RingKept s t) : RingKept s (ringWebsLost t) :=
  h.each fun _ _ hn h => (h.enterLost (List.mem_range.mp hn)).ite h

end
end Sys2Proof.Machine
end

section
/-! PROOFS. The ring layer's own operations: a change of the tree, admission, the frames it queues, and the elections it enters
(R371 to R381, R392). -/

namespace Sys2Proof.Machine

section
variable {s t : State}

theorem RingKept.fld (h : RingKept s t) {a hi lo : Nat} (ha : Reg.RNG_CTL ≤ a) (ha' : a < Reg.RNG_TSTEP_CNT) :
    t.fld a hi lo = s.fld a hi lo := by rw [State.fld, h.reg a ha ha', State.fld]

theorem RingKept.bit (h : RingKept s t) {a i : Nat} (ha : Reg.RNG_CTL ≤ a) (ha' : a < Reg.RNG_TSTEP_CNT) :
    t.bit a i = s.bit a i := by rw [State.bit, h.reg a ha ha', State.bit]

theorem RingKept.ringSt (h : RingKept s t) : t.ringSt = s.ringSt := h.fld (by decide) (by decide)
theorem RingKept.node (h : RingKept s t) : t.node = s.node := h.fld (by decide) (by decide)
theorem RingKept.admitted (h : RingKept s t) : t.admitted = s.admitted := h.bit (by decide) (by decide)
theorem RingKept.status (h : RingKept s t) {i : Nat} : t.bit Reg.RNG_STATUS i = s.bit Reg.RNG_STATUS i := h.bit (by decide) (by decide)

theorem RingKept.modRing {f : Ring → Ring} (h : RingKept s t) : RingKept (s.modRing f) (t.modRing f) :=
  ⟨congrArg f h.ring, h.reg, h.peer⟩

end

section
variable (s : State) (f : Ring → Ring)

@[simp] theorem reg_modRing (a : Nat) : (s.modRing f).reg a = s.reg a := rfl
@[simp] theorem fld_modRing (a hi lo : Nat) : (s.modRing f).fld a hi lo = s.fld a hi lo := rfl
@[simp] theorem bit_modRing (a i : Nat) : (s.modRing f).bit a i = s.bit a i := rfl
@[simp] theorem ringSt_modRing : (s.modRing f).ringSt = s.ringSt := rfl
@[simp] theorem modRing_ring : (s.modRing f).ring = f s.ring := rfl
@[simp] theorem modRing_mem : (s.modRing f).mem = s.mem := rfl

end

/-! ### A change of the tree (R378, R381) -/

/-- A field stays when one apart from it is replaced. -/
theorem fld_setFld_outside (s : State) (a : Nat) {hi lo h l : Nat} (v : Nat) (hn : h < 32) (hl : l ≤ h) (ho : hi < l ∨ h < lo) :
    (s.setFld a h l v).fld a hi lo = s.fld a hi lo := by
  rw [State.fld, State.setFld, State.reg_setReg_same, fbits_fset_outside _ v hn hl ho, State.fld]

/-- TREE and ROOT of a port lie apart from PEERNODE. -/
theorem RingKept.setTree {s t : State} (h : RingKept s t) (p : Nat) {i : Nat} (hi : i < 2) (b : Bool) :
    RingKept s (t.setBit (Reg.RNG_PORTp_STAT p) i b) := by
  refine ⟨h.ring, fun a ha' ha => (State.reg_setBit_ne t ?_ i b).trans (h.reg a ha' ha), fun q hq => ?_⟩
  · simp only [Reg.RNG_TSTEP_CNT, Reg.RNG_PORTp_STAT] at ha ⊢
    omega
  · by_cases hp : q = p
    · rw [hp, fld_setBit_outside _ _ _ (by omega) (by omega), ← hp, h.peer q hq]
    · rw [State.fld, State.reg_setBit_ne _ (by simp only [Reg.RNG_PORTp_STAT]; omega)]
      exact h.peer q hq

theorem treeChanged_kept (s : State) : RingKept (s.modRing fun r => { r with routes := [] }) (treeChanged s) := by
  have hdrop : BesideRing Reg.RNG_RDROP := .counter (by decide) (by decide)
  unfold treeChanged
  refine .ringEvent (.raise (.each (.modRing (f := fun r => { r with routes := [] }) (.each (.refl s) fun _ _ _ h => ?_))
    fun _ p _ h => ?_) (by decide))
  · exact h.each fun _ _ _ h => (h.count hdrop).modCls
  · exact (h.setTree p (by decide) _).setTree p (by decide) _

/-- What a change brings about, with the change of the tree it may be. -/
theorem withTree_induct {P : State → Prop} {s : State} {f : State → State} (h : P (f s)) (htree : P (treeChanged (f s))) :
    P (withTree s f) := by
  unfold withTree
  extract_lets u
  split <;> assumption

/-! ### Admission (R392) -/

/-- CAUSE and ADMIT as the causes of `s` have them. -/
def State.admissionShown (s : State) : State :=
  (s.setFld Reg.RNG_STATUS 6 4 s.ringCause).setBit Reg.RNG_STATUS 2 (s.ringCause == 0 && s.ringSt != 0)

theorem ringCheck_shown (s : State) : RingKept s.admissionShown (ringCheck s) :=
  .ite (.ringWebsLost (.ite (.refl _) (.ringEvent (.raise (.refl _) (by decide))))) (.ite (.ringEvent (.refl _)) (.refl _))

section
variable (s : State)

@[simp] theorem ringCheck_ring : (ringCheck s).ring = s.ring := (ringCheck_shown s).ring

theorem reg_ringCheck {a : Nat} (ha : Reg.RNG_CTL ≤ a) (ha' : a < Reg.RNG_TSTEP_CNT) (hne : a ≠ Reg.RNG_STATUS) :
    (ringCheck s).reg a = s.reg a :=
  ((ringCheck_shown s).reg a ha ha').trans ((State.reg_setBit_ne _ hne _ _).trans (State.reg_setFld_ne _ hne _ _ _))

@[simp] theorem ringSt_ringCheck : (ringCheck s).ringSt = s.ringSt :=
  (ringCheck_shown s).ringSt.trans ((fld_setBit_outside _ _ _ (by decide) (by decide)).trans
    (fld_setFld_outside _ _ _ (by decide) (by decide) (by decide)))

@[simp] theorem node_ringCheck : (ringCheck s).node = s.node :=
  (ringCheck_shown s).node.trans ((fld_setBit_outside _ _ _ (by decide) (by decide)).trans
    (fld_setFld_outside _ _ _ (by decide) (by decide) (by decide)))

@[simp] theorem hold_ringCheck : (ringCheck s).bit Reg.RNG_STATUS 3 = s.bit Reg.RNG_STATUS 3 :=
  (ringCheck_shown s).status.trans ((State.bit_setBit_ne _ _ _ (by decide) (by decide)).trans
    (bit_setFld_outside _ _ _ (by decide) (by decide) (by decide)))

/-- A device is admitted while no cause excludes it and it is not OFF. -/
theorem admitted_ringCheck : (ringCheck s).admitted = (s.ringCause == 0 && s.ringSt != 0) :=
  (ringCheck_shown s).admitted.trans (State.bit_setBit_same _ _ _ _ (by decide))

/-- A cause that holds excludes. -/
theorem ringCheck_excludes (h : s.ringCause ≠ 0) : (ringCheck s).admitted = false := by
  rw [admitted_ringCheck, beq_eq_false_iff_ne.mpr h, Bool.false_and]

variable {s}

theorem ringCause_joining (hst : s.ringSt = 1) (hjoin : s.ring.joinSync < 16) : s.ringCause ≠ 0 := by
  rw [State.ringCause, if_neg (by omega), if_pos (by simp [hst, hjoin])]
  decide

theorem ringCause_holdover (hst : s.ringSt ≠ 0) (hover : s.ring.holdover = true) : s.ringCause ≠ 0 := by
  unfold State.ringCause
  extract_lets r follows
  rw [if_neg hst, if_pos (show r.holdover = true from hover)]
  split_ifs <;> decide

end

/-! ### Frames of the device's own (R371, R372, R380) -/

section
variable {s t : State}

theorem RingKept.sendLocal {p sub body} (h : RingKept s t) : RingKept s (sendLocal t p sub body) := h.enqueue

theorem sendBroadcast_kept (s : State) (ports : List Nat) (sub : Nat) (body : List Byte) :
    RingKept (s.modRing fun r => { r with bseq := nextSeq s.ring.bseq }) (sendBroadcast s ports sub body) := (RingKept.refl _).each fun _ _ _ h => h.enqueue

theorem sendAnnounce_kept (s : State) : RingKept (s.modRing fun r => { r with bseq := nextSeq s.ring.bseq }) (sendAnnounce s) :=
  sendBroadcast_kept s _ _ _

theorem RingKept.sendUnicast {dnode sub body} (h : RingKept s t) : RingKept s (sendUnicast t dnode sub body).2 := by
  unfold Machine.sendUnicast
  split
  · exact h.count (.counter (by decide) (by decide))
  · exact h.enqueue

theorem RingKept.sendEpoch {epoch total off bs} {send : State → List Byte → State} (h : RingKept s t)
    (hsend : ∀ u b, RingKept s u → RingKept s (send u b)) : RingKept s (sendEpoch t epoch total off bs send) :=
  h.each fun _ _ _ h => hsend _ _ h

/-- Queueing a frame leaves memory. -/
theorem enqueue_mem (s : State) (k : Nat) (f : Frame) (fwd : Bool) : (enqueue s k f fwd).mem = s.mem := by
  unfold enqueue
  split_ifs <;> rfl

theorem each_mem {α : Type} {f : State → α → State} (hf : ∀ u x, (f u x).mem = u.mem) (l : List α) (s : State) :
    (s.each l f).mem = s.mem :=
  each_keeps (R := fun s t => t.mem = s.mem) (fun _ => rfl) (fun _ _ _ h k => k.trans h) hf l s

theorem sendBroadcast_mem (s : State) (ports : List Nat) (sub : Nat) (body : List Byte) :
    (sendBroadcast s ports sub body).mem = s.mem := by
  unfold sendBroadcast
  exact each_mem (fun _ _ => enqueue_mem _ _ _ _) ports (nextBseq s).2

theorem sendUnicast_mem (s : State) (dnode sub : Nat) (body : List Byte) : (sendUnicast s dnode sub body).2.mem = s.mem := by
  unfold sendUnicast
  split
  · rfl
  · exact enqueue_mem _ _ _ _

end

/-! ### Entering ELECT (R374, R376, R389) -/

section
variable (s : State)

theorem reg_startHold (a : Nat) : (startHold s).reg a = (s.setBit Reg.RNG_STATUS 3 true).reg a := rfl

@[simp] theorem ringSt_startHold : (startHold s).ringSt = s.ringSt := by
  rw [State.ringSt, State.fld, reg_startHold]
  exact fld_setBit_outside s _ _ (by decide) (by decide)

@[simp] theorem hold_startHold : (startHold s).bit Reg.RNG_STATUS 3 = true := by
  rw [State.bit, reg_startHold]
  exact State.bit_setBit_same s _ _ _ (by decide)

/-- STATE is the field of STATUS it is set in. -/
theorem ringSt_setFld {n : Nat} (hn : n < 4) : (s.setFld Reg.RNG_STATUS 1 0 n).ringSt = n :=
  (State.fld_setFld_same s _ _ _ _ (by decide) (by decide)).trans (Nat.mod_eq_of_lt hn)

/-- The device in ELECT and HOLD with its own candidacy the best, before its ANNOUNCE. -/
def State.electing : State :=
  let held := startHold (s.setFld Reg.RNG_STATUS 1 0 1)
  held.modRing fun r => { r with best := held.ownCand }

theorem enterElect_eq : enterElect s = ringCheck (sendAnnounce s.electing) := rfl

theorem ringSt_electing : s.electing.ringSt = 1 := by
  rw [State.electing, ringSt_modRing, ringSt_startHold, ringSt_setFld s (by decide)]

theorem enterElect_elects : (enterElect s).ringSt = 1 ∧ (enterElect s).bit Reg.RNG_STATUS 3 = true ∧
    (enterElect s).reg Reg.RNG_CTL = s.reg Reg.RNG_CTL := by
  have hkept := sendAnnounce_kept s.electing
  have hctl : s.electing.reg Reg.RNG_CTL = s.reg Reg.RNG_CTL := by
    rw [State.electing, reg_modRing, reg_startHold, State.reg_setBit_ne _ (by decide), State.reg_setFld_ne _ (by decide)]
  rw [enterElect_eq]
  refine ⟨?_, ?_, ?_⟩
  · rw [ringSt_ringCheck, hkept.ringSt, ringSt_modRing, ringSt_electing]
  · rw [hold_ringCheck, hkept.status, bit_modRing, State.electing, bit_modRing, hold_startHold]
  · rw [reg_ringCheck _ (by decide) (by decide) (by decide), hkept.reg _ (by decide) (by decide), reg_modRing, hctl]

/-- A device that has not counted 16 TSYNC frames since joining is excluded in ELECT. -/
theorem enterElect_excludes {s : State} (h : s.ring.joinSync < 16) : (enterElect s).admitted = false := by
  have hkept := sendAnnounce_kept s.electing
  have hst : (sendAnnounce s.electing).ringSt = 1 := by rw [hkept.ringSt, ringSt_modRing, ringSt_electing]
  have hjoin : (sendAnnounce s.electing).ring.joinSync < 16 := by rw [hkept.ring]; exact h
  exact ringCheck_excludes _ (ringCause_joining hst hjoin)

end

end Sys2Proof.Machine
end

section
/-! PROOFS. The ring layer joined and led: the frames its ticks queue, the elections and expiries (R371 to R380, R389). -/

namespace Sys2Proof.Machine

/-! ### The registers its commands set (R374, R384) -/

/-- Only registers and the ring layer differ. -/
def RegsRingOnly (s t : State) : Prop := t = { s with regs := t.regs, ring := t.ring }

section
variable {s t : State}

theorem RegsRingOnly.refl (s : State) : RegsRingOnly s s := rfl

theorem RegsRingOnly.setReg (h : RegsRingOnly s t) (a : Nat) (v : W32) : RegsRingOnly s (t.setReg a v) := by
  unfold RegsRingOnly State.setReg
  rw [h]

theorem RegsRingOnly.modRing (h : RegsRingOnly s t) (f : Ring → Ring) : RegsRingOnly s (t.modRing f) := by
  unfold RegsRingOnly State.modRing
  rw [h]

theorem RegsRingOnly.dropPending (h : RegsRingOnly s t) : RegsRingOnly s (dropPending t) := by
  unfold Machine.dropPending
  exact ((h.setReg _ _).setReg _ _).modRing _

theorem RegsRingOnly.admissionShown (h : RegsRingOnly s t) : RegsRingOnly s t.admissionShown := (h.setReg _ _).setReg _ _

end

section
variable (s : State)

theorem reg_setNode (n : Nat) {a : Nat} (h : a ≠ Reg.RNG_STATUS) : (setNode s n).reg a = s.reg a := by
  unfold setNode
  split_ifs
  · rfl
  · exact State.reg_setFld_ne s h _ _ _

@[simp] theorem ringSt_setNode (n : Nat) : (setNode s n).ringSt = s.ringSt := by
  unfold setNode
  split_ifs
  · rfl
  · exact fld_setFld_outside s _ _ (by decide) (by decide) (by decide)

theorem node_setNode (n : Nat) : (setNode s (n % 4096)).node = n % 4096 := by
  unfold setNode
  split_ifs with h
  · exact h
  · exact (State.fld_setFld_same s _ _ _ _ (by decide) (by decide)).trans (Nat.mod_mod _ _)

/-- With the admission its causes give already in force, CAUSE alone follows. -/
theorem ringCheck_unmoved (h : s.admissionShown.admitted = s.admitted) : ringCheck s = s.admissionShown := by
  unfold ringCheck
  extract_lets c was u
  rw [show u.admitted = was from h, if_neg (by cases was <;> decide), if_neg (by cases was <;> decide)]
  rfl

theorem ringSt_setReg {a : Nat} (h : a ≠ Reg.RNG_STATUS) (v : W32) : (s.setReg a v).ringSt = s.ringSt := by
  rw [State.ringSt, State.fld, State.reg_setReg_ne s (Ne.symm h), State.ringSt, State.fld]

theorem reg_dropPending {a : Nat} (h : a ≠ Reg.RNG_EPOCH_PEND) (h' : a ≠ Reg.RNG_EPOCH_STATUS) : (dropPending s).reg a = s.reg a := by
  rw [dropPending, reg_modRing, State.reg_setBit_ne _ h', State.reg_setReg_ne _ h]

@[simp] theorem reg_dropPending_pend : (dropPending s).reg Reg.RNG_EPOCH_PEND = 0 := by
  rw [dropPending, reg_modRing, State.reg_setBit_ne _ (by decide), State.reg_setReg_same]

theorem ringSt_dropPending : (dropPending s).ringSt = s.ringSt := by
  rw [State.ringSt, State.fld, reg_dropPending s (by decide) (by decide), State.ringSt, State.fld]

theorem ringSt_abandonPending : (abandonPending s).ringSt = s.ringSt := by
  have hraised : ∀ t : State, (raise t 15 0 false).ringSt = t.ringSt := fun t => ((RingKept.refl t).raise (by decide)).ringSt
  unfold abandonPending
  split_ifs
  · rfl
  · rw [hraised, State.setFld, ringSt_setReg _ (by decide), ringSt_dropPending]

variable {s} in
theorem RingKept.domWrite {t u : State} {d a : Nat} {k : BitVec 14} {bs : List Byte} (h : RingKept s t)
    (e : t.domWrite d a k bs = some u) : RingKept s u := by
  unfold State.domWrite at e
  split_ifs at e
  exact h.memWrite e

theorem mtabWrite_none (h : s.roleDomain 1 = none) (n off : Nat) (bs : List Byte) : mtabWrite s n off bs = s := by
  rw [mtabWrite, h]

theorem mtabWrite_some {d : Nat} (h : s.roleDomain 1 = some d) (n off : Nat) (bs : List Byte) : mtabWrite s n off bs =
    if (s.ptr Reg.RNG_MTAB_LO).1 = 0 then s else
      (s.domWrite d ((s.ptr Reg.RNG_MTAB_LO).1 + 32 * n + off) (s.ptr Reg.RNG_MTAB_LO).2 bs).getD s := by
  rw [mtabWrite, h]

variable {s} in
theorem RingKept.mtabWrite {t : State} {n off bs} (h : RingKept s t) : RingKept s (mtabWrite t n off bs) := by
  cases hd : t.roleDomain 1 with
  | none =>
    rw [mtabWrite_none t hd]
    exact h
  | some d =>
    rw [mtabWrite_some t hd]
    refine .ite h ?_
    cases e : t.domWrite d _ _ bs with
    | none => exact h
    | some u => exact h.domWrite e

theorem sendTsync_kept : RingKept (s.modRing fun r => { r with syncSeq := s.ring.syncSeq + 1 }) (sendTsync s) :=
  (RingKept.refl _).each fun _ _ _ h => h.enqueue

/-- The device in OFF and out of HOLD, with no pending epoch, before its admission follows. -/
def State.leavingRing : State :=
  (dropPending (((s.setBit Reg.RNG_CTL 0 false).setFld Reg.RNG_STATUS 1 0 0).setBit Reg.RNG_STATUS 3 false)).modRing
    fun r => { r with holdover := false, snaps := [], rmarks := [] }

variable {s} in
theorem ringDisable_on (h : s.bit Reg.RNG_CTL 0 = true) : ringDisable s = ringCheck s.leavingRing :=
  if_neg (by rw [h]; decide)

theorem reg_leavingRing {a : Nat} (h : a ≠ Reg.RNG_EPOCH_PEND) (h' : a ≠ Reg.RNG_EPOCH_STATUS) : s.leavingRing.reg a =
    (((s.setBit Reg.RNG_CTL 0 false).setFld Reg.RNG_STATUS 1 0 0).setBit Reg.RNG_STATUS 3 false).reg a := by
  rw [State.leavingRing, reg_modRing, reg_dropPending _ h h']

theorem leavingRing_only : RegsRingOnly s s.leavingRing :=
  ((((RegsRingOnly.refl s).setReg _ _).setReg _ _).setReg _ _).dropPending.modRing _

theorem leavingRing_leaves : s.leavingRing.ringSt = 0 ∧ s.leavingRing.bit Reg.RNG_STATUS 3 = false ∧
    s.leavingRing.bit Reg.RNG_CTL 0 = false ∧ s.leavingRing.reg Reg.RNG_EPOCH_PEND = 0 ∧
    s.leavingRing.reg Reg.RNG_EPOCH = s.reg Reg.RNG_EPOCH ∧ s.leavingRing.admitted = s.admitted := by
  refine ⟨?_, ?_, ?_, ?_, ?_, ?_⟩
  · rw [State.ringSt, State.fld, reg_leavingRing s (by decide) (by decide)]
    exact (fld_setBit_outside _ _ _ (by decide) (by decide)).trans (ringSt_setFld _ (by decide))
  · rw [State.bit, reg_leavingRing s (by decide) (by decide)]
    exact State.bit_setBit_same _ _ _ _ (by decide)
  · rw [State.bit, reg_leavingRing s (by decide) (by decide), State.reg_setBit_ne _ (by decide), State.reg_setFld_ne _ (by decide)]
    exact State.bit_setBit_same _ _ _ _ (by decide)
  · rw [State.leavingRing, reg_modRing, reg_dropPending_pend]
  · rw [reg_leavingRing s (by decide) (by decide), State.reg_setBit_ne _ (by decide), State.reg_setFld_ne _ (by decide),
      State.reg_setBit_ne _ (by decide)]
  · rw [State.admitted, State.bit, reg_leavingRing s (by decide) (by decide)]
    exact (State.bit_setBit_ne _ _ _ (by decide) (by decide)).trans ((bit_setFld_outside _ _ _ (by decide) (by decide)
      (by decide)).trans (State.bit_setBit_reg _ (by decide) _ _ _))

/-- The tree may change with a register other than STATUS; the ring layer's state stays. -/
theorem ringSt_withTree {f : State → State} (h : (f s).ringSt = s.ringSt) : (withTree s f).ringSt = s.ringSt :=
  withTree_induct (P := fun u => u.ringSt = s.ringSt) h ((treeChanged_kept (f s)).ringSt.trans h)

/-- The new keeper is in KEEPER, and HOLD has ended. -/
theorem becomeKeeper_keeper : (becomeKeeper s).ringSt = 3 ∧ (becomeKeeper s).bit Reg.RNG_STATUS 3 = false := by
  unfold becomeKeeper
  extract_lets pend keeper told low ringed named treed unheld fresh emptied reported
  have hkeeper : keeper.ringSt = 3 := ringSt_setFld _ (by decide)
  have htold : told.ringSt = 3 := by
    have hkept : RingKept keeper told := .ite (.ringEvent (.refl _)) (.refl _)
    rw [hkept.ringSt, hkeeper]
  have hringed : ringed.ringSt = 3 := by
    unfold ringed
    split_ifs
    · rw [ringSt_setReg _ (by decide), ringSt_setReg _ (by decide), htold]
    · rw [ringSt_setReg _ (by decide), ringSt_setReg _ (by decide), htold]
    · exact htold
  have hnamed : named.ringSt = 3 := by
    unfold named
    split_ifs
    · rw [ringSt_setNode, hringed]
    · exact hringed
  have htreed : treed.ringSt = 3 := (ringSt_withTree _ (ringSt_setReg _ (by decide) _)).trans hnamed
  have hunheld : unheld.ringSt = 3 := (fld_setBit_outside _ _ _ (by decide) (by decide)).trans htreed
  have hhold : unheld.bit Reg.RNG_STATUS 3 = false := State.bit_setBit_same _ _ _ _ (by decide)
  have hkept : RingKept fresh reported :=
    .ringEvent (.raise (.each (.refl _) fun _ _ _ h => h.mtabWrite) (by decide))
  refine ⟨?_, ?_⟩
  · rw [ringSt_ringCheck, (sendTsync_kept _).ringSt, ringSt_modRing, hkept.ringSt, ringSt_modRing, hunheld]
  · rw [hold_ringCheck, (sendTsync_kept _).status, bit_modRing, hkept.status, bit_modRing, hhold]

end
end Sys2Proof.Machine
end

section
/-! PROOFS. The ring layer's received frames: the peer of a port, the best candidate, the node ID and the keeper followed (R373 to
R389). -/

namespace Sys2Proof.Machine

/-! ### Ring ports (R378, R386) -/

section
variable {s t : State}

theorem RingKept.rport (h : RingKept s t) (p : Nat) : t.rport p = s.rport p := by rw [State.rport, h.ring, State.rport]

theorem rport_setRport (p : Nat) (r : RingPort) : (s.setRport p r).rport p = r := sget_sset_same _ _ _ _

theorem rport_treeChanged (p : Nat) : (treeChanged s).rport p = s.rport p := (treeChanged_kept s).rport p

end

/-! ### The best candidate (R373, R376, R377, R385) -/

section
variable {s : State}

/-- The candidate known and the broadcasts accepted are as they were, and so is the device's state. -/
def ElectionKept (s t : State) : Prop := t.ring.best = s.ring.best ∧ t.ring.lastB = s.ring.lastB ∧ t.ringSt = s.ringSt

theorem RingKept.election {t : State} (h : RingKept s t) : ElectionKept s t := ⟨by rw [h.ring], by rw [h.ring], h.ringSt⟩

theorem ElectionKept.trans {t u : State} (h : ElectionKept s t) (k : ElectionKept t u) : ElectionKept s u :=
  ⟨k.1.trans h.1, k.2.1.trans h.2.1, k.2.2.trans h.2.2⟩

theorem RingKept.forwardAnnounce {t : State} {p f} (h : RingKept s t) : RingKept s (forwardAnnounce t p f) :=
  h.enqueue.modCls.ite h

/-- In ELECT another device's node ID in double use is no concern of this one (R385). -/
theorem dupNode_other {n : Nat} (hst : s.ringSt = 1) (hn : n ≠ s.node) (uid : W64) (isStatic : Bool) : dupNode s n uid isStatic = s := by
  unfold dupNode
  rw [if_neg hn]
  simp [hst]

theorem noteHeard_election (n : Nat) : ElectionKept s (noteHeard s n) := by
  unfold noteHeard
  split_ifs <;> exact ⟨rfl, rfl, rfl⟩

/-- A UID heard for a node: its broadcasts start anew with the UID (R373). -/
def UidNoted (s t : State) (n : Nat) : Prop :=
  t.ring.best = s.ring.best ∧ t.ringSt = s.ringSt ∧ (t.ring.lastB = s.ring.lastB ∨ t.ring.lastB = sset 0 s.ring.lastB n 0)

/-- A broadcast stays fresh with a UID noted for its node. -/
theorem UidNoted.fresh {t : State} {n : Nat} {b : W32} (h : UidNoted s t n) (hfresh : bseqFresh s n b = true) : bseqFresh t n b = true := by
  obtain ⟨-, -, h | h⟩ := h
  · rw [bseqFresh, h]; exact hfresh
  · rw [bseqFresh, h, sget_sset_same]; rfl

/-- A fresh ANNOUNCE heard in ELECT is noted for its node, and its candidates are compared. -/
theorem rxAnnounce_fresh {h : RxHdr} {bs : List Byte} {u : State} (hrx : ringRx s h bs 0x02 44 = (true, u))
    (huid : BitVec.ofNat 64 (leAt bs 16 8) ≠ u.uid) (hst : u.ringSt = 1) (hnode : h.snode ≠ u.node)
    (hfresh : bseqFresh u h.snode (bseqOf bs) = true) : ∃ t, exec (.rxAnnounce h bs) s = .next t ∧
      t.ring.best = (announced bs).foldl bestOf u.ring.best ∧ sget 0 t.ring.lastB h.snode = bseqOf bs := by
  have hexec : exec (.rxAnnounce h bs) s = execRxAnnounce h bs s := rfl
  rw [hexec, execRxAnnounce, hrx]
  dsimp -zeta only
  rw [if_neg (by decide)]
  extract_lets uid b deduped known fresh routed noted spread heard named best
  have hdeduped : deduped = u := dupNode_other hst hnode _ _
  have hknown : UidNoted u known h.snode := by
    unfold known
    rw [hdeduped]
    split_ifs
    · exact ⟨rfl, rfl, .inl rfl⟩
    · exact ⟨rfl, rfl, .inr rfl⟩
  have hrouted : ElectionKept known routed := by
    unfold routed
    split_ifs <;> exact ⟨rfl, rfl, rfl⟩
  have hspread : RingKept noted spread := (RingKept.refl noted).each fun _ _ _ h => h.forwardAnnounce
  obtain ⟨hbest, hlast, hheard⟩ : ElectionKept noted heard := hspread.election.trans (noteHeard_election _)
  replace hbest : heard.ring.best = u.ring.best := hbest.trans (hrouted.1.trans hknown.1)
  replace hlast : sget 0 heard.ring.lastB h.snode = b := by rw [hlast]; exact sget_sset_same 0 routed.ring.lastB h.snode b
  replace hheard : heard.ringSt = 1 := hheard.trans (hrouted.2.2.trans (hknown.2.1.trans hst))
  have hspreadSt : spread.ringSt = 1 := (noteHeard_election h.snode).2.2.symm.trans hheard
  have hnamed : named = heard := if_neg (by simp [hheard])
  have hnew : best = (announced bs).foldl bestOf u.ring.best := by unfold best; rw [hnamed, hbest]
  rw [if_neg huid, if_neg (by rw [show fresh = true from hknown.fresh hfresh]; decide), if_neg (by rw [hspreadSt]; decide), hnamed,
    if_pos hheard]
  refine ⟨_, rfl, ?_⟩
  split
  next hsame => exact ⟨hsame.symm.trans hnew, hlast⟩
  next => rw [(sendAnnounce_kept _).ring]; exact ⟨hnew, hlast⟩

end

/-! ### The keeper followed (R375, R378, R387 to R389) -/

/-- The device follows keeper `k`, of node `n`, on ring `rid`. -/
structure Following (k : Candidate) (rid : W32) (n : Nat) (s : State) : Prop where
  keeper : s.ring.keeper = some k
  state : s.ringSt = 2
  ringId : s.reg Reg.RNG_RINGID = rid
  knode : s.fld Reg.RNG_KEEPER 11 0 = n

section
variable {k : Candidate} {rid : W32} {n : Nat} {s t : State}

theorem Following.kept (h : Following k rid n s) (hkept : RingKept s t) : Following k rid n t :=
  ⟨by rw [hkept.ring]; exact h.keeper, by rw [hkept.ringSt]; exact h.state, by rw [hkept.reg _ (by decide) (by decide)]; exact h.ringId,
    by rw [hkept.fld (by decide) (by decide)]; exact h.knode⟩

theorem Following.modRing {f : Ring → Ring} (h : Following k rid n s) (hf : (f s.ring).keeper = s.ring.keeper) :
    Following k rid n (s.modRing f) := ⟨hf.trans h.keeper, h.state, h.ringId, h.knode⟩

theorem Following.setRport {p r} (h : Following k rid n s) : Following k rid n (s.setRport p r) :=
  ⟨h.keeper, h.state, h.ringId, h.knode⟩

theorem Following.ite {c : Prop} [Decidable c] (h : Following k rid n s) (h' : Following k rid n t) :
    Following k rid n (if c then s else t) := by split <;> assumption

/-- KEEPER's fields beside the keeper's node. -/
theorem Following.setKeeper {hi lo v : Nat} (h : Following k rid n s) (hl : lo ≤ hi) (hlo : 11 < lo) (hhi : hi < 32) :
    Following k rid n (s.setFld Reg.RNG_KEEPER hi lo v) :=
  ⟨h.keeper, (ringSt_setReg s (by decide) _).trans h.state, (State.reg_setFld_ne s (by decide) _ _ _).trans h.ringId,
    (fld_setFld_outside s _ v hhi hl (.inl hlo)).trans h.knode⟩

theorem Following.setHold {b : Bool} (h : Following k rid n s) : Following k rid n (s.setBit Reg.RNG_STATUS 3 b) :=
  ⟨h.keeper, (fld_setBit_outside s _ b (by decide) (by decide)).trans h.state, (State.reg_setBit_ne s (by decide) _ _).trans h.ringId,
    by rw [State.fld, State.reg_setBit_ne s (by decide)]; exact h.knode⟩

theorem Following.setOffset {v : W32} (h : Following k rid n s) : Following k rid n (s.setReg Reg.RNG_OFFSET v) :=
  ⟨h.keeper, (ringSt_setReg s (by decide) _).trans h.state, (State.reg_setReg_ne s (by decide) _).trans h.ringId,
    by rw [State.fld, State.reg_setReg_ne s (by decide)]; exact h.knode⟩

theorem Following.treeChanged (h : Following k rid n s) : Following k rid n (treeChanged s) :=
  (h.modRing rfl).kept (treeChanged_kept s)

theorem Following.withTree {f : State → State} (h : Following k rid n (f s)) : Following k rid n (withTree s f) :=
  withTree_induct h h.treeChanged

theorem Following.startHold (h : Following k rid n s) : Following k rid n (startHold s) :=
  ⟨h.keeper, (ringSt_startHold s).trans h.state, (reg_startHold s _).trans (h.setHold (b := true)).ringId,
    by rw [State.fld, reg_startHold]; exact (h.setHold (b := true)).knode⟩

theorem Following.chooseRoot (h : Following k rid n s) : Following k rid n (chooseRoot s) := by
  unfold Machine.chooseRoot
  extract_lets cands best chosen
  have hchosen : Following k rid n chosen := h.setKeeper (by decide) (by decide) (by decide)
  exact hchosen.ite hchosen.startHold

theorem Following.rootFollows {p hops} (h : Following k rid n s) : Following k rid n (rootFollows s p hops) := by
  refine .withTree ?_
  extract_lets root fewer r noted
  have hnoted : Following k rid n noted := h.setRport
  exact hnoted.chooseRoot.setRport.ite hnoted

theorem forwardTsync_kept (s : State) (h : RxHdr) (bs : List Byte) : RingKept s (forwardTsync s h bs) :=
  (RingKept.refl s).each fun u _ _ h => (RingKept.same (u := u.draw.2) h rfl rfl).enqueue

theorem RingKept.stepTime {d} (h : RingKept s t) : RingKept s (stepTime t d) := by
  unfold Machine.stepTime
  extract_lets stepped
  have hstepped : RingKept s stepped := h.same rfl rfl
  exact hstepped.each fun u i _ h => .ite (.modSeat (RingKept.modSeat h)) h

theorem RingKept.countedStep {d} (h : RingKept s t) : RingKept s (countedStep t d) := by
  have hcounted : RingKept s ((Machine.stepTime t d).count Reg.RNG_TSTEP_CNT 1) :=
    h.stepTime.count (.counter (by decide) (by decide))
  exact (hcounted.raise (by decide)).ringEvent

theorem Following.correctTime {o} (h : Following k rid n s) : Following k rid n (correctTime s o) := by
  unfold Machine.correctTime
  extract_lets shown whole
  have hjoined : Following k rid n (shown.modRing fun r => { r with joined := true, slew := 0 }) := h.setOffset.modRing rfl
  have hstill : Following k rid n (shown.modRing fun r => { r with slew := 0 }) := h.setOffset.modRing rfl
  have hslew : Following k rid n (shown.modRing fun r => { r with slew := -o }) := h.setOffset.modRing rfl
  refine .ite ?_ (.ite ?_ (.ite ?_ hslew))
  · exact hjoined.kept (RingKept.refl _).countedStep
  · exact hstill.kept ((RingKept.refl _).stepTime.raise (by decide))
  · exact hstill.kept (RingKept.refl _).countedStep

theorem Following.countSync {o} (h : Following k rid n s) : Following k rid n (countSync s o) := by
  unfold Machine.countSync
  extract_lets r ok ts hold bad counted
  have hcounted : Following k rid n counted := h.modRing rfl
  exact (hcounted.setHold.modRing rfl).ite hcounted

theorem Following.ringCheck (h : Following k rid n s) : Following k rid n (ringCheck s) :=
  ⟨by rw [ringCheck_ring]; exact h.keeper, (ringSt_ringCheck s).trans h.state,
    (reg_ringCheck s (by decide) (by decide) (by decide)).trans h.ringId,
    by rw [State.fld, reg_ringCheck s (by decide) (by decide) (by decide)]; exact h.knode⟩

/-- A change of the keeper leaves the device's state. -/
theorem ringSt_newKeeper (s : State) (knode : Nat) : (newKeeper s knode).ringSt = s.ringSt := by
  unfold newKeeper
  extract_lets abandoned cleared treed
  have hcleared : cleared.ringSt = abandoned.ringSt := by
    refine each_keeps (R := fun s t => t.ringSt = s.ringSt) (fun _ => rfl) (fun _ _ _ h k => k.trans h) ?_ _ abandoned
    exact fun _ _ => rfl
  have htreed : treed.ringSt = cleared.ringSt := ringSt_withTree _ (ringSt_setReg _ (by decide) _)
  have hevent : RingKept treed (ringEvent (raise treed 15 0 false) 1 0 knode treed.ringTime) :=
    ((RingKept.refl treed).raise (by decide)).ringEvent
  rw [show abandoned.ringSt = s.ringSt from ringSt_abandonPending s] at hcleared
  split_ifs
  · exact htreed.trans hcleared
  · exact hevent.ringSt.trans (htreed.trans hcleared)

theorem reg_joinRing (s : State) (rid : W32) : (joinRing s rid).reg Reg.RNG_RINGID = rid := by
  unfold joinRing
  split
  next h => exact h
  next =>
    extract_lets ringed unjoined
    have hunjoined : unjoined.reg Reg.RNG_RINGID = rid := State.reg_setReg_same s _ rid
    split_ifs
    · exact (reg_setNode _ _ (by decide)).trans hunjoined
    · exact hunjoined

/-- An accepted TSYNC makes a device that is not OFF follow its keeper. -/
theorem rxTsync_follows {h : RxHdr} {bs : List Byte} {u : State} (hrx : ringRx s h bs 0x10 56 = (true, u)) (time : W64)
    (hk : k = { admitted := (leAt bs 1 1) % 2 == 0, kprio := leAt bs 42 1, uid := BitVec.ofNat 64 (leAt bs 32 8) })
    (hacc : acceptsKeeper u k (BitVec.ofNat 32 (leAt bs 8 4)) = true) (hst : u.ringSt ≠ 0) :
    ∃ t, exec (.rxTsync h bs time) s = .next t ∧ Following k (BitVec.ofNat 32 (leAt bs 8 4)) (leAt bs 40 2 % 4096) t := by
  have hexec : exec (.rxTsync h bs time) s = execRxTsync h bs time s := rfl
  rw [hexec, execRxTsync, hrx]
  dsimp -zeta only
  rw [if_neg (by decide)]
  extract_lets k' rid knode kept followed noted named rooted hopped forwarded ref o
  subst hk
  have hstays : ∀ same : Bool, (if same then u else newKeeper u knode).ringSt = u.ringSt := fun same =>
    match same with
    | true => rfl
    | false => ringSt_newKeeper u knode
  have hkept : kept.ringSt = u.ringSt := hstays _
  have hfollowed : followed = (joinRing kept rid).setFld Reg.RNG_STATUS 1 0 2 := if_neg (by rw [hkept]; exact hst)
  have hfollows : followed.ringSt = 2 ∧ followed.reg Reg.RNG_RINGID = rid := by
    rw [hfollowed]
    exact ⟨ringSt_setFld _ (by decide), (State.reg_setFld_ne _ (by decide) _ _ _).trans (reg_joinRing kept rid)⟩
  have hnamed : Following k' rid (knode % 4096) named :=
    ⟨rfl, (ringSt_setReg _ (by decide) _).trans hfollows.1, (State.reg_setFld_ne _ (by decide) _ _ _).trans hfollows.2,
      State.fld_setFld_same _ _ _ _ _ (by decide) (by decide)⟩
  have hhopped : Following k' rid (knode % 4096) hopped := by
    unfold hopped
    split
    · exact hnamed.rootFollows.setKeeper (by decide) (by decide) (by decide)
    · exact hnamed.rootFollows
  have hforwarded : Following k' rid (knode % 4096) forwarded := hhopped.kept (forwardTsync_kept hopped h bs)
  rw [if_neg (by rw [hacc]; decide)]
  exact ⟨_, rfl, .ite (hhopped.ite hhopped.ringCheck) (hforwarded.ite hforwarded.correctTime.countSync.ringCheck)⟩

end

end Sys2Proof.Machine
end

section
/-! PROOFS. The statement about the ring layer's enabling, election, links and time, each clause from the command's one effect. -/

namespace Sys2Proof.Claims
open Sys2Proof.Machine

/-! ### Frames queued on ports whose peers take them (R341, R371) -/

/-- A RING payload begins with its subtype. -/
theorem leAt_ringPayload (s : State) {sub : Nat} (h : sub < 256) (bseq : W32) (body : List Byte) :
    leAt (ringPayload s sub bseq body) 0 1 = sub := by
  simp [leAt, leNat, ringPayload, leBytes, Nat.mod_eq_of_lt h]

section
variable {s : State} {p c : Nat}

theorem link_modCls_ne {q : Nat} (h : q ≠ p) (f : LinkClass → LinkClass) : (s.modCls p c f).link q = s.link q :=
  State.link_setLink_ne s h _

theorem peerCredits_modCls (f : LinkClass → LinkClass) (q : Nat) : ((s.modCls p c f).link q).peerCredits = (s.link q).peerCredits := by
  by_cases h : q = p
  · rw [h, State.modCls, State.link_setLink_same]; rfl
  · rw [link_modCls_ne h]

/-- What queues a frame of class `c` and RING subtype `sub` on each port it is given. -/
def Queues (f : State → Nat → State) (c sub : Nat) : Prop :=
  ∀ s p, ∃ x : Frame, f s p = enqueue s p x false ∧ x.cls = c ∧ leAt x.payload 0 1 = sub

theorem enqueue_queued {x : Frame} (htake : portsTake s [p] x.cls) (fwd : Bool) :
    enqueue s p x fwd = s.modCls p x.cls fun c => { c with queue := c.queue ++ [{ f := x, fwd := fwd }] } :=
  if_neg (by simp [beq_eq_false_iff_ne.mpr (htake p (List.mem_singleton_self p))])

/-- Frames queued on distinct ports whose peers take them move nothing but the links of those ports. -/
theorem each_queued {f : State → Nat → State} {sub : Nat} (hf : Queues f c sub) {l : List Nat} (hl : l.Nodup)
    (htake : portsTake s l c) : s.each l f = { s with links := (s.each l f).links } ∧ (∀ p ∈ l, Queued s (s.each l f) p c sub) ∧
      ∀ p, p ∉ l → (s.each l f).link p = s.link p := by
  induction l generalizing s with
  | nil => exact ⟨rfl, fun _ hp => absurd hp List.not_mem_nil, fun _ _ => rfl⟩
  | cons q l ih =>
    obtain ⟨x, hx, rfl, hsub⟩ := hf s q
    obtain ⟨hq, hl⟩ := List.nodup_cons.mp hl
    rw [enqueue_queued fun p hp => htake p (List.mem_cons.mpr (.inl (List.mem_singleton.mp hp)))] at hx
    have htail : portsTake (f s q) l x.cls := fun p hp => by
      rw [hx, peerCredits_modCls]
      exact htake p (List.mem_cons_of_mem q hp)
    obtain ⟨hframe, hqueued, hother⟩ := ih hl htail
    have hkept : ∀ p, p ≠ q → (f s q).link p = s.link p := fun p hp => by rw [hx, link_modCls_ne hp]
    rw [show s.each (q :: l) f = (f s q).each l f from rfl]
    refine ⟨?_, fun p hp => ?_, fun p hp => ?_⟩
    · rw [hframe, hx]; rfl
    · rcases List.mem_cons.mp hp with rfl | hp
      · rw [Queued, hother p hq, hx, cls_modCls_same]
        exact ⟨_, rfl, hsub⟩
      · rw [Queued, ← hkept p fun h => hq (h ▸ hp)]
        exact hqueued p hp
    · rw [List.mem_cons, not_or] at hp
      rw [hother p hp.2, hkept p hp.1]

/-- A frame of one subtype queued on every ring port in UP. -/
theorem ringFrames_queued {sub : Nat} (hsub : sub < 256) (bseq : W32) (body : State → Nat → List Byte) {l : List Nat} (hl : l.Nodup)
    (htake : portsTake s l (ringType sub).2) :
    let t := s.each l (fun s p => enqueue s p (ringFrame s sub 0 bseq (body s p)) false)
    t = { s with links := t.links } ∧ ∀ p ∈ l, Queued s t p (ringType sub).2 sub := by
  obtain ⟨hframe, hqueued, -⟩ := each_queued (fun u p => ⟨ringFrame u sub 0 bseq (body u p), rfl, rfl, leAt_ringPayload u hsub _ _⟩)
    hl htake
  exact ⟨hframe, hqueued⟩

theorem ringPorts_nodup (s : State) : s.ringPorts.Nodup := List.nodup_range.filter _

/-- One frame queued is a list of one. -/
theorem enqueue_one {x : Frame} {sub : Nat} (htake : portsTake s [p] x.cls) (hsub : leAt x.payload 0 1 = sub) :
    enqueue s p x false = { s with links := (enqueue s p x false).links } ∧ Queued s (enqueue s p x false) p x.cls sub := by
  obtain ⟨hframe, hqueued, -⟩ := each_queued (f := fun s p => enqueue s p x false) (fun _ _ => ⟨x, rfl, rfl, hsub⟩)
    (List.nodup_singleton p) htake
  exact ⟨hframe, hqueued p (List.mem_singleton_self p)⟩

end

/-! ### Enabling and disabling (R374) -/

section
variable {s : State}

theorem rngEnable_elects (hoff : s.bit Reg.RNG_CTL 0 = false) : Completes .rngEnable s (fun t => t.ringSt = 1 ∧
    t.bit Reg.RNG_CTL 0 = true ∧ t.bit Reg.RNG_STATUS 3 = true ∧ t.admitted = false) := by
  obtain ⟨u, hu, hctl, hjoin⟩ : ∃ u, ringEnable s = enterElect u ∧ u.bit Reg.RNG_CTL 0 = true ∧ u.ring.joinSync = 0 := by
    have hset : (s.setBit Reg.RNG_CTL 0 true).bit Reg.RNG_CTL 0 = true := State.bit_setBit_same _ _ _ _ (by decide)
    refine ⟨_, if_neg (by rw [hoff]; decide), ?_, rfl⟩
    rw [bit_modRing]
    split_ifs
    · rw [State.bit_setBit_reg _ (by decide), hset]
    · rw [State.bit, reg_setNode _ _ (by decide)]; exact hset
    · rw [State.bit, reg_setNode _ _ (by decide)]; exact hset
  obtain ⟨helect, hhold, hkept⟩ := enterElect_elects u
  exact ⟨_, congrArg Host.Outcome.next hu, helect, by rw [State.bit, hkept]; exact hctl, hhold, enterElect_excludes (by rw [hjoin]; decide)⟩

theorem rngDisable_off (hon : s.bit Reg.RNG_CTL 0 = true) (hadm : s.admitted = false) : Completes .rngDisable s (fun t =>
    t = { s with regs := t.regs, ring := t.ring } ∧ t.ringSt = 0 ∧ t.bit Reg.RNG_CTL 0 = false ∧ t.bit Reg.RNG_STATUS 3 = false ∧
      t.reg Reg.RNG_EPOCH_PEND = 0 ∧ t.reg Reg.RNG_EPOCH = s.reg Reg.RNG_EPOCH) := by
  obtain ⟨hst, hhold, hctl, hpend, hepoch, hkept⟩ := leavingRing_leaves s
  have hshown : ringCheck s.leavingRing = s.leavingRing.admissionShown := by
    refine ringCheck_unmoved _ ?_
    rw [hkept, hadm, State.admitted, State.admissionShown, hst]
    exact (State.bit_setBit_same _ _ _ _ (by decide)).trans (Bool.and_false _)
  refine ⟨_, congrArg Host.Outcome.next (ringDisable_on hon), by rw [hshown]; exact (leavingRing_only s).admissionShown, ?_, ?_, ?_, ?_, ?_⟩
  · rw [ringSt_ringCheck, hst]
  · rw [State.bit, reg_ringCheck _ (by decide) (by decide) (by decide)]; exact hctl
  · rw [hold_ringCheck, hhold]
  · rw [reg_ringCheck _ (by decide) (by decide) (by decide), hpend]
  · rw [reg_ringCheck _ (by decide) (by decide) (by decide), hepoch]

/-! ### The frames of the ticks (R372, R376, R378, R386, R393) -/

theorem linkSendTick_queues (h : portsTake s s.ringPorts 3) : Completes .linkSendTick s (fun t =>
    t = { s with links := t.links } ∧ ∀ p ∈ s.ringPorts, Queued s t p 3 0x01) :=
  ⟨_, rfl, ringFrames_queued (sub := 0x01) (by decide) 0 _ (ringPorts_nodup s) h⟩

theorem dlyreqSendTick_queues (h : portsTake s s.ringPorts 1) : Completes .dlyreqSendTick s (fun t =>
    t = { s with links := t.links } ∧ ∀ p ∈ s.ringPorts, Queued s t p 1 0x11) :=
  ⟨_, rfl, ringFrames_queued (sub := 0x11) (by decide) 0 _ (ringPorts_nodup s) h⟩

theorem announceSendTick_queues (hst : s.ringSt ≠ 0) (h : portsTake s s.ringPorts 3) : Completes .announceSendTick s (fun t =>
    t = { s with links := t.links, ring := t.ring } ∧ ∀ p ∈ s.ringPorts, Queued s t p 3 0x02) := by
  have hexec : exec .announceSendTick s = .next (sendAnnounce s) := congrArg Host.Outcome.next (if_neg hst)
  obtain ⟨hframe, hqueued⟩ : let t := sendAnnounce s
      t = { (nextBseq s).2 with links := t.links } ∧ ∀ p ∈ s.ringPorts, Queued (nextBseq s).2 t p 3 0x02 :=
    ringFrames_queued (sub := 0x02) (by decide) (nextBseq s).1 (fun _ _ => _) (ringPorts_nodup s) h
  exact ⟨_, hexec, by rw [hframe]; rfl, hqueued⟩

theorem tsyncSendTick_queues (hst : s.ringSt = 3) (h : portsTake s s.ringPorts 1) : Completes .tsyncSendTick s (fun t =>
    t = { s with links := t.links, ring := { s.ring with syncSeq := s.ring.syncSeq + 1 } } ∧
      ∀ p ∈ s.ringPorts, Queued s t p 1 0x10) := by
  have hexec : exec .tsyncSendTick s = .next (sendTsync s) := congrArg Host.Outcome.next (if_pos hst)
  obtain ⟨hframe, hqueued⟩ : let u := s.modRing fun r => { r with syncSeq := s.ring.syncSeq + 1 }
      let t := sendTsync s
      t = { u with links := t.links } ∧ ∀ p ∈ s.ringPorts, Queued u t p 1 0x10 :=
    ringFrames_queued (sub := 0x10) (by decide) 0 (fun _ _ => _) (ringPorts_nodup s) h
  exact ⟨_, hexec, hframe, hqueued⟩

theorem heartbeatSendTick_queues {p : Nat} (hst : s.ringSt = 2) (hnode : s.node ≠ 0)
    (hroute : sget 0 s.ring.routes (s.fld Reg.RNG_KEEPER 11 0) = p + 1) (h : portsTake s [p] 3) :
    Completes .heartbeatSendTick s (fun t => t = { s with links := t.links } ∧ Queued s t p 3 0x03) := by
  have hexec : exec .heartbeatSendTick s = .next (sendUnicast s (s.fld Reg.RNG_KEEPER 11 0) 0x03 _).2 :=
    congrArg Host.Outcome.next (if_pos (by simp [hst, hnode]))
  refine ⟨_, hexec, ?_⟩
  rw [sendUnicast, hroute]
  exact enqueue_one h (leAt_ringPayload _ (by decide) _ _)

/-! ### Expiries (R374, R376, R380, R389) -/

theorem klossExpiry_elects (hst : s.ringSt = 2) : Completes .klossExpiry s (fun t => t.ringSt = 1 ∧ t.bit Reg.RNG_STATUS 3 = true) := by
  obtain ⟨helect, hhold, -⟩ := enterElect_elects s
  exact ⟨_, congrArg Host.Outcome.next (if_pos hst), helect, hhold⟩

theorem electtExpiry_none (h : s.ringSt ≠ 1 ∨ s.ownCand = none) : exec .electtExpiry s = .next s := by
  show execElecttExpiry s = _
  unfold execElecttExpiry
  split
  next c hc =>
    rcases h with h | h
    · rw [if_neg (by simp [h])]
    · rw [h] at hc; cases hc
  next => rfl

theorem electtExpiry_decides {c b : Candidate} (hst : s.ringSt = 1) (hown : s.ownCand = some c) (hbest : s.ring.best = some b) :
    exec .electtExpiry s = .next (if b.better c then s else becomeKeeper s) := by
  show execElecttExpiry s = _
  unfold execElecttExpiry
  rw [hown, hbest]
  cases h : b.better c <;> simp [hst, h]

theorem holdoverExpiry_excludes (hhold : s.bit Reg.RNG_STATUS 3 = true) (hst : s.ringSt ≠ 0) : Completes .holdoverExpiry s (fun t =>
    t.ring.holdover = true ∧ t.admitted = false) :=
  ⟨_, congrArg Host.Outcome.next (if_pos (by simp [hhold, hst])), by rw [ringCheck_ring]; rfl,
    ringCheck_excludes _ (ringCause_holdover hst rfl)⟩

theorem routeExpiry_expires (n : Nat) : Completes (.routeExpiry n) s (fun t => t = { s with ring := t.ring } ∧
    sget 0 t.ring.routes n = 0 ∧ ∀ m, m ≠ n → sget 0 t.ring.routes m = sget 0 s.ring.routes m) :=
  ⟨_, rfl, rfl, sget_sset_same 0 s.ring.routes n 0, fun _ h => sget_sset_ne 0 0 s.ring.routes h 0⟩

end
end Sys2Proof.Claims

namespace Sys2Proof.Claims
open Sys2Proof.Machine

/-! ### Received frames (R372 to R389) -/

section
variable {h : RxHdr} {bs : List Byte} {s u : State}

theorem rxLink_tells (hlink : h.link < 24) (hrx : ringRx s h bs 0x01 40 = (true, u)) : Completes (.rxLink h bs) s (fun t =>
    (t.rport h.link).peerUid = BitVec.ofNat 64 (leAt bs 16 8) ∧ (t.rport h.link).peerRoot = (leAt bs 26 1 == 1) ∧
      t.fld (Reg.RNG_PORTp_STAT h.link) 13 2 = leAt bs 24 2 % 4096) := by
  have hexec : exec (.rxLink h bs) s = execRxLink h bs s := rfl
  rw [Completes, hexec, execRxLink, hrx]
  refine ⟨_, rfl, ?_⟩
  dsimp -zeta only
  rw [if_neg (by decide)]
  extract_lets noted
  have hnoted : noted.fld (Reg.RNG_PORTp_STAT h.link) 13 2 = leAt bs 24 2 % 4096 :=
    State.fld_setFld_same _ _ _ _ _ (by decide) (by decide)
  have hport : ∀ r, (noted.setRport h.link r).rport h.link = r := rport_setRport h.link
  refine withTree_induct (P := fun t => (t.rport h.link).peerUid = BitVec.ofNat 64 (leAt bs 16 8) ∧
    (t.rport h.link).peerRoot = (leAt bs 26 1 == 1) ∧ t.fld (Reg.RNG_PORTp_STAT h.link) 13 2 = leAt bs 24 2 % 4096) ?_ ?_
  · rw [hport]
    exact ⟨rfl, rfl, hnoted⟩
  · rw [rport_treeChanged, hport, (treeChanged_kept _).peer h.link hlink]
    exact ⟨rfl, rfl, hnoted⟩

theorem exec_rxDlyreq (hrx : ringRx s h bs 0x11 40 = (true, u)) (time : W64) : exec (.rxDlyreq h bs time) s =
    .next (if h.retx then u else sendLocal u h.link 0x12 (leBytes 8 (leAt bs 16 8) ++ leBytes 8 time.toNat ++ List.replicate 8 0)) := by
  have hexec : exec (.rxDlyreq h bs time) s = execRxDlyreq h bs time s := rfl
  rw [hexec, execRxDlyreq, hrx]
  rfl

theorem rxDlyreq_answers (hrx : ringRx s h bs 0x11 40 = (true, u)) (time : W64) (hretx : h.retx = false)
    (htake : portsTake u [h.link] 1) :
    Completes (.rxDlyreq h bs time) s (fun t => t = { u with links := t.links } ∧ Queued u t h.link 1 0x12) := by
  refine ⟨_, (exec_rxDlyreq hrx time).trans (congrArg _ (if_neg (by rw [hretx]; decide))), ?_⟩
  exact enqueue_one htake (leAt_ringPayload _ (by decide) _ _)

theorem rxDlyrsp_measures (hrx : ringRx s h bs 0x12 40 = (true, u)) (time : W64) :
    (h.retx = true → Completes (.rxDlyrsp h bs time) s (fun t => t = u)) ∧
    (h.retx = false → Completes (.rxDlyrsp h bs time) s (fun t => (t.rport h.link).delays =
      ((((time.toNat : Int) - leAt bs 16 8) - ((leAt bs 32 8 : Int) - leAt bs 24 8)) :: (u.rport h.link).delays).take 16)) := by
  have hexec : exec (.rxDlyrsp h bs time) s = execRxDlyrsp h bs time s := rfl
  rw [Completes, Completes, hexec, execRxDlyrsp, hrx]
  dsimp -zeta only
  refine ⟨fun hretx => ⟨u, congrArg _ (if_pos (by rw [hretx]; rfl)), rfl⟩, fun hretx => ?_⟩
  refine ⟨_, congrArg _ (if_neg (by rw [hretx]; decide)), ?_⟩
  extract_lets r d noted
  exact congrArg RingPort.delays (rport_setRport h.link noted)

theorem rxAnnounce_own (hrx : ringRx s h bs 0x02 44 = (true, u)) (huid : BitVec.ofNat 64 (leAt bs 16 8) = u.uid) :
    exec (.rxAnnounce h bs) s = .next u := by
  have hexec : exec (.rxAnnounce h bs) s = execRxAnnounce h bs s := rfl
  rw [hexec, execRxAnnounce, hrx]
  exact congrArg _ (if_pos huid)

/-- A frame accepted by the link and consumed here on an enabled device takes effect. -/
theorem ringTake_taken {v : State} {sub n : Nat} (hrx : ringRx s h bs sub n = (true, u)) (hfwd : ringForward u h bs = (true, v))
    (hst : v.ringSt ≠ 0) (f : State → State) : ringTake s h bs sub n f = f v := by
  rw [ringTake, hrx]
  dsimp only
  rw [hfwd]
  exact (if_neg (by decide)).trans (if_pos (by simp [hst]))

theorem rxAssign_assigns {v : State} (hrx : ringRx s h bs 0x04 26 = (true, u)) (hfwd : ringForward u h bs = (true, v))
    (hst : v.ringSt ≠ 0) :
    (v.bit Reg.RNG_CTL 1 = false ∨ leAt bs 16 8 ≠ v.uid.toNat → Completes (.rxAssign h bs) s (fun t => t = v)) ∧
    (v.bit Reg.RNG_CTL 1 = true → leAt bs 16 8 = v.uid.toNat → Completes (.rxAssign h bs) s (fun t => t.node = leAt bs 24 2 % 4096)) := by
  have hexec : exec (.rxAssign h bs) s = .next (if v.bit Reg.RNG_CTL 1 && leAt bs 16 8 == v.uid.toNat then
      ringCheck (setNode v (leAt bs 24 2 % 4096)) else v) := congrArg Host.Outcome.next (ringTake_taken hrx hfwd hst _)
  refine ⟨fun h => ⟨v, hexec.trans (congrArg _ (if_neg ?_)), rfl⟩, fun hauto huid =>
    ⟨_, hexec.trans (congrArg _ (if_pos (by simp [hauto, huid]))), ?_⟩⟩
  · rcases h with h | h <;> simp [h]
  · exact (node_ringCheck _).trans (node_setNode v _)

theorem rxTsync_refused (hrx : ringRx s h bs 0x10 56 = (true, u)) (time : W64)
    (hacc : acceptsKeeper u { admitted := (leAt bs 1 1) % 2 == 0, kprio := leAt bs 42 1, uid := BitVec.ofNat 64 (leAt bs 32 8) }
      (BitVec.ofNat 32 (leAt bs 8 4)) = false) : exec (.rxTsync h bs time) s = .next u := by
  have hexec : exec (.rxTsync h bs time) s = execRxTsync h bs time s := rfl
  rw [hexec, execRxTsync, hrx]
  dsimp -zeta only
  rw [if_neg (by decide)]
  extract_lets k rid
  exact congrArg _ (if_pos (by rw [show acceptsKeeper u k rid = false from hacc]; rfl))

end

/-- Settles O51: each tick by the ports that take its frame, each expiry and frame by the device's state it decides on. When the
ring's timers fire and which candidate leads (log 64, 65), and that a tick or a frame that does not apply changes nothing (log 4),
are the model's choices. -/
theorem ringJoinsElectsAndKeepsTime : Obligations.RingJoinsElectsAndKeepsTime := by
  refine ⟨fun s => ⟨fun hon => ⟨s, congrArg _ (if_pos hon), rfl⟩, fun hoff _ => rngEnable_elects hoff,
    fun hoff => ⟨s, congrArg _ (if_pos (by rw [hoff]; rfl)), rfl⟩, rngDisable_off, linkSendTick_queues, dlyreqSendTick_queues,
    fun hst => ⟨s, congrArg _ (if_pos hst), rfl⟩, announceSendTick_queues, fun hst => ⟨s, congrArg _ (if_neg hst), rfl⟩,
    tsyncSendTick_queues, fun hno => ⟨s, congrArg _ (if_neg ?noHeartbeat), rfl⟩, fun p => heartbeatSendTick_queues,
    fun hst => ⟨s, congrArg _ (if_neg hst), rfl⟩, klossExpiry_elects, fun hno => ⟨s, electtExpiry_none hno, rfl⟩,
    fun c b hst hown hbest => ⟨fun hbetter => ⟨s, (electtExpiry_decides hst hown hbest).trans (congrArg _ (if_pos hbetter)), rfl⟩,
      fun hworse => ⟨_, (electtExpiry_decides hst hown hbest).trans (congrArg _ (if_neg (by rw [hworse]; decide))),
        becomeKeeper_keeper s⟩⟩,
    fun hno => ⟨s, congrArg _ (if_neg ?noHoldover), rfl⟩, holdoverExpiry_excludes, routeExpiry_expires⟩,
    fun h bs s u hlink _ _ => ⟨rxLink_tells hlink,
      fun time hrx => ⟨fun hretx => ⟨u, (exec_rxDlyreq hrx time).trans (congrArg _ (if_pos hretx)), rfl⟩, rxDlyreq_answers hrx time⟩,
      fun time hrx => rxDlyrsp_measures hrx time,
      fun hrx => ⟨fun huid => ⟨u, rxAnnounce_own hrx huid, rfl⟩, rxAnnounce_fresh hrx⟩,
      fun v hrx hfwd hst => rxAssign_assigns hrx hfwd hst,
      fun time hrx => ⟨fun hacc => ⟨u, rxTsync_refused hrx time hacc, rfl⟩, fun hacc hst => ?tsync⟩⟩⟩
  case noHeartbeat => rcases hno with h | h <;> simp [h]
  case noHoldover => rcases hno with h | h <;> simp [h]
  case tsync =>
    obtain ⟨t, hexec, hkeeper, hstate, hring, hnode⟩ := rxTsync_follows hrx time rfl hacc hst
    exact ⟨t, hexec, hkeeper, hstate, hring, hnode⟩

end Sys2Proof.Claims
end

section
/-! PROOFS. The ring layer's epochs and services: a pending epoch begun, dropped, committed and put in force, the membership table,
ring snapshots, marks and mailboxes (R390 to R397). -/

namespace Sys2Proof.Machine

/-! ### The pending epoch (R390, R391) -/

section
variable (s : State)

/-- A domain's entry is the owner record's, or RECOVERY's. -/
theorem roleDomain_congr {s t : State} (howner : t.owner = s.owner) (htrust : t.reg Reg.SYS_TRUST = s.reg Reg.SYS_TRUST) (role : Nat) :
    t.roleDomain role = s.roleDomain role := by
  have hdomain : ∀ d, t.domain d = s.domain d := fun d => by
    rw [State.domain, howner, State.recovery, State.bit, htrust]; rfl
  simp only [State.roleDomain, hdomain]

theorem bit_dropPending {i : Nat} (hne : i ≠ 1) :
    (dropPending s).bit Reg.RNG_EPOCH_STATUS i = s.bit Reg.RNG_EPOCH_STATUS i := by
  rw [dropPending, bit_modRing, State.bit_setBit_ne _ _ _ (by decide) hne, State.bit, State.reg_setReg_ne _ (by decide), State.bit]

theorem reg_startPending (e : W32) (total : Nat) {a : Nat} (h : a ≠ Reg.RNG_EPOCH_PEND) (h' : a ≠ Reg.RNG_EPOCH_STATUS) :
    (startPending s e total).reg a = s.reg a := by
  unfold startPending
  split_ifs
  · rfl
  · rw [reg_modRing, State.reg_setReg_ne _ h, reg_dropPending _ h h']

theorem reg_startPending_pend (e : W32) (total : Nat) : (startPending s e total).reg Reg.RNG_EPOCH_PEND = e := by
  unfold startPending
  split_ifs with h
  · exact h
  · rw [reg_modRing, State.reg_setReg_same]

theorem actBank_startPending (e : W32) (total : Nat) : (startPending s e total).actBank = s.actBank := by
  unfold startPending
  split_ifs
  · rfl
  · rw [State.actBank, bit_modRing, State.bit, State.reg_setReg_ne _ (by decide)]
    exact bit_dropPending s (by decide)

theorem epochBank_startPending (e : W32) (total : Nat) (b : Bool) : epochBank (startPending s e total) b = epochBank s b := by
  have hptr : (startPending s e total).ptr Reg.RNG_EBUF_LO = s.ptr Reg.RNG_EBUF_LO := by
    rw [State.ptr, State.fld, State.fld, reg_startPending s e total (by decide) (by decide),
      reg_startPending s e total (by decide) (by decide)]
    rfl
  rw [epochBank, hptr, epochBank]

theorem startPending_only (e : W32) (total : Nat) : RegsRingOnly s (startPending s e total) := by
  unfold startPending
  split_ifs
  · exact .refl s
  · exact ((RegsRingOnly.refl s).dropPending.setReg _ _).modRing _

theorem roleDomain_startPending (e : W32) (total role : Nat) : (startPending s e total).roleDomain role = s.roleDomain role :=
  roleDomain_congr (by rw [startPending_only s e total]) (reg_startPending s e total (by decide) (by decide)) role

/-! ### HAVE, commits and epochs put in force (R390, R391) -/

theorem reg_checkHave {a : Nat} (h : a ≠ Reg.RNG_EPOCH_STATUS) : (checkHave s).reg a = s.reg a := State.reg_setBit_ne s h _ _

variable {s}

theorem sendCommit_some {crc : W32} (h : epochCrc s (!s.actBank) s.ring.pendTotal = some crc) :
    let apply := s.ringTime.toNat + s.fld Reg.RNG_LOSS 31 24 * 100000
    sendCommit s = ((sendBroadcast s s.treePorts 0x06 (commitBody (s.reg Reg.RNG_EPOCH_PEND) crc apply)).setFld
      Reg.RNG_EPOCH_STATUS 4 2 2).modRing fun r =>
        { r with distributing := false, pendCrc := some crc, apply := some (BitVec.ofNat 64 apply) } := by
  rw [sendCommit, h]

/-- A commit moves the epoch's STATUS, the links and what the ring layer knows of the epoch. -/
theorem sendCommit_keeps (s : State) : (sendCommit s).mem = s.mem ∧ (sendCommit s).ring.members = s.ring.members ∧
    ∀ a, Reg.RNG_CTL ≤ a → a < Reg.RNG_TSTEP_CNT → a ≠ Reg.RNG_EPOCH_STATUS → (sendCommit s).reg a = s.reg a := by
  cases h : epochCrc s (!s.actBank) s.ring.pendTotal with
  | none =>
    have hnone : sendCommit s = s := by rw [sendCommit, h]
    rw [hnone]
    exact ⟨rfl, rfl, fun _ _ _ _ => rfl⟩
  | some crc =>
    rw [sendCommit_some h]
    have hsent := sendBroadcast_kept s s.treePorts 0x06 (commitBody (s.reg Reg.RNG_EPOCH_PEND) crc
      (s.ringTime.toNat + s.fld Reg.RNG_LOSS 31 24 * 100000))
    have hmembers := congrArg Ring.members hsent.ring
    exact ⟨sendBroadcast_mem s _ _ _, hmembers,
      fun a ha ha' hne => by rw [reg_modRing, State.reg_setFld_ne _ hne, hsent.reg a ha ha', reg_modRing]⟩

theorem tryCommit_keeps (s : State) : (tryCommit s).mem = s.mem ∧ (tryCommit s).ring.members = s.ring.members ∧
    ∀ a, Reg.RNG_CTL ≤ a → a < Reg.RNG_TSTEP_CNT → a ≠ Reg.RNG_EPOCH_STATUS → (tryCommit s).reg a = s.reg a := by
  unfold tryCommit
  split_ifs
  · exact sendCommit_keeps s
  · exact ⟨rfl, rfl, fun _ _ _ _ => rfl⟩

theorem RingKept.bringUp {t : State} {node epoch pend held} (h : RingKept s t) : RingKept s (bringUp t node epoch pend held) := by
  unfold Machine.bringUp
  refine .ite h ?_
  split
  · exact h
  · exact .ite h.sendUnicast (.ite h (h.sendEpoch fun _ _ h => h.sendUnicast))

/-- The bytes `off` to `off + n` of the pending epoch's content have come. -/
def State.segmentNoted (s : State) (off n : Nat) : State :=
  checkHave (s.modRing fun r => { r with pendRanges := addRange off (off + n) r.pendRanges })

/-- A gap before `off` is asked for. -/
def State.askGap (s : State) (e : W32) (off : Nat) : State :=
  let gap := firstGap s.ring.pendTotal s.ring.pendRanges
  if gap.1 < off ∧ gap.2 ≠ 0 then
    (sendUnicast s (s.fld Reg.RNG_KEEPER 11 0) 0x07 (leBytes 4 e.toNat ++ leBytes 4 gap.1 ++ leBytes 4 gap.2)).2
  else s

theorem askGap_keeps (s : State) (e : W32) (off : Nat) : RingKept s (s.askGap e off) ∧ (s.askGap e off).mem = s.mem := by
  unfold State.askGap
  extract_lets gap
  split_ifs
  · exact ⟨(RingKept.refl s).sendUnicast, sendUnicast_mem s _ _ _⟩
  · exact ⟨.refl s, rfl⟩

/-- The epoch switched to is in force from the other bank, and none is pending. -/
theorem applyEpoch_switches (s : State) : (applyEpoch s).reg Reg.RNG_EPOCH = s.reg Reg.RNG_EPOCH_PEND ∧
    (applyEpoch s).reg Reg.RNG_EPOCH_PEND = 0 ∧ (applyEpoch s).actBank = !s.actBank ∧
    (applyEpoch s).fld Reg.RNG_EPOCH_STATUS 4 2 = 3 ∧ (applyEpoch s).ring.apply = none := by
  unfold applyEpoch
  extract_lets e n switched shown held
  have hkept : RingKept held (ringEvent held 4 0 held.node held.ringTime) := (RingKept.refl held).ringEvent
  have hreg : ∀ a, Reg.RNG_CTL ≤ a → a < Reg.RNG_TSTEP_CNT → a ≠ Reg.RNG_STATUS →
      (ringCheck (ringEvent held 4 0 held.node held.ringTime)).reg a = shown.reg a :=
    fun a ha ha' hne => (reg_ringCheck _ ha ha' hne).trans ((hkept.reg a ha ha').trans (reg_modRing shown _ a))
  have hshown : shown = (((dropPending s).setBit Reg.RNG_EPOCH_STATUS 0 (!s.actBank)).setReg Reg.RNG_EPOCH
      (s.reg Reg.RNG_EPOCH_PEND)).setFld Reg.RNG_EPOCH_STATUS 4 2 3 := rfl
  refine ⟨?_, ?_, ?_, ?_, ?_⟩
  · rw [hreg _ (by decide) (by decide) (by decide), hshown, State.reg_setFld_ne _ (by decide), State.reg_setReg_same]
  · rw [hreg _ (by decide) (by decide) (by decide), hshown, State.reg_setFld_ne _ (by decide), State.reg_setReg_ne _ (by decide),
      State.reg_setBit_ne _ (by decide), reg_dropPending_pend]
  · rw [State.actBank, State.bit, hreg _ (by decide) (by decide) (by decide), ← State.bit, hshown,
      bit_setFld_outside _ _ _ (by decide) (by decide) (by decide), State.bit, State.reg_setReg_ne _ (by decide), ← State.bit,
      State.bit_setBit_same _ _ _ _ (by decide)]
  · rw [State.fld, hreg _ (by decide) (by decide) (by decide), ← State.fld, hshown, State.fld_setFld_same _ _ _ _ _ (by decide)
      (by decide)]
    rfl
  · rw [ringCheck_ring, hkept.ring, modRing_ring, hshown]
    rfl

end

/-! ### Ring snapshots and marks (R394, R395) -/

section
variable {s : State}

theorem takeSnap_excluded (h : s.admitted = false) (x : W64) : takeSnap s x = s := if_pos (by rw [h]; rfl)

theorem takeSnap_late (h : s.admitted = true) {x : W64} (hx : x.toNat ≤ s.ringTime.toNat) :
    takeSnap s x = s.count Reg.RNG_SNAPLATE 1 := (if_neg (by rw [h]; decide)).trans (if_pos hx)

theorem takeSnap_early (h : s.admitted = true) {x : W64} (hx : s.ringTime.toNat < x.toNat) :
    takeSnap s x = s.modRing fun r => { r with snaps := r.snaps ++ [x] } :=
  (if_neg (by rw [h]; decide)).trans (if_neg (Nat.not_le.mpr hx))

theorem takeSnap_keeps (x : W64) : (takeSnap s x).mem = s.mem ∧ (takeSnap s x).ring.snapId = s.ring.snapId := by
  unfold takeSnap
  split_ifs <;> exact ⟨rfl, rfl⟩

theorem takeRmark_excluded (h : s.admitted = false) (n : Nat) (pos ftime : W64) (tag : Nat) : takeRmark s n pos ftime tag = s :=
  if_pos (by rw [h]; rfl)

/-- With no filter on, a mark matches none. -/
theorem takeRmark_unmatched (h : s.admitted = true) (hoff : ∀ i, i < 16 → s.bit (Reg.RNG_RMKi i) 0 = false) (n : Nat)
    (pos ftime : W64) (tag : Nat) : takeRmark s n pos ftime tag = s := by
  have hnone : (List.range 16).find? (fun i => fbit (s.reg (Reg.RNG_RMKi i)) 0 && (fbits (s.reg (Reg.RNG_RMKi i)) 24 13 == 0 ||
      fbits (s.reg (Reg.RNG_RMKi i)) 24 13 == n) && fbits (s.reg (Reg.RNG_RMKi i)) 12 5 == tag) = none := by
    refine List.find?_eq_none.mpr fun i hi => ?_
    rw [show fbit (s.reg (Reg.RNG_RMKi i)) 0 = false from hoff i (List.mem_range.mp hi), Bool.false_and, Bool.false_and]
    exact Bool.false_ne_true
  rw [takeRmark, if_neg (by rw [h]; decide), hnone]

/-- A mark that the first filter takes waits until its delay has passed. -/
theorem takeRmark_waits (h : s.admitted = true) {n tag : Nat} {pos ftime : W64} (hon : s.bit (Reg.RNG_RMKi 0) 0 = true)
    (hany : s.fld (Reg.RNG_RMKi 0) 24 13 = 0) (htag : s.fld (Reg.RNG_RMKi 0) 12 5 = tag)
    (hdue : s.ringTime.toNat < ftime.toNat + s.fld (Reg.RNG_RMKi 0) 31 25 * 10000) :
    takeRmark s n pos ftime tag = s.modRing fun r => { r with rmarks := r.rmarks ++
      [(0, pos, n, BitVec.ofNat 64 (ftime.toNat + s.fld (Reg.RNG_RMKi 0) 31 25 * 10000))] } := by
  have hfirst : (List.range 16).find? (fun i => fbit (s.reg (Reg.RNG_RMKi i)) 0 && (fbits (s.reg (Reg.RNG_RMKi i)) 24 13 == 0 ||
      fbits (s.reg (Reg.RNG_RMKi i)) 24 13 == n) && fbits (s.reg (Reg.RNG_RMKi i)) 12 5 == tag) = some 0 := by
    refine List.find?_cons_of_pos (l := [1, 2, 3, 4, 5, 6, 7, 8, 9, 10, 11, 12, 13, 14, 15]) ?_
    rw [show fbit (s.reg (Reg.RNG_RMKi 0)) 0 = true from hon, show fbits (s.reg (Reg.RNG_RMKi 0)) 24 13 = 0 from hany,
      show fbits (s.reg (Reg.RNG_RMKi 0)) 12 5 = tag from htag]
    simp
  rw [takeRmark, if_neg (by rw [h]; decide), hfirst]
  exact if_neg (Nat.not_le.mpr hdue)

end

end Sys2Proof.Machine
end

section
/-! PROOFS. The statement about the ring's membership, epochs and services: each received frame from the state in which it has been
accepted and forwarded, and each command. -/

namespace Sys2Proof.Claims
open Sys2Proof.Machine

/-! ### Frames taken (R380) -/

section
variable {h : RxHdr} {bs : List Byte} {s v : State}

/-- A frame that is taken acts on the state in which it has been forwarded. -/
theorem Taken.acts {sub n : Nat} (ht : Taken s v h bs sub n) (f : State → State) : ringTake s h bs sub n f = f v := by
  obtain ⟨u, hrx, hfwd, hst⟩ := ht
  exact ringTake_taken hrx hfwd hst f

/-! ### Members and epochs (R390, R391, R393) -/

theorem rxHeartbeat_member (ht : Taken s v h bs 0x03 48) :
    (v.ringSt ≠ 3 → Completes (.rxHeartbeat h bs) s (fun t => t = v)) ∧
    (v.ringSt = 3 → Completes (.rxHeartbeat h bs) s (fun t => sfind h.snode t.ring.members =
      some (BitVec.ofNat 32 (leAt bs 28 4), leAt bs 32 1 == 1, leAt bs 33 1 == 0))) := by
  have hexec : exec (.rxHeartbeat h bs) s = .next _ := congrArg Host.Outcome.next (ht.acts _)
  refine ⟨fun hst => ⟨_, hexec, if_pos (by simp [hst])⟩, fun hst => ⟨_, hexec, ?_⟩⟩
  rw [if_neg (by simp [hst])]
  extract_lets epoch pend held adm heard noted entered
  have hkept : RingKept noted (bringUp entered h.snode epoch pend held) := (RingKept.refl noted).mtabWrite.bringUp
  obtain ⟨-, hmembers, -⟩ := tryCommit_keeps (bringUp entered h.snode epoch pend held)
  have hnoted : sfind h.snode noted.ring.members = some (pend, held, adm) := sfind_sput_same h.snode _ heard.ring.members
  exact (congrArg (sfind h.snode) (hmembers.trans (congrArg Ring.members hkept.ring))).trans hnoted

theorem rxEpochData_ignored (ht : Taken s v h bs 0x05 33)
    (hno : v.ringSt = 3 ∨ BitVec.ofNat 32 (leAt bs 16 4) = v.reg Reg.RNG_EPOCH) : Completes (.rxEpochData h bs) s (fun t => t = v) := by
  refine ⟨_, congrArg Host.Outcome.next (ht.acts _), if_pos ?_⟩
  rcases hno with hno | hno <;> simp [hno]

/-- A segment of another epoch that lies within its content is written and its range noted. -/
theorem rxEpochData_stored (ht : Taken s v h bs 0x05 33) {d : Nat} {w : State} (hst : v.ringSt ≠ 3)
    (hnew : BitVec.ofNat 32 (leAt bs 16 4) ≠ v.reg Reg.RNG_EPOCH) (hrole : v.roleDomain 1 = some d) (htotal : leAt bs 24 4 ≤ 65536)
    (hend : leAt bs 20 4 + (bs.drop 32).length ≤ leAt bs 24 4)
    (hwrite : (startPending v (BitVec.ofNat 32 (leAt bs 16 4)) (leAt bs 24 4)).domWrite d
      ((epochBank v (!v.actBank)).1 + leAt bs 20 4) (epochBank v (!v.actBank)).2 (bs.drop 32) = some w) :
    Completes (.rxEpochData h bs) s (fun t => t.mem = w.mem ∧ t.reg Reg.RNG_EPOCH_PEND = BitVec.ofNat 32 (leAt bs 16 4) ∧
      t.ring.pendRanges = addRange (leAt bs 20 4) (leAt bs 20 4 + (bs.drop 32).length) w.ring.pendRanges) := by
  have hexec : exec (.rxEpochData h bs) s = .next ((w.segmentNoted (leAt bs 20 4) (bs.drop 32).length).askGap
      (BitVec.ofNat 32 (leAt bs 16 4)) (leAt bs 20 4)) := by
    refine congrArg Host.Outcome.next ((ht.acts _).trans ?_)
    extract_lets e off total data started
    have hfits : ¬ (decide (v.ringSt = 3) || e == v.reg Reg.RNG_EPOCH || decide (65536 < total) ||
        decide (total < off + data.length)) = true := by
      simp only [Bool.or_eq_true, decide_eq_true_eq, beq_iff_eq, not_or]
      exact ⟨⟨⟨hst, hnew⟩, Nat.not_lt.mpr htotal⟩, Nat.not_lt.mpr hend⟩
    have hbank : epochBank started (!started.actBank) = epochBank v (!v.actBank) := by
      rw [show started.actBank = v.actBank from actBank_startPending v e total, epochBank_startPending]
    have hstarted : started.roleDomain 1 = some d := (roleDomain_startPending v e total 1).trans hrole
    rw [if_neg hfits, hbank]
    dsimp -zeta only
    rw [hstarted]
    dsimp -zeta only
    rw [show started.domWrite d _ _ data = some w from hwrite]
    rfl
  obtain ⟨hkept, hmem⟩ := askGap_keeps (w.segmentNoted (leAt bs 20 4) (bs.drop 32).length) (BitVec.ofNat 32 (leAt bs 16 4))
    (leAt bs 20 4)
  have hpend : w.reg Reg.RNG_EPOCH_PEND = BitVec.ofNat 32 (leAt bs 16 4) :=
    (((RingKept.refl _).domWrite hwrite).reg _ (by decide) (by decide)).trans (reg_startPending_pend v _ _)
  refine ⟨_, hexec, hmem, ?_, congrArg Ring.pendRanges hkept.ring⟩
  rw [hkept.reg _ (by decide) (by decide), State.segmentNoted, reg_checkHave _ (by decide), reg_modRing, hpend]

theorem rxEpochCommit_ignored (ht : Taken s v h bs 0x06 32)
    (hno : v.ringSt = 3 ∨ BitVec.ofNat 32 (leAt bs 16 4) = v.reg Reg.RNG_EPOCH) : Completes (.rxEpochCommit h bs) s (fun t => t = v) := by
  refine ⟨_, congrArg Host.Outcome.next (ht.acts _), if_pos ?_⟩
  rcases hno with hno | hno <;> simp [hno]

/-- A broadcast commit waits for its APPLY. -/
theorem rxEpochCommit_waits (ht : Taken s v h bs 0x06 32) (hst : v.ringSt ≠ 3)
    (hnew : BitVec.ofNat 32 (leAt bs 16 4) ≠ v.reg Reg.RNG_EPOCH) (hdnode : h.dnode = 0) :
    Completes (.rxEpochCommit h bs) s (fun t => t.ring.apply = some (BitVec.ofNat 64 (leAt bs 24 8)) ∧
      t.ring.pendCrc = some (BitVec.ofNat 32 (leAt bs 20 4)) ∧ t.reg Reg.RNG_EPOCH_PEND = BitVec.ofNat 32 (leAt bs 16 4) ∧
      t.reg Reg.RNG_EPOCH = v.reg Reg.RNG_EPOCH) := by
  have hexec : exec (.rxEpochCommit h bs) s = .next (checkHave ((startPending v (BitVec.ofNat 32 (leAt bs 16 4)) 0).modRing fun r =>
      { r with pendCrc := some (BitVec.ofNat 32 (leAt bs 20 4)), apply := some (BitVec.ofNat 64 (leAt bs 24 8)) })) :=
    congrArg Host.Outcome.next ((ht.acts _).trans ((if_neg (by simp [hst, hnew])).trans (if_pos hdnode)))
  refine ⟨_, hexec, rfl, rfl, ?_, ?_⟩
  · rw [reg_checkHave _ (by decide), reg_modRing, reg_startPending_pend]
  · rw [reg_checkHave _ (by decide), reg_modRing, reg_startPending v _ _ (by decide) (by decide)]

theorem rxEpochReq_served (ht : Taken s v h bs 0x07 28) {data : List Byte} (hst : v.ringSt = 3) (hnone : v.reg Reg.RNG_EPOCH_PEND = 0)
    (he : BitVec.ofNat 32 (leAt bs 16 4) = v.reg Reg.RNG_EPOCH) (hne : v.reg Reg.RNG_EPOCH ≠ 0)
    (hn : 0 < min (leAt bs 24 4) (v.ring.total - leAt bs 20 4))
    (hread : epochRead v v.actBank (leAt bs 20 4) (min (leAt bs 24 4) (v.ring.total - leAt bs 20 4)) = some data) :
    exec (.rxEpochReq h bs) s = .next (sendEpoch v (v.reg Reg.RNG_EPOCH) v.ring.total (leAt bs 20 4) data
      (fun s b => (sendUnicast s h.snode 0x05 b).2)) := by
  refine congrArg Host.Outcome.next ((ht.acts _).trans ?_)
  extract_lets e pend total off n
  have hpend : pend = false := by
    have hother : e ≠ v.reg Reg.RNG_EPOCH_PEND := fun hpend => hne (he.symm.trans (hpend.trans hnone))
    rw [show pend = (e == v.reg Reg.RNG_EPOCH_PEND && e != 0) from rfl, beq_eq_false_iff_ne.mpr hother, Bool.false_and]
  have htotal : total = v.ring.total := if_neg (by rw [hpend]; decide)
  have hcount : n = min (leAt bs 24 4) (v.ring.total - leAt bs 20 4) := by rw [← htotal]
  have hserve : ¬ (v.ringSt != 3 || !(pend || e == v.reg Reg.RNG_EPOCH) || n == 0) = true := by
    rw [hcount]
    simp [hst, show e = v.reg Reg.RNG_EPOCH from he]
    omega
  rw [if_neg hserve, if_neg (by rw [hpend]; decide), hcount, show epochRead v v.actBank off _ = some data from hread, htotal,
    show e = v.reg Reg.RNG_EPOCH from he]

theorem rxEpochReq_ignored (ht : Taken s v h bs 0x07 28) (hst : v.ringSt ≠ 3) : Completes (.rxEpochReq h bs) s (fun t => t = v) :=
  ⟨_, congrArg Host.Outcome.next (ht.acts _), if_pos (by simp [hst])⟩

/-! ### Ring snapshots, marks, samples and mailbox segments (R203, R394 to R397) -/

theorem exec_rxRingSnap (ht : Taken s v h bs 0x13 28) : exec (.rxRingSnap h bs) s = .next (takeSnap v (BitVec.ofNat 64 (leAt bs 16 8))) :=
  congrArg Host.Outcome.next (ht.acts _)

theorem exec_rxRmark (ht : Taken s v h bs 0x14 35) : exec (.rxRmark h bs) s = .next (takeRmark v h.snode
    (BitVec.ofNat 64 (leAt bs 16 8)) (BitVec.ofNat 64 (leAt bs 24 8)) (leAt bs 33 1)) :=
  congrArg Host.Outcome.next (ht.acts _)

/-- Eight bytes of a payload are a 64-bit value. -/
theorem toNat_leAt (bs : List Byte) (off : Nat) : (BitVec.ofNat 64 (leAt bs off 8)).toNat = leAt bs off 8 := by
  rw [BitVec.toNat_ofNat]
  refine Nat.mod_eq_of_lt ?_
  calc leAt bs off 8 < 256 ^ ((bs.drop off).take 8).length := leNat_lt _
    _ ≤ 256 ^ 8 := Nat.pow_le_pow_right (by decide) (List.length_take_le 8 _)

theorem rxRmark_waits (ht : Taken s v h bs 0x14 35) (hadm : v.admitted = true) (hon : v.bit (Reg.RNG_RMKi 0) 0 = true)
    (hany : v.fld (Reg.RNG_RMKi 0) 24 13 = 0) (htag : v.fld (Reg.RNG_RMKi 0) 12 5 = leAt bs 33 1)
    (hdue : v.ringTime.toNat < leAt bs 24 8 + v.fld (Reg.RNG_RMKi 0) 31 25 * 10000) :
    exec (.rxRmark h bs) s = .next { v with ring := { v.ring with rmarks := v.ring.rmarks ++ [(0, BitVec.ofNat 64 (leAt bs 16 8), h.snode,
      BitVec.ofNat 64 (leAt bs 24 8 + v.fld (Reg.RNG_RMKi 0) 31 25 * 10000))] } } := by
  rw [exec_rxRmark ht, takeRmark_waits hadm hon hany htag (by rw [toNat_leAt]; exact hdue), toNat_leAt]
  rfl

theorem rxPsample_excluded (ht : Taken s v h bs 0x15 40) (hex : leAt bs 1 1 % 2 = 1) : Completes (.rxPsample h bs) s (fun t => t = v) :=
  ⟨_, congrArg Host.Outcome.next (ht.acts _), if_pos (by simp [hex])⟩

theorem rxPsample_sampled (ht : Taken s v h bs 0x15 40) (n : Nat) (hn : leAt bs 28 1 = n) (hweb : n < 4) (hadm : leAt bs 1 1 % 2 = 0)
    (hsrc : v.webSrc n = 2) (hnode : fbits (v.act (Reg.POSn_CFG n)) 27 16 = h.snode) : Completes (.rxPsample h bs) s (fun t =>
      t = { v with pos := t.pos } ∧ (t.web n).sample = some (BitVec.ofNat 64 (leAt bs 16 8), BitVec.ofNat 32 (leAt bs 24 4),
        leAt bs 29 1 % 4, BitVec.ofNat 64 (leAt bs 32 8))) := by
  subst hn
  have hexec : exec (.rxPsample h bs) s = .next (v.setWeb (leAt bs 28 1) { v.web (leAt bs 28 1) with
      sample := some (BitVec.ofNat 64 (leAt bs 16 8), BitVec.ofNat 32 (leAt bs 24 4), leAt bs 29 1 % 4, BitVec.ofNat 64 (leAt bs 32 8)) }) :=
    congrArg Host.Outcome.next ((ht.acts _).trans ((if_neg (by simp [hadm]; omega)).trans (if_pos (by simp [hsrc, hnode]))))
  exact ⟨_, hexec, rfl, by rw [State.web_setWeb_same]⟩

/-- The message of which the segment `bs` is all that has come. -/
def firstSegment (h : RxHdr) (bs : List Byte) : MailIn :=
  { snode := h.snode, sdom := leAt bs 16 1, ddom := leAt bs 17 1, msgid := BitVec.ofNat 32 (leAt bs 20 4), nseg := leAt bs 19 1,
    mlen := leAt bs 24 2, parts := [(leAt bs 18 1, bs.drop 32)] }

/-- Of several numbers, one segment alone is not all. -/
theorem range_all_eq_false {seg nseg : Nat} (h : 1 < nseg) : ((List.range nseg).all fun i => seg == i) = false := by
  refine List.all_eq_false.mpr ?_
  by_cases h0 : seg = 0
  · exact ⟨1, List.mem_range.mpr h, by simp [h0]⟩
  · exact ⟨0, List.mem_range.mpr (by omega), by simp [h0]⟩

/-- The first of several segments of a message waits for the others. -/
theorem rxMbx_waits (ht : Taken s v h bs 0x20 33) (hmail : v.ring.mail = []) (hdom : leAt bs 17 1 < 8) (hseg : leAt bs 18 1 < leAt bs 19 1)
    (hmany : 1 < leAt bs 19 1) (hnseg : leAt bs 19 1 ≤ 16) (hlen : leAt bs 24 2 ≤ 3584) :
    exec (.rxMbx h bs) s = .next (v.modRing fun r => { r with mail := [firstSegment h bs] }) := by
  refine congrArg Host.Outcome.next ((ht.acts _).trans ?_)
  generalize hone : (v.modRing fun r => { r with mail := [firstSegment h bs] }) = waiting
  extract_lets sdom ddom seg nseg id mlen first others m
  have hfits : ¬ (decide (7 < ddom) || decide (nseg ≤ seg) || decide (16 < nseg) || decide (3584 < mlen)) = true := by
    simp only [Bool.or_eq_true, decide_eq_true_eq, not_or]
    exact ⟨⟨⟨Nat.not_lt.mpr (Nat.le_of_lt_succ hdom), Nat.not_le.mpr hseg⟩, Nat.not_lt.mpr hnseg⟩, Nat.not_lt.mpr hlen⟩
  have hfirst : first = { snode := h.snode, sdom := sdom, ddom := ddom, msgid := id, nseg := nseg, mlen := mlen, parts := [] } := by
    unfold first
    rw [hmail]
    rfl
  have hothers : others = [] := by
    unfold others
    rw [hmail]
    rfl
  have hm : m = firstSegment h bs := by
    unfold m
    rw [hfirst]
    rfl
  have hpart : ¬ ((List.range m.nseg).all fun i => m.parts.any fun x => x.1 == i) = true := by
    rw [hm, show (firstSegment h bs).nseg = nseg from rfl]
    simp only [firstSegment, List.any_cons, List.any_nil, Bool.or_false]
    rw [range_all_eq_false hmany]
    decide
  rw [if_neg hfits, if_neg hpart, hothers, hm, ← hone]
  rfl

end
end Sys2Proof.Claims
end

section
/-! PROOFS. The statement about the ring's membership, epochs and services, continued: the keeper's commands and the ring's times
(R390 to R395), the mailboxes (R397), and O52. -/

namespace Sys2Proof.Machine

section
variable {s : State}

/-- Queueing a broadcast leaves ring time. -/
theorem sendBroadcast_ringTime (s : State) (ports : List Nat) (sub : Nat) (body : List Byte) :
    (sendBroadcast s ports sub body).ringTime = s.ringTime := by
  refine each_keeps (R := fun s t => t.ringTime = s.ringTime) (fun _ => rfl) (fun _ _ _ h k => k.trans h) (fun u p => ?_) ports
    (nextBseq s).2
  unfold enqueue
  split_ifs <;> rfl

/-- The keeper's state in which it has taken the next epoch, of no content. -/
def State.distributingNone (s : State) : State :=
  (((s.setReg Reg.RNG_EPOCH_PEND (s.reg Reg.RNG_EPOCH + 1)).setFld Reg.RNG_EPOCH_STATUS 4 2 1).setBit Reg.RNG_EPOCH_STATUS 1
    true).modRing fun r => { r with distributing := true, pendTotal := 0, pendRanges := [(0, 0)], pendCrc := none, apply := none }

theorem reg_distributingNone {a : Nat} (h : a ≠ Reg.RNG_EPOCH_STATUS) :
    s.distributingNone.reg a = (s.setReg Reg.RNG_EPOCH_PEND (s.reg Reg.RNG_EPOCH + 1)).reg a := by
  rw [State.distributingNone, reg_modRing, State.reg_setBit_ne _ h, State.reg_setFld_ne _ h]

theorem distributingNone_mem : s.distributingNone.mem = s.mem := by
  rw [State.distributingNone, modRing_mem, State.setBit, State.setReg_mem, State.setFld, State.setReg_mem, State.setReg_mem]

theorem epochDistribute_none (hst : s.ringSt = 3) (hidle : s.ring.distributing = false) (happly : s.ring.apply = none)
    (hlen : s.fld Reg.RNG_EPOCH_LEN 16 0 = 0) : epochDistribute s = tryCommit s.distributingNone := by
  rw [epochDistribute, if_neg (by simp [hst]), if_neg (by simp [hidle, happly]), hlen]
  rfl

theorem epochDistribute_busy (hst : s.ringSt = 3) (hbusy : s.ring.distributing = true) :
    epochDistribute s = s.setFld Reg.RNG_EPOCH_STATUS 4 2 6 := by
  rw [epochDistribute, if_neg (by simp [hst]), if_pos (by simp [hbusy])]

theorem epochDistribute_noKeeper (hst : s.ringSt ≠ 3) : epochDistribute s = s.setFld Reg.RNG_EPOCH_STATUS 4 2 5 := by
  rw [epochDistribute, if_pos (by simp [hst])]

/-- DISTRIBUTE reports in the epoch's STATUS. -/
theorem distribute_reports (s : State) {v : Nat} (hv : v < 8) : RegsOnly s (s.setFld Reg.RNG_EPOCH_STATUS 4 2 v) ∧
    (s.setFld Reg.RNG_EPOCH_STATUS 4 2 v).fld Reg.RNG_EPOCH_STATUS 4 2 = v :=
  ⟨(RegsOnly.refl s).setReg _ _, (State.fld_setFld_same s _ _ _ _ (by decide) (by decide)).trans (Nat.mod_eq_of_lt hv)⟩

/-- The action BCAST of a filter adds its tag to those of its web's next broadcast. -/
theorem rmarkAct_broadcasts {i : Nat} (h : s.fld (Reg.RNG_RMKi i) 2 1 = 2) (pos : W64) (n : Nat) :
    (rmarkAct s i pos n).ring = s.ring ∧ sget [] (rmarkAct s i pos n).pos.nextTags (s.fld (Reg.RNG_RMKi i) 4 3) =
      sget [] s.pos.nextTags (s.fld (Reg.RNG_RMKi i) 4 3) ++ [BitVec.ofNat 8 (s.fld (Reg.RNG_RMKi i) 12 5)] := by
  rw [rmarkAct, show fbits (s.reg (Reg.RNG_RMKi i)) 2 1 = 2 from h]
  exact ⟨rfl, sget_smod_same [] s.pos.nextTags (s.fld (Reg.RNG_RMKi i) 4 3)
    fun l => l ++ [BitVec.ofNat 8 (s.fld (Reg.RNG_RMKi i) 12 5)]⟩

/-! ### Mailbox messages sent (R397, R399) -/

/-- The RESULT of a mailbox page. -/
def State.mailResult (s : State) (d r : Nat) : State := s.setReg (Reg.RNG_MBd_TX_STATUS d) (BitVec.ofNat 32 (2 * r))

variable {d : Nat}

theorem mailSend_length (h : s.fld (Reg.RNG_MBd_TX_DEST d) 26 15 = 0 ∨ 3584 < s.fld (Reg.RNG_MBd_TX_DEST d) 26 15) :
    mailSend s d = s.mailResult d 3 := if_pos h

theorem mailSend_unread (hpos : 0 < s.fld (Reg.RNG_MBd_TX_DEST d) 26 15) (hlen : s.fld (Reg.RNG_MBd_TX_DEST d) 26 15 ≤ 3584)
    (hread : s.domRead d (s.ptr (Reg.RNG_MBd_TX_LO d)).1 (s.fld (Reg.RNG_MBd_TX_DEST d) 26 15) (s.ptr (Reg.RNG_MBd_TX_LO d)).2 = none) :
    mailSend s d = s.mailResult d 1 := by
  rw [State.fld] at hpos hlen hread
  rw [mailSend, if_neg (by omega)]
  dsimp only
  rw [hread]
  rfl

theorem mailSend_unrouted (hpos : 0 < s.fld (Reg.RNG_MBd_TX_DEST d) 26 15) (hlen : s.fld (Reg.RNG_MBd_TX_DEST d) 26 15 ≤ 3584)
    {bs : List Byte} (hread : s.domRead d (s.ptr (Reg.RNG_MBd_TX_LO d)).1 (s.fld (Reg.RNG_MBd_TX_DEST d) 26 15)
      (s.ptr (Reg.RNG_MBd_TX_LO d)).2 = some bs) (hnode : s.fld (Reg.RNG_MBd_TX_DEST d) 11 0 ≠ 0)
    (hroute : sget 0 s.ring.routes (s.fld (Reg.RNG_MBd_TX_DEST d) 11 0) = 0) :
    mailSend s d = (s.count Reg.RNG_NOROUTE 1).mailResult d 2 := by
  rw [State.fld] at hpos hlen hread hnode hroute
  rw [mailSend, if_neg (by omega)]
  dsimp only
  rw [hread]
  dsimp only
  rw [if_pos (by simp [hnode, hroute])]
  rfl

theorem mailResult_status (s : State) (d r : Nat) : (s.mailResult d r).reg (Reg.RNG_MBd_TX_STATUS d) = BitVec.ofNat 32 (2 * r) :=
  State.reg_setReg_same s _ _

/-- The counter of messages without a route lies apart from the pages. -/
theorem noroute_ne_txStatus (d : Nat) : Reg.RNG_NOROUTE ≠ Reg.RNG_MBd_TX_STATUS d := by
  simp only [Reg.RNG_NOROUTE, Reg.RNG_MBd_TX_STATUS]
  omega

theorem exec_mailboxSend_refused {who : Requester} (h : s.whoIs who d = false) :
    exec (.mailboxSend who d) s = .next { s with out := s.out ++ [.busError who] } :=
  congrArg Host.Outcome.next (respond_denied (by rw [h, Bool.and_false]; decide) s _)

theorem exec_mailboxSend {who : Requester} (h : s.whoIs who d = true) (hctl : s.controlAllowed who (Reg.RNG_MBd_TX_CMD d) true = true) :
    exec (.mailboxSend who d) s = .next (mailSend s d) :=
  congrArg Host.Outcome.next (respond_allowed (by rw [h, hctl]; decide) s _)

end
end Sys2Proof.Machine

namespace Sys2Proof.Claims
open Sys2Proof.Machine

section
variable {s : State}

/-! ### The keeper's epoch (R390, R391, R399) -/

theorem epochDistribute_takes (hst : s.ringSt = 3) (hidle : s.ring.distributing = false) (happly : s.ring.apply = none)
    (hlen : s.fld Reg.RNG_EPOCH_LEN 16 0 = 0) : Completes .epochDistribute s (fun t =>
      t.reg Reg.RNG_EPOCH_PEND = s.reg Reg.RNG_EPOCH + 1 ∧ t.reg Reg.RNG_EPOCH = s.reg Reg.RNG_EPOCH ∧ t.mem = s.mem) := by
  obtain ⟨hmem, -, hreg⟩ := tryCommit_keeps s.distributingNone
  have hexec : exec .epochDistribute s = .next (epochDistribute s) := rfl
  rw [Completes, hexec, epochDistribute_none hst hidle happly hlen]
  refine ⟨_, rfl, ?_, ?_, hmem.trans distributingNone_mem⟩
  · rw [hreg _ (by decide) (by decide) (by decide), reg_distributingNone (by decide), State.reg_setReg_same]
  · rw [hreg _ (by decide) (by decide) (by decide), reg_distributingNone (by decide), State.reg_setReg_ne _ (by decide)]

theorem epochAbort_ends (hst : s.ringSt = 3) (hbusy : s.ring.distributing = true) : Completes .epochAbort s (fun t =>
    t.reg Reg.RNG_EPOCH_PEND = 0 ∧ t.ring.distributing = false ∧ t.fld Reg.RNG_EPOCH_STATUS 4 2 = 4 ∧
      t.reg Reg.RNG_EPOCH = s.reg Reg.RNG_EPOCH) := by
  have hkept : RingKept ((dropPending s).setFld Reg.RNG_EPOCH_STATUS 4 2 4)
    (raise ((dropPending s).setFld Reg.RNG_EPOCH_STATUS 4 2 4) 15 0 false) := (RingKept.refl _).raise (by decide)
  refine ⟨_, congrArg Host.Outcome.next (if_pos (by simp [hst, hbusy])), ?_, ?_, ?_, ?_⟩
  · rw [hkept.reg _ (by decide) (by decide), State.reg_setFld_ne _ (by decide), reg_dropPending_pend]
  · rw [hkept.ring]
    rfl
  · exact (hkept.fld (by decide) (by decide)).trans (State.fld_setFld_same _ _ _ _ _ (by decide) (by decide))
  · rw [hkept.reg _ (by decide) (by decide), State.reg_setFld_ne _ (by decide), reg_dropPending _ (by decide) (by decide)]

theorem epochCommitTimeout_commits (hst : s.ringSt = 3) (hbusy : s.ring.distributing = true) {crc : W32}
    (hcrc : epochCrc s (!s.actBank) s.ring.pendTotal = some crc) : Completes .epochCommitTimeout s (fun t =>
      t.ring.apply = some (BitVec.ofNat 64 (s.ringTime.toNat + s.fld Reg.RNG_LOSS 31 24 * 100000)) ∧ t.ring.pendCrc = some crc ∧
        t.fld Reg.RNG_EPOCH_STATUS 4 2 = 2) := by
  refine ⟨_, congrArg Host.Outcome.next ((if_pos (by simp [hst, hbusy])).trans (sendCommit_some hcrc)), rfl, rfl, ?_⟩
  rw [fld_modRing]
  exact State.fld_setFld_same _ _ _ _ _ (by decide) (by decide)

theorem epochApply_switched {x : W64} (h : s.ring.apply = some x) (hheld : s.bit Reg.RNG_EPOCH_STATUS 1 = true) :
    Completes .epochApply s (fun t => t.reg Reg.RNG_EPOCH = s.reg Reg.RNG_EPOCH_PEND ∧ t.reg Reg.RNG_EPOCH_PEND = 0 ∧
      t.actBank = (!s.actBank) ∧ t.fld Reg.RNG_EPOCH_STATUS 4 2 = 3 ∧ t.ring.apply = none) := by
  have hexec : exec .epochApply s = execEpochApply s := rfl
  rw [Completes, hexec, execEpochApply, h]
  exact ⟨_, congrArg Host.Outcome.next (if_pos hheld), applyEpoch_switches _⟩

theorem epochApply_dropped {x : W64} (h : s.ring.apply = some x) (hmissing : s.bit Reg.RNG_EPOCH_STATUS 1 = false) :
    Completes .epochApply s (fun t => t.reg Reg.RNG_EPOCH = s.reg Reg.RNG_EPOCH ∧ t.reg Reg.RNG_EPOCH_PEND = 0 ∧
      t.actBank = s.actBank ∧ t.ring.apply = none ∧ t.ringTime = BitVec.ofNat 64 (max s.ringTime.toNat x.toNat)) := by
  have hexec : exec .epochApply s = execEpochApply s := rfl
  rw [Completes, hexec, execEpochApply, h]
  have hno : ¬ ({ s with ringTime := BitVec.ofNat 64 (max s.ringTime.toNat x.toNat) } : State).bit Reg.RNG_EPOCH_STATUS 1 = true :=
    fun hheld => Bool.noConfusion (hmissing.symm.trans hheld)
  exact ⟨_, congrArg Host.Outcome.next (if_neg hno), reg_dropPending _ (by decide) (by decide), reg_dropPending_pend _,
    bit_dropPending _ (by decide), rfl, rfl⟩

/-! ### Ring snapshots, marks and members (R393 to R395) -/

theorem ringSnapSend_sends (hst : s.ringSt ≠ 0) : Completes .ringSnapSend s (fun t => t.ring.snapId = s.ring.snapId + 1 ∧ t.mem = s.mem ∧
    (s.admitted = true → s.ringTime.toNat < (s.reg64 Reg.RNG_SNAP_TIME_LO).toNat →
      t.ring.snaps = s.ring.snaps ++ [s.reg64 Reg.RNG_SNAP_TIME_LO])) := by
  obtain ⟨u, hu, hkept, hmem, htime⟩ : ∃ u, ringSnapSend s = takeSnap u (s.reg64 Reg.RNG_SNAP_TIME_LO) ∧
      RingKept (s.modRing fun r => { r with snapId := s.ring.snapId + 1, bseq := nextSeq s.ring.bseq }) u ∧ u.mem = s.mem ∧
        u.ringTime = s.ringTime :=
    ⟨_, if_neg hst, sendBroadcast_kept (s.modRing fun r => { r with snapId := s.ring.snapId + 1 }) _ _ _, sendBroadcast_mem _ _ _ _,
      sendBroadcast_ringTime _ _ _ _⟩
  obtain ⟨hmem', hid⟩ := takeSnap_keeps (s := u) (s.reg64 Reg.RNG_SNAP_TIME_LO)
  refine ⟨_, congrArg Host.Outcome.next hu, ?_, hmem'.trans hmem, fun hadm hearly => ?_⟩
  · rw [hid, hkept.ring]
    rfl
  · rw [takeSnap_early (hkept.admitted.trans hadm) (by rw [htime]; exact hearly), modRing_ring, hkept.ring]
    rfl

theorem ringSnapTime_triggers {x : W64} (h : s.ring.snaps = [x]) : exec .ringSnapTime s =
    let u : State := { s with ringTime := BitVec.ofNat 64 (max s.ringTime.toNat x.toNat), ring := { s.ring with snaps := [] } }
    .next (if s.admitted then snapTrigger u .ring x else u) := by
  have hexec : exec .ringSnapTime s = execRingSnapTime s := rfl
  rw [hexec, execRingSnapTime, h]
  simp only [List.foldl_nil, State.modRing, h, List.erase_cons_head]
  rfl

theorem exec_rmarkAction_one {i n : Nat} {pos x : W64} (h : s.ring.rmarks = [(i, pos, n, x)]) : exec .rmarkAction s =
    let u : State := { s with ringTime := BitVec.ofNat 64 (max s.ringTime.toNat x.toNat), ring := { s.ring with rmarks := [] } }
    .next (if s.admitted then rmarkAct u i pos n else u) := by
  have hexec : exec .rmarkAction s = execRmarkAction s := rfl
  rw [hexec, execRmarkAction, h]
  simp only [List.foldl_nil, State.modRing, h, List.erase_cons_head]
  rfl

theorem rmarkAction_broadcasts {i n : Nat} {pos x : W64} (h : s.ring.rmarks = [(i, pos, n, x)]) (hadm : s.admitted = true)
    (hact : s.fld (Reg.RNG_RMKi i) 2 1 = 2) : Completes .rmarkAction s (fun t => t.ring.rmarks = [] ∧
      sget [] t.pos.nextTags (s.fld (Reg.RNG_RMKi i) 4 3) =
        sget [] s.pos.nextTags (s.fld (Reg.RNG_RMKi i) 4 3) ++ [BitVec.ofNat 8 (s.fld (Reg.RNG_RMKi i) 12 5)]) := by
  obtain ⟨u, hexec, hring, hpos, hregs⟩ : ∃ u : State, exec .rmarkAction s = .next (rmarkAct u i pos n) ∧ u.ring.rmarks = [] ∧
      u.pos = s.pos ∧ u.regs = s.regs :=
    ⟨_, (exec_rmarkAction_one h).trans (congrArg Host.Outcome.next (if_pos hadm)), rfl, rfl, rfl⟩
  have hfld : ∀ hi lo, u.fld (Reg.RNG_RMKi i) hi lo = s.fld (Reg.RNG_RMKi i) hi lo := fun hi lo => by
    rw [State.fld, State.reg, hregs, ← State.reg, ← State.fld]
  obtain ⟨hkept, htags⟩ := rmarkAct_broadcasts ((hfld 2 1).trans hact) pos n
  refine ⟨_, hexec, by rw [hkept, hring], ?_⟩
  rwa [hfld, hfld, hpos] at htags

theorem mtabEntryMissing_unchanged {n : Nat} (h : sfind n s.ring.members = none ∨ s.ringSt ≠ 3) :
    exec (.mtabEntryMissing n) s = .next s := by
  have hexec : exec (.mtabEntryMissing n) s = execMtabEntryMissing n s := rfl
  rw [hexec, execMtabEntryMissing]
  split
  next m hm =>
    rcases h with h | h
    · rw [h] at hm
      cases hm
    · rw [if_neg h]
  next => rfl

theorem mtabEntryMissing_marks {n d : Nat} {m : W32 × Bool × Bool} {w : State} (hm : sfind n s.ring.members = some m)
    (hst : s.ringSt = 3) (hrole : s.roleDomain 1 = some d) (htab : (s.ptr Reg.RNG_MTAB_LO).1 ≠ 0)
    (hwrite : s.domWrite d ((s.ptr Reg.RNG_MTAB_LO).1 + 32 * n + 21) (s.ptr Reg.RNG_MTAB_LO).2 (leBytes 1 (3 + 4 * b2n m.2.2)) =
      some w) : exec (.mtabEntryMissing n) s = .next w := by
  have hexec : exec (.mtabEntryMissing n) s = execMtabEntryMissing n s := rfl
  rw [hexec, execMtabEntryMissing, hm]
  dsimp only
  rw [if_pos hst, mtabWrite_some s hrole, if_neg htab, hwrite, Option.getD_some]

/-! ### Mailboxes (R397, R399) -/

theorem mailboxTimeout_drops {a b d : Nat} {id : W32} (h : s.ring.mail.any (fun m => m.of a b d id) = true) :
    Completes (.mailboxTimeout a b d id) s (fun t => Counted s t (Reg.RNG_MBd_LOST d) ∧
      t.ring.mail = s.ring.mail.filter (fun m => !m.of a b d id)) :=
  ⟨_, congrArg Host.Outcome.next (if_pos h), State.reg_setReg_same _ _ _, rfl⟩

theorem mailboxSend_unrouted {who : Requester} {d : Nat} (hwho : s.whoIs who d = true)
    (hctl : s.controlAllowed who (Reg.RNG_MBd_TX_CMD d) true = true) (hpos : 0 < s.fld (Reg.RNG_MBd_TX_DEST d) 26 15)
    (hlen : s.fld (Reg.RNG_MBd_TX_DEST d) 26 15 ≤ 3584) {bs : List Byte}
    (hread : s.domRead d (s.ptr (Reg.RNG_MBd_TX_LO d)).1 (s.fld (Reg.RNG_MBd_TX_DEST d) 26 15) (s.ptr (Reg.RNG_MBd_TX_LO d)).2 = some bs)
    (hnode : s.fld (Reg.RNG_MBd_TX_DEST d) 11 0 ≠ 0) (hroute : sget 0 s.ring.routes (s.fld (Reg.RNG_MBd_TX_DEST d) 11 0) = 0) :
    Completes (.mailboxSend who d) s (fun t => (t.reg (Reg.RNG_MBd_TX_STATUS d) = BitVec.ofNat 32 (2 * 2) ∧ t.mem = s.mem ∧
      t.links = s.links) ∧ Counted s t Reg.RNG_NOROUTE) := by
  refine ⟨_, (exec_mailboxSend hwho hctl).trans (congrArg _ (mailSend_unrouted hpos hlen hread hnode hroute)),
    ⟨mailResult_status _ _ _, rfl, rfl⟩, ?_⟩
  rw [Counted, State.mailResult, State.reg_setReg_ne _ (noroute_ne_txStatus d), State.count, State.reg_setReg_same]

end

/-- Settles O52: each frame from the state in which it has been accepted and forwarded, each command by the ring layer's state. How
epochs are distributed and put in force (log 67), what the table, snapshots, marks and mailboxes keep (log 66, 68), and that a
command that does not apply changes nothing (log 4), are the model's choices. -/
theorem ringMembershipEpochsAndServicesFollowTheirRules : Obligations.RingMembershipEpochsAndServicesFollowTheirRules := by
  refine ⟨fun h bs s v => ⟨rxHeartbeat_member,
      fun ht => ⟨rxEpochData_ignored ht, fun d w => rxEpochData_stored ht⟩,
      fun ht => ⟨rxEpochCommit_ignored ht, rxEpochCommit_waits ht⟩,
      fun ht => ⟨rxEpochReq_ignored ht, fun data hst hnone he hne hn hread =>
        ⟨_, rxEpochReq_served ht hst hnone he hne hn hread, rfl⟩⟩,
      fun ht => ⟨fun hadm => ⟨v, (exec_rxRingSnap ht).trans (congrArg _ (takeSnap_excluded hadm _)), rfl⟩,
        fun hadm hlate => ⟨_, (exec_rxRingSnap ht).trans (congrArg _ (takeSnap_late hadm hlate)), rfl⟩,
        fun hadm hearly => ⟨_, (exec_rxRingSnap ht).trans (congrArg _ (takeSnap_early hadm hearly)), rfl⟩⟩,
      fun ht => ⟨fun hadm => ⟨v, (exec_rxRmark ht).trans (congrArg _ (takeRmark_excluded hadm _ _ _ _)), rfl⟩,
        fun hadm hoff => ⟨v, (exec_rxRmark ht).trans (congrArg _ (takeRmark_unmatched hadm hoff _ _ _ _)), rfl⟩,
        fun hadm hon hany htag hdue => ⟨_, rxRmark_waits ht hadm hon hany htag hdue, rfl⟩⟩,
      fun ht => ⟨rxPsample_excluded ht, rxPsample_sampled ht⟩,
      fun ht hmail hdom hseg hmany hnseg hlen => ⟨_, rxMbx_waits ht hmail hdom hseg hmany hnseg hlen, rfl⟩⟩,
    fun s => ⟨fun hst => ⟨⟨_, congrArg Host.Outcome.next (epochDistribute_noKeeper hst), distribute_reports s (by decide)⟩,
        ⟨s, congrArg _ (if_neg (by simp [hst])), rfl⟩, ⟨s, congrArg _ (if_neg (by simp [hst])), rfl⟩⟩,
      fun hst hbusy => ⟨⟨_, congrArg Host.Outcome.next (epochDistribute_busy hst hbusy), distribute_reports s (by decide)⟩,
        fun _ => epochAbort_ends hst hbusy, fun crc => epochCommitTimeout_commits hst hbusy⟩,
      epochDistribute_takes, fun hnone => ⟨s, ?noApply, rfl⟩,
      fun x happly => ⟨epochApply_switched happly, epochApply_dropped happly⟩,
      fun hst => ⟨s, congrArg _ (if_pos hst), rfl⟩, ringSnapSend_sends, fun hnone => ⟨s, ?noSnap, rfl⟩,
      fun x hone => ⟨_, ringSnapTime_triggers hone, _, rfl, rfl⟩, fun hnone => ⟨s, ?noMark, rfl⟩,
      fun i n pos x _ hone => ⟨fun hadm => ⟨_, (exec_rmarkAction_one hone).trans (congrArg _ (if_neg (by rw [hadm]; decide))), rfl, rfl⟩,
        rmarkAction_broadcasts hone⟩,
      fun n => ⟨fun hno => ⟨s, mtabEntryMissing_unchanged hno, rfl⟩,
        fun d m w hm hst hrole htab hwrite => ⟨w, mtabEntryMissing_marks hm hst hrole htab hwrite, rfl⟩⟩,
      fun a b d id _ => ⟨fun hnone => ⟨s, congrArg _ (if_neg (by rw [hnone]; decide)), rfl⟩, mailboxTimeout_drops⟩,
      fun who d _ => ⟨fun hwho => ⟨_, exec_mailboxSend_refused hwho, rfl⟩, fun hwho hctl =>
        ⟨fun hlen => ⟨_, (exec_mailboxSend hwho hctl).trans (congrArg _ (mailSend_length hlen)), mailResult_status _ _ _, rfl, rfl⟩,
          fun hpos hlen hread => ⟨_, (exec_mailboxSend hwho hctl).trans (congrArg _ (mailSend_unread hpos hlen hread)),
            mailResult_status _ _ _, rfl, rfl⟩,
          fun bs hpos hlen => mailboxSend_unrouted hwho hctl hpos hlen⟩⟩⟩⟩
  case noApply => exact (show exec .epochApply s = execEpochApply s from rfl).trans (by rw [execEpochApply, hnone])
  case noSnap => exact (show exec .ringSnapTime s = execRingSnapTime s from rfl).trans (by rw [execRingSnapTime, hnone])
  case noMark => exact (show exec .rmarkAction s = execRmarkAction s from rfl).trans (by rw [execRmarkAction, hnone])

end Sys2Proof.Claims
end
